-- ==== Sys2Proof/Word.lean ====
section
/-! DEFINITION. The word types of the device and their plainest arithmetic. -/

namespace Sys2Proof

/-- A register word: registers are 32 bits wide (R9). -/
abbrev Word := BitVec 32

/-- A byte of memory, of a frame or of a FIFO. -/
abbrev Byte := BitVec 8

/-- A position in encoder ticks: a 48-bit modular counter (R68, R69). -/
abbrev Pos := BitVec 48

/-- A 64-bit word: a mailbox entry (R78) or a packet word (R574). -/
abbrev Dword := BitVec 64

end Sys2Proof
end

