-- ==== Sys2Proof/Syntax.lean ====
section
/-! DEFINITION. The commands of the block: one constructor for each row of the opcode table, with the operands that
the rules of the row name. `ini` is the initiator of a register access (R101: 0 to 3 application cores, 4 to 11 drovers,
12 steward, 13 steward port, 14 boundary scan). The table gives the operands no bits (assumption 9). -/

namespace Sys2Proof

/-- The commands of the Rirrako, in the order of the opcode table. -/
inductive Instr where
  /-- REGISTER_WRITE (R10): initiator `ini` writes `val` to the register at `addr`. -/
  | registerWrite (ini addr : Nat) (val : Word)
  /-- COUNTER_CLR (R72): 1 is written to the CLR field of the saturating counter at `addr`. -/
  | counterClr (ini addr : Nat)
  /-- COMMIT_GO (R60): 1 is written to GO of the COMMIT register at `addr`. -/
  | commitGo (ini addr : Nat)
  /-- WIDE_LOW_READ (R75): the low word at `addr` of a wide counter is read. -/
  | wideLowRead (ini addr : Nat)
  /-- MILE_ENTRY_READ (R770): word +0x00 of milestone entry `e` is read. -/
  | mileEntryRead (ini e : Nat)
  /-- FAULT_ENTRY_READ (R930): word 0 of fault-log entry `i` is read. -/
  | faultEntryRead (ini i : Nat)
  /-- PTP_TS_LO_READ (R854): ETH.PTP_TS_LO of FIFO `dir` (0 receive, 1 transmit) of `port` is read. -/
  | ptpTsLoRead (ini port dir : Nat)
  /-- PTP_TS_ID_READ (R854): ETH.PTP_TS_ID of FIFO `dir` of `port` is read. -/
  | ptpTsIdRead (ini port dir : Nat)
  /-- MBOX_DATA_HI_READ (R83): MBOX.DATA_HI[n] is read. -/
  | mboxDataHiRead (ini n : Nat)
  /-- DROP_PKT (R86): 0x1 is written to MBOX.CMD[n]. -/
  | dropPkt (ini n : Nat)
  /-- EVQ_HI_READ (R1086): SYS.EVQ_HI[t] is read. -/
  | evqHiRead (ini t : Nat)
  /-- EVT_ROUTE_WRITE (R1026): `val` is written to SYS.EVT_ROUTE[src]. -/
  | evtRouteWrite (ini src : Nat) (val : Word)
  /-- LOAD_FULL (R116). -/
  | loadFull (ini : Nat)
  /-- LOAD_STATION (R115). -/
  | loadStation (ini : Nat)
  /-- ABORT (R140). -/
  | abort (ini : Nat)
  /-- CANCEL_PENDING (R141) for station `stn`. -/
  | cancelPending (ini stn : Nat)
  /-- LOAD_END (R116): the loader finishes. `bandFails` lists the tiles that fail the band test of R1089, each with the
  cause code of the failure. -/
  | loadEnd (bandFails : List (Nat × Nat))
  /-- RETIRE_CMD (R213): `key` and `tile` are written to MESH.RETIRE_CMD. -/
  | retireCmd (ini key tile : Nat)
  /-- SPARE_POWERED (R216): the spare of retiring tile `tile` is powered and locked. -/
  | sparePowered (tile : Nat)
  /-- SPARE_BIST_END (R230): the quick BIST of the spare of retiring tile `tile` ends. -/
  | spareBistEnd (tile : Nat) (pass : Bool)
  /-- FMAP_WRITE_END (R216): the field defect-map entry being written is written and the region re-signed. -/
  | fmapWriteEnd
  /-- TRIG_EN_SET (R759): 1 is written to MILE.STN_CTRL.TRIG_EN of station `stn`. -/
  | trigEnSet (ini stn : Nat)
  /-- ARM_GRANT (R339): the Khan grants station `stn` its tiles. -/
  | armGrant (stn : Nat)
  /-- TRIG_EN_CLEAR (R50): 0 is written to MILE.STN_CTRL.TRIG_EN of station `stn`. -/
  | trigEnClear (ini stn : Nat)
  /-- CANCEL_ALL (R761) of station `stn`. -/
  | cancelAll (ini stn : Nat)
  /-- STOP_CLR (R757) of station `stn`. -/
  | stopClr (ini stn : Nat)
  /-- STOP_SET (R756) of station `stn`. -/
  | stopSet (ini stn : Nat)
  /-- ARM (R649): 1 is written to ODO.CTRL.ARM of channel `ch`. -/
  | arm (ini ch : Nat)
  /-- REARM (R710) of FIO channel `ch`. -/
  | rearm (ini ch : Nat)
  /-- GRP_REARM (R711) of FIO group `g`. -/
  | grpRearm (ini g : Nat)
  /-- CNT_CLR (R689) of FIO channel `ch`. -/
  | cntClr (ini ch : Nat)
  /-- ON (R697): FIO.CTRL.ON of channel `ch` is written with `lvl`. -/
  | on (ini ch : Nat) (lvl : Bool)
  /-- FIO_TEST (R701): FIO.TEST of channel `ch` is written with GO 1 and PULSE_US `us`. -/
  | fioTest (ini ch us : Nat)
  /-- CAPTURE_GO (R491): CAPTURE.GO is written with camera `cam`. -/
  | captureGo (ini cam : Nat)
  /-- CAPTURE_DONE (R491). -/
  | captureDone
  /-- REPLAY_GO (R492): REPLAY.GO is written with station `stn`. -/
  | replayGo (ini stn : Nat)
  /-- DISP_RD (R488): `idx` is written to ISP.DISP_RD of context `ctx`. -/
  | dispRd (ini ctx idx : Nat)
  /-- CODE_RD (R488): `idx` is written to ISP.CODE_RD of context `ctx`. -/
  | codeRd (ini ctx idx : Nat)
  /-- TB_INCR (R831): `val` is written to TIME.TB_INCR. -/
  | tbIncr (ini : Nat) (val : Word)
  /-- TB_STEP (R832): `val` is written to TIME.TB_STEP and the next tick adds it. -/
  | tbStep (ini : Nat) (val : Word)
  /-- INCR_TIME_CORR (R842): TIME_CORR to each ACTIVE endpoint after TB_INCR changed from `old`. -/
  | incrTimeCorr (old : Word)
  /-- STEP_TIME_CORR (R843): TIME_CORR to each ACTIVE endpoint after a timebase step of `step` ns. -/
  | stepTimeCorr (step : Int)
  /-- TB_WRAP (R829): time runs to the rollover of the low 32 bits of LT. -/
  | tbWrap
  /-- SYNC (R988): 1 is written to LOG.MIRROR.SYNC. -/
  | sync (ini : Nat)
  /-- MIRROR_INTERVAL (R988). -/
  | mirrorInterval
  /-- MIRROR_WRITE_END (R991): a mirror record write ends, verified or not. -/
  | mirrorWriteEnd (ok : Bool)
  /-- CAL_SET (R993): 1 is written to LOG.CAL_CTRL.SET. -/
  | calSet (ini : Nat)
  /-- CALENDAR_SECOND (R992). -/
  | calendarSecond
  /-- POWER_ON_HOUR (R981). -/
  | powerOnHour
  /-- APP_START (R952): `cores` (bits 3 to 1) is written to SYS.APP_START. -/
  | appStart (ini cores : Nat)
  /-- RESET_CMD_WRITE (R942): `key` is written to SYS.RESET_CMD.KEY. -/
  | resetCmdWrite (ini key : Nat)
  /-- WDOG_KICK (R1012): `key` and the core mask `core` are written to SYS.WDOG_KICK. -/
  | wdogKick (ini key core : Nat)
  /-- MTIMECMP_WRITE (R1010): `val` is written to the low word of SYS.MTIMECMP of core `c`. -/
  | mtimecmpWrite (ini c : Nat) (val : Word)
  /-- SPORT_DATA_WRITE (R1028): byte `b` is written to SYS.SPORT_DATA. -/
  | sportDataWrite (ini : Nat) (b : Byte)
  /-- SPORT_DATA_READ (R1028). -/
  | sportDataRead (ini : Nat)
  /-- UART_DATA_READ (R1030) of UART `u`. -/
  | uartDataRead (ini u : Nat)
  /-- UART_DATA_WRITE (R1030) of UART `u`. -/
  | uartDataWrite (ini u : Nat) (b : Byte)
  /-- UART_RX_BYTE (R1033): UART `u` receives `b`, with or without a framing or parity error. -/
  | uartRxByte (u : Nat) (b : Byte) (err : Bool)
  /-- UART_TX_BYTE (R1033): UART `u` finishes sending a byte. -/
  | uartTxByte (u : Nat)
  /-- START (R1031) on I2C controller `i`. -/
  | start (ini i : Nat)
  /-- WRITE (R1031) of byte `b` on I2C controller `i`. -/
  | write (ini i : Nat) (b : Byte)
  /-- READ_ACK (R1031) on I2C controller `i`. -/
  | readAck (ini i : Nat)
  /-- READ_NACK (R1031) on I2C controller `i`. -/
  | readNack (ini i : Nat)
  /-- STOP (R1031) on I2C controller `i`. -/
  | stop (ini i : Nat)
  /-- I2C_RX_READ (R1031) of controller `i`. -/
  | i2cRxRead (ini i : Nat)
  /-- I2C_CMD_DONE (R1033): controller `i` completes its oldest command; `rx` is the byte a read brought and `nack` says
  that a written byte was not acknowledged. -/
  | i2cCmdDone (i : Nat) (rx : Byte) (nack : Bool)
  /-- GPIO_EDGE (R1032): pin `pin` changes to `lvl`. -/
  | gpioEdge (pin : Nat) (lvl : Bool)
  /-- STEWARD_FRAME (R960): bytes arrive on transport `t` (0 UART, 1 SPI, 2 Ethernet, 3 internal). -/
  | stewardFrame (t : Nat) (bytes : List Byte)
  /-- UART_GAP_TIMEOUT (R962). -/
  | uartGapTimeout
  /-- SPT_CS_RISE (R1082). -/
  | sptCsRise
  /-- GET_INFO (R965): the steward executes the request in progress, as do the thirteen commands below. -/
  | getInfo
  /-- GET_MUSTER (R950). -/
  | getMuster
  /-- GET_DEFECT_MAP (R965). -/
  | getDefectMap
  /-- GET_FAULT_LOG (R965). -/
  | getFaultLog
  /-- GET_LOGBOOK (R996). -/
  | getLogbook
  /-- READ_REG (R965). -/
  | readReg
  /-- WRITE_REG (R965). -/
  | writeReg
  /-- FLASH_BEGIN (R967). -/
  | flashBegin
  /-- FLASH_DATA (R965). -/
  | flashData
  /-- FLASH_END (R967). -/
  | flashEnd
  /-- APPROVE_ROW (R969). -/
  | approveRow
  /-- REVOKE_SLOT (R970). -/
  | revokeSlot
  /-- RESET (R942). -/
  | reset
  /-- BOOT_HOLD (R971). -/
  | bootHold
  /-- SYS_RST_N_LOW (R1048): SYS_RST_N is low for `ns` ns. -/
  | sysRstNLow (ns : Nat)
  /-- SYS_RST_N_RISE (R941). -/
  | sysRstNRise
  /-- MUSTER_PHASE_END (R948): the running muster phase ends. `fail` is true when it found a failure that it does not absorb,
  at `unit` and `index` (R928); `marks` lists the tiles or lanes that its tests found bad, with their cause codes. -/
  | musterPhaseEnd (fail : Bool) (unit index : Nat) (marks : List (Nat × Nat))
  /-- HANDOFF (R951). -/
  | handoff
  /-- MAIN_POWER_LOSS (R998). -/
  | mainPowerLoss
  /-- VBAT_LOW (R995). -/
  | vbatLow
  /-- FIO_UV (R712): supply `supply` (0 V24_A, 1 V24_B) falls below 18.0 V. -/
  | fioUv (supply : Nat)
  /-- V24_B_LOSS (R638). -/
  | v24BLoss
  /-- REFCLK_LOSS (R863, R867): a reference becomes unhealthy. -/
  | refclkLoss
  /-- REFCLK_SWITCH (R864). -/
  | refclkSwitch
  /-- REFCLK_RECOVER (R865): reference `ref` (0 A, 1 B) becomes healthy. -/
  | refclkRecover (ref : Nat)
  /-- REFCLK_RETURN (R866). -/
  | refclkReturn
  /-- LREF_LOSS (R523): the lane reference of side `side` (0 west, 1 east) is lost. -/
  | lrefLoss (side : Nat)
  /-- LREF_RETURN (R523). -/
  | lrefReturn (side : Nat)
  /-- NODE_FAIL (R872): mesh node `node` fails. -/
  | nodeFail (node : Nat)
  /-- THROTTLE (R882): band `b` (4: the tree engine) is judged; its hottest sensor is `sensor`, which reads `temp` in 1/16 °C. -/
  | throttle (b sensor : Nat) (temp : Int)
  /-- THERMAL_LIMIT_RISE (R883) of band `b` (4: the tree engine). -/
  | thermalLimitRise (b : Nat)
  /-- THERMAL_MAX (R884): sensor `sensor` reads `temp`. -/
  | thermalMax (sensor : Nat) (temp : Int)
  /-- THERM_TRIP (R885): sensor `sensor` reads `temp`. -/
  | thermTrip (sensor : Nat) (temp : Int)
  /-- THERMAL_CYCLE (R982): the hottest sensor reads `temp`, in 1/16 °C. -/
  | thermalCycle (temp : Int)
  /-- POWER_MEASURE (R886): `mw` mW were measured. -/
  | powerMeasure (mw : Nat)
  /-- PLACEMENT_WINDOW (R368): a placement window ends; `busy` and `bw` are the ratios of each station, in per mille. -/
  | placementWindow (busy bw : List Nat)
  /-- OP_RAMP_END (R877) of island `island` (a physical tile, or 72 for the tree engine). -/
  | opRampEnd (island : Nat)
  /-- AVS_STEP (R879) of island `island`: its canaries report slack `slack`, in 5 ps units. -/
  | avsStep (island slack : Nat)
  /-- AVS_LIMIT (R880) of island `island`. -/
  | avsLimit (island : Nat)
  /-- DOMAIN_OFF (R857) of domain `d`. -/
  | domainOff (d : Nat)
  /-- DOMAIN_ON (R858) of domain `d`. -/
  | domainOn (d : Nat)
  /-- ODO_INPUT_ACCEPT (R635): a sample of channel `ch` is accepted in which A, B and Z stand at `a`, `b` and `z`; `bNew` says
  that B changed less than 50 ns before (R641). -/
  | odoInputAccept (ch : Nat) (a b z bNew : Bool)
  /-- LOS_SET (R637) on channel `ch`. -/
  | losSet (ch : Nat)
  /-- LOS_CLEAR (R637) on channel `ch`. -/
  | losClear (ch : Nat)
  /-- PERIOD_STALL (R653) on channel `ch`. -/
  | periodStall (ch : Nat)
  /-- SPEED_WINDOW (R654) of station `stn`. -/
  | speedWindow (stn : Nat)
  /-- REF_RETURN (R666) of station `stn`. -/
  | refReturn (stn : Nat)
  /-- SYNTH_TICK (R659) of station `stn`: the synthetic source advances over `ns` ns. -/
  | synthTick (stn ns : Nat)
  /-- SYNTH_MAX_EXPIRY (R669) of station `stn`. -/
  | synthMaxExpiry (stn : Nat)
  /-- LINE_TRIG_DELAYED (R448) of camera `cam`. -/
  | lineTrigDelayed (cam : Nat)
  /-- FIRE_AT_RESEND (R747) of milestone entry `e`. -/
  | fireAtResend (e : Nat)
  /-- STALL_CANCEL (R748) of station `stn`. -/
  | stallCancel (stn : Nat)
  /-- FIO_INPUT_ACCEPT (R686): channel `ch` is accepted at `lvl`; `back` is the position the reference has moved since
  the first sample of the edge, in ticks, and `backNs` the time. -/
  | fioInputAccept (ch : Nat) (lvl : Bool) (back : Int) (backNs : Nat)
  /-- FREQ_GATE_END (R690) of channel `ch`. -/
  | freqGateEnd (ch : Nat)
  /-- FREQ_TIMEOUT (R691) of channel `ch`. -/
  | freqTimeout (ch : Nat)
  /-- PEAK_END (R692) of channel `ch`. -/
  | peakEnd (ch : Nat)
  /-- PULSE_END (R38) of channel `ch`. -/
  | pulseEnd (ch : Nat)
  /-- ON_CHECK (R702) of channel `ch`: the pin reads `high`. -/
  | onCheck (ch : Nat) (high : Bool)
  /-- OFF_CHECK (R703) of channel `ch`: the pin reads `high`. -/
  | offCheck (ch : Nat) (high : Bool)
  /-- MERGED_PULSE_FREE (R775) of milestone entry `e`. -/
  | mergedPulseFree (e : Nat)
  /-- FIO_OPEN (R707) on channel `ch`. -/
  | fioOpen (ch : Nat)
  /-- OC_TRIP (R708) on channel `ch`. -/
  | ocTrip (ch : Nat)
  /-- THERM (R709) on channel `ch`. -/
  | therm (ch : Nat)
  /-- GRP_OC (R711) on group `g`. -/
  | grpOc (g : Nat)
  /-- DIE_LINK_TIMEOUT (R713). -/
  | dieLinkTimeout
  /-- LINE_DATA (R778): camera `cam` delivers the pixels `px` from pixel 16 × `offset` of plane `plane` of line `line` of bale
  `bale`; `last` is LAST of R594. -/
  | lineData (cam bale line plane offset : Nat) (last : Bool) (px : List Nat)
  /-- LINE_MISSING (R497): line `line` of camera `cam` of bale `bale` has not arrived. -/
  | lineMissing (cam bale line : Nat)
  /-- ISP_PASS_START (R466). -/
  | ispPassStart
  /-- ISP_PASS_END (R465) of context `ctx`; `err` is a residue mismatch in the ISP (R904). -/
  | ispPassEnd (ctx : Nat) (err : Bool)
  /-- JOB_DISPATCH (R363) of a queued job of station `stn`; `bad` is a tile that refuses the job's command (R907), if one
  does. -/
  | jobDispatch (stn : Nat) (bad : Option Nat)
  /-- PAGE_FETCH_END (R351): page `page` reaches tile `tile`; `err` is an uncorrected DRAM error, `bale` the bale that needs
  the page. -/
  | pageFetchEnd (tile page bale : Nat) (err : Bool)
  /-- LAYER_START (R284) of layer `layer` of the running stripe job of bale `bale` on tile `tile`, after a wait for pages or
  not. -/
  | layerStart (bale layer tile : Nat) (waited : Bool)
  /-- LAYER_END (R306) of layer `layer` of bale `bale`. `fault` is 0 for none, 1 a residue mismatch (R906), 2 an isolation
  breach (R381), 3 an uncorrected SRAM error and 4 an uncorrected error of a spilled block (R330, R904), 5 a corrected SRAM
  error and 6 a router handshake error (R212), on tile `tile`; `orders` holds the orders in which
  the split-K parts arrive at the tiles that combine them, by channel group and partition column (R259, R301). -/
  | layerEnd (bale layer fault tile : Nat) (orders : List (List Nat))
  /-- STRIPE_JOB_END (R359) of bale `bale`. -/
  | stripeJobEnd (bale : Nat)
  /-- TILE_SCRUB_END (R343) of tile `tile`. -/
  | tileScrubEnd (tile : Nat)
  /-- TREE_PASS_START (R434). -/
  | treePassStart
  /-- TREE_PASS_END (R437): `err` is 0 for none, 1 an uncorrected block error, 2 a residue mismatch. -/
  | treePassEnd (err : Nat)
  /-- VERDICT_DONE (R732) of bale `bale`: `flip` is what a fault changes in the outcome of unit B (0: no fault). -/
  | verdictDone (bale flip : Nat)
  /-- DECODE_TOKEN (R396) of decoder `dec` of station `stn`. -/
  | decodeToken (stn dec : Nat)
  /-- CV_HELLO (R793) received on peer link `link`, with its fields of R808. -/
  | cvHello (link group count index : Nat) (det : Bool) (digest : Nat)
  /-- CV_DATA (R802) received on peer link `link`, with its fields of R808 and its entries. -/
  | cvData (link group member : Nat) (absent : Bool) (tag base : Nat) (vals : List Nat)
  /-- CONVOY_TIMEOUT (R786) of the running step of bale `bale` in group `group`. -/
  | convoyTimeout (group bale : Nat)
  /-- FIRE_REPORT (R749) received from endpoint `addr` of link `link`, with its fields of R594. -/
  | fireReport (link addr time rch result cmdId bale : Nat)
  /-- REPORT_TIMEOUT (R750) of milestone entry `e`. -/
  | reportTimeout (e : Nat)
  /-- REMOTE_FREE (R773) of milestone entry `e`. -/
  | remoteFree (e : Nat)
  /-- COMPARATOR_DISAGREE (R909) on milestone entry `e`. -/
  | comparatorDisagree (e : Nat)
  /-- KHAN_FAULT (R924). -/
  | khanFault
  /-- KHAN_REBUILD_END (R925). -/
  | khanRebuildEnd
  /-- DROVER_WATCHDOG (R904) of drover `d`, which sequenced jobs of the bales `bales`. -/
  | droverWatchdog (d : Nat) (bales : List Nat)
  /-- STEWARD_ROLLBACK (R908). -/
  | stewardRollback
  /-- APP_WDOG (R1013) of core `c`. -/
  | appWdog (c : Nat)
  /-- BUS_ERR (R1018): initiator `ini` reads or writes the unmapped address `addr`. -/
  | busErr (ini addr : Nat) (wr : Bool)
  /-- CORE_BLOCKED_WRITE (R1023): application core `core` stores the bytes `data` at `addr`. -/
  | coreBlockedWrite (core addr : Nat) (data : List Byte)
  /-- TRAIN (R538): a TRAIN block arrives on lane `lane` with its request, its status and its CDR flag. -/
  | train (lane request status : Nat) (locked : Bool)
  /-- BACK_CHANNEL_REQUEST (R540): the receiver of lane `lane` sends `request`. -/
  | backChannelRequest (lane request : Nat)
  /-- LANE_TRAIN_FAIL (R541) of lane `lane`. -/
  | laneTrainFail (lane : Nat)
  /-- TRAIN_RETRY (R541) of lane `lane`. -/
  | trainRetry (lane : Nat)
  /-- LANE_LOCK_LOSS (R511) of lane `lane`. -/
  | laneLockLoss (lane : Nat)
  /-- SKIP_SEND (R516) on lane `lane`. -/
  | skipSend (lane : Nat)
  /-- SKIP_RECEIVE (R519) on lane `lane`. -/
  | skipReceive (lane : Nat)
  /-- EB_SLIP (R521) on lane `lane`: the buffer is full (or empty). -/
  | ebSlip (lane : Nat) (full : Bool)
  /-- BAD_CONTROL_BLOCK (R572) on lane `lane`. -/
  | badControlBlock (lane : Nat)
  /-- PACKET_RECEIVE (R580): the words of a packet, header and CRC word included, arrive on a stream of link `link`. -/
  | packetReceive (link : Nat) (express : Bool) (words : List Dword)
  /-- NAK_REPEAT (R581) for a stream of link `link`. -/
  | nakRepeat (link : Nat) (express : Bool)
  /-- ACK (R578) received for a stream of link `link`. -/
  | ack (link : Nat) (express : Bool) (seq : Nat)
  /-- NAK (R583) received for a stream of link `link`. -/
  | nak (link : Nat) (express : Bool) (seq : Nat)
  /-- REPLAY_TIMEOUT (R584) of a stream of link `link`. -/
  | replayTimeout (link : Nat) (express : Bool)
  /-- CREDIT (R589) received on link `link`. -/
  | credit (link vc grant : Nat)
  /-- CREDIT_REFRESH (R589) on link `link`. -/
  | creditRefresh (link : Nat)
  /-- ANNOUNCE (R600) received, with its fields of R594. -/
  | announce (link addr serial cls version : Nat)
  /-- TIME_REQ (R609) of link `link`. -/
  | timeReq (link : Nat)
  /-- TIME_RESP (R607) received, with its fields of R594. -/
  | timeResp (link addr tag t2 t3 : Nat)
  /-- STRAYED_RETRY (R611). -/
  | strayedRetry (link addr : Nat)
  /-- POWER (R619) towards endpoint `addr` of link `link`: `target` is 1 DOZE, 2 SLEEP. -/
  | power (link addr target : Nat)
  /-- POWER_RESP (R621) received. -/
  | powerResp (link addr result : Nat)
  /-- SEGMENT_WAKE (R623) of the segment of endpoint `addr` of link `link`. -/
  | segmentWake (link addr : Nat)
  /-- LINK_ALIGNED (R589) of link `link`. -/
  | linkAligned (link : Nat)
  /-- EVENT (R594) received from an endpoint: its code and channel. -/
  | event (link addr code chan : Nat)
  /-- RESP (R594) received from an endpoint: its tag, status and read data. -/
  | resp (link addr tag status : Nat) (data : List Dword)
  /-- IO_REPORT (R598) received: its sample time and value. -/
  | ioReport (link addr time value : Nat)
  /-- PTP_EVENT_MESSAGE (R836) on `port`. -/
  | ptpEventMessage (port dir msgType domain seq : Nat) (udp : Bool)
  /-- MACHINE_TIMER_INTERRUPT (R1010) of core `c`. -/
  | machineTimerInterrupt (c : Nat)
  /-- ERROR_RATE_WINDOW_END (R655) of channel `ch`. -/
  | errorRateWindowEnd (ch : Nat)
  /-- DIE_LINK_RETURN (R715). -/
  | dieLinkReturn
  /-- V24_RETURN (R712): supply `supply` returns. -/
  | v24Return (supply : Nat)
  /-- MAIN_POWER_RETURN (R828). -/
  | mainPowerReturn
  /-- BOUNDARY_SCAN_INSTRUCTION (R1061): bits [1:0] of `scan` are 0 BYPASS, 1 IDCODE, 2 SAMPLE/PRELOAD, 3 EXTEST; the bits above are
  what is shifted into the boundary-scan chain while it is selected, one bit for each ball. -/
  | boundaryScanInstruction (scan : Nat)
  /-- LANE_EYE_UPDATE (R532) of lane `lane`. -/
  | laneEyeUpdate (lane height width : Nat)
  /-- PRBS_BIT_ERROR (R549) on lane `lane`. -/
  | prbsBitError (lane : Nat)
  deriving DecidableEq, Repr

end Sys2Proof
end

