-- ==== Sys2Proof/Decode.lean ====
section
/-! DEFINITION. The command that a word of the opcode table spells. The table gives no row any bits, so no word spells a
command (assumption 9). -/

namespace Sys2Proof

/-- The command that the `nbits` bits of `w` spell: none, for a table whose rows have no bits. -/
def decodeTableWord (_nbits _w : Nat) : Option Instr := none

end Sys2Proof
end

