-- ==== Sys2Proof/Machine/Bits.lean ====
section
/-! DEFINITION. Bit fields, byte orders, signed readings, rounding and modular comparison. -/

namespace Sys2Proof.Machine

/-- Bits [hi:lo] of `v`. -/
def fld (v hi lo : Nat) : Nat := v / 2 ^ lo % 2 ^ (hi - lo + 1)

/-- Bit `i` of `v`. -/
def bitAt (v i : Nat) : Bool := v / 2 ^ i % 2 == 1

/-- `v` with bits [hi:lo] replaced by `x`. -/
def setFld (v hi lo x : Nat) : Nat :=
  v - fld v hi lo * 2 ^ lo + x % 2 ^ (hi - lo + 1) * 2 ^ lo

/-- `v` with bit `i` set or cleared. -/
def setBitTo (v i : Nat) (b : Bool) : Nat := setFld v i i (if b then 1 else 0)

/-- A Bool as a bit. -/
def b2n (b : Bool) : Nat := if b then 1 else 0

/-- The two's-complement reading of a `w`-bit number. -/
def sInt (w v : Nat) : Int := if v % 2 ^ w < 2 ^ (w - 1) then (v % 2 ^ w : Nat) else (v % 2 ^ w : Nat) - (2 ^ w : Nat)

/-- The `w`-bit two's-complement code of an integer. -/
def ofInt (w : Nat) (i : Int) : Nat := (i % (2 ^ w : Nat)).toNat

/-- The number that bytes spell, least significant byte first (R102). -/
def leN : List Byte → Nat
  | [] => 0
  | b :: r => b.toNat + 256 * leN r

/-- The number that bytes spell, most significant byte first (R108). -/
def beN (bs : List Byte) : Nat := bs.foldl (fun a b => a * 256 + b.toNat) 0

/-- `n` bytes of `v`, least significant byte first. -/
def leBytes : Nat → Nat → List Byte
  | 0, _ => []
  | n + 1, v => BitVec.ofNat 8 v :: leBytes n (v / 256)

/-- `n` bytes of `v`, most significant byte first. -/
def beBytes (n v : Nat) : List Byte := (leBytes n v).reverse

/-- `n` bytes of `bs` from offset `off`; bytes beyond the end read as 0. -/
def slice (bs : List Byte) (off n : Nat) : List Byte :=
  let r := (bs.drop off).take n
  r ++ List.replicate (n - r.length) 0

/-- The `n`-byte little-endian field at offset `off`. -/
def leAt (bs : List Byte) (off n : Nat) : Nat := leN (slice bs off n)

/-- `n / d` rounded to the nearest integer, ties to even. -/
def rneDiv (n : Int) (d : Nat) : Int :=
  let q := n / (d : Int)
  let r := n % (d : Int)
  if 2 * r < d then q else if 2 * r > d then q + 1 else if q % 2 == 0 then q else q + 1

/-- `n / d` rounded up. -/
def ceilDiv (n d : Nat) : Nat := (n + d - 1) / d

/-- `x` limited to `lo .. hi`. -/
def clampI (lo hi x : Int) : Int := if x < lo then lo else if x > hi then hi else x

/-- A is before B on a modular counter of width `w` (R69). -/
def before (w a b : Nat) : Bool :=
  let d := (b + 2 ^ w - a % 2 ^ w) % 2 ^ w
  d != 0 && decide (d < 2 ^ (w - 1))

/-- A is at or before B on a modular counter of width `w`. -/
def atOrBefore (w a b : Nat) : Bool := a % 2 ^ w == b % 2 ^ w || before w a b

/-- The signed difference `b - a` of two positions, modulo `2^w`. -/
def modDiff (w a b : Nat) : Int := sInt w ((b + 2 ^ w - a % 2 ^ w) % 2 ^ w)

/-- `p + d` on a 48-bit position. -/
def posAdd (p : Nat) (d : Int) : Nat := (((p : Int) + d) % (2 ^ 48 : Nat)).toNat

/-- Element `i` of `xs` replaced by `f` of it. -/
def modAt {α : Type} (xs : List α) (i : Nat) (f : α → α) : List α := xs.modify i f

/-- The elements of `xs` with their indexes. -/
def indexed {α : Type} (xs : List α) : List (Nat × α) := (List.range xs.length).zip xs

/-- `xs` in pieces of `n`. `fuel` bounds the number of pieces. -/
def chunksGo {α : Type} (n : Nat) : Nat → List α → List (List α)
  | 0, _ => []
  | _, [] => []
  | fuel + 1, xs => xs.take n :: chunksGo n fuel (xs.drop n)

/-- `xs` in pieces of `n` elements, the last of which may be shorter. -/
def chunks {α : Type} (n : Nat) (xs : List α) : List (List α) := chunksGo n xs.length xs

/-- `x` inserted after every element `y` with `le y x`: a stable insertion. -/
def insertBy {α : Type} (le : α → α → Bool) (x : α) : List α → List α
  | [] => [x]
  | y :: r => if le y x then y :: insertBy le x r else x :: y :: r

/-- `xs` sorted stably by `le`. -/
def sortBy {α : Type} (le : α → α → Bool) (xs : List α) : List α := xs.foldl (fun a x => insertBy le x a) []

/-- The sum of a list of numbers. -/
def sumN (xs : List Nat) : Nat := xs.foldl (· + ·) 0

/-- The largest of a list of numbers, 0 of none. -/
def maxN (xs : List Nat) : Nat := xs.foldl max 0

end Sys2Proof.Machine
end

