-- ==== Sys2Proof/Machine/Crypto.lean ====
section
/-! DEFINITION. SHA-256 (R109), ECDSA over P-256 (R109), and the cyclic redundancy checks of seals, packets, control
blocks and steward frames. The manual names SHA-256 and ECDSA P-256 by their standards: PRESUMED, assumption 10. -/

namespace Sys2Proof.Machine.Crypto

/-- The eight 32-bit words of a 256-bit number, most significant first. -/
def words8 (x : Nat) : List Nat := (List.range 8).map fun i => x / 2 ^ (224 - 32 * i) % 2 ^ 32

/-- The round constants of SHA-256: the first 32 bits of the fractional parts of the cube roots of the first 64 primes, eight
to a number. -/
def roundConsts : List Nat :=
  words8 0x428a2f9871374491b5c0fbcfe9b5dba53956c25b59f111f1923f82a4ab1c5ed5 ++
  words8 0xd807aa9812835b01243185be550c7dc372be5d7480deb1fe9bdc06a7c19bf174 ++
  words8 0xe49b69c1efbe47860fc19dc6240ca1cc2de92c6f4a7484aa5cb0a9dc76f988da ++
  words8 0x983e5152a831c66db00327c8bf597fc7c6e00bf3d5a7914706ca635114292967 ++
  words8 0x27b70a852e1b21384d2c6dfc53380d13650a7354766a0abb81c2c92e92722c85 ++
  words8 0xa2bfe8a1a81a664bc24b8b70c76c51a3d192e819d6990624f40e3585106aa070 ++
  words8 0x19a4c1161e376c082748774c34b0bcb5391c0cb34ed8aa4a5b9cca4f682e6ff3 ++
  words8 0x748f82ee78a5636f84c878148cc7020890befffaa4506cebbef9a3f7c67178f2

/-- The starting value of SHA-256: the first 32 bits of the fractional parts of the square roots of the first 8 primes. -/
def shaStart : Nat := 0x6a09e667bb67ae853c6ef372a54ff53a510e527f9b05688c1f83d9ab5be0cd19

/-- The exclusive or of a 32-bit word rotated right by each of `rs`, over `z`. -/
def mix (rs : List Nat) (z x : Nat) : Nat := rs.foldl (fun acc r => acc ^^^ (x * (2 ^ 32 + 1) / 2 ^ r % 2 ^ 32)) z

/-- The message word that follows the last sixteen, which `w` holds newest first. -/
def nextWord (w : List Nat) : Nat :=
  let old := w.getD 14 0
  let new := w.getD 1 0
  (w.getD 15 0 + w.getD 6 0 + mix [7, 18] (old / 8) old + mix [17, 19] (new / 1024) new) % 2 ^ 32

/-- One round over the working words `a` to `h`, given the constant and the message word added up. -/
def shaRound (v : List Nat) (k : Nat) : List Nat :=
  let x := fun i => v.getD i 0
  let choice := x 6 ^^^ (x 4 &&& (x 5 ^^^ x 6))
  let most := (x 0 &&& (x 1 ||| x 2)) ||| (x 1 &&& x 2)
  let t := x 7 + k + choice + mix [6, 11, 25] 0 (x 4)
  (t + most + mix [2, 13, 22] 0 (x 0)) % 2 ^ 32 :: x 0 :: x 1 :: x 2 :: (x 3 + t) % 2 ^ 32 :: [x 4, x 5, x 6]

/-- The rounds of one block: `w` holds the message words still to use, oldest first, and the sixteen newest follow from them. -/
def shaRounds : List Nat → List Nat → List Nat → List Nat
  | [], _, v => v
  | k :: ks, w, v => shaRounds ks (w.drop 1 ++ [nextWord w.reverse]) (shaRound v (k + w.headD 0))

/-- One 64-byte block added to the running digest. -/
def shaBlock (d : Nat) (blk : List Byte) : Nat :=
  let v := words8 d
  let r := shaRounds roundConsts (words8 (beN (blk.take 32)) ++ words8 (beN (blk.drop 32))) v
  (v.zip r).foldl (fun acc q => acc * 2 ^ 32 + (q.1 + q.2) % 2 ^ 32) 0

/-- The SHA-256 digest of a byte string, as a number (most significant byte first). -/
def sha256 (m : List Byte) : Nat :=
  let tail := 0x80 :: List.replicate ((119 - m.length % 64) % 64) 0 ++ beBytes 8 (8 * m.length)
  (chunks 64 (m ++ tail)).foldl shaBlock shaStart

/-- The prime of P-256. -/
def p : Nat := 0xffffffff00000001000000000000000000000000ffffffffffffffffffffffff
/-- The order of the base point. -/
def n : Nat := 0xffffffff00000000ffffffffffffffffbce6faada7179e84f3b9cac2fc632551
/-- The coefficient b of the curve. -/
def bCoef : Nat := 0x5ac635d8aa3a93e7b3ebbd55769886bc651d06b0cc53b0f63bce3c3e27d2604b
/-- The base point. -/
def gx : Nat := 0x6b17d1f2e12c4247f8bce6e563a440f277037d812deb33a0f4a13945d898c296
/-- The base point. -/
def gy : Nat := 0x4fe342e2fe1a7f9b8ee7eb4a7c0f9e162bce33576b315ececbb6406837bf51f5

/-- `b ^ e mod m`, over `fuel` bits of `e`. -/
def powMod (m : Nat) : Nat → Nat → Nat → Nat
  | 0, _, _ => 1 % m
  | fuel + 1, b, e =>
    if e == 0 then 1 % m
    else
      let h := powMod m fuel (b * b % m) (e / 2)
      if e % 2 == 1 then h * b % m else h

/-- The inverse modulo a prime. -/
def inv (m a : Nat) : Nat := powMod m 256 a (m - 2)

/-- A point of the curve in Jacobian coordinates; `z` is 0 at infinity. -/
structure Point where
  /-- X. -/
  x : Nat
  /-- Y. -/
  y : Nat
  /-- Z. -/
  z : Nat
  deriving DecidableEq, Repr

/-- `a - b` modulo the prime. -/
def subP (a b : Nat) : Nat := (a + p - b % p) % p

/-- Twice a point. -/
def dbl (q : Point) : Point :=
  if q.z == 0 || q.y == 0 then ⟨1, 1, 0⟩
  else
    let yy := q.y * q.y % p
    let s := 4 * q.x * yy % p
    let z2 := q.z * q.z % p
    let m := 3 * subP q.x z2 * (q.x + z2) % p
    let x3 := subP (m * m) (2 * s)
    ⟨x3, subP (m * subP s x3) (8 * yy * yy), 2 * q.y * q.z % p⟩

/-- The sum of two points. -/
def addP (q r : Point) : Point :=
  if q.z == 0 then r else if r.z == 0 then q
  else
    let z1 := q.z * q.z % p
    let z2 := r.z * r.z % p
    let u1 := q.x * z2 % p
    let u2 := r.x * z1 % p
    let s1 := q.y * z2 * r.z % p
    let s2 := r.y * z1 * q.z % p
    let h := subP u2 u1
    let rr := subP s2 s1
    if h == 0 then (if rr == 0 then dbl q else ⟨1, 1, 0⟩)
    else
      let h2 := h * h % p
      let h3 := h2 * h % p
      let v := u1 * h2 % p
      let x3 := subP (subP (rr * rr) h3) (2 * v)
      ⟨x3, subP (rr * subP v x3) (s1 * h3), q.z * r.z * h % p⟩

/-- `k` times a point, over `fuel` bits of `k`. -/
def mulP : Nat → Nat → Point → Point
  | 0, _, _ => ⟨1, 1, 0⟩
  | fuel + 1, k, q =>
    if k == 0 then ⟨1, 1, 0⟩
    else
      let h := mulP fuel (k / 2) (dbl q)
      if k % 2 == 1 then addP h q else h

/-- A signature `(r, s)` over the digest `e` verifies under the public key `(x, y)`. -/
def ecdsaOk (x y r s e : Nat) : Bool :=
  if r == 0 || s == 0 || n ≤ r || n ≤ s || p ≤ x || p ≤ y then false
  else if y * y % p != (x * x % p * x + (p - 3) * x + bCoef) % p then false
  else
    let w := inv n s
    let q := addP (mulP 256 (e * w % n) ⟨gx, gy, 1⟩) (mulP 256 (r * w % n) ⟨x, y, 1⟩)
    if q.z == 0 then false
    else
      let zi := inv p q.z
      q.x * (zi * zi % p) % p % n == r % n

/-- A reflected CRC of one byte. -/
def crcByte (poly : Nat) : Nat → Nat → Nat
  | 0, c => c
  | k + 1, c => crcByte poly k (if c % 2 == 1 then (c / 2) ^^^ poly else c / 2)

/-- A reflected CRC over bytes, from the running value `c`. -/
def crcRefl (poly c : Nat) (bs : List Byte) : Nat := bs.foldl (fun c b => crcByte poly 8 (c ^^^ b.toNat)) c

/-- An unreflected CRC of width `w`: one bit. -/
def crcMsbBit (w poly : Nat) : Nat → Nat → Nat
  | 0, c => c
  | k + 1, c => crcMsbBit w poly k (if bitAt c (w - 1) then (2 * c % 2 ^ w) ^^^ poly else 2 * c % 2 ^ w)

/-- An unreflected CRC of width `w` over bytes. -/
def crcMsb (w poly c : Nat) (bs : List Byte) : Nat :=
  bs.foldl (fun c b => crcMsbBit w poly 8 (c ^^^ (b.toNat * 2 ^ (w - 8)))) c

/-- The reflected form of the CRC-64 polynomial 0x42F0_E1EB_A9EA_3693 (R318). -/
def crc64Poly : Nat := 0xc96c5795d7870f42

/-- CRC-64 of R318, running value before the final XOR. -/
def crc64Run (c : Nat) (bs : List Byte) : Nat := crcRefl crc64Poly c bs

/-- The initial value of R318. -/
def crc64Init : Nat := 2 ^ 64 - 1

/-- CRC-64 of R318. -/
def crc64 (bs : List Byte) : Nat := crc64Run crc64Init bs ^^^ (2 ^ 64 - 1)

/-- CRC-32C (reflected polynomial 0x82F6_3B78, all-ones start and final XOR). -/
def crc32c (bs : List Byte) : Nat := crcRefl 0x82f63b78 (2 ^ 32 - 1) bs ^^^ (2 ^ 32 - 1)

end Sys2Proof.Machine.Crypto
end

