-- ==== Sys2Proof/Machine/RegTable.lean ====
section
/-! DEFINITION. Every register of the device as the register tables of the chapters give it: address, number and
spacing of its copies, owner, and each field's bits, access code and reset value (R10, R49). A reset value that the
tables give as "from M9", "from flash", "from OTP", "restored", "kept" or not at all stands as 0 (assumptions 5, 6, 7). -/

namespace Sys2Proof.Machine

/-- The access codes of R10. -/
inductive Acc where
  | ro | rw | rs | rf | w1c | wo
  deriving DecidableEq, Repr

/-- Whose arming an RS or RF field follows (R49): the device, or the station that a copy of the register belongs to. -/
inductive OwnerKind where
  | device | station | camera | context | fio | odo | group
  deriving DecidableEq, Repr

/-- One field of a register. -/
structure Field where
  /-- Highest bit. -/
  hi : Nat
  /-- Lowest bit. -/
  lo : Nat
  /-- Name in the register table. -/
  name : String
  /-- Access code. -/
  acc : Acc
  /-- Reset value. -/
  reset : Nat
  deriving DecidableEq, Repr

/-- One row of a register table: `n1` copies `s1` bytes apart, each holding `n2` copies `s2` bytes apart. -/
structure RegInfo where
  /-- Name, with its block. -/
  name : String
  /-- Address of the first copy. -/
  base : Nat
  /-- Copies of the first index. -/
  n1 : Nat
  /-- Their spacing. -/
  s1 : Nat
  /-- Copies of the second index. -/
  n2 : Nat
  /-- Their spacing. -/
  s2 : Nat
  /-- Owner of its RS and RF fields. -/
  owner : OwnerKind
  /-- Its fields. -/
  fields : List Field
  deriving DecidableEq, Repr

/-- The fields of a 24-bit saturating counter (R101). -/
def cntFields : List Field := [⟨31, 31, "OVF", .w1c, 0⟩, ⟨30, 30, "CLR", .wo, 0⟩, ⟨23, 0, "COUNT", .ro, 0⟩]

/-- Registers of SYS (R17, R101, R277, R980, R1038). -/
def regsSys0 : List RegInfo := [
  ⟨"SYS.DEVICE_ID", 0x2000000000, 1, 0, 1, 0, .device, [⟨31, 16, "FAMILY", .ro, 0x4844⟩, ⟨15, 0, "PART", .ro, 0x0072⟩]⟩,
  ⟨"SYS.REV_ID", 0x2000000004, 1, 0, 1, 0, .device, [⟨8, 8, "GRADE", .ro, 0⟩, ⟨7, 4, "BASE", .ro, 0xB⟩, ⟨3, 0, "METAL", .ro, 0⟩]⟩,
  ⟨"SYS.DET_MODE", 0x2000000020, 1, 0, 1, 0, .device, [⟨0, 0, "DET", .ro, 0⟩]⟩,
  ⟨"SYS.WDROP_CNT", 0x2000000100, 1, 0, 1, 0, .device, cntFields⟩,
  ⟨"SYS.WDROP_ADDR", 0x2000000104, 1, 0, 1, 0, .device, [⟨31, 0, "ADDR", .ro, 0⟩]⟩,
  ⟨"SYS.WDROP_SRC", 0x2000000108, 1, 0, 1, 0, .device, [⟨8, 8, "DEVOWN", .ro, 0⟩, ⟨7, 4, "STATION", .ro, 0⟩, ⟨3, 0, "INIT", .ro, 0⟩]⟩,
  ⟨"SYS.SHADOW_PEND", 0x200000010C, 1, 0, 1, 0, .device, [⟨15, 0, "PEND", .ro, 0⟩]⟩,
  ⟨"SYS.BOOT_STAT", 0x2000000200, 1, 0, 1, 0, .device, [⟨31, 31, "WAYSTATION", .ro, 0⟩, ⟨30, 30, "DONE", .ro, 0⟩, ⟨27, 24, "PHASE", .ro, 0⟩, ⟨16, 16, "FW_SLOT", .ro, 0⟩, ⟨15, 15, "FMAP_VALID", .ro, 0⟩, ⟨7, 0, "ABSORBED", .ro, 0⟩]⟩,
  ⟨"SYS.WAY_CAUSE", 0x2000000204, 1, 0, 1, 0, .device, [⟨23, 16, "INDEX", .ro, 0⟩, ⟨15, 8, "UNIT", .ro, 0⟩, ⟨7, 0, "CAUSE", .ro, 0⟩]⟩,
  ⟨"SYS.APP_START", 0x2000000208, 1, 0, 1, 0, .device, [⟨3, 1, "CORES", .wo, 0⟩]⟩,
  ⟨"SYS.RESET_CMD", 0x200000020C, 1, 0, 1, 0, .device, [⟨7, 0, "KEY", .rf, 0⟩]⟩,
  ⟨"SYS.MUSTER_US", 0x2000000210, 1, 0, 1, 0, .device, [⟨31, 0, "TIME", .ro, 0⟩]⟩,
  ⟨"SYS.SPORT_ERR", 0x2000000214, 1, 0, 1, 0, .device, cntFields⟩,
  ⟨"SYS.MTIMECMP_LO", 0x2000000300, 4, 8, 1, 0, .device, [⟨31, 0, "CMP", .rw, 0xFFFFFFFF⟩]⟩]

/-- Registers of SYS (R101, R1038). -/
def regsSys1 : List RegInfo := [
  ⟨"SYS.MTIMECMP_HI", 0x2000000304, 4, 8, 1, 0, .device, [⟨31, 0, "CMP", .rw, 0xFFFFFFFF⟩]⟩,
  ⟨"SYS.WDOG_KICK", 0x2000000320, 1, 0, 1, 0, .device, [⟨15, 8, "KEY", .wo, 0⟩, ⟨3, 0, "CORE", .wo, 0⟩]⟩,
  ⟨"SYS.BUS_ERR_ADDR_LO", 0x2000000330, 1, 0, 1, 0, .device, [⟨31, 0, "ADDR", .ro, 0⟩]⟩,
  ⟨"SYS.BUS_ERR_ADDR_HI", 0x2000000334, 1, 0, 1, 0, .device, [⟨7, 0, "ADDR", .ro, 0⟩]⟩,
  ⟨"SYS.BUS_ERR_SRC", 0x2000000338, 1, 0, 1, 0, .device, [⟨8, 8, "WRITE", .ro, 0⟩, ⟨3, 0, "INIT", .ro, 0⟩]⟩,
  ⟨"SYS.SPORT_DATA", 0x2000000340, 1, 0, 1, 0, .device, [⟨8, 8, "VALID", .ro, 0⟩, ⟨7, 0, "BYTE", .ro, 0⟩]⟩,
  ⟨"SYS.EVT_ROUTE", 0x2000001000, 512, 4, 1, 0, .device, [⟨15, 0, "TARGETS", .rw, 0⟩]⟩,
  ⟨"SYS.EVT_PEND", 0x2000001800, 16, 4, 1, 0, .device, [⟨31, 0, "PEND", .w1c, 0⟩]⟩,
  ⟨"SYS.EVQ_LO", 0x2000001900, 13, 16, 1, 0, .device, [⟨31, 0, "TIME", .ro, 0⟩]⟩,
  ⟨"SYS.EVQ_HI", 0x2000001904, 13, 16, 1, 0, .device, [⟨31, 31, "VALID", .ro, 0⟩, ⟨8, 0, "SOURCE", .ro, 0⟩]⟩,
  ⟨"SYS.EVQ_COUNT", 0x2000001908, 13, 16, 1, 0, .device, [⟨6, 0, "COUNT", .ro, 0⟩]⟩,
  ⟨"SYS.EVQ_DROPS", 0x200000190C, 13, 16, 1, 0, .device, cntFields⟩]

/-- Registers of PWR (R101, R899). -/
def regsPwr : List RegInfo := [
  ⟨"PWR.DOM_ON", 0x2000010000, 1, 0, 1, 0, .device, [⟨15, 0, "ON", .ro, 0x0001⟩]⟩,
  ⟨"PWR.BAND_OP", 0x2000010010, 4, 4, 1, 0, .device, [⟨18, 16, "THERM", .ro, 0⟩, ⟨10, 8, "POLICY", .ro, 0⟩, ⟨2, 0, "OP", .ro, 0⟩]⟩,
  ⟨"PWR.TREE_OP", 0x2000010020, 1, 0, 1, 0, .device, [⟨18, 16, "THERM", .ro, 0⟩, ⟨10, 8, "POLICY", .ro, 0⟩, ⟨2, 0, "OP", .ro, 0⟩]⟩,
  ⟨"PWR.OP_CAP", 0x2000010024, 1, 0, 1, 0, .device, [⟨14, 12, "CAP_3", .rs, 5⟩, ⟨10, 8, "CAP_2", .rs, 5⟩, ⟨6, 4, "CAP_1", .rs, 5⟩, ⟨2, 0, "CAP_0", .rs, 5⟩]⟩,
  ⟨"PWR.AVS_CFG", 0x2000010028, 1, 0, 1, 0, .device, [⟨15, 8, "HIGH", .rf, 40⟩, ⟨7, 0, "LOW", .rf, 15⟩]⟩,
  ⟨"PWR.POLICY", 0x200001002C, 1, 0, 1, 0, .device, [⟨9, 0, "RAISE", .rs, 950⟩]⟩,
  ⟨"PWR.MEAS_MW", 0x2000010040, 1, 0, 1, 0, .device, [⟨15, 0, "MW", .ro, 0⟩]⟩,
  ⟨"PWR.THROT_CNT", 0x2000010044, 1, 0, 1, 0, .device, cntFields⟩,
  ⟨"PWR.TEMP", 0x2000010100, 64, 4, 1, 0, .device, [⟨15, 0, "TEMP", .ro, 0⟩]⟩,
  ⟨"PWR.COMMIT", 0x2000010FFC, 1, 0, 1, 0, .device, [⟨1, 1, "PEND", .ro, 0⟩, ⟨0, 0, "GO", .wo, 0⟩]⟩]

/-- Registers of MESH (R235, R900). -/
def regsMesh : List RegInfo := [
  ⟨"MESH.REF_STAT", 0x2000020000, 1, 0, 1, 0, .device, [⟨8, 8, "LOCKED", .ro, 0⟩, ⟨7, 7, "REQUAL", .ro, 0⟩, ⟨6, 6, "B_OK", .ro, 0⟩, ⟨5, 5, "A_OK", .ro, 0⟩, ⟨4, 4, "HANDOVER", .ro, 0⟩, ⟨1, 0, "SOURCE", .ro, 0⟩]⟩,
  ⟨"MESH.REF_CFG", 0x2000020004, 1, 0, 1, 0, .device, [⟨15, 0, "REQUAL_MS", .rf, 100⟩]⟩,
  ⟨"MESH.NODE_FAIL", 0x2000020010, 3, 4, 1, 0, .device, [⟨31, 0, "FAIL", .ro, 0⟩]⟩,
  ⟨"MESH.BORROW", 0x2000020020, 3, 4, 1, 0, .device, [⟨31, 0, "BORROW", .ro, 0⟩]⟩,
  ⟨"MESH.REF_SWITCH_CNT", 0x2000020030, 1, 0, 1, 0, .device, cntFields⟩,
  ⟨"MESH.ROWMAP", 0x2000020800, 8, 4, 1, 0, .device, [⟨31, 28, "COL_7", .ro, 0⟩, ⟨27, 24, "COL_6", .ro, 0⟩, ⟨23, 20, "COL_5", .ro, 0⟩, ⟨19, 16, "COL_4", .ro, 0⟩, ⟨15, 12, "COL_3", .ro, 0⟩, ⟨11, 8, "COL_2", .ro, 0⟩, ⟨7, 4, "COL_1", .ro, 0⟩, ⟨3, 0, "COL_0", .ro, 0⟩]⟩,
  ⟨"MESH.RETIRE_THR", 0x2000020900, 1, 0, 1, 0, .device, [⟨31, 24, "RTR", .rf, 16⟩, ⟨23, 16, "RES", .rf, 2⟩, ⟨15, 0, "ECC", .rf, 64⟩]⟩,
  ⟨"MESH.GRID", 0x2000020904, 1, 0, 1, 0, .device, [⟨31, 24, "LOGICAL", .ro, 0⟩, ⟨23, 16, "SPARES", .ro, 0⟩, ⟨15, 8, "HOLES", .ro, 0⟩, ⟨0, 0, "MODE", .ro, 0⟩]⟩,
  ⟨"MESH.FMAP_STAT", 0x2000020908, 1, 0, 1, 0, .device, [⟨8, 8, "WRITING", .ro, 0⟩, ⟨7, 7, "FULL", .ro, 0⟩, ⟨6, 0, "COUNT", .ro, 0⟩]⟩,
  ⟨"MESH.RETIRE_CMD", 0x200002090C, 1, 0, 1, 0, .device, [⟨31, 24, "KEY", .wo, 0⟩, ⟨6, 0, "TILE", .wo, 0⟩]⟩,
  ⟨"MESH.FACTORY", 0x2000020910, 3, 4, 1, 0, .device, [⟨31, 0, "BITS", .ro, 0⟩]⟩]

/-- Registers of TIME (R853). -/
def regsTime : List RegInfo := [
  ⟨"TIME.TB_NS", 0x2000030000, 1, 0, 1, 0, .device, [⟨31, 0, "NS", .ro, 0⟩]⟩,
  ⟨"TIME.LT_HI", 0x2000030004, 1, 0, 1, 0, .device, [⟨15, 0, "HI", .ro, 0⟩]⟩,
  ⟨"TIME.TB_INCR", 0x2000030008, 1, 0, 1, 0, .device, [⟨31, 0, "INCR", .rw, 0x04000000⟩]⟩,
  ⟨"TIME.TB_STEP", 0x200003000C, 1, 0, 1, 0, .device, [⟨31, 0, "STEP", .rf, 0⟩]⟩,
  ⟨"TIME.STAT", 0x2000030010, 1, 0, 1, 0, .device, [⟨1, 1, "INCR_ERR", .w1c, 0⟩, ⟨0, 0, "REF_B", .ro, 0⟩]⟩]

/-- Registers of LOG (R1003). -/
def regsLog0 : List RegInfo := [
  ⟨"LOG.POH", 0x2000040000, 1, 0, 1, 0, .device, [⟨31, 0, "HOURS", .ro, 0⟩]⟩,
  ⟨"LOG.POH_SEC", 0x2000040004, 1, 0, 1, 0, .device, [⟨11, 0, "SEC", .ro, 0⟩]⟩,
  ⟨"LOG.THERMAL", 0x2000040008, 1, 0, 1, 0, .device, [⟨31, 0, "COUNT", .ro, 0⟩]⟩,
  ⟨"LOG.MFL_LOADS", 0x200004000C, 1, 0, 1, 0, .device, [⟨31, 0, "COUNT", .ro, 0⟩]⟩,
  ⟨"LOG.DEFECTS", 0x2000040010, 1, 0, 1, 0, .device, [⟨15, 0, "COUNT", .ro, 0⟩]⟩,
  ⟨"LOG.OVF", 0x2000040014, 1, 0, 1, 0, .device, [⟨6, 6, "TILE", .w1c, 0⟩, ⟨5, 5, "REMOTE", .w1c, 0⟩, ⟨4, 4, "FIO", .w1c, 0⟩, ⟨3, 3, "DEFECTS", .w1c, 0⟩, ⟨2, 2, "MFL", .w1c, 0⟩, ⟨1, 1, "THERMAL", .w1c, 0⟩, ⟨0, 0, "POH", .w1c, 0⟩]⟩,
  ⟨"LOG.MIRROR", 0x2000040018, 1, 0, 1, 0, .device, [⟨31, 31, "RESTORED", .ro, 0⟩, ⟨30, 30, "BUSY", .ro, 0⟩, ⟨29, 29, "FAIL", .w1c, 0⟩, ⟨0, 0, "SYNC", .wo, 0⟩]⟩,
  ⟨"LOG.MIRROR_SEQ", 0x200004001C, 1, 0, 1, 0, .device, [⟨31, 0, "SEQ", .ro, 0⟩]⟩,
  ⟨"LOG.REMOTE_USED", 0x2000040020, 1, 0, 1, 0, .device, [⟨8, 0, "USED", .ro, 0⟩]⟩,
  ⟨"LOG.UNSLOTTED", 0x2000040024, 1, 0, 1, 0, .device, [⟨31, 0, "COUNT", .ro, 0⟩]⟩,
  ⟨"LOG.CAL_LO", 0x2000040030, 1, 0, 1, 0, .device, [⟨31, 0, "SEC", .ro, 0⟩]⟩,
  ⟨"LOG.CAL_HI", 0x2000040034, 1, 0, 1, 0, .device, [⟨31, 0, "SEC", .ro, 0⟩]⟩,
  ⟨"LOG.CAL_SET_LO", 0x2000040038, 1, 0, 1, 0, .device, [⟨31, 0, "SEC", .rw, 0⟩]⟩,
  ⟨"LOG.CAL_SET_HI", 0x200004003C, 1, 0, 1, 0, .device, [⟨31, 0, "SEC", .rw, 0⟩]⟩]

/-- Registers of LOG (R1003). -/
def regsLog1 : List RegInfo := [
  ⟨"LOG.CAL_CTRL", 0x2000040040, 1, 0, 1, 0, .device, [⟨10, 10, "LOST", .w1c, 0⟩, ⟨8, 8, "VALID", .ro, 0⟩, ⟨0, 0, "SET", .wo, 0⟩]⟩,
  ⟨"LOG.FIO_LO", 0x2000040100, 32, 8, 1, 0, .device, [⟨31, 0, "COUNT", .ro, 0⟩]⟩,
  ⟨"LOG.FIO_HI", 0x2000040104, 32, 8, 1, 0, .device, [⟨7, 0, "COUNT", .ro, 0⟩]⟩,
  ⟨"LOG.TILE_ECC", 0x2000040200, 72, 4, 1, 0, .device, [⟨31, 0, "COUNT", .ro, 0⟩]⟩,
  ⟨"LOG.REM_LO", 0x2000040400, 256, 16, 1, 0, .device, [⟨31, 0, "COUNT", .ro, 0⟩]⟩,
  ⟨"LOG.REM_HI", 0x2000040404, 256, 16, 1, 0, .device, [⟨15, 8, "RCH", .ro, 0⟩, ⟨7, 0, "COUNT", .ro, 0⟩]⟩,
  ⟨"LOG.REM_SER_LO", 0x2000040408, 256, 16, 1, 0, .device, [⟨31, 0, "SERIAL", .ro, 0⟩]⟩,
  ⟨"LOG.REM_SER_HI", 0x200004040C, 256, 16, 1, 0, .device, [⟨31, 0, "SERIAL", .ro, 0⟩]⟩]

/-- Registers of UART (R1038). -/
def regsUart : List RegInfo := [
  ⟨"UART.DATA", 0x2000060000, 2, 256, 1, 0, .device, [⟨8, 8, "VALID", .ro, 0⟩, ⟨7, 0, "BYTE", .rw, 0⟩]⟩,
  ⟨"UART.STAT", 0x2000060004, 2, 256, 1, 0, .device, [⟨22, 16, "TX_LEVEL", .ro, 0⟩, ⟨14, 8, "RX_LEVEL", .ro, 0⟩, ⟨1, 1, "FRAME_ERR", .w1c, 0⟩, ⟨0, 0, "OVERRUN", .w1c, 0⟩]⟩,
  ⟨"UART.CFG", 0x2000060008, 2, 256, 1, 0, .device, [⟨18, 18, "STOP2", .rw, 0⟩, ⟨17, 17, "ODD", .rw, 0⟩, ⟨16, 16, "PARITY", .rw, 0⟩, ⟨15, 0, "DIV", .rw, 434⟩]⟩]

/-- Registers of I2C (R1038). -/
def regsI2c : List RegInfo := [
  ⟨"I2C.CMD", 0x2000060200, 2, 256, 1, 0, .device, [⟨15, 8, "DATA", .wo, 0⟩, ⟨2, 0, "OP", .wo, 0⟩]⟩,
  ⟨"I2C.RX", 0x2000060204, 2, 256, 1, 0, .device, [⟨8, 8, "VALID", .ro, 0⟩, ⟨7, 0, "BYTE", .ro, 0⟩]⟩,
  ⟨"I2C.STAT", 0x2000060208, 2, 256, 1, 0, .device, [⟨3, 3, "NACK", .w1c, 0⟩, ⟨1, 1, "BUSY", .ro, 0⟩, ⟨0, 0, "EMPTY", .ro, 1⟩]⟩,
  ⟨"I2C.CFG", 0x200006020C, 2, 256, 1, 0, .device, [⟨1, 0, "SPEED", .rw, 0⟩]⟩]

/-- Registers of GPIO (R1038). -/
def regsGpio : List RegInfo := [
  ⟨"GPIO.DIR", 0x2000060400, 1, 0, 1, 0, .device, [⟨15, 0, "DIR", .rw, 0⟩]⟩,
  ⟨"GPIO.OUT", 0x2000060404, 1, 0, 1, 0, .device, [⟨15, 0, "OUT", .rw, 0⟩]⟩,
  ⟨"GPIO.IN", 0x2000060408, 1, 0, 1, 0, .device, [⟨15, 0, "IN", .ro, 0⟩]⟩,
  ⟨"GPIO.EDGE", 0x200006040C, 1, 0, 1, 0, .device, [⟨31, 16, "FALL", .rw, 0⟩, ⟨15, 0, "RISE", .rw, 0⟩]⟩]

/-- Registers of KHAN (R390). -/
def regsKhan0 : List RegInfo := [
  ⟨"KHAN.CTRL", 0x2000100000, 1, 0, 1, 0, .device, [⟨0, 0, "PLACE_EN", .rw, 1⟩]⟩,
  ⟨"KHAN.PLACE_CFG", 0x2000100004, 1, 0, 1, 0, .device, [⟨31, 24, "HIGH", .rs, 85⟩, ⟨23, 16, "LOW", .rs, 40⟩, ⟨15, 0, "WINDOW", .rs, 1000⟩]⟩,
  ⟨"KHAN.FREE", 0x2000100008, 1, 0, 1, 0, .device, [⟨23, 16, "CAPACITY", .ro, 0⟩, ⟨7, 0, "FREE", .ro, 0⟩]⟩,
  ⟨"KHAN.LAST_MOVE", 0x200010000C, 1, 0, 1, 0, .device, [⟨31, 31, "VALID", .ro, 0⟩, ⟨27, 24, "TO", .ro, 0⟩, ⟨23, 23, "TO_FREE", .ro, 0⟩, ⟨19, 16, "FROM", .ro, 0⟩, ⟨15, 15, "FROM_FREE", .ro, 0⟩, ⟨6, 0, "TILE", .ro, 0⟩]⟩,
  ⟨"KHAN.STN_TILES", 0x2000100100, 16, 64, 1, 0, .station, [⟨31, 24, "GUAR", .ro, 0⟩, ⟨23, 16, "HELD", .ro, 0⟩, ⟨15, 8, "MODEL", .ro, 0⟩, ⟨7, 0, "DECODE", .ro, 0⟩]⟩,
  ⟨"KHAN.STN_SHAPE", 0x2000100104, 16, 64, 1, 0, .station, [⟨15, 8, "INST", .ro, 0⟩, ⟨7, 0, "FOLD", .ro, 0⟩]⟩,
  ⟨"KHAN.STN_PAGES", 0x2000100108, 16, 64, 1, 0, .station, [⟨28, 16, "RESIDENT", .ro, 0⟩, ⟨12, 0, "GRANTED", .ro, 0⟩]⟩,
  ⟨"KHAN.STN_JOBS", 0x200010010C, 16, 64, 1, 0, .station, [⟨22, 16, "RESERVED", .ro, 0⟩, ⟨6, 0, "QUEUED", .ro, 0⟩]⟩,
  ⟨"KHAN.STN_BUSY", 0x2000100110, 16, 64, 1, 0, .station, [⟨25, 16, "BW", .ro, 0⟩, ⟨9, 0, "BUSY", .ro, 0⟩]⟩,
  ⟨"KHAN.STN_DROP", 0x2000100114, 16, 64, 1, 0, .station, cntFields⟩,
  ⟨"KHAN.STN_ISO", 0x2000100118, 16, 64, 1, 0, .station, cntFields⟩,
  ⟨"KHAN.STN_STALL", 0x200010011C, 16, 64, 1, 0, .station, cntFields⟩,
  ⟨"KHAN.STN_IDROP", 0x2000100120, 16, 64, 1, 0, .station, cntFields⟩,
  ⟨"KHAN.STN_CFG", 0x2000100124, 16, 64, 1, 0, .station, [⟨0, 0, "PIN", .rf, 0⟩]⟩]

/-- Registers of KHAN (R101). -/
def regsKhan1 : List RegInfo := [
  ⟨"KHAN.COMMIT", 0x2000100FFC, 1, 0, 1, 0, .device, [⟨1, 1, "PEND", .ro, 0⟩, ⟨0, 0, "GO", .wo, 0⟩]⟩]

/-- Registers of MFL (R144). -/
def regsMfl : List RegInfo := [
  ⟨"MFL.CMD", 0x2000110000, 1, 0, 1, 0, .device, [⟨11, 8, "STATION", .wo, 0⟩, ⟨3, 0, "CMD", .wo, 0⟩]⟩,
  ⟨"MFL.SRC_LO", 0x2000110004, 1, 0, 1, 0, .device, [⟨31, 0, "ADDR", .rw, 0⟩]⟩,
  ⟨"MFL.SRC_HI", 0x2000110008, 1, 0, 1, 0, .device, [⟨7, 0, "ADDR", .rw, 0⟩]⟩,
  ⟨"MFL.LEN", 0x200011000C, 1, 0, 1, 0, .device, [⟨31, 0, "LEN", .rw, 0⟩]⟩,
  ⟨"MFL.STATUS", 0x2000110010, 1, 0, 1, 0, .device, [⟨31, 31, "BUSY", .ro, 0⟩, ⟨23, 16, "SECTION", .ro, 0⟩, ⟨12, 8, "BLOCK", .ro, 0⟩, ⟨7, 0, "RESULT", .ro, 0⟩]⟩,
  ⟨"MFL.ERR_OFFSET", 0x2000110014, 1, 0, 1, 0, .device, [⟨31, 0, "OFFSET", .ro, 0⟩]⟩,
  ⟨"MFL.ACTIVE", 0x2000110018, 1, 0, 1, 0, .device, [⟨31, 31, "VALID", .ro, 0⟩, ⟨1, 0, "KEY_SLOT", .ro, 0⟩]⟩,
  ⟨"MFL.PENDING", 0x200011001C, 1, 0, 1, 0, .device, [⟨15, 0, "PEND", .ro, 0⟩]⟩,
  ⟨"MFL.DEV_GEN", 0x2000110020, 1, 0, 1, 0, .device, [⟨31, 0, "GEN", .ro, 0⟩]⟩,
  ⟨"MFL.STN_GEN", 0x2000110040, 16, 4, 1, 0, .device, [⟨31, 0, "GEN", .ro, 0⟩]⟩]

/-- Registers of LANE (R559). -/
def regsLane0 : List RegInfo := [
  ⟨"LANE.CFG", 0x2000200000, 24, 0x1000, 1, 0, .device, [⟨5, 4, "USE", .ro, 0⟩, ⟨2, 0, "RATE", .ro, 7⟩]⟩,
  ⟨"LANE.STAT", 0x2000200004, 24, 0x1000, 1, 0, .device, [⟨15, 8, "EB_FILL", .ro, 0⟩, ⟨6, 4, "TRAIN", .ro, 0⟩, ⟨3, 2, "PSTATE", .ro, 0⟩, ⟨1, 1, "PLL", .ro, 0⟩, ⟨0, 0, "LOCK", .ro, 0⟩]⟩,
  ⟨"LANE.TXFIR", 0x2000200008, 24, 0x1000, 1, 0, .device, [⟨31, 31, "ERR", .ro, 0⟩, ⟨20, 16, "POST", .rs, 16⟩, ⟨13, 8, "MAIN", .rs, 47⟩, ⟨3, 0, "PRE", .rs, 0⟩]⟩,
  ⟨"LANE.TXFIR_NOW", 0x200020000C, 24, 0x1000, 1, 0, .device, [⟨20, 16, "POST", .ro, 16⟩, ⟨13, 8, "MAIN", .ro, 47⟩, ⟨3, 0, "PRE", .ro, 0⟩]⟩,
  ⟨"LANE.RXEQ", 0x2000200010, 24, 0x1000, 1, 0, .device, [⟨9, 9, "DFE_FRZ", .rw, 0⟩, ⟨8, 8, "CTLE_FRZ", .rw, 0⟩, ⟨3, 0, "CTLE", .ro, 0⟩]⟩,
  ⟨"LANE.DFE", 0x2000200014, 24, 0x1000, 1, 0, .device, [⟨31, 26, "T5", .ro, 0⟩, ⟨25, 20, "T4", .ro, 0⟩, ⟨19, 14, "T3", .ro, 0⟩, ⟨13, 8, "T2", .ro, 0⟩, ⟨6, 0, "T1", .ro, 0⟩]⟩,
  ⟨"LANE.EYE", 0x2000200018, 24, 0x1000, 1, 0, .device, [⟨23, 16, "WIDTH", .ro, 0⟩, ⟨7, 0, "HEIGHT", .ro, 0⟩]⟩,
  ⟨"LANE.BC", 0x200020001C, 24, 0x1000, 1, 0, .device, [⟨31, 16, "STATUS", .ro, 0⟩, ⟨15, 0, "REQUEST", .ro, 0⟩]⟩,
  ⟨"LANE.PRBS", 0x2000200020, 24, 0x1000, 1, 0, .device, [⟨4, 4, "LOOP", .rf, 0⟩, ⟨3, 3, "CHK", .rf, 0⟩, ⟨2, 2, "GEN", .rf, 0⟩, ⟨1, 0, "PAT", .rf, 0⟩]⟩,
  ⟨"LANE.PRBS_ERR", 0x2000200024, 24, 0x1000, 1, 0, .device, cntFields⟩,
  ⟨"LANE.CODE_ERR", 0x2000200028, 24, 0x1000, 1, 0, .device, cntFields⟩,
  ⟨"LANE.EB_SLIP", 0x200020002C, 24, 0x1000, 1, 0, .device, cntFields⟩,
  ⟨"LANE.SKIP_INS", 0x2000200030, 24, 0x1000, 1, 0, .device, cntFields⟩,
  ⟨"LANE.SKIP_DEL", 0x2000200034, 24, 0x1000, 1, 0, .device, cntFields⟩]

/-- Registers of LANE (R101, R559). -/
def regsLane1 : List RegInfo := [
  ⟨"LANE.TRAIN_FAIL", 0x2000200038, 24, 0x1000, 1, 0, .device, cntFields⟩,
  ⟨"LANE.GRP", 0x2000200100, 6, 0x4000, 1, 0, .device, [⟨8, 8, "LREF_OK", .ro, 0⟩, ⟨1, 0, "REF", .ro, 0⟩]⟩,
  ⟨"LANE.COMMIT", 0x2000200FFC, 24, 0x1000, 1, 0, .device, [⟨1, 1, "PEND", .ro, 0⟩, ⟨0, 0, "GO", .wo, 0⟩]⟩]

/-- Registers of SLINK (R101, R633). -/
def regsSlink : List RegInfo := [
  ⟨"SLINK.STAT", 0x2000300000, 16, 0x1000, 1, 0, .device, [⟨31, 31, "UP", .ro, 0⟩, ⟨22, 16, "ACTIVE", .ro, 0⟩, ⟨14, 0, "REPLAY_USE", .ro, 0⟩]⟩,
  ⟨"SLINK.TIME_CFG", 0x2000300004, 16, 0x1000, 1, 0, .device, [⟨15, 0, "IVL", .rs, 100⟩]⟩,
  ⟨"SLINK.CRC_ERR", 0x2000300010, 16, 0x1000, 1, 0, .device, cntFields⟩,
  ⟨"SLINK.NAK_TX", 0x2000300014, 16, 0x1000, 1, 0, .device, cntFields⟩,
  ⟨"SLINK.REPLAY", 0x2000300018, 16, 0x1000, 1, 0, .device, cntFields⟩,
  ⟨"SLINK.STOMP", 0x200030001C, 16, 0x1000, 1, 0, .device, cntFields⟩,
  ⟨"SLINK.BAD_TYPE", 0x2000300020, 16, 0x1000, 1, 0, .device, cntFields⟩,
  ⟨"SLINK.EP_STAT", 0x2000300400, 16, 0x1000, 64, 0x20, .device, [⟨31, 16, "DELAY", .ro, 0⟩, ⟨15, 8, "CLASS", .ro, 0⟩, ⟨3, 0, "STATE", .ro, 0⟩]⟩,
  ⟨"SLINK.EP_OFFSET", 0x2000300404, 16, 0x1000, 64, 0x20, .device, [⟨31, 0, "OFFSET", .ro, 0⟩]⟩,
  ⟨"SLINK.EP_REJ", 0x2000300408, 16, 0x1000, 64, 0x20, .device, [⟨7, 0, "RESULT", .ro, 0⟩]⟩,
  ⟨"SLINK.EP_RPT_LO", 0x200030040C, 16, 0x1000, 64, 0x20, .device, [⟨31, 0, "VALUE", .ro, 0⟩]⟩,
  ⟨"SLINK.EP_RPT_HI", 0x2000300410, 16, 0x1000, 64, 0x20, .device, [⟨31, 0, "VALUE", .ro, 0⟩]⟩,
  ⟨"SLINK.EP_RPT_TIME", 0x2000300414, 16, 0x1000, 64, 0x20, .device, [⟨31, 0, "TIME", .ro, 0⟩]⟩,
  ⟨"SLINK.COMMIT", 0x2000300FFC, 16, 0x1000, 1, 0, .device, [⟨1, 1, "PEND", .ro, 0⟩, ⟨0, 0, "GO", .wo, 0⟩]⟩]

/-- Registers of ETH (R854). -/
def regsEth : List RegInfo := [
  ⟨"ETH.PTP_CTRL", 0x2000400800, 2, 0x10000, 1, 0, .device, [⟨1, 1, "UDP_EN", .rw, 0⟩, ⟨0, 0, "L2_EN", .rw, 0⟩]⟩,
  ⟨"ETH.PTP_TS_LO", 0x2000400810, 2, 0x10000, 2, 0x20, .device, [⟨31, 0, "LT", .ro, 0⟩]⟩,
  ⟨"ETH.PTP_TS_HI", 0x2000400814, 2, 0x10000, 2, 0x20, .device, [⟨15, 0, "LT", .ro, 0⟩]⟩,
  ⟨"ETH.PTP_TS_ID", 0x2000400818, 2, 0x10000, 2, 0x20, .device, [⟨31, 16, "SEQ", .ro, 0⟩, ⟨15, 8, "DOMAIN", .ro, 0⟩, ⟨3, 0, "MSGTYPE", .ro, 0⟩]⟩,
  ⟨"ETH.PTP_TS_CNT", 0x200040081C, 2, 0x10000, 2, 0x20, .device, [⟨6, 0, "COUNT", .ro, 0⟩]⟩,
  ⟨"ETH.PTP_DROP", 0x2000400840, 2, 0x10000, 1, 0, .device, cntFields⟩]

/-- Registers of INTAKE (R504). -/
def regsIntake : List RegInfo := [
  ⟨"INTAKE.CAPTURE", 0x2000500040, 1, 0, 1, 0, .device, [⟨31, 31, "BUSY", .ro, 0⟩, ⟨8, 8, "GO", .wo, 0⟩, ⟨4, 0, "CAM", .rw, 0⟩]⟩,
  ⟨"INTAKE.CAPTURE_ADDR_LO", 0x2000500044, 1, 0, 1, 0, .device, [⟨31, 0, "ADDR", .rw, 0⟩]⟩,
  ⟨"INTAKE.CAPTURE_ADDR_HI", 0x2000500048, 1, 0, 1, 0, .device, [⟨7, 0, "ADDR", .rw, 0⟩]⟩,
  ⟨"INTAKE.CAM_CFG", 0x2000500100, 32, 32, 1, 0, .camera, [⟨31, 24, "LINE_TMO", .rf, 20⟩, ⟨19, 16, "TRI_GAP", .rf, 0⟩, ⟨11, 8, "BL_K", .rs, 6⟩]⟩,
  ⟨"INTAKE.CAM_DARK", 0x2000500104, 32, 32, 1, 0, .camera, [⟨29, 16, "FIRST", .rs, 0⟩, ⟨7, 0, "N", .rs, 0⟩]⟩,
  ⟨"INTAKE.CAM_BL", 0x2000500108, 32, 32, 1, 0, .camera, [⟨31, 16, "BL1", .ro, 0⟩, ⟨15, 0, "BL0", .ro, 0⟩]⟩,
  ⟨"INTAKE.CAM_BL2", 0x200050010C, 32, 32, 1, 0, .camera, [⟨15, 0, "BL2", .ro, 0⟩]⟩,
  ⟨"INTAKE.CAM_LATE", 0x2000500110, 32, 32, 1, 0, .camera, cntFields⟩,
  ⟨"INTAKE.CAM_OVLP", 0x2000500114, 32, 32, 1, 0, .camera, cntFields⟩,
  ⟨"INTAKE.CAM_SPILLOVER", 0x2000500118, 32, 32, 1, 0, .camera, cntFields⟩,
  ⟨"INTAKE.ROI_CFG", 0x2000500800, 16, 16, 1, 0, .station, [⟨31, 31, "EN", .rs, 0⟩, ⟨27, 16, "LAYER", .rs, 0⟩, ⟨15, 8, "THR_FULL", .rs, 0⟩, ⟨7, 0, "THR_DEC", .rs, 0⟩]⟩,
  ⟨"INTAKE.ROI_CFG2", 0x2000500804, 16, 16, 1, 0, .station, [⟨15, 8, "MARGIN", .rs, 1⟩, ⟨3, 0, "DECIM", .rs, 2⟩]⟩,
  ⟨"INTAKE.ROI_LAST", 0x2000500808, 16, 16, 1, 0, .station, [⟨31, 31, "NONE", .ro, 1⟩, ⟨24, 16, "X1", .ro, 0⟩, ⟨8, 0, "X0", .ro, 0⟩]⟩]

/-- Registers of ISP (R505). -/
def regsIsp0 : List RegInfo := [
  ⟨"ISP.REPLAY", 0x2000510040, 1, 0, 1, 0, .device, [⟨8, 8, "GO", .wo, 0⟩, ⟨3, 0, "STATION", .rw, 0⟩]⟩,
  ⟨"ISP.REPLAY_ADDR_LO", 0x2000510044, 1, 0, 1, 0, .device, [⟨31, 0, "ADDR", .rw, 0⟩]⟩,
  ⟨"ISP.REPLAY_ADDR_HI", 0x2000510048, 1, 0, 1, 0, .device, [⟨7, 0, "ADDR", .rw, 0⟩]⟩,
  ⟨"ISP.REPLAY_STAT", 0x200051004C, 1, 0, 1, 0, .device, [⟨31, 31, "BUSY", .ro, 0⟩, ⟨7, 0, "RESULT", .ro, 0⟩]⟩,
  ⟨"ISP.CTX_STAT", 0x2000510100, 16, 64, 1, 0, .context, [⟨31, 31, "BUSY", .ro, 0⟩, ⟨30, 30, "INLINE", .ro, 0⟩, ⟨19, 16, "STATION", .ro, 0⟩]⟩,
  ⟨"ISP.DISP_BASE_LO", 0x2000510104, 16, 64, 1, 0, .context, [⟨31, 0, "ADDR", .rs, 0⟩]⟩,
  ⟨"ISP.DISP_BASE_HI", 0x2000510108, 16, 64, 1, 0, .context, [⟨7, 0, "ADDR", .rs, 0⟩]⟩,
  ⟨"ISP.DISP_LINES", 0x200051010C, 16, 64, 1, 0, .context, [⟨15, 0, "LINES", .rs, 0⟩]⟩,
  ⟨"ISP.DISP_WR", 0x2000510110, 16, 64, 1, 0, .context, [⟨15, 0, "INDEX", .ro, 0⟩]⟩,
  ⟨"ISP.DISP_RD", 0x2000510114, 16, 64, 1, 0, .context, [⟨15, 0, "INDEX", .rw, 0⟩]⟩,
  ⟨"ISP.DISP_DROP", 0x2000510118, 16, 64, 1, 0, .context, cntFields⟩,
  ⟨"ISP.CODE_BASE_LO", 0x200051011C, 16, 64, 1, 0, .context, [⟨31, 0, "ADDR", .rs, 0⟩]⟩,
  ⟨"ISP.CODE_BASE_HI", 0x2000510120, 16, 64, 1, 0, .context, [⟨7, 0, "ADDR", .rs, 0⟩]⟩,
  ⟨"ISP.CODE_FRAMES", 0x2000510124, 16, 64, 1, 0, .context, [⟨4, 0, "FRAMES", .rs, 0⟩]⟩]

/-- Registers of ISP (R505). -/
def regsIsp1 : List RegInfo := [
  ⟨"ISP.CODE_WR", 0x2000510128, 16, 64, 1, 0, .context, [⟨4, 0, "INDEX", .ro, 0⟩]⟩,
  ⟨"ISP.CODE_RD", 0x200051012C, 16, 64, 1, 0, .context, [⟨4, 0, "INDEX", .rw, 0⟩]⟩,
  ⟨"ISP.CODE_DROP", 0x2000510130, 16, 64, 1, 0, .context, cntFields⟩]

/-- Registers of TREE (R446). -/
def regsTree : List RegInfo := [
  ⟨"TREE.STAT", 0x2000600000, 1, 0, 1, 0, .device, [⟨31, 31, "BUSY", .ro, 0⟩, ⟨27, 24, "STATION", .ro, 0⟩, ⟨18, 16, "ENSEMBLE", .ro, 0⟩, ⟨6, 0, "BATCH", .ro, 0⟩]⟩,
  ⟨"TREE.STN_PASS", 0x2000600100, 16, 16, 1, 0, .device, cntFields⟩,
  ⟨"TREE.STN_ERR", 0x2000600104, 16, 16, 1, 0, .device, cntFields⟩,
  ⟨"TREE.DEC_STAT", 0x2000600800, 16, 32, 2, 16, .device, [⟨29, 28, "STATE", .ro, 0⟩, ⟨23, 16, "POS", .ro, 0⟩, ⟨11, 0, "LAST", .ro, 0⟩]⟩,
  ⟨"TREE.DEC_TOK", 0x2000600804, 16, 32, 2, 16, .device, cntFields⟩,
  ⟨"TREE.DEC_CUT", 0x2000600808, 16, 32, 2, 16, .device, cntFields⟩,
  ⟨"TREE.DEC_NOROI", 0x200060080C, 16, 32, 2, 16, .device, cntFields⟩]

/-- Registers of VERDICT (R769). -/
def regsVerdict : List RegInfo := [
  ⟨"VERDICT.LAST_BALE", 0x2000700100, 16, 16, 1, 0, .device, [⟨31, 0, "BALE", .ro, 0⟩]⟩,
  ⟨"VERDICT.LAST", 0x2000700104, 16, 16, 1, 0, .device, [⟨23, 16, "OUTCOME", .ro, 0⟩, ⟨12, 8, "RULE", .ro, 0⟩]⟩,
  ⟨"VERDICT.MISMATCH", 0x2000700108, 16, 16, 1, 0, .device, cntFields⟩]

/-- Registers of MILE (R101, R770). -/
def regsMile0 : List RegInfo := [
  ⟨"MILE.REMOTE_CFG", 0x2000710000, 1, 0, 1, 0, .device, [⟨15, 0, "AHEAD_US", .rs, 500⟩]⟩,
  ⟨"MILE.STN_CTRL", 0x2000710100, 16, 64, 1, 0, .station, [⟨3, 3, "CANCEL_ALL", .wo, 0⟩, ⟨2, 2, "STOP_CLR", .wo, 0⟩, ⟨1, 1, "STOP_SET", .wo, 0⟩, ⟨0, 0, "TRIG_EN", .rw, 0⟩]⟩,
  ⟨"MILE.STN_POLICY", 0x2000710104, 16, 64, 1, 0, .station, [⟨1, 1, "REV_STOP", .rf, 0⟩, ⟨0, 0, "RB_STOP", .rf, 0⟩]⟩,
  ⟨"MILE.STN_STAT", 0x2000710108, 16, 64, 1, 0, .station, [⟨31, 31, "STOP", .ro, 0⟩, ⟨30, 30, "ARM_ERR", .w1c, 0⟩, ⟨21, 16, "CAUSE", .ro, 0⟩, ⟨12, 0, "LIVE", .ro, 0⟩]⟩,
  ⟨"MILE.STN_PART", 0x200071010C, 16, 64, 1, 0, .station, [⟨28, 16, "COUNT", .ro, 0⟩, ⟨11, 0, "FIRST", .ro, 0⟩]⟩,
  ⟨"MILE.STN_DEFAULT", 0x2000710110, 16, 64, 1, 0, .station, cntFields⟩,
  ⟨"MILE.STN_TRIGOVF", 0x2000710114, 16, 64, 1, 0, .station, cntFields⟩,
  ⟨"MILE.STN_LATE", 0x2000710118, 16, 64, 1, 0, .station, cntFields⟩,
  ⟨"MILE.STN_MISSED", 0x200071011C, 16, 64, 1, 0, .station, cntFields⟩,
  ⟨"MILE.STN_RBFAIL", 0x2000710120, 16, 64, 1, 0, .station, cntFields⟩,
  ⟨"MILE.STN_TRIG_IGN", 0x2000710124, 16, 64, 1, 0, .station, cntFields⟩,
  ⟨"MILE.COMMIT", 0x2000710FFC, 1, 0, 1, 0, .device, [⟨1, 1, "PEND", .ro, 0⟩, ⟨0, 0, "GO", .wo, 0⟩]⟩,
  ⟨"MILE.ENT_BALE", 0x2000720000, 4096, 32, 1, 0, .device, [⟨31, 0, "BALE", .ro, 0⟩]⟩,
  ⟨"MILE.ENT_DEAD_LO", 0x2000720004, 4096, 32, 1, 0, .device, [⟨31, 0, "P_DEAD", .ro, 0⟩]⟩]

/-- Registers of MILE (R770). -/
def regsMile1 : List RegInfo := [
  ⟨"MILE.ENT_DEAD_HI", 0x2000720008, 4096, 32, 1, 0, .device, [⟨31, 16, "PULSE_US", .ro, 0⟩, ⟨15, 0, "P_DEAD", .ro, 0⟩]⟩,
  ⟨"MILE.ENT_FIRE_LO", 0x200072000C, 4096, 32, 1, 0, .device, [⟨31, 0, "P_FIRE", .ro, 0⟩]⟩,
  ⟨"MILE.ENT_FIRE_HI", 0x2000720010, 4096, 32, 1, 0, .device, [⟨23, 16, "OUTCOME", .ro, 0xFF⟩, ⟨15, 0, "P_FIRE", .ro, 0⟩]⟩,
  ⟨"MILE.ENT_CTL", 0x2000720014, 4096, 32, 1, 0, .device, [⟨31, 28, "STATION", .ro, 0⟩, ⟨26, 24, "STATE", .ro, 0⟩, ⟨23, 23, "REMOTE", .ro, 0⟩, ⟨22, 22, "DEFAULTED", .ro, 0⟩, ⟨21, 21, "LATE", .ro, 0⟩, ⟨19, 16, "LINK", .ro, 0⟩, ⟨13, 8, "CH", .ro, 0⟩, ⟨7, 0, "RCH", .ro, 0⟩]⟩]

/-- Registers of FIO (R723). -/
def regsFio : List RegInfo := [
  ⟨"FIO.CFG", 0x2000800000, 32, 32, 1, 0, .fio, [⟨20, 20, "DEVOWN", .ro, 0⟩, ⟨19, 16, "OWNER", .ro, 0⟩, ⟨9, 8, "INTYPE", .ro, 0⟩, ⟨7, 0, "FUNC", .ro, 0⟩]⟩,
  ⟨"FIO.FILT", 0x2000800004, 32, 32, 1, 0, .fio, [⟨31, 30, "GATE", .rf, 0⟩, ⟨29, 16, "FILTER_US", .rf, 0⟩, ⟨5, 0, "SETTLE_US", .rf, 20⟩]⟩,
  ⟨"FIO.DRIVE", 0x2000800008, 32, 32, 1, 0, .fio, [⟨22, 16, "HOLD_DUTY", .rf, 0⟩, ⟨15, 0, "PEAK_US", .rf, 0⟩]⟩,
  ⟨"FIO.CTRL", 0x200080000C, 32, 32, 1, 0, .fio, [⟨5, 5, "REARM", .wo, 0⟩, ⟨4, 4, "CNT_CLR", .wo, 0⟩, ⟨1, 1, "WB_EN", .rf, 0⟩, ⟨0, 0, "ON", .rw, 0⟩]⟩,
  ⟨"FIO.TEST", 0x2000800010, 32, 32, 1, 0, .fio, [⟨31, 31, "GO", .rf, 0⟩, ⟨15, 0, "PULSE_US", .rf, 0⟩]⟩,
  ⟨"FIO.STAT", 0x2000800014, 32, 32, 1, 0, .fio, [⟨7, 7, "UV", .ro, 0⟩, ⟨6, 6, "WRAPPED", .w1c, 0⟩, ⟨5, 5, "THERM", .w1c, 0⟩, ⟨4, 4, "OC_TRIP", .w1c, 0⟩, ⟨3, 3, "OPEN", .w1c, 0⟩, ⟨2, 2, "RB_FAIL", .w1c, 0⟩, ⟨1, 1, "OUT", .ro, 0⟩, ⟨0, 0, "LEVEL", .ro, 0⟩]⟩,
  ⟨"FIO.CNT", 0x2000800018, 32, 32, 1, 0, .fio, [⟨31, 0, "COUNT", .ro, 0⟩]⟩,
  ⟨"FIO.FREQ", 0x200080001C, 32, 32, 1, 0, .fio, [⟨31, 0, "MHZ", .ro, 0⟩]⟩,
  ⟨"FIO.GRP", 0x2000800C00, 4, 4, 1, 0, .device, [⟨17, 17, "REARM", .wo, 0⟩, ⟨16, 16, "GRP_OC", .w1c, 0⟩, ⟨15, 0, "CURRENT", .ro, 0⟩]⟩,
  ⟨"FIO.SUPPLY", 0x2000800C10, 1, 0, 1, 0, .device, [⟨31, 31, "UV_B", .ro, 0⟩, ⟨30, 30, "UV_A", .ro, 0⟩, ⟨27, 16, "V24_B", .ro, 0⟩, ⟨11, 0, "V24_A", .ro, 0⟩]⟩,
  ⟨"FIO.RB_FAIL_CNT", 0x2000800C14, 1, 0, 1, 0, .device, cntFields⟩]

/-- Registers of ODO (R682). -/
def regsOdo0 : List RegInfo := [
  ⟨"ODO.CFG", 0x2000800400, 16, 64, 1, 0, .odo, [⟨31, 24, "DIR_HYST", .rf, 0⟩, ⟨17, 16, "INDEX", .rf, 0⟩, ⟨14, 8, "FILTER", .rf, 0⟩, ⟨4, 0, "MODE", .rf, 0⟩]⟩,
  ⟨"ODO.CPR", 0x2000800404, 16, 64, 1, 0, .odo, [⟨31, 0, "CPR", .rf, 0⟩]⟩,
  ⟨"ODO.CTRL", 0x2000800408, 16, 64, 1, 0, .odo, [⟨1, 1, "FORCE_BAD", .rw, 0⟩, ⟨0, 0, "ARM", .wo, 0⟩]⟩,
  ⟨"ODO.STAT", 0x200080040C, 16, 64, 1, 0, .odo, [⟨9, 9, "HALL_JUMP", .w1c, 0⟩, ⟨8, 8, "HALL_INV", .w1c, 0⟩, ⟨7, 7, "DRIFT", .w1c, 0⟩, ⟨6, 6, "HEALTHY", .ro, 0⟩, ⟨5, 5, "ARMED", .ro, 0⟩, ⟨4, 4, "IDX_SEEN", .w1c, 0⟩, ⟨3, 3, "DIR_CHG", .w1c, 0⟩, ⟨2, 2, "ILLEGAL", .w1c, 0⟩, ⟨1, 1, "LOS", .ro, 0⟩, ⟨0, 0, "DIR", .ro, 0⟩]⟩,
  ⟨"ODO.POS_LO", 0x2000800410, 16, 64, 1, 0, .odo, [⟨31, 0, "COUNT", .ro, 0⟩]⟩,
  ⟨"ODO.POS_HI", 0x2000800414, 16, 64, 1, 0, .odo, [⟨15, 0, "COUNT", .ro, 0⟩]⟩,
  ⟨"ODO.IDX_LO", 0x2000800418, 16, 64, 1, 0, .odo, [⟨31, 0, "LATCH", .ro, 0⟩]⟩,
  ⟨"ODO.IDX_HI", 0x200080041C, 16, 64, 1, 0, .odo, [⟨15, 0, "LATCH", .ro, 0⟩]⟩,
  ⟨"ODO.DRIFT", 0x2000800420, 16, 64, 1, 0, .odo, [⟨31, 0, "DRIFT", .ro, 0⟩]⟩,
  ⟨"ODO.PERIOD", 0x2000800424, 16, 64, 1, 0, .odo, [⟨31, 0, "PERIOD", .ro, 0xFFFFFFFF⟩]⟩,
  ⟨"ODO.ERR_CNT", 0x2000800428, 16, 64, 1, 0, .odo, cntFields⟩,
  ⟨"ODO.HEALTH_CFG", 0x200080042C, 16, 64, 1, 0, .odo, [⟨31, 31, "DRIFT_BAD", .rf, 0⟩, ⟨23, 8, "DRIFT_MAX", .rf, 16⟩, ⟨7, 0, "ERR_THR", .rf, 4⟩]⟩,
  ⟨"ODO.REF_POS_LO", 0x2000800800, 16, 64, 1, 0, .station, [⟨31, 0, "POS", .ro, 0⟩]⟩,
  ⟨"ODO.REF_POS_HI", 0x2000800804, 16, 64, 1, 0, .station, [⟨15, 0, "POS", .ro, 0⟩]⟩]

/-- Registers of ODO (R682). -/
def regsOdo1 : List RegInfo := [
  ⟨"ODO.REF_HWM_LO", 0x2000800808, 16, 64, 1, 0, .station, [⟨31, 0, "HWM", .ro, 0⟩]⟩,
  ⟨"ODO.REF_HWM_HI", 0x200080080C, 16, 64, 1, 0, .station, [⟨15, 0, "HWM", .ro, 0⟩]⟩,
  ⟨"ODO.REF_STAT", 0x2000800810, 16, 64, 1, 0, .station, [⟨8, 8, "LOST", .ro, 0⟩, ⟨6, 4, "REQ_SRC", .ro, 7⟩, ⟨3, 2, "PHASE", .ro, 0⟩, ⟨1, 0, "SOURCE", .ro, 0⟩]⟩,
  ⟨"ODO.REF_RESID", 0x2000800814, 16, 64, 1, 0, .station, [⟨31, 0, "RESID", .ro, 0⟩]⟩,
  ⟨"ODO.REF_SPEED", 0x2000800818, 16, 64, 1, 0, .station, [⟨31, 0, "SPEED", .ro, 0⟩]⟩,
  ⟨"ODO.REF_CFG", 0x200080081C, 16, 64, 1, 0, .station, [⟨31, 16, "SYNTH_MAX", .rf, 500⟩, ⟨15, 0, "STALL_TICKS", .rf, 64⟩]⟩,
  ⟨"ODO.REF_REQUAL", 0x2000800820, 16, 64, 1, 0, .station, [⟨31, 0, "LEFT", .ro, 0⟩]⟩,
  ⟨"ODO.REF_SWITCH_CNT", 0x2000800824, 16, 64, 1, 0, .station, cntFields⟩]

/-- Registers of CONVOY (R825). -/
def regsConvoy : List RegInfo := [
  ⟨"CONVOY.STALE", 0x2000900000, 1, 0, 1, 0, .device, cntFields⟩,
  ⟨"CONVOY.TSEQ", 0x2000900040, 16, 4, 1, 0, .device, [⟨31, 0, "TSEQ", .ro, 0⟩]⟩,
  ⟨"CONVOY.GRP_CFG", 0x2000900100, 32, 32, 1, 0, .group, [⟨15, 15, "EN", .rf, 0⟩, ⟨13, 8, "ROOT", .rf, 0⟩, ⟨5, 4, "VEC", .rf, 0⟩, ⟨2, 0, "OP", .rf, 0⟩]⟩,
  ⟨"CONVOY.GRP_RANGE", 0x2000900104, 32, 32, 1, 0, .group, [⟨26, 16, "LEN", .rf, 1⟩, ⟨10, 0, "BASE", .rf, 0⟩]⟩,
  ⟨"CONVOY.GRP_STAT", 0x2000900108, 32, 32, 1, 0, .group, [⟨31, 31, "VALID", .ro, 0⟩, ⟨30, 30, "MISMATCH", .w1c, 0⟩, ⟨29, 29, "CFG_ERR", .w1c, 0⟩, ⟨21, 16, "SELF", .ro, 0⟩, ⟨14, 8, "COUNT", .ro, 0⟩]⟩,
  ⟨"CONVOY.GRP_DONE", 0x200090010C, 32, 32, 1, 0, .group, cntFields⟩,
  ⟨"CONVOY.GRP_FAIL", 0x2000900110, 32, 32, 1, 0, .group, cntFields⟩,
  ⟨"CONVOY.GRP_BLAME", 0x2000900114, 32, 32, 1, 0, .group, [⟨17, 16, "CAUSE", .ro, 0⟩, ⟨13, 8, "MEMBER", .ro, 0⟩]⟩,
  ⟨"CONVOY.GRP_MISS_LO", 0x2000900118, 32, 32, 1, 0, .group, [⟨31, 0, "MASK", .ro, 0⟩]⟩,
  ⟨"CONVOY.GRP_MISS_HI", 0x200090011C, 32, 32, 1, 0, .group, [⟨31, 0, "MASK", .ro, 0⟩]⟩]

/-- Registers of FAULT (R937). -/
def regsFault : List RegInfo := [
  ⟨"FAULT.HEAD", 0x2000A00000, 1, 0, 1, 0, .device, [⟨5, 0, "NEXT", .ro, 0⟩]⟩,
  ⟨"FAULT.COUNT", 0x2000A00004, 1, 0, 1, 0, .device, [⟨6, 0, "COUNT", .ro, 0⟩]⟩,
  ⟨"FAULT.OVERWRITE", 0x2000A00008, 1, 0, 1, 0, .device, cntFields⟩,
  ⟨"FAULT.CFG", 0x2000A0000C, 1, 0, 1, 0, .device, [⟨3, 0, "RETRY_MAX", .rf, 2⟩]⟩,
  ⟨"FAULT.LOG_W0", 0x2000A00100, 64, 16, 1, 0, .device, [⟨31, 0, "TIME", .ro, 0⟩]⟩,
  ⟨"FAULT.LOG_W1", 0x2000A00104, 64, 16, 1, 0, .device, [⟨31, 29, "ACTION", .ro, 0⟩, ⟨28, 28, "DEVSCOPE", .ro, 0⟩, ⟨27, 24, "STATION", .ro, 0⟩, ⟨23, 16, "CODE", .ro, 0⟩, ⟨15, 0, "TIME_HI", .ro, 0⟩]⟩,
  ⟨"FAULT.LOG_W2", 0x2000A00108, 64, 16, 1, 0, .device, [⟨31, 16, "DETAIL", .ro, 0⟩, ⟨15, 8, "INDEX", .ro, 0⟩, ⟨7, 0, "UNIT", .ro, 0⟩]⟩,
  ⟨"FAULT.LOG_W3", 0x2000A0010C, 64, 16, 1, 0, .device, [⟨31, 0, "BALE", .ro, 0⟩]⟩,
  ⟨"FAULT.STN_REEXEC", 0x2000A00800, 16, 16, 1, 0, .device, cntFields⟩,
  ⟨"FAULT.STN_ABANDON", 0x2000A00804, 16, 16, 1, 0, .device, cntFields⟩]

/-- Registers of MBOX (R101, R335). -/
def regsMbox : List RegInfo := [
  ⟨"MBOX.DATA_LO", 0x2000B00000, 16, 32, 1, 0, .station, [⟨31, 0, "DATA", .ro, 0⟩]⟩,
  ⟨"MBOX.DATA_HI", 0x2000B00004, 16, 32, 1, 0, .station, [⟨31, 0, "DATA", .ro, 0⟩]⟩,
  ⟨"MBOX.COUNT", 0x2000B00008, 16, 32, 1, 0, .station, [⟨8, 0, "COUNT", .ro, 0⟩]⟩,
  ⟨"MBOX.CMD", 0x2000B0000C, 16, 32, 1, 0, .station, [⟨3, 0, "CMD", .wo, 0⟩]⟩,
  ⟨"MBOX.STAT", 0x2000B00010, 16, 32, 1, 0, .station, [⟨31, 31, "UNDERRUN", .w1c, 0⟩]⟩,
  ⟨"MBOX.DROPS", 0x2000B00014, 16, 32, 1, 0, .station, cntFields⟩,
  ⟨"MBOX.SEALCFG", 0x2000B00018, 16, 32, 1, 0, .station, [⟨1, 0, "REPORT", .rs, 0⟩]⟩]

/-- Registers of TILE (R236, R278, R334, R901). -/
def regsTile : List RegInfo := [
  ⟨"TILE.STATE", 0x2001000000, 72, 0x10000, 1, 0, .device, [⟨20, 20, "OWNED", .ro, 0⟩, ⟨19, 16, "OWNER", .ro, 0⟩, ⟨14, 12, "LY", .ro, 0⟩, ⟨11, 8, "LX", .ro, 0⟩, ⟨3, 3, "BORROWED", .ro, 0⟩, ⟨2, 0, "STATE", .ro, 0⟩]⟩,
  ⟨"TILE.ECC_WIN", 0x2001000010, 72, 0x10000, 1, 0, .device, [⟨31, 31, "OVF", .w1c, 0⟩, ⟨30, 30, "CLR", .wo, 0⟩, ⟨15, 0, "COUNT", .ro, 0⟩]⟩,
  ⟨"TILE.RES_WIN", 0x2001000014, 72, 0x10000, 1, 0, .device, [⟨31, 31, "OVF", .w1c, 0⟩, ⟨30, 30, "CLR", .wo, 0⟩, ⟨7, 0, "COUNT", .ro, 0⟩]⟩,
  ⟨"TILE.RTR_WIN", 0x2001000018, 72, 0x10000, 1, 0, .device, [⟨31, 31, "OVF", .w1c, 0⟩, ⟨30, 30, "CLR", .wo, 0⟩, ⟨7, 0, "COUNT", .ro, 0⟩]⟩,
  ⟨"TILE.SAT_CNT", 0x2001000020, 72, 0x10000, 1, 0, .device, cntFields⟩,
  ⟨"TILE.NAN_CNT", 0x2001000024, 72, 0x10000, 1, 0, .device, cntFields⟩,
  ⟨"TILE.LAYER", 0x2001000030, 72, 0x10000, 1, 0, .device, [⟨31, 20, "LAYER", .ro, 0⟩, ⟨19, 16, "STATION", .ro, 0⟩, ⟨15, 4, "STRIPE", .ro, 0⟩, ⟨0, 0, "BUSY", .ro, 0⟩]⟩,
  ⟨"TILE.ISLAND", 0x2001000040, 72, 0x10000, 1, 0, .device, [⟨31, 31, "AVS_LIM", .w1c, 0⟩, ⟨27, 16, "VOLT", .ro, 0⟩, ⟨15, 8, "SLACK", .ro, 0⟩, ⟨2, 0, "OP", .ro, 0⟩]⟩]

/-- Every register of the device. -/
def regTable : List RegInfo :=
  regsSys0 ++
  regsSys1 ++
  regsPwr ++
  regsMesh ++
  regsTime ++
  regsLog0 ++
  regsLog1 ++
  regsUart ++
  regsI2c ++
  regsGpio ++
  regsKhan0 ++
  regsKhan1 ++
  regsMfl ++
  regsLane0 ++
  regsLane1 ++
  regsSlink ++
  regsEth ++
  regsIntake ++
  regsIsp0 ++
  regsIsp1 ++
  regsTree ++
  regsVerdict ++
  regsMile0 ++
  regsMile1 ++
  regsFio ++
  regsOdo0 ++
  regsOdo1 ++
  regsConvoy ++
  regsFault ++
  regsMbox ++
  regsTile

/-- The copy of a register row at an address: its two indexes. -/
def RegInfo.indexOf? (r : RegInfo) (a : Nat) : Option (Nat × Nat) :=
  if a < r.base then none else
    let d := a - r.base
    let i := if r.s1 == 0 then 0 else d / r.s1
    let e := if r.s1 == 0 then d else d % r.s1
    let j := if r.s2 == 0 then 0 else e / r.s2
    let f := if r.s2 == 0 then e else e % r.s2
    if f == 0 && decide (i < r.n1) && decide (j < r.n2) then some (i, j) else none

/-- The register at an address, among the rows of a table, with its two indexes. -/
def findReg (a : Nat) : List RegInfo → Option (RegInfo × Nat × Nat)
  | [] => none
  | r :: t =>
    match r.indexOf? a with
    | some (i, j) => some (r, i, j)
    | none => findReg a t

/-- The register at an address. -/
def regAt (a : Nat) : Option (RegInfo × Nat × Nat) := findReg a regTable

/-- The reset word of a list of fields. -/
def resetWord (fs : List Field) : Nat := fs.foldl (fun a f => a + f.reset % 2 ^ (f.hi - f.lo + 1) * 2 ^ f.lo) 0

/-- The reset word of the register at an address, 0 where no register lies. -/
def regReset (a : Nat) : Nat :=
  match regAt a with
  | some (r, _, _) => resetWord r.fields
  | none => 0

/-- The bits of the fields of one access code, as a mask. -/
def accMask (c : Acc) (fs : List Field) : Nat :=
  fs.foldl (fun a f => if f.acc == c then a + (2 ^ (f.hi - f.lo + 1) - 1) * 2 ^ f.lo else a) 0

end Sys2Proof.Machine
end

