-- ==== Sys2Proof/Machine/RegAddr.lean ====
section
/-! DEFINITION. The addresses of the registers, one function for each row of the register tables (R16, R101, R144, R235,
R236, R278, R334, R335, R390, R446, R504, R505, R559, R633, R682, R723, R769, R770, R825, R853, R854, R899 to R901, R937,
R980, R1003, R1038). An argument is the index of a copy. -/

namespace Sys2Proof.Machine.Reg

/-- SYS.DEVICE_ID (R17). -/
def sysDeviceId : Nat := 0x2000000000
/-- SYS.REV_ID (R17). -/
def sysRevId : Nat := 0x2000000004
/-- SYS.DET_MODE (R277). -/
def sysDetMode : Nat := 0x2000000020
/-- SYS.WDROP_CNT (R101). -/
def sysWdropCnt : Nat := 0x2000000100
/-- SYS.WDROP_ADDR (R101). -/
def sysWdropAddr : Nat := 0x2000000104
/-- SYS.WDROP_SRC (R101). -/
def sysWdropSrc : Nat := 0x2000000108
/-- SYS.SHADOW_PEND (R101). -/
def sysShadowPend : Nat := 0x200000010C
/-- SYS.BOOT_STAT (R980). -/
def sysBootStat : Nat := 0x2000000200
/-- SYS.WAY_CAUSE (R980). -/
def sysWayCause : Nat := 0x2000000204
/-- SYS.APP_START (R980). -/
def sysAppStart : Nat := 0x2000000208
/-- SYS.RESET_CMD (R980). -/
def sysResetCmd : Nat := 0x200000020C
/-- SYS.MUSTER_US (R980). -/
def sysMusterUs : Nat := 0x2000000210
/-- SYS.SPORT_ERR (R980). -/
def sysSportErr : Nat := 0x2000000214
/-- SYS.MTIMECMP_LO (R1038). -/
def sysMtimecmpLo (i : Nat) : Nat := 0x2000000300 + 8 * i
/-- SYS.MTIMECMP_HI (R1038). -/
def sysMtimecmpHi (i : Nat) : Nat := 0x2000000304 + 8 * i
/-- SYS.WDOG_KICK (R1038). -/
def sysWdogKick : Nat := 0x2000000320
/-- SYS.BUS_ERR_ADDR_LO (R1038). -/
def sysBusErrAddrLo : Nat := 0x2000000330
/-- SYS.BUS_ERR_ADDR_HI (R1038). -/
def sysBusErrAddrHi : Nat := 0x2000000334
/-- SYS.BUS_ERR_SRC (R1038). -/
def sysBusErrSrc : Nat := 0x2000000338
/-- SYS.SPORT_DATA (R1038). -/
def sysSportData : Nat := 0x2000000340
/-- SYS.EVT_ROUTE (R101). -/
def sysEvtRoute (i : Nat) : Nat := 0x2000001000 + 4 * i
/-- SYS.EVT_PEND (R101). -/
def sysEvtPend (i : Nat) : Nat := 0x2000001800 + 4 * i
/-- SYS.EVQ_LO (R101). -/
def sysEvqLo (i : Nat) : Nat := 0x2000001900 + 16 * i
/-- SYS.EVQ_HI (R101). -/
def sysEvqHi (i : Nat) : Nat := 0x2000001904 + 16 * i
/-- SYS.EVQ_COUNT (R101). -/
def sysEvqCount (i : Nat) : Nat := 0x2000001908 + 16 * i
/-- SYS.EVQ_DROPS (R101). -/
def sysEvqDrops (i : Nat) : Nat := 0x200000190C + 16 * i
/-- PWR.DOM_ON (R899). -/
def pwrDomOn : Nat := 0x2000010000
/-- PWR.BAND_OP (R899). -/
def pwrBandOp (i : Nat) : Nat := 0x2000010010 + 4 * i
/-- PWR.TREE_OP (R899). -/
def pwrTreeOp : Nat := 0x2000010020
/-- PWR.OP_CAP (R899). -/
def pwrOpCap : Nat := 0x2000010024
/-- PWR.AVS_CFG (R899). -/
def pwrAvsCfg : Nat := 0x2000010028
/-- PWR.POLICY (R899). -/
def pwrPolicy : Nat := 0x200001002C
/-- PWR.MEAS_MW (R899). -/
def pwrMeasMw : Nat := 0x2000010040
/-- PWR.THROT_CNT (R899). -/
def pwrThrotCnt : Nat := 0x2000010044
/-- PWR.TEMP (R899). -/
def pwrTemp (i : Nat) : Nat := 0x2000010100 + 4 * i
/-- PWR.COMMIT (R101). -/
def pwrCommit : Nat := 0x2000010FFC
/-- MESH.REF_STAT (R900). -/
def meshRefStat : Nat := 0x2000020000
/-- MESH.REF_CFG (R900). -/
def meshRefCfg : Nat := 0x2000020004
/-- MESH.NODE_FAIL (R900). -/
def meshNodeFail (i : Nat) : Nat := 0x2000020010 + 4 * i
/-- MESH.BORROW (R900). -/
def meshBorrow (i : Nat) : Nat := 0x2000020020 + 4 * i
/-- MESH.REF_SWITCH_CNT (R900). -/
def meshRefSwitchCnt : Nat := 0x2000020030
/-- MESH.ROWMAP (R235). -/
def meshRowmap (i : Nat) : Nat := 0x2000020800 + 4 * i
/-- MESH.RETIRE_THR (R235). -/
def meshRetireThr : Nat := 0x2000020900
/-- MESH.GRID (R235). -/
def meshGrid : Nat := 0x2000020904
/-- MESH.FMAP_STAT (R235). -/
def meshFmapStat : Nat := 0x2000020908
/-- MESH.RETIRE_CMD (R235). -/
def meshRetireCmd : Nat := 0x200002090C
/-- MESH.FACTORY (R235). -/
def meshFactory (i : Nat) : Nat := 0x2000020910 + 4 * i
/-- TIME.TB_NS (R853). -/
def timeTbNs : Nat := 0x2000030000
/-- TIME.LT_HI (R853). -/
def timeLtHi : Nat := 0x2000030004
/-- TIME.TB_INCR (R853). -/
def timeTbIncr : Nat := 0x2000030008
/-- TIME.TB_STEP (R853). -/
def timeTbStep : Nat := 0x200003000C
/-- TIME.STAT (R853). -/
def timeStat : Nat := 0x2000030010
/-- LOG.POH (R1003). -/
def logPoh : Nat := 0x2000040000
/-- LOG.POH_SEC (R1003). -/
def logPohSec : Nat := 0x2000040004
/-- LOG.THERMAL (R1003). -/
def logThermal : Nat := 0x2000040008
/-- LOG.MFL_LOADS (R1003). -/
def logMflLoads : Nat := 0x200004000C
/-- LOG.DEFECTS (R1003). -/
def logDefects : Nat := 0x2000040010
/-- LOG.OVF (R1003). -/
def logOvf : Nat := 0x2000040014
/-- LOG.MIRROR (R1003). -/
def logMirror : Nat := 0x2000040018
/-- LOG.MIRROR_SEQ (R1003). -/
def logMirrorSeq : Nat := 0x200004001C
/-- LOG.REMOTE_USED (R1003). -/
def logRemoteUsed : Nat := 0x2000040020
/-- LOG.UNSLOTTED (R1003). -/
def logUnslotted : Nat := 0x2000040024
/-- LOG.CAL_LO (R1003). -/
def logCalLo : Nat := 0x2000040030
/-- LOG.CAL_HI (R1003). -/
def logCalHi : Nat := 0x2000040034
/-- LOG.CAL_SET_LO (R1003). -/
def logCalSetLo : Nat := 0x2000040038
/-- LOG.CAL_SET_HI (R1003). -/
def logCalSetHi : Nat := 0x200004003C
/-- LOG.CAL_CTRL (R1003). -/
def logCalCtrl : Nat := 0x2000040040
/-- LOG.FIO_LO (R1003). -/
def logFioLo (i : Nat) : Nat := 0x2000040100 + 8 * i
/-- LOG.FIO_HI (R1003). -/
def logFioHi (i : Nat) : Nat := 0x2000040104 + 8 * i
/-- LOG.TILE_ECC (R1003). -/
def logTileEcc (i : Nat) : Nat := 0x2000040200 + 4 * i
/-- LOG.REM_LO (R1003). -/
def logRemLo (i : Nat) : Nat := 0x2000040400 + 16 * i
/-- LOG.REM_HI (R1003). -/
def logRemHi (i : Nat) : Nat := 0x2000040404 + 16 * i
/-- LOG.REM_SER_LO (R1003). -/
def logRemSerLo (i : Nat) : Nat := 0x2000040408 + 16 * i
/-- LOG.REM_SER_HI (R1003). -/
def logRemSerHi (i : Nat) : Nat := 0x200004040C + 16 * i
/-- UART.DATA (R1038). -/
def uartData (i : Nat) : Nat := 0x2000060000 + 256 * i
/-- UART.STAT (R1038). -/
def uartStat (i : Nat) : Nat := 0x2000060004 + 256 * i
/-- UART.CFG (R1038). -/
def uartCfg (i : Nat) : Nat := 0x2000060008 + 256 * i
/-- I2C.CMD (R1038). -/
def i2cCmd (i : Nat) : Nat := 0x2000060200 + 256 * i
/-- I2C.RX (R1038). -/
def i2cRx (i : Nat) : Nat := 0x2000060204 + 256 * i
/-- I2C.STAT (R1038). -/
def i2cStat (i : Nat) : Nat := 0x2000060208 + 256 * i
/-- I2C.CFG (R1038). -/
def i2cCfg (i : Nat) : Nat := 0x200006020C + 256 * i
/-- GPIO.DIR (R1038). -/
def gpioDir : Nat := 0x2000060400
/-- GPIO.OUT (R1038). -/
def gpioOut : Nat := 0x2000060404
/-- GPIO.IN (R1038). -/
def gpioIn : Nat := 0x2000060408
/-- GPIO.EDGE (R1038). -/
def gpioEdge : Nat := 0x200006040C
/-- KHAN.CTRL (R390). -/
def khanCtrl : Nat := 0x2000100000
/-- KHAN.PLACE_CFG (R390). -/
def khanPlaceCfg : Nat := 0x2000100004
/-- KHAN.FREE (R390). -/
def khanFree : Nat := 0x2000100008
/-- KHAN.LAST_MOVE (R390). -/
def khanLastMove : Nat := 0x200010000C
/-- KHAN.STN_TILES (R390). -/
def khanStnTiles (i : Nat) : Nat := 0x2000100100 + 64 * i
/-- KHAN.STN_SHAPE (R390). -/
def khanStnShape (i : Nat) : Nat := 0x2000100104 + 64 * i
/-- KHAN.STN_PAGES (R390). -/
def khanStnPages (i : Nat) : Nat := 0x2000100108 + 64 * i
/-- KHAN.STN_JOBS (R390). -/
def khanStnJobs (i : Nat) : Nat := 0x200010010C + 64 * i
/-- KHAN.STN_BUSY (R390). -/
def khanStnBusy (i : Nat) : Nat := 0x2000100110 + 64 * i
/-- KHAN.STN_DROP (R390). -/
def khanStnDrop (i : Nat) : Nat := 0x2000100114 + 64 * i
/-- KHAN.STN_ISO (R390). -/
def khanStnIso (i : Nat) : Nat := 0x2000100118 + 64 * i
/-- KHAN.STN_STALL (R390). -/
def khanStnStall (i : Nat) : Nat := 0x200010011C + 64 * i
/-- KHAN.STN_IDROP (R390). -/
def khanStnIdrop (i : Nat) : Nat := 0x2000100120 + 64 * i
/-- KHAN.STN_CFG (R390). -/
def khanStnCfg (i : Nat) : Nat := 0x2000100124 + 64 * i
/-- KHAN.COMMIT (R101). -/
def khanCommit : Nat := 0x2000100FFC
/-- MFL.CMD (R144). -/
def mflCmd : Nat := 0x2000110000
/-- MFL.SRC_LO (R144). -/
def mflSrcLo : Nat := 0x2000110004
/-- MFL.SRC_HI (R144). -/
def mflSrcHi : Nat := 0x2000110008
/-- MFL.LEN (R144). -/
def mflLen : Nat := 0x200011000C
/-- MFL.STATUS (R144). -/
def mflStatus : Nat := 0x2000110010
/-- MFL.ERR_OFFSET (R144). -/
def mflErrOffset : Nat := 0x2000110014
/-- MFL.ACTIVE (R144). -/
def mflActive : Nat := 0x2000110018
/-- MFL.PENDING (R144). -/
def mflPending : Nat := 0x200011001C
/-- MFL.DEV_GEN (R144). -/
def mflDevGen : Nat := 0x2000110020
/-- MFL.STN_GEN (R144). -/
def mflStnGen (i : Nat) : Nat := 0x2000110040 + 4 * i
/-- LANE.CFG (R559). -/
def laneCfg (i : Nat) : Nat := 0x2000200000 + 0x1000 * i
/-- LANE.STAT (R559). -/
def laneStat (i : Nat) : Nat := 0x2000200004 + 0x1000 * i
/-- LANE.TXFIR (R559). -/
def laneTxfir (i : Nat) : Nat := 0x2000200008 + 0x1000 * i
/-- LANE.TXFIR_NOW (R559). -/
def laneTxfirNow (i : Nat) : Nat := 0x200020000C + 0x1000 * i
/-- LANE.RXEQ (R559). -/
def laneRxeq (i : Nat) : Nat := 0x2000200010 + 0x1000 * i
/-- LANE.DFE (R559). -/
def laneDfe (i : Nat) : Nat := 0x2000200014 + 0x1000 * i
/-- LANE.EYE (R559). -/
def laneEye (i : Nat) : Nat := 0x2000200018 + 0x1000 * i
/-- LANE.BC (R559). -/
def laneBc (i : Nat) : Nat := 0x200020001C + 0x1000 * i
/-- LANE.PRBS (R559). -/
def lanePrbs (i : Nat) : Nat := 0x2000200020 + 0x1000 * i
/-- LANE.PRBS_ERR (R559). -/
def lanePrbsErr (i : Nat) : Nat := 0x2000200024 + 0x1000 * i
/-- LANE.CODE_ERR (R559). -/
def laneCodeErr (i : Nat) : Nat := 0x2000200028 + 0x1000 * i
/-- LANE.EB_SLIP (R559). -/
def laneEbSlip (i : Nat) : Nat := 0x200020002C + 0x1000 * i
/-- LANE.SKIP_INS (R559). -/
def laneSkipIns (i : Nat) : Nat := 0x2000200030 + 0x1000 * i
/-- LANE.SKIP_DEL (R559). -/
def laneSkipDel (i : Nat) : Nat := 0x2000200034 + 0x1000 * i
/-- LANE.TRAIN_FAIL (R559). -/
def laneTrainFail (i : Nat) : Nat := 0x2000200038 + 0x1000 * i
/-- LANE.GRP (R559). -/
def laneGrp (i : Nat) : Nat := 0x2000200100 + 0x4000 * i
/-- LANE.COMMIT (R101). -/
def laneCommit (i : Nat) : Nat := 0x2000200FFC + 0x1000 * i
/-- SLINK.STAT (R633). -/
def slinkStat (i : Nat) : Nat := 0x2000300000 + 0x1000 * i
/-- SLINK.TIME_CFG (R633). -/
def slinkTimeCfg (i : Nat) : Nat := 0x2000300004 + 0x1000 * i
/-- SLINK.CRC_ERR (R633). -/
def slinkCrcErr (i : Nat) : Nat := 0x2000300010 + 0x1000 * i
/-- SLINK.NAK_TX (R633). -/
def slinkNakTx (i : Nat) : Nat := 0x2000300014 + 0x1000 * i
/-- SLINK.REPLAY (R633). -/
def slinkReplay (i : Nat) : Nat := 0x2000300018 + 0x1000 * i
/-- SLINK.STOMP (R633). -/
def slinkStomp (i : Nat) : Nat := 0x200030001C + 0x1000 * i
/-- SLINK.BAD_TYPE (R633). -/
def slinkBadType (i : Nat) : Nat := 0x2000300020 + 0x1000 * i
/-- SLINK.EP_STAT (R633). -/
def slinkEpStat (i j : Nat) : Nat := 0x2000300400 + 0x1000 * i + 0x20 * j
/-- SLINK.EP_OFFSET (R633). -/
def slinkEpOffset (i j : Nat) : Nat := 0x2000300404 + 0x1000 * i + 0x20 * j
/-- SLINK.EP_REJ (R633). -/
def slinkEpRej (i j : Nat) : Nat := 0x2000300408 + 0x1000 * i + 0x20 * j
/-- SLINK.EP_RPT_LO (R633). -/
def slinkEpRptLo (i j : Nat) : Nat := 0x200030040C + 0x1000 * i + 0x20 * j
/-- SLINK.EP_RPT_HI (R633). -/
def slinkEpRptHi (i j : Nat) : Nat := 0x2000300410 + 0x1000 * i + 0x20 * j
/-- SLINK.EP_RPT_TIME (R633). -/
def slinkEpRptTime (i j : Nat) : Nat := 0x2000300414 + 0x1000 * i + 0x20 * j
/-- SLINK.COMMIT (R101). -/
def slinkCommit (i : Nat) : Nat := 0x2000300FFC + 0x1000 * i
/-- ETH.PTP_CTRL (R854). -/
def ethPtpCtrl (i : Nat) : Nat := 0x2000400800 + 0x10000 * i
/-- ETH.PTP_TS_LO (R854). -/
def ethPtpTsLo (i j : Nat) : Nat := 0x2000400810 + 0x10000 * i + 0x20 * j
/-- ETH.PTP_TS_HI (R854). -/
def ethPtpTsHi (i j : Nat) : Nat := 0x2000400814 + 0x10000 * i + 0x20 * j
/-- ETH.PTP_TS_ID (R854). -/
def ethPtpTsId (i j : Nat) : Nat := 0x2000400818 + 0x10000 * i + 0x20 * j
/-- ETH.PTP_TS_CNT (R854). -/
def ethPtpTsCnt (i j : Nat) : Nat := 0x200040081C + 0x10000 * i + 0x20 * j
/-- ETH.PTP_DROP (R854). -/
def ethPtpDrop (i : Nat) : Nat := 0x2000400840 + 0x10000 * i
/-- INTAKE.CAPTURE (R504). -/
def intakeCapture : Nat := 0x2000500040
/-- INTAKE.CAPTURE_ADDR_LO (R504). -/
def intakeCaptureAddrLo : Nat := 0x2000500044
/-- INTAKE.CAPTURE_ADDR_HI (R504). -/
def intakeCaptureAddrHi : Nat := 0x2000500048
/-- INTAKE.CAM_CFG (R504). -/
def intakeCamCfg (i : Nat) : Nat := 0x2000500100 + 32 * i
/-- INTAKE.CAM_DARK (R504). -/
def intakeCamDark (i : Nat) : Nat := 0x2000500104 + 32 * i
/-- INTAKE.CAM_BL (R504). -/
def intakeCamBl (i : Nat) : Nat := 0x2000500108 + 32 * i
/-- INTAKE.CAM_BL2 (R504). -/
def intakeCamBl2 (i : Nat) : Nat := 0x200050010C + 32 * i
/-- INTAKE.CAM_LATE (R504). -/
def intakeCamLate (i : Nat) : Nat := 0x2000500110 + 32 * i
/-- INTAKE.CAM_OVLP (R504). -/
def intakeCamOvlp (i : Nat) : Nat := 0x2000500114 + 32 * i
/-- INTAKE.CAM_SPILLOVER (R504). -/
def intakeCamSpillover (i : Nat) : Nat := 0x2000500118 + 32 * i
/-- INTAKE.ROI_CFG (R504). -/
def intakeRoiCfg (i : Nat) : Nat := 0x2000500800 + 16 * i
/-- INTAKE.ROI_CFG2 (R504). -/
def intakeRoiCfg2 (i : Nat) : Nat := 0x2000500804 + 16 * i
/-- INTAKE.ROI_LAST (R504). -/
def intakeRoiLast (i : Nat) : Nat := 0x2000500808 + 16 * i
/-- ISP.REPLAY (R505). -/
def ispReplay : Nat := 0x2000510040
/-- ISP.REPLAY_ADDR_LO (R505). -/
def ispReplayAddrLo : Nat := 0x2000510044
/-- ISP.REPLAY_ADDR_HI (R505). -/
def ispReplayAddrHi : Nat := 0x2000510048
/-- ISP.REPLAY_STAT (R505). -/
def ispReplayStat : Nat := 0x200051004C
/-- ISP.CTX_STAT (R505). -/
def ispCtxStat (i : Nat) : Nat := 0x2000510100 + 64 * i
/-- ISP.DISP_BASE_LO (R505). -/
def ispDispBaseLo (i : Nat) : Nat := 0x2000510104 + 64 * i
/-- ISP.DISP_BASE_HI (R505). -/
def ispDispBaseHi (i : Nat) : Nat := 0x2000510108 + 64 * i
/-- ISP.DISP_LINES (R505). -/
def ispDispLines (i : Nat) : Nat := 0x200051010C + 64 * i
/-- ISP.DISP_WR (R505). -/
def ispDispWr (i : Nat) : Nat := 0x2000510110 + 64 * i
/-- ISP.DISP_RD (R505). -/
def ispDispRd (i : Nat) : Nat := 0x2000510114 + 64 * i
/-- ISP.DISP_DROP (R505). -/
def ispDispDrop (i : Nat) : Nat := 0x2000510118 + 64 * i
/-- ISP.CODE_BASE_LO (R505). -/
def ispCodeBaseLo (i : Nat) : Nat := 0x200051011C + 64 * i
/-- ISP.CODE_BASE_HI (R505). -/
def ispCodeBaseHi (i : Nat) : Nat := 0x2000510120 + 64 * i
/-- ISP.CODE_FRAMES (R505). -/
def ispCodeFrames (i : Nat) : Nat := 0x2000510124 + 64 * i
/-- ISP.CODE_WR (R505). -/
def ispCodeWr (i : Nat) : Nat := 0x2000510128 + 64 * i
/-- ISP.CODE_RD (R505). -/
def ispCodeRd (i : Nat) : Nat := 0x200051012C + 64 * i
/-- ISP.CODE_DROP (R505). -/
def ispCodeDrop (i : Nat) : Nat := 0x2000510130 + 64 * i
/-- TREE.STAT (R446). -/
def treeStat : Nat := 0x2000600000
/-- TREE.STN_PASS (R446). -/
def treeStnPass (i : Nat) : Nat := 0x2000600100 + 16 * i
/-- TREE.STN_ERR (R446). -/
def treeStnErr (i : Nat) : Nat := 0x2000600104 + 16 * i
/-- TREE.DEC_STAT (R446). -/
def treeDecStat (i j : Nat) : Nat := 0x2000600800 + 32 * i + 16 * j
/-- TREE.DEC_TOK (R446). -/
def treeDecTok (i j : Nat) : Nat := 0x2000600804 + 32 * i + 16 * j
/-- TREE.DEC_CUT (R446). -/
def treeDecCut (i j : Nat) : Nat := 0x2000600808 + 32 * i + 16 * j
/-- TREE.DEC_NOROI (R446). -/
def treeDecNoroi (i j : Nat) : Nat := 0x200060080C + 32 * i + 16 * j
/-- VERDICT.LAST_BALE (R769). -/
def verdictLastBale (i : Nat) : Nat := 0x2000700100 + 16 * i
/-- VERDICT.LAST (R769). -/
def verdictLast (i : Nat) : Nat := 0x2000700104 + 16 * i
/-- VERDICT.MISMATCH (R769). -/
def verdictMismatch (i : Nat) : Nat := 0x2000700108 + 16 * i
/-- MILE.REMOTE_CFG (R770). -/
def mileRemoteCfg : Nat := 0x2000710000
/-- MILE.STN_CTRL (R770). -/
def mileStnCtrl (i : Nat) : Nat := 0x2000710100 + 64 * i
/-- MILE.STN_POLICY (R770). -/
def mileStnPolicy (i : Nat) : Nat := 0x2000710104 + 64 * i
/-- MILE.STN_STAT (R770). -/
def mileStnStat (i : Nat) : Nat := 0x2000710108 + 64 * i
/-- MILE.STN_PART (R770). -/
def mileStnPart (i : Nat) : Nat := 0x200071010C + 64 * i
/-- MILE.STN_DEFAULT (R770). -/
def mileStnDefault (i : Nat) : Nat := 0x2000710110 + 64 * i
/-- MILE.STN_TRIGOVF (R770). -/
def mileStnTrigovf (i : Nat) : Nat := 0x2000710114 + 64 * i
/-- MILE.STN_LATE (R770). -/
def mileStnLate (i : Nat) : Nat := 0x2000710118 + 64 * i
/-- MILE.STN_MISSED (R770). -/
def mileStnMissed (i : Nat) : Nat := 0x200071011C + 64 * i
/-- MILE.STN_RBFAIL (R770). -/
def mileStnRbfail (i : Nat) : Nat := 0x2000710120 + 64 * i
/-- MILE.STN_TRIG_IGN (R770). -/
def mileStnTrigIgn (i : Nat) : Nat := 0x2000710124 + 64 * i
/-- MILE.COMMIT (R101). -/
def mileCommit : Nat := 0x2000710FFC
/-- MILE.ENT_BALE (R770). -/
def mileEntBale (i : Nat) : Nat := 0x2000720000 + 32 * i
/-- MILE.ENT_DEAD_LO (R770). -/
def mileEntDeadLo (i : Nat) : Nat := 0x2000720004 + 32 * i
/-- MILE.ENT_DEAD_HI (R770). -/
def mileEntDeadHi (i : Nat) : Nat := 0x2000720008 + 32 * i
/-- MILE.ENT_FIRE_LO (R770). -/
def mileEntFireLo (i : Nat) : Nat := 0x200072000C + 32 * i
/-- MILE.ENT_FIRE_HI (R770). -/
def mileEntFireHi (i : Nat) : Nat := 0x2000720010 + 32 * i
/-- MILE.ENT_CTL (R770). -/
def mileEntCtl (i : Nat) : Nat := 0x2000720014 + 32 * i
/-- FIO.CFG (R723). -/
def fioCfg (i : Nat) : Nat := 0x2000800000 + 32 * i
/-- FIO.FILT (R723). -/
def fioFilt (i : Nat) : Nat := 0x2000800004 + 32 * i
/-- FIO.DRIVE (R723). -/
def fioDrive (i : Nat) : Nat := 0x2000800008 + 32 * i
/-- FIO.CTRL (R723). -/
def fioCtrl (i : Nat) : Nat := 0x200080000C + 32 * i
/-- FIO.TEST (R723). -/
def fioTest (i : Nat) : Nat := 0x2000800010 + 32 * i
/-- FIO.STAT (R723). -/
def fioStat (i : Nat) : Nat := 0x2000800014 + 32 * i
/-- FIO.CNT (R723). -/
def fioCnt (i : Nat) : Nat := 0x2000800018 + 32 * i
/-- FIO.FREQ (R723). -/
def fioFreq (i : Nat) : Nat := 0x200080001C + 32 * i
/-- ODO.CFG (R682). -/
def odoCfg (i : Nat) : Nat := 0x2000800400 + 64 * i
/-- ODO.CPR (R682). -/
def odoCpr (i : Nat) : Nat := 0x2000800404 + 64 * i
/-- ODO.CTRL (R682). -/
def odoCtrl (i : Nat) : Nat := 0x2000800408 + 64 * i
/-- ODO.STAT (R682). -/
def odoStat (i : Nat) : Nat := 0x200080040C + 64 * i
/-- ODO.POS_LO (R682). -/
def odoPosLo (i : Nat) : Nat := 0x2000800410 + 64 * i
/-- ODO.POS_HI (R682). -/
def odoPosHi (i : Nat) : Nat := 0x2000800414 + 64 * i
/-- ODO.IDX_LO (R682). -/
def odoIdxLo (i : Nat) : Nat := 0x2000800418 + 64 * i
/-- ODO.IDX_HI (R682). -/
def odoIdxHi (i : Nat) : Nat := 0x200080041C + 64 * i
/-- ODO.DRIFT (R682). -/
def odoDrift (i : Nat) : Nat := 0x2000800420 + 64 * i
/-- ODO.PERIOD (R682). -/
def odoPeriod (i : Nat) : Nat := 0x2000800424 + 64 * i
/-- ODO.ERR_CNT (R682). -/
def odoErrCnt (i : Nat) : Nat := 0x2000800428 + 64 * i
/-- ODO.HEALTH_CFG (R682). -/
def odoHealthCfg (i : Nat) : Nat := 0x200080042C + 64 * i
/-- ODO.REF_POS_LO (R682). -/
def odoRefPosLo (i : Nat) : Nat := 0x2000800800 + 64 * i
/-- ODO.REF_POS_HI (R682). -/
def odoRefPosHi (i : Nat) : Nat := 0x2000800804 + 64 * i
/-- ODO.REF_HWM_LO (R682). -/
def odoRefHwmLo (i : Nat) : Nat := 0x2000800808 + 64 * i
/-- ODO.REF_HWM_HI (R682). -/
def odoRefHwmHi (i : Nat) : Nat := 0x200080080C + 64 * i
/-- ODO.REF_STAT (R682). -/
def odoRefStat (i : Nat) : Nat := 0x2000800810 + 64 * i
/-- ODO.REF_RESID (R682). -/
def odoRefResid (i : Nat) : Nat := 0x2000800814 + 64 * i
/-- ODO.REF_SPEED (R682). -/
def odoRefSpeed (i : Nat) : Nat := 0x2000800818 + 64 * i
/-- ODO.REF_CFG (R682). -/
def odoRefCfg (i : Nat) : Nat := 0x200080081C + 64 * i
/-- ODO.REF_REQUAL (R682). -/
def odoRefRequal (i : Nat) : Nat := 0x2000800820 + 64 * i
/-- ODO.REF_SWITCH_CNT (R682). -/
def odoRefSwitchCnt (i : Nat) : Nat := 0x2000800824 + 64 * i
/-- FIO.GRP (R723). -/
def fioGrp (i : Nat) : Nat := 0x2000800C00 + 4 * i
/-- FIO.SUPPLY (R723). -/
def fioSupply : Nat := 0x2000800C10
/-- FIO.RB_FAIL_CNT (R723). -/
def fioRbFailCnt : Nat := 0x2000800C14
/-- CONVOY.STALE (R825). -/
def convoyStale : Nat := 0x2000900000
/-- CONVOY.TSEQ (R825). -/
def convoyTseq (i : Nat) : Nat := 0x2000900040 + 4 * i
/-- CONVOY.GRP_CFG (R825). -/
def convoyGrpCfg (i : Nat) : Nat := 0x2000900100 + 32 * i
/-- CONVOY.GRP_RANGE (R825). -/
def convoyGrpRange (i : Nat) : Nat := 0x2000900104 + 32 * i
/-- CONVOY.GRP_STAT (R825). -/
def convoyGrpStat (i : Nat) : Nat := 0x2000900108 + 32 * i
/-- CONVOY.GRP_DONE (R825). -/
def convoyGrpDone (i : Nat) : Nat := 0x200090010C + 32 * i
/-- CONVOY.GRP_FAIL (R825). -/
def convoyGrpFail (i : Nat) : Nat := 0x2000900110 + 32 * i
/-- CONVOY.GRP_BLAME (R825). -/
def convoyGrpBlame (i : Nat) : Nat := 0x2000900114 + 32 * i
/-- CONVOY.GRP_MISS_LO (R825). -/
def convoyGrpMissLo (i : Nat) : Nat := 0x2000900118 + 32 * i
/-- CONVOY.GRP_MISS_HI (R825). -/
def convoyGrpMissHi (i : Nat) : Nat := 0x200090011C + 32 * i
/-- FAULT.HEAD (R937). -/
def faultHead : Nat := 0x2000A00000
/-- FAULT.COUNT (R937). -/
def faultCount : Nat := 0x2000A00004
/-- FAULT.OVERWRITE (R937). -/
def faultOverwrite : Nat := 0x2000A00008
/-- FAULT.CFG (R937). -/
def faultCfg : Nat := 0x2000A0000C
/-- FAULT.LOG_W0 (R937). -/
def faultLogW0 (i : Nat) : Nat := 0x2000A00100 + 16 * i
/-- FAULT.LOG_W1 (R937). -/
def faultLogW1 (i : Nat) : Nat := 0x2000A00104 + 16 * i
/-- FAULT.LOG_W2 (R937). -/
def faultLogW2 (i : Nat) : Nat := 0x2000A00108 + 16 * i
/-- FAULT.LOG_W3 (R937). -/
def faultLogW3 (i : Nat) : Nat := 0x2000A0010C + 16 * i
/-- FAULT.STN_REEXEC (R937). -/
def faultStnReexec (i : Nat) : Nat := 0x2000A00800 + 16 * i
/-- FAULT.STN_ABANDON (R937). -/
def faultStnAbandon (i : Nat) : Nat := 0x2000A00804 + 16 * i
/-- MBOX.DATA_LO (R101). -/
def mboxDataLo (i : Nat) : Nat := 0x2000B00000 + 32 * i
/-- MBOX.DATA_HI (R101). -/
def mboxDataHi (i : Nat) : Nat := 0x2000B00004 + 32 * i
/-- MBOX.COUNT (R101). -/
def mboxCount (i : Nat) : Nat := 0x2000B00008 + 32 * i
/-- MBOX.CMD (R101). -/
def mboxCmd (i : Nat) : Nat := 0x2000B0000C + 32 * i
/-- MBOX.STAT (R101). -/
def mboxStat (i : Nat) : Nat := 0x2000B00010 + 32 * i
/-- MBOX.DROPS (R101). -/
def mboxDrops (i : Nat) : Nat := 0x2000B00014 + 32 * i
/-- MBOX.SEALCFG (R335). -/
def mboxSealcfg (i : Nat) : Nat := 0x2000B00018 + 32 * i
/-- TILE.STATE (R236). -/
def tileState (i : Nat) : Nat := 0x2001000000 + 0x10000 * i
/-- TILE.ECC_WIN (R236). -/
def tileEccWin (i : Nat) : Nat := 0x2001000010 + 0x10000 * i
/-- TILE.RES_WIN (R236). -/
def tileResWin (i : Nat) : Nat := 0x2001000014 + 0x10000 * i
/-- TILE.RTR_WIN (R236). -/
def tileRtrWin (i : Nat) : Nat := 0x2001000018 + 0x10000 * i
/-- TILE.SAT_CNT (R278). -/
def tileSatCnt (i : Nat) : Nat := 0x2001000020 + 0x10000 * i
/-- TILE.NAN_CNT (R278). -/
def tileNanCnt (i : Nat) : Nat := 0x2001000024 + 0x10000 * i
/-- TILE.LAYER (R334). -/
def tileLayer (i : Nat) : Nat := 0x2001000030 + 0x10000 * i
/-- TILE.ISLAND (R901). -/
def tileIsland (i : Nat) : Nat := 0x2001000040 + 0x10000 * i

end Sys2Proof.Machine.Reg
end

