-- ==== Sys2Proof/Config.lean ====
section
/-! DEFINITION. What the manual leaves open: values that no rule gives. Nothing can evaluate them, so a claim that
mentions one holds for every value it could have. Where the manual bounds a table, `Machine/Tables.lean` holds it to the bound. -/

namespace Sys2Proof.Config

/-- The fixed sigmoid approximation on FP32 codes (R309); its contents are not given (R1090). Log 8. -/
opaque sigmoid : Word → Word

/-- The fixed tanh approximation on FP32 codes (R309); its contents are not given (R1090). Log 8. -/
opaque tanh : Word → Word

/-- The fixed exponential on FP32 codes (R398, R407); its contents are not given (R1090). Log 8. -/
opaque exp : Word → Word

/-- The fixed reciprocal square root on FP32 codes (R399); its contents are not given (R1090). Log 8. -/
opaque rsqrt : Word → Word

/-- The fixed tree sigmoid on an FP32 class sum (R431), for a finite sum. Log 8. -/
opaque treeSigmoid : Word → Word

/-- The fixed colour conversion of R471 step 3: space code, channel, and three 12-bit inputs; `colourOf` holds it to its bound.
Log 8. -/
opaque colour : Nat → Nat → Nat → Nat → Nat → Nat

/-- One chroma value of a subsampled pair or block of 12-bit chroma values: the manual states no subsampling filter for
the 4:2:2 and NV12 outputs (R483, R486). Log 8. -/
opaque chroma : List Nat → Nat

/-- 64 bits of the TRNG (R409), one draw for each count. Log 8. -/
opaque trng : Nat → Dword

/-- A free value for a result that the manual does not state, one for each count. Log 8. -/
opaque freeWord : Nat → Word

/-- A free number for a result of no fixed width that the manual does not state. Log 8. -/
opaque freeNat : Nat → Nat

/-- The content of a tensor element that the manual does not specify (overlapping spills, R311). Log 8. -/
opaque freeCode : Nat → Nat

/-- The units of VC3 that the device grants at alignment of a peer link (R589): the manual does not give the size of its
receive buffers. Log 8. -/
opaque peerCredit : Nat

/-- A bit that the manual leaves open, one for each count: how an odd number of ns is halved (R607). Log 8. -/
opaque freeBit : Nat → Bool

/-- The signature that the steward puts under the field region of the defect map with its own key, as a 512-bit number (R205):
that key and its derivation are not given. Log 8. -/
opaque mapSignature : List Byte → Nat

/-- The neighbours of a mesh node among the nodes of the system islands (R869, R872): the manual does not place these
nodes. Log 8. -/
opaque meshNeighbours : Nat → List Nat

/-- Where the 58-bit scrambler of a lane stands when a command starts to send on it: the manual gives no starting value, and the
IDLE blocks in between are not counted (R569). Log 46. -/
opaque scrambler : Nat → Nat → BitVec 58

/-- Which lane of a link is next when a command starts to send (R570), for the same reason. Log 46. -/
opaque blockTurn : Nat → Nat → Nat

/-- What the CTLE or the DFE of a lane has adapted to, of which the manual gives no value: the lane, false for the CTLE, and how often it
has started (R530, R531). Log 16. -/
opaque equaliser : Nat → Bool → Nat → Word

/-- The 16-bit word with which the link partner of an Ethernet port answers (R545). Log 46. -/
opaque linkPartner : Nat → Nat → BitVec 16

end Sys2Proof.Config
end

