-- ==== Sys2Proof/Machine/Float.lean ====
section
/-! DEFINITION. The number formats of R237 to R249 and the arithmetic of R252 to R268: exact dyadic values, rounded only
where a rule rounds. -/

namespace Sys2Proof.Machine

/-- The eleven formats, as the codes 0x0 to 0xA of R237. -/
inductive Fmt where
  | int4 | hb4 | uint8 | int8 | e4m3 | e5m2 | int16 | fp16 | bf16 | fp32 | int32
  deriving DecidableEq, Repr

/-- The format of a code (R237). -/
def Fmt.ofCode : Nat → Option Fmt
  | 0 => some .int4 | 1 => some .hb4 | 2 => some .uint8 | 3 => some .int8 | 4 => some .e4m3 | 5 => some .e5m2
  | 6 => some .int16 | 7 => some .fp16 | 8 => some .bf16 | 9 => some .fp32 | 10 => some .int32
  | _ => none

/-- The format is of the integer class (R250); INT32 counts as one where it is an output. -/
def Fmt.isInt : Fmt → Bool
  | .int4 | .uint8 | .int8 | .int16 | .int32 => true
  | _ => false

/-- Bits of one stored element; of an HB4 element, the four bits of its mantissa. -/
def Fmt.bits : Fmt → Nat
  | .int4 | .hb4 => 4
  | .uint8 | .int8 | .e4m3 | .e5m2 => 8
  | .int16 | .fp16 | .bf16 => 16
  | .fp32 | .int32 => 32

/-- Exponent bits and mantissa bits of a floating format. -/
def Fmt.em : Fmt → Nat × Nat
  | .e4m3 => (4, 3) | .e5m2 => (5, 2) | .fp16 => (5, 10) | .bf16 => (8, 7) | _ => (8, 23)

/-- The code of the largest finite value of a floating format (R237, R238). -/
def Fmt.maxCode : Fmt → Nat
  | .e4m3 => 0x7e | .e5m2 => 0x7b | .fp16 => 0x7bff | .bf16 => 0x7f7f | _ => 0x7f7fffff

/-- The canonical NaN of a floating format (R242). -/
def Fmt.nanCode : Fmt → Nat
  | .e4m3 => 0x7f | .e5m2 => 0x7e | .fp16 => 0x7e00 | .bf16 => 0x7fc0 | _ => 0x7fc00000

/-- The range of an integer format (R237). -/
def Fmt.range : Fmt → Int × Int
  | .int4 => (-8, 7) | .uint8 => (0, 255) | .int8 => (-128, 127) | .int16 => (-32768, 32767)
  | _ => (-(2 ^ 31 : Int), 2 ^ 31 - 1)

/-- A value: NaN, an infinity, or `±m × 2^e`; `m` 0 is a signed zero (R241). -/
inductive Val where
  | nan
  | inf (neg : Bool)
  | fin (neg : Bool) (m : Nat) (e : Int)
  deriving DecidableEq, Repr

namespace Val

/-- An integer as a value; 0 is +0. -/
def ofInt (i : Int) : Val := .fin (decide (i < 0)) i.natAbs 0

/-- The additive identity that a floating accumulator starts from (R255). -/
def negZero : Val := .fin true 0 0

/-- Positive zero. -/
def zero : Val := .fin false 0 0

/-- A finite value is NaN. -/
def isNan : Val → Bool
  | .nan => true
  | _ => false

/-- `±n × 2^e` with the sign of `n`; a zero takes `zneg`. -/
def ofScaled (n : Int) (e : Int) (zneg : Bool) : Val :=
  if n == 0 then .fin zneg 0 0 else .fin (decide (n < 0)) n.natAbs e

/-- The signed integer of a finite value over `2^e0`, for `e0` not above its exponent. -/
def scaled (neg : Bool) (m : Nat) (e e0 : Int) : Int :=
  let k : Int := ((m * 2 ^ (e - e0).toNat : Nat) : Int)
  if neg then -k else k

/-- The exact sum (R241: opposite-signed terms that cancel give +0; two zeros of one sign keep it). -/
def add : Val → Val → Val
  | .nan, _ => .nan
  | _, .nan => .nan
  | .inf a, .inf b => if a == b then .inf a else .nan
  | .inf a, _ => .inf a
  | _, .inf b => .inf b
  | .fin na ma ea, .fin nb mb eb =>
    if ma == 0 && mb == 0 then .fin (na && nb) 0 0
    else
      let e0 := if ma == 0 then eb else if mb == 0 then ea else min ea eb
      let x := if ma == 0 then 0 else scaled na ma ea e0
      let y := if mb == 0 then 0 else scaled nb mb eb e0
      ofScaled (x + y) e0 false

/-- The exact product. -/
def mul : Val → Val → Val
  | .nan, _ => .nan
  | _, .nan => .nan
  | .inf a, .inf b => .inf (a != b)
  | .inf a, .fin nb mb _ => if mb == 0 then .nan else .inf (a != nb)
  | .fin na ma _, .inf b => if ma == 0 then .nan else .inf (na != b)
  | .fin na ma ea, .fin nb mb eb => .fin (na != nb) (ma * mb) (if ma * mb == 0 then 0 else ea + eb)

/-- The negation. -/
def neg : Val → Val
  | .nan => .nan
  | .inf a => .inf (!a)
  | .fin a m e => .fin (!a) m e

/-- The order of two values that are no NaN: -1, 0 or 1. -/
def cmp (a b : Val) : Int :=
  match a, b with
  | .inf na, .inf nb => if na == nb then 0 else if na then -1 else 1
  | .inf na, _ => if na then -1 else 1
  | _, .inf nb => if nb then 1 else -1
  | .fin na ma ea, .fin nb mb eb =>
    let e0 := min ea eb
    let x := scaled na ma ea e0
    let y := scaled nb mb eb e0
    if x < y then -1 else if x == y then 0 else 1
  | _, _ => 0

/-- `a < b`, false when either is NaN. -/
def lt (a b : Val) : Bool := !a.isNan && !b.isNan && cmp a b == -1

/-- The nearest integer of a finite value, ties to even. -/
def toIntRne (neg : Bool) (m : Nat) (e : Int) : Int :=
  let k : Int := if 0 ≤ e then ((m * 2 ^ e.toNat : Nat) : Int) else rneDiv m (2 ^ (-e).toNat)
  if neg then -k else k

end Val

/-- The value of a code of a format other than HB4. -/
def Fmt.decode (f : Fmt) (c : Nat) : Val :=
  if f.isInt then
    Val.ofInt (if f == .uint8 then (c % 256 : Nat) else sInt f.bits c)
  else
    let (eb, mb) := f.em
    let bias : Int := 2 ^ (eb - 1) - 1
    let s := bitAt c (f.bits - 1)
    let ex := fld c (f.bits - 2) mb
    let m := c % 2 ^ mb
    let special := if f == .e4m3 then ex == 15 && m == 7 else ex == 2 ^ eb - 1
    if special then
      (if f == .e4m3 || m != 0 then .nan else .inf s)
    else if ex == 0 then .fin s m (1 - bias - mb)
    else .fin s (m + 2 ^ mb) (ex - bias - mb)

/-- What a conversion did to the value: it became NaN, or it was clamped or substituted (R268). -/
inductive Conv where
  | plain | sat | nan
  deriving DecidableEq, Repr

/-- The magnitude code of `m × 2^e` in a floating format, rounded to nearest even; above `maxCode` on overflow. -/
def Fmt.roundMag (f : Fmt) (m : Nat) (e : Int) : Nat :=
  if m == 0 then 0
  else
    let (eb, mb) := f.em
    let bias : Int := 2 ^ (eb - 1) - 1
    let emin := 1 - bias
    let top := (Nat.log2 m : Int) + e
    let q := max top emin - mb
    let mant : Nat := if q ≤ e then m * 2 ^ (e - q).toNat else (rneDiv m (2 ^ (q - e).toNat)).toNat
    mant + (q - (emin - mb)).toNat * 2 ^ mb

/-- Conversion to a floating format other than HB4 (R264 to R267); `ieee` selects the overflow mode. -/
def Fmt.encode (f : Fmt) (ieee : Bool) (v : Val) : Nat × Conv :=
  let sgn := fun (neg : Bool) (c : Nat) => if neg then c + 2 ^ (f.bits - 1) else c
  let clamped := fun (neg wasInf : Bool) =>
    if ieee then
      (if f == .e4m3 then (f.nanCode, Conv.nan)
       else (sgn neg (fld f.nanCode (f.bits - 2) f.em.2 * 2 ^ f.em.2), if wasInf then Conv.plain else Conv.sat))
    else (sgn neg f.maxCode, Conv.sat)
  match v with
  | .nan => (f.nanCode, .nan)
  | .inf s => clamped s true
  | .fin s m e =>
    let c := f.roundMag m e
    if f.maxCode < c then clamped s false else (sgn s c, .plain)

/-- A value rounded to FP32 with IEEE overflow: the rounding of every FP32 operation (R255, R261). -/
def Val.r32 (v : Val) : Val := Fmt.fp32.decode (Fmt.fp32.encode true v).1

/-- The value of an FP32 code. -/
def Val.of32 (c : Nat) : Val := Fmt.fp32.decode c

/-- The FP32 code of a value. -/
def Val.to32 (v : Val) : Nat := (Fmt.fp32.encode true v).1

/-- FP32 addition with one rounding. -/
def Val.fadd (a b : Val) : Val := (a.add b).r32

/-- FP32 multiplication with one rounding. -/
def Val.fmul (a b : Val) : Val := (a.mul b).r32

/-- One accumulation step of the floating class: `acc + a × b`, rounded once (R255). -/
def Val.fma (acc a b : Val) : Val := (acc.add (a.mul b)).r32

/-- A sequential FP32 sum from -0 (R255). -/
def Val.fsum (xs : List Val) : Val := xs.foldl Val.fadd Val.negZero

/-- FP32 division with one rounding. -/
def Val.fdiv (a b : Val) : Val :=
  match a, b with
  | .nan, _ => .nan
  | _, .nan => .nan
  | .inf _, .inf _ => .nan
  | .inf s, .fin t _ _ => .inf (s != t)
  | .fin s _ _, .inf t => .fin (s != t) 0 0
  | .fin s ma ea, .fin t mb eb =>
    if mb == 0 then (if ma == 0 then .nan else .inf (s != t))
    else
      let n := ma * 2 ^ 100
      Val.r32 (.fin (s != t) (2 * (n / mb) + (if n % mb == 0 then 0 else 1)) (ea - eb - 101))

/-- `1 / n` rounded to FP32 (R304, R305). -/
def Val.recip (n : Nat) : Val := (Val.fin false (rneDiv (2 ^ 200 : Nat) (max n 1)).toNat (-200)).r32

/-- An integer result as a code of an integer format, with the clamp of R262. -/
def Fmt.clampInt (f : Fmt) (y : Int) : Nat × Conv :=
  let z := clampI f.range.1 f.range.2 y
  (Sys2Proof.Machine.ofInt f.bits z, if z == y then .plain else .sat)

/-- A floating result as a code of an integer format (R1087). -/
def Fmt.intOfVal (f : Fmt) (v : Val) : Nat × Conv :=
  match v with
  | .nan => (0, .nan)
  | .inf s => (Sys2Proof.Machine.ofInt f.bits (if s then f.range.1 else f.range.2), .sat)
  | .fin s m e => f.clampInt (Val.toIntRne s m e)

/-- The exact value `acc × M / 2^SH + ZP` of R1084 step 1. -/
def requantVal (acc m : Int) (sh : Nat) (zp : Int) : Val := Val.ofScaled (acc * m + zp * 2 ^ sh) (-(sh : Int)) false

/-- `round_nearest_even(acc × M / 2^SH) + ZP` of R262. -/
def requantInt (acc m : Int) (sh : Nat) (zp : Int) : Int := rneDiv (acc * m) (2 ^ sh) + zp

/-- Wrapping to INT32 (R252). -/
def wrap32 (i : Int) : Int := sInt 32 (ofInt 32 i)

/-- An HB4 element code of this model: the shared exponent and the 4-bit mantissa. -/
def hb4Code (e q : Nat) : Nat := e * 16 + q % 16

/-- The value of an HB4 element (R246, R247). -/
def hb4Val (c : Nat) : Val :=
  if c / 16 == 255 then .nan else
    let q := sInt 4 (c % 16)
    Val.ofScaled q ((c / 16 : Nat) - 127) false

/-- The magnitude of a value as `m × 2^e`; an infinity counts as beyond every finite one. -/
def Val.isBeyond (v : Val) (m : Nat) (e : Int) : Bool :=
  match v with
  | .inf _ => true
  | .fin _ m' e' => Val.lt (.fin false m e) (.fin false m' e')
  | .nan => false

/-- Conversion of up to 32 values to an HB4 block (R249, R271 to R273): the element codes and what was done to each. -/
def hb4Encode (ieee : Bool) (xs : List Val) : List (Nat × Conv) :=
  let anyNan := xs.any Val.isNan
  let anyInf := xs.any fun (v : Val) => match v with | .inf _ => true | _ => false
  let logs := xs.filterMap fun (v : Val) => match v with
    | .fin _ m e => if m == 0 then none else some ((Nat.log2 m : Int) + e)
    | _ => none
  let top := logs.foldl max (logs.headD 0)
  let e0 : Int := if logs.isEmpty then 0 else top - 2 + 127
  let big := anyInf || decide (e0 > 254)
  if anyNan || (big && ieee) then xs.map fun _ => (hb4Code 255 0, .nan)
  else
    let e : Nat := if anyInf then 254 else (clampI 0 254 e0).toNat
    xs.map fun v =>
      match v with
      | .inf s => (hb4Code e (if s then 8 else 7), .sat)
      | .fin s m ex =>
        let q := clampI (-8) 7 (Val.toIntRne s m (ex - ((e : Int) - 127)))
        (hb4Code e (ofInt 4 q), if big && Val.isBeyond v 8 127 then .sat else .plain)
      | .nan => (hb4Code 255 0, .nan)

/-- The value of an element code of any format. -/
def Fmt.val (f : Fmt) (c : Nat) : Val := if f == .hb4 then hb4Val c else f.decode c

/-- The element codes that a tensor of `count` elements holds at `bs` (R244, R281); HB4 rows are whole blocks. -/
def Fmt.unpack (f : Fmt) (bs : List Byte) (count : Nat) : List Nat :=
  match f with
  | .int4 => ((bs.flatMap fun (b : Byte) => [b.toNat % 16, b.toNat / 16]) ++ List.replicate count 0).take count
  | .hb4 =>
    (((chunks 17 bs).flatMap fun (blk : List Byte) =>
      match blk with
      | [] => []
      | e :: qs => qs.flatMap fun (b : Byte) => [hb4Code e.toNat (b.toNat % 16), hb4Code e.toNat (b.toNat / 16)]) ++
      List.replicate count 0).take count
  | _ => (((chunks (f.bits / 8) bs).map leN) ++ List.replicate count 0).take count

/-- Pairs of nibbles as bytes, the even-indexed one low (R244). -/
def packNibbles : List Nat → List Byte
  | [] => []
  | [a] => [BitVec.ofNat 8 (a % 16)]
  | a :: b :: r => BitVec.ofNat 8 (a % 16 + 16 * (b % 16)) :: packNibbles r

/-- Element codes of one pixel as HB4 blocks (R245, R248). -/
def packHb4 (cs : List Nat) : List Byte :=
  (chunks 32 cs).flatMap fun (blk : List Nat) =>
    BitVec.ofNat 8 (blk.headD 0 / 16) :: packNibbles ((blk ++ List.replicate (32 - blk.length) 0).map (· % 16))

/-- Element codes as stored bytes (R244). -/
def Fmt.pack (f : Fmt) (cs : List Nat) : List Byte :=
  match f with
  | .int4 => packNibbles cs
  | .hb4 => packHb4 cs
  | _ => cs.flatMap fun c => leBytes (f.bits / 8) c

end Sys2Proof.Machine
end

