-- ==== Sys2Proof/Machine/Tables.lean ====
section
/-! DEFINITION. The fixed function tables (R309, R398, R399, R407, R431, R471, R1090). The manual does not give their contents, so each is
an uninterpreted function of `Config`; it gives bounds, so the model takes from it only what lies within the bound of the exact
function, and the exact result where it does not (log 8). Exact results are computed in fixed point with 200 fractional bits. -/

namespace Sys2Proof.Machine

/-! ## Exact functions in fixed point -/

/-- One. -/
def fxOne : Nat := 2 ^ 200

/-- A finite value in fixed point; exact for every FP32 value. -/
def Val.fx? : Val → Option Int
  | .fin s m e =>
    let k : Nat := if -200 ≤ e then m * 2 ^ (e + 200).toNat else m / 2 ^ (-200 - e).toNat
    some (if s then -(k : Int) else k)
  | _ => none

/-- `e^-u` for `u` up to 1/8, by its series. -/
def expSmall (u : Nat) : Nat :=
  let r := (List.range 40).foldl (fun (a : Int × Nat) k =>
    let t := a.2 * u / fxOne / (k + 1)
    (if k % 2 == 0 then a.1 - t else a.1 + t, t)) ((fxOne : Int), fxOne)
  r.1.toNat

/-- `e^-t` for `t ≥ 0`: below every bound from 128 on. -/
def expNeg (t : Nat) : Nat :=
  if 128 * fxOne ≤ t then 0 else (List.range 10).foldl (fun e _ => e * e / fxOne) (expSmall (t / 1024))

/-- The largest number whose `k`th power is at most `n`, below 2^300. -/
def rootOf (k n : Nat) : Nat :=
  (List.range 300).reverse.foldl (fun r i => if (r + 2 ^ i) ^ k ≤ n then r + 2 ^ i else r) 0

/-- Two BF16 ulp of a magnitude in fixed point, and the error of the fixed point itself. -/
def ulp2 (v : Nat) : Nat := 2 * 2 ^ (max (Nat.log2 v) 74 - 7) + 2 ^ 12

/-- The absolute error 2⁻¹². -/
def err12 : Nat := 2 ^ 188

/-- A table's output within `bound` of the exact result `x`; the exact result in FP32 where the output is not. -/
def held (x : Int) (bound : Nat) (raw : Val) : Val :=
  let exact := (Val.ofScaled x (-200) false).r32
  match raw.fx? with
  | some y => if (y - x).natAbs ≤ bound then raw else exact
  | none => exact

/-- The output of a table on FP32 codes. -/
def tableAt (f : Word → Word) (v : Val) : Val := Val.of32 (f (BitVec.ofNat 32 v.to32)).toNat

/-- The magnitude of a value that is no NaN, in fixed point; an infinity is beyond every bound. -/
def Val.magFx (v : Val) : Nat := (v.fx?.map Int.natAbs).getD (128 * fxOne)

/-- A value below zero. -/
def Val.below (v : Val) : Bool := Val.lt v Val.zero

/-- The exact sigmoid. -/
def sigmoidFx (v : Val) : Nat :=
  let e := expNeg v.magFx
  (if v.below then e else fxOne) * fxOne / (fxOne + e)

/-- The exact hyperbolic tangent. -/
def tanhFx (v : Val) : Int :=
  let e := expNeg (2 * v.magFx)
  let t : Nat := (fxOne - e) * fxOne / (fxOne + e)
  if v.below then -(t : Int) else t

/-! ## Tables of numbers -/

/-- The fixed sigmoid (R309, R1090). -/
def fsigmoid (v : Val) : Val :=
  if v.isNan then .nan else held (sigmoidFx v) (ulp2 (sigmoidFx v)) (tableAt Config.sigmoid v)

/-- The fixed tanh (R309, R1090). -/
def ftanh (v : Val) : Val :=
  if v.isNan then .nan else held (tanhFx v) (ulp2 (tanhFx v).natAbs) (tableAt Config.tanh v)

/-- The fixed exponential (R398, R407, R431, R1090). Beyond the range of FP32 no bound says anything. -/
def fexp (v : Val) : Val :=
  if v.isNan then .nan
  else
    let e := expNeg v.magFx
    if v.below || v.magFx == 0 then held e (ulp2 e) (tableAt Config.exp v)
    else if v.magFx ≤ 88 * fxOne then
      let x := fxOne * fxOne / max e 1
      held x (ulp2 x) (tableAt Config.exp v)
    else tableAt Config.exp v

/-- The fixed reciprocal square root (R399, R1090). At 0 and below it the exact function has no finite value, so no bound says
anything. -/
def frsqrt (v : Val) : Val :=
  match v with
  | .nan => .nan
  | .inf false => held 0 (ulp2 0) (tableAt Config.rsqrt v)
  | .fin false m e =>
    if m == 0 then tableAt Config.rsqrt v
    else
      let x := rootOf 2 (2 ^ (400 + (-e).toNat) / (m * 2 ^ e.toNat))
      held x (ulp2 x) (tableAt Config.rsqrt v)
  | _ => tableAt Config.rsqrt v

/-- The tree sigmoid of a finite class sum (R431, R1090). -/
def ftreeSigmoid (v : Val) : Val := held (sigmoidFx v) err12 (tableAt Config.treeSigmoid v)

/-- The tree softmax of class `c` (R431, R1090), for sums of which none is NaN or +infinity and one is finite: the largest sum is
subtracted, the exponentials are summed in ascending class, and each is divided by the sum. -/
def ftreeSoftmax (vs : List Val) (c : Nat) : Val :=
  let top := vs.foldl (fun a b => if Val.lt a b then b else a) (.inf true)
  let none_ := fun (v : Val) => v == .inf true
  let es := vs.map fun v => if none_ v then Val.zero else fexp (v.fadd top.neg)
  let xs := vs.map fun v => if none_ v then 0 else expNeg (top.add v.neg).magFx
  held (xs.getD c 0 * fxOne / max (sumN xs) 1 : Nat) err12 ((es.getD c Val.zero).fdiv (Val.fsum es))

/-! ## Colour (R471) -/

/-- A 12-bit code within one code of the exact result rounded to nearest even, and clamped (R471, R1090). -/
def codeHeld (num : Int) (den : Nat) (raw : Nat) : Nat :=
  let c := (clampI 0 4095 (rneDiv num den)).toNat
  if raw ≤ c + 1 && c ≤ raw + 1 && raw ≤ 4095 then raw else c

/-- Full-range BT.601, with Cb and Cr centred on 2,048. -/
def ycc (i r g b raw : Nat) : Nat :=
  let y : Int := 299 * r + 587 * g + 114 * b
  match i with
  | 0 => codeHeld y 1000 raw
  | 1 => codeHeld (2048 * 1772 + (1000 * b - y)) 1772 raw
  | _ => codeHeld (2048 * 1402 + (1000 * r - y)) 1402 raw

/-- HSV, with H over 0 to 4,095 for 0 to 360 degrees. A grey has no hue, and black no saturation: no exact result bounds those. -/
def hsv (i r g b raw : Nat) : Nat :=
  let mx := max r (max g b)
  let d := mx - min r (min g b)
  match i with
  | 0 =>
    if d == 0 then raw % 4096
    else
      let h : Int := if mx == r then (g : Int) - b + (if g < b then 6 * d else 0)
        else if mx == g then (b : Int) - r + 2 * d else (r : Int) - g + 4 * d
      codeHeld (4095 * h) (6 * d) raw
  | 1 => if mx == 0 then raw % 4096 else codeHeld (4095 * d) mx raw
  | _ => codeHeld mx 1 raw

/-- The Lab function of a ratio `n / d` of linear tristimulus values. -/
def labF (n d : Nat) : Int :=
  if 216 * d < 24389 * n then (rootOf 3 (n * 2 ^ 600 / d) : Nat)
  else ((n * fxOne * 841 / (d * 108) + fxOne * 4 / 29 : Nat) : Int)

/-- Lab with D65 white and sRGB primaries: L over 0 to 4,095 for 0 to 100, a and b centred on 2,048 at 16 codes a unit. The tristimulus
values over those of white come from the chromaticities of the primaries, of linear inputs (log 8). -/
def lab (i r g b raw : Nat) : Nat :=
  let fx := labF (1013504 * r + 878810 * g + 443555 * b) (2335869 * 4095)
  let fy := labF (261294 * r + 878810 * g + 88711 * b) (1228815 * 4095)
  let fz := labF (142524 * r + 878810 * g + 7008169 * b) (8029503 * 4095)
  match i with
  | 0 => codeHeld ((116 * fy - 16 * fxOne) * 4095) (100 * fxOne) raw
  | 1 => codeHeld (2048 * fxOne + 8000 * (fx - fy)) fxOne raw
  | _ => codeHeld (2048 * fxOne + 3200 * (fy - fz)) fxOne raw

/-- Channel `i` of the conversion of a 12-bit RGB pixel to a space of R471 step 3: 1 YCbCr, 2 HSV, 3 Lab. -/
def colourOf (space i r g b : Nat) : Nat :=
  let raw := Config.colour space i r g b
  match space with
  | 1 => ycc i r g b raw
  | 2 => hsv i r g b raw
  | _ => lab i r g b raw

end Sys2Proof.Machine
end

