-- ==== Sys2Proof/Machine/Types.lean ====
section
/-! DEFINITION. The tables that a loaded manifest installs: the sections of the device block (R156 to R174) and of a
station block (R175 to R186, R279, R391), as records with the field names of the manual. -/

namespace Sys2Proof.Machine

/-- DEVICE section (R156). -/
structure DevSect where
  /-- REFCLK bit 0: REFCLK_B is fitted. -/
  refB : Bool
  /-- ETH0_MODE. -/
  eth0 : Nat
  /-- ETH1_MODE. -/
  eth1 : Nat
  /-- LANE_REF. -/
  laneRef : Nat
  /-- VC_WEIGHT. -/
  vcWeight : Nat
  /-- APP_WDOG, in ms. -/
  appWdog : Nat
  deriving DecidableEq, Repr

/-- STATION_ENVELOPE section (R158). -/
structure Env where
  /-- The station that owns the section. -/
  stn : Nat
  /-- KIND 1: a shadow station. -/
  shadow : Bool
  /-- PARENT. -/
  parent : Nat
  /-- TILES_MIN. -/
  tilesMin : Nat
  /-- TILES_MAX. -/
  tilesMax : Nat
  /-- PAGES. -/
  pages : Nat
  /-- MILESTONES. -/
  miles : Nat
  /-- DRAM_BASE, in MiB. -/
  dramBase : Nat
  /-- DRAM_SIZE, in MiB. -/
  dramSize : Nat
  /-- BALE_BASE, in MiB. -/
  baleBase : Nat
  /-- BALE_SIZE, in MiB. -/
  baleSize : Nat
  /-- SHARE_TILE. -/
  shareTile : Nat
  /-- SHARE_BW. -/
  shareBw : Nat
  /-- FLOOR, per mille. -/
  floor : Nat
  /-- DECODE_FLOOR, per mille. -/
  decFloor : Nat
  /-- VC_QUOTA. -/
  vcQuota : Nat
  /-- MAX_JOBS. -/
  maxJobs : Nat
  deriving DecidableEq, Repr

/-- ENDPOINT section (R159). -/
structure EpDecl where
  /-- Owning station, 255 for a device-owned endpoint. -/
  stn : Nat
  /-- LINK. -/
  link : Nat
  /-- ADDR. -/
  addr : Nat
  /-- CLASS. -/
  cls : Nat
  /-- WIDTH in lanes. -/
  width : Nat
  /-- RATE code. -/
  rate : Nat
  /-- FIRST_LANE. -/
  firstLane : Nat
  /-- POWER: lowest permitted state. -/
  power : Nat
  /-- SERIAL. -/
  serial : Nat
  /-- GUARD_NS. -/
  guardNs : Nat
  deriving DecidableEq, Repr

/-- CAMERA section (R161). -/
structure CamDecl where
  /-- Owning station. -/
  stn : Nat
  /-- CAM. -/
  cam : Nat
  /-- LINK. -/
  link : Nat
  /-- ADDR. -/
  addr : Nat
  /-- PIXFMT. -/
  pixfmt : Nat
  /-- WIDTH. -/
  width : Nat
  /-- LINES. -/
  lines : Nat
  /-- CAM_OFFSET. -/
  offset : Nat
  /-- LINE_PITCH, 16.16. -/
  pitch : Nat
  /-- STRIPE. -/
  stripe : Nat
  /-- MAX_LINE_KHZ. -/
  maxKhz : Nat
  /-- LEAD. -/
  lead : Bool
  deriving DecidableEq, Repr

/-- Colour planes or sub-lines per line (R452). -/
def CamDecl.planes (c : CamDecl) : Nat :=
  match fld c.pixfmt 3 2 with
  | 0 => 1
  | 1 => 2
  | _ => 3

/-- Bits per pixel: 8, 10 or 12 (R161). -/
def CamDecl.depth (c : CamDecl) : Nat := 8 + 2 * fld c.pixfmt 1 0

/-- Bytes per pixel in the bale store (R451). -/
def CamDecl.bpp (c : CamDecl) : Nat := if fld c.pixfmt 1 0 == 0 then 1 else 2

/-- Stripes of a bale (R327). -/
def stripeCount (c : CamDecl) : Nat := max 1 (ceilDiv c.lines c.stripe)

/-- Colour camera. -/
def CamDecl.colour (c : CamDecl) : Bool := fld c.pixfmt 3 2 != 0

/-- A channel block of an ODOMETER section (R163). -/
structure OdoCh where
  /-- MODE. -/
  mode : Nat
  /-- FILTER. -/
  filter : Nat
  /-- INDEX. -/
  index : Nat
  /-- DIR_HYST. -/
  dirHyst : Nat
  /-- CPR. -/
  cpr : Nat
  deriving DecidableEq, Repr

/-- ODOMETER section (R163). -/
structure OdoDecl where
  /-- Owning station. -/
  stn : Nat
  /-- PRIMARY. -/
  primary : Nat
  /-- SECONDARY, 255 for none. -/
  secondary : Nat
  /-- SYNTH. -/
  synth : Bool
  /-- HANDOVER_TICKS. -/
  handover : Nat
  /-- REQUAL_TICKS as stored; 0 selects 4,096. -/
  requal : Nat
  /-- Channel block of the primary. -/
  c1 : OdoCh
  /-- Channel block of the secondary. -/
  c2 : OdoCh
  deriving DecidableEq, Repr

/-- FIELD_CHANNEL section (R164). -/
structure FioDecl where
  /-- Owning station, 255 for a device-owned STOP_LINE output. -/
  stn : Nat
  /-- CH. -/
  ch : Nat
  /-- FUNC. -/
  func : Nat
  /-- INTYPE. -/
  intype : Nat
  /-- GATE. -/
  gate : Nat
  /-- FILTER_US. -/
  filterUs : Nat
  /-- PEAK_US. -/
  peakUs : Nat
  /-- HOLD_DUTY. -/
  holdDuty : Nat
  /-- SETTLE_US as stored; 0 selects 20 µs. -/
  settleUs : Nat
  deriving DecidableEq, Repr

/-- An ejector entry (R166). -/
structure Ejector where
  /-- VERDICT served. -/
  verdict : Nat
  /-- KIND 1: remote endpoint channel. -/
  remote : Bool
  /-- CH: FIO channel or endpoint ADDR. -/
  ch : Nat
  /-- LINK. -/
  link : Nat
  /-- RCH. -/
  rch : Nat
  /-- BACKUP channel, 255 for none. -/
  backup : Nat
  /-- PULSE_US. -/
  pulseUs : Nat
  /-- OFFSET. -/
  offset : Nat
  /-- LEAD. -/
  lead : Nat
  deriving DecidableEq, Repr

/-- MILESTONE_POLICY section (R166). -/
structure Policy where
  /-- Owning station. -/
  stn : Nat
  /-- TRIG_CH. -/
  trigCh : Nat
  /-- TRIG_EDGE 1: falling. -/
  falling : Bool
  /-- DEFAULT. -/
  dflt : Nat
  /-- TRIG_OVF_STOP. -/
  ovfStop : Bool
  /-- V_MAX. -/
  vMax : Nat
  /-- MIN_PITCH. -/
  minPitch : Nat
  /-- BACKLASH. -/
  backlash : Nat
  /-- Ejector entries. -/
  ej : List Ejector
  deriving DecidableEq, Repr

/-- CONVOY_GROUP section (R170). -/
structure GroupDecl where
  /-- Owning station. -/
  stn : Nat
  /-- GROUP. -/
  group : Nat
  /-- WEIGHT. -/
  weight : Nat
  /-- TIMEOUT_US. -/
  timeoutUs : Nat
  /-- MEMBER entries in order; 0x8000 is this device. -/
  members : List Nat
  deriving DecidableEq, Repr

/-- POWER_POLICY section (R173). -/
structure PowerPolicy where
  /-- ENVELOPE_W. -/
  envelopeW : Nat
  /-- BANDS. -/
  bands : Nat
  /-- OP_DEFAULT. -/
  opDefault : Nat
  /-- OP_MAX. -/
  opMax : Nat
  /-- T_THROTTLE, in degrees. -/
  tThrottle : Nat
  /-- DOMAINS_OFF. -/
  domainsOff : Nat
  /-- GUARD_NS as stored. -/
  guardNs : Nat
  /-- RESYNC_RT. -/
  resyncRt : Nat
  /-- DOZE_US. -/
  dozeUs : Nat
  /-- SLEEP_MS. -/
  sleepMs : Nat
  deriving DecidableEq, Repr

/-- A device block (R104, R107). -/
structure DevBlock where
  /-- KEY_SLOT. -/
  keySlot : Nat
  /-- GEN. -/
  gen : Nat
  /-- FLAGS bit 0. -/
  detMode : Bool
  /-- FLAGS bit 1: holes mode. -/
  holes : Bool
  /-- DEVICE. -/
  dev : DevSect
  /-- STATION_ENVELOPE sections. -/
  envs : List Env
  /-- ENDPOINT sections. -/
  eps : List EpDecl
  /-- CAMERA sections. -/
  cams : List CamDecl
  /-- ODOMETER sections. -/
  odos : List OdoDecl
  /-- FIELD_CHANNEL sections. -/
  fields : List FioDecl
  /-- MILESTONE_POLICY sections. -/
  policies : List Policy
  /-- CONVOY_GROUP sections. -/
  groups : List GroupDecl
  /-- POWER_POLICY. -/
  power : PowerPolicy
  /-- STATION_KEYS: sixteen digests, as numbers, most significant byte first. -/
  keys : List Nat
  deriving DecidableEq, Repr

/-- ISP_CONTEXT section (R178). -/
structure IspCtx where
  /-- CTX. -/
  ctx : Nat
  /-- CAM. -/
  cam : Nat
  /-- PATH 1: in-line. -/
  inline : Bool
  /-- OUTPUTS: bit 0 display, bit 1 coding, bit 2 vision. -/
  outputs : Nat
  /-- COLOUR. -/
  colour : Nat
  /-- S2D. -/
  s2d : Nat
  /-- TENSOR_FMT. -/
  fmt : Fmt
  /-- DISP_FMT 1: YCbCr 4:2:2. -/
  dispYuv : Bool
  /-- DISP_W. -/
  dispW : Nat
  /-- CORR. -/
  corr : Nat
  /-- CCM, row-major, signed Q3.12. -/
  ccm : List Int
  /-- CCM_OFF. -/
  ccmOff : List Int
  /-- MEAN, in 1/16 code units. -/
  mean : List Int
  /-- SCALE, unsigned Q4.12. -/
  scale : List Nat
  /-- FFC_REF. -/
  ffcRef : Nat
  /-- FFC_LEN. -/
  ffcLen : Nat
  deriving DecidableEq, Repr

/-- The operations of a layer descriptor (R279). -/
inductive LOp where
  | conv | depthwise | fc | maxpool | avgpool | gmax | gavg | add | mul | s2d | d2s | norm
  deriving DecidableEq, Repr

/-- The operation of an OP code (R279). -/
def LOp.ofCode : Nat → Option LOp
  | 0x01 => some .conv | 0x02 => some .depthwise | 0x03 => some .fc | 0x10 => some .maxpool | 0x11 => some .avgpool
  | 0x12 => some .gmax | 0x13 => some .gavg | 0x20 => some .add | 0x21 => some .mul | 0x30 => some .s2d
  | 0x31 => some .d2s | 0x40 => some .norm
  | _ => none

/-- A layer descriptor (R279). -/
structure Layer where
  /-- OP. -/
  op : LOp
  /-- FMT_A. -/
  fmtA : Fmt
  /-- FMT_W; none is 0xF. -/
  fmtW : Option Fmt
  /-- FMT_OUT. -/
  fmtOut : Fmt
  /-- KH. -/
  kh : Nat
  /-- KW. -/
  kw : Nat
  /-- SY. -/
  sy : Nat
  /-- SX. -/
  sx : Nat
  /-- DY. -/
  dy : Nat
  /-- DX. -/
  dx : Nat
  /-- PAD top. -/
  padT : Nat
  /-- PAD bottom. -/
  padB : Nat
  /-- PAD left. -/
  padL : Nat
  /-- PAD right. -/
  padR : Nat
  /-- C_IN. -/
  cIn : Nat
  /-- C_OUT. -/
  cOut : Nat
  /-- W_IN. -/
  wIn : Nat
  /-- SRC0; none is the stripe input. -/
  src0 : Option Nat
  /-- SRC1; none is the stripe input for ADD and MUL. -/
  src1 : Option Nat
  /-- ACT. -/
  act : Nat
  /-- FLAGS bit 0: IEEE overflow mode. -/
  ieee : Bool
  /-- FLAGS bit 1. -/
  bias : Bool
  /-- FLAGS bit 2. -/
  spill : Bool
  /-- FLAGS bit 3. -/
  scores : Bool
  /-- FLAGS bit 4. -/
  measure : Bool
  /-- FLAGS bit 5. -/
  features : Bool
  /-- CMP_M. -/
  cmpM : Nat
  /-- REGROUP. -/
  regroup : Nat
  /-- ACT_PARAM, an FP32 code. -/
  actParam : Nat
  /-- IN_ZP. -/
  inZp : Int
  /-- OUT_BASE. -/
  outBase : Nat
  /-- W_REF. -/
  wRef : Nat
  /-- W_LEN. -/
  wLen : Nat
  /-- B_REF. -/
  bRef : Nat
  /-- Q_REF. -/
  qRef : Nat
  /-- SPILL_OFF. -/
  spillOff : Nat
  deriving DecidableEq, Repr

/-- An ensemble entry of the TREES section (R180). -/
structure Ensemble where
  /-- DEPTH. -/
  depth : Nat
  /-- THR_FMT 0x8: BF16. -/
  thrBf16 : Bool
  /-- LEAF_BITS. -/
  leafBits : Nat
  /-- CLASSES. -/
  classes : Nat
  /-- TREES. -/
  trees : Nat
  /-- FEATURES. -/
  features : Nat
  /-- OUT_FN. -/
  outFn : Nat
  /-- BASE_REF. -/
  baseRef : Nat
  /-- ARRAY_REF. -/
  arrayRef : Nat
  /-- ARRAY_LEN. -/
  arrayLen : Nat
  deriving DecidableEq, Repr

/-- A decoder entry of the DECODE section (R181) with the header of its image (R391). -/
structure DecDecl where
  /-- USE 1: interactive explanation. -/
  interactive : Bool
  /-- SAMPLING 1: top-k. -/
  topk : Bool
  /-- TOPK. -/
  k : Nat
  /-- SEED 1: TRNG. -/
  trng : Bool
  /-- VOCAB. -/
  vocab : Nat
  /-- MAX_TOKENS. -/
  maxTokens : Nat
  /-- W_REF. -/
  wRef : Nat
  /-- W_LEN. -/
  wLen : Nat
  /-- KV_PAGES. -/
  kvPages : Nat
  /-- END_TOKEN. -/
  endToken : Nat
  /-- D_MODEL. -/
  dModel : Nat
  /-- N_LAYERS. -/
  nLayers : Nat
  /-- N_HEADS. -/
  nHeads : Nat
  /-- D_FF. -/
  dFf : Nat
  /-- WFMT. -/
  wfmt : Fmt
  /-- SRC_LAYER. -/
  srcLayer : Nat
  /-- MEM_MAX. -/
  memMax : Nat
  /-- START_TOKEN. -/
  startToken : Nat
  /-- RMS_EPS, an FP32 code. -/
  rmsEps : Nat
  /-- TOK_OFF. -/
  tokOff : Nat
  /-- EMB_OFF. -/
  embOff : Nat
  /-- POS_OFF. -/
  posOff : Nat
  /-- LAYER_OFF. -/
  layerOff : Nat
  /-- OUT_OFF. -/
  outOff : Nat
  deriving DecidableEq, Repr

/-- A rule of the verdict program (R182). -/
structure Rule where
  /-- OP. -/
  op : Nat
  /-- INDEX. -/
  index : Nat
  /-- CMP. -/
  cmp : Nat
  /-- VERDICT. -/
  verdict : Nat
  /-- A. -/
  a : Nat
  /-- B. -/
  b : Nat
  deriving DecidableEq, Repr

/-- A resident station block (R105, R107). `uid` tells the resident blocks apart; `payBase` is where the loader placed
the copy of its PAYLOAD section in DRAM (R119). -/
structure StnBlock where
  /-- The model's own number of this block. -/
  uid : Nat
  /-- STATION. -/
  stn : Nat
  /-- GEN. -/
  gen : Nat
  /-- STATION.NAME. -/
  name : List Byte
  /-- STATION.FORMATS. -/
  formats : Nat
  /-- REQ_DET. -/
  reqDet : Bool
  /-- PART_W. -/
  partW : Nat
  /-- PART_H. -/
  partH : Nat
  /-- TILE_REGION.PAGES. -/
  pages : Nat
  /-- DECODE_TILES. -/
  decTiles : Nat
  /-- SPLITK. -/
  splitK : Nat
  /-- ISP_CONTEXT sections. -/
  ctxs : List IspCtx
  /-- LAYERS. -/
  layers : List Layer
  /-- TREES. -/
  trees : List Ensemble
  /-- DECODE. -/
  decs : List DecDecl
  /-- VERDICT_PROGRAM. -/
  rules : List Rule
  /-- Where the payload lies in DRAM. -/
  payBase : Nat
  /-- Its length in bytes. -/
  payLen : Nat
  deriving DecidableEq, Repr

/-- The context with the vision output (R457). -/
def StnBlock.vision (b : StnBlock) : Option IspCtx := b.ctxs.find? fun c => bitAt c.outputs 2

/-- The envelope of a station. -/
def DevBlock.env? (d : DevBlock) (n : Nat) : Option Env := d.envs.find? fun e => e.stn == n
/-- The MILESTONE_POLICY of a station. -/
def DevBlock.policy? (d : DevBlock) (n : Nat) : Option Policy := d.policies.find? fun e => e.stn == n
/-- The ODOMETER section of a station. -/
def DevBlock.odo? (d : DevBlock) (n : Nat) : Option OdoDecl := d.odos.find? fun e => e.stn == n
/-- The CAMERA section of a camera index. -/
def DevBlock.cam? (d : DevBlock) (c : Nat) : Option CamDecl := d.cams.find? fun e => e.cam == c
/-- The FIELD_CHANNEL section of a channel. -/
def DevBlock.field? (d : DevBlock) (c : Nat) : Option FioDecl := d.fields.find? fun e => e.ch == c
/-- The ENDPOINT section of an address. -/
def DevBlock.ep? (d : DevBlock) (l a : Nat) : Option EpDecl := d.eps.find? fun e => e.link == l && e.addr == a
/-- The CONVOY_GROUP section of a group. -/
def DevBlock.group? (d : DevBlock) (g : Nat) : Option GroupDecl := d.groups.find? fun e => e.group == g
/-- The station whose line a station inspects: its parent for a shadow (R132). -/
def DevBlock.lineOf (d : DevBlock) (n : Nat) : Nat :=
  match d.env? n with
  | some e => if e.shadow then e.parent else n
  | none => n
/-- The cameras that a station owns (R161, R187). -/
def DevBlock.ownCams (d : DevBlock) (n : Nat) : List CamDecl := d.cams.filter fun c => c.stn == n
/-- The cameras whose lines a station inspects; a shadow's are its parent's (R132). -/
def DevBlock.camsOf (d : DevBlock) (n : Nat) : List CamDecl := d.cams.filter fun c => c.stn == d.lineOf n
/-- The ejector entry of a policy that serves an outcome (R22). -/
def Policy.ejector? (p : Policy) (o : Nat) : Option Ejector := p.ej.find? fun e => e.verdict == o
/-- D of R23: the smallest OFFSET - LEAD over the ejector entries. -/
def Policy.dead (p : Policy) : Nat :=
  match p.ej.map fun e => e.offset - e.lead with
  | [] => 0
  | x :: r => r.foldl min x
/-- Guaranteed tiles G (R336). -/
def Env.guar (e : Env) : Nat := max e.tilesMin (ceilDiv (e.floor * 64) 1000)

end Sys2Proof.Machine
end

