-- ==== Sys2Proof/Machine/Decoder.lean ====
section
/-! DEFINITION. Token decoding (R391 to R410): the transformer step in FP32 with BF16 activations, and the choice of a
token. The exponential and reciprocal square root are the fixed tables of R1090. -/

namespace Sys2Proof.Machine

/-- A vector of FP32 values. -/
abbrev FVec := List Val

/-- A value rounded to BF16 (R397, R400). -/
def toBf16 (v : Val) : Val := Fmt.bf16.decode (Fmt.bf16.encode true v).1

/-- A dot product of BF16 activations with weights, in ascending input index (R397). -/
def fdot (w x : FVec) : Val := (w.zip x).foldl (fun acc p => acc.fma (toBf16 p.2) p.1) Val.negZero

/-- A matrix of `rows` rows times a vector. -/
def matVec (m : List FVec) (x : FVec) : FVec := m.map fun r => fdot r x

/-- Elementwise FP32 addition. -/
def vadd (a b : FVec) : FVec := (a.zip b).map fun p => p.1.fadd p.2

/-- `rms(h, g)` of R399. -/
def rms (eps : Val) (g h : FVec) : FVec :=
  let ms := (Val.fsum (h.map fun v => v.fmul v)).fmul (Val.recip h.length)
  let k := frsqrt (ms.fadd eps)
  (h.zip g).map fun p => (p.1.fmul p.2).fmul k

/-- Attention of one query over keys and values in ascending position, split into heads (R398). -/
def attention (heads : Nat) (q : FVec) (ks vs : List FVec) : FVec :=
  let n := q.length / max heads 1
  (List.range heads).flatMap fun h =>
    let part := fun (v : FVec) => (v.drop (h * n)).take n
    let sc := ks.map fun k => ((part q).zip (part k)).foldl (fun acc p => acc.fadd (p.1.fmul p.2)) Val.negZero
    let top := sc.foldl (fun a b => if Val.lt a b then b else a) (sc.headD .nan)
    let es := sc.map fun s => fexp (s.fadd top.neg)
    let tot := Val.fsum es
    let ws := es.map fun e => e.fdiv tot
    (List.range n).map fun i =>
      (ws.zip vs).foldl (fun acc p => acc.fadd (p.1.fmul ((part p.2).getD i Val.zero))) Val.negZero

/-- The tensors of a decoder image, read through `rd offset count` as values of WFMT and `gain offset count` as FP32. -/
structure Image where
  /-- WFMT elements from a byte offset. -/
  rd : Nat → Nat → FVec
  /-- FP32 elements from a byte offset. -/
  gain : Nat → Nat → FVec

/-- The image of a decoder whose bytes are `bs`. -/
def imageOf (d : DecDecl) (bs : List Byte) : Image :=
  let sz := d.wfmt.bits / 8
  { rd := fun o n => ((chunks sz (slice bs o (n * sz))).map leN).map d.wfmt.decode
    gain := fun o n => ((chunks 4 (slice bs o (n * 4))).map leN).map Val.of32 }

/-- Bytes of one layer block (R393). -/
def DecDecl.blockBytes (d : DecDecl) : Nat :=
  let sz := d.wfmt.bits / 8
  3 * 4 * d.dModel + (8 * d.dModel * d.dModel + 2 * d.dModel * d.dFf) * sz

/-- The matrix of `rows` rows of `cols` at byte offset `o`. -/
def Image.mat (im : Image) (o rows cols sz : Nat) : List FVec := (List.range rows).map fun r => im.rd (o + r * cols * sz) cols

/-- Keys and values of one layer: self-attention so far, and the memory's. -/
structure KvLayer where
  /-- Self-attention keys. -/
  k : List FVec
  /-- Self-attention values. -/
  v : List FVec
  deriving DecidableEq, Repr

/-- Offsets inside a layer block (R393): g1, Wq, Wk, Wv, Wo, g2, Cq, Ck, Cv, Co, g3, W1, W2. -/
def blockOffs (d : DecDecl) (base : Nat) : List Nat :=
  let sz := d.wfmt.bits / 8
  let g := 4 * d.dModel
  let m := d.dModel * d.dModel * sz
  let sizes := [g, m, m, m, m, g, m, m, m, m, g, d.dFf * d.dModel * sz, d.dFf * d.dModel * sz]
  (sizes.foldl (fun (acc : List Nat × Nat) n => (acc.1 ++ [acc.2], acc.2 + n)) ([], base)).1

/-- The memory's cross-attention keys and values of layer `i` (R400). -/
def crossKv (d : DecDecl) (im : Image) (mem : List FVec) (i : Nat) : KvLayer :=
  let offs := blockOffs d (d.layerOff + i * d.blockBytes)
  let sz := d.wfmt.bits / 8
  let ck := im.mat (offs.getD 7 0) d.dModel d.dModel sz
  let cv := im.mat (offs.getD 8 0) d.dModel d.dModel sz
  ⟨mem.map fun r => (matVec ck r).map toBf16, mem.map fun r => (matVec cv r).map toBf16⟩

/-- The memory's keys and values of every layer, computed once when a sequence starts (R400). -/
def crossOf (d : DecDecl) (bs : List Byte) (mem : List FVec) : List KvLayer :=
  (List.range d.nLayers).map (crossKv d (imageOf d bs) mem)

/-- One layer of a step (R396): the new hidden vector and the keys and values with this position's. `c` holds the memory's. -/
def layerStep (d : DecDecl) (im : Image) (c : KvLayer) (i : Nat) (h : FVec) (kv : KvLayer) : FVec × KvLayer :=
  let o := blockOffs d (d.layerOff + i * d.blockBytes)
  let sz := d.wfmt.bits / 8
  let eps := Val.of32 d.rmsEps
  let at_ := fun (k : Nat) => o.getD k 0
  let mat := fun (k : Nat) => im.mat (at_ k) d.dModel d.dModel sz
  let x := rms eps (im.gain (at_ 0) d.dModel) h
  let kv' : KvLayer := ⟨kv.k ++ [(matVec (mat 2) x).map toBf16], kv.v ++ [(matVec (mat 3) x).map toBf16]⟩
  let h := vadd h (matVec (mat 4) (attention d.nHeads (matVec (mat 1) x) kv'.k kv'.v))
  let x := rms eps (im.gain (at_ 5) d.dModel) h
  let h := vadd h (matVec (mat 9) (attention d.nHeads (matVec (mat 6) x) c.k c.v))
  let x := rms eps (im.gain (at_ 10) d.dModel) h
  let f := (matVec (im.mat (at_ 11) d.dFf d.dModel sz) x).map fun v => if Val.lt Val.zero v then v else if v.isNan then .nan else Val.zero
  (vadd h (matVec (im.mat (at_ 12) d.dModel d.dFf sz) f), kv')

/-- One step for position `p` with input token `t` (R396): the logits and the grown keys and values. -/
def decodeStep (d : DecDecl) (bs : List Byte) (cross kvs : List KvLayer) (p t : Nat) : FVec × List KvLayer :=
  let im := imageOf d bs
  let sz := d.wfmt.bits / 8
  let h0 := vadd (im.rd (d.embOff + t * d.dModel * sz) d.dModel) (im.rd (d.posOff + p * d.dModel * sz) d.dModel)
  let r := (List.range d.nLayers).foldl (fun (acc : FVec × List KvLayer) i =>
    let s := layerStep d im (cross.getD i ⟨[], []⟩) i acc.1 (kvs.getD i ⟨[], []⟩)
    (s.1, acc.2 ++ [s.2])) (h0, [])
  let x := rms (Val.of32 d.rmsEps) (im.gain d.outOff d.dModel) r.1
  (matVec (im.mat (d.outOff + 4 * d.dModel) d.vocab d.dModel sz) x, r.2)

/-- The index of the largest value, the lowest among equals (R406). -/
def argmax (xs : FVec) : Nat :=
  ((indexed xs).foldl (fun (best : Option (Nat × Val)) p =>
    match best with
    | none => some p
    | some b => if Val.lt b.2 p.2 then some p else some b) none).elim 0 Prod.fst

/-- The `k` largest, in rank order (R407). -/
def ranked : Nat → List (Nat × Val) → List (Nat × Val)
  | 0, _ => []
  | k + 1, xs =>
    match xs with
    | [] => []
    | x :: r =>
      let b := r.foldl (fun (b : Nat × Val) p => if Val.lt b.2 p.2 then p else b) x
      b :: ranked k (xs.filter fun p => p.1 != b.1)

/-- One draw of the xorshift generator: the new state and the draw (R408). -/
def xorshift (s : Nat) : Nat × Nat :=
  let m := 2 ^ 64
  let s := s ^^^ (s * 2 ^ 13 % m)
  let s := s ^^^ (s / 2 ^ 7)
  let s := s ^^^ (s * 2 ^ 17 % m)
  (s, s / 2 ^ 40)

/-- The starting state of the generator (R409). -/
def seedOf (d : DecDecl) (bale stn dec draw : Nat) : Nat :=
  if d.trng then
    let v := (Config.trng draw).toNat
    if v == 0 then 1 else v
  else bale % 2 ^ 32 * 2 ^ 32 + stn * 256 + dec * 2 + 1

/-- The token chosen and the generator's new state (R406 to R410). -/
def chooseToken (d : DecDecl) (gen : Nat) (logits : FVec) : Nat × Nat :=
  if d.topk then
    let rs := ranked d.k (indexed logits)
    let top := (rs.headD (0, .nan)).2
    let ws := rs.map fun p => fexp (p.2.fadd top.neg)
    let tot := Val.fsum ws
    let g := xorshift gen
    let bound := (Val.fin false g.2 (-24)).fmul tot
    let r := (rs.zip ws).foldl (fun (acc : Option Nat × Val) p =>
      let run := acc.2.fadd p.2
      match acc.1 with
      | some t => (some t, run)
      | none => (if Val.lt bound run then some p.1.1 else none, run)) (none, Val.negZero)
    (r.1.getD ((rs.getLast?.getD (0, .nan)).1), g.1)
  else (argmax logits, gen)

end Sys2Proof.Machine
end

