-- ==== Sys2Proof/Machine/Mem.lean ====
section
/-! DEFINITION. Byte memories as sparse lists in one canonical form: addresses strictly rising, no entry equal to what
an unlisted address reads as (R1014; assumption 3). -/

namespace Sys2Proof.Machine

/-- A memory: the bytes that differ from what an unlisted address reads as. -/
abbrev Memory := List Host.Cell

/-- The byte at `a`, `dflt` where nothing is listed. -/
def Memory.read (dflt : Byte) : Memory → Nat → Byte
  | [], _ => dflt
  | (k, v) :: r, a => if a == k then v else if a < k then dflt else Memory.read dflt r a

/-- `m` with `v` at `a`; writing `dflt` removes the entry. -/
def Memory.write (dflt : Byte) : Memory → Nat → Byte → Memory
  | [], a, v => if v == dflt then [] else [(a, v)]
  | (k, w) :: r, a, v =>
    if a < k then (if v == dflt then (k, w) :: r else (a, v) :: (k, w) :: r)
    else if a == k then (if v == dflt then r else (a, v) :: r)
    else (k, w) :: Memory.write dflt r a v

/-- The bytes of `bs` written from `a` upwards. -/
def Memory.writes (dflt : Byte) (m : Memory) (a : Nat) : List Byte → Memory
  | [] => m
  | b :: r => Memory.writes dflt (Memory.write dflt m a b) (a + 1) r

/-- `n` bytes from `a` upwards. -/
def Memory.reads (dflt : Byte) (m : Memory) (a n : Nat) : List Byte :=
  (List.range n).map fun i => Memory.read dflt m (a + i)

/-- Every byte of `[a, a + n)` back to what an unlisted address reads as. -/
def Memory.clear (m : Memory) (a n : Nat) : Memory := m.filter fun c => c.1 < a || a + n ≤ c.1

/-- The canonical form above the bound `lo`: addresses strictly rising from `lo`, no entry equal to `dflt`. -/
def Memory.wfFrom (dflt : Byte) : Nat → Memory → Bool
  | _, [] => true
  | lo, (k, v) :: r => decide (lo ≤ k) && v != dflt && Memory.wfFrom dflt (k + 1) r

/-- The canonical form. -/
def Memory.wf (dflt : Byte) (m : Memory) : Bool := Memory.wfFrom dflt 0 m

end Sys2Proof.Machine
end

