-- ==== Sys2Proof/Machine/State.lean ====
section
/-! DEFINITION. The state of the device as plain data, and its state right after power-up reset. Configuration,
counters, sticky flags and status words live in the register file `regs`; what is not a register, or is wider than
one, has a field of its own. -/

namespace Sys2Proof.Machine

/-- Why a step could stop with a fault. No command of this block raises one: every access to an address that does not
exist has an effect of its own (R1018). -/
inductive Fault where
  /-- Raised by no command; safe. -/
  | none
  deriving DecidableEq, Repr

/-- Why a command has no meaning. -/
inductive Refusal where
  /-- A command of the opcode table that is not modelled yet, by its mnemonic; raised by the dispatch only; safe. -/
  | notModelled (mnemonic : String)
  deriving DecidableEq, Repr

/-- The registers that differ from their reset words, or have been written (R9). -/
abbrev RegFile := List (Nat × Word)

/-- The word of a register. -/
def RegFile.get : RegFile → Nat → Word
  | [], a => BitVec.ofNat 32 (regReset a)
  | (k, w) :: r, a => if a == k then w else RegFile.get r a

/-- A register written by the hardware. -/
def RegFile.set : RegFile → Nat → Word → RegFile
  | [], a, v => [(a, v)]
  | (k, w) :: r, a, v => if a == k then (k, v) :: r else if a < k then (a, v) :: (k, w) :: r else (k, w) :: RegFile.set r a v

/-- A pending write to the RS fields of one register (R53, R60). -/
structure ShadowWrite where
  /-- The owning station; none for the device. -/
  own : Option Nat
  /-- The register. -/
  addr : Nat
  /-- The word last written. -/
  val : Word
  deriving DecidableEq, Repr

/-- What a low-word read has latched for one initiator (R75, R770, R854, R930). -/
structure Snap where
  /-- High word of a wide counter. -/
  wide : Word
  /-- Words 1 to 5 of a milestone entry. -/
  mile : List Word
  /-- Words 1 to 3 of a fault-log entry. -/
  fault : List Word
  /-- TS_HI and TS_ID of a PTP entry. -/
  ptp : List Word
  deriving DecidableEq, Repr

/-- The timebase of PD_AON. -/
structure Timebase where
  /-- LT (R827). -/
  lt : Pos
  /-- The 24-bit fractional accumulator (R826). -/
  frac : BitVec 24
  /-- The time CSR: 4 ns ticks since PD_AON left reset (R1009). -/
  cycles : Dword
  /-- The increment that the next tick adds (R831, R849). -/
  incr : Word
  deriving DecidableEq, Repr

/-- One-time-programmable memory. -/
structure Otp where
  /-- Grade X (R17). -/
  gradeX : Bool
  /-- The factory defect bitmap (R204). -/
  factory : BitVec 72
  /-- Integrator key digests of slots 0 to 3 (R110). -/
  keys : List Nat
  /-- Their revoke bits. -/
  revoked : List Bool
  /-- Firmware key digests (R945). -/
  fwKeys : List Nat
  /-- Their revoke bits. -/
  fwRevoked : List Bool
  /-- MAC address (R957). -/
  mac : Nat
  /-- Device serial (R965). -/
  serial : Nat
  deriving DecidableEq, Repr

/-- A mailbox (R78 to R86): the packets it holds, oldest first, each as its entries that are left, and the next SEQ. -/
structure Mbox where
  /-- Packets. -/
  pkts : List (List Dword)
  /-- SEQ of the next packet. -/
  seq : Word
  deriving DecidableEq, Repr

/-- A load in progress (R116). -/
structure Load where
  /-- LOAD_FULL. -/
  full : Bool
  /-- MFL.SRC. -/
  addr : Nat
  /-- MFL.LEN. -/
  len : Nat
  deriving DecidableEq, Repr

/-- How a station's decode tiles divide their time (R365): a token step at a time, in spans of 10 ms. Times are in 4 ns ticks. -/
structure DecodeShare where
  /-- The sequence that has the tiles: decoder, bale, interactive. -/
  turn : Option (Nat × Nat × Bool)
  /-- When its token step started. -/
  start : Nat
  /-- When the span started. -/
  span : Nat
  /-- Time that interactive sequences had in the span. -/
  inter : Nat
  /-- Time that all sequences had in the span. -/
  all : Nat
  deriving DecidableEq, Repr

/-- What the model keeps for one station beside its registers. -/
structure Stn where
  /-- The active station block, by number. -/
  active : Option Nat
  /-- The pending station block (R126). -/
  pend : Option Nat
  /-- MILE.STN_CTRL.TRIG_EN. -/
  trigEn : Bool
  /-- A grant is asked for and not yet made (R339). -/
  want : Bool
  /-- Recorded STOP_LINE causes, as MILE.STN_STAT.CAUSE (R756). -/
  stops : Nat
  /-- REVERSE is raised and the reference has not returned to the high-water mark (R758). -/
  rev : Bool
  /-- The region's tiles in run order: decode tiles, then model tiles in use and idle (R340, R345). -/
  tiles : List Nat
  /-- How many of `tiles` are decode tiles. -/
  decTiles : Nat
  /-- N, the model tiles in use (R345). -/
  n : Nat
  /-- Granted tiles that join at the next bale boundary (R375). -/
  joining : List Nat
  /-- Tiles to release at the next bale boundary (R373). -/
  leaving : List Nat
  /-- Windows since the last growth, for R376. -/
  sinceGrowth : Option Nat
  /-- Consecutive windows below 500 per mille (R889). -/
  idleWindows : Nat
  /-- Deficit of the tree engine's round-robin (R366). -/
  treeDeficit : Nat
  /-- Deficit of the memory path's round-robin (R467). -/
  ispDeficit : Nat
  /-- The Khan has moved the station since the last window ended (R376). -/
  moved : Bool
  /-- Its decode tiles' time. -/
  dec : DecodeShare
  deriving DecidableEq, Repr

/-- A weight page that is resident on a tile (R349, R351). -/
structure PageAt where
  /-- Page slot of the tile's SRAM. -/
  slot : Nat
  /-- The station block of the page, by number. -/
  uid : Nat
  /-- Page of that block's payload. -/
  page : Nat
  deriving DecidableEq, Repr

/-- A physical tile (R236). -/
structure Tile where
  /-- TILE.STATE.STATE. -/
  st : Nat
  /-- The station it is granted to. -/
  owner : Option Nat
  /-- The station that held it last (R343). -/
  last : Option Nat
  /-- LX, 15 for none. -/
  lx : Nat
  /-- LY. -/
  ly : Nat
  /-- Runs on a borrowed clock (R872). -/
  borrowed : Bool
  /-- Power-gated (R344). -/
  gated : Bool
  /-- The Khan is zeroing it (R343). -/
  scrub : Bool
  /-- Resident weight pages. -/
  pages : List PageAt
  /-- The bale whose stripe job runs on it. -/
  work : Option Nat
  /-- The station for which the Khan has taken it from another (R372, R384). -/
  to_ : Option Nat
  /-- The station that it was taken from, until the move is complete (R378). -/
  src : Option Nat
  deriving DecidableEq, Repr

/-- A retirement that has not ended (R216). -/
structure Retire where
  /-- The retiring tile. -/
  tile : Nat
  /-- The spare it waits for. -/
  spare : Option Nat
  /-- The last step of R216 that is done: 1 started, 2 powered, 3 quick BIST passed, 4 pages fetched. -/
  step : Nat
  /-- A bale boundary of the owner has passed since the retirement, so a dispatch qualifies: the first such bale. -/
  from_ : Option Nat
  deriving DecidableEq, Repr

/-- An entry of the field defect map (R207). -/
structure MapEntry where
  /-- TARGET. -/
  target : Nat
  /-- KIND. -/
  kind : Nat
  /-- CAUSE. -/
  cause : Nat
  /-- HOURS. -/
  hours : Nat
  /-- TIME. -/
  time : Nat
  deriving DecidableEq, Repr

/-- The field region of the defect map (R205 to R211). -/
structure FieldMap where
  /-- Its signature verified at power-up (R208). -/
  valid : Bool
  /-- SEQ. -/
  seq : Word
  /-- Entries. -/
  entries : List MapEntry
  /-- Entries that the steward is writing, oldest first. -/
  writing : List MapEntry
  deriving DecidableEq, Repr

/-- Kinds of jobs (R358, R360, R363). -/
inductive JobKind where
  | stripe | tree | decode | explain
  deriving DecidableEq, Repr

/-- A job in the Khan's queue or running (R359). -/
structure Job where
  /-- Station. -/
  stn : Nat
  /-- Bale. -/
  bale : Nat
  /-- Kind. -/
  kind : JobKind
  /-- Stripe, ensemble or decoder index. -/
  idx : Nat
  /-- Dispatched. -/
  running : Bool
  deriving DecidableEq, Repr

/-- A received line plane, as far as it has arrived (R451). -/
structure RawLine where
  /-- Camera. -/
  cam : Nat
  /-- Line. -/
  line : Nat
  /-- Plane or sub-line. -/
  plane : Nat
  /-- LAST has arrived. -/
  done : Bool
  /-- Pixels. -/
  px : List Nat
  deriving DecidableEq, Repr

/-- A written vision slot (R454 to R456): tensor rows of one stripe by row index. -/
structure VisSlot where
  /-- Stripe. -/
  stripe : Nat
  /-- Every row that the stripe job reads is written. -/
  ready : Bool
  /-- Rows. -/
  rows : List (Nat × List (List Nat))
  deriving DecidableEq, Repr

/-- A bale that holds reservations (R25, R355, R910). -/
structure Bale where
  /-- Bale ID (R21). -/
  id : Nat
  /-- Station. -/
  stn : Nat
  /-- The station block that admitted it. -/
  uid : Nat
  /-- 0 live, 1 shadow copy, 2 replay. -/
  kind : Nat
  /-- The ID that its verdict record carries (R762). -/
  tag : Nat
  /-- Its milestone entry. -/
  entry : Option Nat
  /-- P_trig. -/
  pTrig : Nat
  /-- P_dead. -/
  pDead : Nat
  /-- TSEQ (R797). -/
  tseq : Nat
  /-- Its first line has been triggered (R52). -/
  started : Bool
  /-- The RS register words in effect at its first line (R57, R59). -/
  rs : List (Nat × Word)
  /-- Recorded black level: camera, plane, level (R453). -/
  bl : List (Nat × Nat × Int)
  /-- Next line to trigger, for each camera. -/
  trig : List (Nat × Nat)
  /-- Received lines. -/
  raw : List RawLine
  /-- Vision slots. -/
  vis : List VisSlot
  /-- Stripes that the in-line path leaves to the memory path (R464). -/
  left : List Nat
  /-- Display and coding passes done by the memory path: context and stripe. -/
  passes : List (Nat × Nat)
  /-- Stripe jobs ended. -/
  stripes : Nat
  /-- The instance it runs on (R348). -/
  inst : Option Nat
  /-- The tiles of that instance, in slot order, once a stripe job is dispatched. -/
  tiles : List Nat
  /-- The layer of the running stripe job that ends next. -/
  layer : Nat
  /-- Rows of the stripe input that the jobs so far have read, the carried rows among them (R295). -/
  input : List (List (List Nat))
  /-- Output rows of each layer so far. -/
  rows : List (List (List (List Nat)))
  /-- Class scores that are not NaN, by index. -/
  scores : List (Nat × Nat)
  /-- Measurements that are not NaN. -/
  meas : List (Nat × Nat)
  /-- Tree features that are not NaN. -/
  feats : List (Nat × Nat)
  /-- Tree outputs that are not NaN. -/
  trees : List (Nat × Nat)
  /-- Strings of the in-line decoders that have ended, by decoder (R414). -/
  strings : List (Nat × List Byte)
  /-- Seals of the layers. -/
  seals : List Nat
  /-- Full regions in columns [lo, hi), by stripe (R478). -/
  regions : List (Nat × Nat × Nat)
  /-- Decode region: first row, end row, first column, end column (R481). -/
  roi : Option (Nat × Nat × Nat × Nat)
  /-- Ensembles whose pass has ended; none before the tree job is queued. -/
  ensDone : Option Nat
  /-- ROI_BADLAYER is raised (R476). -/
  badLayer : Bool
  /-- Re-executions so far (R915). -/
  reexec : Nat
  /-- Waits for the Khan's rebuild or for its re-queue after an abort. -/
  held : Bool
  /-- No further job is dispatched: abandoned. -/
  stopped : Bool
  /-- The verdict units run (R416). -/
  judging : Bool
  /-- Disagreements of the verdict units so far (R733). -/
  tries : Nat
  /-- Results of completed convoy steps: group and its entries (R803). -/
  convoy : List (Nat × List (Nat × Nat))
  /-- Convoy groups to which this bale has sent its contribution (R803). -/
  sent : List Nat
  /-- The group whose step it takes now (R799). -/
  step : Option Nat
  /-- Where its areas of the bale store lie in DRAM. -/
  base : Nat
  /-- Layers of the running stripe job that have started: layer and tile (R284, R353). -/
  begun : List (Nat × Nat)
  /-- A decode region beyond the first has been counted (R443). -/
  again : Bool
  deriving DecidableEq, Repr

/-- A milestone entry that is not FREE (R736, R770). -/
structure Mile where
  /-- Entry index. -/
  idx : Nat
  /-- Station. -/
  stn : Nat
  /-- Bale ID. -/
  bale : Nat
  /-- P_trig. -/
  pTrig : Nat
  /-- P_dead. -/
  pDead : Nat
  /-- State of R736. -/
  st : Nat
  /-- Outcome, once known. -/
  outcome : Option Nat
  /-- Deciding rule. -/
  rule : Nat
  /-- The outcome is the default action. -/
  defaulted : Bool
  /-- LATE_COMMIT. -/
  late : Bool
  /-- P_fire, for an outcome with an ejector. -/
  pFire : Option Nat
  /-- Remote ejector. -/
  remote : Bool
  /-- LINK. -/
  link : Nat
  /-- CH: FIO channel or endpoint ADDR. -/
  ch : Nat
  /-- RCH. -/
  rch : Nat
  /-- PULSE_US. -/
  pulse : Nat
  /-- BACKUP channel, 255 for none. -/
  backup : Nat
  /-- FIRE of the verdict record (R762). -/
  fire : Nat
  /-- The reference has crossed P_fire. -/
  crossed : Bool
  /-- A FIRE_AT is pending at the endpoint; the DUE last sent, in LT. -/
  pending : Option Nat
  /-- FIRE_REPORT has arrived. -/
  reported : Bool
  /-- Its pulse was merged into another (R775). -/
  merged : Bool
  /-- TSEQ of its trigger (R797). -/
  tseq : Nat
  /-- Convoy groups that wait for a contribution to this part's step (R812). -/
  owed : List Nat
  /-- The reference has passed P_dead. -/
  past : Bool
  /-- Time of a default action that overtook a verdict being computed (R41), in 4 ns ticks. -/
  lateAt : Option Nat
  /-- Where the ejector of a MISSED entry's default action fires (R754). -/
  again : Option Nat
  /-- The commit of this 4 ns tick, which the deadline could still overtake (R41): the tick, and VERDICT.LAST_BALE and VERDICT.LAST
  before it. -/
  undo : Option (Nat × Nat × Nat)
  deriving DecidableEq, Repr

/-- An odometer channel (R634 to R656), beside its registers. -/
structure Odo where
  /-- Accepted A. -/
  a : Bool
  /-- Accepted B. -/
  b : Bool
  /-- Accepted Z. -/
  z : Bool
  /-- The 48-bit count. -/
  cnt : Pos
  /-- The count at the last index event. -/
  latch : Pos
  /-- Net ticks since the previous index event, once there is one (R650). -/
  turn : Option Int
  /-- The extreme count reached in the declared direction (R646). -/
  ext : Pos
  /-- LT-independent time of the last tick, in 4 ns ticks (R652). -/
  last : Option Nat
  /-- Faults counted in the current millisecond (R655). -/
  errs : Nat
  /-- The error rate makes the channel unhealthy. -/
  errBad : Bool
  /-- A stall makes the channel unhealthy (R655). -/
  stallBad : Bool
  /-- V24_B is lost (R638). -/
  supplyLos : Bool
  /-- The input pair shows LOS (R637). -/
  pairLos : Bool
  deriving DecidableEq, Repr

/-- A station's reference (R657 to R672). -/
structure Ref where
  /-- Position. -/
  pos : Pos
  /-- High-water mark. -/
  hwm : Pos
  /-- Source: 0 primary, 1 secondary, 2 synthetic. -/
  src : Nat
  /-- LOST. -/
  lost : Bool
  /-- A handover runs. -/
  handover : Bool
  /-- Steps still to apply. -/
  resid : Int
  /-- Forward ticks of the target since the handover started. -/
  fwd : Nat
  /-- Forward ticks between two steps (R663). -/
  every : Nat
  /-- Tracker of the primary while it is not active: the reference it would give (R658). -/
  trk0 : Option Pos
  /-- Tracker of the secondary. -/
  trk1 : Option Pos
  /-- Sources under requalification, each with the ticks left (R665, R666). -/
  req : List (Nat × Nat)
  /-- Sources that were lost and wait for a requalification (R665). -/
  wait : List Nat
  /-- Reference at the active source's last good tick, and that tick's time (R659). -/
  goodPos : Pos
  /-- Its time in 4 ns ticks. -/
  goodAt : Nat
  /-- Ticks of the secondary since the active source's last tick (R655). -/
  stall : Nat
  /-- Net forward ticks of the active source in this millisecond (R654). -/
  window : Int
  /-- Sources that have been active (R665). -/
  was : List Nat
  /-- REF_SPEED when the synthetic source became active (R659). -/
  synthSpeed : Int
  /-- Fraction of a tick that the synthetic source carries, in 10⁻⁹ ticks. -/
  synthFrac : Nat
  deriving DecidableEq, Repr

/-- A field channel (R683 to R722), beside its registers. -/
structure Fio where
  /-- Accepted level. -/
  level : Bool
  /-- Commanded output. -/
  out : Bool
  /-- A pulse runs. -/
  pulse : Bool
  /-- The output has left its peak phase and holds (R692). -/
  hold : Bool
  /-- The on-check is due (R702). -/
  onCheck : Bool
  /-- The off-check is due (R703). -/
  offCheck : Bool
  /-- The test current flows (R706). -/
  test : Bool
  /-- Tripped by over-current or over-temperature (R710). -/
  trip : Bool
  /-- The milestone entry whose pulse runs or whose check is due. -/
  entry : Option Nat
  /-- The end of the running pulse, as LT-independent 4 ns time. -/
  until_ : Nat
  /-- LT at the first sample of the last accepted change (R687). -/
  atNs : Word
  /-- Reference position at that sample. -/
  atPos : Pos
  /-- Rising edges in the running measurement (R690). -/
  edges : Nat
  /-- Time of the first of them, in 4 ns ticks. -/
  t0 : Nat
  /-- Time of the last of them. -/
  t1 : Nat
  deriving DecidableEq, Repr

/-- A camera (R447 to R462). -/
structure Cam where
  /-- Black levels of planes 0 to 2. -/
  bl : List Int
  /-- Triggers held back by MAX_LINE_KHZ: bale and line (R448). -/
  delayed : List (Nat × Nat)
  /-- Time of the last trigger sent, in 4 ns ticks. -/
  sentAt : Option Nat
  deriving DecidableEq, Repr

/-- A decoder sequence (R396 to R420). -/
structure Dec where
  /-- The bale it serves. -/
  bale : Nat
  /-- The station block whose decoder it is. -/
  uid : Nat
  /-- Interactive explanation. -/
  interactive : Bool
  /-- Dispatched. -/
  running : Bool
  /-- Position. -/
  pos : Nat
  /-- Input token of the next step. -/
  tok : Nat
  /-- Generator state (R408). -/
  gen : Nat
  /-- Memory rows, as FP32 values. -/
  mem : List FVec
  /-- Keys and values of each layer. -/
  kvs : List KvLayer
  /-- The memory's keys and values of each layer, computed when the sequence starts (R400). -/
  cross : List KvLayer
  /-- KV pages granted (R354, R400). -/
  kv : Nat
  /-- A lost tile has sent it back to position 0 (R439). -/
  again : Bool
  /-- Tokens emitted. -/
  toks : List Nat
  deriving DecidableEq, Repr

/-- A lane (R506 to R543), beside its registers. -/
structure Lane where
  /-- The preset that the next retry starts from (R541). -/
  preset : Nat
  /-- S: the sum of the taps at the start of training (R535). -/
  sum : Nat
  /-- READY sent. -/
  readyTx : Bool
  /-- READY received. -/
  readyRx : Bool
  /-- A committed TXFIR value waits for training to end (R554). -/
  commit : Option Word
  /-- Power state to enter once training ends: 2 IDLE, 3 PARK (R556). -/
  after : Option Nat
  /-- How often its CTLE has started to adapt, 0 for never: the value that it holds otherwise is that of the last time (R530, R531). -/
  ctle : Nat
  /-- The same of its DFE. -/
  dfe : Nat
  deriving DecidableEq, Repr

/-- One stream of a segment (R578 to R587). -/
structure Stream where
  /-- SEQ of the next new packet. -/
  next : Nat
  /-- Packets in the replay buffer: SEQ and words, oldest first. -/
  replay : List (Nat × List Dword)
  /-- SEQ expected. -/
  expect_ : Nat
  /-- A NAK of the expected SEQ is out (R581). -/
  nakd : Bool
  /-- Resends of the oldest packet without progress (R587). -/
  resends : Nat
  deriving DecidableEq, Repr

/-- A packet that waits for credit or for replay space (R579, R590). -/
structure Waiting where
  /-- VC. -/
  vc : Nat
  /-- TYPE. -/
  type : Nat
  /-- DEST. -/
  dest : Nat
  /-- The station whose quota it takes (R379); none for the device's own. -/
  stn : Option Nat
  /-- The convoy group of a CV_DATA (R813). -/
  group : Option Nat
  /-- Payload words. -/
  words : List Dword
  deriving DecidableEq, Repr

/-- A link (R578 to R593): the device's own segment. -/
structure Link where
  /-- Aligned. -/
  up : Bool
  /-- Normal stream. -/
  normal : Stream
  /-- Express stream. -/
  express : Stream
  /-- Units sent on each VC. -/
  used : List Nat
  /-- Cumulative grant received for each VC. -/
  grant : List Nat
  /-- Cumulative grant given for each VC. -/
  given : List Nat
  /-- Packets that wait, oldest first. -/
  queue : List Waiting
  /-- Deficits of the round-robins that serve them: of VC `v` under `v` (R593), of station `n` on VC `v` under
  `16 + 16 * v + n` (R379), of group `g` under `96 + g` (R813). -/
  deficit : List (Nat × Nat)
  deriving DecidableEq, Repr

/-- A declared endpoint (R599 to R624). -/
structure Ep where
  /-- LINK. -/
  link : Nat
  /-- ADDR. -/
  addr : Nat
  /-- The exchange in progress: TAG and T1. -/
  exch : Option (Nat × Nat)
  /-- Exchanges of the running resynchronisation (R610). -/
  resync : Nat
  /-- Waits for the 100 ms retry (R611). -/
  retry : Bool
  /-- Time of the last TIME_CORR, in 4 ns ticks (R840). -/
  corrAt : Option Nat
  /-- POWER is sent and not answered: its target. -/
  asked : Nat
  deriving DecidableEq, Repr

/-- A received contribution to a convoy step (R808). -/
structure CvData where
  /-- Member. -/
  member : Nat
  /-- TAG. -/
  tag : Nat
  /-- ABSENT. -/
  absent : Bool
  /-- BASE. -/
  base : Nat
  /-- Entries, FP32 codes. -/
  vals : List Nat
  deriving DecidableEq, Repr

/-- A convoy group (R791 to R819). -/
structure Group where
  /-- Members whose CV_HELLO matches. -/
  hello : List Nat
  /-- Held contributions in the order in which they reached this device. -/
  data : List CvData
  /-- TAGs whose local step has ended, the newest first. -/
  ended : List Nat
  /-- Contributions that wait for a peer to become ACTIVE, each under the index of the member it goes to (R819). -/
  out : List CvData
  deriving DecidableEq, Repr

/-- The PCS of an Ethernet port that negotiates (R544, R545). -/
structure Pcs where
  /-- ETHn_MODE: 0 off, 1 10GBASE-R, 2 1000BASE-X, 3 SGMII. -/
  mode : Nat
  /-- The word that the port sends: the base page of clause 37, or the SGMII control word of the MAC side. -/
  sent : Nat
  /-- The word that its link partner sends. -/
  got : Nat
  /-- How often the port sends each symbol: 1 at full rate, 10 for 100 Mb/s, 100 for 10 Mb/s. -/
  repeat_ : Nat
  deriving DecidableEq, Repr

/-- What the lanes carry below the link layer (R517, R550, R568 to R571). IDLE blocks, which pass whenever nothing else does, are
not counted, so where the scramblers and the block order of a link stand when a command starts to send is open. -/
structure Phy where
  /-- The scrambler register of each lane after the last block of this command; none before its first. -/
  scr : List (Option Nat)
  /-- The place in its link, as lane k mod WIDTH, that the next block of each link takes; none before the first. -/
  turn : List (Option Nat)
  /-- Blocks that this command put on the pins: lane, control block, and payload as scrambled. -/
  wire : List (Nat × Bool × Nat)
  /-- Blocks that this command sent on lanes in loopback, which reach their own receivers alone (R550). -/
  loop : List (Nat × Bool × Nat)
  /-- Symbols that this command sent on an Ethernet port. -/
  eth : List (Nat × List Nat)
  /-- How many starts the model has left open so far. -/
  starts : Nat
  /-- The two Ethernet ports. -/
  pcs : List Pcs
  deriving DecidableEq, Repr

/-- A PTP timestamp (R837). -/
structure PtpEntry where
  /-- LT. -/
  lt : Pos
  /-- messageType. -/
  msg : Nat
  /-- domainNumber. -/
  domain : Nat
  /-- sequenceId. -/
  seq : Nat
  deriving DecidableEq, Repr

/-- Power management (R855 to R898), beside its registers. -/
structure Pwr where
  /-- Highest operating point at which each band was tested since power-up; 0 untested (R1089). -/
  tested : List Nat
  /-- Islands whose voltage ramps to a higher point: island and point (R877). -/
  ramps : List (Nat × Nat)
  /-- Islands held one point lower until the next change of their band's point (R880). -/
  limited : List Nat
  /-- POWER_OVER is raised in this excursion (R887). -/
  overEnv : Bool
  /-- Voltage of the tree engine's island, in mV. -/
  treeVolt : Nat
  /-- Canary slack of the tree engine's island. -/
  treeSlack : Nat
  deriving DecidableEq, Repr

/-- Reference clocks (R861 to R868), beside MESH.REF_STAT. -/
structure RefClk where
  /-- The reference that a running handover goes to. -/
  target : Nat
  /-- The handover is a return to REFCLK_A (R866). -/
  returning : Bool
  /-- A reference that waits for the end of the handover to start requalification. -/
  waiting : Bool
  /-- REFCLK_HOLDOVER is raised (R868). -/
  told : Bool
  deriving DecidableEq, Repr

/-- A phase entry of the muster record (R950). -/
structure PhaseRec where
  /-- RESULT. -/
  result : Nat
  /-- UNIT. -/
  unit : Nat
  /-- INDEX. -/
  index : Nat
  /-- DURATION in µs. -/
  us : Nat
  deriving DecidableEq, Repr

/-- Muster and boot (R941 to R980), beside the SYS registers. -/
structure Boot where
  /-- SYS_RST_N is low. -/
  rstLow : Bool
  /-- The muster phase that runs. -/
  phase : Option Nat
  /-- Start of muster and of the running phase, in 4 ns ticks. -/
  start : Nat
  /-- Start of the running phase. -/
  phaseStart : Nat
  /-- The record of the last muster. -/
  record : List PhaseRec
  /-- FW_SLOT of that record. -/
  recSlot : Nat
  /-- CAUSE of that record. -/
  recCause : Nat
  /-- Total µs of that record. -/
  recUs : Nat
  /-- BOOT_HOLD is pending (R971). -/
  hold : Bool
  /-- The ROM serves the steward port (R958). -/
  rom : Bool
  /-- Tiles marked in M2 to M5, with their causes. -/
  marks : List (Nat × Nat)
  /-- LANE22 passed M7 (R548). -/
  lane22 : Bool
  /-- The device block of the boot-flash manifest, as M1 verified it. -/
  man : Option DevBlock
  /-- Time of the last steward rollback, in 4 ns ticks (R908). -/
  rollAt : Option Nat
  /-- Time of the last Khan fault (R926). -/
  khanAt : Option Nat
  /-- The Khan rebuilds its state (R925). -/
  rebuilding : Bool
  deriving DecidableEq, Repr

/-- A steward-port request (R960). -/
structure Request where
  /-- Transport. -/
  t : Nat
  /-- SEQ. -/
  seq : Nat
  /-- CMD. -/
  cmd : Nat
  /-- Payload. -/
  payload : List Byte
  deriving DecidableEq, Repr

/-- A flashing session (R967). -/
structure FlashSession where
  /-- TYPE. -/
  type : Nat
  /-- Directory entry. -/
  slot : Nat
  /-- Total length. -/
  len : Nat
  deriving DecidableEq, Repr

/-- The steward port (R960 to R973). -/
structure Sport where
  /-- Bytes of an unfinished frame on each of the four transports. -/
  rx : List (List Byte)
  /-- Response bytes that each transport has not yet read. -/
  tx : List (List Byte)
  /-- The request in progress. -/
  running : Option Request
  /-- SEQ, CMD and response of the last request executed (R973). -/
  last : Option (Nat × Nat × List Byte)
  /-- The internal transport answers its next response read with BUSY (R1037). -/
  busy : Bool
  /-- FLASH session. -/
  flash : Option FlashSession
  /-- The snapshot that GET_LOGBOOK exports (R996). -/
  image : List Byte
  deriving DecidableEq, Repr

/-- The logbook's state beside its registers (R981 to R1003). -/
structure Logbook where
  /-- Record slot last written (R987). -/
  slot : Nat
  /-- Records that are being written, the oldest first (R988). -/
  writing : List (List Byte)
  /-- Lowest hottest-sensor reading since the last thermal cycle (R982), in 1/16 °C. -/
  low : Option Int
  /-- A calendar set waits for the next second (R993). -/
  setPend : Bool
  /-- VBAT fell below 2.0 V while VAON_IN was absent (R995). -/
  vbatLost : Bool
  /-- VAON_IN is present. -/
  power : Bool
  /-- Main power has returned and the counters are not restored yet (R989). -/
  fresh : Bool
  deriving DecidableEq, Repr

/-- An application core (R952, R1010 to R1013). -/
structure AppCore where
  /-- Released. -/
  run : Bool
  /-- ENTRY of the image. -/
  entry : Nat
  /-- Restarts by its watchdog. -/
  restarts : Nat
  /-- Time of the last watchdog kick, in 4 ns ticks. -/
  kick : Nat
  /-- MTIMECMP in force (R1010). -/
  cmp : Dword
  deriving DecidableEq, Repr

/-- An I2C command (R1031). -/
inductive I2cOp where
  | start | write (b : Byte) | readAck | readNack | stop
  deriving DecidableEq, Repr

/-- An I2C controller. -/
structure I2c where
  /-- Command FIFO. -/
  cmds : List I2cOp
  /-- Received bytes. -/
  rx : List Byte
  /-- Bus active. -/
  busy : Bool
  deriving DecidableEq, Repr

/-- A UART. -/
structure Uart where
  /-- Receive FIFO. -/
  rx : List Byte
  /-- Transmit FIFO. -/
  tx : List Byte
  deriving DecidableEq, Repr

/-- A ball of the boundary-scan chain (R1059, R1063, R1065). -/
inductive Ball where
  /-- OSPI: CLK, CS_N, DQS, RST_N, D0 to D7. -/
  | ospi (k : Nat)
  /-- UART0 TX and RX, UART1 TX and RX, I2C0 SCL and SDA, I2C1 SCL and SDA. -/
  | serial (k : Nat)
  /-- GPIO0 to GPIO15. -/
  | gpio (k : Nat)
  /-- EVENT_OUT0 to EVENT_OUT2. -/
  | eventOut (k : Nat)
  /-- SYS_RST_N. -/
  | sysRstN
  /-- REFCLK_A and REFCLK_B. -/
  | refclk (k : Nat)
  /-- SPT_SCK, SPT_CS_N, SPT_MOSI, SPT_MISO, SPT_TXD, SPT_RXD. -/
  | steward (k : Nat)
  /-- TCK, TMS, TDI, TDO, TRST_N. -/
  | scan (k : Nat)
  deriving DecidableEq, Repr

/-- The balls of the chain: every digital ball, and no lane, LREF or field ball (R1063). Their order is the model's (log 14). -/
def scanBalls : List Ball :=
  (List.range 12).map .ospi ++ (List.range 8).map .serial ++ (List.range 16).map .gpio ++ (List.range 3).map .eventOut ++ [.sysRstN]
    ++ (List.range 2).map .refclk ++ (List.range 6).map .steward ++ (List.range 5).map .scan

/-- The boundary-scan chain (R1061, R1063), a bit for each ball in the order of `scanBalls`. -/
structure Scan where
  /-- What the chain captured last and shifts out. -/
  cells : List Bool
  /-- What the chain holds for EXTEST. -/
  latch : List Bool
  deriving DecidableEq, Repr

/-- The whole machine. -/
structure State where
  /-- Commands that wait, first in, first out. -/
  pending : List Instr
  /-- Registers. -/
  regs : RegFile
  /-- Pending RS writes. -/
  shadow : List ShadowWrite
  /-- Snapshots of the 15 initiators. -/
  snaps : List Snap
  /-- The word that the last register read returned. -/
  rdata : Word
  /-- Timebase. -/
  tb : Timebase
  /-- OTP. -/
  otp : Otp
  /-- DRAM, 14 GiB usable. -/
  dram : Memory
  /-- Boot flash, 256 MiB. -/
  flash : Memory
  /-- Tile SRAM and halo stores, by window offset. -/
  sram : Memory
  /-- The 13 event queues: TB_NS and source of each entry, oldest first. -/
  evq : List (List (Word × Nat))
  /-- The 16 mailboxes. -/
  mbox : List Mbox
  /-- Load in progress. -/
  load : Option Load
  /-- The active device block. -/
  dev : Option DevBlock
  /-- Resident station blocks. -/
  blocks : List StnBlock
  /-- Number of the next station block, shadow copy or replay. -/
  nextUid : Nat
  /-- The 16 stations. -/
  stations : List Stn
  /-- The 72 physical tiles. -/
  tiles : List Tile
  /-- The grid mode in which M9 built the map, until a manifest is active (R235): holes mode. -/
  gridHoles : Bool
  /-- Retirements in progress. -/
  retiring : List Retire
  /-- Field defect map. -/
  fmap : FieldMap
  /-- The Khan's jobs in the order in which they were queued. -/
  jobs : List Job
  /-- Bales in flight in admission order. -/
  bales : List Bale
  /-- ID of the next bale. -/
  nextBale : Word
  /-- Milestone entries that are not FREE, by ascending index. -/
  miles : List Mile
  /-- The 16 odometer channels. -/
  odo : List Odo
  /-- The 16 references. -/
  refs : List Ref
  /-- The 32 field channels. -/
  fio : List Fio
  /-- The field die is in the safe state. -/
  fieldSafe : Bool
  /-- Groups tripped by over-current (R711). -/
  grpTrip : List Bool
  /-- The 32 cameras. -/
  cams : List Cam
  /-- Unread lines and frames in the display and coding rings of the 16 contexts (R483, R486, R488). -/
  rings : List (Nat × Nat)
  /-- Capture in progress: its camera, and its bale once one is admitted. -/
  capture : Option (Nat × Option Nat)
  /-- Memory-path pass in progress: context, bale and stripe. -/
  isp : Option (Nat × Nat × Nat)
  /-- Tree pass in progress: station, ensemble and bales. -/
  treePass : Option (Nat × Nat × List Nat)
  /-- Decoder sequences in progress: station and decoder index. -/
  decs : List ((Nat × Nat) × Dec)
  /-- The 24 lanes. -/
  lanes : List Lane
  /-- LREF_W and LREF_E are present (R523). -/
  lref : List Bool
  /-- The 16 links. -/
  links : List Link
  /-- Declared endpoints. -/
  eps : List Ep
  /-- TAG of the next TIME_REQ. -/
  timeTag : Nat
  /-- The 32 convoy groups. -/
  groups : List Group
  /-- PTP FIFOs: receive and transmit of ETH0, then of ETH1. -/
  ptp : List (List PtpEntry)
  /-- Power management. -/
  pwr : Pwr
  /-- Reference clocks. -/
  refclk : RefClk
  /-- The lanes below the link layer. -/
  phy : Phy
  /-- Borrowed clocks: node and lender. -/
  lenders : List (Nat × Nat)
  /-- Boot. -/
  boot : Boot
  /-- Steward port. -/
  sport : Sport
  /-- Logbook. -/
  log : Logbook
  /-- The four application cores. -/
  cores : List AppCore
  /-- The two UARTs. -/
  uart : List Uart
  /-- The two I2C controllers. -/
  i2c : List I2c
  /-- The 16 GPIO pins. -/
  gpio : List Bool
  /-- Packets, blocks and messages that the last command sent or handed to software: link, TYPE, address and words. What of
  them is on the pins stands in `phy`. -/
  out : List (Nat × Nat × Nat × List Nat)
  /-- The boundary-scan instruction: 0 BYPASS, 1 IDCODE, 2 SAMPLE/PRELOAD, 3 EXTEST. -/
  tap : Nat
  /-- The boundary-scan chain. -/
  scan : Scan
  /-- The model's own count of free values taken. -/
  free : Nat
  deriving DecidableEq, Repr

/-- A snapshot that nothing has latched (R76). -/
def Snap.none : Snap := ⟨0, [0, 0, 0, 0, 0], [0, 0, 0], [0, 0]⟩
/-- Decode tiles that have served nothing. -/
def DecodeShare.none : DecodeShare := ⟨Option.none, 0, 0, 0, 0⟩
/-- A station after reset: nothing active, disarmed. -/
def Stn.none : Stn := ⟨Option.none, Option.none, false, false, 0, false, [], 0, 0, [], [], Option.none, 0, 0, 0, false,
  DecodeShare.none⟩
/-- A tile that is off. -/
def Tile.off (k : Nat) : Tile := ⟨0, Option.none, Option.none, 15, k / 9, false, true, false, [], Option.none, Option.none, Option.none⟩
/-- An odometer channel at rest. -/
def Odo.none : Odo := ⟨false, false, false, 0, 0, Option.none, 0, Option.none, 0, false, false, false, false⟩
/-- A reference that has no source yet. -/
def Ref.none : Ref :=
  ⟨0, 0, 0, false, false, 0, 0, 0, Option.none, Option.none, [], [], 0, 0, 0, 0, [], 0, 0⟩
/-- A field channel at rest. -/
def Fio.none : Fio := ⟨false, false, false, false, false, false, false, false, Option.none, 0, 0, 0, 0, 0, 0⟩
/-- A camera that has sent nothing. -/
def Cam.none : Cam := ⟨[0, 0, 0], [], Option.none⟩
/-- An untrained lane. -/
def Lane.none : Lane := ⟨0, 63, false, false, Option.none, Option.none, 0, 0⟩
/-- A stream at alignment. -/
def Stream.none : Stream := ⟨0, [], 0, false, 0⟩
/-- A link that is down. -/
def Link.none : Link := ⟨false, Stream.none, Stream.none, [0, 0, 0, 0], [0, 0, 0, 0], [0, 0, 0, 0], [], []⟩
/-- An Ethernet port that is off. -/
def Pcs.none : Pcs := ⟨0, 0, 0, 1⟩
/-- Lanes on which this command has sent nothing yet. -/
def Phy.quiet (starts : Nat) (pcs : List Pcs) : Phy :=
  ⟨List.replicate 24 Option.none, List.replicate 16 Option.none, [], [], [], starts, pcs⟩
/-- A boundary-scan chain that has captured nothing. -/
def Scan.none : Scan := ⟨List.replicate 53 false, List.replicate 53 false⟩
/-- A convoy group without agreement. -/
def Group.none : Group := ⟨[], [], [], []⟩

/-- The device right after power-up, with SYS_RST_N low and no muster run (R938 to R941). The reset words of the registers
stand in the register table; PWR.DOM_ON reads 0x0001. Values that the manual does not give are those of assumptions 3 to
8, 11 to 14 and 46. -/
def State.reset : State where
  pending := []
  regs := []
  shadow := []
  snaps := List.replicate 15 Snap.none
  rdata := 0
  tb := ⟨0, 0, 0, 0x04000000⟩
  otp := ⟨false, 0, [0, 0, 0, 0], [false, false, false, false], [0, 0], [false, false], 0, 0⟩
  dram := []
  flash := []
  sram := []
  evq := List.replicate 13 []
  mbox := List.replicate 16 ⟨[], 0⟩
  load := none
  dev := none
  blocks := []
  nextUid := 0
  stations := List.replicate 16 Stn.none
  tiles := (List.range 72).map Tile.off
  gridHoles := false
  retiring := []
  fmap := ⟨false, 0, [], []⟩
  jobs := []
  bales := []
  nextBale := 1
  miles := []
  odo := List.replicate 16 Odo.none
  refs := List.replicate 16 Ref.none
  fio := List.replicate 32 Fio.none
  fieldSafe := true
  grpTrip := [false, false, false, false]
  cams := List.replicate 32 Cam.none
  rings := List.replicate 16 (0, 0)
  capture := none
  isp := none
  treePass := none
  decs := []
  lanes := List.replicate 24 Lane.none
  lref := [true, true]
  links := List.replicate 16 Link.none
  eps := []
  timeTag := 0
  groups := List.replicate 32 Group.none
  ptp := [[], [], [], []]
  pwr := ⟨[0, 0, 0, 0], [], [], false, 0, 0⟩
  refclk := ⟨0, false, false, false⟩
  phy := Phy.quiet 0 [Pcs.none, Pcs.none]
  lenders := []
  boot := ⟨true, none, 0, 0, [], 0, 0, 0, false, false, [], false, none, none, none, false⟩
  sport := ⟨[[], [], [], []], [[], [], [], []], none, none, false, none, []⟩
  log := ⟨0, [], none, false, false, true, true⟩
  cores := List.replicate 4 ⟨false, 0, 0, 0, 0xFFFFFFFFFFFFFFFF⟩
  uart := [⟨[], []⟩, ⟨[], []⟩]
  i2c := [⟨[], [], false⟩, ⟨[], [], false⟩]
  gpio := List.replicate 16 false
  out := []
  tap := 0
  scan := Scan.none
  free := 0

end Sys2Proof.Machine
end

