-- ==== Sys2Proof/Machine/Operands.lean ====
section
/-! DEFINITION. What a command's operands name: registers and their fields, stations, tiles and the other numbered
units, initiators, owners, and the parts of the address map. -/

namespace Sys2Proof.Machine

/-! ## Registers as the hardware sees them -/

/-- The word of a register. -/
def State.reg (s : State) (a : Nat) : Word := s.regs.get a
/-- A register word written by the hardware. -/
def State.setReg (s : State) (a : Nat) (w : Word) : State := { s with regs := s.regs.set a w }
/-- Bits [hi:lo] of a register. -/
def State.fget (s : State) (a hi lo : Nat) : Nat := fld (s.reg a).toNat hi lo
/-- A register with bits [hi:lo] written by the hardware. -/
def State.fset (s : State) (a hi lo x : Nat) : State := s.setReg a (BitVec.ofNat 32 (setFld (s.reg a).toNat hi lo x))
/-- Bit `i` of a register. -/
def State.flag (s : State) (a i : Nat) : Bool := bitAt (s.reg a).toNat i
/-- A register with bit `i` written by the hardware. -/
def State.setFlag (s : State) (a i : Nat) (b : Bool) : State := s.fset a i i (b2n b)
/-- A register word given as a number. -/
def State.setN (s : State) (a x : Nat) : State := s.setReg a (BitVec.ofNat 32 x)

/-! ## Numbered units -/

/-- Station `n`. -/
def State.stn (s : State) (n : Nat) : Stn := s.stations.getD n Stn.none
/-- Station `n` changed. -/
def State.setStn (s : State) (n : Nat) (f : Stn → Stn) : State := { s with stations := modAt s.stations n f }
/-- Tile `k`. -/
def State.tile (s : State) (k : Nat) : Tile := s.tiles.getD k (Tile.off k)
/-- Tile `k` changed. -/
def State.setTile (s : State) (k : Nat) (f : Tile → Tile) : State := { s with tiles := modAt s.tiles k f }
/-- Odometer channel `c`. -/
def State.odoCh (s : State) (c : Nat) : Odo := s.odo.getD c Odo.none
/-- Odometer channel `c` changed. -/
def State.setOdo (s : State) (c : Nat) (f : Odo → Odo) : State := { s with odo := modAt s.odo c f }
/-- The reference of station `n`. -/
def State.ref (s : State) (n : Nat) : Ref := s.refs.getD n Ref.none
/-- The reference of station `n` changed. -/
def State.setRef (s : State) (n : Nat) (f : Ref → Ref) : State := { s with refs := modAt s.refs n f }
/-- Field channel `c`. -/
def State.fioCh (s : State) (c : Nat) : Fio := s.fio.getD c Fio.none
/-- Field channel `c` changed. -/
def State.setFio (s : State) (c : Nat) (f : Fio → Fio) : State := { s with fio := modAt s.fio c f }
/-- Camera `c`. -/
def State.cam (s : State) (c : Nat) : Cam := s.cams.getD c Cam.none
/-- Camera `c` changed. -/
def State.setCam (s : State) (c : Nat) (f : Cam → Cam) : State := { s with cams := modAt s.cams c f }
/-- Lane `l`. -/
def State.lane (s : State) (l : Nat) : Lane := s.lanes.getD l Lane.none
/-- Lane `l` changed. -/
def State.setLane (s : State) (l : Nat) (f : Lane → Lane) : State := { s with lanes := modAt s.lanes l f }
/-- Link `l`. -/
def State.link (s : State) (l : Nat) : Link := s.links.getD l Link.none
/-- Link `l` changed. -/
def State.setLink (s : State) (l : Nat) (f : Link → Link) : State := { s with links := modAt s.links l f }
/-- Convoy group `g`. -/
def State.group (s : State) (g : Nat) : Group := s.groups.getD g Group.none
/-- Convoy group `g` changed. -/
def State.setGroup (s : State) (g : Nat) (f : Group → Group) : State := { s with groups := modAt s.groups g f }
/-- A bale in flight. -/
def State.bale? (s : State) (id : Nat) : Option Bale := s.bales.find? fun b => b.id == id
/-- A bale in flight changed. -/
def State.setBale (s : State) (id : Nat) (f : Bale → Bale) : State :=
  { s with bales := s.bales.map fun b => if b.id == id then f b else b }
/-- A milestone entry that is not FREE. -/
def State.mile? (s : State) (e : Nat) : Option Mile := s.miles.find? fun m => m.idx == e
/-- A milestone entry changed. -/
def State.setMile (s : State) (e : Nat) (f : Mile → Mile) : State :=
  { s with miles := s.miles.map fun m => if m.idx == e then f m else m }
/-- A declared endpoint. -/
def State.ep? (s : State) (l a : Nat) : Option Ep := s.eps.find? fun e => e.link == l && e.addr == a
/-- A declared endpoint changed. -/
def State.setEp (s : State) (l a : Nat) (f : Ep → Ep) : State :=
  { s with eps := s.eps.map fun e => if e.link == l && e.addr == a then f e else e }
/-- SLINK.EP_STAT.STATE of an endpoint (R604). -/
def State.epState (s : State) (l a : Nat) : Nat := s.fget (Reg.slinkEpStat l a) 3 0
/-- A resident station block. -/
def State.block? (s : State) (uid : Nat) : Option StnBlock := s.blocks.find? fun b => b.uid == uid
/-- The active block of a station. -/
def State.active? (s : State) (n : Nat) : Option StnBlock := (s.stn n).active.bind s.block?
/-- The block that admitted a bale. -/
def State.blockOf (s : State) (b : Bale) : Option StnBlock := s.block? b.uid

/-! ## Manifest declarations -/

/-- Sections of the active device block, or of none. -/
def State.envs (s : State) : List Env := (s.dev.map DevBlock.envs).getD []
/-- The envelope of a station. -/
def State.env? (s : State) (n : Nat) : Option Env := s.dev.bind fun d => d.env? n
/-- The MILESTONE_POLICY of a station. -/
def State.policy? (s : State) (n : Nat) : Option Policy := s.dev.bind fun d => d.policy? n
/-- The ODOMETER section of a station. -/
def State.odoDecl? (s : State) (n : Nat) : Option OdoDecl := s.dev.bind fun d => d.odo? n
/-- The CAMERA section of a camera. -/
def State.camDecl? (s : State) (c : Nat) : Option CamDecl := s.dev.bind fun d => d.cam? c
/-- The cameras of a station. -/
def State.camsOf (s : State) (n : Nat) : List CamDecl := (s.dev.map fun d => d.camsOf n).getD []
/-- The FIELD_CHANNEL section of a channel. -/
def State.fioDecl? (s : State) (c : Nat) : Option FioDecl := s.dev.bind fun d => d.field? c
/-- The ENDPOINT section of an address. -/
def State.epDecl? (s : State) (l a : Nat) : Option EpDecl := s.dev.bind fun d => d.ep? l a
/-- The CONVOY_GROUP section of a group. -/
def State.groupDecl? (s : State) (g : Nat) : Option GroupDecl := s.dev.bind fun d => d.group? g
/-- The first entry of each station's milestone partition: partitions follow each other in ascending station order
(R735). -/
def State.partOf (s : State) (n : Nat) : Nat × Nat :=
  match s.env? n with
  | some e => if e.shadow then (0, 0) else (sumN ((s.envs.filter fun e => e.stn < n && !e.shadow).map Env.miles), e.miles)
  | none => (0, 0)
/-- The camera of the lead line path of a station: the vision context's camera of a block. -/
def StnBlock.visionCam? (b : StnBlock) : Option Nat := b.vision.map IspCtx.cam

/-! ## Initiators and owners (R49, R77, R101) -/

/-- The steward itself. -/
def iniSteward : Nat := 12
/-- The steward port. -/
def iniPort : Nat := 13
/-- An application core. -/
def isCore (ini : Nat) : Bool := decide (ini < 4)

/-- The owner of an RS or RF field. -/
inductive Owner where
  | nobody | device | station (n : Nat)
  deriving DecidableEq, Repr

/-- A station number of the manifest as an owner; 255 is the device. -/
def Owner.ofDecl (n : Nat) : Owner := if n == 255 then .device else .station n

/-- The owner of copy `i` of a register (R49). A copy that no section of the active manifest binds has no owner. -/
def State.ownerOf (s : State) (k : OwnerKind) (i : Nat) : Owner :=
  let orNobody := fun (o : Option Nat) => (o.map Owner.ofDecl).getD .nobody
  match k with
  | .device => .device
  | .station => .station i
  | .camera => orNobody ((s.camDecl? i).map CamDecl.stn)
  | .context => orNobody (((List.range 16).find? fun n =>
      ((s.active? n).map fun b => b.ctxs.any fun c => c.ctx == i).getD false))
  | .fio => orNobody ((s.fioDecl? i).map FioDecl.stn)
  | .odo => orNobody (
      (((s.dev.map DevBlock.odos).getD []).find? fun o => o.primary == i || o.secondary == i).map OdoDecl.stn)
  | .group => orNobody ((s.groupDecl? i).map GroupDecl.stn)

/-- The station is armed: its trigger enable is 1 or any of its milestones is ARMED or DECIDED (R50). -/
def State.armed (s : State) (n : Nat) : Bool :=
  (s.stn n).trigEn || s.miles.any fun m => m.stn == n && (m.st == 1 || m.st == 2)

/-- Any station is armed (R51). -/
def State.anyArmed (s : State) : Bool := (List.range 16).any s.armed

/-- The owner is armed (R50, R51). -/
def State.ownerArmed (s : State) : Owner → Bool
  | .nobody => false
  | .device => s.anyArmed
  | .station n => s.armed n

/-! ## Address map (R1014, R1016) -/

/-- End of usable DRAM. -/
def dramEnd : Nat := 0x0380000000
/-- Tile SRAM window. -/
def sramBase : Nat := 0x1000000000
/-- Its length. -/
def sramLen : Nat := 72 * 0x200000
/-- Boot flash window. -/
def flashBase : Nat := 0x3000000000
/-- Its length. -/
def flashLen : Nat := 0x10000000
/-- What an unlisted DRAM byte reads as (assumption 3). -/
def dramByte : Byte := 0
/-- What an unlisted flash byte reads as (assumption 3). -/
def flashByte : Byte := 0xFF
/-- What an unlisted tile SRAM byte reads as (assumption 3). -/
def sramByte : Byte := 0
/-- Bytes of DRAM. -/
def State.dramAt (s : State) (a n : Nat) : List Byte := Memory.reads dramByte s.dram a n
/-- Bytes of flash. -/
def State.flashAt (s : State) (a n : Nat) : List Byte := Memory.reads flashByte s.flash a n

/-- Power domains by their number of R855, less one. -/
def domField : Nat := 1
/-- PD_LANE_W. -/
def domLaneW : Nat := 2
/-- PD_LANE_E. -/
def domLaneE : Nat := 3
/-- PD_APP. -/
def domApp : Nat := 4
/-- PD_DROVER. -/
def domDrover : Nat := 5
/-- PD_KHAN. -/
def domKhan : Nat := 6
/-- PD_ISP. -/
def domIsp : Nat := 7
/-- PD_MEM. -/
def domMem : Nat := 8
/-- PD_NOC. -/
def domNoc : Nat := 9
/-- PD_BAND0. -/
def domBand0 : Nat := 10
/-- PD_TREE. -/
def domTree : Nat := 14
/-- PD_VERDICT. -/
def domVerdict : Nat := 15

/-- Domain `d` is on (PWR.DOM_ON). -/
def State.domOn (s : State) (d : Nat) : Bool := s.flag Reg.pwrDomOn d

/-- The domain that holds the registers at an address (R855). The manual names no domain for MFL, FAULT, MBOX, CONVOY,
SLINK, ETH and the peripherals (assumption 15). -/
def domainOf (a : Nat) : Nat :=
  let b := (a - 0x2000000000) / 0x10000
  if b == 0x10 then domKhan
  else if 0x20 ≤ b && b < 0x22 then (if (a - 0x2000200000) / 0x1000 < 12 then domLaneW else domLaneE)
  else if b == 0x50 || b == 0x51 then domIsp
  else if b == 0x60 then domTree
  else if 0x70 ≤ b && b < 0x74 then domVerdict
  else if b == 0x80 then domField
  else if 0x100 ≤ b && b < 0x148 then domBand0 + (b - 0x100) / 18
  else 0

/-- The steward itself serves the block: the registers that READ_REG and WRITE_REG reach in the waystation state (R855,
R965). -/
def aonBlock (a : Nat) : Bool :=
  let b := (a - 0x2000000000) / 0x10000
  decide (0x2000000000 ≤ a) && (b < 5 || b == 0x11 || b == 0xA0)

/-- Band of a tile: physical rows 2b and 2b + 1. -/
def bandOf (k : Nat) : Nat := k / 18

/-- The bale store of a partition covers the bytes [a, a + n) (R1021). -/
def Env.inBales (e : Env) (a n : Nat) : Bool :=
  decide (e.baleBase * 0x100000 ≤ a) && decide (a + n ≤ (e.baleBase + e.baleSize) * 0x100000)

/-- A partition of the manifest covers the bytes [a, a + n). -/
def Env.inPayload (e : Env) (a n : Nat) : Bool :=
  decide (e.dramBase * 0x100000 ≤ a) && decide (a + n ≤ (e.dramBase + e.dramSize) * 0x100000)

end Sys2Proof.Machine
end

