-- ==== Sys2Proof/Machine/Flags.lean ====
section
/-! DEFINITION. Events, saturating counters and sticky flags (R68 to R73, R87 to R91). -/

namespace Sys2Proof.Machine

/-- TB_NS. -/
def State.tbNs (s : State) : Word := s.tb.lt.setWidth 32
/-- Time in 4 ns ticks since PD_AON left reset: what the model measures intervals with. -/
def State.now (s : State) : Nat := s.tb.cycles.toNat

/-- One more event on a saturating counter of `w` bits with OVF at bit 31 (R71): the new word, and whether OVF goes from 0
to 1. -/
def satWord (w v : Nat) : Nat × Bool :=
  let c := v % 2 ^ w
  let top := 2 ^ w - 1
  if c == top then (setBitTo v 31 true, !bitAt v 31)
  else if c + 1 == top then (setBitTo (v + 1) 31 true, !bitAt v 31)
  else (v + 1, false)

/-- One entry in the queue of core target `t` (R88), or a drop (R89); the flag says that the drop counter's OVF rose. -/
def pushEvent (s : State) (src t : Nat) : State × Bool :=
  let q := s.evq.getD t []
  if q.length < 64 then ({ s with evq := modAt s.evq t fun q => q ++ [(s.tbNs, src)] }, false)
  else
    let r := satWord 24 (s.reg (Reg.sysEvqDrops t)).toNat
    (s.setN (Reg.sysEvqDrops t) r.1, r.2)

/-- R87 with at most `fuel` nested overflow events: each of the 13 drop counters can raise CNT_OVF once. -/
def raiseFuel : Nat → State → Nat → State
  | 0, s, _ => s
  | fuel + 1, s, src =>
    let s := s.setFlag (Reg.sysEvtPend (src / 32)) (src % 32) true
    let mask := (s.reg (Reg.sysEvtRoute src)).toNat
    (List.range 13).foldl (fun (s : State) t =>
      if bitAt mask t then
        let r := pushEvent s src t
        if r.2 then raiseFuel fuel r.1 473 else r.1
      else s) s

/-- The event of source `src` is raised (R87, R89, R100). -/
def raise (src : Nat) (s : State) : State := raiseFuel 14 s src

/-- Pin EVENT_OUTn (R90). -/
def State.eventOut (s : State) (n : Nat) : Bool :=
  (List.range 512).any fun src =>
    bitAt (s.reg (Reg.sysEvtRoute src)).toNat (13 + n) && s.flag (Reg.sysEvtPend (src / 32)) (src % 32)

/-- An event on the saturating counter at `a` with a count of `w` bits (R71). -/
def bumpW (w a : Nat) (s : State) : State :=
  let r := satWord w (s.reg a).toNat
  let s := s.setN a r.1
  if r.2 then raise 473 s else s

/-- An event on a 24-bit saturating counter. -/
def bump (a : Nat) (s : State) : State := bumpW 24 a s

/-- A logbook counter that reaches its maximum, or is found at it with its class bit clear (R71, R985). -/
def logFull (cls : Nat) (s : State) : State :=
  if s.flag Reg.logOvf cls then s else raise 469 (s.setFlag Reg.logOvf cls true)

/-- One more event on a logbook counter of `w` bits held in one register, of class bit `cls` of LOG.OVF (R981, R985). -/
def logBump (w a cls : Nat) (s : State) : State :=
  let c := (s.reg a).toNat % 2 ^ w
  let top := 2 ^ w - 1
  if c == top then logFull cls s
  else
    let s := s.setN a ((s.reg a).toNat + 1)
    if c + 1 == top then logFull cls s else s

/-- One more event on a 40-bit logbook counter held as a low word and the low byte of a high word. -/
def logBump40 (lo hi cls : Nat) (s : State) : State :=
  let c := (s.reg lo).toNat + s.fget hi 7 0 * 2 ^ 32
  let top := 2 ^ 40 - 1
  if c == top then logFull cls s
  else
    let s := (s.setN lo ((c + 1) % 2 ^ 32)).fset hi 7 0 ((c + 1) / 2 ^ 32)
    if c + 1 == top then logFull cls s else s

/-- A sticky flag set by the hardware (R13). -/
def stick (a i : Nat) (s : State) : State := s.setFlag a i true

/-- Event sources of R1025: slot `k` of station `n`. -/
def evStn (n k : Nat) : Nat := 16 * n + k
/-- Field channel. -/
def evFio (ch : Nat) : Nat := 256 + ch
/-- Odometer channel. -/
def evOdo (ch : Nat) : Nat := 288 + ch
/-- Lane. -/
def evLane (l : Nat) : Nat := 304 + l
/-- Link. -/
def evLink (l : Nat) : Nat := 328 + l
/-- Convoy group. -/
def evGroup (g : Nat) : Nat := 344 + g
/-- Physical tile. -/
def evTile (k : Nat) : Nat := 376 + k

end Sys2Proof.Machine
end

