-- ==== Sys2Proof/Machine/Wire.lean ====
section
/-! DEFINITION. Blocks on the lanes: the 66-bit blocks of packets and of control, their scrambling and their distribution over
the lanes of a link, loopback, and the PCS of the Ethernet ports (R517, R518, R544, R545, R550, R568 to R571). -/

namespace Sys2Proof.Machine

/-! ## The scrambler x^58 + x^39 + 1 (R569) -/

/-- `n` payload bits scrambled, least significant first, from register `r`, whose bit 0 is the bit sent last: the scrambled bits
and the register after them. -/
def scramble : Nat → Nat → Nat → Nat × Nat
  | 0, r, _ => (0, r)
  | n + 1, r, x =>
    let o := (x + r / 2 ^ 38 + r / 2 ^ 57) % 2
    let q := scramble n ((2 * r + o) % 2 ^ 58) (x / 2)
    (o + 2 * q.1, q.2)

/-- The receiver's side: `n` received bits descrambled, from the register of the bits received last. -/
def descramble : Nat → Nat → Nat → Nat × Nat
  | 0, r, _ => (0, r)
  | n + 1, r, y =>
    let x := (y + r / 2 ^ 38 + r / 2 ^ 57) % 2
    let q := descramble n ((2 * r + y % 2) % 2 ^ 58) (y / 2)
    (x + 2 * q.1, q.2)

/-! ## Blocks (R568, R571) -/

/-- A block: whether it is a control block, and its 64 payload bits. -/
abbrev Block := Bool × Nat

/-- The payload of a control block of a type, with bytes 1 to 6, and the CRC8 in byte 7 where the block carries one. -/
def controlBlock (type : Nat) (bytes : List Nat) (crc : Bool) : Block :=
  let bs := (type :: bytes).map fun b => (BitVec.ofNat 8 b : Byte)
  let bs := slice bs 0 7
  (true, leN (bs ++ [BitVec.ofNat 8 (if crc then Crypto.crcMsb 8 0x07 0 bs else 0)]))

/-- The SKIP block (R517). -/
def skipBlock : Block := (true, 0x5A5A5A5A5A5A5AE1)

/-- The blocks of a packet: PKT_START or XPKT_START, then its words. -/
def packetBlocks (express : Bool) (ws : List Dword) : List Block :=
  controlBlock (if express then 0x66 else 0x78) [] false :: ws.map fun w => (false, w.toNat)

/-- The LINK block of a KIND with its byte 2 and its 16-bit value. -/
def linkBlockOf (kind sel val : Nat) : Block := controlBlock 0x4B [kind, sel, val % 256, val / 256 % 256, 0, 0] true

/-- The TRAIN block of a lane: request, status, lane index and CDR lock. -/
def trainBlock (request status index : Nat) (locked : Bool) : Block :=
  controlBlock 0x2D [request % 256, request / 256 % 256, status % 256, status / 256 % 256, index, b2n locked] true

/-- The EIDLE block: 1 DOZE, 2 SLEEP. -/
def eidleBlock (target : Nat) : Block := controlBlock 0x55 [target, 0, 0, 0, 0, 0] true

/-! ## Lanes of links -/

/-- The lanes of a link: those of its ENDPOINT sections (R159, R160). -/
def State.linkLanes (s : State) (l : Nat) : List Nat :=
  match ((s.dev.map DevBlock.eps).getD []).find? fun e => e.link == l with
  | some e => (List.range e.width).map fun i => e.firstLane + i
  | none => []

/-- The declared link that a lane belongs to. -/
def State.laneLink (s : State) (k : Nat) : Option Nat := (List.range 16).find? fun l => (s.linkLanes l).contains k

/-- LANE.PRBS.LOOP: the transmitter drives its own receiver inside the package (R550). -/
def State.looped (s : State) (k : Nat) : Bool := s.flag (Reg.lanePrbs k) 4

/-- The generator of a lane sends a test pattern in place of blocks (R549). -/
def State.patterned (s : State) (k : Nat) : Bool := s.flag (Reg.lanePrbs k) 2 && s.fget (Reg.lanePrbs k) 1 0 != 0

/-- A lane in use carries a test pattern: LANE.CFG.USE reads 3 (R549, R559, log 46). -/
def State.laneTests (s : State) (k : Nat) : Bool :=
  s.fget (Reg.laneCfg k) 5 4 != 0 && s.fget (Reg.lanePrbs k) 1 0 != 0 && s.fget (Reg.lanePrbs k) 3 2 != 0

/-- The driver of a lane holds its pins in electrical idle: in loopback, and in every power state but ACTIVE (R508, R543, R550). -/
def State.pinsIdle (s : State) (k : Nat) : Bool := s.looped k || s.fget (Reg.laneStat k) 3 2 != 1

/-- A block as it leaves lane `k`: onto the pins, or in loopback to the lane's own receiver. A lane that sends a test pattern sends no
block. -/
def emitBlock (k : Nat) (ctl : Bool) (sent : Nat) (s : State) : State :=
  let e := (k, ctl, sent)
  { s with phy := if s.patterned k then s.phy else if s.looped k then { s.phy with loop := s.phy.loop ++ [e] } else { s.phy with wire := s.phy.wire ++ [e] } }

/-- A block scrambled by the scrambler of lane `k` (R569). -/
def laneBlock (k : Nat) (b : Block) (s : State) : State :=
  let p := s.phy
  let c := scramble 64 ((p.scr.getD k none).getD (Config.scrambler k p.starts).toNat) b.2
  emitBlock k b.1 c.1 { s with phy := { p with scr := modAt p.scr k fun _ => some c.2, starts := p.starts + 1 } }

/-- The SKIP block goes out unscrambled on lane `k`, and its scrambler does not advance (R517). -/
def laneSkip (k : Nat) (s : State) : State := emitBlock k true skipBlock.2 s

/-- Block k of a link's stream goes out on lane k mod WIDTH of the link (R570). -/
def streamBlock (l : Nat) (s : State) (b : Block) : State :=
  let ks := s.linkLanes l
  if ks.isEmpty then s
  else
    let i := (s.phy.turn.getD l none).getD (Config.blockTurn l s.phy.starts) % ks.length
    laneBlock (ks.getD i 0) b { s with phy := { s.phy with turn := modAt s.phy.turn l fun _ => some ((i + 1) % ks.length) } }

/-- Blocks go out on a link one after the other. -/
def streamBlocks (l : Nat) (bs : List Block) (s : State) : State := bs.foldl (streamBlock l) s

/-! ## Ethernet ports (R544, R545) -/

/-- The word that a port sends while it negotiates: the clause 37 base page for full duplex with both pause bits, or the MAC
side's SGMII control word, each with its acknowledge bit (PRESUMED, log 46). -/
def pcsWord (mode : Nat) : Nat := if mode == 2 then 0x41A0 else if mode == 3 then 0x4001 else 0

/-- How often each symbol goes out at the speed that an SGMII control word names in bits [11:10] (R545). -/
def symbolRepeat (mode word : Nat) : Nat :=
  if mode != 3 then 1 else if fld word 11 10 == 0 then 100 else if fld word 11 10 == 1 then 10 else 1

/-- An Ethernet port starts in a mode: 1000BASE-X runs auto-negotiation, SGMII exchanges control words, and the partner's word is
input (R544, R545). -/
def startPcs (port mode : Nat) (s : State) : State :=
  let got := if mode == 2 || mode == 3 then (Config.linkPartner port s.phy.starts).toNat else 0
  { s with phy := { s.phy with
      starts := s.phy.starts + 1
      pcs := modAt s.phy.pcs port fun _ => ⟨mode, pcsWord mode, got, symbolRepeat mode got⟩ } }

/-- The symbols that a port sends for the bytes of a frame (R545). -/
def Pcs.symbols (p : Pcs) (bs : List Nat) : List Nat := bs.flatMap fun b => List.replicate p.repeat_ b

end Sys2Proof.Machine
end

