-- ==== Sys2Proof/Machine/Ops.lean ====
section
/-! DEFINITION. The shared operations: how a command ends, mailboxes, the fault log, snapshots, free values, packets to
endpoints, and the STOP_LINE and ownership queries that several families use. -/

namespace Sys2Proof.Machine

/-! ## How a command ends -/

/-- What a command may change beside the rest of the state: the timebase and OTP. -/
structure Scope where
  /-- The command may change the timebase. -/
  tb : Bool := false
  /-- The command may change OTP. -/
  otp : Bool := false

/-- The writes of a command to a byte memory, in order. -/
abbrev Writes := List (Nat × List Byte)

/-- A memory after a list of writes. -/
def applyWrites (dflt : Byte) (m : Memory) (ws : Writes) : Memory :=
  ws.foldl (fun m w => Memory.writes dflt m w.1 w.2) m

/-- The state in which a command starts: nothing sent yet. -/
def State.begin_ (s : State) : State := { s with out := [], phy := Phy.quiet s.phy.starts s.phy.pcs }

/-- The end of a command that started in `s` and reached `t`. The queue is what it was; the timebase and OTP are what
they were unless the command is one that may change them; the memories are what they were but for the writes that the
command lists: to DRAM, to flash, and to tile SRAM, where `zero` lists spans that are zeroed first. -/
def finish (sc : Scope) (s t : State) (dram flash sram : Writes) (zero : List (Nat × Nat)) :
    Host.Outcome State Fault Refusal :=
  .next { t with
    pending := s.pending
    tb := if sc.tb then t.tb else s.tb
    otp := if sc.otp then t.otp else s.otp
    dram := applyWrites dramByte s.dram dram
    flash := applyWrites flashByte s.flash flash
    sram := applyWrites sramByte (zero.foldl (fun m z => Memory.clear m z.1 z.2) s.sram) sram }

/-- The end of a command that writes no memory and changes neither the timebase nor OTP. -/
def done (s t : State) : Host.Outcome State Fault Refusal := finish {} s t [] [] [] []

/-- The end of a command that writes DRAM. -/
def doneDram (s t : State) (w : Writes) : Host.Outcome State Fault Refusal := finish {} s t w [] [] []

/-- The end of a command that writes flash. -/
def doneFlash (s t : State) (w : Writes) : Host.Outcome State Fault Refusal := finish {} s t [] w [] []

/-- The end of a command that moves the timebase. -/
def doneTb (s t : State) : Host.Outcome State Fault Refusal := finish { tb := true } s t [] [] [] []

/-- What a register command does to copy `ok` of a register of domain `d`: registers of a domain that is off ignore writes
(R1020). -/
def ifOn (d : Nat) (ok : Bool) (f : State → State) (s : State) : State := if s.domOn d && ok then f s else s

/-! ## Mailboxes (R78 to R86) -/

/-- Entries of complete packets. -/
def Mbox.count (m : Mbox) : Nat := sumN (m.pkts.map List.length)

/-- The header entry of a packet (R78). -/
def mbHeader (type stn len : Nat) (seq : Word) : Dword :=
  BitVec.ofNat 64 (type % 256 * 2 ^ 56 + stn % 16 * 2 ^ 52 + len % 256 * 2 ^ 44 + seq.toNat)

/-- A packet enters mailbox `n` whole, or is dropped and counted (R79, R80); it takes the next SEQ either way, and a packet
that enters raises MB_READY (R1025). -/
def mbPut (n type : Nat) (payload : List Dword) (s : State) : State :=
  let m := s.mbox.getD n ⟨[], 0⟩
  let len := payload.length + 1
  if m.count + len ≤ 256 then
    raise (evStn n 7) { s with mbox := modAt s.mbox n fun m => ⟨m.pkts ++ [mbHeader type n len m.seq :: payload], m.seq + 1⟩ }
  else bump (Reg.mboxDrops n) { s with mbox := modAt s.mbox n fun m => { m with seq := m.seq + 1 } }

/-- The head entry of a mailbox. -/
def State.mbHead? (s : State) (n : Nat) : Option Dword := ((s.mbox.getD n ⟨[], 0⟩).pkts.head?).bind List.head?

/-- A mailbox without its head entry (R83). -/
def Mbox.pop (m : Mbox) : Mbox :=
  match m.pkts with
  | (_ :: e :: r) :: ps => { m with pkts := (e :: r) :: ps }
  | _ :: ps => { m with pkts := ps }
  | [] => m

/-! ## The fault log (R927 to R929) -/

/-- A fault as the log records it. -/
structure FaultRec where
  /-- ACTION. -/
  action : Nat
  /-- The station, or none for scope DEVICE. -/
  stn : Option Nat
  /-- CODE. -/
  code : Nat
  /-- UNIT. -/
  unit : Nat
  /-- INDEX. -/
  index : Nat
  /-- DETAIL. -/
  detail : Nat := 0
  /-- BALE. -/
  bale : Nat := 0

/-- A new entry of the fault log. -/
def logFault (f : FaultRec) (s : State) : State :=
  let i := s.fget Reg.faultHead 5 0
  let cnt := s.fget Reg.faultCount 6 0
  let w1 := f.action % 8 * 2 ^ 29 + (if f.stn.isNone then 2 ^ 28 else 0) + (f.stn.getD 0) % 16 * 2 ^ 24 + f.code % 256 * 2 ^ 16
    + s.tb.lt.toNat / 2 ^ 32
  let s := (((s.setReg (Reg.faultLogW0 i) s.tbNs).setN (Reg.faultLogW1 i) w1).setN (Reg.faultLogW2 i)
    (f.detail % 65536 * 65536 + f.index % 256 * 256 + f.unit % 256)).setN (Reg.faultLogW3 i) f.bale
  let s := s.fset Reg.faultHead 5 0 ((i + 1) % 64)
  let s := if cnt == 64 then bump Reg.faultOverwrite s else s.fset Reg.faultCount 6 0 (cnt + 1)
  raise 454 s

/-! ## Snapshots and read data (R75, R770, R854, R930) -/

/-- The snapshot of an initiator. -/
def State.snap (s : State) (ini : Nat) : Snap := s.snaps.getD ini Snap.none
/-- The snapshot of an initiator changed. -/
def State.setSnap (s : State) (ini : Nat) (f : Snap → Snap) : State := { s with snaps := modAt s.snaps ini f }

/-! ## Free values (assumption 8) -/

/-- The next free value: one that nothing constrains, and the state that has taken it. -/
def takeFree (s : State) : Word × State := (Config.freeWord s.free, { s with free := s.free + 1 })

/-! ## Field outputs and STOP_LINE (R699, R756) -/

/-- Any station asserts STOP_LINE. -/
def State.stopLine (s : State) : Bool := s.stations.any fun n => n.stops != 0

/-- Bits of MILE.STN_STAT.CAUSE (R770). -/
def causeDefault : Nat := 0
/-- TRIG_OVF. -/
def causeOvf : Nat := 1
/-- LOST. -/
def causeLost : Nat := 2
/-- Read-back. -/
def causeReadback : Nat := 3
/-- Reverse. -/
def causeReverse : Nat := 4
/-- Software. -/
def causeSoftware : Nat := 5

/-- LOG.FIO counts an off-to-on transition of channel `ch` (R698, R981). -/
def countCycle (ch : Nat) (s : State) : State := logBump40 (Reg.logFioLo ch) (Reg.logFioHi ch) 4 s

/-- The device runs: handoff is complete and it is not in the waystation state. -/
def State.running (s : State) : Bool := s.flag Reg.sysBootStat 30 && !s.flag Reg.sysBootStat 31

/-- A channel can drive its output: neither it nor its group is tripped, and the field die is not in the safe state (R710,
R711, R713). -/
def State.canTurnOn (s : State) (ch : Nat) : Bool := !(s.fioCh ch).trip && !s.grpTrip.getD (ch / 8) false && !s.fieldSafe

/-- A commanded output that its channel drives. -/
def State.driven (s : State) (ch : Nat) : Bool := (s.fioCh ch).out && s.canTurnOn ch

/-- An output is commanded on: the on-check falls due and a pending off-check is skipped (R702, R719). When the channel can
drive it, the test current stops and one valve cycle is counted (R698, R706); else its on-check will fail (R718). -/
def turnOn (ch : Nat) (s : State) : State :=
  let on := s.canTurnOn ch
  let s := s.setFio ch fun c =>
    { c with out := true, onCheck := true, offCheck := false, hold := c.hold && !on, test := c.test && !on }
  if on then countCycle ch s else s

/-- The command of an output ends: a driven output turns off, and the off-check falls due (R703). An on-check that is still due stays due:
R702 makes no exception for an output that was on for less than SETTLE_US. -/
def turnOff (ch : Nat) (s : State) : State :=
  let was := s.driven ch
  s.setFio ch fun c => { c with out := false, hold := false, pulse := false, offCheck := was || c.offCheck }

/-- The STOP_LINE outputs follow the stations' state while the device runs (R699, R700). -/
def driveStopLine (s : State) : State :=
  let on := s.running && !s.fieldSafe && !s.stopLine
  (((s.dev.map DevBlock.fields).getD []).filter fun f => f.func == 0x12).foldl (fun (s : State) f =>
    let out := (s.fioCh f.ch).out
    if on && !out then turnOn f.ch s else if !on && out then turnOff f.ch s else s) s

/-- A station asserts STOP_LINE for a cause (R756). -/
def assertStop (n cause : Nat) (s : State) : State :=
  driveStopLine (s.setStn n fun t => { t with stops := setBitTo t.stops cause true })

/-! ## Packets to endpoints (R574 to R579, R589, R590) -/

/-- The header word of a packet towards an endpoint (R574): DIR 0, SRC 0. -/
def packetHeader (dest vc type len seq : Nat) : Nat :=
  dest % 64 * 2 ^ 58 + vc % 4 * 2 ^ 50 + type % 64 * 2 ^ 44 + len % 1024 * 2 ^ 34 + seq % 4096 * 2 ^ 22

/-- The words of a packet, header and CRC word included (R574, R575). -/
def packetWords (dest vc type seq : Nat) (payload : List Dword) : List Dword :=
  let ws := BitVec.ofNat 64 (packetHeader dest vc type (payload.length + 2) seq) :: payload
  ws ++ [BitVec.ofNat 64 (Crypto.crc32c (ws.flatMap fun w => leBytes 8 w.toNat))]

/-- Bytes that a replay buffer holds. -/
def Stream.bytes (t : Stream) : Nat := sumN (t.replay.map fun p => 8 * p.2.length)

/-- The stream of a VC: VC2 is express (R576). -/
def Link.stream (l : Link) (express : Bool) : Stream := if express then l.express else l.normal
/-- The stream of a VC changed. -/
def Link.setStream (l : Link) (express : Bool) (f : Stream → Stream) : Link :=
  if express then { l with express := f l.express } else { l with normal := f l.normal }

/-- SLINK.STAT.REPLAY_USE follows the replay buffers. -/
def showReplay (l : Nat) (s : State) : State :=
  s.fset (Reg.slinkStat l) 14 0 ((s.link l).normal.bytes + (s.link l).express.bytes)

/-- Credit units of a packet (R590). -/
def creditUnits (words : Nat) : Nat := ceilDiv (words * 8) 256

/-- The segment may start a packet (R579, R590): 16 KiB of replay space, at most 2,047 unacknowledged packets, credit. -/
def Link.canSend (l : Link) (vc words : Nat) : Bool :=
  let st := l.stream (vc == 2)
  l.up && decide (l.normal.bytes + l.express.bytes + 8 * words ≤ 16384) && decide (st.replay.length < 2047) &&
    atOrBefore 16 (l.used.getD vc 0 + creditUnits words) (l.grant.getD vc 0)

/-- T3 of a TIME_RESP is its own departure, inserted as it leaves (R605, R606). -/
def stampPayload (type : Nat) (lt : Pos) (payload : List Dword) : List Dword :=
  if type == 0x21 then payload.set 1 (BitVec.ofNat 64 lt.toNat) else payload

/-- T1 of an exchange is the departure of its TIME_REQ (R605, R607). -/
def stampRequest (l type dest : Nat) (payload : List Dword) (s : State) : State :=
  if type == 0x20 then
    s.setEp l dest fun e => { e with exch := e.exch.map fun x => (x.1, if x.1 == (payload.headD 0).toNat then s.tb.lt.toNat else x.2) }
  else s

/-- A packet goes out on the device's segment of a link (R578). -/
def startPacket (l vc type dest : Nat) (payload : List Dword) (s : State) : State :=
  let st := (s.link l).stream (vc == 2)
  let payload := stampPayload type s.tb.lt payload
  let s := stampRequest l type dest payload s
  let ws := packetWords dest vc type st.next payload
  let s := s.setLink l fun k =>
    { k.setStream (vc == 2) (fun t => { t with next := (t.next + 1) % 4096, replay := t.replay ++ [(t.next, ws)] }) with
      used := modAt k.used vc fun u => (u + creditUnits ws.length) % 65536 }
  streamBlocks l (packetBlocks (vc == 2) ws) (showReplay l { s with out := s.out ++ [(l, type, dest, payload.map BitVec.toNat)] })

/-! ## Packets that wait (R379, R592, R593, R813) -/

/-- The deficit of a round-robin under a key. -/
def Link.owed (l : Link) (key : Nat) : Nat := ((l.deficit.find? fun p => p.1 == key).map Prod.snd).getD 0

/-- Deficit round-robin: of the queues that wait, each with its key, weight, deficit and the size of its head, the one that is
served next, and the deficits after it. As many rounds pass as bring the first queue its head's size, each of which adds every
queue its weight; within a round the queues come in order. A queue of weight 0 is served where no other waits. -/
def drrNext (qs : List (Nat × Nat × Nat × Nat)) : Option (Nat × List (Nat × Nat)) :=
  let live := qs.filter fun q => q.2.1 != 0
  match live with
  | [] => qs.head?.map fun q => (q.1, qs.map fun q => (q.1, q.2.2.1))
  | q :: r =>
    let rounds := fun (q : Nat × Nat × Nat × Nat) => ceilDiv (q.2.2.2 - q.2.2.1) q.2.1
    let n := r.foldl (fun m q => min m (rounds q)) (rounds q)
    let grown := live.map fun q => (q.1, q.2.2.1 + n * q.2.1, q.2.2.2)
    (grown.find? fun g => decide (g.2.2 ≤ g.2.1)).map fun w =>
      (w.1, grown.map fun g => (g.1, if g.1 == w.1 then g.2.1 - w.2.2 else g.2.1))

/-- The stations after a choice of the round-robin: those that wait have the deficits `ds`, the others start again from 0. -/
def settleShares (put : Stn → Nat → Stn) (ds : List (Nat × Nat)) (ns : List Stn) : List Stn :=
  (indexed ns).map fun p => put p.2 (((ds.find? fun d => d.1 == p.1).map Prod.snd).getD 0)

/-- Deficits replaced; a queue that has emptied starts again from 0. -/
def Link.settle (l : Link) (ds : List (Nat × Nat)) (live : Nat → Bool) : Link :=
  { l with deficit := ((l.deficit.filter fun p => !(ds.any fun d => d.1 == p.1)) ++ ds).filter fun p => p.2 != 0 && live p.1 }

/-- Size of a packet in words, header and CRC word included. -/
def Waiting.len (p : Waiting) : Nat := p.words.length + 2

/-- The first packet of each class of those that wait on a VC. -/
def firstOf (key : Waiting → Nat) (ps : List Waiting) : List (Nat × Waiting) :=
  ps.foldl (fun acc p => if acc.any fun q => q.1 == key p then acc else acc ++ [(key p, p)]) []

/-- Keys of the round-robins in `Link.deficit`. -/
def stnKey (vc n : Nat) : Nat := 16 + 16 * vc + n
/-- A group's key; packets of a station that are no CV_DATA stand under the last one. -/
def groupKey (g : Option Nat) : Nat := 96 + g.getD 32

/-- The packet of VC `vc` that goes next, with the deficits that its choice leaves: the device's own packets first, then the
stations' by their VC_QUOTA, and on VC3 the groups of a station by WEIGHT (R379, R813). -/
def State.nextOn (s : State) (l vc : Nat) : Option (Waiting × List (Nat × Nat)) :=
  let k := s.link l
  let ps := k.queue.filter fun p => p.vc == vc
  match ps.find? fun p => p.stn.isNone with
  | some p => some (p, [])
  | none =>
    let of := fun (n : Nat) =>
      let mine := ps.filter fun p => p.stn == some n
      let gs := firstOf (fun p => groupKey p.group) mine
      let weight := fun (p : Waiting) => ((p.group.bind fun g => s.dev.bind fun d => d.group? g).map GroupDecl.weight).getD 1
      if vc == 3 then
        (drrNext (gs.map fun q => (q.1, weight q.2, k.owed q.1, q.2.len))).bind fun r =>
          (gs.find? fun q => q.1 == r.1).map fun q => (q.2, r.2)
      else mine.head?.map fun p => (p, [])
    let heads := (List.range 16).filterMap fun n => (of n).map fun q => (n, q)
    let quota := fun (n : Nat) => fld (((s.env? n).map Env.vcQuota).getD 0) (8 * vc + 7) (8 * vc)
    (drrNext (heads.map fun h => (stnKey vc h.1, quota h.1, k.owed (stnKey vc h.1), h.2.1.len))).bind fun r =>
      (heads.find? fun h => stnKey vc h.1 == r.1).map fun h => (h.2.1, r.2 ++ h.2.2)

/-- The packet that goes next on a link: express before normal, then the normal VCs by VC_WEIGHT, counted in words (R592, R593). A
packet that must wait holds back its own VC alone. -/
def State.nextPacket (s : State) (l : Nat) : Option (Waiting × List (Nat × Nat)) :=
  let ready := fun (vc : Nat) => (s.nextOn l vc).filter fun q => (s.link l).canSend vc q.1.len
  match ready 2 with
  | some q => some q
  | none =>
    let vcs := [0, 1, 3].filterMap fun v => (ready v).map fun q => (v, q)
    let weight := fun (v : Nat) => fld ((s.dev.map fun d => d.dev.vcWeight).getD 0) (8 * v + 7) (8 * v)
    (drrNext (vcs.map fun v => (v.1, weight v.1, (s.link l).owed v.1, v.2.1.len))).bind fun r =>
      (vcs.find? fun v => v.1 == r.1).map fun v => (v.2.1, r.2 ++ v.2.2)

/-- A class of packets has a packet that waits. -/
def Link.waits (l : Link) (key : Nat) : Bool :=
  l.queue.any fun p => p.vc == key || (p.stn.map (stnKey p.vc)) == some key || (p.vc == 3 && groupKey p.group == key)

/-- Packets that wait go out as far as credit and replay space allow. -/
def serveLink (l : Nat) : Nat → State → State
  | 0, s => s
  | fuel + 1, s =>
    match s.nextPacket l with
    | none => s
    | some (p, ds) =>
      let s := s.setLink l fun k => { k with queue := k.queue.erase p }
      let s := s.setLink l fun k => k.settle ds k.waits
      serveLink l fuel (startPacket l p.vc p.type p.dest p.words s)

/-- The device's own segment of a link sleeps: the endpoint next to it is in DOZE or SLEEP (R604, R621). -/
def State.asleep (s : State) (l : Nat) : Bool :=
  ((s.eps.find? fun e => e.link == l).map fun e => decide (5 ≤ s.epState l e.addr)).getD false

/-- A packet of a station, or of the device itself, is sent, waits with the packets of its VC that wait for credit or replay space,
waits for a segment that sleeps to wake (R788), or is lost on a segment that is down. -/
def sendFor (stn group : Option Nat) (l vc type dest : Nat) (payload : List Dword) (s : State) : State :=
  if !(s.link l).up && !s.asleep l then s
  else if !s.asleep l && !((s.link l).queue.any fun p => p.vc == vc) && (s.link l).canSend vc (payload.length + 2) then
    startPacket l vc type dest payload s
  else s.setLink l fun k => { k with queue := k.queue ++ [⟨vc, type, dest, stn, group, payload⟩] }

/-- A packet of the device itself. -/
def sendPacket (l vc type dest : Nat) (payload : List Dword) (s : State) : State := sendFor none none l vc type dest payload s

/-- The packets that wait on link `l` are served, unless the segment sleeps. -/
def drain (l : Nat) (s : State) : State := if s.asleep l then s else serveLink l (s.link l).queue.length s

/-- A message for software: received data that no register holds (assumption 11). -/
def deliver (l type addr : Nat) (ws : List Nat) (s : State) : State := { s with out := s.out ++ [(l, type, addr, ws)] }

end Sys2Proof.Machine
end

