-- ==== Sys2Proof/Machine/Fabric.lean ====
section
/-! DEFINITION. The tile fabric: grid modes, the defect map, retirement and hot sparing (R194 to R234, R343, R344). -/

namespace Sys2Proof.Machine

/-- Holes mode (MESH.GRID.MODE): that of the active manifest, before the handoff that of M9. -/
def State.holes (s : State) : Bool := (s.dev.map DevBlock.holes).getD s.gridHoles

/-- Physical rows of a band. -/
def tilesOfRow (py : Nat) : List Nat := (List.range 9).map fun px => py * 9 + px
/-- Tiles of a band. -/
def tilesOfBand (b : Nat) : List Nat := (List.range 18).map fun i => b * 18 + i

/-- The band is powered (PWR.DOM_ON). -/
def State.bandOn (s : State) (b : Nat) : Bool := s.domOn (domBand0 + b)
/-- Powered bands. -/
def State.bandsOn (s : State) : List Nat := (List.range 4).filter s.bandOn

/-- States of TILE.STATE.STATE (R236). -/
def tileOff : Nat := 0
/-- SPARE. -/
def tileSpare : Nat := 1
/-- ACTIVE. -/
def tileActive : Nat := 2
/-- RETIRING. -/
def tileRetiring : Nat := 3
/-- RETIRED. -/
def tileRetired : Nat := 4
/-- FACTORY. -/
def tileFactory : Nat := 5

/-- No station holds the tile, and it does the work of none: in perfect-grid mode a tile that backs a logical column, in holes mode a
healthy tile of a powered band (R199, R201, R390). -/
def State.unheld (s : State) (k : Nat) : Bool :=
  let t := s.tile k
  t.owner.isNone && s.bandOn (bandOf k) &&
    if s.holes then t.st == tileSpare else (t.st == tileActive || t.st == tileRetiring) && decide (t.lx < 8)

/-- Tiles that a station could be granted: held by no station, not retiring, and neither the spare of a retirement nor taken for
another station. -/
def State.isFree (s : State) (k : Nat) : Bool :=
  s.unheld k && (s.tile k).st != tileRetiring && !(s.retiring.any fun r => r.spare == some k) && (s.tile k).to_.isNone

/-- Tiles that station `n` could be granted: the free ones, and those that the Khan has taken for it (R372). -/
def State.freeFor (s : State) (n k : Nat) : Bool :=
  s.isFree k || (s.unheld k && (s.tile k).st != tileRetiring && (s.tile k).to_ == some n)

/-- A free tile's place in row-major order: logical in perfect-grid mode (R198), physical in holes mode. -/
def State.place (s : State) (k : Nat) : Nat := if s.holes then k else (k / 9) * 8 + (s.tile k).lx

/-- Free tiles in row-major order. -/
def State.freeTiles (s : State) : List Nat :=
  sortBy (fun a b => decide (s.place a ≤ s.place b)) ((List.range 72).filter s.isFree)

/-- Tile capacity (R203) of the bands `bs`, from the tiles as they stand. -/
def State.capacityOf (s : State) (holes : Bool) (bs : List Nat) : Nat :=
  let ks := bs.flatMap tilesOfBand
  let good := ks.filter fun k => (s.tile k).st == tileSpare || (s.tile k).st == tileActive || (s.tile k).st == tileRetiring
  if holes then min 64 (good.filter fun k => (s.tile k).st != tileRetiring).length
  else (good.filter fun k => (s.tile k).lx < 8).length

/-- Tile capacity of the running device. -/
def State.capacity (s : State) : Nat := s.capacityOf s.holes s.bandsOn

/-- A tile is gated, without work or pages. -/
def idleTile (t : Tile) : Tile := { t with owner := none, gated := true, scrub := false, pages := [], work := none }

/-- A tile is gated, which takes its contents, or ungated. -/
def gateTile (off : Bool) (t : Tile) : Tile := if off then { t with gated := true, pages := [] } else { t with gated := false }

/-- The holder whose data a tile carries once it leaves the one that it has now (R343): a zeroing that has not ended leaves those of
the holder before. -/
def Tile.holder (t : Tile) : Option Nat := if t.scrub then t.last else t.owner.orElse fun _ => t.last

/-- A RETIRED tile is gated and runs on no borrowed clock any more (R226, R872). -/
def stopBorrow (k : Nat) (s : State) : State :=
  if (s.tile k).borrowed then
    let s : State := { s with lenders := s.lenders.filter fun p => p.1 != k }
    (s.setFlag (Reg.meshBorrow (k / 32)) (k % 32) false).setTile k fun t => { t with borrowed := false }
  else s

/-- A tile leaves its holder: it is gated and keeps the name of its last holder (R343, R344). A retired tile that backs no
column is RETIRED by then (R226). -/
def freeTile (k : Nat) (s : State) : State :=
  let holes := s.holes
  let s := if (s.tile k).st == tileRetiring && (s.tile k).lx == 15 then stopBorrow k s else s
  s.setTile k fun t =>
    let t := { idleTile t with last := t.holder }
    if t.st == tileRetiring && t.lx == 15 then { t with st := tileRetired }
    else if holes && t.st == tileActive then { t with st := tileSpare, lx := 15, ly := k / 9 } else t

/-- A tile is granted to a station: ungated, and zeroed first unless the station held it last (R343, R344). `slot` is its
slot in holes mode. -/
def grantTile (n slot k : Nat) (s : State) : State :=
  let holes := s.holes
  s.setTile k fun t =>
    let t := { t with owner := some n, gated := false, scrub := t.last != some n, pages := [], work := none, to_ := none }
    if holes then { t with st := tileActive, lx := min slot 14, ly := k / 9 } else t

/-! ## Reconciling at power-up (R221 to R225) -/

/-- Column numbers for a perfect-grid row: healthy tiles in ascending order take logical columns 0 upwards, and the one
that remains is the spare (R222, R224). `bad` says why a tile is a hole. -/
def rebuildRow (bad : Nat → Option Nat) (py : Nat) : List (Nat × Nat × Nat) :=
  let good := (tilesOfRow py).filter fun k => (bad k).isNone
  (indexed good).map fun p => if p.1 < 8 then (p.2, tileActive, p.1) else (p.2, tileSpare, 15)

/-- A row's map after M9 or a band test: new state and logical column of each of its tiles. -/
def rebuiltTile (holes : Bool) (bad : Nat → Option Nat) (k : Nat) : Nat × Nat :=
  match bad k with
  | some st => (st, 15)
  | none =>
    if holes then (tileSpare, 15)
    else match (rebuildRow bad (k / 9)).find? fun r => r.1 == k with
      | some r => (r.2.1, r.2.2)
      | none => (tileSpare, 15)

/-- Why tile `k` is a hole (R221), if it is one; `failed` are tiles that failed the tests of this power-up. A tile that has been retired
since is a hole too, without a field entry as well (R231). -/
def State.bad (s : State) (failed : List Nat) (k : Nat) : Option Nat :=
  if bitAt s.otp.factory.toNat k then some tileFactory
  else if (s.fmap.entries ++ s.fmap.writing).any fun e => e.kind == 0 && e.target == k then some tileRetired
  else if failed.contains k || (s.tile k).st == tileRetired then some tileRetired
  else none

/-- The physical column that backs logical column `lx` of row `ly`, 0xF for none (MESH.ROWMAP): as M9 or a band test mapped the row
and sparing has changed it, that of a band without power too (R200, R222, R1089). -/
def State.rowmap (s : State) (ly lx : Nat) : Nat :=
  let backs := fun (k : Nat) => !s.holes && (s.tile k).lx == lx &&
    ((s.tile k).st == tileActive || (s.tile k).st == tileRetiring || (s.tile k).st == tileOff)
  (((tilesOfRow ly).find? backs).map fun k => k % 9).getD 15

/-- A band's tiles after its rows are rebuilt in a grid mode. -/
def rebuildBand (holes : Bool) (failed : List Nat) (b : Nat) (s : State) : State :=
  { s with tiles := (indexed s.tiles).map fun p =>
      if bandOf p.1 == b then
        let r := rebuiltTile holes (s.bad failed) p.1
        { idleTile p.2 with st := r.1, lx := r.2, ly := p.1 / 9 }
      else p.2 }

/-- A band loses its power: its tiles are OFF, but for holes, and keep their place in the map (R1089). -/
def darkBand (b : Nat) (s : State) : State :=
  let holes := s.holes
  { s with tiles := (indexed s.tiles).map fun p =>
      if bandOf p.1 == b then
        let t := { idleTile p.2 with last := p.2.holder, to_ := none, src := none }
        if t.st == tileRetired || t.st == tileFactory then t
        else if t.st == tileRetiring then { t with st := tileRetired, lx := 15 }
        else { t with st := tileOff, lx := (if holes then 15 else t.lx) }
      else p.2 }

/-- A band gets power again: the map that its rows got when it was tested stands (R1089). -/
def lightBand (b : Nat) (s : State) : State :=
  if s.pwr.tested.getD b 0 == 0 then s
  else
    { s with tiles := (indexed s.tiles).map fun p =>
        if bandOf p.1 == b && p.2.st == tileOff then { p.2 with st := (if p.2.lx < 8 then tileActive else tileSpare) }
        else p.2 }

/-- A degraded-row approval exists for a row (R210). -/
def State.approved (s : State) (py : Nat) : Bool := (s.fmap.entries ++ s.fmap.writing).any fun e => e.kind == 1 && e.target == py

/-- R223 and R225 for one powered band: each perfect-grid row has eight healthy tiles, or seven and an approval; a
holes-mode band has a healthy tile. -/
def State.bandOk (s : State) (holes : Bool) (failed : List Nat) (b : Nat) : Bool :=
  let good := fun k => (s.bad failed k).isNone
  if holes then (tilesOfBand b).any good
  else [2 * b, 2 * b + 1].all fun py =>
    let n := ((tilesOfRow py).filter good).length
    decide (8 ≤ n) || (n == 7 && s.approved py)

/-! ## The field region (R205 to R211, R215, R231) -/

/-- MESH.FMAP_STAT follows the field region (R235). -/
def showFmap (s : State) : State :=
  let s := if 64 ≤ s.fmap.entries.length then s.setFlag Reg.meshFmapStat 7 true else s
  (s.fset Reg.meshFmapStat 6 0 s.fmap.entries.length).fset Reg.meshFmapStat 8 8 (b2n !s.fmap.writing.isEmpty)

/-- An entry as the field map records it now (R207). -/
def State.newEntry (s : State) (kind target cause : Nat) : MapEntry :=
  ⟨target, kind, cause, (s.reg Reg.logPoh).toNat, (s.reg Reg.logCalLo).toNat + (s.reg Reg.logCalHi).toNat * 2 ^ 32⟩

/-- The steward starts to write a field entry (R215), or finds the region full (R231). -/
def fieldEntry (kind target cause : Nat) (s : State) : State :=
  if s.fmap.entries.length + s.fmap.writing.length < 64 then
    showFmap { s with fmap := { s.fmap with writing := s.fmap.writing ++ [s.newEntry kind target cause] } }
  else raise 464 (s.setFlag Reg.meshFmapStat 7 true)

/-- The bytes of a field entry (R207). -/
def MapEntry.bytes (e : MapEntry) : List Byte :=
  leBytes 1 e.target ++ leBytes 1 e.kind ++ leBytes 1 e.cause ++ [0] ++ leBytes 4 e.hours ++ leBytes 8 e.time

/-- The header and entries of the field region (R205, R206). -/
def FieldMap.bytes (f : FieldMap) : List Byte :=
  [0x48, 0x44, 0x46, 0x4D] ++ leBytes 1 f.entries.length ++ [0, 0, 0] ++ leBytes 4 f.seq.toNat ++ [0, 0, 0, 0]
    ++ f.entries.flatMap MapEntry.bytes

/-! ## Retirement and sparing (R212 to R220, R226, R230) -/

/-- Router hops between two tiles. -/
def hops (a b : Nat) : Nat :=
  let d := fun (x y : Nat) => if x < y then y - x else x - y
  d (a / 9) (b / 9) + d (a % 9) (b % 9)

/-- The spare for a retiring tile: the row's spare in perfect-grid mode (R216), the free healthy tile fewest hops away in
holes mode, the lower index on a tie (R220). -/
def State.spareFor (s : State) (k : Nat) : Option Nat :=
  if s.holes then
    (sortBy (fun a b => decide (hops k a ≤ hops k b)) ((List.range 72).filter s.isFree)).head?
  else
    (tilesOfRow (k / 9)).find? fun j => (s.tile j).st == tileSpare && !(s.retiring.any fun r => r.spare == some j)

/-- Stripes of a bale (R327). -/
def State.stripesOf (s : State) (b : Bale) : Nat :=
  match ((s.blockOf b).bind StnBlock.visionCam?).bind s.camDecl? with
  | some c => stripeCount c
  | none => 1

/-- Every stripe job has ended. -/
def State.stripesEnded (s : State) (b : Bale) : Bool := decide (s.stripesOf b ≤ b.stripes)

/-- A bale runs stripe jobs on tile `k` and has not ended them (R329). -/
def State.placedOn (s : State) (b : Bale) (k : Nat) : Bool := b.tiles.contains k && !s.stripesEnded b && !b.stopped

/-- A stripe job of a bale admitted before its station's next bale boundary runs on tile `k`, or will (R214, R329). -/
def State.tileNeeded (s : State) (k : Nat) : Bool :=
  s.bales.any (fun b => s.placedOn b k) || s.jobs.any fun j => j.kind == .stripe && match s.bale? j.bale with
    | some b => b.inst.isNone && b.reexec == 0 && b.kind == 0 && (s.stn b.stn).tiles.contains k
    | none => (s.tile k).work == some j.bale

/-- An UNBACKED logical tile's physical tile is RETIRED and gated once its jobs have ended (R226). -/
def settleUnbacked (k : Nat) (s : State) : State :=
  if (s.tile k).st == tileRetiring && (s.tile k).lx == 15 && (s.tile k).work.isNone && !s.tileNeeded k then
    stopBorrow k (s.setTile k fun t => { t with st := tileRetired, gated := true, pages := [] })
  else s

/-- A logical tile becomes UNBACKED (R226): its physical tile backs no column any more. -/
def unback (k : Nat) (s : State) : State :=
  let s := { s with retiring := s.retiring.filter fun r => r.tile != k }
  raise 465 (settleUnbacked k (s.setTile k fun t => { t with lx := 15 }))

/-- The retirement of a tile takes a spare and starts at step 1 of R216, or leaves the logical tile UNBACKED (R226,
R230). -/
def seekSpare (k : Nat) (from_ : Option Nat) (s : State) : State :=
  let s := { s with retiring := s.retiring.filter fun r => r.tile != k }
  match s.spareFor k with
  | some j => { s with retiring := s.retiring ++ [⟨k, some j, 1, from_⟩] }
  | none => unback k s

/-- A spare becomes RETIRED at once, with a field entry; a retirement that waits for it follows R230 (R233): it starts
again with the next free healthy tile in holes mode, and leaves the tile UNBACKED in perfect-grid mode. -/
def retireSpare (k cause : Nat) (s : State) : State :=
  let s := fieldEntry 0 k cause s
  let s := stopBorrow k (s.setTile k fun t => { idleTile t with st := tileRetired, lx := 15 })
  match s.retiring.find? fun r => r.spare == some k with
  | some r => if s.holes then seekSpare r.tile r.from_ s else unback r.tile s
  | none => s

/-- A tile is retired (R213, R214, R215, R231, R233). A move that involves it is cancelled (R383): a granted tile that has
not joined goes back to no region, and a tile that was to be released stays in its region. -/
def retire (k cause : Nat) (s : State) : State :=
  let t := s.tile k
  if t.st == tileSpare then retireSpare k cause s
  else if t.st == tileActive then
    let joined := match t.owner with
      | some n => !((s.stn n).joining.contains k)
      | none => true
    let s := match t.owner with
      | some n => s.setStn n fun x =>
          { x with
            joining := x.joining.filter (· != k), leaving := x.leaving.filter (· != k)
            tiles := if x.leaving.contains k && !x.tiles.contains k then x.tiles ++ [k] else x.tiles }
      | none => s
    let s := s.setTile k fun t =>
      let t := { t with st := tileRetiring, to_ := none, src := none }
      if joined then { t with scrub := false } else { idleTile t with last := t.holder }
    let s := fieldEntry 0 k cause (raise (evTile k) s)
    seekSpare k none s
  else s

/-- The bypass switches the logical column of a retiring tile to its spare (R216 step 5): the spare takes the column, the
owner and the place in the region, and raises SPARE_ACTIVE; the old tile is RETIRED and gated. Bales that have run their stripe jobs on
the old tile keep its name. -/
def switchSpare (r : Retire) (s : State) : State :=
  match r.spare with
  | none => s
  | some j =>
    let old := s.tile r.tile
    let free := old.owner.isNone
    let holes := s.holes
    let s := { s with retiring := s.retiring.filter fun x => x.tile != r.tile }
    let s := s.setTile j fun t =>
      { t with st := if free && holes then tileSpare else tileActive, owner := old.owner, last := old.owner.orElse fun _ => t.last,
               lx := if free && holes then 15 else old.lx, ly := j / 9, gated := free || old.gated, scrub := false, work := none }
    let s := stopBorrow r.tile (s.setTile r.tile fun t =>
      { idleTile t with st := tileRetired, lx := 15, ly := r.tile / 9, last := t.holder })
    let swap := fun (k : Nat) => if k == r.tile then j else k
    let ended := s.stripesEnded
    let s := { s with
      stations := s.stations.map fun (n : Stn) => { n with tiles := n.tiles.map swap }
      bales := s.bales.map fun (b : Bale) => if ended b then b else { b with tiles := b.tiles.map swap } }
    raise (evTile j) s

/-- A stripe job of the bale that is not dispatched yet qualifies for the switch of a retirement (R214, R216, R229): the bale was
admitted at or after the owner's next bale boundary, or it is a re-execution at its first stripe. -/
def Bale.qualifies (b : Bale) (r : Retire) : Bool :=
  (b.reexec != 0 && b.stripes == 0) || match r.from_ with
    | some f => b.kind != 0 || f == b.id || before 32 f b.id
    | none => false

/-- A swap can complete at a dispatch of bale `id`: the spare is ready and zeroed, and every earlier job on the old tile has ended
(R216 step 5, R329, R343). -/
def State.swapReady (s : State) (id : Option Nat) (r : Retire) : Bool :=
  decide (3 ≤ r.step) && (s.tile r.tile).work.isNone && ((r.spare.map fun j => !(s.tile j).scrub).getD false) &&
    !(s.bales.any fun b => some b.id != id && !b.qualifies r && s.placedOn b r.tile)

/-- The quick BIST of a spare ended well (R216 step 3): a logical tile that no station owns switches at once (R218); for a station that
did not hold the spare last the Khan zeroes it (R343). -/
def spareReady (r : Retire) (s : State) : State :=
  let r' := { r with step := 3 }
  let s := { s with retiring := s.retiring.map fun (x : Retire) => if x.tile == r.tile then r' else x }
  match (s.tile r.tile).owner, r.spare with
  | some n, some j => s.setTile j fun t => { t with scrub := t.last != some n }
  | _, _ => switchSpare r' s

/-- A window counter of a tile goes up and retires the tile when it reaches its threshold (R212, R213). -/
def windowEvent (reg w thr cause k : Nat) (s : State) : State :=
  let s := bumpW w reg s
  if thr ≤ s.fget reg (w - 1) 0 then retire k cause s else s

/-- A residue mismatch in a tile (R906). -/
def residueEvent (k : Nat) (s : State) : State :=
  windowEvent (Reg.tileResWin k) 8 (s.fget Reg.meshRetireThr 23 16) 0x06 k s

/-- A corrected SRAM error in a tile (R212). -/
def eccEvent (k : Nat) (s : State) : State :=
  windowEvent (Reg.tileEccWin k) 16 (s.fget Reg.meshRetireThr 15 0) 0x04 k s

/-- A router handshake error of a tile (R212). -/
def routerEvent (k : Nat) (s : State) : State :=
  windowEvent (Reg.tileRtrWin k) 8 (s.fget Reg.meshRetireThr 31 24) 0x08 k s

/-- The steward clears every window of R212. -/
def clearWindows (s : State) : State :=
  (List.range 72).foldl (fun s k =>
    ((s.fset (Reg.tileEccWin k) 15 0 0).fset (Reg.tileResWin k) 7 0 0).fset (Reg.tileRtrWin k) 7 0 0) s

end Sys2Proof.Machine
end

