-- ==== Sys2Proof/Machine/Flash.lean ====
section
/-! DEFINITION. The directory of boot flash (R943). -/

namespace Sys2Proof.Machine

/-- An entry of the directory. -/
structure DirEntry where
  /-- Its place, 0 to 13. -/
  idx : Nat
  /-- TYPE. -/
  type : Nat
  /-- VALID is 0x01. -/
  valid : Bool
  /-- OFFSET. -/
  off : Nat
  /-- LENGTH. -/
  len : Nat
  deriving DecidableEq, Repr

/-- Flash address of entry `i`. -/
def dirAt (i : Nat) : Nat := 16 + 16 * i

/-- MAGIC and CRC-32C of the directory hold. -/
def State.dirOk (s : State) : Bool :=
  s.flashAt 0 4 == [0x48, 0x46, 0x4C, 0x44] && leN (s.flashAt 252 4) == Crypto.crc32c (s.flashAt 0 252)

/-- The entries of a good directory whose region lies in flash at a multiple of 4 KiB. -/
def State.dir (s : State) : List DirEntry :=
  if s.dirOk then
    ((List.range 14).map fun i =>
      let e := s.flashAt (dirAt i) 16
      (⟨i, leAt e 0 1, leAt e 1 1 == 1, leAt e 4 4, leAt e 8 4⟩ : DirEntry)).filter fun e =>
        e.type != 0 && e.off % 4096 == 0 && decide (e.off + e.len ≤ flashLen)
  else []

/-- The first entry of a TYPE, valid or not. -/
def State.dirType? (s : State) (t : Nat) : Option DirEntry := s.dir.find? fun e => e.type == t

/-- The first valid entry of a TYPE. -/
def State.dirFind? (s : State) (t : Nat) : Option DirEntry := s.dir.find? fun e => e.type == t && e.valid

/-- The bytes of an entry's region. -/
def State.image (s : State) (e : DirEntry) : List Byte := s.flashAt e.off e.len

/-- The flash writes that set the VALID byte of an entry and the directory's CRC. -/
def State.setValid (s : State) (i : Nat) (v : Byte) : Writes :=
  let bs := (s.flashAt 0 252).set (dirAt i + 1) v
  [(dirAt i + 1, [v]), (252, leBytes 4 (Crypto.crc32c bs))]

end Sys2Proof.Machine
end

