-- ==== Sys2Proof/Machine/Logbook.lean ====
section
/-! DEFINITION. The logbook, its flash mirror and the calendar (R212, R981 to R1003). -/

namespace Sys2Proof.Machine

/-! ## Counters -/

/-- The calendar (R992). -/
def State.calendar (s : State) : Nat := (s.reg Reg.logCalLo).toNat + (s.reg Reg.logCalHi).toNat * 2 ^ 32

/-- The calendar written. -/
def setCalendar (v : Nat) (s : State) : State := (s.setN Reg.logCalLo (v % 2 ^ 32)).setN Reg.logCalHi (v / 2 ^ 32 % 2 ^ 32)

/-- SERIAL of remote slot `i`. -/
def State.remSerial (s : State) (i : Nat) : Nat :=
  (s.reg (Reg.logRemSerLo i)).toNat + (s.reg (Reg.logRemSerHi i)).toNat * 2 ^ 32

/-- A remote slot starts from 0 under a key. -/
def keySlot (i serial rch : Nat) (s : State) : State :=
  (((s.setN (Reg.logRemSerLo i) (serial % 2 ^ 32)).setN (Reg.logRemSerHi i) (serial / 2 ^ 32)).setN (Reg.logRemLo i) 0).setN
    (Reg.logRemHi i) (rch % 256 * 256)

/-- A cycle in a remote slot. -/
def bumpSlot (i : Nat) (s : State) : State := logBump40 (Reg.logRemLo i) (Reg.logRemHi i) 5 s

/-- A remote valve cycle of the endpoint `serial` on channel `rch` (R983, R984, R1002). -/
def remoteCycle (serial rch : Nat) (s : State) : State :=
  match (List.range 256).find? fun i => s.remSerial i == serial && s.fget (Reg.logRemHi i) 15 8 == rch with
  | some i => bumpSlot i s
  | none =>
    match (List.range 256).find? fun i => s.remSerial i == 0 with
    | some i => bumpSlot i ((keySlot i serial rch s).setN Reg.logRemoteUsed ((s.reg Reg.logRemoteUsed).toNat + 1))
    | none =>
      match (List.range 256).find? fun i =>
          !(((s.dev.map DevBlock.eps).getD []).any fun e => e.serial == s.remSerial i) with
      | some i => bumpSlot i (keySlot i serial rch s)
      | none => logBump 32 Reg.logUnslotted 5 s

/-! ## The image (R986) -/

/-- Bytes 0x000 to 0x1FFB of the logbook image with a given SEQ. -/
def State.logBody (s : State) (seq : Nat) : List Byte :=
  let r := fun (n a : Nat) => leBytes n (s.reg a).toNat
  [0x48, 0x4C, 0x47, 0x42, 0x01, 0x00, 0x00, 0x00] ++ leBytes 4 seq ++ leBytes 4 0 ++ leBytes 8 s.otp.serial ++ leBytes 8 s.calendar
    ++ r 4 Reg.logPoh ++ r 2 Reg.logPohSec ++ leBytes 2 0 ++ r 4 Reg.logThermal ++ r 4 Reg.logMflLoads ++ r 2 Reg.logDefects
    ++ r 2 Reg.logRemoteUsed ++ r 4 Reg.logUnslotted ++ leBytes 8 0
    ++ ((List.range 32).flatMap fun i => r 4 (Reg.logFioLo i) ++ r 1 (Reg.logFioHi i) ++ leBytes 3 0)
    ++ ((List.range 72).flatMap fun k => r 4 (Reg.logTileEcc k)) ++ leBytes 160 0
    ++ ((List.range 256).flatMap fun i =>
        leBytes 8 (s.remSerial i) ++ leBytes 1 (s.fget (Reg.logRemHi i) 15 8) ++ leBytes 2 0 ++ r 4 (Reg.logRemLo i) ++ r 1 (Reg.logRemHi i))
    ++ leBytes 3324 0

/-- The logbook image. -/
def State.logImage (s : State) (seq : Nat) : List Byte :=
  let b := s.logBody seq
  b ++ leBytes 4 (Crypto.crc32c b)

/-! ## The mirror (R987 to R991) -/

/-- The TYPE 6 region: 32 record slots of 8 KiB (R987). -/
def State.mirrorBase? (s : State) : Option Nat :=
  (s.dirFind? 6).bind fun e => if e.len == 0x40000 then some e.off else none

/-- A failed record write (R991). -/
def mirrorFail (s : State) : State := raise 471 (s.setFlag Reg.logMirror 29 true)

/-- A snapshot is taken and its record waits to be written (R988); without a region the write fails. -/
def snapshot (s : State) : State :=
  match s.mirrorBase? with
  | none => mirrorFail s
  | some _ =>
    let seq := (s.reg Reg.logMirrorSeq).toNat + 1 + s.log.writing.length
    { s with log := { s.log with writing := s.log.writing ++ [s.logImage (seq % 2 ^ 32)] } }.setFlag Reg.logMirror 30 true

/-- The oldest record is written into the slot after the one last written (R987). The answer's second part is the flash
write. -/
def mirrorWritten (s : State) : State × Writes :=
  match s.mirrorBase?, s.log.writing with
  | some base, rec_ :: rest =>
    let slot := (s.log.slot + 1) % 32
    let s := (s.setReg Reg.logMirrorSeq (BitVec.ofNat 32 (leAt rec_ 8 4))).setFlag Reg.logMirror 30 (!rest.isEmpty)
    ({ s with log := { s.log with slot := slot, writing := rest } }, [(base + slot * 8192, rec_)])
  | _, _ => (s, [])

/-- The write of the oldest record fails: the slot that it erased holds no record, and the steward goes on to the next one
(R987, R991). -/
def mirrorMissed (s : State) : State × Writes :=
  match s.mirrorBase?, s.log.writing with
  | some base, _ :: _ =>
    let slot := (s.log.slot + 1) % 32
    (mirrorFail { s with log := { s.log with slot := slot } }, [(base + slot * 8192, List.replicate 8192 0xFF)])
  | _, _ => (s, [])

/-- Every record that waits, and a fresh one, are written at once: before a reset (R988). -/
def mirrorNow (s : State) : State × Writes :=
  let s := snapshot s
  s.log.writing.foldl (fun (r : State × Writes) _ =>
    let t := mirrorWritten r.1
    (t.1, r.2 ++ t.2)) (s, [])

/-- SYNC (R988). -/
def execSync (_ini : Nat) (s : State) : Host.Outcome State Fault Refusal := done s (snapshot s.begin_)

/-- MIRROR_INTERVAL (R988): ten minutes of power-on time have passed. -/
def execMirrorInterval (s : State) : Host.Outcome State Fault Refusal := done s (snapshot s.begin_)

/-- MIRROR_WRITE_END (R987, R991). -/
def execMirrorWriteEnd (ok : Bool) (s : State) : Host.Outcome State Fault Refusal :=
  let r := if ok then mirrorWritten s.begin_ else mirrorMissed s.begin_
  doneFlash s r.1 r.2

/-! ## Restoring (R989, R990, R995) -/

/-- The valid records: slot and bytes. -/
def State.records (s : State) : List (Nat × List Byte) :=
  match s.mirrorBase? with
  | none => []
  | some base =>
    ((List.range 32).map fun i => (i, s.flashAt (base + i * 8192) 8192)).filter fun p =>
      p.2.take 4 == [0x48, 0x4C, 0x47, 0x42] && leAt p.2 16 8 == s.otp.serial &&
        leAt p.2 0x1FFC 4 == Crypto.crc32c (p.2.take 0x1FFC)

/-- The record with the highest SEQ (R989). -/
def State.newest? (s : State) : Option (Nat × List Byte) :=
  s.records.foldl (fun (a : Option (Nat × List Byte)) p =>
    match a with
    | none => some p
    | some q => if leAt q.2 8 4 < leAt p.2 8 4 then some p else some q) none

/-- The counters of a record. -/
def restoreFrom (r : List Byte) (s : State) : State :=
  let put := fun (a o n : Nat) (s : State) => s.setN a (leAt r o n)
  let s := put Reg.logPoh 0x20 4 (put Reg.logPohSec 0x24 2 (put Reg.logThermal 0x28 4 (put Reg.logMflLoads 0x2C 4
    (put Reg.logDefects 0x30 2 (put Reg.logRemoteUsed 0x32 2 (put Reg.logUnslotted 0x34 4 (put Reg.logMirrorSeq 8 4 s)))))))
  let s := (List.range 32).foldl (fun (s : State) i =>
    put (Reg.logFioHi i) (0x40 + 8 * i + 4) 1 (put (Reg.logFioLo i) (0x40 + 8 * i) 4 s)) s
  let s := (List.range 72).foldl (fun (s : State) k => put (Reg.logTileEcc k) (0x140 + 4 * k) 4 s) s
  (List.range 256).foldl (fun (s : State) i =>
    let o := 0x300 + 16 * i
    (put (Reg.logRemLo i) (o + 11) 4 (put (Reg.logRemSerHi i) (o + 4) 4 (put (Reg.logRemSerLo i) o 4 s))).setN (Reg.logRemHi i)
      (leAt r (o + 8) 1 * 256 + leAt r (o + 15) 1)) s

/-- Registers of the logbook but for the calendar and what software sets. -/
def logCounter (a : Nat) : Bool :=
  decide (Reg.logPoh ≤ a) && decide (a < Reg.logPoh + 0x10000) && !(decide (Reg.logCalLo ≤ a) && decide (a ≤ Reg.logCalCtrl))

/-- The steward restores the logbook in M1 once main power has returned (R989, R990). A lost calendar resumes from the record
with LOST set and VALID clear (R995, R998). -/
def restoreLog (s : State) : State :=
  if !s.log.fresh then s
  else
    let lost := s.log.vbatLost
    let s : State := { s with
      regs := s.regs.filter fun p => !logCounter p.1
      log := { s.log with fresh := false, vbatLost := false } }
    let s := match s.newest? with
      | some (i, r) =>
        let s := (restoreFrom r s).setFlag Reg.logMirror 31 true
        let s : State := { s with log := { s.log with slot := i } }
        if lost then setCalendar (leAt r 0x18 8) s else s
      | none =>
        let s := raise 470 s
        if lost then setCalendar 0 s else s
    if lost then (s.setFlag Reg.logCalCtrl 10 true).setFlag Reg.logCalCtrl 8 false else s

/-! ## Time and temperature -/

/-- A set of the calendar waits for the next second (R993). -/
def calSet (s : State) : State := { s with log := { s.log with setPend := true } }

/-- CAL_SET (R993): the value applies at the next second. -/
def execCalSet (_ini : Nat) (s : State) : Host.Outcome State Fault Refusal := done s (calSet s.begin_)

/-- CALENDAR_SECOND (R212, R992 to R994, R1001): a pending set applies, else the calendar counts; with main power the second
also counts in POH_SEC, and a change of the hour clears the tile windows. A lost calendar stands still. -/
def execCalendarSecond (s : State) : Host.Outcome State Fault Refusal :=
  let t := s.begin_
  done s <|
    if t.log.vbatLost && !t.log.power then t
    else
      let old := t.calendar
      let t :=
        if t.log.setPend then
          let v := (t.reg Reg.logCalSetLo).toNat + (t.reg Reg.logCalSetHi).toNat * 2 ^ 32
          { (setCalendar v t).setFlag Reg.logCalCtrl 8 true with log := { t.log with setPend := false } }
        else setCalendar (old + 1) t
      if t.log.power then
        let t := t.fset Reg.logPohSec 11 0 (min 3599 (t.fget Reg.logPohSec 11 0 + 1))
        if t.calendar / 3600 != old / 3600 then clearWindows t else t
      else t

/-- POWER_ON_HOUR (R981). -/
def execPowerOnHour (s : State) : Host.Outcome State Fault Refusal :=
  done s (logBump 32 Reg.logPoh 0 (s.begin_.fset Reg.logPohSec 11 0 0))

/-- THERMAL_CYCLE (R982): a swing of 40 °C above the lowest reading counts, and the lowest reading restarts. -/
def execThermalCycle (temp : Int) (s : State) : Host.Outcome State Fault Refusal :=
  let t := s.begin_
  done s <|
    match t.log.low with
    | none => { t with log := { t.log with low := some temp } }
    | some x =>
      if x + 640 ≤ temp then logBump 32 Reg.logThermal 1 { t with log := { t.log with low := some temp } }
      else { t with log := { t.log with low := some (min x temp) } }

end Sys2Proof.Machine
end

