-- ==== Sys2Proof/Machine/Lanes.lean ====
section
/-! DEFINITION. Serial lanes below the 66-bit block: training, taps, power states, the elastic buffer and the test patterns
(R506 to R559). -/

namespace Sys2Proof.Machine

/-! ## Lanes of links -/

/-- The side of a lane: 0 for G0 to G2, 1 for G3 to G5. -/
def laneSide (k : Nat) : Nat := if k < 12 then 0 else 1

/-- The lane reference of a lane is present (R523). -/
def State.lrefOk (s : State) (k : Nat) : Bool := s.lref.getD (laneSide k) false

/-- LANE.STAT.TRAIN. -/
def State.laneTrain (s : State) (k : Nat) : Nat := s.fget (Reg.laneStat k) 6 4
/-- LANE.STAT.PSTATE. -/
def State.lanePower (s : State) (k : Nat) : Nat := s.fget (Reg.laneStat k) 3 2
/-- LANE.STAT.LOCK. -/
def State.laneLock (s : State) (k : Nat) : Bool := s.flag (Reg.laneStat k) 0
/-- LANE_REF of a lane's group; 3 is independent-reference mode. -/
def State.laneIr (s : State) (k : Nat) : Bool := s.fget (Reg.laneGrp (k / 4)) 1 0 == 3

/-- The CTLE and the DFE of a lane start to adapt (R530): what they end in is a value that nothing constrains, one for each such start. -/
def adapts (k : Nat) (ctle dfe : Bool) (s : State) : State :=
  s.setLane k fun x => { x with ctle := x.ctle + b2n ctle, dfe := x.dfe + b2n dfe }

/-- CDR lock that is gained starts the adaptation of what LANE.RXEQ does not freeze (R530). -/
def gainLock (k : Nat) (s : State) : State :=
  if s.laneLock k then s else adapts k (!s.flag (Reg.laneRxeq k) 8) (!s.flag (Reg.laneRxeq k) 9) s

/-- TRAIN, PSTATE, PLL and LOCK of LANE.STAT written together. -/
def laneStat (k train pstate : Nat) (pll lock : Bool) (s : State) : State :=
  (if lock then gainLock k s else s).fset (Reg.laneStat k) 6 0 (train * 16 + pstate * 4 + b2n pll * 2 + b2n lock)

/-- A write to LANE.RXEQ that lifts a freeze while the lane holds CDR lock (R530); `old` is the register before the write. -/
def unfreeze (k old : Nat) (s : State) : State :=
  if s.laneLock k then adapts k (bitAt old 8 && !s.flag (Reg.laneRxeq k) 8) (bitAt old 9 && !s.flag (Reg.laneRxeq k) 9) s else s

/-! ## Taps (R524 to R527, R533 to R537) -/

/-- PRE, MAIN and POST of a LANE.TXFIR word. -/
def taps (w : Nat) : Nat × Nat × Nat := (fld w 3 0, fld w 13 8, fld w 20 16)

/-- The LANE.TXFIR word of PRE, MAIN and POST. -/
def tapWord (pre main post : Nat) : Nat := pre + main * 2 ^ 8 + post * 2 ^ 16

/-- A tap setting is valid (R525). -/
def tapsValid (pre main post : Nat) : Bool := decide (pre + main + post ≤ 63) && decide (pre + post + 10 ≤ main)

/-- Presets P0 to P4 (R527). -/
def preset (p : Nat) : Nat × Nat × Nat :=
  match p with
  | 0 => (0, 63, 0)
  | 1 => (0, 53, 10)
  | 2 => (0, 47, 16)
  | 3 => (4, 47, 12)
  | _ => (6, 41, 16)

/-- One tap after a request: hold, increment, decrement; the reserved code holds (R533). -/
def moveTap (req : Nat) (t : Nat) : Int := if req == 1 then t + 1 else if req == 2 then (t : Int) - 1 else t

/-- What a request makes of the taps in force, with `sum` at the start of training, and the status that answers it (R533 to
R537). A request that would leave a range or break R525 leaves every tap as it is; the taps that it names answer MIN or
MAX. -/
def applyRequest (sum : Nat) (now : Nat × Nat × Nat) (req : Nat) : (Nat × Nat × Nat) × Nat :=
  let p := fld req 6 4
  if 1 ≤ p && p ≤ 5 then (preset (p - 1), 16)
  else if p != 0 then (now, 0)
  else
    let rp := fld req 1 0
    let rq := fld req 3 2
    let pre := moveTap rp now.1
    let post := moveTap rq now.2.2
    let moves := fun (r : Nat) => r == 1 || r == 2
    if !moves rp && !moves rq then (now, 0)
    else
    let preBad := decide (pre < 0) || decide (pre > 15)
    let postBad := decide (post < 0) || decide (post > 31)
    let end_ := fun (r : Nat) => if r == 1 then 3 else if r == 2 then 2 else 0
    if preBad || postBad then (now, (if preBad then end_ rp else 0) + (if postBad then end_ rq else 0) * 4)
    else
      let main := (sum : Int) - pre - post
      if decide (main < 0) || !tapsValid pre.toNat main.toNat post.toNat then (now, end_ rp + end_ rq * 4)
      else ((pre.toNat, main.toNat, post.toNat), b2n (moves rp) + b2n (moves rq) * 4)

/-! ## Training (R538 to R542, R554, R556) -/

/-- The taps in force. -/
def setTapsNow (k : Nat) (t : Nat × Nat × Nat) (s : State) : State := s.setN (Reg.laneTxfirNow k) (tapWord t.1 t.2.1 t.2.2)

/-- Training starts from given taps: the PLL runs, the lane is ACTIVE, and the elastic buffer holds its nominal fill (R519,
R535, R539, R541, R543). Without its reference a lane stays as it is. -/
def trainFrom (k : Nat) (t : Nat × Nat × Nat) (s : State) : State :=
  if s.lrefOk k then
    (setTapsNow k t ((laneStat k 1 1 true false s).fset (Reg.laneStat k) 15 8 8)).setLane k fun x =>
      { x with sum := t.1 + t.2.1 + t.2.2, readyTx := false, readyRx := false }
  else s

/-- Training starts at the value in LANE.TXFIR (R539). -/
def startTraining (k : Nat) (s : State) : State := trainFrom k (taps (s.reg (Reg.laneTxfir k)).toNat) s

/-- A COMMIT of a LANE.TXFIR shadow (R526, R547). A trained Suras lane keeps its taps until the next training (R542). -/
def applyTxfir (k val : Nat) (s : State) : State :=
  let t := taps val
  if tapsValid t.1 t.2.1 t.2.2 then
    let s := s.setN (Reg.laneTxfir k) (tapWord t.1 t.2.1 t.2.2)
    if s.fget (Reg.laneCfg k) 5 4 == 1 then s else setTapsNow k t s
  else s.setFlag (Reg.laneTxfir k) 31 true

/-- A COMMIT while the lane trains waits for the end of training (R554). -/
def commitTxfir (k : Nat) (val : Word) (s : State) : State :=
  if s.laneTrain k == 1 then s.setLane k fun x => { x with commit := some val } else applyTxfir k val.toNat s

/-- A lane goes to IDLE (2) or PARK (3): the driver is in electrical idle, and in PARK the PLL is off (R543). -/
def laneSleep (k st : Nat) (s : State) : State := laneStat k (s.laneTrain k) st (st == 2) false s

/-- A lane that is told to sleep while it trains finishes training first (R556). -/
def askSleep (k st : Nat) (s : State) : State :=
  if s.laneTrain k == 1 then s.setLane k fun x => { x with after := some st } else laneSleep k st s

/-- Training ends: what waited for its end takes place (R554, R556). `st` is 2 for done, 3 for failed. -/
def endTraining (k st : Nat) (s : State) : State :=
  let x := s.lane k
  let s := laneStat k st 1 true (st == 2) (s.setLane k fun x => { x with commit := none, after := none })
  let s := match x.commit with
    | some w => applyTxfir k w.toNat s
    | none => s
  match x.after with
  | some p => laneSleep k p s
  | none => s

/-- READY has gone both ways. -/
def readyBoth (k : Nat) (s : State) : State :=
  if (s.lane k).readyTx && (s.lane k).readyRx then endTraining k 2 s else s

/-- The type under which a control block stands in `out`: 0x100 above its block type (R571). -/
def blockType (t : Nat) : Nat := 0x100 + t

/-- A TRAIN block goes out on a lane with a request and a status (R571). -/
def sendTrain (k request status : Nat) (s : State) : State :=
  let index := ((s.laneLink k).map fun l => k - (s.linkLanes l).headD 0).getD 0
  laneBlock k (trainBlock request status index (s.laneLock k)) { s with out := [(k, blockType 0x2D, 0, [request, status])] }

/-- TRAIN (R533 to R538, R555): the status of the far transmitter is recorded, the request is applied and answered. -/
def execTrain (lane request status : Nat) (_locked : Bool) (s : State) : Host.Outcome State Fault Refusal :=
  let t := s.begin_
  done s <|
    if t.laneTrain lane == 1 then
      let r := applyRequest (t.lane lane).sum (taps (t.reg (Reg.laneTxfirNow lane)).toNat) request
      let t := (setTapsNow lane r.1 t).fset (Reg.laneBc lane) 31 16 status
      let t := (gainLock lane t).setFlag (Reg.laneStat lane) 0 true
      let t := t.setLane lane fun x => { x with readyRx := x.readyRx || bitAt request 7 }
      readyBoth lane (sendTrain lane (t.fget (Reg.laneBc lane) 15 0) r.2 t)
    else t

/-- BACK_CHANNEL_REQUEST (R533, R540). -/
def execBackChannelRequest (lane request : Nat) (s : State) : Host.Outcome State Fault Refusal :=
  let t := s.begin_
  done s <|
    if t.laneTrain lane == 1 then
      let t := t.fset (Reg.laneBc lane) 15 0 request
      let t := t.setLane lane fun x => { x with readyTx := x.readyTx || bitAt request 7 }
      readyBoth lane (sendTrain lane request 0 t)
    else t

/-- LANE_TRAIN_FAIL (R541). -/
def execLaneTrainFail (lane : Nat) (s : State) : Host.Outcome State Fault Refusal :=
  let t := s.begin_
  done s <|
    if t.laneTrain lane == 1 then raise (evLane lane) (bump (Reg.laneTrainFail lane) (endTraining lane 3 t)) else t

/-- TRAIN_RETRY (R541): training starts again at the next preset of the cycle. -/
def execTrainRetry (lane : Nat) (s : State) : Host.Outcome State Fault Refusal :=
  let t := s.begin_
  done s <|
    if t.laneTrain lane == 3 then
      trainFrom lane (preset (t.lane lane).preset) (t.setLane lane fun x => { x with preset := (x.preset + 1) % 5 })
    else t

/-! ## SKIP blocks and the elastic buffer (R516 to R521, R552, R553) -/

/-- The lanes that move together with a lane: all lanes of its link (R518, R519). -/
def State.lanesWith (s : State) (k : Nat) : List Nat :=
  match s.laneLink k with
  | some l => s.linkLanes l
  | none => [k]

/-- A lane of a Suras link (R516, R546). -/
def State.surasLane (s : State) (k : Nat) : Bool := s.fget (Reg.laneCfg k) 5 4 == 1

/-- SKIP_SEND (R516, R518): in IR mode a SKIP block goes out on every lane of the link. An Ethernet lane never sends one (R546). -/
def execSkipSend (lane : Nat) (s : State) : Host.Outcome State Fault Refusal :=
  let t := s.begin_
  done s <|
    if t.laneIr lane && t.surasLane lane && t.lanePower lane == 1 then
      let ks := t.lanesWith lane
      ks.foldl (fun t k => laneSkip k t) { t with out := ks.map fun k => (k, blockType 0xE1, 0, []) }
    else t

/-- LANE.STAT.EB_FILL. -/
def State.ebFill (s : State) (k : Nat) : Nat := s.fget (Reg.laneStat k) 15 8

/-- SKIP_RECEIVE (R519, R520): the fill decides whether the block is deleted, repeated or passed, on all lanes of the link
together; in CR mode it is discarded. -/
def execSkipReceive (lane : Nat) (s : State) : Host.Outcome State Fault Refusal :=
  let t := s.begin_
  let f := t.ebFill lane
  done s <|
    if !t.laneIr lane || !t.surasLane lane then t
    else if 10 < f then
      (t.lanesWith lane).foldl (fun (t : State) k => bump (Reg.laneSkipDel k) (t.fset (Reg.laneStat k) 15 8 (t.ebFill k - 1))) t
    else if f < 6 then
      (t.lanesWith lane).foldl (fun (t : State) k => bump (Reg.laneSkipIns k) (t.fset (Reg.laneStat k) 15 8 (t.ebFill k + 1))) t
    else t

/-- EB_SLIP (R521, R553): a full buffer drops one data block, an empty one repeats one. -/
def execEbSlip (lane : Nat) (full : Bool) (s : State) : Host.Outcome State Fault Refusal :=
  done s (raise (evLane lane) (bump (Reg.laneEbSlip lane) (s.begin_.fset (Reg.laneStat lane) 15 8 (if full then 15 else 1))))

/-! ## Errors and measurements -/

/-- BAD_CONTROL_BLOCK (R572). -/
def execBadControlBlock (lane : Nat) (s : State) : Host.Outcome State Fault Refusal :=
  done s (bump (Reg.laneCodeErr lane) s.begin_)

/-- LANE_EYE_UPDATE (R532). -/
def execLaneEyeUpdate (lane height width : Nat) (s : State) : Host.Outcome State Fault Refusal :=
  let t := s.begin_
  done s (if t.laneLock lane then (t.fset (Reg.laneEye lane) 7 0 height).fset (Reg.laneEye lane) 23 16 width else t)

/-- PRBS_BIT_ERROR (R549): counted while the checker checks a pattern. -/
def execPrbsBitError (lane : Nat) (s : State) : Host.Outcome State Fault Refusal :=
  let t := s.begin_
  done s (if t.flag (Reg.lanePrbs lane) 3 && t.fget (Reg.lanePrbs lane) 1 0 != 0 then bump (Reg.lanePrbsErr lane) t else t)

end Sys2Proof.Machine
end

