-- ==== Sys2Proof/Machine/Khan.lean ====
section
/-! DEFINITION. The Khan: grants, regions, pages, job slots and the placement loop (R336 to R388). -/

namespace Sys2Proof.Machine

/-! ## Sizes of a region (R345 to R350) -/

/-- `n` model tiles are a size of R345 for a partition of `p` slots. -/
def sizeOk (p n : Nat) : Bool :=
  n != 0 && (n % max p 1 == 0 || (List.range (p + 1)).any fun f => 2 ≤ f && ceilDiv p f == n)

/-- The largest size of R345 that does not exceed `n` (R385). -/
def bestSize (p n : Nat) : Nat := ((List.range (n + 1)).reverse.find? (sizeOk p)).getD 0

/-- The next larger size that does not exceed `top` (R369). -/
def nextUp (p n top : Nat) : Option Nat := (List.range (top + 1)).find? fun m => n < m && sizeOk p m

/-- The next smaller size that is not below `low` (R370). -/
def nextDown (p n low : Nat) : Option Nat := (List.range n).reverse.find? fun m => low ≤ m && sizeOk p m

/-- Instances I of `n` model tiles; 1 under a fold (R345). -/
def instCount (p n : Nat) : Nat := if n != 0 && n % max p 1 == 0 then n / max p 1 else if n == 0 then 0 else 1

/-- Fold F of `n` model tiles: the slots that a tile runs in turn, 1 when unfolded (R345, R347). -/
def foldOf (p n : Nat) : Nat := if n == 0 then 0 else if n % max p 1 == 0 then 1 else ceilDiv p n

/-- Slots of a block's partition. -/
def StnBlock.slots (b : StnBlock) : Nat := b.partW * b.partH

/-- Slots of a station's active partition; 1 without an active block. -/
def State.slotsOf (s : State) (n : Nat) : Nat := ((s.active? n).map StnBlock.slots).getD 1

/-- The model tiles in use of a region (R340, R345). -/
def State.modelTiles (s : State) (n : Nat) : List Nat := ((s.stn n).tiles.drop (s.stn n).decTiles).take (s.stn n).n

/-- The tiles of instance `k`, in slot order: those of the whole region under a fold (R345 to R347). -/
def State.instTiles (s : State) (n k : Nat) : List Nat :=
  let p := s.slotsOf n
  let ts := s.modelTiles n
  if ts.length % max p 1 == 0 then (ts.drop (k * p)).take p else ts

/-- The physical tile that runs slot `slot` of a bale (R346, R347). -/
def Bale.tileOf (b : Bale) (slot : Nat) : Option Nat := b.tiles[slot % max b.tiles.length 1]?

/-- Pages that the Khan grants each model tile (R350). -/
def State.pagesPerTile (s : State) (n : Nat) : Nat :=
  match s.active? n with
  | some b => min 96 (foldOf b.slots (s.stn n).n * ceilDiv b.pages (max b.slots 1))
  | none => 0

/-! ## Job slots (R355 to R361) -/

/-- In-line decoders of a block. -/
def StnBlock.inlineDecs (b : StnBlock) : List (Nat × DecDecl) := (indexed b.decs).filter fun d => !d.2.interactive

/-- Slots that a bale of a block takes (R355). -/
def StnBlock.baleSlots (b : StnBlock) : Nat := 1 + b.inlineDecs.length

/-- Slots that a station has reserved: those of its bales and of its interactive sequences (R355, R360). -/
def State.slotsReserved (s : State) (n : Nat) : Nat :=
  sumN ((s.bales.filter fun b => b.stn == n).map fun b => ((s.blockOf b).map StnBlock.baleSlots).getD 1) +
    (s.decs.filter fun d => d.1.1 == n && d.2.interactive).length

/-- A station's MAX_JOBS. -/
def State.maxJobs (s : State) (n : Nat) : Nat := ((s.env? n).map Env.maxJobs).getD 0

/-- Jobs queued for a station: in the queue and not dispatched (R359). -/
def State.queued (s : State) (n : Nat) : List Job := s.jobs.filter fun j => j.stn == n && !j.running

/-- A job enters the queue (R359). -/
def enqueue (j : Job) (s : State) : State := { s with jobs := s.jobs ++ [j] }

/-- Deadline order of two jobs of one station (R363): live bales by P_dead against the reference, jobs without a deadline
last; then the earlier admitted bale, then stripe before tree before decode. -/
def jobRank : JobKind → Nat
  | .stripe => 0
  | .tree => 1
  | .decode => 2
  | .explain => 3

/-- P_dead of a job's bale, none for a job without a deadline (R134, R362, R493). -/
def State.deadline (s : State) (j : Job) : Option Nat :=
  if j.kind == .explain then none
  else match s.bale? j.bale with
    | some b => if b.kind == 0 then some b.pDead else none
    | none => none

/-- Job `x` is dispatched before job `y` of the same station (R363, R493). -/
def State.jobBefore (s : State) (x y : Job) : Bool :=
  let place := fun (j : Job) => (s.bales.findIdx? fun b => b.id == j.bale).getD s.bales.length
  let tie := place x < place y || (place x == place y && jobRank x.kind ≤ jobRank y.kind)
  match s.deadline x, s.deadline y with
  | some a, some b => if a == b then tie else before 48 a b
  | some _, none => true
  | none, some _ => false
  | none, none => tie

/-- A station's queued jobs in the order of R363. -/
def State.byDeadline (s : State) (js : List Job) : List Job := sortBy s.jobBefore js

/-! ## Holdings -/

/-- Guaranteed tiles of a station (R336). -/
def State.guarOf (s : State) (n : Nat) : Nat := ((s.env? n).map Env.guar).getD 0

/-- The tile backs a logical tile; an UNBACKED logical tile's does not (R226). -/
def State.backed (s : State) (k : Nat) : Bool :=
  (s.tile k).lx < 15 && ((s.tile k).st == tileActive || (s.tile k).st == tileRetiring)

/-- Tiles that a station holds, but for UNBACKED ones and those that it is to release. -/
def State.effHeld (s : State) (n : Nat) : Nat :=
  ((s.stn n).tiles.filter fun k => s.backed k && !(s.stn n).leaving.contains k).length + (s.stn n).joining.length

/-- Bales of a station that hold reservations. -/
def State.balesOf (s : State) (n : Nat) : List Bale := s.bales.filter fun b => b.stn == n

/-- The station has an admitted bale in flight (R374, R375). -/
def State.inFlight (s : State) (n : Nat) : Bool := s.bales.any fun b => b.stn == n

/-- A move of tile `k` completes: to a station, or to the free pool (R378). -/
def khanMoved (dst src : Option Nat) (k : Nat) (s : State) : State :=
  raise 466 (s.setN Reg.khanLastMove
    (2 ^ 31 + dst.getD 0 % 16 * 2 ^ 24 + (if dst.isNone then 2 ^ 23 else 0) + src.getD 0 % 16 * 2 ^ 16
      + (if src.isNone then 2 ^ 15 else 0) + k % 128))

/-- Tiles that a station owns and that its region, the stripe jobs of its bales and its running jobs no longer need leave it (R343,
R344, R373): to the free pool, or to the station for which the Khan has taken them (R372). An UNBACKED tile is RETIRED once its jobs
have ended (R226), and a retiring one whose spare is ready switches (R218). -/
def sweepTiles (n : Nat) (s : State) : State :=
  (List.range 72).foldl (fun s k =>
    let s := if (s.tile k).owner == some n then settleUnbacked k s else s
    let t := s.tile k
    if t.owner == some n && t.work.isNone && !(s.stn n).tiles.contains k && !(s.stn n).joining.contains k &&
        !((s.balesOf n).any fun b => s.placedOn b k) then
      let s := freeTile k s
      let s := match s.retiring.find? fun r => r.tile == k && 3 ≤ r.step with
        | some r => switchSpare r s
        | none => s
      if (s.stn n).leaving.contains k then
        let s := s.setStn n fun x => { x with leaving := x.leaving.filter (· != k) }
        if t.to_.isNone then khanMoved none (some n) k s else s.setTile k fun t => { t with src := some n }
      else s
    else s) s

/-- Model tiles beyond N are held gated and idle, once the stripe jobs on them have ended; the others run (R345, R385). -/
def gateSurplus (n : Nat) (s : State) : State :=
  let st := s.stn n
  (indexed st.tiles).foldl (fun (s : State) p =>
    if s.backed p.2 then
      s.setTile p.2 (gateTile (decide (st.decTiles + st.n ≤ p.1) && (s.tile p.2).work.isNone &&
        !((s.balesOf n).any fun b => s.placedOn b p.2)))
    else s) s

/-- N follows the tiles of the region (R345, R385). -/
def reshape (n : Nat) (s : State) : State :=
  let p := s.slotsOf n
  gateSurplus n (s.setStn n fun t => { t with n := bestSize p (t.tiles.length - t.decTiles) })

/-- The region changes that wait: released tiles leave, granted tiles join, and at a bale boundary UNBACKED tiles leave too (R227, R373,
R375). A bale that runs already keeps its tiles (R329). -/
def regionChange (n : Nat) (boundary : Bool) (s : State) : State :=
  let st := s.stn n
  let keep := st.tiles.filter fun k => (!boundary || s.backed k) && !st.leaving.contains k
  let s := s.setStn n fun t => { t with tiles := keep ++ st.joining, joining := [] }
  let s := st.joining.foldl (fun (s : State) k =>
    (khanMoved (some n) (s.tile k).src k s).setTile k fun t => { t with src := none }) s
  sweepTiles n (reshape n s)

/-- The region changes of a bale boundary. -/
def regionBoundary (n : Nat) (s : State) : State := regionChange n true s

/-- Releases and grants take place at once while the station has no admitted bale in flight (R374, R375). -/
def regionSettle (n : Nat) (s : State) : State := if s.inFlight n then s else regionChange n false s

/-- A station gives up one tile, for station `dest` or to the free pool: a granted tile that has not joined goes at once, another tile
of the end of the region at the next bale boundary (R373, R374). -/
def giveTile (n : Nat) (dest : Option Nat) (s : State) : State :=
  let s := s.setStn n fun t => { t with moved := true }
  let st := s.stn n
  match st.joining.getLast? with
  | some k =>
    (freeTile k (s.setStn n fun t => { t with joining := t.joining.filter (· != k) })).setTile k fun t =>
      { t with to_ := dest, src := if dest.isNone then none else some n }
  | none =>
    match (st.tiles.filter fun k => s.backed k && (s.tile k).st == tileActive && !st.leaving.contains k).getLast? with
    | some k => regionSettle n ((s.setTile k fun t => { t with to_ := dest }).setStn n fun t => { t with leaving := t.leaving ++ [k] })
    | none => s

/-- Held tiles / SHARE_TILE of one station exceed those of another. -/
def State.loadAbove (s : State) (a b : Nat) : Bool :=
  let share := fun n => ((s.env? n).map Env.shareTile).getD 1
  decide (s.effHeld a * share b > s.effHeld b * share a)

/-- What a station may keep against R372: its guarantee, which only a normal envelope has a claim to (R337). -/
def State.keeps (s : State) (n : Nat) : Nat := ((s.env? n).map fun e => if e.shadow then 0 else e.guar).getD 0

/-- The station from which the Khan takes a tile under R372: the largest held tiles / SHARE_TILE among those above their
guarantee. -/
def State.surplusStn (s : State) (n : Nat) : Option Nat :=
  ((List.range 16).filter fun v => v != n && decide (s.effHeld v > s.keeps v)).foldl (fun (a : Option Nat) v =>
    match a with
    | none => some v
    | some b => if s.loadAbove v b then some v else some b) none

/-- Tile loss has dropped the capacity below the sum of G (R384). -/
def State.tileLoss (s : State) : Bool := decide (s.capacity < sumN ((s.envs.filter fun e => !e.shadow).map Env.guar))

/-- The station from which the Khan takes a tile under R384, `n` itself included: the lowest FLOOR, then the highest
index. -/
def State.floorStn (s : State) (n : Nat) : Nat :=
  let floor := fun v => ((s.env? v).map Env.floor).getD 0
  ((List.range 16).filter fun v => v == n || s.effHeld v != 0).foldl (fun a v => if floor v ≤ floor a then v else a) n

/-- The tiles that station `n` could be granted now, in row-major order. -/
def State.tilesFor (s : State) (n : Nat) : List Nat :=
  sortBy (fun a b => decide (s.place a ≤ s.place b)) ((List.range 72).filter (s.freeFor n))

/-- Tiles that will come free, or come to station `n`, once they have left their holders. -/
def State.coming (s : State) (n : Nat) : Nat :=
  sumN (s.stations.map fun t => (t.leaving.filter fun k => (s.tile k).to_.isNone || (s.tile k).to_ == some n).length)

/-- The Khan finds `want` tiles for station `n` among free tiles and, under R372 and R384, tiles of other stations. The answer is
how many it can grant, and the state in which those of other stations are given up. -/
def secure (n : Nat) : Nat → Nat → State → Nat × State
  | 0, want, s => (want, s)
  | fuel + 1, want, s =>
    if want ≤ (s.tilesFor n).length + s.coming n then (want, s)
    else match s.surplusStn n with
      | some v => secure n fuel want (giveTile v (some n) s)
      | none =>
        let v := if s.tileLoss then s.floorStn n else n
        if v == n then secure n fuel (want - 1) s else secure n fuel want (giveTile v (some n) s)

/-- How many tiles a station would hold if it were granted its guarantee now (R339, R384, R759). -/
def State.claim (s : State) (n : Nat) : Nat := s.effHeld n + (secure n 200 (s.guarOf n - s.effHeld n) s).1

/-- The tiles that make a grant of `k`: those that go on the region's run in row-major order, else the first run of consecutive places,
else the first `k` free tiles (R344). -/
def State.pickTiles (s : State) (n k : Nat) : List Nat :=
  let fs := s.tilesFor n
  let on := match ((s.stn n).tiles ++ (s.stn n).joining).getLast? with
    | some e => fs.filter fun x => decide (s.place e < s.place x) && decide (s.place x ≤ s.place e + k)
    | none => []
  let runs := (List.range (fs.length + 1 - k)).map fun i => (fs.drop i).take k
  if on.length == k then on
  else (runs.find? fun r => match r.head?, r.getLast? with
    | some a, some b => s.place b == s.place a + k - 1
    | _, _ => false).getD (fs.take k)

/-- Tiles that were taken for a station and that it does not get any more go to the free pool (R378, R388). -/
def dropTaken (n : Nat) (s : State) : State :=
  (List.range 72).foldl (fun (s : State) k =>
    let t := s.tile k
    if t.to_ == some n then
      let s := s.setTile k fun t => { t with to_ := none, src := none }
      if t.owner.isNone && t.src.isSome then khanMoved none t.src k s else s
    else s) s

/-- Tiles are granted to a station and wait to join its region. -/
def grantJoin (n : Nat) (ks : List Nat) (s : State) : State :=
  let base := (s.stn n).tiles.length + (s.stn n).joining.length
  let s := dropTaken n ((indexed ks).foldl (fun s p => grantTile n (base + p.1) p.2 s) s)
  regionSettle n (s.setStn n fun t => { t with joining := t.joining ++ ks, moved := true })

/-- The region of a station that holds no tile (R339, R340). A tile taken from another station has moved (R378). -/
def grantRegion (n k : Nat) (s : State) : State :=
  let ks := s.pickTiles n k
  let s := (indexed ks).foldl (fun (s : State) p =>
    let v := (s.tile p.2).src
    let s := (grantTile n p.1 p.2 s).setTile p.2 fun t => { t with src := none }
    if v.isSome then khanMoved (some n) v p.2 s else s) s
  reshape n ((dropTaken n s).setStn n fun t =>
    { t with tiles := ks, decTiles := min (((s.active? n).map StnBlock.decTiles).getD 0) ks.length, joining := [], leaving := [],
             sinceGrowth := none })

/-- A grant of `k` tiles, whole. -/
def grantTiles (n k : Nat) (s : State) : State :=
  if k == 0 then s
  else if (s.stn n).tiles.isEmpty && (s.stn n).joining.isEmpty then grantRegion n k s
  else grantJoin n (s.pickTiles n k) s

/-- A station that has less than its guarantee gets tiles back (R227, R372, R384): all of them at once, when those that leave other
stations have left (R341). -/
def restore (n : Nat) (s : State) : State :=
  let need := s.guarOf n - s.effHeld n
  if need == 0 then s
  else
    let r := secure n 200 need s
    if r.1 ≤ (r.2.tilesFor n).length then grantTiles n r.1 r.2 else r.2

/-- Every armed station that has less than its guarantee gets tiles back, as after the loss of a tile (R227, R339, R372,
R384). -/
def restoreAll (s : State) : State := (List.range 16).foldl (fun s n => if s.armed n then restore n s else s) s

/-- Tiles that a station's jobs no longer need leave it, and stations that wait for them get them. -/
def settleTiles (n : Nat) (s : State) : State := restoreAll (sweepTiles n s)

/-- The tiles of a station, those that join at its next bale boundary among them, suffice for TILES_MIN and for a model tile
(R228). -/
def State.tilesOk (s : State) (n : Nat) : Bool :=
  decide (((s.env? n).map Env.tilesMin).getD 0 ≤ s.effHeld n) && decide ((s.stn n).decTiles < s.effHeld n)

/-- Grants that a station waits for are cancelled (R388). -/
def cancelGrants (n : Nat) (s : State) : State :=
  let ks := (s.stn n).joining
  dropTaken n (ks.foldl (fun (s : State) k => (freeTile k s).setTile k fun t => { t with src := none })
    (s.setStn n fun t => { t with joining := [] }))

/-- A disarmed station without a bale that holds reservations releases its tiles (R339, R388). -/
def releaseRegion (n : Nat) (s : State) : State :=
  if s.armed n || s.inFlight n || ((s.stn n).tiles.isEmpty && (s.stn n).joining.isEmpty) then s
  else sweepTiles n (s.setStn n fun t =>
    { t with tiles := [], joining := [], leaving := [], decTiles := 0, n := 0, sinceGrowth := none, idleWindows := 0 })

/-- The Khan brings a station that is to be armed up to its guarantee, if it can (R339): while tiles of other stations have still to
leave them, the grant waits. The answer says whether the grant is made. -/
def obtainRegion (n : Nat) (s : State) : State × Bool :=
  let r := secure n 200 (s.guarOf n - s.effHeld n) s
  if s.effHeld n + r.1 < max 1 (((s.env? n).map Env.tilesMin).getD 0) then (s, false)
  else if r.1 ≤ (r.2.tilesFor n).length then (grantTiles n r.1 r.2, true)
  else (r.2, false)

/-- A station that is not armed gets a region for its shadow copies and replays from free tiles alone (R371, R372): as many as its
guarantee. -/
def workRegion (n : Nat) (s : State) : State × Bool :=
  if !(s.stn n).tiles.isEmpty then (s, true)
  else if s.guarOf n == 0 || (s.tilesFor n).length < s.guarOf n then (s, false)
  else (grantRegion n (s.guarOf n) s, true)

/-- TRIG_EN changes from 0 to 1: the high-water mark of a station that was not armed starts at the reference (R670), and
TSEQ at 0 (R796), so that no TAG of its groups has ended. -/
def becomeArmed (n : Nat) (s : State) : State :=
  let s := if s.armed n then s
    else (s.setRef n fun r => { r with hwm := r.pos }).setStn n fun t => { t with rev := false }
  let s := (s.setReg (Reg.convoyTseq n) 0).setStn n fun t => { t with want := false, trigEn := true }
  (((s.dev.map DevBlock.groups).getD []).filter fun d => d.stn == n).foldl (fun (s : State) d =>
    s.setGroup d.group fun g => { g with ended := [] }) s

/-- The Khan grants a station its tiles, and the station becomes armed (R339). -/
def armGrant (n : Nat) (s : State) : State :=
  if (s.stn n).want then
    let r := obtainRegion n s
    if r.2 then becomeArmed n r.1 else r.1
  else s

/-- ARM_GRANT (R339, R340, R343, R344, R759). -/
def execArmGrant (stn : Nat) (s : State) : Host.Outcome State Fault Refusal := done s (armGrant stn s.begin_)

/-- TILE_SCRUB_END (R343): the tile's SRAM and halo store hold zero. -/
def execTileScrubEnd (tile : Nat) (s : State) : Host.Outcome State Fault Refusal :=
  if (s.tile tile).scrub then
    finish {} s (s.begin_.setTile tile fun t => { t with scrub := false }) [] [] [] [(tile * 0x200000, 0x1A0000)]
  else done s s.begin_

/-! ## The placement loop (R368 to R378) -/

/-- The loop may move a station's region (R377), and no move has been made of it in this window (R376). -/
def State.mayMove (s : State) (n : Nat) : Bool :=
  s.armed n && s.flag Reg.khanCtrl 0 && !s.flag (Reg.khanStnCfg n) 0 && !(s.stn n).moved

/-- Model tiles that a station holds or is granted. -/
def State.modelHeld (s : State) (n : Nat) : Nat := s.effHeld n - (s.stn n).decTiles

/-- Tiles that a station needs to grow to its next size, if its ratio asks for it (R369). -/
def State.growth (s : State) (busy : List Nat) (n : Nat) : Option Nat :=
  if s.mayMove n && busy.getD n 0 > s.fget Reg.khanPlaceCfg 31 24 * 10 && (s.stn n).joining.isEmpty then
    (nextUp (s.slotsOf n) (s.stn n).n (((s.env? n).map Env.tilesMax).getD 0 - (s.stn n).decTiles)).map fun m => m - s.modelHeld n
  else none

/-- A station that shrinks at this window: the model tiles that it gives up to hold its next smaller size (R370, R376). -/
def State.shrinkBy (s : State) (busy : List Nat) (n : Nat) : Option Nat :=
  let st := s.stn n
  let fresh := match st.sinceGrowth with | some w => decide (w ≤ 4) | none => false
  if s.mayMove n && busy.getD n 0 < s.fget Reg.khanPlaceCfg 23 16 * 10 && !fresh && st.leaving.isEmpty then
    (nextDown (s.slotsOf n) st.n (s.guarOf n - st.decTiles)).map fun m => s.modelHeld n - m
  else none

/-- Growth requests in the order in which the Khan serves them (R371). -/
def State.growers (s : State) (busy : List Nat) : List (Nat × Nat) :=
  sortBy (fun a b => !s.loadAbove a.1 b.1) ((List.range 16).filterMap fun n => (s.growth busy n).map fun k => (n, k))

/-- A growth request is served whole from free tiles, or not at all (R371). -/
def serveGrowth (n k : Nat) (s : State) : State :=
  if k ≤ (s.tilesFor n).length then
    (if k == 0 then s else grantJoin n (s.pickTiles n k) s).setStn n fun t => { t with sinceGrowth := some 0, moved := true }
  else s

/-- The end of a placement window (R368 to R377): ratios are reported, guarantees restored, growth served from free tiles
and shrinking stations marked. Ratios are in per mille. -/
def placeWindow (busy bw : List Nat) (s : State) : State :=
  let s := (List.range 16).foldl (fun (s : State) n =>
    if s.armed n then
      (s.setN (Reg.khanStnBusy n) (min 1023 (bw.getD n 0) * 65536 + min 1023 (busy.getD n 0))).setStn n fun t =>
        { t with sinceGrowth := t.sinceGrowth.map (· + 1) }
    else s) s
  let s := restoreAll s
  let s := (s.growers busy).foldl (fun s p => serveGrowth p.1 p.2 s) s
  let s := ((List.range 16).filterMap fun n => (s.shrinkBy busy n).map fun k => (n, k)).foldl (fun s p =>
    (List.range p.2).foldl (fun s _ => giveTile p.1 none s) s) s
  { s with stations := s.stations.map fun (t : Stn) => { t with moved := false } }

end Sys2Proof.Machine
end

