-- ==== Sys2Proof/Machine/Layers.lean ====
section
/-! DEFINITION. Layers as pure functions: output sizes (R282), the rows of each stripe job (R294, R297), the values of
each operation (R252 to R261, R288 to R309, R1091, R1092), output conversion (R262 to R268, R1084, R1087), spill
compression (R313 to R317) and seals (R318 to R321). -/

namespace Sys2Proof.Machine

/-- A pixel: one element code for each channel. -/
abbrev Pixel := List Nat
/-- A tensor row. -/
abbrev Row := List Pixel

/-- The size of a tensor over the whole bale, its format, and its cumulative strides (0 for one pixel). -/
structure Shape where
  /-- Rows. -/
  rows : Nat
  /-- Columns. -/
  width : Nat
  /-- Channels. -/
  chans : Nat
  /-- Stored format. -/
  fmt : Fmt
  /-- Cumulative vertical stride. -/
  cy : Nat
  /-- Cumulative horizontal stride. -/
  cx : Nat
  deriving DecidableEq, Repr

/-- One output dimension of a window (R282). -/
def outDim (n k d s p0 p1 : Nat) : Nat :=
  if n + p0 + p1 < (k - 1) * d + 1 then 0 else (n + p0 + p1 - ((k - 1) * d + 1)) / s + 1

/-- The operation takes a window (R282). -/
def LOp.windowed : LOp → Bool
  | .conv | .depthwise | .maxpool | .avgpool => true
  | _ => false

/-- The shape of a source: the stripe input, or an earlier layer. -/
def srcShape (inS : Shape) (prev : List Shape) : Option Nat → Shape
  | none => inS
  | some i => prev.getD i inS

/-- The tensor is one pixel over the whole bale. -/
def Shape.onePixel (s : Shape) : Bool := s.rows * s.width == 1

/-- The output shape of a layer (R282). A layer whose source is one pixel has no stride. -/
def layerShape (inS : Shape) (prev : List Shape) (l : Layer) : Shape :=
  let s := srcShape inS prev l.src0
  let f := if l.op == .s2d then l.regroup else 1
  let cy := if s.onePixel then 0 else s.cy * l.sy * f
  let cx := if s.onePixel then 0 else s.cx * l.sx * f
  match l.op with
  | .fc | .gmax | .gavg => ⟨1, 1, l.cOut, l.fmtOut, cy, cx⟩
  | .add | .mul | .norm => ⟨s.rows, l.wIn, l.cOut, l.fmtOut, cy, cx⟩
  | .s2d => ⟨ceilDiv s.rows l.regroup, l.wIn / l.regroup, l.cOut, l.fmtOut, cy, cx⟩
  | .d2s => ⟨s.rows * l.regroup, l.wIn * l.regroup, l.cOut, l.fmtOut, cy, cx⟩
  | _ => ⟨outDim s.rows l.kh l.dy l.sy l.padT l.padB, outDim l.wIn l.kw l.dx l.sx l.padL l.padR, l.cOut, l.fmtOut, cy, cx⟩

/-- The output shapes of all layers, in index order. -/
def layerShapes (inS : Shape) (ls : List Layer) : List Shape :=
  ls.foldl (fun acc l => acc ++ [layerShape inS acc l]) []

/-- Read-ahead A of a layer with SRC0 0xFFFF (R287). -/
def readAhead (l : Layer) : Nat := if l.src0 == none then (l.kh - 1) * l.dy - l.padT else 0

/-- Input rows that a layer carries between stripe jobs (R295). -/
def carriedRows (l : Layer) : Nat := (l.kh - 1) * l.dy - readAhead l

/-- LOOKAHEAD in lines (R287). -/
def lookahead (ls : List Layer) (s2d : Nat) : Nat := maxN (ls.map readAhead) * s2d

/-- Rows of one layer's output that exist after a stripe job, from the rows `n` of its source then present (R294, R297);
`direct` is SRC0 0xFFFF, whose read-ahead brings every window of the stripe's own rows (R287). A layer whose source is one pixel over
the bale (`one`) runs in the last job (R292). -/
def rowsAfter (l : Layer) (total n : Nat) (direct one last : Bool) : Nat :=
  if last then total
  else if one then 0
  else min total <|
    match l.op with
    | .fc | .gmax | .gavg => 0
    | .add | .mul | .norm => n
    | .s2d => n / l.regroup
    | .d2s => n * l.regroup
    | _ =>
      if direct then ceilDiv n l.sy
      else if n == 0 || n + l.padT < (l.kh - 1) * l.dy + 1 then 0
      else (n + l.padT - ((l.kh - 1) * l.dy + 1)) / l.sy + 1

/-- Rows present after a stripe job: of each layer in index order, where the stripe input then has `inRows` rows. -/
def rowsPresent (ls : List Layer) (inS : Shape) (shapes : List Shape) (inRows : Nat) (last : Bool) : List Nat :=
  (indexed ls).foldl (fun acc p =>
    let l := p.2
    let of (o : Option Nat) : Nat := match o with | none => inRows | some i => acc.getD i 0
    let n := if l.op == .add || l.op == .mul then min (of l.src0) (of l.src1) else of l.src0
    acc ++ [rowsAfter l (shapes.getD p.1 inS).rows n (l.src0 == none) (srcShape inS shapes l.src0).onePixel last]) []

/-- The rows of the stripe input that belong to stripes `0 .. s` (R283, R297). -/
def inputRows (total stripeRows s : Nat) (last : Bool) : Nat := if last then total else min total ((s + 1) * stripeRows)

/-! ## Values -/

/-- The integer that a code of an integer format encodes. -/
def intOf (f : Fmt) (c : Nat) : Int := if f == .uint8 then (c % 256 : Nat) else sInt f.bits c

/-- An accumulator: an INT32 result or an FP32 result. -/
abbrev Accum := Int ⊕ Val

/-- The value of an accumulator. -/
def Accum.val : Accum → Val
  | .inl i => Val.ofInt i
  | .inr v => v

/-- The parameters of one layer run. -/
structure LRun where
  /-- The descriptor. -/
  l : Layer
  /-- PART_W. -/
  partW : Nat
  /-- SPLITK. -/
  splitK : Nat
  /-- SYS.DET_MODE. -/
  det : Bool
  /-- PART_H. -/
  partH : Nat
  /-- Output width. -/
  width : Nat
  /-- The orders in which the split-K parts arrive at the tiles that combine them, by channel group and partition column (R259,
  R301). -/
  orders : List (List Nat)
  /-- Weight codes of each output channel, in ascending reduction index (R281). -/
  ws : List (List Nat)
  /-- Bias codes (INT32 or FP32) of each output channel; empty without BIAS. -/
  bs : List Nat
  /-- Requantisation entries M, SH, ZP of each output channel (R280). -/
  qs : List (Int × Nat × Int)

/-- The pixel at row `y`, column `x` of the rows present; none outside the bale or the image (R290). -/
def pixelAt (rows : List Row) (y x : Int) : Option Pixel :=
  if y < 0 || x < 0 then none else (rows[y.toNat]?).bind fun r => r[x.toNat]?

/-- The element of a tap: its code, or none for padding. -/
def tapElem (p : Option Pixel) (ci : Nat) : Option Nat := p.bind fun q => q[ci]?

/-- The window of output pixel (y, x): one entry for each tap, ascending ky then kx (R289). -/
def window (l : Layer) (rows : List Row) (y x : Nat) : List (Option Pixel) :=
  (List.range l.kh).flatMap fun ky => (List.range l.kw).map fun kx =>
    pixelAt rows ((y * l.sy + ky * l.dy : Nat) - (l.padT : Int)) ((x * l.sx + kx * l.dx : Nat) - (l.padL : Int))

/-- The integer of an input element; padding reads IN_ZP (R290). -/
def elemInt (l : Layer) : Option Nat → Int
  | some c => intOf l.fmtA c
  | none => l.inZp

/-- The value of an input element of a floating layer; padding reads +0 (R290). -/
def elemVal (l : Layer) : Option Nat → Val
  | some c => l.fmtA.val c
  | none => Val.zero

/-- The INT32 sum of products (R252). -/
def dotInt (l : Layer) (fw : Fmt) (xs : List (Option Nat × Nat)) : Int :=
  wrap32 (xs.foldl (fun a p => a + elemInt l p.1 * intOf fw p.2) 0)

/-- The FP32 sum of products in list order (R255, R257). -/
def dotFloat (l : Layer) (fw : Fmt) (xs : List (Option Nat × Nat)) : Val :=
  xs.foldl (fun acc p => acc.fma (elemVal l p.1) (fw.val p.2)) Val.negZero

/-- HB4 × HB4: the exact sums of the runs, each added in one rounded step (R256). An entry is an input element, its input
block, a weight code and its weight block. -/
def dotHb4 (xs : List (Option Nat × Nat × Nat × Nat)) : Val :=
  let r := xs.foldl (fun (st : Val × Option (Nat × Nat) × Val) x =>
    let key := (x.2.1, x.2.2.2)
    let prod := (match x.1 with | some c => hb4Val c | none => Val.zero).mul (hb4Val x.2.2.1)
    match st.2.1 with
    | none => (st.1, some key, Val.zero.add prod)
    | some k => if k == key then (st.1, some k, st.2.2.add prod)
                else (st.1.fadd st.2.2, some key, Val.zero.add prod)) (Val.negZero, none, Val.zero)
  match r.2.1 with
  | none => r.1
  | some _ => r.1.fadd r.2.2

/-- The split-K parts of a list: part k holds indices from `k × ceil(R / SPLITK)` (R301, R333). -/
def splitParts {α : Type} (k : Nat) (xs : List α) : List (List α) :=
  let n := ceilDiv xs.length (max k 1)
  (List.range (max k 1)).map fun i => (xs.drop (i * n)).take n

/-- The channel group and partition column of an output element (R299, R301). -/
def cellOf (partW partH splitK width cOut x c : Nat) : Nat × Nat :=
  (c / max (ceilDiv cOut (max (partH / max splitK 1) 1)) 1, x / max (ceilDiv width (max partW 1)) 1)

/-- The arrival order at the tile that combines the parts of the element in column `x`, channel `c`. -/
def LRun.orderAt (r : LRun) (x c : Nat) : List Nat :=
  let p := cellOf r.partW r.partH r.splitK r.width r.l.cOut x c
  r.orders.getD (p.1 * r.partW + p.2) []

/-- The parts in the order in which they combine at column `x`, channel `c` (R258, R259). -/
def combineOrder (r : LRun) (x c : Nat) (parts : List Val) : List Val :=
  let order := r.orderAt x c
  if r.det then parts
  else if sortBy (fun a b => decide (a ≤ b)) order == List.range parts.length then
    order.map fun i => parts.getD i Val.negZero
  else parts

/-- The combination of partial sums. -/
def combine : List Val → Val
  | [] => Val.negZero
  | p :: r => r.foldl Val.fadd p

/-- The bias of channel `co`, added after all products (R260). -/
def addBias (r : LRun) (co : Nat) (a : Accum) : Accum :=
  match r.bs[co]? with
  | none => a
  | some b =>
    match a with
    | .inl i => .inl (wrap32 (i + sInt 32 b))
    | .inr v => .inr (v.fadd (Val.of32 b))

/-- The sum of products of output column `x`, channel `co`, of CONV, FC and DEPTHWISE over the elements `xs`, which carry their input
block (R256, R288, R292, R301, R1092). -/
def dot (r : LRun) (xs : List (Option Nat × Nat)) (x co : Nat) : Accum :=
  let w := r.ws.getD co []
  let fw := r.l.fmtW.getD .int8
  if r.l.fmtA.isInt then .inl (dotInt r.l fw ((xs.map Prod.fst).zip w))
  else if r.l.fmtA == .hb4 then
    let items := (indexed (xs.zip w)).map fun p => (p.2.1.1, p.2.1.2, p.2.2, p.1 / 32)
    .inr (combine (combineOrder r x co ((splitParts r.splitK items).map dotHb4)))
  else
    .inr (combine (combineOrder r x co ((splitParts r.splitK ((xs.map Prod.fst).zip w)).map (dotFloat r.l fw))))

/-- The reduction list of a CONV output pixel: r = (ky × KW + kx) × C_IN + ci (R288), each element with its input block
of R248. -/
def reduction (l : Layer) (win : List (Option Pixel)) : List (Option Nat × Nat) :=
  (indexed win).flatMap fun p => (List.range l.cIn).map fun ci => (tapElem p.2 ci, p.1 * 1024 + ci / 32)

/-- The larger of two floating values; +0 is larger than -0 (R1091). -/
def maxVal (a b : Val) : Val :=
  if a.isNan || b.isNan then .nan
  else
    let c := Val.cmp a b
    if c == -1 then b
    else if c == 1 then a
    else match a with
      | .fin true _ _ => b
      | _ => a

/-- The maximum of a list of accumulators. -/
def maxAcc : List Accum → Accum
  | [] => .inl 0
  | x :: r => r.foldl (fun a b => match a, b with
    | .inl i, .inl j => .inl (max i j)
    | a, b => .inr (maxVal a.val b.val)) x

/-- The sum of a list of integers or FP32 values from its identity, in list order. -/
def sumAcc (int : Bool) (xs : List Accum) : Accum :=
  if int then .inl (wrap32 (xs.foldl (fun a x => match x with | .inl i => a + i | .inr _ => a) 0))
  else .inr (Val.fsum (xs.map Accum.val))

/-- An input element as an accumulator: of the vector unit, whose floating elements are FP32 values (R261). -/
def elemAcc (l : Layer) (e : Option Nat) : Accum := if l.fmtA.isInt then .inl (elemInt l e) else .inr (elemVal l e).r32

/-- One output pixel of a windowed layer, FC or NORM: the accumulators of its channels. -/
def pixelAcc (r : LRun) (rows : List Row) (y x : Nat) : List Accum :=
  let l := r.l
  let chan := List.range l.cOut
  match l.op with
  | .conv =>
    let red := reduction l (window l rows y x)
    chan.map fun co => addBias r co (dot r red x co)
  | .fc =>
    let px := pixelAt rows 0 0
    let red := (List.range l.cIn).map fun ci => (tapElem px ci, ci / 32)
    chan.map fun co => addBias r co (dot r red x co)
  | .depthwise =>
    let win := indexed (window l rows y x)
    chan.map fun c => addBias r c (dot r (win.map fun p => (tapElem p.2 c, p.1 * 1024 + c / 32)) x c)
  | .norm =>
    let px := pixelAt rows y x
    chan.map fun c =>
      let e := tapElem px c
      addBias r c <|
        match l.fmtW with
        | none => elemAcc l e
        | some fw =>
          let w := (r.ws.getD c []).headD 0
          if l.fmtA.isInt then .inl (wrap32 (elemInt l e * intOf fw w)) else .inr ((elemVal l e).r32.fmul (fw.val w).r32)
  | .maxpool =>
    let win := window l rows y x
    chan.map fun c => maxAcc (win.map fun p => elemAcc l (tapElem p c))
  | .avgpool =>
    let win := window l rows y x
    chan.map fun c =>
      match sumAcc l.fmtA.isInt (win.map fun p => elemAcc l (tapElem p c)) with
      | .inl i => .inl i
      | .inr v => .inr (v.fmul (Val.recip (l.kh * l.kw)))
  | _ => []

/-- ADD and MUL of two pixels (R261). -/
def elementwise (r : LRun) (a b : Option Pixel) : List Accum :=
  (List.range r.l.cOut).map fun c =>
    let x := elemAcc r.l (tapElem a c)
    let y := elemAcc r.l (tapElem b c)
    match x, y with
    | .inl i, .inl j => .inl (wrap32 (if r.l.op == .add then i + j else i * j))
    | x, y => .inr (if r.l.op == .add then x.val.fadd y.val else x.val.fmul y.val)

/-- The rows from `lo` to before `hi`. -/
def rowsFrom (rows : List Row) (lo hi : Nat) : List Row := (rows.drop lo).take (hi - lo)

/-- GMAX and GAVG of channel `c` (R303, R304): slices of columns within each stripe job, slices within a stripe, stripes
within the bale. `bounds` holds the source rows present after each stripe job. -/
def globalAcc (r : LRun) (rows : List Row) (bounds : List Nat) (c : Nat) : Accum :=
  let l := r.l
  let int := l.fmtA.isInt
  let w := ceilDiv l.wIn (max r.partW 1)
  let join := fun (xs : List Accum) => if l.op == .gmax then maxAcc xs else sumAcc int xs
  let stripes := ((0 :: bounds).zip bounds).filter fun b => b.1 < b.2
  let parts := stripes.map fun b =>
    let rs := rowsFrom rows b.1 b.2
    join ((List.range (ceilDiv l.wIn (max w 1))).map fun j =>
      join (rs.flatMap fun row => ((row.drop (j * w)).take w).map fun px => elemAcc l (tapElem (some px) c)))
  let total := join parts
  match l.op, total with
  | .gavg, .inr v => .inr (v.fmul (Val.recip (rows.length * l.wIn)))
  | _, t => t

/-! ## Activation and output conversion -/

/-- Activation of a floating layer, in FP32 (R309, R1091). -/
def actFloat (l : Layer) (v : Val) : Val :=
  let p := Val.of32 l.actParam
  match v with
  | .nan => .nan
  | _ =>
    match l.act with
    | 1 => if Val.lt Val.zero v then v else Val.zero
    | 2 => if Val.lt Val.zero v then (if Val.lt p v then p else v) else Val.zero
    | 3 => if Val.lt v Val.zero then v.fmul p else v
    | 4 => fsigmoid v
    | 5 => ftanh v
    | _ => v

/-- Activation of the exact value of R1084 step 2. -/
def actExact (l : Layer) (zp : Int) (v : Val) : Val :=
  let z := Val.ofInt zp
  match l.act with
  | 1 => if Val.lt v z then z else v
  | 2 =>
    let u := z.add (Val.of32 l.actParam)
    if Val.lt v z then z else if Val.lt u v then u else v
  | _ => v

/-- The nearest integer of a bound; none for +infinity. -/
def boundInt : Val → Option Int
  | .fin s m e => some (Val.toIntRne s m e)
  | _ => none

/-- Activation of a requantised integer before the clamp (R308). -/
def actInt (l : Layer) (zp y : Int) : Int :=
  match l.act with
  | 1 => max y zp
  | 2 =>
    let u := boundInt ((Val.ofInt zp).add (Val.of32 l.actParam))
    let y := max y zp
    match u with
    | some b => min y b
    | none => y
  | _ => y

/-- An INT32 output (R263). -/
def actInt32 (l : Layer) (a : Int) : Int :=
  match l.act with
  | 1 => max a 0
  | 2 => match boundInt (Val.of32 l.actParam) with
    | some b => min (max a 0) (min b (2 ^ 31 - 1))
    | none => max a 0
  | _ => a

/-- Conversion of one accumulator to a format other than HB4 (R262 to R267, R1084, R1087). -/
def convOne (l : Layer) (q : Int × Nat × Int) (a : Accum) : Nat × Conv :=
  match a with
  | .inl i =>
    if l.fmtOut == .int32 then (ofInt 32 (actInt32 l i), .plain)
    else if l.fmtOut.isInt then l.fmtOut.clampInt (actInt l q.2.2 (requantInt i q.1 q.2.1 q.2.2))
    else l.fmtOut.encode l.ieee (actExact l q.2.2 (requantVal i q.1 q.2.1 q.2.2))
  | .inr v =>
    let w := actFloat l v
    if l.fmtOut.isInt then l.fmtOut.intOfVal w else l.fmtOut.encode l.ieee w

/-- Conversion of the accumulators of one pixel to the output format. -/
def convPixel (r : LRun) (accs : List Accum) : List (Nat × Conv) :=
  let l := r.l
  let q := fun (c : Nat) => r.qs.getD c (1, 0, 0)
  if l.fmtOut == .hb4 then
    let vs := (indexed accs).map fun p =>
      match p.2 with
      | .inl i => actExact l (q p.1).2.2 (requantVal i (q p.1).1 (q p.1).2.1 (q p.1).2.2)
      | .inr v => actFloat l v
    (chunks 32 vs).flatMap (hb4Encode l.ieee)
  else (indexed accs).map fun p => convOne l (q p.1) p.2

/-- The code that padding and missing elements take in S2D (R307). -/
def fillCode (l : Layer) : Nat := if l.fmtA.isInt then ofInt l.fmtA.bits l.inZp else 0

/-- One pixel of S2D or D2S (R307). -/
def regroupPixel (l : Layer) (rows : List Row) (y x : Nat) : Pixel :=
  let f := l.regroup
  if l.op == .s2d then
    (List.range (f * f)).flatMap fun k =>
      let p := pixelAt rows (y * f + k / f : Nat) (x * f + k % f : Nat)
      (List.range l.cIn).map fun c => (tapElem p c).getD (fillCode l)
  else
    let p := pixelAt rows (y / f : Nat) (x / f : Nat)
    (List.range l.cOut).map fun c => (tapElem p (((y % f) * f + x % f) * l.cOut + c)).getD (fillCode l)

/-- Output rows `lo .. hi - 1` of a layer, with what conversion did to each element. `src0` and `src1` hold the rows
present of the sources; `bounds` as in `globalAcc`. -/
def layerRows (r : LRun) (src0 src1 : List Row) (bounds : List Nat) (width lo hi : Nat) : List (List (List (Nat × Conv))) :=
  (List.range (hi - lo)).map fun i =>
    let y := lo + i
    match r.l.op with
    | .gmax | .gavg => [convPixel r ((List.range r.l.cOut).map (globalAcc r src0 bounds))]
    | .s2d | .d2s => (List.range width).map fun x => (regroupPixel r.l src0 y x).map fun c => (c, Conv.plain)
    | .add | .mul => (List.range width).map fun (x : Nat) => convPixel r (elementwise r (pixelAt src0 y x) (pixelAt src1 y x))
    | _ => (List.range width).map fun x => convPixel r (pixelAcc r src0 y x)

/-- The partition slot that converts column `x`, channel `c` (R299, R301). -/
def slotOf (partW partH splitK width cOut x c : Nat) : Nat :=
  let p := cellOf partW partH splitK width cOut x c
  p.1 * splitK * partW + p.2

/-- Saturated and NaN elements of `rows` on each slot of the partition (R268). -/
def convCounts (b : StnBlock) (l : Layer) (width : Nat) (rows : List (List (List (Nat × Conv)))) : List (Nat × Nat) :=
  let slots := b.partW * b.partH
  let tally := fun (acc : List (Nat × Nat)) (x : Nat) (px : List (Nat × Conv)) =>
    (indexed px).foldl (fun acc p =>
      let s := slotOf b.partW b.partH b.splitK width l.cOut x p.1
      match p.2.2 with
      | .plain => acc
      | .sat => modAt acc s fun k => (k.1 + 1, k.2)
      | .nan => modAt acc s fun k => (k.1, k.2 + 1)) acc
  rows.foldl (fun acc row => (indexed row).foldl (fun acc p => tally acc p.1 p.2) acc) (List.replicate slots (0, 0))

/-! ## Weights -/

/-- Reduction length R of a layer with weights (R281, R1092). -/
def Layer.red (l : Layer) : Nat :=
  match l.op with
  | .conv => l.kh * l.kw * l.cIn
  | .fc => l.cIn
  | .depthwise => l.kh * l.kw
  | _ => 1

/-- The bytes that the weights of a layer take (R281). -/
def Layer.weightBytes (l : Layer) (f : Fmt) : Nat :=
  match f with
  | .hb4 => l.cOut * ceilDiv l.red 32 * 17
  | .int4 => ceilDiv (l.cOut * l.red) 2
  | _ => l.cOut * l.red * (f.bits / 8)

/-- The weight codes of each output channel, from the weight bytes (R281). -/
def Layer.weights (l : Layer) (bs : List Byte) : List (List Nat) :=
  match l.fmtW with
  | none => []
  | some .hb4 => (chunks (ceilDiv l.red 32 * 17) bs).map fun c => Fmt.unpack .hb4 c l.red
  | some f => chunks l.red (f.unpack bs (l.cOut * l.red))

/-- A requantisation entry (R280). -/
def requantEntry (bs : List Byte) : Int × Nat × Int := (sInt 32 (leAt bs 0 4), leAt bs 4 1, sInt 16 (leAt bs 6 2))

/-- The layer carries requantisation entries (R280). -/
def Layer.carriesQ (l : Layer) : Bool := l.fmtA.isInt && l.fmtOut != .int32 && l.op != .s2d && l.op != .d2s

/-! ## Spills -/

/-- Channels of a spill block (R312). -/
def spillChans (f : Fmt) : Nat := if f == .hb4 then 32 else 16

/-- Bytes of a spill block (R315, R317). -/
def spillBlock (l : Layer) : Nat :=
  if l.cmpM != 0 then 1 + 2 * l.cmpM
  else if l.fmtOut == .hb4 then 17 else 2 * l.fmtOut.bits

/-- The integer that the encoder maps a code to (R313). -/
def spillMap (f : Fmt) (c : Nat) : Int :=
  match f with
  | .uint8 => (c % 256 : Nat)
  | .int8 => sInt 8 c
  | _ =>
    let top := f.maxCode
    let mag := min (c % 128) top
    if bitAt c 7 then -(mag : Int) else mag

/-- The mantissa range of R314. -/
def spillRange (f : Fmt) (m : Nat) : Int × Int :=
  if f == .uint8 then (0, (2 ^ m : Int) - 1) else (-(2 ^ (m - 1) : Int), (2 ^ (m - 1) : Int) - 1)

/-- The shift of R314: the smallest of 0 to 8 that brings every mantissa into range. -/
def spillShift (f : Fmt) (m : Nat) (us : List Int) : Nat :=
  let r := spillRange f m
  ((List.range 9).find? fun s => us.all fun u =>
    let q := rneDiv u (2 ^ s)
    r.1 ≤ q && q ≤ r.2).getD 8

/-- What a spilled block reads back as (R313 to R316). -/
def spillRound (f : Fmt) (m : Nat) (blk : List Nat) : List Nat :=
  let us := blk.map (spillMap f)
  let s := spillShift f m us
  us.map fun u =>
    let v := rneDiv u (2 ^ s) * (2 ^ s : Int)
    match f with
    | .uint8 => ofInt 8 (clampI 0 255 v)
    | .int8 => ofInt 8 (clampI (-128) 127 v)
    | _ =>
      let mag := min v.natAbs f.maxCode
      if v < 0 then mag + 128 else mag

/-- The bytes of a compressed block (R315). -/
def spillBytes (f : Fmt) (m : Nat) (blk : List Nat) : List Byte :=
  let us := (blk ++ List.replicate (16 - blk.length) 0).map (spillMap f)
  let s := spillShift f m us
  let qs := us.map fun u => ofInt m (rneDiv u (2 ^ s))
  let bits := (indexed qs).foldl (fun a p => a + p.2 * 2 ^ (m * p.1)) 0
  BitVec.ofNat 8 s :: leBytes (2 * m) bits

/-- A row as a later layer reads it back from the spill area (R310, R316). -/
def readBack (l : Layer) (row : Row) : Row :=
  if l.spill && l.cmpM != 0 then
    row.map fun px => (chunks 16 px).flatMap fun blk =>
      (spillRound l.fmtOut l.cmpM (blk ++ List.replicate (16 - blk.length) 0)).take blk.length
  else row

/-! ## Seals -/

/-- The canonical output stream of a tensor (R319). -/
def streamBytes (f : Fmt) (rows : List Row) : List Byte :=
  if f == .hb4 then rows.flatMap fun r => r.flatMap packHb4
  else f.pack (rows.flatMap fun r => r.flatMap fun (px : Pixel) => px)

/-- The seal of a layer (R318). -/
def layerSeal (f : Fmt) (rows : List Row) : Nat := Crypto.crc64 (streamBytes f rows)

/-- The seal of a bale from its layer seals in index order (R321). -/
def baleSeal (seals : List Nat) : Nat :=
  Crypto.crc64 ((indexed seals).flatMap fun p => leBytes 2 p.1 ++ leBytes 8 p.2)

/-- The packets of a seal report after their headers (R323, R324): bale ID, layer seals and bale seal. -/
def sealPackets (report bale : Nat) (seals : List Nat) : List (List Nat) :=
  let second := fun (first n : Nat) => bale * 2 ^ 32 + first * 2 ^ 16 + n
  let bs := baleSeal seals
  match report with
  | 1 => [[second 0 0, bs]]
  | 2 =>
    let full := if seals.length ≤ 252 then 0 else seals.length / 253
    (List.range full).map (fun k => second (253 * k) 253 :: (seals.drop (253 * k)).take 253) ++
      [second (253 * full) (seals.length - 253 * full) :: seals.drop (253 * full) ++ [bs]]
  | _ => []

/-- The value that a vector receives from an output code, as an FP32 code (R306). -/
def vectorCode (f : Fmt) (c : Nat) : Nat := (f.val c).to32

end Sys2Proof.Machine
end

