-- ==== Sys2Proof/Machine/Manifest.lean ====
section
/-! DEFINITION. The manifest loader's parsing and checks, as pure functions of the container's bytes (R102 to R113, R116,
R122 to R125, R143, R145 to R193, R1088, and the loader rules of the other chapters). -/

namespace Sys2Proof.Machine

/-- MFL.STATUS.RESULT codes (R144). -/
def resBadMagic : Nat := 0x01
/-- WRONG_DEVICE. -/
def resWrongDevice : Nat := 0x02
/-- WRONG_REV. -/
def resWrongRev : Nat := 0x03
/-- KEY_UNKNOWN. -/
def resKeyUnknown : Nat := 0x04
/-- KEY_REVOKED. -/
def resKeyRevoked : Nat := 0x05
/-- BAD_SIGNATURE. -/
def resBadSignature : Nat := 0x06
/-- BAD_TABLE. -/
def resBadTable : Nat := 0x07
/-- BAD_SECTION. -/
def resBadSection : Nat := 0x08
/-- MISSING_SECTION. -/
def resMissing : Nat := 0x09
/-- OWNERSHIP. -/
def resOwnership : Nat := 0x0a
/-- CAPACITY. -/
def resCapacity : Nat := 0x0b
/-- INFLIGHT. -/
def resInflight : Nat := 0x0c
/-- ARMED. -/
def resArmed : Nat := 0x0d
/-- BUSY. -/
def resBusy : Nat := 0x0e
/-- ABORTED. -/
def resAborted : Nat := 0x0f

/-- A failed check: the result code, the block, the section index and the container offset (R144, R148, R1088). -/
structure LoadErr where
  /-- RESULT. -/
  code : Nat
  /-- BLOCK. -/
  block : Nat
  /-- SECTION. -/
  sect : Nat
  /-- ERR_OFFSET. -/
  off : Nat
  deriving DecidableEq, Repr

/-- A check that may fail. -/
abbrev Chk (α : Type) := Except LoadErr α

/-- `ok` or the failure `code` at block `b`, section `s`, offset `o`. -/
def need (ok : Bool) (code b s o : Nat) : Chk Unit := if ok then .ok () else .error ⟨code, b, s, o⟩

/-- `lo ≤ x ≤ hi`. -/
def inR (x lo hi : Nat) : Bool := decide (lo ≤ x) && decide (x ≤ hi)

/-- The next multiple of 8. -/
def align8 (n : Nat) : Nat := ceilDiv n 8 * 8

/-- A section as the table gives it. -/
structure Sect where
  /-- The block's number for MFL.STATUS.BLOCK. -/
  blk : Nat
  /-- Index in the section table. -/
  idx : Nat
  /-- TYPE. -/
  typ : Nat
  /-- STATION. -/
  stn : Nat
  /-- Container offset of the table entry. -/
  ent : Nat
  /-- Container offset of the section. -/
  abs : Nat
  /-- The section's bytes. -/
  data : List Byte
  deriving DecidableEq, Repr

/-- The `n`-byte field at offset `o` of a section. -/
def Sect.u (s : Sect) (o n : Nat) : Nat := leAt s.data o n

/-- A section rule, with BAD_SECTION at field offset `o` (R146, R147). -/
def Sect.rule (s : Sect) (ok : Bool) (o : Nat) : Chk Unit := need ok resBadSection s.blk s.idx (s.abs + o)

/-- A section rule with another code. -/
def Sect.fail (s : Sect) (ok : Bool) (code o : Nat) : Chk Unit := need ok code s.blk s.idx (s.abs + o)

/-- Reserved bytes read 0 (R146). -/
def Sect.zero (s : Sect) (o n : Nat) : Chk Unit := s.rule (s.u o n == 0) o

/-- LENGTH is the length that the layout gives (R145). -/
def Sect.len (s : Sect) (n : Nat) : Chk Unit :=
  need (s.data.length == n) resBadSection s.blk s.idx (s.ent + 8)

/-- A layout with a count (R145): the count at offset `o` of `w` bytes against its range, then LENGTH against `f` of the count. -/
def Sect.counted (s : Sect) (o w lo hi : Nat) (f : Nat → Nat) : Chk Unit := do
  s.rule (inR (s.u o w) lo hi) o
  s.len (f (s.u o w))

/-- The LENGTH rule of every section, which comes before its fields (R145, R156 to R186). -/
def Sect.lenRule (s : Sect) : Chk Unit :=
  match s.typ with
  | 0x01 => s.len 16
  | 0x02 => s.len 40
  | 0x03 => s.len 24
  | 0x04 => s.len 24
  | 0x05 => s.len 32
  | 0x06 => s.len 16
  | 0x07 => s.counted 2 1 1 6 fun n => 24 + 16 * n
  | 0x08 => s.counted 1 1 2 17 fun n => align8 (8 + 2 * n)
  | 0x09 => s.len 24
  | 0x0a => s.len 512
  | 0x10 => s.len 32
  | 0x11 => s.len 16
  | 0x12 => s.len 64
  | 0x13 => s.counted 0 2 1 4096 fun n => 8 + 64 * n
  | 0x14 => s.counted 0 1 1 8 fun n => 8 + 32 * n
  | 0x15 => s.counted 0 1 1 2 fun n => 8 + 32 * n
  | 0x16 => s.counted 0 1 1 32 fun n => 8 + 16 * n
  | _ => .ok ()


/-- A block of the container: where it starts, its length, its number and its kind. -/
structure RawBlock where
  /-- MFL.STATUS.BLOCK. -/
  num : Nat
  /-- Container offset of MAGIC. -/
  start : Nat
  /-- BLOCK_LEN. -/
  len : Nat
  /-- Device block. -/
  device : Bool
  deriving DecidableEq, Repr

/-- Header length of a block (R104, R105). -/
def RawBlock.hdr (b : RawBlock) : Nat := if b.device then 64 else 32

/-! ## Step 2: headers and lengths -/

/-- "HMNF". -/
def magicDev : Nat := 0x464e4d48
/-- "HSTN". -/
def magicStn : Nat := 0x4e545348

/-- MAGIC and FORMAT of the block at `o` (R116, R1088). -/
def chkMagic (bs : List Byte) (num o : Nat) (dev : Bool) : Chk Unit := do
  need (leAt bs o 4 == (if dev then magicDev else magicStn)) resBadMagic num 0xff o
  need (leAt bs (o + 4) 2 == 1) resBadMagic num 0xff (o + 4)

/-- The blocks of a container from offset `o` (R103, R116 step 2). `fuel` bounds their number. DESIGN CHOICE (log 47): what a
container holds behind its last block is read as the header of a further block, so it fails with BAD_MAGIC there; and a block behind
the sixteenth station block fails with BAD_TABLE at its MAGIC. -/
def walkBlocks (bs : List Byte) (len : Nat) : Nat → Nat → Nat → Chk (List RawBlock)
  | 0, num, o => .error ⟨resBadTable, num, 0xff, o⟩
  | fuel + 1, num, o => do
    let dev := num == 0
    chkMagic bs num o dev
    if dev then
      need (leAt bs (o + 8) 4 == 0x48440072) resWrongDevice num 0xff (o + 8)
      need (leAt bs (o + 0xc) 1 == 0xb0) resWrongRev num 0xff (o + 0xc)
    let lo := if dev then o + 0x10 else o + 8
    let n := leAt bs lo 4
    need (decide ((if dev then 64 else 32) + 128 ≤ n) && decide (o + align8 n ≤ len)) resBadTable num 0xff lo
    let b : RawBlock := ⟨num, o, n, dev⟩
    if o + align8 n == len then pure [b]
    else do
      let r ← walkBlocks bs len fuel (num + 1) (o + align8 n)
      pure (b :: r)

/-- Step 2 of a LOAD_STATION (R116): one station block that fills the container. -/
def oneBlock (bs : List Byte) (len : Nat) : Chk (List RawBlock) := do
  chkMagic bs 1 0 false
  let n := leAt bs 8 4
  need (decide (32 + 128 ≤ n) && (n == len || align8 n == len)) resBadTable 1 0xff 8
  pure [⟨1, 0, n, false⟩]

/-! ## Step 3: keys and signatures -/

/-- What the loader knows of the OTP slots: key hashes and revoke bits (R110). -/
structure KeySlots where
  /-- Four key hashes. -/
  hash : List Nat
  /-- Four revoke bits. -/
  revoked : List Bool
  deriving DecidableEq, Repr

/-- The digest of the public key `x ‖ y` (R110). -/
def keyDigest (xy : List Byte) : Nat := Crypto.sha256 xy

/-- The signature in the 128-byte trailer of the block verifies (R108, R109). -/
def signatureOk (bs : List Byte) (b : RawBlock) : Bool :=
  let t := b.start + b.len - 128
  let num := fun (k : Nat) => beN (slice bs (t + 32 * k) 32)
  Crypto.ecdsaOk (num 0) (num 1) (num 2) (num 3) (Crypto.sha256 (slice bs b.start (b.len - 128)))

/-- The STATION_KEYS entries that a device block of the container carries, as found (R111, R153). -/
def containerKeys (bs : List Byte) (b : RawBlock) : List Nat :=
  let cnt := leAt bs (b.start + 0xe) 2
  let ents := (List.range (min cnt 64)).map fun i => b.start + 64 + 16 * i
  match ents.find? fun e => leAt bs e 1 == 0x0a && leAt bs (e + 8) 4 == 512 with
  | none => List.replicate 16 0
  | some e => (List.range 16).map fun n => beN (slice bs (b.start + leAt bs (e + 4) 4 + 32 * n) 32)

/-- Step 3 for one block. `keys` and `slot` are those of the device block that counts (R110, R112, R113). -/
def chkKey (bs : List Byte) (ks : KeySlots) (keys : List Nat) (slot : Nat) (b : RawBlock) : Chk Unit := do
  let t := b.start + b.len - 128
  let dg := keyDigest (slice bs t 64)
  if b.device then
    let s := leAt bs (b.start + 0xd) 1
    need (decide (s ≤ 3)) resKeyUnknown b.num 0xff (b.start + 0xd)
    need (ks.hash.getD s 0 == dg) resKeyUnknown b.num 0xff t
    need (!ks.revoked.getD s false) resKeyRevoked b.num 0xff (b.start + 0xd)
  else
    let e := keys.getD (leAt bs (b.start + 6) 1) 0
    need ((e != 0 && e == dg) || ks.hash.getD slot 0 == dg) resKeyUnknown b.num 0xff t
  need (signatureOk bs b) resBadSignature b.num 0xff (t + 64)

/-! ## Step 4: section tables -/

/-- The types of device sections (R107). -/
def devTypes : List Nat := [0x01, 0x02, 0x03, 0x04, 0x05, 0x06, 0x07, 0x08, 0x09, 0x0a]
/-- The types of station sections (R107). -/
def stnTypes : List Nat := [0x10, 0x11, 0x12, 0x13, 0x14, 0x15, 0x16, 0x17]

/-- The STATION rule of a table entry (R149); `s` is the section. -/
def stationRule (b : RawBlock) (bstn : Nat) (s : Sect) : Bool :=
  if !b.device then s.stn == bstn
  else match s.typ with
    | 0x01 | 0x09 | 0x0a => s.stn == 0xff
    | 0x03 => decide (s.stn ≤ 15) || (s.stn == 0xff && (s.u 2 1 == 4 || s.u 2 1 == 5))
    | 0x06 => decide (s.stn ≤ 15) || (s.stn == 0xff && s.u 1 1 == 0x12)
    | _ => decide (s.stn ≤ 15)

/-- The envelope sections say that station `n` is no shadow station (R150). -/
def normalEnv (ss : List Sect) (n : Nat) : Bool := ss.any fun s => s.typ == 2 && s.stn == n && s.u 0 1 != 1

/-- Sections like `s` that the block may hold (R150). `all` are the sections of the whole block. An entry whose STATION is no station
fails there (R149), not for its number. -/
def permitted (all : List Sect) (s : Sect) : Nat :=
  match s.typ with
  | 0x01 | 0x02 | 0x09 | 0x0a | 0x10 | 0x11 | 0x13 | 0x14 | 0x15 | 0x16 | 0x17 => 1
  | 0x05 | 0x07 => if normalEnv all s.stn || decide (15 < s.stn) then 1 else 0
  | 0x12 => 16
  | _ => 64

/-- The sections before `s` that count with it under R150: those of its type, and of its station where the number is one for each
station. -/
def sameKind (pre : List Sect) (s : Sect) : Nat :=
  let each := s.typ == 2 || s.typ == 5 || s.typ == 7
  (pre.filter fun p => p.typ == s.typ && (!each || p.stn == s.stn)).length

/-- The entry at index `i` of the table, as a section. -/
def entryAt (bs : List Byte) (b : RawBlock) (i : Nat) : Sect :=
  let e := b.start + b.hdr + 16 * i
  let o := leAt bs (e + 4) 4
  let n := leAt bs (e + 8) 4
  ⟨b.num, i, leAt bs e 1, leAt bs (e + 1) 1, e, b.start + o,
    if o + n ≤ b.len then slice bs (b.start + o) n else []⟩

/-- One table entry against the fields of R106 and the entries before it (R1088). DESIGN CHOICE (log 47): an overlap with an earlier
section fails at OFFSET, whichever of its fields brings it about. -/
def chkEntry (bs : List Byte) (b : RawBlock) (bstn cnt : Nat) (all pre : List Sect) (s : Sect) : Chk Unit := do
  let t := fun (ok : Bool) (o : Nat) => need ok resBadTable b.num s.idx (s.ent + o)
  t ((if b.device then devTypes else stnTypes).contains s.typ) 0
  t (decide (sameKind pre s < permitted all s)) 0
  t (stationRule b bstn s) 1
  t (leAt bs (s.ent + 2) 1 == 1) 2
  t (leAt bs (s.ent + 3) 1 == 0) 3
  let o := leAt bs (s.ent + 4) 4
  let n := leAt bs (s.ent + 8) 4
  t (o % 8 == 0 && decide (b.hdr + 16 * cnt ≤ o) && decide (o ≤ b.len - 128)) 4
  t (pre.all fun p =>
    let po := p.abs - b.start
    decide (o + n ≤ po) || decide (po + p.data.length ≤ o)) 4
  t (n % 8 == 0 && decide (o + n ≤ b.len - 128)) 8
  t (leAt bs (s.ent + 0xc) 4 == 0) 0xc

/-- The entries of a table, each against those before it. -/
def chkEntries (bs : List Byte) (b : RawBlock) (bstn cnt : Nat) (all : List Sect) : List Sect → List Sect → Chk Unit
  | _, [] => .ok ()
  | pre, s :: r => do
    chkEntry bs b bstn cnt all pre s
    chkEntries bs b bstn cnt all (pre ++ [s]) r

/-- The sections that R150 requires are present. -/
def requiredOk (b : RawBlock) (ss : List Sect) : Bool :=
  let has := fun (t : Nat) => ss.any fun s => s.typ == t
  if b.device then
    has 0x01 && has 0x09 && has 0x0a &&
      (List.range 16).all fun n => !normalEnv ss n ||
        ((ss.any fun s => s.typ == 5 && s.stn == n) && ss.any fun s => s.typ == 7 && s.stn == n)
  else has 0x10 && has 0x11 && has 0x12 && has 0x13 && has 0x16

/-- Step 4 for one block but for missing sections: its sections in table order (R1088). -/
def chkTable (bs : List Byte) (b : RawBlock) : Chk (List Sect) := do
  let h := fun (ok : Bool) (o : Nat) => need ok resBadTable b.num 0xff (b.start + o)
  let z := fun (o n : Nat) => (List.range n).forM fun k => h (leAt bs (b.start + o + k) 1 == 0) (o + k)
  let cnt := if b.device then leAt bs (b.start + 0xe) 2 else leAt bs (b.start + 7) 1
  if b.device then
    h (leAt bs (b.start + 6) 2 == 64) 6
    h (inR cnt 1 64) 0xe
    h (decide (leAt bs (b.start + 0x18) 4 < 4)) 0x18
    z 0x1c 36
  else
    h (decide (leAt bs (b.start + 6) 1 ≤ 15)) 6
    h (inR cnt 1 64) 7
    z 0x10 16
  let ss := (List.range cnt).map (entryAt bs b)
  chkEntries bs b (leAt bs (b.start + 6) 1) cnt ss [] ss
  pure ss

/-! ## Step 5: device sections -/

/-- The lanes of a link: WIDTH lanes from FIRST_LANE. -/
def EpDecl.lanes (e : EpDecl) : List Nat := (List.range e.width).map fun i => e.firstLane + i

/-- LANE_REF of the group of lane `l` (R156). -/
def laneRefOf (laneRef l : Nat) : Nat := fld laneRef (2 * (l / 4) + 1) (2 * (l / 4))

/-- DEVICE (R156, R157, R515). -/
def parseDevice (s : Sect) : Chk DevSect := do
  s.rule (decide (s.u 0 1 < 2)) 0
  s.rule (decide (s.u 1 1 < 4)) 1
  s.rule (decide (s.u 2 1 < 4)) 2
  s.zero 3 1
  let lr := s.u 4 2
  let g := (List.range 6).map fun i => fld lr (2 * i + 1) (2 * i)
  let side := fun (gs : List Nat) => !(gs.contains 2 && (gs.contains 1 || gs.contains 3))
  s.rule (decide (lr < 4096) && ((s.u 1 1 == 0 && s.u 2 1 == 0) || g.getD 5 0 == 3) &&
    side (g.take 3) && side (g.drop 3)) 4
  s.zero 6 2
  s.rule (inR (s.u 8 1) 1 255 && inR (s.u 9 1) 1 255 && inR (s.u 10 1) 1 255 && inR (s.u 11 1) 1 255) 8
  s.rule (inR (s.u 0xc 2) 1 10) 0xc
  s.zero 0xe 2
  pure ⟨bitAt (s.u 0 1) 0, s.u 1 1, s.u 2 1, lr, s.u 8 4, s.u 0xc 2⟩

/-- STATION_ENVELOPE (R158). -/
def parseEnv (all : List Sect) (s : Sect) : Chk Env := do
  s.rule (decide (s.u 0 1 < 2)) 0
  let sh := s.u 0 1 == 1
  let par := s.u 1 1
  s.rule (if sh then decide (par ≤ 15) && par != s.stn && all.any fun e => e.typ == 2 && e.stn == par && e.u 0 1 == 0 else par == 0xff) 1
  s.rule (decide (1 ≤ s.u 2 1)) 2
  s.rule (inR (s.u 3 1) 1 64 && decide (s.u 2 1 ≤ s.u 3 1)) 3
  s.rule (inR (s.u 4 2) 1 6144) 4
  s.rule (if sh then s.u 6 2 == 0 else inR (s.u 6 2) 1 4096) 6
  s.rule (decide (1 ≤ s.u 0xc 4)) 0xc
  s.rule (decide (1 ≤ s.u 0x14 4)) 0x14
  s.rule (decide (1 ≤ s.u 0x18 2)) 0x18
  s.rule (decide (1 ≤ s.u 0x1a 2)) 0x1a
  s.rule (decide (s.u 0x1c 2 ≤ 1000)) 0x1c
  s.rule (decide (s.u 0x1e 2 ≤ 1000)) 0x1e
  s.rule ((List.range 4).all fun v => decide (s.u (0x20 + v) 1 ≤ 100)) 0x20
  s.rule (inR (s.u 0x24 1) 1 64) 0x24
  s.zero 0x25 3
  pure ⟨s.stn, sh, par, s.u 2 1, s.u 3 1, s.u 4 2, s.u 6 2, s.u 8 4, s.u 0xc 4, s.u 0x10 4, s.u 0x14 4, s.u 0x18 2,
    s.u 0x1a 2, s.u 0x1c 2, s.u 0x1e 2, s.u 0x20 4, s.u 0x24 1⟩

/-- ENDPOINT (R159, R160, R510, R567). `pre` are the endpoints declared before it. -/
def parseEp (dv : DevSect) (pre : List EpDecl) (s : Sect) : Chk EpDecl := do
  let e : EpDecl := ⟨s.stn, s.u 0 1, s.u 1 1, s.u 2 1, s.u 3 1, s.u 4 1, s.u 5 1, s.u 6 1, s.u 8 8, s.u 0x10 2⟩
  let same := pre.filter fun p => p.link == e.link
  let others := pre.filter fun p => p.link != e.link
  s.rule (decide (e.link ≤ 15)) 0
  s.rule (decide (e.addr ≤ 63) && !same.any fun p => p.addr == e.addr) 1
  s.rule (decide (e.cls ≤ 5) && !same.any fun p => p.cls == 4 || e.cls == 4) 2
  s.rule ([1, 2, 4].contains e.width && same.all fun p => p.width == e.width) 3
  s.rule (decide (e.rate ≤ 6) && same.all fun p => p.rate == e.rate) 4
  s.rule (decide (e.firstLane ≤ 23) && e.firstLane % max e.width 1 == 0 &&
    (same.all fun p => p.firstLane == e.firstLane) &&
    e.lanes.all fun l => decide (l ≤ 23) && laneRefOf dv.laneRef l != 0 &&
      !(dv.eth0 != 0 && l == 22) && !(dv.eth1 != 0 && l == 23) && !others.any fun p => p.lanes.contains l) 5
  s.rule (decide (e.power ≤ 2)) 6
  s.zero 7 1
  s.rule (e.guardNs == 0 || decide (100 ≤ e.guardNs)) 0x10
  s.zero 0x12 6
  pure e

/-- CAMERA (R161, R189). `eps` are all endpoint sections of the block. -/
def parseCam (eps : List Sect) (pre : List CamDecl) (s : Sect) : Chk CamDecl := do
  let c : CamDecl := ⟨s.stn, s.u 0 1, s.u 1 1, s.u 2 1, s.u 3 1, s.u 4 2, s.u 6 2, s.u 8 4, s.u 0xc 4, s.u 0x10 2,
    s.u 0x12 2, s.u 0x14 1 == 1⟩
  s.rule (decide (c.cam ≤ 31) && !pre.any fun p => p.cam == c.cam) 0
  s.rule (eps.any fun e => e.u 0 1 == c.link && e.u 2 1 == 0) 1
  s.rule (eps.any fun e => e.u 0 1 == c.link && e.u 1 1 == c.addr && e.u 2 1 == 0) 2
  s.rule (decide (fld c.pixfmt 1 0 ≤ 2) && decide (fld c.pixfmt 3 2 ≤ 2) && decide (c.pixfmt < 16)) 3
  s.rule (inR c.width 16 16384 && c.width % 16 == 0) 4
  s.rule (decide (1 ≤ c.lines)) 6
  s.rule (decide (c.offset < 2 ^ 31)) 8
  s.rule (decide (0x1000 ≤ c.pitch)) 0xc
  s.rule (inR c.stripe 16 512) 0x10
  s.rule (inR c.maxKhz 1 1000) 0x12
  s.rule (decide (s.u 0x14 1 ≤ 1) && !(c.lead && pre.any fun p => p.lead)) 0x14
  s.zero 0x15 3
  pure c

/-- A channel block of an ODOMETER section (R163, R643). -/
def parseOdoCh (s : Sect) (o : Nat) (present : Bool) : Chk OdoCh := do
  let c : OdoCh := ⟨s.u o 1, s.u (o + 1) 1, s.u (o + 2) 1, s.u (o + 3) 1, s.u (o + 4) 4⟩
  if present then
    s.rule (decide (fld c.mode 2 0 ≤ 4) && decide (c.mode < 32)) o
    s.rule (decide (c.filter ≤ 64)) (o + 1)
    s.rule (decide (c.index ≤ 3) && !(fld c.mode 2 0 == 4 && c.index != 0)) (o + 2)
    s.rule (!(c.index == 3 && c.cpr == 0)) (o + 4)
  else
    [0, 1, 2, 3].forM fun k => s.zero (o + k) 1
    s.zero (o + 4) 4
  pure c

/-- ODOMETER (R163). -/
def parseOdo (s : Sect) : Chk OdoDecl := do
  s.rule (decide (s.u 0 1 ≤ 15)) 0
  s.rule (s.u 1 1 == 0xff || (decide (s.u 1 1 ≤ 15) && s.u 1 1 != s.u 0 1)) 1
  s.rule (decide (s.u 2 1 ≤ 1)) 2
  s.zero 3 1
  s.rule (decide (1 ≤ s.u 4 2)) 4
  s.zero 8 8
  let c1 ← parseOdoCh s 0x10 true
  let c2 ← parseOdoCh s 0x18 (s.u 1 1 != 0xff)
  pure ⟨s.stn, s.u 0 1, s.u 1 1, s.u 2 1 == 1, s.u 4 2, s.u 6 2, c1, c2⟩

/-- FIELD_CHANNEL (R164, R188, R705). -/
def parseFio (pre : List FioDecl) (s : Sect) : Chk FioDecl := do
  let f : FioDecl := ⟨s.stn, s.u 0 1, s.u 1 1, s.u 2 1, s.u 3 1, s.u 4 2, s.u 6 2, s.u 8 1, s.u 0xa 2⟩
  let input := decide (f.func ≤ 4)
  s.rule (decide (f.ch ≤ 31) && !pre.any fun p => p.ch == f.ch && p.stn == f.stn) 0
  s.rule ([1, 2, 3, 4, 0x10, 0x11, 0x12].contains f.func) 1
  s.rule (if input then f.intype == 1 || f.intype == 3 else f.intype == 0) 2
  s.rule (if f.func == 4 then decide (f.gate ≤ 3) else f.gate == 0) 3
  s.rule (decide (f.filterUs ≤ 10000)) 4
  s.rule (f.func == 0x10 || f.peakUs == 0) 6
  s.rule (if f.func == 0x10 then inR f.holdDuty 10 100 else f.holdDuty == 0) 8
  s.zero 9 1
  s.rule (decide (f.settleUs ≤ 50)) 0xa
  s.zero 0xc 4
  pure f

/-- The verdicts that an ejector entry or a rule may give (R155, R166, R727). -/
def ejectVerdicts : List Nat := [0x00, 0x10, 0x11, 0x12, 0x13, 0x30]

/-- An ejector entry (R166). -/
def parseEjector (s : Sect) (pre : List Ejector) (o : Nat) : Chk Ejector := do
  let e : Ejector := ⟨s.u o 1, s.u (o + 1) 1 == 1, s.u (o + 2) 1, s.u (o + 3) 1, s.u (o + 4) 1, s.u (o + 5) 1,
    s.u (o + 6) 2, s.u (o + 8) 4, s.u (o + 0xc) 4⟩
  s.rule (ejectVerdicts.contains e.verdict && !pre.any fun p => p.verdict == e.verdict) o
  s.rule (decide (s.u (o + 1) 1 ≤ 1)) (o + 1)
  s.rule (decide (e.ch ≤ (if e.remote then 63 else 31))) (o + 2)
  s.rule (if e.remote then decide (e.link ≤ 15) else e.link == 0) (o + 3)
  s.rule (e.remote || e.rch == 0) (o + 4)
  s.rule (e.backup == 0xff || decide (e.backup ≤ 31)) (o + 5)
  s.rule (decide (1 ≤ e.pulseUs)) (o + 6)
  s.rule (inR e.offset 1 (2 ^ 31 - 1)) (o + 8)
  s.rule (decide (1 ≤ e.lead) && decide (e.lead < e.offset)) (o + 0xc)
  pure e

/-- The ejector entries of a section, from the `k`th. -/
def parseEjectors (s : Sect) : Nat → Nat → List Ejector → Chk (List Ejector)
  | 0, _, acc => .ok acc
  | n + 1, k, acc => do
    let e ← parseEjector s acc (0x18 + 16 * k)
    parseEjectors s n (k + 1) (acc ++ [e])

/-- MILESTONE_POLICY (R166 to R168). -/
def parsePolicy (all : List Sect) (s : Sect) : Chk Policy := do
  let n := s.u 2 1
  let stop := all.any fun f => f.typ == 6 && f.u 1 1 == 0x12
  let d := s.u 3 1
  let served := (List.range n).any fun k => s.u (0x18 + 16 * k) 1 == d
  s.rule (decide (s.u 0 1 ≤ 31)) 0
  s.rule (decide (s.u 1 1 ≤ 1)) 1
  s.rule ((ejectVerdicts.contains d || d == 0x20) && !(d == 0x20 && !stop) && (d == 0 || d == 0x20 || served)) 3
  s.rule (decide (s.u 4 1 ≤ 1) && !(s.u 4 1 == 1 && !stop)) 4
  s.zero 5 3
  s.rule (inR (s.u 8 4) 1 10000000) 8
  s.rule (decide (1 ≤ s.u 0xc 4)) 0xc
  s.zero 0x12 6
  let ej ← parseEjectors s n 0 []
  pure ⟨s.stn, s.u 0 1, s.u 1 1 == 1, d, s.u 4 1 == 1, s.u 8 4, s.u 0xc 4, s.u 0x10 2, ej⟩

/-- The first index whose member breaks `bad`. -/
def firstBad (bad : Nat → Bool) (n : Nat) : Option Nat := (List.range n).find? bad

/-- CONVOY_GROUP (R170, R171, R791). -/
def parseGroup (all : List Sect) (pre : List GroupDecl) (s : Sect) : Chk GroupDecl := do
  let n := s.u 1 1
  s.rule (decide (s.u 0 1 ≤ 31) && !pre.any fun p => p.group == s.u 0 1) 0
  s.rule (decide (1 ≤ s.u 2 2)) 2
  s.rule (inR (s.u 4 4) 1 1000000) 4
  let ms := (List.range n).map fun k => s.u (8 + 2 * k) 2
  let peer := fun (m : Nat) => all.any fun e =>
    e.typ == 3 && e.u 2 1 == 4 && e.u 0 1 == fld m 9 6 && e.u 1 1 == fld m 5 0
  let ok := fun (m : Nat) => m == 0x8000 || (decide (m < 1024) && peer m)
  s.rule (ms.contains 0x8000) 8
  match firstBad (fun k => !ok (ms.getD k 0) || (ms.take k).contains (ms.getD k 0)) n with
  | some k => s.rule false (8 + 2 * k)
  | none => pure ()
  s.rule ((s.data.drop (8 + 2 * n)).all (· == 0)) (8 + 2 * n)
  pure ⟨s.stn, s.u 0 1, s.u 2 2, s.u 4 4, ms⟩

/-- POWER_POLICY (R173); `gradeX` is SYS.REV_ID.GRADE. -/
def parsePower (gradeX : Bool) (s : Sect) : Chk PowerPolicy := do
  s.rule (inR (s.u 0 1) 12 45) 0
  s.rule (inR (s.u 1 1) 1 15) 1
  s.rule (inR (s.u 2 1) 1 5) 2
  s.rule (inR (s.u 3 1) (s.u 2 1) 5) 3
  s.rule (inR (s.u 4 1) 60 (if gradeX then 105 else 100)) 4
  s.zero 5 1
  s.rule (!bitAt (s.u 6 2) 0 && fld (s.u 6 2) 13 10 == 0) 6
  s.rule (s.u 8 4 == 0 || inR (s.u 8 4) 100 1000000) 8
  s.rule (inR (s.u 0xc 1) 1 8) 0xc
  s.zero 0xd 3
  pure ⟨s.u 0 1, s.u 1 1, s.u 2 1, s.u 3 1, s.u 4 1, s.u 6 2, s.u 8 4, s.u 0xc 1, s.u 0x10 4, s.u 0x14 4⟩

/-- The sections of a device block in table order (R148), added to the block. `dv` is the DEVICE section's content as the
other sections read it. -/
def parseDevSects (gradeX : Bool) (all : List Sect) (dv : DevSect) : List Sect → DevBlock → Chk DevBlock
  | [], d => .ok d
  | s :: r, d => do
    s.lenRule
    let owned := s.stn == 0xff || all.any fun e => e.typ == 2 && e.stn == s.stn
    if 3 ≤ s.typ && s.typ ≤ 8 then s.rule owned 0
    let d' ← (match s.typ with
      | 0x01 => do let x ← parseDevice s; pure { d with dev := x }
      | 0x02 => do let x ← parseEnv all s; pure { d with envs := d.envs ++ [x] }
      | 0x03 => do let x ← parseEp dv d.eps s; pure { d with eps := d.eps ++ [x] }
      | 0x04 => do
        let x ← parseCam (all.filter fun e => e.typ == 3) d.cams s
        pure { d with cams := d.cams ++ [x] }
      | 0x05 => do let x ← parseOdo s; pure { d with odos := d.odos ++ [x] }
      | 0x06 => do let x ← parseFio d.fields s; pure { d with fields := d.fields ++ [x] }
      | 0x07 => do let x ← parsePolicy all s; pure { d with policies := d.policies ++ [x] }
      | 0x08 => do let x ← parseGroup all d.groups s; pure { d with groups := d.groups ++ [x] }
      | 0x09 => do let x ← parsePower gradeX s; pure { d with power := x }
      | _ => pure { d with keys := (List.range 16).map fun n => beN (slice s.data (32 * n) 32) } : Chk DevBlock)
    parseDevSects gradeX all dv r d'

/-- A DEVICE section that holds nothing. -/
def DevSect.none : DevSect := ⟨false, 0, 0, 0, 0x01010101, 1⟩

/-- The DEVICE fields that other sections are checked against, as they stand in the container. -/
def rawDevice (all : List Sect) : DevSect :=
  match all.find? fun s => s.typ == 1 with
  | none => DevSect.none
  | some s => ⟨bitAt (s.u 0 1) 0, s.u 1 1, s.u 2 1, s.u 4 2, s.u 8 4, s.u 0xc 2⟩

/-- Step 5 of the device block. -/
def parseDevBlock (gradeX : Bool) (bs : List Byte) (b : RawBlock) (ss : List Sect) : Chk DevBlock :=
  let fl := leAt bs (b.start + 0x18) 4
  parseDevSects gradeX ss (rawDevice ss) ss
    ⟨leAt bs (b.start + 0xd) 1, leAt bs (b.start + 0x14) 4, bitAt fl 0, bitAt fl 1, DevSect.none, [], [], [], [], [], [],
      [], ⟨0, 0, 1, 1, 0, 0, 0, 1, 0, 0⟩, []⟩

/-! ## Step 5: station sections -/

/-- The PAYLOAD section of a block, and what the other sections are checked against. -/
structure StnCtx where
  /-- PAYLOAD, if the block has one. -/
  pay : Option Sect
  /-- The device block that counts (R153). -/
  dev : DevBlock
  /-- The vision context's fields, as they stand. -/
  inS : Shape
  /-- Camera STRIPE of the vision context. -/
  stripe : Nat
  /-- S2D of the vision context. -/
  s2d : Nat
  /-- TILE_REGION.PAGES and DECODE_TILES, as they stand. -/
  pages : Nat
  /-- DECODE_TILES. -/
  decTiles : Nat
  /-- The LAYERS section's FMT_OUT and C_OUT, for SRC_LAYER (R394). -/
  layerOuts : List Nat
  /-- CLASSES of each ensemble, as they stand (R727). -/
  classes : List Nat
  /-- USE of each decoder, as it stands (R727). -/
  uses : List Nat
  /-- SYS.DET_MODE that counts (R191, R192). -/
  det : Bool

/-- A payload reference (R152): REF at offset `o`, LEN at offset `ol`. A block without PAYLOAD has no payload bytes. -/
def chkRef (c : StnCtx) (s : Sect) (o ol ref len : Nat) : Chk Unit := do
  s.rule (ref % 64 == 0) o
  s.fail (c.pay.isSome || len == 0) resMissing ol
  s.rule (decide (ref + len ≤ (c.pay.map fun p => p.data.length).getD 0)) ol

/-- Payload bytes. -/
def StnCtx.bytes (c : StnCtx) (ref len : Nat) : List Byte :=
  match c.pay with
  | none => []
  | some p => slice p.data ref len

/-- TILE_REGION (R176, R300). -/
def parseRegion (s : Sect) (b : StnBlock) : Chk StnBlock := do
  s.rule (inR (s.u 0 1) 1 8) 0
  s.rule (inR (s.u 1 1) 1 8) 1
  s.rule (inR (s.u 2 2) 1 6144) 2
  s.rule (decide (s.u 4 1 ≤ 8)) 4
  s.rule ([1, 2, 4, 8].contains (s.u 5 1) && s.u 1 1 % max (s.u 5 1) 1 == 0) 5
  s.rule ((s.data.drop 6).all (· == 0)) 6
  pure { b with partW := s.u 0 1, partH := s.u 1 1, pages := s.u 2 2, decTiles := s.u 4 1, splitK := s.u 5 1 }

/-- ISP_CONTEXT (R178, R457, R484). -/
def parseCtx (c : StnCtx) (pre : List IspCtx) (s : Sect) : Chk IspCtx := do
  s.rule (decide (s.u 0 1 ≤ 15) && !pre.any fun p => p.ctx == s.u 0 1) 0
  let cam := c.dev.cam? (s.u 1 1)
  s.rule cam.isSome 1
  let cd := cam.getD ⟨0, 0, 0, 0, 0, 16, 1, 0, 0x10000, 16, 1, false⟩
  s.rule (decide (s.u 2 1 ≤ 1) && !(s.u 2 1 == 1 && !cd.lead)) 2
  let outs := s.u 3 1
  s.rule (inR outs 1 7 && !(bitAt outs 2 && pre.any fun p => bitAt p.outputs 2)) 3
  s.rule (decide (s.u 4 1 ≤ 3)) 4
  s.rule ([1, 2, 4, 8].contains (s.u 5 1)) 5
  s.rule ([2, 3, 7, 8].contains (s.u 6 1)) 6
  s.rule (decide (s.u 7 1 ≤ 1)) 7
  let dw := s.u 8 2
  s.rule (if bitAt outs 0 then inR dw 16 1920 && cd.width % max dw 1 == 0 && inR (cd.width / max dw 1) 1 16
    else dw == 0) 8
  s.rule (decide (s.u 0xa 2 < 8)) 0xa
  let i16 := fun (o n : Nat) => (List.range n).map fun k => sInt 16 (s.u (o + 2 * k) 2)
  chkRef c s 0x30 0x34 (s.u 0x30 4) (s.u 0x34 4)
  s.rule (s.u 0x34 4 == 0 || s.u 0x34 4 == 4 * cd.width * cd.planes) 0x34
  s.zero 0x38 8
  pure ⟨s.u 0 1, s.u 1 1, s.u 2 1 == 1, outs, s.u 4 1, s.u 5 1, (Fmt.ofCode (s.u 6 1)).getD .int8, s.u 7 1 == 1, dw,
    s.u 0xa 2, i16 0xc 9, i16 0x1e 3, i16 0x24 3, (List.range 3).map fun k => s.u (0x2a + 2 * k) 2, s.u 0x30 4, s.u 0x34 4⟩

/-- A source index (R279): 0xFFFF is the stripe input. -/
def srcOf (x : Nat) : Option Nat := if x == 0xffff then none else some x

/-- The descriptor at offset `o`, taken as it stands. -/
def rawLayer (s : Sect) (o : Nat) : Layer :=
  let u := fun (k n : Nat) => s.u (o + k) n
  let fl := u 0x15 1
  let pad := u 8 2
  { op := (LOp.ofCode (u 0 1)).getD .norm, fmtA := (Fmt.ofCode (u 1 1)).getD .int8, fmtW := Fmt.ofCode (u 2 1)
    fmtOut := (Fmt.ofCode (u 3 1)).getD .int8, kh := u 4 1, kw := u 5 1
    sy := fld (u 6 1) 3 0, sx := fld (u 6 1) 7 4, dy := fld (u 7 1) 3 0, dx := fld (u 7 1) 7 4
    padT := fld pad 3 0, padB := fld pad 7 4, padL := fld pad 11 8, padR := fld pad 15 12
    cIn := u 0xa 2, cOut := u 0xc 2, wIn := u 0xe 2, src0 := srcOf (u 0x10 2), src1 := srcOf (u 0x12 2), act := u 0x14 1
    ieee := bitAt fl 0, bias := bitAt fl 1, spill := bitAt fl 2, scores := bitAt fl 3, measure := bitAt fl 4
    features := bitAt fl 5, cmpM := u 0x16 1, regroup := u 0x17 1, actParam := u 0x18 4, inZp := sInt 16 (u 0x1c 2)
    outBase := u 0x1e 2, wRef := u 0x20 4, wLen := u 0x24 4, bRef := u 0x28 4, qRef := u 0x2c 4, spillOff := u 0x30 4 }

/-- C_OUT of a DEPTHWISE layer is its C_IN (R279). -/
def chansOk (l : Layer) : Bool := l.op != .depthwise || l.cOut == l.cIn

/-- Two operand formats may meet in a multiplying layer (R243, R250). -/
def pairOk (a w : Fmt) : Bool :=
  a != .int32 && w != .int32 &&
    (if a == .hb4 || w == .hb4 then a == w else a.isInt == w.isInt)

/-- The rules of one layer descriptor at offset `o`, fields in ascending offset (R279, R282, R243, R250, R281, R725). -/
def parseLayer (c : StnCtx) (s : Sect) (i : Nat) (shapes : List Shape) (o : Nat) : Chk Layer := do
  let u := fun (k n : Nat) => s.u (o + k) n
  let rule := fun (ok : Bool) (k : Nat) => s.rule ok (o + k)
  let l := rawLayer s o
  let src := srcShape c.inS shapes l.src0
  let two := l.op == .add || l.op == .mul
  let src2 := srcShape c.inS shapes l.src1
  let out := layerShape c.inS shapes l
  let weighted := l.op == .conv || l.op == .fc || l.op == .depthwise
  rule (LOp.ofCode (u 0 1)).isSome 0
  rule (decide (u 1 1 ≤ 9)) 1
  rule (decide (u 2 1 ≤ 9) || u 2 1 == 0xf) 2
  rule (if u 2 1 == 0xf then !(weighted && l.op != .depthwise) && l.op != .depthwise
    else (weighted || l.op == .norm) && pairOk l.fmtA (l.fmtW.getD .int8)) 2
  rule (decide (u 3 1 ≤ 10) && !((l.op == .s2d || l.op == .d2s) && u 3 1 != u 1 1)) 3
  rule (inR l.kh 1 15) 4
  rule (inR l.kw 1 15) 5
  rule (inR l.sy 1 8 && inR l.sx 1 8 &&
    (out.cy == 0 || c.stripe % out.cy == 0)) 6
  rule (inR l.dy 1 8 && inR l.dx 1 8 && decide ((l.kh - 1) * l.dy ≤ 14) && decide ((l.kw - 1) * l.dx ≤ 14)) 7
  rule (decide (l.padT ≤ 7) && decide (l.padB ≤ 7) && decide (l.padL ≤ 7) && decide (l.padR ≤ 7)) 8
  rule (inR l.cIn 1 8192) 0xa
  rule (inR l.cOut 1 8192 && chansOk l) 0xc
  rule (inR l.wIn 1 16384 && decide ((l.kw - 1) * l.dx + 1 ≤ l.wIn + l.padL + l.padR)) 0xe
  rule ((match l.src0 with | none => true | some k => decide (k < i)) &&
    src.fmt == l.fmtA && src.width == l.wIn && src.chans == l.cIn &&
    decide ((l.kh - 1) * l.dy + 1 ≤ src.rows + l.padT + l.padB) &&
    !(l.op == .fc && !src.onePixel)) 0x10
  rule (if two then
      (match l.src1 with | none => true | some k => decide (k < i)) && src2.fmt == l.fmtA &&
        src2.width == src.width && src2.rows == src.rows && src2.chans == src.chans &&
        (src.onePixel || src2.cy == src.cy)
    else u 0x12 2 == 0xffff) 0x12
  rule (decide (l.act ≤ 5) && !(l.fmtA.isInt && decide (3 ≤ l.act))) 0x14
  rule (decide (u 0x15 1 < 64) && !((l.scores && (l.measure || l.features)) || (l.measure && l.features)) &&
    (!(l.scores || l.measure || l.features) || out.onePixel)) 0x15
  rule (l.cmpM == 0 || ([3, 4, 5].contains l.cmpM && l.spill && l.fmtOut.bits == 8)) 0x16
  rule (if l.op == .s2d || l.op == .d2s then
      [2, 4, 8].contains l.regroup && (l.op == .d2s || l.wIn % max l.regroup 1 == 0)
    else l.regroup == 0) 0x17
  let p := Val.of32 l.actParam
  rule (if l.act == 2 then !p.isNan && !Val.lt p Val.zero else if l.act == 3 then true else l.actParam == 0) 0x18
  rule (l.fmtA.isInt || l.inZp == 0) 0x1c
  rule ((!(l.scores || l.measure) || decide (l.outBase + l.cOut ≤ 256)) &&
    (!l.features || decide (l.outBase + l.cOut ≤ 2047))) 0x1e
  chkRef c s (o + 0x20) (o + 0x24) l.wRef l.wLen
  rule (match l.fmtW with | none => true | some f => l.wLen == l.weightBytes f) 0x24
  if l.bias then chkRef c s (o + 0x28) (o + 0x28) l.bRef (4 * l.cOut)
  if l.carriesQ then
    chkRef c s (o + 0x2c) (o + 0x2c) l.qRef (8 * l.cOut)
  rule (l.spillOff % 64 == 0) 0x30
  rule (u 0x34 8 == 0 && u 0x3c 4 == 0) 0x34
  pure l

/-- The descriptors from index `i`. -/
def parseLayers (c : StnCtx) (s : Sect) : Nat → Nat → List Layer → List Shape → Chk (List Layer)
  | 0, _, acc, _ => .ok acc
  | n + 1, i, acc, sh => do
    let l ← parseLayer c s i sh (8 + 64 * i)
    parseLayers c s n (i + 1) (acc ++ [l]) (sh ++ [layerShape c.inS sh l])

/-- LAYERS (R179). -/
def parseLayerSect (c : StnCtx) (s : Sect) : Chk (List Layer) := do
  let n := s.u 0 2
  s.rule (s.u 2 2 == 64) 2
  s.zero 4 4
  parseLayers c s n 0 [] []

/-- A tree node is valid (R422, R423, R425). -/
def nodeOk (e : Ensemble) (w : Nat) : Bool :=
  if fld w 10 0 == 0x7ff then w == 0x7ff
  else decide (fld w 10 0 < e.features) && decide (fld w 15 12 ≤ 2) &&
    !(e.thrBf16 && (Fmt.bf16.decode (fld w 31 16)).isNan)

/-- The container offset of the first bad node of an ensemble, in ascending tree and node order (R425). -/
def badNode (e : Ensemble) (arr : List Byte) : Option Nat :=
  let tb := (2 ^ e.depth - 1) * 4 + 2 ^ e.depth * (e.leafBits / 8)
  ((List.range e.trees).flatMap fun t => (List.range (2 ^ e.depth - 1)).map fun k => t * tb + 4 * k).find? fun o =>
    !nodeOk e (leAt arr o 4)

/-- An ensemble entry (R180, R425). -/
def parseEnsemble (c : StnCtx) (s : Sect) (o : Nat) : Chk Ensemble := do
  let u := fun (k n : Nat) => s.u (o + k) n
  let rule := fun (ok : Bool) (k : Nat) => s.rule ok (o + k)
  let e : Ensemble := ⟨u 0 1, u 1 1 == 8, u 2 1, u 3 1, u 4 2, u 6 2, u 8 1, u 0xc 4, u 0x10 4, u 0x14 4⟩
  rule (inR e.depth 1 12) 0
  rule (u 1 1 == 6 || u 1 1 == 8) 1
  rule (e.leafBits == 16 || e.leafBits == 32) 2
  rule (inR e.classes 1 16) 3
  rule (inR e.trees 1 8192) 4
  rule (inR e.features 1 2047) 6
  rule (decide (e.outFn ≤ 2) && !(e.outFn == 2 && e.classes == 1)) 8
  rule (u 9 3 == 0) 9
  chkRef c s (o + 0xc) (o + 0xc) e.baseRef (4 * e.classes)
  chkRef c s (o + 0x10) (o + 0x14) e.arrayRef e.arrayLen
  rule (e.arrayLen == e.trees * ((2 ^ e.depth - 1) * 4 + 2 ^ e.depth * (e.leafBits / 8))) 0x14
  rule (u 0x18 8 == 0) 0x18
  match c.pay, badNode e (c.bytes e.arrayRef e.arrayLen) with
  | some p, some k => need false resBadSection s.blk s.idx (p.abs + e.arrayRef + k)
  | _, _ => pure ()
  pure e

/-- A list of equal entries, each read by `f`. -/
def parseList {α : Type} (f : Nat → Chk α) (base size : Nat) : Nat → Nat → List α → Chk (List α)
  | 0, _, acc => .ok acc
  | n + 1, k, acc => do
    let x ← f (base + size * k)
    parseList f base size n (k + 1) (acc ++ [x])

/-- The tensors of a decoder image fill its bytes from the header to the end, each at the next multiple of 64 (R392, R394). -/
def imageFills (d : DecDecl) : Bool :=
  let sz := d.wfmt.bits / 8
  let al := fun (n : Nat) => ceilDiv n 64 * 64
  let parts := [(d.tokOff, d.vocab), (d.embOff, d.vocab * d.dModel * sz), (d.posOff, 129 * d.dModel * sz),
    (d.layerOff, d.nLayers * (3 * 4 * d.dModel + (8 * d.dModel * d.dModel + 2 * d.dModel * d.dFf) * sz)),
    (d.outOff, 4 * d.dModel + d.vocab * d.dModel * sz)]
  let sorted := sortBy (fun a b => decide (a.1 ≤ b.1)) parts
  let fit := sorted.foldl (fun (st : Bool × Nat) p => (st.1 && p.1 == al st.2, p.1 + p.2)) (true, 64)
  fit.1 && d.wLen == fit.2

/-- A decoder entry and its image (R181, R191, R391 to R394, R403). -/
def parseDec (c : StnCtx) (s : Sect) (o : Nat) : Chk DecDecl := do
  let u := fun (k n : Nat) => s.u (o + k) n
  let rule := fun (ok : Bool) (k : Nat) => s.rule ok (o + k)
  let wRef := u 8 4
  let wLen := u 0xc 4
  let im := c.bytes wRef (min wLen 64)
  let h := fun (k n : Nat) => leAt im k n
  let d : DecDecl :=
    { interactive := u 0 1 == 1, topk := u 1 1 == 1, k := u 2 1, trng := u 3 1 == 1, vocab := u 4 2, maxTokens := u 6 1
      wRef := wRef, wLen := wLen, kvPages := u 0x10 2, endToken := u 0x12 2, dModel := h 4 2, nLayers := h 6 1
      nHeads := h 7 1, dFf := h 8 2, wfmt := (Fmt.ofCode (h 0xa 1)).getD .bf16, srcLayer := h 0xc 2, memMax := h 0xe 2
      startToken := h 0x10 2, rmsEps := h 0x14 4, tokOff := h 0x18 4, embOff := h 0x1c 4, posOff := h 0x20 4
      layerOff := h 0x24 4, outOff := h 0x28 4 }
  rule (decide (u 0 1 ≤ 1)) 0
  rule (decide (u 1 1 ≤ 1)) 1
  rule (if d.topk then inR d.k 1 64 else d.k == 0) 2
  rule (decide (u 3 1 ≤ 1) && !(d.trng && c.det)) 3
  rule (inR d.vocab 2 4096) 4
  rule (inR d.maxTokens 1 128) 6
  rule (u 7 1 == 0) 7
  chkRef c s (o + 8) (o + 0xc) wRef wLen
  rule (decide (wLen ≤ c.decTiles * 1572864)) 0xc
  rule (inR d.kvPages 1 c.pages) 0x10
  rule (decide (d.endToken < d.vocab)) 0x12
  rule (u 0x14 8 == 0 && u 0x1c 4 == 0) 0x14
  let img := fun (ok : Bool) (k : Nat) =>
    need ok resBadSection s.blk s.idx ((c.pay.map fun p => p.abs).getD 0 + wRef + k)
  img (h 0 4 == 0x43454448) 0
  img (inR d.dModel 64 512 && d.dModel % 64 == 0) 4
  img (inR d.nLayers 1 8) 6
  img (inR d.nHeads 1 8 && d.dModel % max d.nHeads 1 == 0) 7
  img (inR d.dFf 64 2048 && d.dFf % 64 == 0) 8
  img (h 0xa 1 == 4 || h 0xa 1 == 8) 0xa
  img (h 0xb 1 == 0) 0xb
  img (c.layerOuts.getD d.srcLayer 0 == d.dModel) 0xc
  img (inR d.memMax 1 256) 0xe
  img (decide (d.startToken < d.vocab) && (!d.interactive || decide (d.startToken + 31 < d.vocab))) 0x10
  img (h 0x12 2 == 0) 0x12
  img (d.tokOff % 64 == 0) 0x18
  img (d.embOff % 64 == 0) 0x1c
  img (d.posOff % 64 == 0) 0x20
  img (d.layerOff % 64 == 0) 0x24
  img (d.outOff % 64 == 0 && imageFills d) 0x28
  img ((im.drop 0x2c).all (· == 0)) 0x2c
  pure d

/-- A rule of the verdict program (R182, R184, R185, R190, R727, R728). -/
def parseRule (c : StnCtx) (stn : Nat) (s : Sect) (n o : Nat) : Chk Rule := do
  let u := fun (k m : Nat) => s.u (o + k) m
  let rule := fun (ok : Bool) (k : Nat) => s.rule ok (o + k)
  let r : Rule := ⟨u 0 1, u 1 1, u 2 1, u 3 1, u 4 4, u 8 4⟩
  let last := o == 8 + 16 * (n - 1)
  let ej := ((c.dev.policy? (c.dev.lineOf stn)).map fun p => p.ej).getD []
  rule (inR r.op 1 5 && !(last && r.op != 5)) 0
  rule (match r.op with
    | 2 => decide (r.index / 16 < c.classes.length) && decide (r.index % 16 < c.classes.getD (r.index / 16) 0)
    | 4 => c.uses.getD r.index 1 == 0 && decide (r.index < c.uses.length)
    | _ => true) 1
  rule (decide (r.cmp ≤ 7) && !(r.op == 4 && r.cmp != 4 && r.cmp != 5) && !(last && r.cmp != 0)) 2
  rule (ejectVerdicts.contains r.verdict && (r.verdict == 0 || ej.any fun e => e.verdict == r.verdict)) 3
  let num := decide (r.op ≤ 3)
  rule (!(num && (Val.of32 r.a).isNan) && !(last && r.a != 0) && !(r.op == 4 && r.a % 64 != 0)) 4
  rule (!(num && decide (6 ≤ r.cmp) && (Val.of32 r.b).isNan) && !(last && r.b != 0) &&
    !(r.op == 4 && !inR r.b 1 128)) 8
  if r.op == 4 then chkRef c s (o + 4) (o + 8) r.a r.b
  rule (u 0xc 4 == 0) 0xc
  pure r

/-- The sections of a station block in table order (R148), added to the block. -/
def parseStnSects (c : StnCtx) : List Sect → StnBlock → Chk StnBlock
  | [], b => .ok b
  | s :: r, b => do
    s.lenRule
    let b' ← (match s.typ with
      | 0x10 => do
        s.rule (decide (s.u 0x10 2 < 2048)) 0x10
        s.rule (decide (s.u 0x12 2 < 2) && !(bitAt (s.u 0x12 2) 0 && !c.det)) 0x12
        s.rule ((s.data.drop 0x14).all (· == 0)) 0x14
        pure { b with name := s.data.take 16, formats := s.u 0x10 2, reqDet := bitAt (s.u 0x12 2) 0 }
      | 0x11 => parseRegion s b
      | 0x12 => do let x ← parseCtx c b.ctxs s; pure { b with ctxs := b.ctxs ++ [x] }
      | 0x13 => do let x ← parseLayerSect c s; pure { b with layers := x }
      | 0x14 => do
        let n := s.u 0 1
        s.rule (s.u 1 7 == 0) 1
        let x ← parseList (parseEnsemble c s) 8 32 n 0 []
        pure { b with trees := x }
      | 0x15 => do
        let n := s.u 0 1
        s.rule (s.u 1 7 == 0) 1
        let x ← parseList (parseDec c s) 8 32 n 0 []
        pure { b with decs := x }
      | 0x16 => do
        let n := s.u 0 1
        s.rule (s.u 1 7 == 0) 1
        let x ← parseList (parseRule c b.stn s n) 8 16 n 0 []
        pure { b with rules := x }
      | _ => pure { b with payLen := s.data.length } : Chk StnBlock)
    parseStnSects c r b'

/-- What the sections of a station block are checked against. -/
def stnCtx (dev : DevBlock) (det : Bool) (ss : List Sect) : StnCtx :=
  let of := fun (t : Nat) => ss.find? fun s => s.typ == t
  let vis := ss.find? fun s => s.typ == 0x12 && bitAt (s.u 3 1) 2
  let s2d := max (vis.elim 1 fun s => s.u 5 1) 1
  let cam := vis.bind fun s => dev.cam? (s.u 1 1)
  let f := (vis.bind fun s => Fmt.ofCode (s.u 6 1)).getD .int8
  { pay := of 0x17, dev := dev
    inS := match cam with
      | none => ⟨0, 0, 0, f, s2d, s2d⟩
      | some c => ⟨ceilDiv c.lines s2d, c.width / s2d, (if c.colour then 3 else 1) * s2d * s2d, f, s2d, s2d⟩
    stripe := (cam.map fun c => c.stripe).getD 0, s2d := s2d
    pages := (of 0x11).elim 0 fun s => s.u 2 2, decTiles := (of 0x11).elim 0 fun s => s.u 4 1
    layerOuts := (of 0x13).elim [] fun s => (List.range (min (s.u 0 2) 4096)).map fun i => s.u (8 + 64 * i + 0xc) 2
    classes := (of 0x14).elim [] fun s => (List.range (min (s.u 0 1) 8)).map fun i => s.u (8 + 32 * i + 3) 1
    uses := (of 0x15).elim [] fun s => (List.range (min (s.u 0 1) 2)).map fun i => s.u (8 + 32 * i) 1
    det := det }

/-- Step 5 of a station block (R143, R457). -/
def parseStnBlock (dev : DevBlock) (det : Bool) (uid : Nat) (bs : List Byte) (b : RawBlock) (ss : List Sect) :
    Chk StnBlock := do
  let n := leAt bs (b.start + 6) 1
  need (dev.env? n).isSome resBadSection b.num 0xff (b.start + 6)
  let x ← parseStnSects (stnCtx dev det ss) ss
    ⟨uid, n, leAt bs (b.start + 0xc) 4, [], 0, false, 1, 1, 1, 0, 1, [], [], [], [], [], 0, 0⟩
  match x.vision, ss.find? fun s => s.typ == 0x12 with
  | none, some s => s.rule false 3
  | _, _ => pure ()
  pure x

/-! ## Sizes -/

/-- Raw bytes of one bale of a station's cameras (R187, R451). -/
def rawBytes (cams : List CamDecl) : Nat :=
  sumN (cams.map fun c => (c.lines + (if fld c.pixfmt 3 2 == 2 then 30 else 0)) * c.width * c.bpp * c.planes)

/-- The stripe input's shape of a block (R282). -/
def inputShape (x : IspCtx) (c : CamDecl) : Shape :=
  ⟨ceilDiv c.lines x.s2d, c.width / x.s2d, (if c.colour then 3 else 1) * x.s2d * x.s2d, x.fmt, x.s2d, x.s2d⟩

/-- For each stripe, the rows present of each layer after its job. -/
def stripeRows (b : StnBlock) (x : IspCtx) (c : CamDecl) : List (List Nat) :=
  let inS := inputShape x c
  let shapes := layerShapes inS b.layers
  let n := stripeCount c
  (List.range n).map fun s =>
    rowsPresent b.layers inS shapes (inputRows inS.rows (c.stripe / x.s2d) s (s + 1 == n)) (s + 1 == n)

/-- The largest number of rows that layer `i` writes in one stripe job (R311). -/
def maxStripeRows (per : List (List Nat)) (i : Nat) : Nat :=
  (per.foldl (fun (st : Nat × Nat) r =>
    let k := r.getD i 0
    (k, max st.2 (k - st.1))) (0, 0)).2

/-- The spill area of a bale (R311). -/
def spillArea (b : StnBlock) (x : IspCtx) (c : CamDecl) : Nat :=
  let shapes := layerShapes (inputShape x c) b.layers
  let per := stripeRows b x c
  maxN ((indexed b.layers).map fun p =>
    if p.2.spill then
      let sh := shapes.getD p.1 ⟨0, 0, 0, .int8, 0, 0⟩
      p.2.spillOff + maxStripeRows per p.1 * sh.width * ceilDiv p.2.cOut (spillChans p.2.fmtOut) * spillBlock p.2
    else 0)

/-- The decoder memory of a bale (R411). -/
def decoderArea (b : StnBlock) : Nat :=
  sumN (b.decs.map fun d => if d.interactive then 0 else d.memMax * d.dModel * 2)

/-- The vision area of a bale (R454). -/
def visionArea (x : IspCtx) (c : CamDecl) : Nat :=
  4 * (c.stripe * c.width * (if c.colour then 3 else 1) * (x.fmt.bits / 8))

/-- The bytes of a bale in the bale store beside its raw lines (R311, R411, R455). -/
def baleAreas (dev : DevBlock) (b : StnBlock) : Nat :=
  match b.vision with
  | none => 0
  | some x =>
    match dev.cam? x.cam with
    | none => 0
    | some c => spillArea b x c + decoderArea b + visionArea x c

/-- The lowest address at a multiple of 64 from which `size` bytes lie in [lo, hi) beside the spans `used`. -/
def placeIn (lo hi size : Nat) (used : List (Nat × Nat)) : Option Nat :=
  let up := fun (a : Nat) => ceilDiv a 64 * 64
  (sortBy (fun a b => decide (a ≤ b)) (lo :: used.map fun u => up (u.1 + u.2))).find? fun a =>
    decide (lo ≤ a) && decide (a + size ≤ hi) && used.all fun u => decide (a + size ≤ u.1) || decide (u.1 + u.2 ≤ a)

/-- The bale-store bytes that the loader asks for one bale of a station block (R187, R311, R411, R455). -/
def baleBytes (dev : DevBlock) (b : StnBlock) : Nat := rawBytes (dev.ownCams b.stn) + baleAreas dev b

/-- Bytes of a row slice of `cols` columns of a tensor in tile SRAM. -/
def rowBytes (f : Fmt) (chans cols : Nat) : Nat :=
  cols * (if f == .hb4 then ceilDiv chans 32 * 17 else ceilDiv (chans * f.bits) 8)

/-- The tile SRAM that R298 compares: carried rows of all layers, and the largest unspilled input and output of one
layer, for one tile of the partition. -/
def sramNeed (b : StnBlock) (x : IspCtx) (c : CamDecl) : Nat :=
  let inS := inputShape x c
  let shapes := layerShapes inS b.layers
  let per := stripeRows b x c
  let sl := fun (w : Nat) => ceilDiv w (max b.partW 1)
  let groups := max (b.partH / max b.splitK 1) 1
  let edge := fun (l : Layer) => (l.kw - 1) * l.dx
  let rowsOf := fun (l : Layer) (o : Option Nat) => match o with
    | none => min inS.rows (c.stripe / x.s2d + if l.src0 == none then readAhead l else 0)
    | some i => maxStripeRows per i
  let spilled : Option Nat → Bool := fun o => match o with
    | none => false
    | some i => (b.layers.map fun (l : Layer) => l.spill).getD i false
  let carried := sumN (b.layers.map fun l => carriedRows l * rowBytes l.fmtA l.cIn (sl l.wIn + edge l))
  let oneIn := fun (l : Layer) (o : Option Nat) =>
    let cols := sl l.wIn + edge l
    if spilled o == true then ((l.kh - 1) * l.dy + l.sy) * rowBytes l.fmtA l.cIn cols
    else rowsOf l o * rowBytes l.fmtA l.cIn cols
  let work := (indexed b.layers).map fun p =>
    let l := p.2
    let sh := shapes.getD p.1 ⟨0, 0, 0, .int8, 0, 0⟩
    let inp := oneIn l l.src0 + (if l.op == .add || l.op == .mul then oneIn l l.src1 else 0)
    let out := if l.spill then 0 else maxStripeRows per p.1 * rowBytes l.fmtOut (ceilDiv l.cOut groups) (sl sh.width)
    inp + out
  carried + maxN work

/-! ## Step 6 -/

/-- A failure comes before another: in an earlier section, or at a lower offset of the same one (R148). -/
def LoadErr.before (a b : LoadErr) : Bool := decide (a.sect < b.sect) || (a.sect == b.sect && decide (a.off < b.off))

/-- Checks over the sections of one block, each of which reports its own first failure: the first of these in table order and in
ascending offset (R148). -/
def firstFailure (cs : List (Chk Unit)) : Chk Unit :=
  let worst := cs.foldl (fun (w : Option LoadErr) c =>
    match c, w with
    | .ok _, w => w
    | .error e, none => some e
    | .error e, some f => some (if e.before f then e else f)) none
  match worst with
  | none => .ok ()
  | some e => .error e

/-- Station `n` may name what station `owner` declares: its own, or for a shadow what its parent's line has (R132, R136, R178). -/
def DevBlock.mayUse (d : DevBlock) (n owner : Nat) : Bool := owner == n || owner == d.lineOf n

/-- What each section claims for its owner (R122): a kind, a number and a field offset. DEDUCED (log 47): a convoy membership is the
peer, by link and ADDR, that a group of the station names as a member. -/
def claims (s : Sect) : List (Nat × Nat × Nat) :=
  match s.typ with
  | 0x03 => [(0, s.u 0 1 * 64 + s.u 1 1, 1)]
  | 0x05 => (1, s.u 0 1, 0) :: (if s.u 1 1 == 0xff then [] else [(1, s.u 1 1, 1)])
  | 0x06 => [(2, s.u 0 1, 0)]
  | 0x08 => ((List.range (s.u 1 1)).filter fun k => s.u (8 + 2 * k) 2 != 0x8000).map fun k => (3, s.u (8 + 2 * k) 2, 8 + 2 * k)
  | _ => []

/-- A shadow station claims what its parent claims too (R136): `all` are the claims of the whole block. -/
def DevBlock.sharesClaim (d : DevBlock) (all : List (Nat × Nat × Nat)) (n : Nat) (c : Nat × Nat) : Bool :=
  d.lineOf n != n && all.any fun a => a.1 == c.1 && a.2.1 == c.2 && a.2.2 == d.lineOf n

/-- R122 over the sections in table order, with what the sections before claim. -/
def chkOwners (d : DevBlock) (all : List (Nat × Nat × Nat)) : List (Nat × Nat × Nat) → List Sect → Chk Unit
  | _, [] => .ok ()
  | acc, s :: r => do
    let cs := claims s
    let clash := fun (c : Nat × Nat × Nat) => acc.any fun a => a.1 == c.1 && a.2.1 == c.2.1 && a.2.2 != s.stn &&
      !d.sharesClaim all s.stn (c.1, c.2.1) && !d.sharesClaim all a.2.2 (c.1, c.2.1)
    match cs.find? clash with
    | some c => s.fail false resOwnership c.2.2
    | none => pure ()
    chkOwners d all (acc ++ cs.map fun c => (c.1, c.2.1, s.stn)) r

/-- A field channel that a MILESTONE_POLICY names (R166, R169, R187): one of the same station with one of the functions; one of another
station alone is OWNERSHIP, any other BAD_SECTION. -/
def chkChannel (d : DevBlock) (s : Sect) (ch : Nat) (funcs : List Nat) (o : Nat) : Chk Unit := do
  let mine := d.fields.find? fun f => f.ch == ch && f.stn == s.stn
  s.fail (mine.isSome || !d.fields.any fun f => f.ch == ch && f.stn != 0xff) resOwnership o
  s.rule (mine.elim false fun f => funcs.contains f.func) o

/-- The ejector entries of a MILESTONE_POLICY (R169). -/
def chkEjectors (d : DevBlock) (s : Sect) : Nat → List Ejector → Chk Unit
  | _, [] => .ok ()
  | k, e :: r => do
    let o := 0x18 + 16 * k
    if e.remote then do
      let x := d.ep? e.link e.ch
      s.fail (x.elim true fun x => x.stn == s.stn || x.stn == 0xff) resOwnership (o + 3)
      s.rule (x.elim false fun x => x.stn == s.stn && (x.cls == 1 || x.cls == 3)) (o + 3)
    else chkChannel d s e.ch [0x10, 0x11] (o + 2)
    if e.backup != 0xff then chkChannel d s e.backup [0x10, 0x11] (o + 5)
    chkEjectors d s (k + 1) r

/-- What the cameras and the policies name is their station's (R169, R187). -/
def chkNamed (d : DevBlock) (s : Sect) : Chk Unit :=
  match s.typ with
  | 0x04 =>
    match d.ep? (s.u 1 1) (s.u 2 1) with
    | some e => s.fail (d.mayUse s.stn e.stn) resOwnership 2
    | none => .ok ()
  | 0x07 => do
    chkChannel d s (s.u 0 1) [0x02] 0
    match d.policy? s.stn with
    | some p => chkEjectors d s 0 p.ej
    | none => .ok ()
  | _ => .ok ()

/-- A running sum over the sections of type `t` stays within `lim`; the failure is at the section that passes it. -/
def chkSum (t code o lim : Nat) (f : Sect → Nat) : Nat → List Sect → Chk Unit
  | _, [] => .ok ()
  | acc, s :: r => do
    if s.typ == t then
      s.fail (decide (acc + f s ≤ lim)) code o
      chkSum t code o lim f (acc + f s) r
    else chkSum t code o lim f acc r

/-- Partitions neither overlap nor leave the usable DRAM (R187). -/
def chkSpans : List (Nat × Nat) → List Sect → Chk Unit
  | _, [] => .ok ()
  | acc, s :: r => do
    if s.typ == 2 then
      let one := fun (acc : List (Nat × Nat)) (o : Nat) => (do
        let lo := s.u o 4
        let n := s.u (o + 4) 4
        s.fail (acc.all fun a => decide (lo + n ≤ a.1) || decide (a.1 + a.2 ≤ lo)) resCapacity o
        s.fail (decide (lo + n ≤ 14336)) resCapacity (o + 4)
        pure (acc ++ [(lo, n)]) : Chk (List (Nat × Nat)))
      let acc ← one acc 8
      let acc ← one acc 0x10
      chkSpans acc r
    else chkSpans acc r

/-- The speed at which a camera's line may run: that of its station's policy; a shadow has its parent's line (R132). -/
def DevBlock.speed (d : DevBlock) (n : Nat) : Nat := ((d.policy? (d.lineOf n)).map Policy.vMax).getD 0

/-- The intake load of the cameras so far, as a fraction, against 12 × 10⁹ (R187). -/
def chkIntake (d : DevBlock) : Nat × Nat → List Sect → Chk Unit
  | _, [] => .ok ()
  | q, s :: r => do
    match s.typ, d.cam? (s.u 0 1) with
    | 4, some c => do
      let f := (if c.depth == 8 then 1 else 2) * c.planes
      let q' := (q.1 * c.pitch + d.speed s.stn * 65536 * c.width * f * q.2, q.2 * c.pitch)
      s.fail (decide (q'.1 ≤ 12000000000 * q'.2)) resCapacity 0x0c
      chkIntake d q' r
    | _, _ => chkIntake d q r

/-- The milestones that can be live at once (R125). -/
def Policy.inflight (p : Policy) : Nat :=
  let span := maxN (p.ej.map fun e => e.offset) + ceilDiv ((maxN (p.ej.map fun e => e.pulseUs) + 151) * p.vMax) 1000000
  span / max p.minPitch 1 + 1

/-- Step 6 of the device block (R122 to R125, R148, R169, R187, R203, R337); `cap` is the tile capacity. -/
def chkDevice6 (d : DevBlock) (cap : Nat) (ss : List Sect) : Chk Unit :=
  let normal := fun (s : Sect) => s.u 0 1 == 0
  let g := fun (s : Sect) => ((d.env? s.stn).map Env.guar).getD 0
  let all := ss.flatMap fun s => (claims s).map fun c => (c.1, c.2.1, s.stn)
  let each := fun (t : Nat) (f : Sect → Chk Unit) => (ss.filter fun s => s.typ == t).forM f
  let quota := fun (link v : Nat) =>
    chkSum 2 resCapacity (0x20 + v) 100
      (fun s => if d.eps.any fun e => e.link == link && e.stn == s.stn then s.u (0x20 + v) 1 else 0) 0 ss
  firstFailure ([
    chkOwners d all [] ss,
    ss.forM (chkNamed d),
    chkSum 2 resCapacity 3 cap (fun s => if normal s then s.u 3 1 else 0) 0 ss,
    chkSum 2 resCapacity 3 64 (fun s => s.u 3 1) 0 ss,
    each 2 fun s => s.fail (!normal s || decide (g s ≤ s.u 3 1)) resCapacity 0x1c,
    chkSum 2 resCapacity 0x1c cap (fun s => if normal s then g s else 0) 0 ss,
    chkSum 2 resCapacity 0x1c 1000 (fun s => s.u 0x1c 2) 0 ss,
    chkSum 2 resCapacity 4 6144 (fun s => s.u 4 2) 0 ss,
    chkSum 2 resCapacity 6 4096 (fun s => s.u 6 2) 0 ss,
    chkSpans [] ss,
    each 2 fun s => s.fail (decide (rawBytes (d.ownCams s.stn) ≤ s.u 0x14 4 * 2 ^ 20)) resCapacity 0x14,
    each 4 fun s => s.fail ((d.cam? (s.u 0 1)).elim true fun c =>
      decide (d.speed s.stn * 65536 ≤ c.maxKhz * 1000 * c.pitch)) resCapacity 0x12,
    chkIntake d (0, 1) ss,
    each 2 fun s => s.fail (!normal s ||
      ((d.policy? s.stn).map fun p => decide (p.inflight ≤ s.u 6 2)).getD true) resInflight 6]
    ++ (List.range 16).flatMap fun link => (List.range 4).map fun v => quota link v)

/-- One section of a station block against step 6 (R124, R187, R193, R298, R338, R395), fields in ascending offset. -/
def chkStnSect (d : DevBlock) (others : List Nat) (free : Nat → Bool) (b : StnBlock) (s : Sect) : Chk Unit :=
  let env := d.env? b.stn
  let e := fun (f : Env → Nat) => (env.map f).getD 0
  match s.typ with
  | 0x11 => do
    s.fail (decide (b.pages ≤ e fun x => x.pages)) resCapacity 2
    s.fail (decide (b.partW * b.partH + b.decTiles ≤ e fun x => x.tilesMax)) resCapacity 4
    s.fail (decide (b.decTiles < e fun x => x.tilesMin)) resCapacity 4
  | 0x12 => do
    s.fail (!others.contains (s.u 0 1)) resOwnership 0
    s.fail (!bitAt (s.u 3 1) 2 || decide (baleBytes d b ≤ (e fun x => x.baleSize) * 2 ^ 20)) resCapacity 0
    s.fail ((d.cam? (s.u 1 1)).elim false fun c => d.mayUse b.stn c.stn) resOwnership 1
  | 0x13 =>
    match b.vision with
    | none => .ok ()
    | some x =>
      match d.cam? x.cam with
      | none => .ok ()
      | some c => s.fail (decide (sramNeed b x c ≤ 131072 + b.pages / (b.partW * b.partH) * 16384)) resCapacity 0
  | 0x15 =>
    (indexed b.decs).forM fun p => do
      let x := p.2
      s.fail (decide (ceilDiv (x.nLayers * 4 * x.dModel * (x.maxTokens + 1 + x.memMax)) 16384 ≤ x.kvPages))
        resCapacity (8 + 32 * p.1 + 0x10)
      s.fail (decide (sumN ((b.decs.take (p.1 + 1)).map fun y => ceilDiv y.wLen 16384 + y.kvPages) ≤ b.decTiles * 96))
        resCapacity (8 + 32 * p.1 + 0x10)
  | 0x17 => s.fail (free s.data.length) resCapacity 0
  | _ => .ok ()

/-- Step 6 of a station block, its sections in table order (R148). `others` are the ISP contexts that other stations hold, and `free`
says whether a payload of a given length fits in the station's partition. -/
def chkStation6 (d : DevBlock) (others : List Nat) (free : Nat → Bool) (b : StnBlock) (ss : List Sect) : Chk Unit :=
  ss.forM (chkStnSect d others free b)

end Sys2Proof.Machine
end

