-- ==== Sys2Proof/Machine/Messages.lean ====
section
/-! DEFINITION. The messages that the device sends to endpoints (R594, R808). -/

namespace Sys2Proof.Machine

/-- The endpoint is ACTIVE. -/
def State.epActive (s : State) (l a : Nat) : Bool := s.epState l a == 4

/-- SLINK.STAT.ACTIVE counts the ACTIVE endpoints of a link (R633). -/
def showActive (l : Nat) (s : State) : State :=
  s.fset (Reg.slinkStat l) 22 16 ((s.eps.filter fun e => e.link == l && s.epActive l e.addr).length)

/-- SLINK.EP_STAT.STATE of an endpoint changes (R604). -/
def setEpState (l a st : Nat) (s : State) : State := showActive l (s.fset (Reg.slinkEpStat l a) 3 0 st)

/-- The station that owns an endpoint; none for a device-owned one. -/
def State.epStn (s : State) (l a : Nat) : Option Nat := ((s.epDecl? l a).map EpDecl.stn).filter fun n => n < 16

/-- LINE_TRIG, to an ACTIVE camera only (R594, R612). -/
def sendLineTrig (l a bale line : Nat) (s : State) : State :=
  if s.epActive l a then sendFor (s.epStn l a) none l 2 0x23 a [BitVec.ofNat 64 (bale * 2 ^ 32 + line % 65536 * 65536)] s else s

/-- FIRE_AT, to an ACTIVE endpoint only (R594, R612). -/
def sendFireAt (l a due rch action pulse cmd bale : Nat) (s : State) : State :=
  if s.epActive l a then
    sendFor (s.epStn l a) none l 2 0x24 a [BitVec.ofNat 64 (due % 2 ^ 48 + rch % 256 * 2 ^ 48 + action * 2 ^ 56),
      BitVec.ofNat 64 (pulse % 65536 + cmd % 65536 * 65536 + bale % 2 ^ 32 * 2 ^ 32)] s
  else s

/-- CANCEL of a command (R594). -/
def sendCancel (l a cmd : Nat) (s : State) : State :=
  sendFor (s.epStn l a) none l 2 0x25 a [BitVec.ofNat 64 (cmd % 65536 * 65536)] s

/-- TIME_CORR (R594): OFFSET in ns, limited to what its 32 bits hold, and RATE in 0.01 ppb; the endpoint's last correction is
now (R840). -/
def sendTimeCorr (l a : Nat) (offset rate : Int) (s : State) : State :=
  let off := clampI (-(2 ^ 31 - 1)) (2 ^ 31 - 1) offset
  (sendPacket l 2 0x22 a [BitVec.ofNat 64 (ofInt 32 off + ofInt 32 rate * 2 ^ 32)] s).setEp l a fun e =>
    { e with corrAt := some s.now }

/-- A time exchange starts: TIME_REQ with a fresh TAG; its departure is T1 (R605 to R607). -/
def startExchange (l a : Nat) (s : State) : State :=
  let tag := s.timeTag % 65536
  (sendPacket l 2 0x20 a [BitVec.ofNat 64 tag] { s with timeTag := (tag + 1) % 65536 }).setEp l a fun e =>
    { e with exch := some (tag, s.tb.lt.toNat) }

/-- Exchanges in progress are discarded and repeated (R850). -/
def restartExchanges (s : State) : State :=
  s.eps.foldl (fun s e => if e.exch.isSome then startExchange e.link e.addr s else s) s

/-- ANNOUNCE_RESP (R594): RESULT, lowest permitted power state, guard time, and the VC weights. -/
def sendAnnounceResp (l a result power guardNs weights : Nat) (s : State) : State :=
  sendPacket l 1 0x02 a [BitVec.ofNat 64 (result + power % 256 * 256 + guardNs * 65536), BitVec.ofNat 64 weights] s

/-- POWER (R594) without a WAKE_AT. -/
def sendPower (l a target : Nat) (s : State) : State := sendPacket l 1 0x07 a [BitVec.ofNat 64 target, 0] s

/-- CV_HELLO (R808). -/
def sendHello (l g count self : Nat) (det : Bool) (digest : Nat) (s : State) : State :=
  sendPacket l 3 0x30 0 [BitVec.ofNat 64 (g + count * 256 + self * 65536 + b2n det * 2 ^ 24), BitVec.ofNat 64 digest] s

/-- The payload words of convoy entries: two FP32 codes each, the lower index low (R808). -/
def pairWords (vals : List Nat) : List Dword :=
  (chunks 2 vals).map fun p => BitVec.ofNat 64 (p.getD 0 0 + p.getD 1 0 * 2 ^ 32)

/-- CV_DATA (R808). -/
def sendCvData (l g self : Nat) (absent : Bool) (tag base : Nat) (vals : List Nat) (s : State) : State :=
  sendFor ((s.dev.bind fun d => d.group? g).map GroupDecl.stn) (some g) l 3 0x31 0 (BitVec.ofNat 64 (g + self * 256 + b2n absent * 32768 + tag % 2 ^ 32 * 2 ^ 32) ::
    BitVec.ofNat 64 (base + vals.length * 65536) :: pairWords vals) s

end Sys2Proof.Machine
end

