-- ==== Sys2Proof/Machine/RegAccess.lean ====
section
/-! DEFINITION. What a register write does field by field (R10 to R15), with shadowed fields (R52 to R62) and frozen
fields (R63 to R67). -/

namespace Sys2Proof.Machine

/-- `cur` with the bits of `mask` taken from `val`. -/
def mergeBits (mask cur val : Nat) : Nat := (cur ^^^ (cur &&& mask)) ||| (val &&& mask)

/-- The RF fields of `fs` that a write of `val` over `cur` would change (R63), as a mask. -/
def rfChanged (fs : List Field) (cur val : Nat) : Nat :=
  fs.foldl (fun a f => if f.acc == .rf && fld cur f.hi f.lo != fld val f.hi f.lo
    then a + (2 ^ (f.hi - f.lo + 1) - 1) * 2 ^ f.lo else a) 0

/-- A dropped RF write (R64 to R66). -/
def dropWrite (ini addr : Nat) (own : Owner) (s : State) : State :=
  let src := match own with
    | .station n => n * 16 + ini
    | _ => 256 + ini
  raise 448 (((bump Reg.sysWdropCnt s).setN Reg.sysWdropAddr (addr % 2 ^ 32)).setN Reg.sysWdropSrc src)

/-- The pending shadow word of a register, if any. -/
def State.shadowAt (s : State) (addr : Nat) : Option Nat := (s.shadow.find? fun w => w.addr == addr).map fun w => w.val.toNat

/-- An RS write lands in the shadow copy, over what the shadow already holds (R53, R56). -/
def putShadow (own : Option Nat) (addr mask val : Nat) (s : State) : State :=
  let old := (s.shadowAt addr).getD (s.reg addr).toNat
  { s with shadow := s.shadow.filter (fun w => w.addr != addr) ++ [⟨own, addr, BitVec.ofNat 32 (mergeBits mask old val)⟩] }

/-- Pending shadow writes of a register are discarded (R54). -/
def dropShadow (addr : Nat) (s : State) : State := { s with shadow := s.shadow.filter fun w => w.addr != addr }

/-- The RS bits of the register at an address. -/
def rsMask (addr : Nat) : Nat :=
  match regAt addr with
  | some (r, _, _) => accMask .rs r.fields
  | none => 0

/-- A shadow word takes effect. LANE.TXFIR has its own rule (R526) and never comes here. -/
def applyShadow (w : ShadowWrite) (s : State) : State :=
  s.setN w.addr (mergeBits (rsMask w.addr) (s.reg w.addr).toNat w.val.toNat)

/-- All pending shadow writes of a station apply together (R55). -/
def applyShadows (n : Nat) (s : State) : State :=
  let mine := s.shadow.filter fun w => w.own == some n
  mine.foldl (fun s w => applyShadow w s) { s with shadow := s.shadow.filter fun w => w.own != some n }

/-- All pending shadow writes of a station are discarded; SHADOW_DISCARD when there was one (R93). -/
def discardShadows (n : Nat) (s : State) : State :=
  let t := { s with shadow := s.shadow.filter fun w => w.own != some n }
  if s.shadow.any fun w => w.own == some n then raise (evStn n 14) t else t

/-- REPORT 3 is ignored: the field and its shadow keep their values (R322). -/
def sealWriteIgnored (addr val : Nat) : Bool :=
  decide (Reg.mboxSealcfg 0 ≤ addr) && decide (addr ≤ Reg.mboxSealcfg 15) &&
    (addr - Reg.mboxSealcfg 0) % 0x20 == 0 && val % 4 == 3

/-- A write of `val` by initiator `ini` to the fields of register `r`, copy `i`, at `addr` (R10, R14): RW and W1C at once,
RF unless its owner is armed, RS at once or to the shadow. RO and WO fields keep what they hold. -/
def writeFields (r : RegInfo) (i ini addr val : Nat) (s : State) : State :=
  let own := s.ownerOf r.owner i
  let armed := s.ownerArmed own
  let cur := (s.reg addr).toNat
  let refused := if armed then rfChanged r.fields cur val else 0
  let rw := accMask .rw r.fields
  let rf := accMask .rf r.fields
  let rs := if sealWriteIgnored addr val then 0 else accMask .rs r.fields
  let w1c := accMask .w1c r.fields
  let now := mergeBits (rw + (rf ^^^ refused)) cur val
  let now := now ^^^ (now &&& (val &&& w1c))
  let s := s.setN addr now
  let s :=
    if rs == 0 then s
    else match own with
      | .device => putShadow none addr rs val s
      | .station n => if armed then putShadow (some n) addr rs val s else dropShadow addr (s.setN addr (mergeBits rs now val))
      | .nobody => dropShadow addr (s.setN addr (mergeBits rs now val))
  if refused == 0 then s else dropWrite ini addr own s

/-- A saturating counter or window whose CLR field is written with 1 returns to 0 (R72). -/
def clearCount (r : RegInfo) (addr val : Nat) (s : State) : State :=
  match r.fields.find? fun f => f.acc == .wo && f.lo == 30 with
  | some f =>
    if bitAt val f.lo then
      match r.fields.find? fun f => f.acc == .ro && f.lo == 0 with
      | some c => s.fset addr c.hi c.lo 0
      | none => s
    else s
  | none => s

/-- An access to an unmapped address (R1018). -/
def busError (ini addr : Nat) (wr : Bool) (s : State) : State :=
  raise 474 (((s.setN Reg.sysBusErrAddrLo (addr % 2 ^ 32)).setN Reg.sysBusErrAddrHi (addr / 2 ^ 32 % 256)).setN
    Reg.sysBusErrSrc ((if wr then 256 else 0) + ini))

end Sys2Proof.Machine
end

