-- ==== Sys2Proof/Machine/Bales.lean ====
section
/-! DEFINITION. Bales and station blocks: admission, the bale boundary, release, and the switch of a station block (R21,
R25, R26, R29, R52 to R62, R93, R126 to R142, R355 to R361, R453, R496, R1085). -/

namespace Sys2Proof.Machine

/-! ## Lines of a bale -/

/-- Lines that a camera delivers for a bale (R449). -/
def State.linesOf (s : State) (c : CamDecl) : Nat :=
  c.lines + (if fld c.pixfmt 3 2 == 2 then 2 * s.fget (Reg.intakeCamCfg c.cam) 19 16 else 0)

/-- Every plane of a line has arrived. -/
def Bale.lineDone (b : Bale) (c : CamDecl) (n : Nat) : Bool :=
  (List.range c.planes).all fun p => b.raw.any fun r => r.cam == c.cam && r.line == n && r.plane == p && r.done

/-- Lines of a camera that have arrived whole. -/
def Bale.linesDone (b : Bale) (c : CamDecl) : Nat :=
  (b.raw.filter fun r => r.cam == c.cam && r.done && r.plane == 0 && b.lineDone c r.line).length

/-- Lines of a bale's cameras have not arrived. -/
def State.lacks (s : State) (b : Bale) : Bool := (s.camsOf b.stn).any fun c => decide (b.linesDone c < s.linesOf c)

/-- A bale waits for lines of its cameras (R496). -/
def State.capturing (s : State) (b : Bale) : Bool := b.kind == 0 && s.lacks b

/-! ## Bale store and slots -/

/-- Bale-store bytes that a bale of block `b` takes (R187, R311, R411, R449, R455). -/
def State.storeBytes (s : State) (b : StnBlock) : Nat :=
  match s.dev with
  | none => 0
  | some d => baleAreas d b + sumN ((d.camsOf b.stn).map fun c => s.linesOf c * c.width * c.bpp * c.planes)

/-- Bytes of a camera's lines in a bale's raw area (R451). -/
def State.rawLen (s : State) (c : CamDecl) : Nat := s.linesOf c * c.planes * c.width * c.bpp

/-- Where the lines of a camera lie in a bale's raw area: camera after camera (log 48). -/
def State.rawBase (s : State) (b : Bale) (cam : Nat) : Nat :=
  b.base + sumN (((s.camsOf b.stn).takeWhile fun c => c.cam != cam).map s.rawLen)

/-- Where a bale's vision area lies: after its raw lines (log 48). -/
def State.visBase (s : State) (b : Bale) : Nat := b.base + sumN ((s.camsOf b.stn).map s.rawLen)

/-- Where a bale's spill area lies: after its vision area (log 48). -/
def State.spillBase (s : State) (b : Bale) (x : IspCtx) (c : CamDecl) : Nat := s.visBase b + visionArea x c

/-- Where the memory rows of decoder `k` of a bale lie: after its spill area (R411, log 48). -/
def State.memBase (s : State) (b : Bale) (blk : StnBlock) (x : IspCtx) (c : CamDecl) (k : Nat) : Nat :=
  s.spillBase b x c + spillArea blk x c + decoderArea { blk with decs := blk.decs.take k }

/-- Bale-store bytes that a station's bales hold. -/
def State.storeUsed (s : State) (n : Nat) : Nat :=
  sumN ((s.balesOf n).map fun b => ((s.blockOf b).map s.storeBytes).getD 0)

/-- Where the areas of a further bale of block `b` go: the first place in the station's bale store beside those of its bales. Where the
free bytes suffice in sum alone, the place overlaps another (log 48). -/
def State.placeBale (s : State) (n : Nat) (b : StnBlock) : Nat :=
  match s.env? n with
  | none => 0
  | some e =>
    let lo := e.baleBase * 0x100000
    (placeIn lo (lo + e.baleSize * 0x100000) (s.storeBytes b)
      ((s.balesOf n).map fun x => (x.base, ((s.blockOf x).map s.storeBytes).getD 0))).getD lo

/-- A further bale of block `b` fits in the station's bale store and job slots (R25, R355, R356). -/
def State.fits (s : State) (n : Nat) (b : StnBlock) : Bool :=
  decide (s.storeUsed n + s.storeBytes b ≤ ((s.env? n).map Env.baleSize).getD 0 * 0x100000) &&
    decide (s.slotsReserved n + b.baleSlots ≤ s.maxJobs n)

/-- The block that admits the station's next bale: a pending block, which switches in at that bale's first line (R48, R52,
R127), else the active block. -/
def State.admitting? (s : State) (n : Nat) : Option StnBlock :=
  match (s.stn n).pend.bind s.block? with
  | some b => some b
  | none => s.active? n

/-! ## A new bale -/

/-- A bale as it is at admission: nothing received, vectors all NaN (R427, R724). -/
def newBale (id stn uid kind tag : Nat) (entry : Option Nat) (pTrig pDead tseq : Nat) : Bale :=
  { id := id, stn := stn, uid := uid, kind := kind, tag := tag, entry := entry, pTrig := pTrig, pDead := pDead, tseq := tseq,
    started := false, rs := [], bl := [], trig := [], raw := [], vis := [], left := [], passes := [], stripes := 0,
    inst := none, tiles := [], layer := 0, input := [], rows := [], scores := [], meas := [], feats := [], trees := [], strings := [],
    seals := [], regions := [], roi := none, ensDone := none, badLayer := false, reexec := 0, held := false, stopped := false,
    judging := false, tries := 0, convoy := [], sent := [], step := none, base := 0, begun := [], again := false }

/-- A copy of a bale for a shadow station, or a drop (R132, R133). The copy's own number lies above all bale IDs. -/
def copyShadow (b : Bale) (n : Nat) (s : State) : State :=
  match s.active? n with
  | none => s
  | some blk =>
    if s.fits n blk then
      { s with
        nextUid := s.nextUid + 1
        bales := s.bales ++ [{ newBale (2 ^ 32 + s.nextUid) n blk.uid 1 b.id none b.pTrig 0 0 with base := s.placeBale n blk }] }
    else raise (evStn n 5) (bump (Reg.khanStnDrop n) s)

/-- Shadow stations of a station (R132). -/
def State.shadowsOf (s : State) (n : Nat) : List Nat :=
  (s.envs.filter fun e => e.shadow && e.parent == n).map Env.stn

/-- A bale is admitted (R25): it takes its milestone's entry, a capture that waits for its camera, and a copy for each shadow
station. -/
def admitBale (n uid id e pTrig pDead tseq : Nat) (s : State) : State :=
  let base := ((s.block? uid).map (s.placeBale n)).getD 0
  let b := { newBale id n uid 0 id (some e) pTrig pDead tseq with base := base, trig := (s.camsOf n).map fun c => (c.cam, 0) }
  let s := { s with bales := s.bales ++ [b] }
  let s := match s.capture with
    | some (c, none) => if (s.camsOf n).any fun d => d.cam == c then { s with capture := some (c, some id) } else s
    | _ => s
  (s.shadowsOf n).foldl (fun s k => copyShadow b k s) s

/-- A bale that cannot be admitted (R26, R357). -/
def refuseBale (n : Nat) (s : State) : State := raise (evStn n 5) (bump (Reg.khanStnDrop n) s)

/-- A trigger's bale is admitted or dropped (R25, R228, R356, R386, R496). -/
def tryAdmit (n id e pTrig pDead tseq : Nat) (s : State) : State :=
  match s.admitting? n with
  | none => refuseBale n s
  | some b =>
    let busy := if (s.balesOf n).any s.capturing then s.camsOf n else []
    if !busy.isEmpty then refuseBale n (busy.foldl (fun s c => bump (Reg.intakeCamOvlp c.cam) s) s)
    else if !s.tilesOk n || !s.fits n b then refuseBale n s
    else admitBale n b.uid id e pTrig pDead tseq s

/-! ## Release -/

/-- Station blocks that nothing runs any more leave, and their payload space is free (R130). -/
def sweepBlocks (s : State) : State :=
  { s with blocks := s.blocks.filter fun b =>
      (s.stations.any fun t => t.active == some b.uid || t.pend == some b.uid) || (s.bales.any fun x => x.uid == b.uid) ||
        s.decs.any fun d => d.2.uid == b.uid }

/-- A decoder's place in TREE.DEC_STAT. -/
def showDec (n k st pos : Nat) (s : State) : State :=
  (s.fset (Reg.treeDecStat n k) 29 28 st).fset (Reg.treeDecStat n k) 23 16 pos

/-- The sequences of a station that are dispatched. -/
def State.runningDecs (s : State) (n : Nat) : List ((Nat × Nat) × Dec) := s.decs.filter fun d => d.1.1 == n && d.2.running

/-- What names a sequence among those of its station: decoder, bale, interactive. -/
def decKey (d : (Nat × Nat) × Dec) : Nat × Nat × Bool := (d.1.2, d.2.bale, d.2.interactive)

/-- The sequence that the decode tiles serve next: an interactive one while its share of the span is no more than DECODE_FLOOR, else the
in-line one that comes first (R363, R365). -/
def State.nextTurn (s : State) (n : Nat) : Option (Nat × Nat × Bool) :=
  let rs := s.runningDecs n
  let sh := (s.stn n).dec
  let floor := ((s.env? n).map Env.decFloor).getD 0
  let inl := (sortBy (fun (a b : (Nat × Nat) × Dec) =>
    s.jobBefore ⟨n, a.2.bale, .decode, a.1.2, true⟩ ⟨n, b.2.bale, .decode, b.1.2, true⟩) (rs.filter fun d => !d.2.interactive)).head?
  match rs.find? fun d => d.2.interactive, inl with
  | some a, some b => some (decKey (if floor != 0 && sh.inter * 1000 ≤ floor * sh.all then a else b))
  | some a, none => some (decKey a)
  | none, some b => some (decKey b)
  | none, none => none

/-- TREE.DEC_STAT of a decoder: running while it has the decode tiles, waiting while a sequence of it waits for them. -/
def refreshDec (n k : Nat) (s : State) : State :=
  match s.decs.find? fun d => d.1 == (n, k) && d.2.running with
  | some d => showDec n k (if (s.stn n).dec.turn == some (decKey d) then 1 else 2) d.2.pos s
  | none => showDec n k (if s.decs.any fun d => d.1 == (n, k) then 2 else 0) 0 s

/-- A token step ends or a sequence goes: its time counts in the span of 10 ms, and the next sequence gets the decode tiles (R365). -/
def passTurn (n : Nat) (s : State) : State :=
  let sh := (s.stn n).dec
  let dt := if sh.turn.isSome then s.now - sh.start else 0
  let mine := if (sh.turn.map fun t => t.2.2).getD false then dt else 0
  let sh := if 2500000 ≤ s.now - sh.span then { sh with span := s.now, inter := 0, all := 0 }
    else { sh with inter := sh.inter + mine, all := sh.all + dt }
  let s := s.setStn n fun t => { t with dec := { sh with start := s.now } }
  let s := s.setStn n fun t => { t with dec := { t.dec with turn := s.nextTurn n } }
  refreshDec n 1 (refreshDec n 0 s)

/-- The sequences of a station have changed: a turn stands until the token step in progress ends. -/
def settleTurn (n : Nat) (s : State) : State :=
  if (s.runningDecs n).any fun d => (s.stn n).dec.turn == some (decKey d) then refreshDec n 1 (refreshDec n 0 s) else passTurn n s

/-- The jobs and decoder sequences of a bale that holds no reservation any more: queued ones leave; a dispatched stripe job
runs to its end, and a dispatched sequence to its next token boundary (R364, R438). -/
def dropWork (id : Nat) (s : State) : State :=
  let gone := s.decs.filter fun d => d.2.bale == id && !d.2.interactive && !d.2.running
  let s : State := { s with
    jobs := s.jobs.filter fun j => j.bale != id || j.running || j.kind == .explain
    decs := s.decs.filter fun d => d.2.bale != id || d.2.interactive || d.2.running }
  gone.foldl (fun s d => settleTurn d.1.1 s) s

/-- The reservations of one bale are released: its slots, its store space, its lines and the triggers held back for them, its place on
the tiles. -/
def releaseOne (id : Nat) (s : State) : State :=
  match s.bale? id with
  | none => s
  | some b =>
    let lacking := s.capturing b
    let s := dropWork id { s with
      bales := s.bales.filter fun x => x.id != id
      cams := s.cams.map fun (c : Cam) => { c with delayed := c.delayed.filter fun p => p.1 != id } }
    let s := match s.capture with
      | some (c, some x) => if x == id && lacking then { s with capture := some (c, none) } else s
      | _ => s
    restoreAll (releaseRegion b.stn (sweepTiles b.stn (regionSettle b.stn (sweepBlocks s))))

/-- A bale's reservations are released (R29, R33, R361). Lines that arrive after it are discarded, so a shadow copy that still waits for
some of them goes with it, as a copy that does not fit would (R133, log 50). -/
def releaseBale (id : Nat) (s : State) : State :=
  let gone := s.bales.filter fun x => x.kind == 1 && x.tag == id && s.lacks x && id < 2 ^ 32
  gone.foldl (fun s x => refuseBale x.stn (releaseOne x.id s)) (releaseOne id s)

/-! ## Switching a block -/

/-- The payload of a caption packet (R419). -/
def captionWord (bale : Nat) (last cut : Bool) (dec pos tok : Nat) (none_ : Bool) : Dword :=
  BitVec.ofNat 64 (bale % 2 ^ 32 * 2 ^ 32 + b2n last * 2 ^ 31 + b2n cut * 2 ^ 30 + dec % 2 * 2 ^ 29 + b2n none_ * 2 ^ 20
    + pos % 256 * 2 ^ 12 + tok % 4096)

/-- An interactive sequence stops with a packet that carries no token (R440). -/
def stopExplain (n k : Nat) (d : Dec) (s : State) : State :=
  let s := { s with
    decs := s.decs.filter fun x => !(x.1 == (n, k) && x.2.interactive)
    jobs := s.jobs.filter fun j => !(j.stn == n && j.kind == .explain && j.idx == k) }
  settleTurn n (bump (Reg.treeDecCut n k) (mbPut n 2 [captionWord d.bale true true k d.pos 0 true] s))

/-- The interactive sequences of a station stop (R441). -/
def stopExplains (n : Nat) (s : State) : State :=
  (s.decs.filter fun d => d.1.1 == n && d.2.interactive).foldl (fun s d => stopExplain n d.1.2 d.2 s) s

/-- A station block switches in (R93, R129, R385, R441). -/
def switchBlock (n uid : Nat) (s : State) : State :=
  match s.block? uid with
  | none => s
  | some b =>
    let s := stopExplains n (discardShadows n s)
    let s := s.setStn n fun t =>
      { t with active := some uid, pend := if t.pend == some uid then none else t.pend, decTiles := min b.decTiles t.tiles.length }
    let s := (s.setN (Reg.mflStnGen n) b.gen)
    raise (evStn n 6) (sweepBlocks (reshape n s))

/-- Swaps that are ready complete at the boundary at which a new block switches in (R234); one whose old tile has stripe jobs of an
earlier bale to come follows at a dispatch (R329). -/
def readySwaps (n : Nat) (s : State) : State :=
  (s.retiring.filter fun r => (s.tile r.tile).owner == some n && s.swapReady none r).foldl (fun s r => switchSpare r s) s

/-- The registers with RS fields of a station, as they stand (R57, R59). -/
def State.rsWords (s : State) (n : Nat) : List (Nat × Word) :=
  s.regs.filter fun p =>
    match regAt p.1 with
    | some (r, i, _) => accMask .rs r.fields != 0 && s.ownerOf r.owner i == .station n
    | none => false

/-- An RS word of a bale: the one that was in effect at its first line. -/
def Bale.rsGet (b : Bale) (a hi lo : Nat) : Nat := fld (RegFile.get b.rs a).toNat hi lo

/-- The black levels in effect (R453). -/
def State.blackLevels (s : State) (n : Nat) : List (Nat × Nat × Int) :=
  (s.camsOf n).flatMap fun c => (List.range c.planes).map fun p => (c.cam, p, (s.cam c.cam).bl.getD p 0)

/-- The first line of an admitted bale: its station's bale boundary (R52). The block that admitted the bale switches in if
it is not active yet; otherwise the pending RS writes apply together (R55, R93, R127). Regions change (R227, R373, R375)
and retiring tiles get their first qualifying bale (R214, R216). -/
def baleBoundary (id : Nat) (s : State) : State :=
  match s.bale? id with
  | none => s
  | some b =>
    if b.started then s
    else
      let n := b.stn
      let s := if (s.stn n).active == some b.uid then applyShadows n s else readySwaps n (switchBlock n b.uid s)
      let s := restoreAll (regionBoundary n s)
      let s := { s with retiring := s.retiring.map fun (r : Retire) =>
        if (s.tile r.tile).owner == some n && r.from_.isNone then { r with from_ := some id } else r }
      s.setBale id fun x => { x with started := true, rs := s.rsWords n, bl := s.blackLevels n }

/-! ## Pending blocks -/

/-- A bale that has been admitted and not started goes on under another block of its station (R137, R141). Where that block needs more
store or slots than the station has, the bale cannot stay admitted and goes as one that was never admitted (R26, R356, R357, log 48). -/
def repoint (id : Nat) (b : StnBlock) (s : State) : State :=
  let others : State := { s with bales := s.bales.filter fun x => x.id != id }
  if others.fits b.stn b then s.setBale id fun x => { x with uid := b.uid, base := others.placeBale b.stn b }
  else releaseBale id (refuseBale b.stn s)

/-- The bales that were admitted under a pending block `o` and wait for their first line go on under block `b`. -/
def repointAll (o : Nat) (b : StnBlock) (s : State) : State :=
  (s.bales.filter fun x => x.uid == o && !x.started).foldl (fun s x => repoint x.id b s) s

/-- A station block enters its shadow slot (R126, R137); it switches in at once when the station is not armed (R128). -/
def installBlock (b : StnBlock) (s : State) : State :=
  let n := b.stn
  let old := (s.stn n).pend
  let s := { s with blocks := s.blocks ++ [b] }
  let s := s.setStn n fun t => { t with pend := some b.uid }
  let s := match old with
    | some o => repointAll o b (raise (evStn n 14) s)
    | none => s
  sweepBlocks (if s.armed n then s else switchBlock n b.uid s)

/-- A pending block is discarded (R141). -/
def cancelPending (n : Nat) (s : State) : State :=
  match (s.stn n).pend with
  | none => s
  | some o =>
    let s := s.setStn n fun t => { t with pend := none }
    sweepBlocks (match s.active? n with
      | some b => repointAll o b s
      | none => (s.bales.filter fun x => x.uid == o && !x.started).foldl (fun s x => releaseBale x.id (refuseBale n s)) s)

/-- The moment at which a station stops being armed (R128, R339, R388, R1085). -/
def disarmed (n : Nat) (s : State) : State :=
  let s := match (s.stn n).pend with
    | some u => switchBlock n u s
    | none => applyShadows n s
  releaseRegion n (cancelGrants n s)

/-- What follows when station `n`, armed before, is armed no more. -/
def settleArm (n : Nat) (was : Bool) (s : State) : State := if was && !s.armed n then disarmed n s else s

/-- CANCEL_PENDING (R141). -/
def execCancelPending (_ini stn : Nat) (s : State) : Host.Outcome State Fault Refusal :=
  done s (cancelPending stn s.begin_)

end Sys2Proof.Machine
end

