-- ==== Sys2Proof/Machine/Convoy.lean ====
section
/-! DEFINITION. Convoy groups and steps, and what follows a bale's last stripe job (R358, R359, R415, R416, R785, R786, R791
to R824). -/

namespace Sys2Proof.Machine

/-! ## Vectors of a bale (R427, R724) -/

/-- An entry of a sparse vector whose unlisted entries are NaN. -/
def vecGet (xs : List (Nat × Nat)) (i : Nat) : Nat := ((xs.find? fun p => p.1 == i).map Prod.snd).getD Fmt.fp32.nanCode

/-- An entry of a sparse vector replaced. -/
def vecSet (xs : List (Nat × Nat)) (i c : Nat) : List (Nat × Nat) :=
  let r := xs.filter fun p => p.1 != i
  if c == Fmt.fp32.nanCode then r else r ++ [(i, c)]

/-- Entries written to a sparse vector. -/
def vecPut (xs es : List (Nat × Nat)) : List (Nat × Nat) := es.foldl (fun a p => vecSet a p.1 p.2) xs

/-- A vector by its VEC code: class scores, measurements or tree features (R825). -/
def Bale.vec (b : Bale) (v : Nat) : List (Nat × Nat) := match v with
  | 0 => b.scores
  | 1 => b.meas
  | _ => b.feats

/-- A vector by its VEC code changed. -/
def Bale.putVec (b : Bale) (v : Nat) (es : List (Nat × Nat)) : Bale := match v with
  | 0 => { b with scores := vecPut b.scores es }
  | 1 => { b with meas := vecPut b.meas es }
  | _ => { b with feats := vecPut b.feats es }

/-- Entries of a vector (R807). -/
def vecLen (v : Nat) : Nat := if v < 2 then 256 else 2047

/-! ## Groups -/

/-- A member entry names this device (R170). -/
def memSelf (m : Nat) : Bool := bitAt m 15
/-- Link of a peer member. -/
def memLink (m : Nat) : Nat := fld m 9 6
/-- Endpoint ADDR of a peer member. -/
def memAddr (m : Nat) : Nat := fld m 5 0

/-- This device's place in the list. -/
def GroupDecl.self (d : GroupDecl) : Nat := (d.members.findIdx? memSelf).getD 0

/-- The peer members with their indexes. -/
def GroupDecl.peers (d : GroupDecl) : List (Nat × Nat) := (indexed d.members).filter fun p => !memSelf p.2

/-- DIGEST (R794). -/
def State.digest (s : State) (d : GroupDecl) : Nat :=
  Crypto.crc64 (d.members.flatMap fun m =>
    leBytes 8 (if memSelf m then s.otp.serial else ((s.epDecl? (memLink m) (memAddr m)).map EpDecl.serial).getD 0))

/-- The group is VALID (R793). -/
def State.groupValid (s : State) (d : GroupDecl) : Bool := d.peers.all fun p => (s.group d.group).hello.contains p.1

/-- CONVOY.GRP_STAT shows the group (R825). -/
def showGroup (d : GroupDecl) (s : State) : State :=
  ((s.setFlag (Reg.convoyGrpStat d.group) 31 (s.groupValid d)).fset (Reg.convoyGrpStat d.group) 21 16 d.self).fset
    (Reg.convoyGrpStat d.group) 14 8 d.members.length

/-- CV_HELLO for each group to every peer member (R792). -/
def sendHellos (s : State) : State :=
  ((s.dev.map DevBlock.groups).getD []).foldl (fun s d => d.peers.foldl (fun (s : State) p =>
    sendHello (memLink p.2) d.group d.members.length d.self (s.flag Reg.sysDetMode 0) (s.digest d) s) s) s

/-- Groups that a station's bales pass through, in ascending index (R799). -/
def State.groupsOf (s : State) (n : Nat) : List GroupDecl :=
  (List.range 32).filterMap fun g =>
    match s.groupDecl? g with
    | some d => if d.stn == n && s.flag (Reg.convoyGrpCfg g) 15 then some d else none
    | none => none

/-! ## Sending contributions -/

/-- A contribution goes to one peer member: at once when it is ACTIVE, else it is held until it is (R818, R819). A member that is
DOWN or REJECTED gets nothing. -/
def sendTo (d : GroupDecl) (p : Nat × Nat) (absent : Bool) (tag base : Nat) (vals : List Nat) (s : State) : State :=
  let l := memLink p.2
  let a := memAddr p.2
  let st := s.epState l a
  if st == 4 then sendCvData l d.group d.self absent tag base vals s
  else if st < 2 then s
  else s.setGroup d.group fun g => { g with out := g.out ++ [⟨p.1, tag, absent, base, vals⟩] }

/-- A contribution goes to every other member. -/
def sendAll (d : GroupDecl) (absent : Bool) (tag base : Nat) (vals : List Nat) (s : State) : State :=
  d.peers.foldl (fun s p => sendTo d p absent tag base vals s) s

/-- Held contributions go to a peer that has become ACTIVE (R819). -/
def flushPeer (l a : Nat) (s : State) : State :=
  ((s.dev.map DevBlock.groups).getD []).foldl (fun (s : State) d =>
    match d.peers.find? fun p => memLink p.2 == l && memAddr p.2 == a with
    | some p =>
      let mine := (s.group d.group).out.filter fun c => c.member == p.1
      mine.foldl (fun s c => sendCvData l d.group d.self c.absent c.tag c.base c.vals s)
        (s.setGroup d.group fun g => { g with out := g.out.filter fun c => c.member != p.1 })
    | none => s) s

/-- A TAG whose local step has ended: later data for it is stale (R811). -/
def endTag (g tag : Nat) (s : State) : State :=
  s.setGroup g fun k =>
    { k with data := k.data.filter fun c => c.tag != tag, ended := if k.ended.contains tag then k.ended else tag :: k.ended }

/-- ABSENT for the steps of a part that will have no contribution (R812). -/
def sendAbsents (gs : List Nat) (tag : Nat) (s : State) : State :=
  gs.foldl (fun (s : State) g =>
    match s.groupDecl? g with
    | some d => sendAll d true tag 0 [] (endTag g tag s)
    | none => s) s

/-- The part of a milestone entry gets no further contribution: ABSENT for each step that still waits for one. -/
def absentEntry (e : Nat) (s : State) : State :=
  match s.mile? e with
  | some m => (sendAbsents m.owed m.tseq s).setMile e fun m => { m with owed := [] }
  | none => s

/-! ## What follows the last stripe job (R358, R359, R415, R416) -/

/-- The groups whose step a bale has still to complete. A shadow copy or a replay takes no step. -/
def State.stepsLeft (s : State) (b : Bale) : List GroupDecl :=
  if b.kind == 0 then (s.groupsOf b.stn).filter fun d => !(b.convoy.any fun c => c.1 == d.group) else []

/-- The verdict units start once the tree job and every in-line sequence have ended (R416). -/
def checkReady (id : Nat) (s : State) : State :=
  match s.bale? id with
  | none => s
  | some b =>
    match s.blockOf b with
    | none => s
    | some blk =>
      let treesDone := blk.trees.isEmpty || b.ensDone == some blk.trees.length
      let decsDone := blk.inlineDecs.all fun d => b.strings.any fun x => x.1 == d.1
      if s.stripesEnded b && (s.stepsLeft b).isEmpty && treesDone && decsDone && !b.stopped then
        s.setBale id fun b => { b with judging := true }
      else s

/-- Results of completed steps stay in the bale's vectors, also after a re-execution (R803). -/
def reapply (id : Nat) (s : State) : State :=
  s.setBale id fun b => b.convoy.foldl (fun b c => b.putVec (s.fget (Reg.convoyGrpCfg c.1) 5 4) c.2) b

/-- A bale whose stripe jobs and convoy steps have ended: its tree job is queued, and a decoder without a region yields an
empty string (R359, R415, R801). -/
def afterSteps (id : Nat) (s : State) : State :=
  let s := reapply id s
  match s.bale? id with
  | none => s
  | some b =>
    match s.blockOf b with
    | none => s
    | some blk =>
      let idle := blk.inlineDecs.filter fun d => b.roi.isNone && !(b.strings.any fun x => x.1 == d.1)
      let s := if b.again then s
        else (idle.foldl (fun s d => bump (Reg.treeDecNoroi b.stn d.1) s) s).setBale id fun b => { b with again := true }
      let s := s.setBale id fun b =>
        { b with strings := b.strings ++ idle.map fun d => (d.1, []), ensDone := some 0, step := none }
      let s := if blk.trees.isEmpty then s else enqueue ⟨b.stn, id, .tree, 0, false⟩ s
      checkReady id s

/-! ## Steps -/

/-- The configuration of a group's operation (R825). -/
structure StepCfg where
  /-- OP. -/
  op : Nat
  /-- VEC. -/
  vec : Nat
  /-- ROOT. -/
  root : Nat
  /-- BASE. -/
  base : Nat
  /-- LEN. -/
  len : Nat

/-- A group's operation as its registers hold it. -/
def State.stepCfg (s : State) (g : Nat) : StepCfg :=
  ⟨s.fget (Reg.convoyGrpCfg g) 2 0, s.fget (Reg.convoyGrpCfg g) 5 4, s.fget (Reg.convoyGrpCfg g) 13 8,
    s.fget (Reg.convoyGrpRange g) 10 0, s.fget (Reg.convoyGrpRange g) 26 16⟩

/-- The entries that member `k` contributes: the first index and how many (R804, R809). -/
def StepCfg.part (c : StepCfg) (k : Nat) : Nat × Nat :=
  match c.op with
  | 0 => (c.base, 0)
  | 1 => (c.base, if k == c.root then c.len else 0)
  | 2 => (c.base + k * c.len, c.len)
  | _ => (c.base, c.len)

/-- An FP32 entry as INT32 (R804). -/
def toInt32 (c : Nat) : Int := sInt 32 (Fmt.int32.intOfVal (Val.of32 c)).1

/-- The result of a step: the entries that it writes (R804 to R806). `ds` are the contributions in the order of arrival. -/
def StepCfg.result (c : StepCfg) (det : Bool) (ds : List CvData) : List (Nat × Nat) :=
  let range := List.range c.len
  let of := fun (k : Nat) => ((ds.find? fun d => d.member == k).map CvData.vals).getD []
  match c.op with
  | 0 => []
  | 1 => range.map fun i => (c.base + i, (of c.root).getD i Fmt.fp32.nanCode)
  | 2 => ds.flatMap fun d => range.map fun i => (c.base + d.member * c.len + i, d.vals.getD i Fmt.fp32.nanCode)
  | 3 => range.map fun i =>
      (c.base + i, (Val.ofInt (wrap32 (ds.foldl (fun a d => a + toInt32 (d.vals.getD i Fmt.fp32.nanCode)) 0))).to32)
  | _ =>
    let order := if det then sortBy (fun a b => decide (a.member ≤ b.member)) ds else ds
    range.map fun i => (c.base + i, (combine (order.map fun d => Val.of32 (d.vals.getD i Fmt.fp32.nanCode))).to32)

/-- The contributions that this device holds for a TAG. -/
def State.held (s : State) (g tag : Nat) : List CvData := (s.group g).data.filter fun c => c.tag == tag

/-- Members whose contribution for a TAG is missing. -/
def State.missing (s : State) (d : GroupDecl) (tag : Nat) : List Nat :=
  (List.range d.members.length).filter fun k => !(s.held d.group tag).any fun c => c.member == k && !c.absent

/-- A peer member that is DOWN or REJECTED and whose contribution is missing (R814). -/
def State.deadPeer (s : State) (d : GroupDecl) (tag : Nat) : Option Nat :=
  (d.peers.find? fun p => s.epState (memLink p.2) (memAddr p.2) < 2 && (s.missing d tag).contains p.1).map Prod.fst

/-- A bale ends without a verdict while its milestone is ARMED: no further job of it is dispatched, and what R910 keeps stays until the
milestone takes its default action (R29, R817, R910, R913). -/
def endBale (id : Nat) (s : State) : State := dropWork id (s.setBale id fun b => { b with stopped := true, judging := false, step := none })

/-- A step fails (R814, R816, R817): the registers of the group record it, the bale is aborted without re-execution, and its
later steps get ABSENT. -/
def failStep (d : GroupDecl) (id cause member : Nat) (s : State) : State :=
  match s.bale? id with
  | none => s
  | some b =>
    let g := d.group
    let mask := sumN ((s.missing d b.tseq).map fun k => 2 ^ k)
    let s := ((s.setN (Reg.convoyGrpBlame g) (cause % 4 * 2 ^ 16 + member % 64 * 2 ^ 8)).setN (Reg.convoyGrpMissLo g)
      (mask % 2 ^ 32)).setN (Reg.convoyGrpMissHi g) (mask / 2 ^ 32)
    let s := endTag g b.tseq (raise (evGroup g) (bump (Reg.convoyGrpFail g) s))
    let s := match b.entry with
      | some e => absentEntry e s
      | none => s
    endBale id s

/-- The step of a bale in group `d` as it stands: it completes, fails or goes on (R802, R814). -/
def judgeStep (d : GroupDecl) (id : Nat) (s : State) : State :=
  match s.bale? id with
  | none => s
  | some b =>
    if b.step != some d.group then s
    else
      let ds := s.held d.group b.tseq
      match ds.find? CvData.absent with
      | some c => failStep d id 1 c.member s
      | none =>
        if (s.missing d b.tseq).isEmpty then
          let cfg := s.stepCfg d.group
          let es := cfg.result (s.flag Reg.sysDetMode 0) ds
          endTag d.group b.tseq (bump (Reg.convoyGrpDone d.group)
            (s.setBale id fun b => { b.putVec cfg.vec es with convoy := b.convoy ++ [(d.group, es)], step := none }))
        else match s.deadPeer d b.tseq with
          | some k => failStep d id 2 k s
          | none =>
            if s.groupValid d then s
            else failStep d id 2 ((s.missing d b.tseq).headD 0) s

/-- A step starts (R799, R800): the contribution goes out, once for each bale (R803), and counts as arrived here. -/
def startStep (d : GroupDecl) (id : Nat) (s : State) : State :=
  let s := reapply id s
  match s.bale? id with
  | none => s
  | some b =>
    let g := d.group
    let s := s.setBale id fun b => { b with step := some g, sent := if b.sent.contains g then b.sent else b.sent ++ [g] }
    let s :=
      if b.sent.contains g then s
      else
        let c := s.stepCfg g
        let p := c.part d.self
        let vals := (List.range p.2).map fun i => vecGet (b.vec c.vec) (p.1 + i)
        let s := sendAll d false b.tseq p.1 vals s
        let s := match b.entry with
          | some e => s.setMile e fun m => { m with owed := m.owed.filter (· != g) }
          | none => s
        s.setGroup g fun k => { k with data := k.data ++ [⟨d.self, b.tseq, false, p.1, vals⟩] }
    judgeStep d id s

/-- A bale whose stripe jobs have ended goes through its groups in ascending index, and on to its tree job (R785, R799, R801).
`fuel` bounds the groups. -/
def advanceFuel : Nat → Nat → State → State
  | 0, _, s => s
  | fuel + 1, id, s =>
    match s.bale? id with
    | none => s
    | some b =>
      if !s.stripesEnded b || b.stopped || b.ensDone.isSome then s
      else match b.step with
        | some _ => s
        | none =>
          match s.stepsLeft b with
          | [] => afterSteps id s
          | d :: _ => advanceFuel fuel id (startStep d id s)

/-- A bale moves on as far as its convoy steps allow. -/
def advance (id : Nat) (s : State) : State := advanceFuel 33 id s

/-- Running steps are judged again after a change that could complete or fail them. -/
def judgeAll (s : State) : State :=
  s.bales.foldl (fun (s : State) b =>
    match (s.bale? b.id).bind Bale.step with
    | some g => match s.groupDecl? g with
      | some d => advance b.id (judgeStep d b.id s)
      | none => s
    | none => s) s

/-! ## Received messages -/

/-- The member of a group that a link leads to. -/
def GroupDecl.memberAt (d : GroupDecl) (l : Nat) : Option Nat := (d.peers.find? fun p => memLink p.2 == l).map Prod.fst

/-- CV_HELLO (R793, R795, R822). -/
def cvHello (link group count index : Nat) (det : Bool) (digest : Nat) (s : State) : State :=
  match s.groupDecl? group with
  | none => s
  | some d =>
    match d.memberAt link with
    | none => s
    | some k =>
      let same := count == d.members.length && det == s.flag Reg.sysDetMode 0 && digest == s.digest d && index == k
      let s := s.setGroup group fun g => { g with hello := g.hello.filter (· != k) ++ (if same then [k] else []) }
      let s := showGroup d s
      if same then s else judgeAll (raise (evGroup group) (s.setFlag (Reg.convoyGrpStat group) 30 true))

/-- CV_DATA (R802, R810, R811). -/
def cvData (link group member : Nat) (absent : Bool) (tag base : Nat) (vals : List Nat) (s : State) : State :=
  match s.groupDecl? group with
  | none => bump Reg.convoyStale s
  | some d =>
    let g := s.group group
    let known := s.bales.any fun b => b.step == some group && b.tseq == tag
    let tags := (g.data.filter fun c => c.member == member && c.tag != tag &&
      !(s.bales.any fun b => b.step == some group && b.tseq == c.tag)).length
    if d.memberAt link != some member then bump Reg.convoyStale s
    else if g.ended.contains tag || (!known && decide (8 ≤ tags)) || g.data.any (fun c => c.member == member && c.tag == tag) then
      bump Reg.convoyStale s
    else judgeAll (s.setGroup group fun g => { g with data := g.data ++ [⟨member, tag, absent, base, vals⟩] })

/-- The peer on a link is up; packets of one that is DOWN or REJECTED are discarded (R601, R604). -/
def State.peerUp (s : State) (l : Nat) : Bool := s.eps.any fun e => e.link == l && decide (2 ≤ s.epState l e.addr)

/-- CV_HELLO (R793 to R795). -/
def execCvHello (link group count index : Nat) (det : Bool) (digest : Nat) (s : State) : Host.Outcome State Fault Refusal :=
  done s (if s.peerUp link then cvHello link group count index det digest s.begin_ else s.begin_)

/-- CV_DATA (R802, R810, R811, R814). -/
def execCvData (link group member : Nat) (absent : Bool) (tag base : Nat) (vals : List Nat) (s : State) :
    Host.Outcome State Fault Refusal :=
  done s (if s.peerUp link then cvData link group member absent tag base vals s.begin_ else s.begin_)

/-- CONVOY_TIMEOUT (R786, R814 to R817): the step of a bale ends for its station. -/
def execConvoyTimeout (group bale : Nat) (s : State) : Host.Outcome State Fault Refusal :=
  let t := s.begin_
  done s <|
    match t.groupDecl? group, t.bale? bale with
    | some d, some b =>
      if b.step == some group then failStep d bale 0 ((t.missing d b.tseq).headD 0) t else t
    | _, _ => t

/-- A group's configuration may enable it (R807). -/
def State.grpCfgOk (s : State) (g cfg : Nat) : Bool :=
  match s.groupDecl? g with
  | none => false
  | some d =>
    let op := fld cfg 2 0
    let len := s.fget (Reg.convoyGrpRange g) 26 16
    let base := s.fget (Reg.convoyGrpRange g) 10 0
    decide (fld cfg 13 8 < d.members.length) && decide (1 ≤ len) && decide (len ≤ 1024) &&
      decide (base + (if op == 2 then d.members.length * len else len) ≤ vecLen (fld cfg 5 4))

end Sys2Proof.Machine
end

