-- ==== Sys2Proof/Machine/FieldOut.lean ====
section
/-! DEFINITION. Field outputs: turn-on, turn-off, pulses and the safe state (R692 to R722). -/

namespace Sys2Proof.Machine

/-- FUNC of a channel (R164). -/
def State.fioFunc (s : State) (ch : Nat) : Nat := s.fget (Reg.fioCfg ch) 7 0

/-- A pulse of `us` µs on a channel for milestone entry `e`. On an output whose earlier pulse still runs the output stays
as it is, the pulse ends at the later end, and no further cycle or on-check is made; the flag says so (R717). An output that is
on already stays on; one that a trip keeps off is turned on in vain, and its on-check falls due (R718). -/
def startPulse (ch us : Nat) (e : Option Nat) (s : State) : State × Bool :=
  let till := s.now + us * 250
  let c := s.fioCh ch
  let s := if s.driven ch then s else turnOn ch s
  if c.pulse then
    (s.setFio ch fun c => { c with until_ := max c.until_ till }, true)
  else
    (s.setFio ch fun c => { c with pulse := true, until_ := till, entry := e }, false)

/-- The off state of an output after its off-check: the test current resumes when WB_EN is 1 (R706). -/
def resumeTest (ch : Nat) (s : State) : State :=
  s.setFio ch fun c => { c with offCheck := false, test := s.flag (Reg.fioCtrl ch) 1 && !s.fieldSafe }

/-- The channel is an output: valve, plain or STOP_LINE (R692, R695, R699). -/
def State.isOutput (s : State) (ch : Nat) : Bool :=
  let f := s.fioFunc ch
  f == 0x10 || f == 0x11 || f == 0x12

/-- The flag bits of a channel for the DETAIL of a fault record (R928). -/
def State.fioFlags (s : State) (ch : Nat) : Nat := s.fget (Reg.fioStat ch) 7 0

/-- The owner of a channel, for a fault record: none for the device. -/
def State.fioStn (s : State) (ch : Nat) : Option Nat :=
  match s.fioDecl? ch with
  | some d => if d.stn == 255 then none else some d.stn
  | none => none

/-- A fault of a field channel (R704, R708, R709). -/
def fieldFault (code ch bale : Nat) (s : State) : State :=
  logFault { action := 4, stn := s.fioStn ch, code := code, unit := 3, index := ch, detail := s.fioFlags ch, bale := bale } s

/-- The field die enters the safe state: every output is off, test currents stop, no off-check is made, and each cut pulse
is logged with code 0x12 (R713, R714, R722). The channels whose milestone pulse was cut lose their entry; the list of
those entries is the answer's second part. -/
def safeState (s : State) : State × List Nat :=
  let cut := (List.range 32).filter fun ch => s.driven ch && (s.fioCh ch).pulse
  let ents := (List.range 32).filterMap fun ch => (s.fioCh ch).entry
  let s := cut.foldl (fun s ch => fieldFault 0x12 ch (((s.fioCh ch).entry.bind fun e => (s.mile? e).map Mile.bale).getD 0) s) s
  ({ s with
      fieldSafe := true
      fio := s.fio.map fun c =>
        { c with out := false, pulse := false, hold := false, onCheck := false, offCheck := false, test := false, entry := none } },
    ents)

/-- The field die leaves the safe state: outputs stay off until they are next driven, test currents resume on channels
with WB_EN, and the STOP_LINE outputs follow the stations' state (R699, R706, R715). -/
def leaveSafe (s : State) : State :=
  if !s.fieldSafe then s
  else
    let s := { s with fieldSafe := false }
    driveStopLine ((List.range 32).foldl (fun (s : State) ch =>
      if s.isOutput ch then s.setFio ch fun c => { c with test := s.flag (Reg.fioCtrl ch) 1 } else s) s)

end Sys2Proof.Machine
end

