-- ==== Sys2Proof/Machine/Milestone.lean ====
section
/-! DEFINITION. Milestones: triggers, outcomes, crossings, firing, missed commands and freeing (R19 to R26, R31 to R46, R735 to
R768, R772 to R776). -/

namespace Sys2Proof.Machine

/-! ## Entries -/

/-- The lowest free entry of a station's partition (R735). -/
def State.freeEntry? (s : State) (n : Nat) : Option Nat :=
  let p := s.partOf n
  ((List.range p.2).map fun i => p.1 + i).find? fun e => (s.mile? e).isNone

/-- The ejector that an entry shows before its outcome is known: the one that serves DEFAULT, else the one that fixes
P_dead (R770). -/
def Policy.shown (p : Policy) : Option Ejector :=
  match p.ejector? p.dflt with
  | some e => some e
  | none => p.ej.find? fun e => e.offset - e.lead == p.dead

/-- The largest OFFSET of a station (R742). -/
def Policy.maxOffset (p : Policy) : Nat := maxN (p.ej.map Ejector.offset)

/-- An entry that shows an ejector, or none. -/
def Mile.show (m : Mile) : Option Ejector → Mile
  | some e => { m with remote := e.remote, link := e.link, ch := e.ch, rch := e.rch, pulse := e.pulseUs, backup := e.backup }
  | none => { m with remote := false, link := 0, ch := 0, rch := 0, pulse := 0, backup := 255 }

/-- A reserved entry (R21). -/
def newMile (e n bale pTrig pDead tseq : Nat) (owed : List Nat) : Mile :=
  { idx := e, stn := n, bale := bale, pTrig := pTrig, pDead := pDead, st := 1, outcome := none, rule := 0, defaulted := false,
    late := false, pFire := none, remote := false, link := 0, ch := 0, rch := 0, pulse := 0, backup := 255, fire := 0,
    crossed := false, pending := none, reported := false, merged := false, tseq := tseq, owed := owed, past := false,
    lateAt := none, again := none, undo := none }

/-- An entry enters the table in its place. -/
def addMile (m : Mile) (s : State) : State :=
  { s with miles := (s.miles.filter fun x => x.idx < m.idx) ++ m :: s.miles.filter fun x => m.idx < x.idx }

/-- A verdict record (R762). -/
def verdictWords (bale outcome rule : Nat) (defaulted late replay : Bool) (end_ fire pTrig : Nat) : List Dword :=
  [BitVec.ofNat 64 (bale % 2 ^ 32 * 2 ^ 32 + outcome % 256 * 2 ^ 24 + rule % 32 * 2 ^ 19 + b2n defaulted * 2 ^ 18
      + b2n late * 2 ^ 17 + b2n replay * 2 ^ 16 + end_ % 8 * 2 ^ 12 + fire % 16 * 2 ^ 8),
    BitVec.ofNat 64 (pTrig % 2 ^ 48)]

/-- An entry is freed: its verdict record enters the mailbox, or is dropped from it, and the entry is FREE (R744, R762). -/
def freeMile (e : Nat) (s : State) : State :=
  match s.mile? e with
  | none => s
  | some m =>
    let was := s.armed m.stn
    let s := mbPut m.stn 1 (verdictWords m.bale (m.outcome.getD 0xFF) m.rule m.defaulted m.late false m.st m.fire m.pTrig) s
    settleArm m.stn was { s with
      miles := s.miles.filter fun x => x.idx != e
      fio := s.fio.map fun (c : Fio) => if c.entry == some e then { c with entry := none } else c }

/-- An entry takes a state of R736. -/
def mileState (e st : Nat) (s : State) : State :=
  match s.mile? e with
  | none => s
  | some m => settleArm m.stn (s.armed m.stn) (s.setMile e fun m => { m with st := st })

/-- The bale of an entry holds nothing any more: steps that wait for it get ABSENT, and steps to which it has contributed have ended here,
so that later data for them is stale (R361, R811, R812). -/
def leaveArmed (e : Nat) (s : State) : State :=
  let s := absentEntry e s
  match (s.bales.find? fun b => b.entry == some e) with
  | some b => releaseBale b.id ((b.sent.filter fun g => !(s.group g).ended.contains b.tseq).foldl (fun s g => endTag g b.tseq s) s)
  | none => s

/-! ## Remote commands (R745 to R751) -/

/-- The odometer channel of a source (0 primary, 1 secondary). -/
def State.srcCh (s : State) (n src : Nat) : Option Nat :=
  match s.odoDecl? n with
  | none => none
  | some d => if src == 0 then some d.primary else if src == 1 && d.secondary != 255 then some d.secondary else none

/-- The time in ns in which the reference covers `dist` ticks at the active source's speed, if it has one (R745). -/
def State.timeFor (s : State) (n dist : Nat) : Option Nat :=
  if (s.ref n).src == 2 then
    let v := (s.ref n).synthSpeed.toNat
    if v == 0 then none else some (dist * 10 ^ 9 / v)
  else match s.srcCh n (s.ref n).src with
    | none => none
    | some c =>
      let p := (s.reg (Reg.odoPeriod c)).toNat
      if p == 0 || p == 2 ^ 32 - 1 then none else some (dist * 4 * p)

/-- Where an entry fires: P_fire, or after a missed command the position of the default action's ejector (R738, R754). -/
def Mile.target (m : Mile) : Option Nat := m.again.or m.pFire

/-- The predicted time to the fire position of an entry, in ns. -/
def State.predicted (s : State) (m : Mile) : Option Nat :=
  match m.target with
  | none => none
  | some p =>
    let d := modDiff 48 (s.ref m.stn).pos.toNat p
    if d < 0 then none else s.timeFor m.stn d.toNat

/-- AHEAD_US as the device uses it: values outside its range count as the nearer end. -/
def State.aheadNs (s : State) : Nat := min 10000 (max 50 (s.fget Reg.mileRemoteCfg 15 0)) * 1000

/-- FIRE_AT for an entry with a predicted time of `t` ns (R746). -/
def sendFire (m : Mile) (t : Nat) (s : State) : State :=
  let due := (s.tb.lt.toNat + t) % 2 ^ 48
  (sendFireAt m.link m.ch due m.rch 1 m.pulse m.idx m.bale s).setMile m.idx fun m => { m with pending := some due }

/-- The entry waits for its remote ejector to fire. -/
def Mile.remoteDue (m : Mile) : Bool := m.st == 2 && m.remote && m.target.isSome && !m.crossed && !m.reported

/-- A forward tick of station `n`'s reference: FIRE_AT goes out for each remote entry whose predicted time has fallen to
AHEAD_US (R746, R766). -/
def predictFires (n : Nat) (s : State) : State :=
  s.miles.foldl (fun (s : State) m =>
    if m.stn == n && m.remoteDue && m.pending.isNone && s.epActive m.link m.ch then
      match s.predicted m with
      | some t => if t ≤ s.aheadNs then sendFire m t s else s
      | none => s
    else s) s

/-- A pending FIRE_AT is cancelled (R748, R751). -/
def cancelFire (e : Nat) (s : State) : State :=
  match s.mile? e with
  | some m =>
    if m.pending.isSome then (sendCancel m.link m.ch e s).setMile e fun m => { m with pending := none } else s
  | none => s

/-- Every pending FIRE_AT of a station is cancelled (R748, R765). -/
def cancelFires (n : Nat) (s : State) : State :=
  (s.miles.filter fun m => m.stn == n).foldl (fun s m => if m.st == 2 then cancelFire m.idx s else s) s

/-- FIRE_AT commands pending at an endpoint that leaves ACTIVE are cancelled (R751). -/
def cancelAt (l a : Nat) (s : State) : State :=
  (s.miles.filter fun m => m.remote && m.link == l && m.ch == a && m.st == 2).foldl (fun s m => cancelFire m.idx s) s

/-! ## Outcomes -/

/-- The outcome of an entry becomes known (R22, R32, R738). -/
def decide_ (e outcome rule : Nat) (defaulted : Bool) (s : State) : State :=
  match s.mile? e with
  | none => s
  | some m =>
    let ej := (s.policy? m.stn).bind fun p => p.ejector? outcome
    s.setMile e fun m =>
      { m.show ej with
        st := 2, outcome := some outcome, rule := rule, defaulted := defaulted
        pFire := ej.map fun x => posAdd m.pTrig x.offset }

/-- The default action at P_dead (R26, R34, R739 to R741). -/
def takeDefault (e : Nat) (s : State) : State :=
  match s.mile? e with
  | none => s
  | some m =>
    let o := ((s.policy? m.stn).map Policy.dflt).getD 0
    let judging := s.bales.any fun b => b.entry == some e && b.judging
    let s := decide_ e o 0 true (raise (evStn m.stn 0) (bump (Reg.mileStnDefault m.stn) s))
    let s := if judging then s.setMile e fun m => { m with lateAt := some s.now } else s
    let s := if o == 0x20 then assertStop m.stn causeDefault s else s
    leaveArmed e s

/-! ## Firing -/

/-- A local output fires for an entry (R35, R36, R743, R775). An earlier entry whose off-check is still due on the output is
freed without it (R719). -/
def fireLocal (e ch us : Nat) (s : State) : State :=
  let s := match (s.fioCh ch).entry with
    | some o => if (s.fioCh ch).pulse then s else freeMile o s
    | none => s
  let r := startPulse ch us (some e) s
  mileState e 3 (if r.2 then r.1.setMile e fun m => { m with merged := true } else r.1)

/-- The default action of a MISSED entry where it can still act (R754). P_fire stays as it was written (R24). -/
def missedDefault (e : Nat) (s : State) : State :=
  match s.mile? e with
  | none => s
  | some m =>
    match s.policy? m.stn with
    | none => freeMile e s
    | some p =>
      if p.dflt == 0x20 then freeMile e (assertStop m.stn causeDefault s)
      else match p.ejector? p.dflt with
        | none => freeMile e s
        | some x =>
          let pos := posAdd m.pTrig x.offset
          let same := m.target == some pos && m.ch == x.ch && m.remote == x.remote
          if p.dflt != 0 && !same && !atOrBefore 48 pos (s.ref m.stn).hwm.toNat then
            s.setMile e fun m =>
              { m.show (some x) with again := some pos, crossed := false, reported := false, pending := none }
          else freeMile e s

/-- A MISSED milestone (R752 to R754). -/
def missed (e : Nat) (s : State) : State :=
  match s.mile? e with
  | none => s
  | some m =>
    let s := raise (evStn m.stn 3) (bump (Reg.mileStnMissed m.stn) s)
    let again := m.fire == 3
    if m.backup != 255 then
      fireLocal e m.backup m.pulse (s.setMile e fun m => { m with fire := 2, reported := true, pending := none })
    else
      let s := s.setMile e fun m => { m with fire := 3, reported := true, pending := none }
      if again then freeMile e s else missedDefault e s

/-- The first forward crossing of P_fire (R35, R36, R37, R750). -/
def fireEntry (e : Nat) (s : State) : State :=
  match s.mile? e with
  | none => s
  | some m =>
    let s := s.setMile e fun m => { m with crossed := true }
    if !m.remote then fireLocal e m.ch m.pulse s
    else if m.reported then s
    else if s.epActive m.link m.ch then s
    else missed e s

/-- The deadline overtakes the commit of the same 4 ns tick (R41): the default action stands, the verdict and what followed from it are
discarded, and LATE_COMMIT is raised. -/
def overtake (e last lastBale : Nat) (s : State) : State :=
  match s.mile? e with
  | none => s
  | some m =>
    let mine := fun (d : Dec) => d.bale == m.bale && d.interactive && !d.running
    let s := (s.setN (Reg.verdictLastBale m.stn) lastBale).setN (Reg.verdictLast m.stn) last
    let s := settleTurn m.stn { s with
      decs := s.decs.filter fun d => !(d.1.1 == m.stn && mine d.2)
      jobs := s.jobs.filter fun j => !(j.stn == m.stn && j.bale == m.bale && j.kind == .explain && !j.running) }
    let s := takeDefault e (s.setMile e fun m => { m with undo := none })
    (raise (evStn m.stn 1) (bump (Reg.mileStnLate m.stn) s)).setMile e fun m => { m with late := true }

/-- The reference's high-water mark has passed a position of an entry (R671). -/
def State.passed (s : State) (m : Mile) (p : Nat) : Bool := atOrBefore 48 p (s.ref m.stn).hwm.toNat

/-- Where an entry without an ejector expires (R742). -/
def State.expiry (s : State) (m : Mile) : Nat := posAdd m.pTrig (((s.policy? m.stn).map Policy.maxOffset).getD 0)

/-- What the reference's high-water mark does to one entry (R34, R35, R41, R741, R742): the deadline first, then the fire or the
expiry position. The crossing of a command that has been reported before is remembered for R773. -/
def crossEntry (e : Nat) (s : State) : State :=
  let s := match s.mile? e with
    | some m =>
      if !m.past && s.passed m m.pDead then
        let s := s.setMile e fun m => { m with past := true }
        if m.st == 1 then takeDefault e s
        else if m.st == 2 && (m.undo.map Prod.fst) == some s.now then overtake e (m.undo.elim 0 fun u => u.2.2) (m.undo.elim 0 fun u => u.2.1) s
        else if m.st == 2 && m.outcome == some 0x20 then assertStop m.stn causeDefault s
        else s
      else s
    | none => s
  match s.mile? e with
  | some m =>
    if m.st == 2 && !m.crossed then
      match m.target with
      | some p => if s.passed m p then fireEntry e s else s
      | none => if s.passed m (s.expiry m) then freeMile e (mileState e 4 s) else s
    else if m.st == 3 && m.remote && !m.crossed && (m.target.any fun p => s.passed m p) then s.setMile e fun m => { m with crossed := true }
    else s
  | none => s

/-- A new entry whose positions the high-water mark has passed already, after long reverse travel: no forward crossing of them is left
(R35, R671). The model takes the default action at once, fires nothing at a position that lies behind, and frees the entry there as
EXPIRED (log 30). -/
def passedEntry (e : Nat) (s : State) : State :=
  match s.mile? e with
  | none => s
  | some m =>
    if s.passed m m.pDead then
      let s := takeDefault e (s.setMile e fun m => { m with past := true })
      match s.mile? e with
      | some m => if s.passed m (m.target.getD (s.expiry m)) then freeMile e (mileState e 4 s) else s
      | none => s
    else s

/-- A station's entries after a forward move of its reference (R772). -/
def crossAll (n : Nat) (s : State) : State :=
  (s.miles.filter fun m => m.stn == n).foldl (fun s m => crossEntry m.idx s) s

/-! ## Triggers -/

/-- A trigger edge of station `n` at position `pTrig` (R20, R21, R25, R45, R46, R735, R760, R796). -/
def trigger (n pTrig : Nat) (s : State) : State :=
  let ignored := !(s.stn n).trigEn || (s.ref n).lost
  let s := if (s.stn n).trigEn then s.setReg (Reg.convoyTseq n) (s.reg (Reg.convoyTseq n) + 1) else s
  let tseq := (s.reg (Reg.convoyTseq n)).toNat
  let groups := (s.groupsOf n).map GroupDecl.group
  if ignored then
    let s := bump (Reg.mileStnTrigIgn n) s
    if (s.stn n).trigEn then sendAbsents groups tseq s else s
  else match s.policy? n, s.freeEntry? n with
    | some p, some e =>
      let id := s.nextBale.toNat
      let next : Word := s.nextBale + 1
      let pDead := posAdd pTrig p.dead
      let s := { s with nextBale := if next == 0 then 1 else next }
      let s := addMile ((newMile e n id pTrig pDead tseq groups).show p.shown) s
      passedEntry e (tryAdmit n id e pTrig pDead tseq s)
    | some p, none =>
      let s := sendAbsents groups tseq (raise (evStn n 2) (bump (Reg.mileStnTrigovf n) s))
      if p.ovfStop then assertStop n causeOvf s else s
    | none, _ => s

/-! ## Commit -/

/-- The verdict of a live bale commits (R31 to R33, R732). -/
def commitLive (b : Bale) (e outcome rule : Nat) (s : State) : State :=
  let undo := (s.now, (s.reg (Reg.verdictLastBale b.stn)).toNat, (s.reg (Reg.verdictLast b.stn)).toNat)
  let s := (s.setN (Reg.verdictLastBale b.stn) b.id).setN (Reg.verdictLast b.stn) (outcome * 65536 + rule * 256)
  let s := (decide_ e outcome rule false s).setMile e fun m => { m with undo := some undo }
  let s := match s.mile? e with
    | some m => if m.past && outcome == 0x20 then assertStop m.stn causeDefault s else s
    | none => s
  crossEntry e (leaveArmed e s)

/-- The verdict of a shadow copy or a replay (R135, R494, R762). -/
def commitCopy (b : Bale) (outcome rule : Nat) (s : State) : State :=
  let s := (s.setN (Reg.verdictLastBale b.stn) b.tag).setN (Reg.verdictLast b.stn) (outcome * 65536 + rule * 256)
  let s := if b.kind == 2 then s.setFlag Reg.ispReplayStat 31 false else s
  releaseBale b.id (mbPut b.stn 1 (verdictWords b.tag outcome rule false false true 0 0 b.pTrig) s)

/-- A verdict that comes in the cycle in which its milestone took the default action (R41). -/
def lateCommit (bale : Nat) (s : State) : State :=
  match s.miles.find? fun m => m.bale == bale && m.lateAt == some s.now && !m.late with
  | some m =>
    (raise (evStn m.stn 1) (bump (Reg.mileStnLate m.stn) s)).setMile m.idx fun m => { m with late := true, lateAt := none }
  | none => s

/-! ## Read-back (R755) -/

/-- A read-back failure of an ejector output of station `n`, for entry `e` if it is still live. -/
def readbackFail (n : Nat) (e : Option Nat) (s : State) : State :=
  let s := match e with
    | some e => s.setMile e fun m => { m with fire := if m.fire == 0 then 1 else m.fire }
    | none => s
  let s := bump (Reg.mileStnRbfail n) s
  if s.flag (Reg.mileStnPolicy n) 0 then assertStop n causeReadback s else s

/-! ## Commands -/

/-- FIRE_AT_RESEND (R747): the predicted DUE has moved by more than 1 µs since the last send. -/
def execFireAtResend (e : Nat) (s : State) : Host.Outcome State Fault Refusal :=
  let t := s.begin_
  done s <|
    match t.mile? e with
    | some m =>
      match m.pending, t.predicted m with
      | some due, some p =>
        let d := modDiff 48 due ((t.tb.lt.toNat + p) % 2 ^ 48)
        if m.remoteDue && t.epActive m.link m.ch && (d > 1000 || d < -1000) then sendFire m p t else t
      | _, _ => t
    | none => t

/-- STALL_CANCEL (R748). -/
def execStallCancel (stn : Nat) (s : State) : Host.Outcome State Fault Refusal := done s (cancelFires stn s.begin_)

/-- MERGED_PULSE_FREE (R775). -/
def execMergedPulseFree (e : Nat) (s : State) : Host.Outcome State Fault Refusal :=
  let t := s.begin_
  done s <|
    match t.mile? e with
    | some m => if m.merged && m.st == 3 then freeMile e t else t
    | none => t

/-- FIRE_REPORT (R594, R749, R750, R755, R774). RESULT 3 answers the device's own CANCEL and changes nothing, so the
command can be sent again (R748). -/
def fireReport (link addr result cmd bale : Nat) (s : State) : State :=
  let live := (s.mile? cmd).any fun m => m.bale == bale && m.remote && m.link == link && m.ch == addr && (m.st == 2 || m.st == 3)
  let mine := live && (s.mile? cmd).any fun m => !m.reported
  let heard := fun (s : State) => s.setMile cmd fun m => { m with reported := true, pending := none }
  if mine then
    if result == 0 then mileState cmd 3 (heard s)
    else if result == 2 then
      readbackFail (((s.mile? cmd).map Mile.stn).getD 0) (some cmd) (mileState cmd 3 (heard s))
    else if result == 1 || result == 4 || result == 5 then missed cmd (heard s)
    else s
  else if result == 2 then
    if live then readbackFail (((s.mile? cmd).map Mile.stn).getD 0) (some cmd) s
    else match s.dev.bind fun d => d.policies.find? fun p => p.ej.any fun x => x.remote && x.link == link && x.ch == addr with
    | some p => readbackFail p.stn none s
    | none => s
  else s

/-- REPORT_TIMEOUT (R750): no report 100 µs after the crossing. -/
def execReportTimeout (e : Nat) (s : State) : Host.Outcome State Fault Refusal :=
  let t := s.begin_
  done s <|
    match t.mile? e with
    | some m => if m.st == 2 && m.remote && m.crossed && !m.reported then missed e t else t
    | none => t

/-- REMOTE_FREE (R773): the report has arrived and PULSE_US + 50 µs have passed since the crossing. -/
def execRemoteFree (e : Nat) (s : State) : Host.Outcome State Fault Refusal :=
  let t := s.begin_
  done s <|
    match t.mile? e with
    | some m => if m.st == 3 && m.remote && m.reported && m.crossed && m.fire != 2 then freeMile e t else t
    | none => t

/-- COMPARATOR_DISAGREE (R909): the entry fires nothing and is MISSED. -/
def execComparatorDisagree (e : Nat) (s : State) : Host.Outcome State Fault Refusal :=
  let t := s.begin_
  done s <|
    match t.mile? e with
    | some m =>
      if m.st == 2 && m.target.isSome && !m.crossed then
        let t := logFault { action := 4, stn := none, code := 0x09, unit := 5, index := e, bale := m.bale } t
        missed e (t.setMile e fun m => { m with crossed := true })
      else t
    | none => t

/-- STOP_SET (R756). -/
def execStopSet (_ini stn : Nat) (s : State) : Host.Outcome State Fault Refusal :=
  done s (ifOn domVerdict (decide (stn < 16)) (assertStop stn causeSoftware) s.begin_)

/-- STOP_LINE is released: every recorded cause clears but LOST while the reference is LOST (R757). -/
def stopClr (n : Nat) (s : State) : State :=
  driveStopLine (s.setStn n fun t => { t with stops := if (s.ref n).lost then t.stops &&& 2 ^ causeLost else 0 })

/-- STOP_CLR (R757). -/
def execStopClr (_ini stn : Nat) (s : State) : Host.Outcome State Fault Refusal :=
  done s (ifOn domVerdict (decide (stn < 16)) (stopClr stn) s.begin_)

/-- Every ARMED and DECIDED entry of a disarmed trigger's station is CANCELLED and freed (R761). -/
def cancelAll (n : Nat) (s : State) : State :=
  if (s.stn n).trigEn then s
  else (s.miles.filter fun m => m.stn == n && (m.st == 1 || m.st == 2)).foldl (fun s m =>
    freeMile m.idx (mileState m.idx 5 (leaveArmed m.idx (cancelFire m.idx s)))) s

/-- CANCEL_ALL (R761). -/
def execCancelAll (_ini stn : Nat) (s : State) : Host.Outcome State Fault Refusal :=
  done s (ifOn domVerdict (decide (stn < 16)) (cancelAll stn) s.begin_)

/-- A write of 0 to TRIG_EN: the station creates no further bale, and a grant that waits is cancelled (R50, R388). -/
def trigEnClear (n : Nat) (s : State) : State :=
  let was := s.armed n
  let s := s.setStn n fun t => { t with trigEn := false, want := false }
  settleArm n was (if was then s else cancelGrants n s)

/-- TRIG_EN_CLEAR (R50). -/
def execTrigEnClear (_ini stn : Nat) (s : State) : Host.Outcome State Fault Refusal :=
  done s (ifOn domVerdict (decide (stn < 16)) (trigEnClear stn) s.begin_)

end Sys2Proof.Machine
end

