-- ==== Sys2Proof/Machine/Domain.lean ====
section
/-! DEFINITION. Power domains, resets of them, and the waystation state (R713, R855 to R859, R942, R954 to R956). -/

namespace Sys2Proof.Machine

/-- SLINK.EP_STAT of every declared endpoint reads DOWN and every link is down. -/
def allDown (s : State) : State :=
  let s := s.eps.foldl (fun s e => setEpState e.link e.addr 0 s) s
  { s with links := List.replicate 16 Link.none, eps := s.eps.map fun (e : Ep) =>
      { e with exch := none, resync := 0, retry := false, asked := 0 } }

/-- What a domain holds returns to its reset values (R858). -/
def resetDomain (d : Nat) (s : State) : State :=
  let s := { s with regs := s.regs.filter fun p => domainOf p.1 != d || d == 0 }
  if d == domField then { s with odo := List.replicate 16 Odo.none, fio := List.replicate 32 Fio.none,
                                 grpTrip := [false, false, false, false] }
  else if d == domLaneW then { s with lanes := List.replicate 12 Lane.none ++ s.lanes.drop 12 }
  else if d == domLaneE then { s with lanes := s.lanes.take 12 ++ List.replicate 12 Lane.none
                                      phy := { s.phy with pcs := [Pcs.none, Pcs.none] } }
  else if d == domIsp then { s with cams := List.replicate 32 Cam.none, rings := List.replicate 16 (0, 0),
                                    capture := none, isp := none }
  else if domBand0 ≤ d && d < domTree then darkBand (d - domBand0) (s.setN (Reg.pwrBandOp (d - domBand0)) 0)
  else if d == domTree then { (s.setN Reg.pwrTreeOp 0) with treePass := none }
  else s

/-- A domain is switched off (R859). -/
def switchOff (d : Nat) (s : State) : State :=
  if !s.domOn d || d == 0 then s
  else
    let s := if d == domField then (safeState s).1 else s
    resetDomain d (s.setFlag Reg.pwrDomOn d false)

/-- A domain is switched on, with its contents at their reset values (R858). The outputs of PD_FIELD leave the safe state
while the device runs (R713). -/
def switchOn (d : Nat) (s : State) : State :=
  if s.domOn d then s
  else
    let s := (resetDomain d s).setFlag Reg.pwrDomOn d true
    let s := if domBand0 ≤ d && d < domTree then lightBand (d - domBand0) s else s
    if d == domField && !s.flag Reg.sysBootStat 31 && !s.boot.rstLow then leaveSafe s else s

/-- A section binds PD_FIELD. -/
def DevBlock.usesField (d : DevBlock) : Bool := !d.fields.isEmpty || !d.odos.isEmpty

/-- A lane of a side is part of a declared link or an enabled Ethernet port (R509). -/
def State.usesLanes (s : State) (east : Bool) : Bool :=
  match s.dev with
  | none => false
  | some d =>
    (d.eps.any fun e => (List.range e.width).any fun i => decide (12 ≤ e.firstLane + i) == east) ||
      (east && (d.dev.eth0 != 0 || d.dev.eth1 != 0))

/-- The off condition of a domain in R855. -/
def State.mayBeOff (s : State) (d : Nat) : Bool :=
  let idle := !s.anyArmed && s.stations.all (fun t => !t.want) && s.bales.isEmpty
  if d == domField then !((s.dev.map DevBlock.usesField).getD false)
  else if d == domLaneW then !s.usesLanes false
  else if d == domLaneE then !s.usesLanes true
  else if d == domDrover || d == domKhan || d == domVerdict then idle
  else if d == domIsp then idle && s.capture.isNone
  else if domBand0 ≤ d && d < domTree then !bitAt ((s.dev.map fun b => b.power.bands).getD 0) (d - domBand0)
  else if d == domTree then !(s.stations.any fun t => ((t.active.bind s.block?).map fun b => !b.trees.isEmpty).getD false)
  else false

/-- Domains that an action of a station needs: drovers, Khan, intake, verdict and milestone (R855, R857, R897). -/
def stationDomains : List Nat := [domDrover, domKhan, domIsp, domVerdict]

/-- The steward switches on what an action needs (R857). -/
def needDomains (ds : List Nat) (s : State) : State := ds.foldl (fun s d => switchOn d s) s

/-- Every bale, milestone and job is gone, and every station is disarmed (R955). -/
def discardWork (s : State) : State :=
  { s with
    bales := [], miles := [], jobs := [], decs := [], isp := none, treePass := none, capture := none, retiring := []
    stations := s.stations.map fun (t : Stn) =>
      { t with trigEn := false, want := false, stops := 0, rev := false, tiles := [], decTiles := 0, n := 0, joining := [],
               leaving := [], sinceGrowth := none, idleWindows := 0 }
    fio := s.fio.map fun (c : Fio) => { c with entry := none }
    groups := s.groups.map fun (g : Group) => { g with data := [], out := [] } }

/-- Everything outside PD_AON returns to its reset values (R942): the blocks of R965 in PD_AON keep their registers, but for
those that name the active manifest and the domains. -/
def resetDomains (s : State) : State :=
  let s := discardWork (allDown (safeState s).1)
  let keep := fun (a : Nat) => aonBlock a && !(0x2000110000 ≤ a && a < 0x2000120000) && a != Reg.pwrDomOn
  { s with
    regs := s.regs.filter fun p => keep p.1 && !(Reg.pwrBandOp 0 ≤ p.1 && p.1 ≤ Reg.pwrTreeOp)
    shadow := []
    snaps := List.replicate 15 Snap.none
    nextBale := 1
    mbox := List.replicate 16 ⟨[], 0⟩
    load := none, dev := none, blocks := []
    stations := List.replicate 16 Stn.none
    tiles := (List.range 72).map Tile.off
    gridHoles := false
    rings := List.replicate 16 (0, 0)
    odo := List.replicate 16 Odo.none
    refs := List.replicate 16 Ref.none
    fio := List.replicate 32 Fio.none
    fieldSafe := true
    grpTrip := [false, false, false, false]
    cams := List.replicate 32 Cam.none
    lanes := List.replicate 24 Lane.none
    phy := { s.phy with pcs := [Pcs.none, Pcs.none] }
    eps := []
    groups := List.replicate 32 Group.none
    ptp := [[], [], [], []]
    pwr := ⟨[0, 0, 0, 0], [], [], false, 0, 0⟩
    cores := s.cores.map fun (c : AppCore) => ⟨false, 0, 0, 0, c.cmp⟩
    uart := [⟨[], []⟩, ⟨[], []⟩]
    i2c := [⟨[], [], false⟩, ⟨[], [], false⟩] }

/-- The ETH0_MODE with which LANE22 serves ETH0 in the waystation state, 0 when it does not (R548): that of the boot-flash manifest
when it verified, else 1000BASE-X. -/
def State.wayEth (s : State) : Nat := if s.boot.lane22 then (s.boot.man.map fun d => d.dev.eth0).getD 2 else 0

/-- Every lane is OFF but LANE22 while it runs ETH0 (R548). -/
def wayLanes (s : State) : State :=
  let m := s.wayEth
  let s := (List.range 24).foldl (fun (s : State) k =>
    if k == 22 && m != 0 then s else laneStat k 0 0 false false ((s.setN (Reg.laneCfg k) 7).setLane k fun _ => Lane.none)) s
  let s := startPcs 1 0 (startPcs 0 m s)
  if m == 0 then s
  else laneStat 22 0 1 (s.lrefOk 22) (s.lrefOk 22) ((setTapsNow 22 (taps (s.reg (Reg.laneTxfir 22)).toNat) s).setN (Reg.laneCfg 22)
    (32 + if m == 1 then 5 else 0))

/-- The waystation state is entered (R954 to R956, R958): the stations that were armed are armed no more, which is their bale boundary for
pending RS writes (R1085); work is discarded, outputs are de-energised, and only PD_AON, PD_FIELD
and, when LANE22 serves ETH0, PD_LANE_E stay powered. -/
def waystation (cause unit index : Nat) (s : State) : State :=
  let s := (List.range 16).foldl (fun (s : State) n =>
    if s.armed n then (if (s.stn n).pend.isSome then discardShadows n s else applyShadows n s) else s) s
  let s := discardWork (allDown (safeState s).1)
  let s := (s.setN Reg.sysWayCause (index % 256 * 65536 + unit % 256 * 256 + cause % 256)).setFlag Reg.sysBootStat 31 true
  let s := (List.range 16).foldl (fun (s : State) d =>
    if d == 0 || d == domField || (d == domLaneE && s.wayEth != 0) then s else switchOff d s) s
  let s := switchOn domField (if s.wayEth != 0 then switchOn domLaneE s else s)
  { wayLanes (s.setFlag Reg.mflStatus 31 false) with
    load := none
    blocks := []
    stations := List.replicate 16 Stn.none
    cores := s.cores.map fun (c : AppCore) => { c with run := false }
    boot := { s.boot with phase := none, rom := cause == 0x03, rebuilding := false } }

/-- A fault of R926 sends the device to the waystation state. In that state, which is left by a reset only (R959), it is only logged, as
R979 has it of THERM_TRIP. -/
def toWaystation (cause : Nat) (f : FaultRec) (s : State) : State :=
  if s.flag Reg.sysBootStat 31 then logFault { f with action := 0 } s
  else waystation cause f.unit f.index (logFault { f with action := 6 } s)

end Sys2Proof.Machine
end

