-- ==== Sys2Proof/Machine/Faults.lean ====
section
/-! DEFINITION. Faults, abort and re-execution (R902 to R936), and when a stripe job is ready (R286, R359). -/

namespace Sys2Proof.Machine

/-! ## Queueing stripe jobs -/

/-- The store holds lines 0 to n - 1 of a camera. -/
def Bale.hasLines (b : Bale) (c : CamDecl) (n : Nat) : Bool := decide (n ≤ b.raw.length) && (List.range n).all fun i => b.lineDone c i

/-- Delivered lines that stripe `k` needs: its own, LOOKAHEAD after it, and the planes of trilinear lines (R286, R471). -/
def State.stripeNeeds (s : State) (blk : StnBlock) (x : IspCtx) (c : CamDecl) (k : Nat) : Nat :=
  min (s.linesOf c) ((k + 1) * c.stripe + lookahead blk.layers x.s2d + (s.linesOf c - c.lines))

/-- The store holds the lines of stripe `k` (R286). -/
def State.linesReady (s : State) (b : Bale) (k : Nat) : Bool :=
  match s.blockOf b with
  | none => false
  | some blk =>
    match blk.vision with
    | none => false
    | some x =>
      match s.camDecl? x.cam with
      | none => false
      | some c => b.hasLines c (s.stripeNeeds blk x c k)

/-- The bale's next stripe job enters the queue once it is ready (R285, R286, R359). -/
def queueStripe (id : Nat) (s : State) : State :=
  match s.bale? id with
  | none => s
  | some b =>
    let have_ := s.jobs.any fun j => j.bale == id && j.kind == .stripe
    if have_ || s.stripesEnded b || b.held || b.stopped || !s.linesReady b b.stripes then s
    else enqueue ⟨b.stn, id, .stripe, b.stripes, false⟩ s

/-! ## Abort (R913 to R917) -/

/-- Stripes whose first line has arrived: a re-execution writes them on the memory path (R453, R464). -/
def State.arrivedStripes (s : State) (b : Bale) : List Nat :=
  match ((s.blockOf b).bind StnBlock.visionCam?).bind s.camDecl? with
  | some c => (List.range (stripeCount c)).filter fun k => b.raw.any fun r => r.cam == c.cam && r.line == k * c.stripe
  | none => []

/-- A bale without what an attempt has computed; everything of R910 stays, and so does its place on the tiles (R348). -/
def Bale.restart (b : Bale) (left : List Nat) : Bale :=
  { b with
    vis := [], left := left, stripes := 0, begun := [], layer := 0, input := [], rows := [], scores := [], meas := [],
    feats := [], trees := [], strings := [], seals := [], regions := [], roi := none, ensDone := none, judging := false,
    tries := 0 }

/-- The work of bale `id` leaves its tiles, which run no stripe job now (R334). -/
def clearWork (id : Nat) (s : State) : State :=
  (List.range 72).foldl (fun (s : State) k =>
    if (s.tile k).work == some id then
      (s.setTile k fun t => { t with work := none }).setN (Reg.tileLayer k) 0
    else s) s

/-- TREE.STAT shows the pass. -/
def showPass (s : State) : State :=
  match s.treePass with
  | some (n, e, ids) => s.setN Reg.treeStat (2 ^ 31 + n % 16 * 2 ^ 24 + e % 8 * 2 ^ 16 + ids.length % 128)
  | none => s.setN Reg.treeStat 0

/-- The work of a bale stops (R913): its queued and running jobs, its pass and its in-line sequences end. -/
def stopWork (id : Nat) (s : State) : State :=
  let s := match s.isp with
    | some (c, b, _) => if b == id then (s.setN (Reg.ispCtxStat c) 0 : State) else s
    | none => s
  let gone := s.decs.filter fun d => d.2.bale == id && !d.2.interactive
  let s : State := { clearWork id s with
    isp := match s.isp with
      | some (c, b, k) => if b == id then none else some (c, b, k)
      | none => none
    jobs := s.jobs.filter fun j => j.bale != id || j.kind == .explain
    decs := s.decs.filter fun d => d.2.bale != id || d.2.interactive
    treePass := s.treePass.map fun p => (p.1, p.2.1, p.2.2.filter (· != id)) }
  showPass (gone.foldl (fun s d => settleTurn d.1.1 s) s)

/-- An abort counts towards RETRY_MAX: the bale is re-queued from stripe job 0, or abandoned (R914, R915, R917, R933). The
answer says whether it is re-executed. -/
def retryBale (b : Bale) (f : FaultRec) (log : Bool) (s : State) : State × Bool :=
  let f := { f with bale := b.tag }
  let rec_ := fun (a : Nat) (s : State) => if log then logFault { f with action := a } s else s
  if b.reexec < s.fget Reg.faultCfg 3 0 then
    let s := rec_ 1 (bump (Reg.faultStnReexec b.stn) s)
    let left := s.arrivedStripes b
    (s.setBale b.id fun x => { x.restart left with reexec := b.reexec + 1 }, true)
  else
    let s := rec_ 3 (bump (Reg.faultStnAbandon b.stn) s)
    let s := logFault { f with action := 3, code := 0x18 } s
    (s.setBale b.id fun x => { x.restart [] with stopped := true }, false)

/-- A copy or a replay that is abandoned holds nothing any more; a live bale keeps its reservations until its milestone leaves
ARMED (R910, R915). -/
def dropAbandoned (id : Nat) (s : State) : State :=
  match s.bale? id with
  | some b =>
    if b.stopped && b.kind != 0 then
      releaseBale id (if b.kind == 2 then s.setFlag Reg.ispReplayStat 31 false else s)
    else s
  | none => s

/-- A bale is aborted for a fault (R913 to R916). -/
def abortBale (id : Nat) (f : FaultRec) (s : State) : State :=
  match s.bale? id with
  | none => logFault { f with action := 0, bale := id } s
  | some b =>
    if b.stopped then logFault { f with action := 0, bale := b.tag } s
    else
    let f := { f with stn := if f.stn.isNone then none else some b.stn }
    let r := retryBale b f true (stopWork id s)
    let s := settleTiles b.stn r.1
    if r.2 then queueStripe id s else dropAbandoned id s

/-- A fault of scope STATION on a bale, for `FaultRec.stn`. -/
def baleStn (s : State) (id : Nat) : Option Nat := some (((s.bale? id).map Bale.stn).getD 0)

/-! ## Device faults -/

/-- A Khan fault aborts every admitted bale (R924, R925); a recurrence within 1 s is a cause of the waystation state
(R926). -/
def khanFault (s : State) : State :=
  let again := match s.boot.khanAt with
    | some t => decide (s.now ≤ t + 250000000)
    | none => false
  let f : FaultRec := { action := 5, stn := none, code := 0x08, unit := 5, index := 0 }
  if again then toWaystation 0x13 f s
  else
    let s := logFault f { s with boot := { s.boot with khanAt := some s.now, rebuilding := true } }
    (s.bales.filter fun b => !b.stopped).foldl (fun (s : State) b =>
      let r := retryBale b f false (stopWork b.id s)
      let s := settleTiles b.stn r.1
      if r.2 then s.setBale b.id fun x => { x with held := true } else dropAbandoned b.id s) s

/-- KHAN_FAULT (R924 to R926). -/
def execKhanFault (s : State) : Host.Outcome State Fault Refusal := done s (khanFault s.begin_)

/-- KHAN_REBUILD_END (R925): the aborted bales are re-queued. -/
def execKhanRebuildEnd (s : State) : Host.Outcome State Fault Refusal :=
  let t := s.begin_
  done s <|
    if t.boot.rebuilding then
      let ids := (t.bales.filter Bale.held).map Bale.id
      let t := { t with
        boot := { t.boot with rebuilding := false }
        bales := t.bales.map fun (b : Bale) => { b with held := false } }
      ids.foldl (fun t id => queueStripe id t) t
    else t

/-- Drovers 2b and 2b + 1 serve band b; they are off while PD_BAND_b or PD_DROVER is (R1006). -/
def State.droverOn (s : State) (d : Nat) : Bool := s.domOn domDrover && s.domOn (domBand0 + d / 2)

/-- DROVER_WATCHDOG (R904, R924): the bales whose jobs the drover sequenced are aborted. -/
def execDroverWatchdog (d : Nat) (bales : List Nat) (s : State) : Host.Outcome State Fault Refusal :=
  let f : FaultRec := { action := 1, stn := none, code := 0x07, unit := 5, index := d }
  done s <|
    let t := s.begin_
    if !t.droverOn d then t
    else if bales.isEmpty then logFault { f with action := 0 } t
    else bales.foldl (fun t id => abortBale id f t) t

/-- STEWARD_ROLLBACK (R908, R926): masked, unless it is the second within 10 µs. -/
def execStewardRollback (s : State) : Host.Outcome State Fault Refusal :=
  let t := s.begin_
  let f : FaultRec := { action := 0, stn := none, code := 0x16, unit := 5, index := 0 }
  done s <|
    match t.boot.rollAt with
    | some x =>
      if t.now ≤ x + 2500 then toWaystation 0x10 f t
      else logFault f { t with boot := { t.boot with rollAt := some t.now } }
    | none => logFault f { t with boot := { t.boot with rollAt := some t.now } }

/-- APP_WDOG (R1013): the core restarts at its entry; the other cores and the stations keep running. -/
def execAppWdog (c : Nat) (s : State) : Host.Outcome State Fault Refusal :=
  let t := s.begin_
  done s <|
    if (t.cores.getD c ⟨false, 0, 0, 0, 0⟩).run then
      let t := { t with cores := modAt t.cores c fun k => { k with restarts := k.restarts + 1, kick := t.now } }
      raise 497 (logFault { action := 0, stn := none, code := 0x0E, unit := 5, index := c } t)
    else t

/-- An access that breaks a station's isolation (R380, R381): counted, raised and logged; the bale that issued it is
aborted. -/
def isolation (n : Nat) (bale : Option Nat) (unit index : Nat) (s : State) : State :=
  let s := raise (evStn n 11) (bump (Reg.khanStnIso n) s)
  let f : FaultRec := { action := 0, stn := some n, code := 0x14, unit := unit, index := index }
  match bale with
  | some id => abortBale id f s
  | none => logFault f s

end Sys2Proof.Machine
end

