-- ==== Sys2Proof/Machine/Isp.lean ====
section
/-! DEFINITION. The image pipeline as pure functions of a bale's raw lines and recorded black level (R458 to R486): both
paths give these values (R468). -/

namespace Sys2Proof.Machine

/-- `x` limited to the 12-bit code range. -/
def clamp12 (x : Int) : Nat := (clampI 0 4095 x).toNat

/-- The round-to-nearest-even mean. -/
def meanRne (xs : List Nat) : Nat := if xs.isEmpty then 0 else (rneDiv (sumN xs) xs.length).toNat

/-- A 12-bit value shifted right by 4 with round-to-nearest-even, in 8 bits. -/
def to8 (v : Nat) : Nat := min 255 (rneDiv v 16).toNat

/-- GAIN and OFF of each pixel of one plane (R459); without flat field GAIN is 1.0 and OFF is 0 (R458). -/
def corrTable (flat : Bool) (width : Nat) (table : List Byte) (plane : Nat) : List (Nat × Int) :=
  if flat && !table.isEmpty then
    (List.range width).map fun i =>
      let o := 4 * (plane * width + i)
      (leAt table o 2, sInt 16 (leAt table (o + 2) 2))
  else List.replicate width (16384, 0)

/-- One corrected pixel (R458). -/
def corrPixel (depth : Nat) (bl : Int) (g : Nat × Int) (raw : Nat) : Nat :=
  clamp12 (rneDiv ((16 * (raw % 2 ^ depth * 2 ^ (12 - depth) : Nat) - bl - g.2) * g.1) (2 ^ 18))

/-- The nearest value that is present, going through a list. -/
def firstSome : List (Option Nat) → Option Nat
  | [] => none
  | some v :: _ => some v
  | none :: r => firstSome r

/-- Replacement of defective pixels (R460). -/
def fixDefects (xs : List (Option Nat)) : List Nat :=
  (indexed xs).map fun p =>
    match p.2 with
    | some v => v
    | none =>
      match firstSome (xs.take p.1).reverse, firstSome (xs.drop (p.1 + 1)) with
      | some a, some b => meanRne [a, b]
      | some a, none => a
      | none, some b => b
      | none, none => 0

/-- One corrected line of one plane. -/
def corrLine (corr depth : Nat) (bl : Int) (tab : List (Nat × Int)) (raw : List Nat) : List Nat :=
  let b := if bitAt corr 2 then bl else 0
  fixDefects ((raw.zip tab).map fun p =>
    if bitAt corr 0 && bitAt corr 1 && p.2.1 == 0 then none else some (corrPixel depth b p.2 p.1))

/-- A missing colour sample: the mean of its two row neighbours, or the single one at an edge (R471 step 1). -/
def rowMean (xs : List Nat) (i : Nat) : Nat :=
  let l := if i == 0 then [] else [xs.getD (i - 1) 0]
  let r := match xs[i + 1]? with | some v => [v] | none => []
  meanRne (l ++ r)

/-- Bilinear demosaic of sub-lines 0 and 1 (R471 step 1). -/
def demosaic (s0 s1 : List Nat) : List (List Nat) :=
  (List.range s0.length).map fun i =>
    let even := i % 2 == 0
    [if even then s0.getD i 0 else rowMean s0 i,
     if even then s1.getD i 0 else s0.getD i 0,
     if even then rowMean s1 i else s1.getD i 0]

/-- The corrected planes of a camera line, joined into pixels after step 1 of R471. `line n k` is corrected plane `k` of
delivered line `n`. -/
def joinLine (c : CamDecl) (triGap : Nat) (line : Nat → Nat → List Nat) (n : Nat) : List (List Nat) :=
  match fld c.pixfmt 3 2 with
  | 0 => (line n 0).map fun v => [v]
  | 1 => demosaic (line n 0) (line n 1)
  | _ =>
    let r := line n 0
    let g := line (n + triGap) 1
    let b := line (n + 2 * triGap) 2
    (indexed r).map fun p => [p.2, g.getD p.1 0, b.getD p.1 0]

/-- Step 2 of R471. -/
def colourMatrix (x : IspCtx) (px : List Nat) : List Nat :=
  (List.range 3).map fun i =>
    let s := (List.range 3).foldl (fun (a : Int) j => a + x.ccm.getD (3 * i + j) 0 * (px.getD j 0 : Nat)) 0
    clamp12 (rneDiv (s + x.ccmOff.getD i 0 * 4096) 4096)

/-- Step 3 of R471; RGB needs no table. -/
def colourSpace (code : Nat) (px : List Nat) : List Nat :=
  if code == 0 then px
  else (List.range 3).map fun i => colourOf code i (px.getD 0 0) (px.getD 1 0) (px.getD 2 0)

/-- Colour processing of a pixel after step 1; mono skips it (R472). -/
def rgbOf (x : IspCtx) (mono : Bool) (px : List Nat) : List Nat := if mono then px else colourMatrix x px

/-- Normalisation of channel `i` to the tensor format (R473). -/
def normalise (x : IspCtx) (i v : Nat) : Nat :=
  let n := (16 * (v : Int) - x.mean.getD i 0) * (x.scale.getD i 0 : Nat)
  if x.fmt.isInt then (x.fmt.clampInt (rneDiv n 65536)).1
  else (x.fmt.encode false (Val.ofScaled n (-16) false)).1

/-- Groups of DECIM pixels outside the columns [lo, hi), each replaced by its mean (R479). -/
def steer (decim lo hi : Nat) (px : List (List Nat)) : List (List Nat) :=
  let d := max decim 1
  (indexed (chunks d px)).flatMap fun g =>
    let at0 := g.1 * d
    if lo ≤ at0 && at0 < hi then g.2
    else
      let n := (g.2.headD []).length
      let m := (List.range n).map fun c => meanRne (g.2.map fun p => p.getD c 0)
      g.2.map fun _ => m

/-- One vision-tensor row from S2D joined lines (R473, R474); a missing line gives code 0 (R307). -/
def visionRow (x : IspCtx) (mono : Bool) (width : Nat) (ls : List (Option (List (List Nat)))) : List (List Nat) :=
  let f := x.s2d
  let chans := if mono then 1 else 3
  let norm := ls.map fun l => l.map fun px => px.map fun p =>
    (indexed (colourSpace (if mono then 0 else x.colour) (rgbOf x mono p))).map fun q => normalise x q.1 q.2
  (List.range (width / f)).map fun i =>
    (List.range (f * f)).flatMap fun k =>
      match norm.getD (k / f) none with
      | none => List.replicate chans 0
      | some px => px.getD (i * f + k % f) (List.replicate chans 0)

/-- The f × f means of a group of f joined lines after colour processing (R485). -/
def displayMeans (x : IspCtx) (mono : Bool) (f : Nat) (ls : List (List (List Nat))) : List (List Nat) :=
  let rgb := ls.map fun l => l.map (rgbOf x mono)
  (List.range x.dispW).map fun i =>
    (List.range (if mono then 1 else 3)).map fun c =>
      meanRne (rgb.flatMap fun l => ((l.drop (i * f)).take f).map fun p => p.getD c 0)

/-- The bytes of one display line, padded to 64 bytes (R483, R485). -/
def displayLine (x : IspCtx) (mono : Bool) (means : List (List Nat)) : List Byte :=
  let bytes :=
    if x.dispYuv then
      (chunks 2 means).flatMap fun pr =>
        let yuv := pr.map fun p => if mono then [p.getD 0 0, 2048, 2048] else colourSpace 1 p
        let ch := fun (k : Nat) => if mono then 128 else to8 (Config.chroma (yuv.map fun p => p.getD k 0))
        let y := fun (i : Nat) => to8 ((yuv.getD i []).getD 0 0)
        [y 0, ch 1, y 1, ch 2]
    else means.flatMap fun p => if mono then List.replicate 3 (to8 (p.getD 0 0)) else p.map to8
  let bs := bytes.map (BitVec.ofNat 8)
  bs ++ List.replicate (ceilDiv bs.length 64 * 64 - bs.length) 0

/-- A plane of bytes in tiles of 64 bytes × 32 rows, row-major; bytes beyond the image are `pad` of their place. -/
def tilePlane (w h : Nat) (pad : Nat → Nat) (at_ : Nat → Nat → Nat) : List Byte :=
  (List.range (ceilDiv h 32)).flatMap fun ty => (List.range (ceilDiv w 64)).flatMap fun tx =>
    (List.range 32).flatMap fun r => (List.range 64).map fun c =>
      let y := ty * 32 + r
      let x := tx * 64 + c
      BitVec.ofNat 8 (if y < h && x < w then at_ y x else pad (y * 65536 + x))

/-- The NV12 frame of a bale (R486); `lines` are the joined lines. -/
def codingFrame (x : IspCtx) (mono : Bool) (width : Nat) (pad : Nat → Nat) (lines : List (List (List Nat))) : List Byte :=
  let yuv := lines.map fun l => l.map fun p =>
    if mono then [p.getD 0 0, 2048, 2048] else colourSpace 1 (rgbOf x mono p)
  let px := fun (y c k : Nat) => ((yuv.getD y []).getD c []).getD k 2048
  let h := lines.length
  tilePlane width h pad (fun y c => to8 (px y c 0)) ++
  tilePlane width (ceilDiv h 2) pad (fun y c =>
    if mono then 128
    else
      let k := 1 + c % 2
      let x0 := c / 2 * 2
      to8 (Config.chroma [px (2 * y) x0 k, px (2 * y) (x0 + 1) k, px (2 * y + 1) x0 k, px (2 * y + 1) (x0 + 1) k]))

/-- One step of black-level tracking on a received line of one plane (R461, R462). -/
def trackBlack (depth k first n : Nat) (bl : Int) (raw : List Nat) : Int :=
  let dark := ((raw.drop first).take n).map fun v => v % 2 ^ depth * 2 ^ (12 - depth)
  if n == 0 then 0 else if dark.isEmpty then bl
  else bl + rneDiv (16 * (meanRne dark : Int) - bl) (2 ^ k)

/-- The pixels of a layer's rows whose channel `c` exceeds a threshold (R475): (row, column) pairs. -/
def marked (f : Fmt) (c thr : Nat) (rows : List (List (List Nat))) : List (Nat × Nat) :=
  (indexed rows).flatMap fun r => (indexed r.2).filterMap fun p =>
    let v := p.2.getD c 0
    let i : Int := if f == .uint8 then (v % 256 : Nat) else sInt f.bits v
    if i > (thr : Int) then some (r.1, p.1) else none

/-- The full region of the next stripe, in columns [lo, hi) (R478). -/
def fullRegion (width margin sx : Nat) (cols : List Nat) : Nat × Nat :=
  match cols with
  | [] => (0, 0)
  | x :: r =>
    let a := r.foldl min x * sx
    let b := r.foldl max x * sx + sx
    ((a - margin * 64) / 64 * 64, min width (ceilDiv (b + margin * 64) 64 * 64))

/-- The bounding box (y0, y1, x0, x1) in bale rows and columns of marked pixels, upper bounds exclusive (R477, R481). -/
def boundingBox (sy sx : Nat) (ps : List (Nat × Nat)) : Option (Nat × Nat × Nat × Nat) :=
  match ps with
  | [] => none
  | p :: r =>
    let y0 := r.foldl (fun a q => min a q.1) p.1
    let y1 := r.foldl (fun a q => max a q.1) p.1
    let x0 := r.foldl (fun a q => min a q.2) p.2
    let x1 := r.foldl (fun a q => max a q.2) p.2
    some (y0 * sy, y1 * sy + sy, x0 * sx, x1 * sx + sx)

end Sys2Proof.Machine
end

