-- ==== Sys2Proof/Machine/Intake.lean ====
section
/-! DEFINITION. Intake and image pipeline: line triggers, received lines, the in-line and memory paths, display and coding
rings, capture and replay (R27, R28, R447 to R503, R778). -/

namespace Sys2Proof.Machine

/-! ## Line triggers (R27, R28, R162, R447, R448) -/

/-- The position of a line's trigger (R162). -/
def linePos (c : CamDecl) (pTrig n : Nat) : Nat := posAdd pTrig ((c.offset * 65536 + n * c.pitch) / 65536 : Nat)

/-- The trigger of one line: sent at once, or held back by MAX_LINE_KHZ (R448). -/
def trigLine (c : CamDecl) (id n : Nat) (s : State) : State :=
  let k := s.cam c.cam
  let soon := match k.sentAt with
    | some t => decide ((s.now - t) * c.maxKhz < 250000)
    | none => false
  if soon || !k.delayed.isEmpty then
    bump (Reg.intakeCamLate c.cam) (s.setCam c.cam fun k => { k with delayed := k.delayed ++ [(id, n)] })
  else (sendLineTrig c.link c.addr id n s).setCam c.cam fun k => { k with sentAt := some s.now }

/-- The lines of one camera of a bale whose positions the reference has passed, at most `fuel` of them. -/
def trigCam (c : CamDecl) (id : Nat) : Nat → State → State
  | 0, s => s
  | fuel + 1, s =>
    match s.bale? id with
    | none => s
    | some b =>
      let n := ((b.trig.find? fun p => p.1 == c.cam).map Prod.snd).getD 0
      if n < s.linesOf c && atOrBefore 48 (linePos c b.pTrig n) (s.ref b.stn).hwm.toNat then
        let s := trigLine c id n (baleBoundary id s)
        trigCam c id fuel (s.setBale id fun b =>
          { b with trig := b.trig.map fun p => if p.1 == c.cam then (c.cam, n + 1) else p })
      else s

/-- The lines of every camera of a live bale whose positions the reference has passed. -/
def baleLines (b : Bale) (s : State) : State :=
  if b.kind == 0 then (s.camsOf b.stn).foldl (fun s c => trigCam c b.id (s.linesOf c) s) s else s

/-- Line triggers of a station after a forward move of its reference (R447). -/
def lineTriggers (n : Nat) (s : State) : State := (s.balesOf n).foldl (fun s b => baleLines b s) s

/-- LINE_TRIG_DELAYED (R448): the earliest permitted time of the oldest trigger held back. -/
def execLineTrigDelayed (cam : Nat) (s : State) : Host.Outcome State Fault Refusal :=
  let t := s.begin_
  done s <|
    match (t.cam cam).delayed, t.camDecl? cam with
    | p :: r, some c =>
      let t := t.setCam cam fun k => { k with delayed := r }
      if (t.bale? p.1).isSome then (sendLineTrig c.link c.addr p.1 p.2 t).setCam cam fun k => { k with sentAt := some t.now }
      else t
    | _, _ => t

/-! ## Pixels of a bale -/

/-- Payload bytes of a block at a reference. -/
def State.payAt (s : State) (b : StnBlock) (ref len : Nat) : List Byte := s.dramAt (b.payBase + ref) len

/-- Raw pixels of one plane of a line. -/
def Bale.rawOf (b : Bale) (cam n p : Nat) : List Nat :=
  ((b.raw.find? fun r => r.cam == cam && r.line == n && r.plane == p).map RawLine.px).getD []

/-- What a context reads of a bale: its joined lines by number (R458 to R471). -/
def State.joined (s : State) (b : Bale) (blk : StnBlock) (x : IspCtx) (c : CamDecl) (n : Nat) : List (List Nat) :=
  let table := if bitAt x.corr 0 then s.payAt blk x.ffcRef x.ffcLen else []
  let bl := fun (p : Nat) => ((b.bl.find? fun q => q.1 == c.cam && q.2.1 == p).map fun q => q.2.2).getD 0
  joinLine c (s.fget (Reg.intakeCamCfg c.cam) 19 16)
    (fun n p => corrLine x.corr c.depth (bl p) (corrTable (bitAt x.corr 0) c.width table p) (b.rawOf c.cam n p)) n

/-- The named layer cannot serve as ROI layer (R476). -/
def badRoi (blk : StnBlock) (i : Nat) : Bool :=
  match blk.layers[i]? with
  | some l => !(l.fmtOut == .uint8 || l.fmtOut == .int8) || decide (l.cOut < 2)
  | none => true

/-- The layer that ROI_CFG names for a bale, while EN is 1 (R475). -/
def Bale.namedLayer (b : Bale) : Option Nat :=
  if b.rsGet (Reg.intakeRoiCfg b.stn) 31 31 == 1 then some (b.rsGet (Reg.intakeRoiCfg b.stn) 27 16) else none

/-- The ROI layer of a bale, when steering and decode regions are on (R475, R476). -/
def Bale.roiLayer (b : Bale) (blk : StnBlock) : Option Nat := b.namedLayer.filter fun i => !badRoi blk i

/-- The full region of a stripe, as columns; none for a stripe that is full (R479, R480). -/
def Bale.regionOf (b : Bale) (blk : StnBlock) (k : Nat) : Option (Nat × Nat) :=
  if (b.roiLayer blk).isSome && k != 0 then (b.regions.find? fun r => r.1 == k).map Prod.snd else none

/-- Rows of the vision tensor in stripe `k`'s slot: its own and those that its job reads ahead (R287, R454, R466). -/
def slotSpan (blk : StnBlock) (x : IspCtx) (c : CamDecl) (k : Nat) : Nat × Nat :=
  let per := c.stripe / x.s2d
  let total := ceilDiv c.lines x.s2d
  (k * per, min total ((k + 1) * per + lookahead blk.layers x.s2d / x.s2d))

/-- Row `r` of the vision tensor as a pass of stripe `k` computes it (R471 to R474, R479). -/
def State.tensorRow (s : State) (b : Bale) (blk : StnBlock) (x : IspCtx) (c : CamDecl) (k : Nat) (steered : Bool) (r : Nat) :
    List (List Nat) :=
  let decim := b.rsGet (Reg.intakeRoiCfg2 b.stn) 3 0
  visionRow x (!c.colour) c.width ((List.range x.s2d).map fun j =>
    let n := r * x.s2d + j
    if n < c.lines then
      let px := s.joined b blk x c n
      some (match if steered then b.regionOf blk k else none with
        | some g => steer decim g.1 g.2 px
        | none => px)
    else none)

/-- The tensor rows `rs` of stripe `k` by their index. -/
def State.slotRows (s : State) (b : Bale) (blk : StnBlock) (x : IspCtx) (c : CamDecl) (k : Nat) (steered : Bool) (rs : List Nat) :
    List (Nat × List (List Nat)) :=
  rs.map fun r => (r, s.tensorRow b blk x c k steered r)

/-- The rows that stripe `k`'s slot takes in. -/
def slotRange (blk : StnBlock) (x : IspCtx) (c : CamDecl) (k : Nat) : List Nat :=
  let sp := slotSpan blk x c k
  (List.range (sp.2 - sp.1)).map fun i => sp.1 + i

/-- Bytes of a tensor row in memory. -/
def tensorBytes (f : Fmt) (row : List (List Nat)) : List Byte := f.pack (row.flatMap fun (px : List Nat) => px)

/-- The bytes of a stripe's own rows in its slot, row by row in the bale's vision area (R454, R456, R474, log 48). The rows that its job
reads ahead lie in the slot of the stripe that owns them. -/
def State.slotWrites (s : State) (b : Bale) (x : IspCtx) (c : CamDecl) (k : Nat) (rows : List (Nat × List (List Nat))) : Writes :=
  let per := c.stripe / x.s2d
  rows.filterMap fun r =>
    if k * per ≤ r.1 && r.1 < (k + 1) * per then
      let bs := tensorBytes x.fmt r.2
      some (s.visBase b + k % 4 * (visionArea x c / 4) + (r.1 - k * per) * bs.length, bs)
    else none

/-! ## Display and coding rings (R483 to R489) -/

/-- Writes of a station's pass into its rings: those inside its payload partition, or the isolation breach of R489. -/
def State.ringOk (s : State) (n a len : Nat) : Bool :=
  match s.env? n with
  | some e => e.inPayload a len
  | none => false

/-- Unread lines and frames in the rings of a context. -/
def State.unreadIn (s : State) (k : Nat) : Nat × Nat := s.rings.getD k (0, 0)

/-- One display line enters the ring, or is dropped (R483, R487). The flag says that its place lies outside the partition. -/
def putDisplay (n k : Nat) (b : Bale) (bs : List Byte) (st : State × Writes × Bool) : State × Writes × Bool :=
  let s := st.1
  let lines := b.rsGet (Reg.ispDispLines k) 15 0
  if lines ≤ (s.unreadIn k).1 then (bump (Reg.ispDispDrop k) s, st.2)
  else
    let wr := s.fget (Reg.ispDispWr k) 15 0 % lines
    let base := b.rsGet (Reg.ispDispBaseLo k) 31 0 + b.rsGet (Reg.ispDispBaseHi k) 7 0 * 2 ^ 32
    let a := base + wr * bs.length
    let ok := s.ringOk n a bs.length
    let s := { s with rings := modAt s.rings k fun r => (r.1 + 1, r.2) }
    (s.fset (Reg.ispDispWr k) 15 0 ((wr + 1) % lines), if ok then st.2.1 ++ [(a, bs)] else st.2.1, st.2.2 || !ok)

/-- The display lines of a stripe (R484, R485). -/
def displayStripe (b : Bale) (blk : StnBlock) (x : IspCtx) (c : CamDecl) (k : Nat) (st : State × Writes × Bool) :
    State × Writes × Bool :=
  let s := st.1
  let f := c.width / max x.dispW 1
  let lo := k * c.stripe
  let hi := min c.lines (lo + c.stripe)
  let groups := (List.range (c.lines / max f 1)).filter fun g => lo ≤ g * f + f - 1 && g * f + f - 1 < hi
  groups.foldl (fun st g =>
    let ls := (List.range f).map fun j => s.joined b blk x c (g * f + j)
    putDisplay b.stn x.ctx b (displayLine x (!c.colour) (displayMeans x (!c.colour) f ls)) st) st

/-- The coding frame of a bale enters its ring, or is dropped (R486, R487). The bytes that pad the frame to whole tiles are
free values (assumption 8). -/
def codingOut (b : Bale) (blk : StnBlock) (x : IspCtx) (c : CamDecl) (st : State × Writes × Bool) : State × Writes × Bool :=
  let s := st.1
  let k := x.ctx
  let frames := b.rsGet (Reg.ispCodeFrames k) 4 0
  if frames ≤ (s.unreadIn k).2 then (bump (Reg.ispCodeDrop k) s, st.2)
  else
    let wr := s.fget (Reg.ispCodeWr k) 4 0 % frames
    let seed := s.free
    let s := { s with free := s.free + 1 }
    let bs := codingFrame x (!c.colour) c.width (fun i => Config.freeNat (seed * 2 ^ 32 + i))
      ((List.range c.lines).map fun n => s.joined b blk x c n)
    let base := b.rsGet (Reg.ispCodeBaseLo k) 31 0 + b.rsGet (Reg.ispCodeBaseHi k) 7 0 * 2 ^ 32
    let a := base + wr * bs.length
    let ok := s.ringOk b.stn a bs.length
    let s := { s with rings := modAt s.rings k fun r => (r.1, r.2 + 1) }
    (s.fset (Reg.ispCodeWr k) 4 0 ((wr + 1) % frames), if ok then st.2.1 ++ [(a, bs)] else st.2.1, st.2.2 || !ok)

/-- The outputs of a context for stripe `k` of a bale, once for each bale (R483, R486); a write outside the partition is an
isolation breach (R380, R381, R489). -/
def outputStripe (id : Nat) (x : IspCtx) (k : Nat) (s : State) : State × Writes :=
  match s.bale? id with
  | none => (s, [])
  | some b =>
    match s.blockOf b, s.camDecl? x.cam with
    | some blk, some c =>
      if b.passes.contains (x.ctx, k) then (s, [])
      else
        let st : State × Writes × Bool := (s, [], false)
        let st := if bitAt x.outputs 0 then displayStripe b blk x c k st else st
        let st := if bitAt x.outputs 1 && k + 1 == stripeCount c then codingOut b blk x c st else st
        let s := st.1.setBale id fun b => { b with passes := b.passes ++ [(x.ctx, k)] }
        (if st.2.2 then isolation b.stn (some id) 5 0 s else s, st.2.1)
    | _, _ => (s, [])

/-- Unread places of a ring of `depth` places between the read index and the write index; none where they are equal (log 37). -/
def unread (depth rd wr : Nat) : Nat := if depth == 0 then 0 else (wr % depth + depth - rd % depth) % depth

/-- The index of the next unread line of a context is written (R488): the lines before it are read. -/
def dispRead (k idx : Nat) (s : State) : State :=
  let s := s.fset (Reg.ispDispRd k) 15 0 idx
  { s with rings := modAt s.rings k fun r =>
      (min r.1 (unread (s.fget (Reg.ispDispLines k) 15 0) (idx % 65536) (s.fget (Reg.ispDispWr k) 15 0)), r.2) }

/-- The index of the next unread frame of a context is written (R488). -/
def codeRead (k idx : Nat) (s : State) : State :=
  let s := s.fset (Reg.ispCodeRd k) 4 0 idx
  { s with rings := modAt s.rings k fun r =>
      (r.1, min r.2 (unread (s.fget (Reg.ispCodeFrames k) 4 0) (idx % 32) (s.fget (Reg.ispCodeWr k) 4 0))) }

/-- DISP_RD (R488). -/
def execDispRd (_ini ctx idx : Nat) (s : State) : Host.Outcome State Fault Refusal :=
  done s (ifOn domIsp (decide (ctx < 16)) (dispRead ctx idx) s.begin_)

/-- CODE_RD (R488). -/
def execCodeRd (_ini ctx idx : Nat) (s : State) : Host.Outcome State Fault Refusal :=
  done s (ifOn domIsp (decide (ctx < 16)) (codeRead ctx idx) s.begin_)

/-! ## The in-line path (R463, R464) -/

/-- The slot of stripe `k` is free: no stripe is in it, and none before `k` has still to go through it (R456). -/
def Bale.slotFree (b : Bale) (k : Nat) : Bool :=
  !(b.vis.any fun v => v.stripe % 4 == k % 4) && !(b.left.any fun j => decide (j < k) && j % 4 == k % 4)

/-- The in-line path serves the context (R463). -/
def inlineCtx (x : IspCtx) (c : CamDecl) : Bool := x.inline && c.lead

/-- The in-line path serves the context for a bale: a copy and a replay go through the memory path (R134, R463, R492). -/
def inlineBale (b : Bale) (x : IspCtx) (c : CamDecl) : Bool := b.kind == 0 && inlineCtx x c

/-- The first line of stripe `k` has arrived: the in-line path takes the stripe, or leaves it to the memory path (R464). -/
def takeStripe (id k : Nat) (x : IspCtx) (c : CamDecl) (s : State) : State :=
  match s.bale? id with
  | none => s
  | some b =>
    if !inlineBale b x c || stripeCount c ≤ k || b.left.contains k || b.vis.any fun v => v.stripe == k then s
    else if b.slotFree k then
      (s.setBale id fun b => { b with vis := b.vis ++ [⟨k, false, []⟩] }).setN (Reg.ispCtxStat x.ctx)
        (2 ^ 31 + 2 ^ 30 + b.stn % 16 * 65536)
    else bump (Reg.intakeCamSpillover c.cam) (s.setBale id fun b => { b with left := b.left ++ [k] })

/-- The lines that row `r` of the vision tensor needs have arrived. -/
def State.rowReady (s : State) (b : Bale) (x : IspCtx) (c : CamDecl) (r : Nat) : Bool :=
  (List.range x.s2d).all fun j =>
    let n := r * x.s2d + j
    decide (c.lines ≤ n) || (List.range c.planes).all fun p =>
      b.raw.any fun q => q.cam == c.cam && q.plane == p && q.done &&
        q.line == n + (if fld c.pixfmt 3 2 == 2 then p * s.fget (Reg.intakeCamCfg c.cam) 19 16 else 0)

/-- The rows of an in-line stripe that the last line has completed are written, and with the last of them the stripe is (R463). -/
def fillSlot (id k : Nat) (blk : StnBlock) (x : IspCtx) (c : CamDecl) (s : State) : State × Writes :=
  match s.bale? id with
  | none => (s, [])
  | some b =>
    let have_ := ((b.vis.find? fun v => v.stripe == k).map VisSlot.rows).getD []
    let span := slotRange blk x c k
    let new := s.slotRows b blk x c k false (span.filter fun r => !(have_.any fun q => q.1 == r) && s.rowReady b x c r)
    let full := have_.length + new.length == span.length
    let w := s.slotWrites b x c k new
    let s := s.setBale id fun b => { b with vis := b.vis.map fun v =>
      if v.stripe == k then { v with ready := full, rows := v.rows ++ new } else v }
    if full then
      let more := b.vis.any fun v => v.stripe != k && !v.ready
      let r := outputStripe id x k (if more then s else s.setN (Reg.ispCtxStat x.ctx) 0)
      (r.1, w ++ r.2)
    else (s, w)

/-- What the in-line path does when a line of camera `cam` has arrived (R463): the vision context's rows, and the display and coding
output of its other contexts. -/
def fillInline (id cam : Nat) (s : State) : State × Writes :=
  match s.bale? id with
  | none => (s, [])
  | some b =>
    match s.blockOf b with
    | none => (s, [])
    | some blk =>
      (blk.ctxs.filter fun x => x.cam == cam).foldl (fun (st : State × Writes) x =>
        match st.1.camDecl? x.cam with
        | none => st
        | some c =>
          if !inlineBale b x c then st
          else if bitAt x.outputs 2 then
            (b.vis.filter fun v => !v.ready && !b.left.contains v.stripe).foldl (fun (st : State × Writes) v =>
              let r := fillSlot id v.stripe blk x c st.1
              (r.1, st.2 ++ r.2)) st
          else
            ((List.range (stripeCount c)).filter fun k => !b.passes.contains (x.ctx, k) &&
                b.hasLines c (min (st.1.linesOf c) ((k + 1) * c.stripe + (st.1.linesOf c - c.lines)))).foldl
              (fun (st : State × Writes) k =>
                let r := outputStripe id x k st.1
                (r.1, st.2 ++ r.2)) st) (s, [])

/-! ## Received lines (R451, R461, R778) -/

/-- Pixels `px` placed from pixel `at_` of a line. -/
def placePx (old : List Nat) (at_ : Nat) (px : List Nat) : List Nat :=
  let pre := old.take at_
  pre ++ List.replicate (at_ - pre.length) 0 ++ px ++ old.drop (at_ + px.length)

/-- A bale's raw lines with newly received pixels. -/
def Bale.receive (b : Bale) (c : CamDecl) (line plane at_ : Nat) (last : Bool) (px : List Nat) : Bale :=
  let hit := fun (r : RawLine) => r.cam == c.cam && r.line == line && r.plane == plane
  let old := ((b.raw.find? hit).map RawLine.px).getD []
  let new := placePx old at_ (px.map fun v => v % 2 ^ c.depth)
  { b with raw := b.raw.filter (fun r => !hit r) ++ [⟨c.cam, line, plane, last && new.length == c.width, new⟩] }

/-- Black-level tracking on a received line of one plane (R461, R462). -/
def trackLine (b : Bale) (c : CamDecl) (line plane : Nat) (s : State) : State :=
  let dark := Reg.intakeCamDark c.cam
  let old := (s.cam c.cam).bl.getD plane 0
  let bl := trackBlack c.depth (b.rsGet (Reg.intakeCamCfg c.cam) 11 8) (b.rsGet dark 29 16) (b.rsGet dark 7 0) old
    (b.rawOf c.cam line plane)
  let s := s.setCam c.cam fun k => { k with bl := modAt k.bl plane fun _ => bl }
  let w := ofInt 16 bl
  match plane with
  | 0 => s.fset (Reg.intakeCamBl c.cam) 15 0 w
  | 1 => s.fset (Reg.intakeCamBl c.cam) 31 16 w
  | _ => s.fset (Reg.intakeCamBl2 c.cam) 15 0 w

/-- The bytes of a received plane of a line, as the bale store lays them out (R451). -/
def lineBytes (c : CamDecl) (px : List Nat) : List Byte := px.flatMap fun v => leBytes c.bpp v

/-- The header of a raw bale image (R490). -/
def State.imageHeader (s : State) (b : Bale) (c : CamDecl) : List Byte :=
  let bl := fun (p : Nat) => ((b.bl.find? fun q => q.1 == c.cam && q.2.1 == p).map fun q => q.2.2).getD 0
  [0x48, 0x52, 0x41, 0x57] ++ leBytes 1 c.cam ++ leBytes 1 c.pixfmt ++ leBytes 2 c.width ++ leBytes 4 (s.linesOf c) ++
    leBytes 4 b.tag ++ leBytes 2 (ofInt 16 (bl 0)) ++ leBytes 2 (ofInt 16 (bl 1)) ++ leBytes 2 (ofInt 16 (bl 2)) ++
    List.replicate 42 0

/-- Where a plane of a line lies in a raw bale image (R451, R490). -/
def imageAt (c : CamDecl) (line plane : Nat) : Nat := 64 + (line * c.planes + plane) * c.width * c.bpp

/-- The running capture copies a received plane and the header (R491); a destination outside the station's partition is
blocked (R380, R489). -/
def captureLine (b : Bale) (c : CamDecl) (line plane : Nat) (s : State) : State × Writes :=
  match s.capture with
  | some (cam, some id) =>
    if cam == c.cam && id == b.id then
      let a := s.fget Reg.intakeCaptureAddrLo 31 0 + s.fget Reg.intakeCaptureAddrHi 7 0 * 2 ^ 32
      let total := 64 + s.linesOf c * c.planes * c.width * c.bpp
      if s.ringOk b.stn a total then
        (s, [(a, s.imageHeader b c), (a + imageAt c line plane, lineBytes c (b.rawOf c.cam line plane))])
      else (isolation b.stn (some b.id) 5 0 s, [])
    else (s, [])
  | _ => (s, [])

/-- What follows the last pixel of a plane of a line: tracking, capture, copies for shadow stations, the in-line path, and
stripe jobs that become ready. -/
def lineArrived (id line plane : Nat) (c : CamDecl) (s : State) : State × Writes :=
  match s.bale? id with
  | none => (s, [])
  | some b =>
    let s := trackLine b c line plane s
    let cap := captureLine b c line plane s
    let s := cap.1
    let px := b.rawOf c.cam line plane
    let copies := s.bales.filter fun (x : Bale) => x.kind == 1 && x.tag == id
    let w := copies.map fun x => (s.rawBase x c.cam + (imageAt c line plane - 64), lineBytes c px)
    let s := { s with bales := s.bales.map fun (x : Bale) =>
      if x.kind == 1 && x.tag == id then
        { x.receive c line plane 0 true px with started := true, bl := b.bl, rs := if x.started then x.rs else s.rsWords x.stn }
      else x }
    let s := match (s.bale? id).bind s.blockOf with
      | some blk =>
        match blk.vision with
        | some x =>
          if x.cam == c.cam && line % max c.stripe 1 == 0 && ((s.bale? id).map fun b => b.lineDone c line).getD false then
            takeStripe id (line / max c.stripe 1) x c s
          else s
        | none => s
      | none => s
    let f := if ((s.bale? id).map fun b => b.lineDone c line).getD false then fillInline id c.cam s else (s, [])
    let s := queueStripe id f.1
    let s := copies.foldl (fun s x => queueStripe x.id s) s
    (s, cap.2 ++ w ++ f.2)

/-- LINE_DATA (R451, R778): pixels enter space that is reserved for an admitted bale; any other data is discarded and raises
LINE_UNSOLICITED. -/
def lineData (cam id line plane offset : Nat) (last : Bool) (px : List Nat) (s : State) : State × Writes :=
  match s.bale? id, s.camDecl? cam with
  | some b, some c =>
    let fits := b.kind == 0 && (s.camsOf b.stn).any (fun d => d.cam == cam) && decide (line < s.linesOf c) &&
      decide (plane < c.planes) && decide (offset * 16 + px.length ≤ c.width) &&
      !(b.raw.any fun r => r.cam == cam && r.line == line && r.plane == plane && r.done)
    if fits then
      let w : Writes := [(s.rawBase b cam + (imageAt c line plane - 64) + offset * 16 * c.bpp, lineBytes c (px.map fun v => v % 2 ^ c.depth))]
      let s := s.setBale id fun b => b.receive c line plane (offset * 16) last px
      if ((s.bale? id).map fun b => b.raw.any fun r => r.cam == cam && r.line == line && r.plane == plane && r.done).getD false
      then
        let r := lineArrived id line plane c s
        (r.1, w ++ r.2)
      else (s, w)
    else (raise 472 s, [])
  | _, _ => (raise 472 s, [])

/-- LINE_DATA (R451, R461, R464, R491, R778). -/
def execLineData (cam bale line plane offset : Nat) (last : Bool) (px : List Nat) (s : State) :
    Host.Outcome State Fault Refusal :=
  let r := lineData cam bale line plane offset last px s.begin_
  doneDram s r.1 r.2

/-- LINE_MISSING (R450, R497): the bale is aborted without re-execution and its milestone takes the default action at
P_dead. -/
def lineMissing (cam id line : Nat) (s : State) : State :=
  match s.bale? id, s.camDecl? cam with
  | some b, some c =>
    let triggered := (b.trig.any fun p => p.1 == cam && line < p.2) && !(s.cam cam).delayed.contains (id, line)
    if triggered && !b.lineDone c line then
      let s := raise (evStn b.stn 12) (bump (Reg.faultStnAbandon b.stn) s)
      let s := logFault { action := 3, stn := some b.stn, code := 0x13, unit := 2, index := c.link, detail := line,
                          bale := b.tag } s
      let s := (s.bales.filter fun x => x.kind == 1 && x.tag == id && s.lacks x).foldl (fun s x => stopWork x.id s) s
      releaseBale id (stopWork id s)
    else s
  | _, _ => s

/-- LINE_MISSING (R497). -/
def execLineMissing (cam bale line : Nat) (s : State) : Host.Outcome State Fault Refusal :=
  done s (lineMissing cam bale line s.begin_)

/-! ## The memory path (R465 to R467, R470) -/

/-- The context's next stripe that the memory path has to process for a bale. -/
def State.nextPass (s : State) (b : Bale) (x : IspCtx) : Option Nat :=
  match s.camDecl? x.cam with
  | none => none
  | some c =>
    let ks := List.range (stripeCount c)
    if bitAt x.outputs 2 then
      ks.find? fun k => decide (b.stripes ≤ k) && !(b.vis.any fun v => v.stripe == k) && (!inlineBale b x c || b.left.contains k)
    else if b.kind != 0 || inlineBale b x c then none
    else ks.find? fun k => !b.passes.contains (x.ctx, k)

/-- The pass of stripe `k` is ready (R466): its lines are those of R286 for the context's camera. -/
def State.passReady (s : State) (b : Bale) (blk : StnBlock) (x : IspCtx) (k : Nat) : Bool :=
  match s.camDecl? x.cam with
  | none => false
  | some c =>
    let s2d := (blk.vision.map IspCtx.s2d).getD 1
    b.hasLines c (s.stripeNeeds blk { x with s2d := s2d } c k) &&
      (!bitAt x.outputs 2 ||
        (b.slotFree k && ((b.roiLayer blk).isNone || k == 0 || inlineCtx x c || (b.regions.any fun r => r.1 == k))))

/-- Ready passes of a station: bale, context and stripe. -/
def State.passesOf (s : State) (n : Nat) : List (Nat × IspCtx × Nat) :=
  (s.balesOf n).flatMap fun b =>
    if b.stopped || b.held || !(b.started || b.kind != 0) then []
    else match s.blockOf b with
      | none => []
      | some blk => blk.ctxs.filterMap fun x =>
          match s.nextPass b x with
          | some k => if s.passReady b blk x k then some (b.id, x, k) else none
          | none => none

/-- Pixels that a pass reads, by which the round-robin counts it (R465, R467). -/
def State.passSize (s : State) (p : Nat × IspCtx × Nat) : Nat :=
  match s.camDecl? p.2.1.cam with
  | some c => (min c.lines ((p.2.2 + 1) * c.stripe) - p.2.2 * c.stripe) * c.width
  | none => 0

/-- A station's pass with the earliest deadline (R363, R467). -/
def State.firstPass (s : State) (ps : List (Nat × IspCtx × Nat)) : Option (Nat × IspCtx × Nat) :=
  (sortBy (fun (a b : Nat × IspCtx × Nat) =>
    s.jobBefore ⟨0, a.1, .stripe, 0, false⟩ ⟨0, b.1, .stripe, 0, false⟩) ps).head?

/-- ISP_PASS_START (R465 to R467). -/
def execIspPassStart (s : State) : Host.Outcome State Fault Refusal :=
  let t := s.begin_
  done s <|
    if t.isp.isSome then t
    else
      let heads := (List.range 16).filterMap fun n => (t.firstPass (t.passesOf n)).map fun p => (n, p)
      match drrNext (heads.map fun (h : Nat × Nat × IspCtx × Nat) => (h.1, ((t.env? h.1).map Env.shareBw).getD 0, (t.stn h.1).ispDeficit, t.passSize h.2)) with
      | none => t
      | some (n, ds) =>
        match heads.find? fun h => h.1 == n with
        | none => t
        | some (_, id, x, k) =>
          let t := { t with stations := settleShares (fun (q : Stn) d => { q with ispDeficit := d }) ds t.stations }
          let t := if bitAt x.outputs 2 then t.setBale id fun b => { b with vis := b.vis ++ [⟨k, false, []⟩] } else t
          { t.setN (Reg.ispCtxStat x.ctx) (2 ^ 31 + n % 16 * 65536) with isp := some (x.ctx, id, k) }

/-- The memory-path pass in progress ends (R465, R468, R474, R479). -/
def endPass (ctx : Nat) (s : State) : State × Writes :=
  match s.isp with
  | none => (s, [])
  | some (x, id, k) =>
    if x != ctx then (s, [])
    else
      let s := { s with isp := none }
      match s.bale? id with
      | none => (s.setN (Reg.ispCtxStat ctx) 0, [])
      | some b =>
        let s := s.setN (Reg.ispCtxStat ctx) 0
        match s.blockOf b with
        | none => (s, [])
        | some blk =>
          match blk.ctxs.find? fun c => c.ctx == ctx with
          | none => (s, [])
          | some x =>
            match s.camDecl? x.cam with
            | none => (s, [])
            | some c =>
              let rows := if bitAt x.outputs 2 then s.slotRows b blk x c k (!inlineCtx x c) (slotRange blk x c k) else []
              let w := s.slotWrites b x c k rows
              let s :=
                if bitAt x.outputs 2 then
                  s.setBale id fun b => { b with
                    left := b.left.filter (· != k)
                    vis := b.vis.map fun v => if v.stripe == k then { v with ready := true, rows := rows } else v }
                else s
              let r := if b.kind == 0 then outputStripe id x k s else (s, [])
              (r.1, w ++ r.2)

/-- A residue mismatch ends the running pass of context `ctx`: its output is not used and its bale is aborted (R904, R905,
R923). -/
def failPass (ctx : Nat) (s : State) : State :=
  match s.isp with
  | some (c, id, _) =>
    if c == ctx then
      abortBale id { action := 1, stn := none, code := 0x03, unit := 5, index := 0 }
        ({ s with isp := none }.setN (Reg.ispCtxStat ctx) 0)
    else s
  | none => s

/-- ISP_PASS_END (R465, R468, R479, R486, R904). -/
def execIspPassEnd (ctx : Nat) (err : Bool) (s : State) : Host.Outcome State Fault Refusal :=
  if err then done s (failPass ctx s.begin_)
  else
    let r := endPass ctx s.begin_
    doneDram s r.1 r.2

/-! ## Capture and replay (R490 to R495, R502) -/

/-- CAPTURE_GO (R491, R502). -/
def captureGo (cam : Nat) (s : State) : State :=
  if s.capture.isSome then s
  else
    let s := needDomains [domIsp] s
    { s.setN Reg.intakeCapture (2 ^ 31 + cam % 32) with capture := some (cam % 32, none) }

/-- CAPTURE_GO (R491, R502). -/
def execCaptureGo (_ini cam : Nat) (s : State) : Host.Outcome State Fault Refusal := done s (captureGo cam s.begin_)

/-- CAPTURE_DONE (R491): the copy of a bale that has arrived whole ends. -/
def execCaptureDone (s : State) : Host.Outcome State Fault Refusal :=
  let t := s.begin_
  done s <|
    match t.capture with
    | some (_, some id) =>
      if ((t.bale? id).map t.capturing).getD false then t
      else { t.setFlag Reg.intakeCapture 31 false with capture := none }
    | _ => t

/-- The lines of a raw bale image (R451, R490). -/
def readImage (c : CamDecl) (lines : Nat) (bs : List Byte) : List RawLine :=
  (List.range lines).flatMap fun n => (List.range c.planes).map fun p =>
    ⟨c.cam, n, p, true,
      (chunks c.bpp (slice bs (imageAt c n p) (c.width * c.bpp))).map fun e => leN e % 2 ^ c.depth⟩

/-- REPLAY_STAT.RESULT of a replay that is refused (R495). -/
def replayRefused (code : Nat) (s : State) : State := s.setN Reg.ispReplayStat code

/-- A replay starts or is refused (R492 to R495). -/
def replayGo (n : Nat) (s : State) : State :=
  let s := s.fset Reg.ispReplay 3 0 n
  if s.flag Reg.ispReplayStat 31 then s
  else
    let a := s.fget Reg.ispReplayAddrLo 31 0 + s.fget Reg.ispReplayAddrHi 7 0 * 2 ^ 32
    match s.active? n, s.env? n with
    | some blk, some e =>
      match blk.visionCam?.bind s.camDecl? with
      | none => replayRefused 2 s
      | some c =>
        let lines := s.linesOf c
        let len := 64 + lines * c.planes * c.width * c.bpp
        if !e.inPayload a 64 then replayRefused 3 s
        else
          let h := s.dramAt a 64
          if leAt h 0 4 != 0x57415248 || leAt h 4 1 != c.cam || leAt h 5 1 != c.pixfmt || leAt h 6 2 != c.width || leAt h 8 4 != lines
          then replayRefused 2 s
          else if !e.inPayload a len then replayRefused 3 s
          else if s.maxJobs n < s.slotsReserved n + blk.baleSlots then replayRefused 1 s
          else
            let s := (needDomains stationDomains s).fset Reg.ispReplay 3 0 n
            let id := 2 ^ 32 + s.nextUid
            let bl := (List.range c.planes).map fun p => (c.cam, p, ((leAt h (0x10 + 2 * p) 2 : Nat) : Int))
            let b := { newBale id n blk.uid 2 (leAt h 12 4) none 0 0 0 with
              started := true, rs := s.rsWords n, bl := bl, raw := readImage c lines (s.dramAt a len), base := s.placeBale n blk }
            queueStripe id { s.setN Reg.ispReplayStat (2 ^ 31) with nextUid := s.nextUid + 1, bales := s.bales ++ [b] }
    | _, _ => replayRefused 2 s

/-- REPLAY_GO (R492, R495). -/
def execReplayGo (_ini stn : Nat) (s : State) : Host.Outcome State Fault Refusal := done s (replayGo stn s.begin_)

end Sys2Proof.Machine
end

