-- ==== Sys2Proof/Machine/Odometer.lean ====
section
/-! DEFINITION. Odometer channels and position references (R634 to R682). -/

namespace Sys2Proof.Machine

/-! ## Channels and their stations -/

/-- The stations whose chain holds channel `c`, each with the source number (R657). -/
def State.bindings (s : State) (c : Nat) : List (Nat × Nat) :=
  ((s.dev.map DevBlock.odos).getD []).filterMap fun o =>
    if o.primary == c then some (o.stn, 0) else if o.secondary == c then some (o.stn, 1) else none

/-- A channel has no reason of R655 to be unhealthy. -/
def State.odoOk (s : State) (c : Nat) : Bool :=
  !(s.flag (Reg.odoStat c) 1 || (s.odoCh c).errBad || s.fget (Reg.odoHealthCfg c) 7 0 == 0 ||
    (s.flag (Reg.odoStat c) 7 && s.flag (Reg.odoHealthCfg c) 31) || (s.odoCh c).stallBad || s.flag (Reg.odoCtrl c) 1)

/-- A source of a station can drive its reference: a healthy channel, or the synthetic source where it is declared. -/
def State.sourceOk (s : State) (n src : Nat) : Bool :=
  match s.odoDecl? n with
  | none => false
  | some d => if src == 2 then d.synth else ((s.srcCh n src).map s.odoOk).getD false

/-- The tracker of a channel that is not active. -/
def Ref.trk (r : Ref) (src : Nat) : Option Pos := if src == 0 then r.trk0 else if src == 1 then r.trk1 else Option.none

/-- A tracker set or dropped. -/
def Ref.setTrk (r : Ref) (src : Nat) (p : Option Pos) : Ref :=
  if src == 0 then { r with trk0 := p } else if src == 1 then { r with trk1 := p } else r

/-- REQUAL_TICKS in force (R163). -/
def OdoDecl.requalTicks (d : OdoDecl) : Nat := if d.requal == 0 then 4096 else d.requal

/-! ## The reference chain -/

/-- The reference becomes LOST (R668). -/
def lose (n : Nat) (s : State) : State :=
  let s := s.setRef n fun r => { r with lost := true, handover := false, resid := 0 }
  cancelFires n (assertStop n causeLost (raise (evStn n 10) s))

/-- A handover to source `y` starts (R662, R663, R666, R669): its tracker gives the steps. The source that was active keeps
a tracker if it is healthy (R658). -/
def handover (n y : Nat) (s : State) : State :=
  match s.odoDecl? n with
  | none => s
  | some d =>
    let r := s.ref n
    let speed := if r.src == 2 && !r.lost then r.synthSpeed else sInt 32 (s.reg (Reg.odoRefSpeed n)).toNat
    let ran : Int := speed * ((s.now - r.goodAt) * 4 : Nat)
    let target : Nat := if y == 2 then posAdd r.goodPos.toNat (ran.tdiv (10 ^ 9)) else ((r.trk y).getD r.pos).toNat
    let dist := modDiff 48 r.pos.toNat target
    let back := r.src != y && !r.lost && s.sourceOk n r.src && r.src != 2
    bump (Reg.odoRefSwitchCnt n) (s.setRef n fun r =>
      { (if back then r.setTrk r.src (some r.pos) else r).setTrk y none with
        src := y, lost := false, handover := true, resid := dist, fwd := 0
        every := if dist == 0 then 2 else max 2 (d.handover / dist.natAbs)
        req := r.req.filter fun q => q.1 != y
        wait := r.wait.filter fun q => q != y
        was := if r.was.contains y then r.was else y :: r.was
        goodPos := r.pos, goodAt := s.now, stall := 0, synthSpeed := speed, synthFrac := ran.natAbs % 10 ^ 9 })

/-- The active source has failed, or the synthetic source has run out: the best eligible source, else the best channel
under requalification, else LOST (R660, R661, R668, R674). -/
def failover (n : Nat) (synth : Bool) (s : State) : State :=
  let r := s.ref n
  let busy := r.req.map Prod.fst ++ r.wait
  let free := [0, 1].find? fun y => y != r.src && s.sourceOk n y && !busy.contains y
  match free with
  | some y => handover n y s
  | none =>
    if synth && r.src != 2 && s.sourceOk n 2 then handover n 2 s
    else match [0, 1].find? fun y => busy.contains y && s.sourceOk n y with
      | some y => handover n y s
      | none => lose n s

/-- A source of station `n` becomes unhealthy (R660, R667). -/
def sourceBad (n src : Nat) (s : State) : State :=
  let s := s.setRef n fun r =>
    { r.setTrk src none with req := r.req.filter fun q => q.1 != src, wait := r.wait.filter fun q => q != src }
  if (s.ref n).src == src && !(s.ref n).lost then failover n true s else s

/-- Requalification starts: the tracker equals the reference (R665). -/
def requalify (n src : Nat) (s : State) : State :=
  match s.odoDecl? n with
  | none => s
  | some d => s.setRef n fun r =>
    { r.setTrk src (some r.pos) with req := r.req ++ [(src, d.requalTicks)], wait := r.wait.filter fun q => q != src }

/-- A source becomes healthy: a LOST reference resumes by handover to it, a source that was active or is better requalifies
once no handover runs, any other becomes eligible (R658, R661, R665, R668). -/
def sourceGood (n src : Nat) (s : State) : State :=
  let r := s.ref n
  if r.lost then handover n src (s.setRef n fun r => r.setTrk src (some r.pos))
  else if r.src == src then s
  else if src < r.src || r.was.contains src then
    if r.handover then s.setRef n fun r => { r with wait := r.wait ++ [src] } else requalify n src s
  else s.setRef n fun r => r.setTrk src (some r.pos)

/-- A handover ends (R664, R665). -/
def endHandover (n : Nat) (s : State) : State :=
  let s := raise (evStn n 9) (s.setRef n fun r => { r with handover := false, resid := 0 })
  (s.ref n).wait.foldl (fun s y => requalify n y s) s

/-- HEALTHY follows the channel's health; its stations act on a change (R655). -/
def odoHealth (c : Nat) (s : State) : State :=
  let ok := s.odoOk c
  let was := s.flag (Reg.odoStat c) 6
  let s := s.setFlag (Reg.odoStat c) 6 ok
  if ok == was then s
  else (s.bindings c).foldl (fun s b => if ok then sourceGood b.1 b.2 s else sourceBad b.1 b.2 s) s

/-! ## Travel -/

/-- The reference moves one position forward; the high-water mark and what hangs on it follow (R28, R670, R671). -/
def stepForward (n : Nat) (s : State) : State :=
  let s := s.setRef n fun r => { r with pos := r.pos + 1, req := r.req.map fun q => (q.1, q.2 - 1) }
  let r := s.ref n
  let s := if r.pos == r.hwm then s.setStn n fun t => { t with rev := false } else s
  if before 48 r.hwm.toNat r.pos.toNat then
    lineTriggers n (crossAll n ((s.setRef n fun r => { r with hwm := r.pos }).setStn n fun t => { t with rev := false }))
  else s

/-- The reference moves one position back; REVERSE is raised once per excursion (R43, R672, R756, R758). -/
def stepBack (n : Nat) (s : State) : State :=
  let s := s.setRef n fun r => { r with pos := r.pos - 1 }
  let r := s.ref n
  let slack := ((s.policy? n).map Policy.backlash).getD 0
  if !(s.stn n).rev && decide ((r.hwm - r.pos).toNat > slack) then
    let s := raise (evStn n 4) (s.setStn n fun t => { t with rev := true })
    if s.flag (Reg.mileStnPolicy n) 1 then assertStop n causeReverse s else s
  else s

/-- The reference moves by `k` positions, one at a time. -/
def moveRef (n : Nat) (k : Int) (s : State) : State :=
  if k < 0 then (List.range k.natAbs).foldl (fun s _ => stepBack n s) s
  else if k == 0 then s
  else predictFires n ((List.range k.natAbs).foldl (fun s _ => stepForward n s) s)

/-- The active source of station `n` ticks by `d` (R662 to R664, R675). -/
def activeTick (n : Nat) (d : Int) (s : State) : State :=
  let r := s.ref n
  let fwd := r.handover && d > 0
  let step : Int := if fwd && r.resid != 0 && (r.fwd + 1) % r.every == 0 then r.resid.sign else 0
  let s := s.setRef n fun r =>
    { r with window := r.window + d, stall := 0, fwd := if fwd then r.fwd + 1 else r.fwd, resid := r.resid - step }
  let s := (moveRef n (d + step) s).setRef n fun r => { r with goodPos := r.pos, goodAt := s.now }
  let r := s.ref n
  let target := ((s.odoDecl? n).map OdoDecl.handover).getD 0
  if r.handover && r.resid == 0 && decide (target ≤ r.fwd) then endHandover n s else s

/-- A channel of station `n` that is not active ticks by `d`: its tracker follows, and ticks of the secondary after the
primary's last tick tell a stall of the primary (R655, R658, R679). -/
def idleTickOf (n src : Nat) (d : Int) (s : State) : State :=
  let s := s.setRef n fun r => r.setTrk src ((r.trk src).map fun p => BitVec.ofNat 48 (posAdd p.toNat d))
  let r := s.ref n
  if src == 1 && r.src == 0 && !r.lost && r.goodAt != s.now && s.sourceOk n 1 then
    let s := s.setRef n fun r => { r with stall := r.stall + 1 }
    if s.fget (Reg.odoRefCfg n) 15 0 ≤ r.stall + 1 then
      match s.srcCh n 0 with
      | some c => odoHealth c (s.setOdo c fun o => { o with stallBad := true })
      | none => s
    else s
  else s

/-- A source of station `n` ticks. -/
def sourceTick (n src : Nat) (d : Int) (s : State) : State :=
  if (s.ref n).src == src && !(s.ref n).lost then activeTick n d s else idleTickOf n src d s

/-! ## Counting -/

/-- A fault of R640 to R642 that ERR_CNT counts; ERR_THR of them in 1 ms make the channel unhealthy, which is logged
(R655, R928). -/
def odoError (c : Nat) (s : State) : State :=
  let s := bump (Reg.odoErrCnt c) (s.setOdo c fun o => { o with errs := o.errs + 1 })
  if !(s.odoCh c).errBad && s.fget (Reg.odoHealthCfg c) 7 0 ≤ (s.odoCh c).errs then
    let ok := s.odoOk c
    let s := s.setOdo c fun o => { o with errBad := true }
    let s := if ok then
        logFault { action := 0, stn := (s.bindings c).head?.map Prod.fst, code := 0x0D, unit := 4, index := c,
                   detail := s.fget (Reg.odoStat c) 9 0 } s
      else s
    odoHealth c s
  else s

/-- An illegal change (R640). -/
def odoIllegal (c : Nat) (s : State) : State := odoError c (raise (evOdo c) (stick (Reg.odoStat c) 2 s))

/-- The declared direction after the count has moved (R646, R647). -/
def odoDirection (c : Nat) (s : State) : State :=
  let o := s.odoCh c
  let rev := s.flag (Reg.odoStat c) 0
  let d := modDiff 48 o.ext.toNat o.cnt.toNat
  let along := if rev then -d else d
  if along > 0 then s.setOdo c fun o => { o with ext := o.cnt }
  else if (-along).toNat > s.fget (Reg.odoCfg c) 31 24 then
    raise (evOdo c) (stick (Reg.odoStat c) 3
      ((s.setFlag (Reg.odoStat c) 0 (!rev)).setOdo c fun o => { o with ext := o.cnt }))
  else s

/-- One tick of a channel, `d` being +1 or -1 before inversion (R644, R645, R652). -/
def odoTick (c : Nat) (d : Int) (s : State) : State :=
  let d := if s.flag (Reg.odoCfg c) 4 then -d else d
  let s := match (s.odoCh c).last with
    | some t => s.setN (Reg.odoPeriod c) (min (s.now - t) (2 ^ 32 - 1))
    | none => s
  let s := s.setOdo c fun o =>
    { o with cnt := BitVec.ofNat 48 (posAdd o.cnt.toNat d), last := some s.now, turn := o.turn.map fun k => k + d }
  let s := odoDirection c s
  let s := if (s.odoCh c).stallBad then odoHealth c (s.setOdo c fun o => { o with stallBad := false }) else s
  (s.bindings c).foldl (fun s b => sourceTick b.1 b.2 d s) s

/-- An index event (R648 to R651). In Hall mode Z carries W and is no index (R643). -/
def odoIndex (c : Nat) (s : State) : State :=
  let mode := s.fget (Reg.odoCfg c) 17 16
  if mode == 0 || s.fget (Reg.odoCfg c) 2 0 == 4 then s
  else
    let o := s.odoCh c
    let cpr := s.fget (Reg.odoCpr c) 31 0
    let s := stick (Reg.odoStat c) 4 (s.setOdo c fun o => { o with latch := o.cnt, turn := some 0 })
    let zero := mode == 1 || (mode == 2 && s.flag (Reg.odoStat c) 5)
    let s := if zero then
        (s.setOdo c fun o => { o with cnt := 0, ext := o.ext - o.cnt }).setFlag (Reg.odoStat c) 5
          (s.flag (Reg.odoStat c) 5 && mode == 1)
      else s
    match o.turn with
    | some k =>
      if cpr == 0 then s
      else
        let drift : Int := k.natAbs - cpr
        let s := s.setN (Reg.odoDrift c) (ofInt 32 drift)
        if drift.natAbs > s.fget (Reg.odoHealthCfg c) 23 8 then odoHealth c (raise (evOdo c) (stick (Reg.odoStat c) 7 s))
        else s
    | none => s

/-- The place of (A, B) in the forward sequence 00, 10, 11, 01 (R639). -/
def quadIndex (a b : Bool) : Nat := match a, b with
  | false, false => 0
  | true, false => 1
  | true, true => 2
  | false, true => 3

/-- The place of (U, V, W) in the forward sequence of R642; none for 000 and 111. -/
def hallIndex (u v w : Bool) : Option Nat := match u, v, w with
  | false, false, true => some 0
  | false, true, true => some 1
  | false, true, false => some 2
  | true, true, false => some 3
  | true, false, false => some 4
  | true, false, true => some 5
  | _, _, _ => none

/-- A quadrature change from (a0, b0) to (a, b) in mode `m` (R639, R640). -/
def quadChange (c m : Nat) (a0 b0 a b : Bool) (s : State) : State :=
  if a0 == a && b0 == b then s
  else if a0 != a && b0 != b then odoIllegal c s
  else
    let d : Int := if (quadIndex a0 b0 + 1) % 4 == quadIndex a b then 1 else -1
    if m == 2 || (m == 1 && a0 != a) || (m == 0 && a0 != a && !b) then odoTick c d s else s

/-- A Hall change (R642). -/
def hallChange (c : Nat) (from_ to_ : Option Nat) (s : State) : State :=
  match from_, to_ with
  | _, none => odoError c (stick (Reg.odoStat c) 8 s)
  | none, some _ => s
  | some i, some j =>
    if (i + 1) % 6 == j then odoTick c 1 s
    else if (j + 1) % 6 == i then odoTick c (-1) s
    else odoError c (stick (Reg.odoStat c) 9 s)

/-- An accepted sample of a channel (R639 to R648, R676): the counting mode first, then the index. -/
def odoSample (c : Nat) (a b z bNew : Bool) (s : State) : State :=
  let o := s.odoCh c
  let m := s.fget (Reg.odoCfg c) 2 0
  let s := s.setOdo c fun o => { o with a := a, b := b, z := z }
  let s :=
    if m ≤ 2 then quadChange c m o.a o.b a b s
    else if m == 3 then
      if !o.a && a then odoTick c (if b then -1 else 1) (if bNew then odoIllegal c s else s) else s
    else if m == 4 then
      if o.a == a && o.b == b && o.z == z then s else hallChange c (hallIndex o.a o.b o.z) (hallIndex a b z) s
    else s
  if !o.z && z then odoIndex c s else s

/-! ## Commands -/

/-- ODO_INPUT_ACCEPT (R635, R636). -/
def execOdoInputAccept (ch : Nat) (a b z bNew : Bool) (s : State) : Host.Outcome State Fault Refusal :=
  done s (if ch < 16 then odoSample ch a b z bNew s.begin_ else s.begin_)

/-- LOS sets on a channel: it is logged and the channel is unhealthy (R637, R638, R904, R928). -/
def setLos (c : Nat) (s : State) : State :=
  if s.flag (Reg.odoStat c) 1 then s
  else
    let s := s.setFlag (Reg.odoStat c) 1 true
    odoHealth c (logFault { action := 0, stn := (s.bindings c).head?.map Prod.fst, code := 0x0D, unit := 4, index := c,
                            detail := s.fget (Reg.odoStat c) 9 0 } s)

/-- LOS clears: the next index event has no previous one (R637, R651). -/
def clearLos (c : Nat) (s : State) : State :=
  if s.flag (Reg.odoStat c) 1 then
    odoHealth c ((s.setFlag (Reg.odoStat c) 1 false).setOdo c fun o => { o with turn := none })
  else s

/-- The channel has RS-422 inputs (R634). -/
def State.rs422 (s : State) (c : Nat) : Bool := s.flag (Reg.odoCfg c) 3

/-- LOS_SET (R637). An HTL input has no loss detection. -/
def execLosSet (ch : Nat) (s : State) : Host.Outcome State Fault Refusal :=
  done s (if ch < 16 && s.rs422 ch then setLos ch (s.begin_.setOdo ch fun o => { o with pairLos := true }) else s.begin_)

/-- LOS_CLEAR (R637): LOS stays while V24_B is lost (R638). -/
def execLosClear (ch : Nat) (s : State) : Host.Outcome State Fault Refusal :=
  done s <|
    if ch < 16 && s.rs422 ch then
      let t := s.begin_.setOdo ch fun o => { o with pairLos := false }
      if (s.odoCh ch).supplyLos then t else clearLos ch t
    else s.begin_

/-- V24_B_LOSS (R638): LOS sets on every channel. -/
def execV24BLoss (s : State) : Host.Outcome State Fault Refusal :=
  done s <| (List.range 16).foldl (fun (s : State) c => setLos c (s.setOdo c fun o => { o with supplyLos := true })) s.begin_

/-- V24_B returns: LOS clears but on a channel whose own pair shows it (R637, R638, R712). -/
def v24bBack (s : State) : State :=
  (List.range 16).foldl (fun (s : State) c =>
    if (s.odoCh c).supplyLos then
      let t := s.setOdo c fun o => { o with supplyLos := false }
      if (s.odoCh c).pairLos then t else clearLos c t
    else s) s

/-- PERIOD_STALL (R653). -/
def execPeriodStall (ch : Nat) (s : State) : Host.Outcome State Fault Refusal :=
  done s (if ch < 16 then s.begin_.setReg (Reg.odoPeriod ch) 0xFFFFFFFF else s.begin_)

/-- SPEED_WINDOW (R654). -/
def execSpeedWindow (stn : Nat) (s : State) : Host.Outcome State Fault Refusal :=
  done s (if stn < 16 then
      (s.begin_.setN (Reg.odoRefSpeed stn) (ofInt 32 ((s.ref stn).window * 1000))).setRef stn fun r => { r with window := 0 }
    else s.begin_)

/-- REF_RETURN (R666): a source whose requalification ticks have passed, and that has stayed healthy for 10 ms. A source
worse than the active one only becomes eligible. -/
def execRefReturn (stn : Nat) (s : State) : Host.Outcome State Fault Refusal :=
  let t := s.begin_
  let r := t.ref stn
  done s <|
    if r.lost || r.handover then t
    else match (sortBy (fun a b => a.1 ≤ b.1) r.req).find? fun q => q.2 == 0 && t.sourceOk stn q.1 with
      | some q =>
        if q.1 < r.src then raise (evStn stn 9) (handover stn q.1 t)
        else t.setRef stn fun r => { r with req := r.req.filter fun x => x.1 != q.1 }
      | none => t

/-- SYNTH_TICK (R659, R680): the synthetic source advances by its speed over `ns` ns. -/
def execSynthTick (stn ns : Nat) (s : State) : Host.Outcome State Fault Refusal :=
  let t := s.begin_
  let r := t.ref stn
  done s <|
    if r.src == 2 && !r.lost && (t.odoDecl? stn).isSome then
      let v := r.synthFrac + r.synthSpeed.natAbs * ns
      let t := t.setRef stn fun r => { r with synthFrac := v % 10 ^ 9 }
      (List.range (v / 10 ^ 9)).foldl (fun s _ => sourceTick stn 2 r.synthSpeed.sign s) t
    else t

/-- SYNTH_MAX_EXPIRY (R669). -/
def execSynthMaxExpiry (stn : Nat) (s : State) : Host.Outcome State Fault Refusal :=
  let t := s.begin_
  done s (if (t.ref stn).src == 2 && !(t.ref stn).lost && (t.odoDecl? stn).isSome then failover stn false t else t)

/-- ERROR_RATE_WINDOW_END (R655): fewer than ERR_THR faults lie in the last 1 ms. -/
def execErrorRateWindowEnd (ch : Nat) (s : State) : Host.Outcome State Fault Refusal :=
  done s (if ch < 16 then odoHealth ch (s.begin_.setOdo ch fun o => { o with errs := 0, errBad := false }) else s.begin_)

/-- ARMED sets; the next index event has no previous one (R649, R651, R677). -/
def odoArm (c : Nat) (s : State) : State :=
  (s.setFlag (Reg.odoStat c) 5 true).setOdo c fun o => { o with turn := none }

/-- ARM (R649). -/
def execArm (_ini ch : Nat) (s : State) : Host.Outcome State Fault Refusal :=
  done s (ifOn domField (decide (ch < 16)) (odoArm ch) s.begin_)

/-- The reference of a station is set up when its ODOMETER section is installed (R657, R658): the best healthy channel is
active, the other healthy one is tracked, and without any the reference is LOST. -/
def startRef (n : Nat) (s : State) : State :=
  match s.odoDecl? n with
  | none => s
  | some d =>
    let s := s.setRef n fun r =>
      { r with handover := false, resid := 0, trk0 := none, trk1 := none, req := [], wait := [], was := [], stall := 0
               goodPos := r.pos, goodAt := s.now, lost := false, src := 0 }
    let ok := fun c => s.odoOk c
    if ok d.primary then s.setRef n fun r =>
      { r with was := [0], trk1 := if d.secondary != 255 && ok d.secondary then some r.pos else none }
    else if d.secondary != 255 && ok d.secondary then s.setRef n fun r => { r with src := 1, was := [1] }
    else lose n s

end Sys2Proof.Machine
end

