-- ==== Sys2Proof/Machine/LayerExec.lean ====
section
/-! DEFINITION. Stripe jobs: dispatch, weight pages, layers, regions of interest, and the end of a job (R200, R214 to R217, R229,
R268, R283 to R331, R343 to R364, R389, R412, R413, R475 to R482, R906). -/

namespace Sys2Proof.Machine

/-! ## Dispatch of a stripe job -/

/-- The retirement of a tile that a job of the bale must not be dispatched to. -/
def State.mustSwap (s : State) (b : Bale) (k : Nat) : Option Retire :=
  s.retiring.find? fun r => r.tile == k && b.qualifies r

/-- Swaps of a station's tiles that a dispatch of bale `b` completes together: those that it qualifies for and that are ready (R216 step
5, R232). -/
def completeSwaps (b : Bale) (s : State) : State :=
  s.retiring.foldl (fun (s : State) r =>
    if (s.tile r.tile).owner == some b.stn && b.qualifies r && s.swapReady (some b.id) r then switchSpare r s else s) s

/-- The tile can take a job of bale `b` now (R217, R343). A retired tile without a spare still runs the bales that were admitted
before its owner's next bale boundary, re-executions from their first stripe apart (R214, R229, R329). -/
def State.tileReady (s : State) (b : Bale) (k : Nat) : Bool :=
  let t := s.tile k
  let old := t.st == tileRetiring && t.lx == 15 && !(b.reexec != 0 && b.stripes == 0) && (b.inst.isSome || b.kind == 0)
  (s.backed k || old) && t.work.isNone && !t.scrub && (s.mustSwap b k).isNone

/-- Steering is disabled for a bale whose ROI layer cannot serve, which is said once (R476). -/
def checkRoi (id : Nat) (s : State) : State :=
  match s.bale? id with
  | none => s
  | some b =>
    match b.namedLayer, s.blockOf b with
    | some i, some blk =>
      if badRoi blk i && !b.badLayer then raise (evStn b.stn 13) (s.setBale id fun b => { b with badLayer := true }) else s
    | _, _ => s

/-- The instances of a run of model tiles for a partition of `p` slots: whole partitions, or all the tiles under a fold (R345 to R347). -/
def instancesOf (p : Nat) (ts : List Nat) : List (Nat × List Nat) :=
  if ts.length % max p 1 == 0 then indexed (chunks (max p 1) ts) else [(0, ts)]

/-- The tiles on which a bale's first dispatch can place it: those in use, and for a re-execution that meets an UNBACKED tile the
largest size of R345 among the remaining ones (R227, R229). -/
def State.placeTiles (s : State) (b : Bale) : List Nat :=
  let st := s.stn b.stn
  if b.reexec != 0 && !st.tiles.all s.backed then
    let ts := (st.tiles.drop st.decTiles).filter fun k => s.backed k && !st.leaving.contains k
    ts.take (bestSize (s.slotsOf b.stn) ts.length)
  else s.modelTiles b.stn

/-- A re-execution has lost a tile of its placement: it is not backed any more, or has left the station. -/
def State.placeLost (s : State) (b : Bale) : Bool :=
  b.reexec != 0 && b.stripes == 0 && b.tiles.any fun k => !s.backed k || (s.tile k).owner != some b.stn

/-- A stripe job is dispatched, if its tiles can take it: to the lowest-numbered free instance at the bale's first dispatch, to
the same instance after it (R285, R329, R348). -/
def dispatchStripe (j : Job) (s : State) : Option State :=
  match s.bale? j.bale with
  | none => none
  | some b =>
    if b.held || b.stopped || s.jobs.any (fun x => x.bale == b.id && x.running) then none
    else
      let got := if s.armed b.stn then (s, true) else workRegion b.stn s
      if !got.2 then none
      else
        let s := completeSwaps b got.1
        match s.bale? b.id with
        | none => none
        | some b =>
          let place :=
            if b.inst.isNone || s.placeLost b then
              (instancesOf (s.slotsOf b.stn) (s.placeTiles b)).find? fun p => p.2.all (s.tileReady b)
            else if b.tiles.all (s.tileReady b) then some (b.inst.getD 0, b.tiles) else none
          match place with
          | none => none
          | some (i, ks) =>
            if ks.isEmpty then none
            else
              let uid := if b.inst.isNone && b.kind == 2 then ((s.stn b.stn).active).getD b.uid else b.uid
              let s := s.setBale b.id fun x => { x with inst := some i, tiles := ks, layer := 0, begun := [], uid := uid }
              let s := ks.foldl (fun (s : State) k =>
                (s.setTile k fun t => { t with work := some b.id, gated := false }).setN (Reg.tileLayer k)
                  (b.stn % 16 * 2 ^ 16 + b.stripes % 4096 * 16 + 1)) s
              let s := if b.stripes == 0 then checkRoi b.id s else s
              some { s with jobs := s.jobs.map fun x =>
                if x.bale == b.id && x.kind == .stripe then { x with running := true } else x }

/-! ## Weight pages (R349 to R353, R389) -/

/-- Payload bytes of a layer's weights, by output channel and reduction index, that the channels [c, d) and indexes [i, k) take (R281):
one span for each channel. -/
def Layer.weightSpans (l : Layer) (f : Fmt) (c d i k : Nat) : List (Nat × Nat) :=
  (List.range (d - c)).map fun n =>
    let co := c + n
    if f == .hb4 then
      let row := ceilDiv l.red 32
      ((co * row + i / 32) * 17, (co * row + ceilDiv k 32) * 17)
    else ((co * l.red + i) * f.bits / 8, ceilDiv ((co * l.red + k) * f.bits) 8)

/-- Pages of the payload that hold the weights of a layer for one slot of the partition: its channel group and split-K part (R299, R301,
R349). -/
def slotPages (blk : StnBlock) (l : Layer) (slot : Nat) : List Nat :=
  match l.fmtW with
  | none => []
  | some f =>
    let split := max blk.splitK 1
    let row := slot / max blk.partW 1
    let per := ceilDiv l.cOut (max (blk.partH / split) 1)
    let part := ceilDiv l.red split
    let c := row / split * per
    let i := row % split * part
    let spans := l.weightSpans f c (min l.cOut (c + per)) i (min l.red (i + part))
    spans.foldl (fun (acc : List Nat) p =>
      if p.2 ≤ p.1 then acc
      else
        let lo := (l.wRef + p.1) / 16384
        let hi := (l.wRef + p.2 - 1) / 16384
        acc ++ ((List.range (hi + 1 - lo)).map fun n => lo + n).filter fun q => !acc.contains q) []

/-- The tile whose place tile `k` takes or holds: the one that it is to replace as a spare whose quick BIST has ended (R216 step 4),
else itself. -/
def State.standsFor (s : State) (k : Nat) : Nat :=
  ((s.retiring.find? fun r => r.spare == some k && 3 ≤ r.step).map Retire.tile).getD k

/-- The slots that tile `k` runs for a bale (R346, R347): on the bale's placement, before it on the region's. -/
def State.slotsOn (s : State) (b : Bale) (blk : StnBlock) (k : Nat) : List Nat :=
  let k := s.standsFor k
  let ts := if b.tiles.contains k then b.tiles
    else (((instancesOf blk.slots (s.placeTiles b)).find? fun p => p.2.contains k).map Prod.snd).getD []
  match ts.findIdx? (· == k) with
  | some i => (List.range blk.slots).filter fun x => x % ts.length == i
  | none => []

/-- The pages of a layer that must be resident on a tile before the layer starts there (R353): those of all its slots, or of the first
one where they exceed the pages granted, so that they are fetched again at each slot change (R354). -/
def State.pagesFor (s : State) (b : Bale) (blk : StnBlock) (l : Layer) (k : Nat) : List Nat :=
  let slots := s.slotsOn b blk k
  let all := slots.foldl (fun (acc : List Nat) x => acc ++ (slotPages blk l x).filter fun q => !acc.contains q) []
  if all.length ≤ s.pagesPerTile b.stn then all else slotPages blk l (slots.headD 0)

/-- The pages are resident on a tile. -/
def State.resident (s : State) (uid : Nat) (ps : List Nat) (k : Nat) : Bool :=
  ps.all fun q => (s.tile k).pages.any fun p => p.uid == uid && p.page == q

/-- A layer of the bale runs on the tile: it has started there and has not ended. -/
def Bale.runsOn (b : Bale) (k : Nat) : Bool := b.begun.any fun p => p.2 == k && b.layer ≤ p.1

/-- The next layer that the tile will run for a bale, in the cyclic layer order (R351, R352). -/
def Bale.nextLayer (b : Bale) (blk : StnBlock) (k : Nat) : Nat :=
  ((List.range blk.layers.length).find? fun i => decide (b.layer ≤ i) && !b.begun.contains (i, k)).getD 0

/-- The layer reads page `p` of the station's payload. -/
def Layer.usesPage (l : Layer) (p : Nat) : Bool :=
  l.wLen != 0 && l.fmtW.isSome && decide (l.wRef / 16384 ≤ p) && decide (p ≤ (l.wRef + l.wLen - 1) / 16384)

/-- Layers from layer `cur` to the next use of a page, in cyclic layer order (R352). -/
def nextUse (ls : List Layer) (cur p : Nat) : Nat :=
  let n := ls.length
  ((List.range n).find? fun d => ((ls[(cur + d) % max n 1]?).map fun l => l.usesPage p).getD false).getD n

/-- A granted page slot that holds no page (R350). -/
def freeSlot (granted : Nat) (pages : List PageAt) : Option Nat :=
  (List.range granted).find? fun k => !(pages.any fun p => p.slot == k)

/-- The slot of the resident page whose next use lies farthest ahead, the lower page index on a tie; a page of another block has none
(R352). -/
def victim (uid : Nat) (ls : List Layer) (cur : Nat) (pages : List PageAt) : Option Nat :=
  let use := fun (p : PageAt) => if p.uid == uid then nextUse ls cur p.page else ls.length + 1
  (pages.foldl (fun (a : Option PageAt) p =>
    match a with
    | none => some p
    | some q => if use p > use q || (use p == use q && p.page < q.page) then some p else some q) none).map PageAt.slot

/-- The page slot that a fetch fills (R350 to R352): a free granted one, or for a layer that waits on the tile, which a spare's does not
yet, that of an evicted page. -/
def State.fetchSlot (s : State) (b : Bale) (blk : StnBlock) (k : Nat) : Option Nat :=
  let pages := (s.tile k).pages
  match freeSlot (s.pagesPerTile b.stn) pages with
  | some x => some x
  | none => if b.runsOn k || s.standsFor k != k then none else victim blk.uid blk.layers (b.nextLayer blk k) pages

/-- The station for which a tile holds pages: its owner, or the owner of the tile that it is to replace (R216 step 4). -/
def State.pageOwner (s : State) (k : Nat) : Option Nat := (s.tile (s.standsFor k)).owner

/-- The Khan fetches page `page` into tile `k` for a bale: the tile is zeroed (R343), and the page is one that the next layer there
needs and that is not resident, of the layer in progress where that layer's slots take turns (R351, R354). -/
def State.wantsPage (s : State) (b : Bale) (blk : StnBlock) (k page : Nat) : Bool :=
  let of := fun (i : Nat) => (blk.layers[i]?).map fun l => (s.slotsOn b blk k).flatMap (slotPages blk l)
  !(s.tile k).scrub && !s.resident blk.uid [page] k &&
    (((of (b.nextLayer blk k)).getD []).contains page ||
      b.begun.any fun p => p.2 == k && b.layer ≤ p.1 && ((of p.1).getD []).contains page)

/-- A page of the payload reaches a tile; the answer holds the SRAM bytes written. -/
def pageFetched (tile page : Nat) (b : Bale) (blk : StnBlock) (s : State) : State × Writes :=
  if !s.wantsPage b blk tile page then (s, [])
  else
    match s.fetchSlot b blk tile with
    | none => (s, [])
    | some k =>
      let bytes := (s.payAt blk (page * 16384) 16384).take (blk.payLen - page * 16384)
      let s := s.setTile tile fun t => { t with pages := t.pages.filter (fun p => p.slot != k) ++ [⟨k, blk.uid, page⟩] }
      ({ s with retiring := s.retiring.map fun (r : Retire) =>
          if r.spare == some tile && r.step == 3 then { r with step := 4 } else r },
        [(tile * 0x200000 + k * 16384, bytes)])

/-- PAGE_FETCH_END (R351, R352, R389). -/
def execPageFetchEnd (tile page bale : Nat) (err : Bool) (s : State) : Host.Outcome State Fault Refusal :=
  let t := s.begin_
  match t.bale? bale with
  | none => done s t
  | some b =>
    if t.pageOwner tile != some b.stn then done s t
    else if err then
      done s (abortBale bale { action := 1, stn := baleStn t bale, code := 0x02, unit := 5, index := 0,
                                 detail := (((t.blockOf b).map StnBlock.payBase).getD 0 + page * 16384) % 65536 } t)
    else match t.blockOf b with
      | none => done s t
      | some blk =>
        let r := pageFetched tile page b blk t
        finish {} s r.1 [] [] r.2 []

/-! ## Layers -/

/-- `n` more events on a saturating counter of `w` bits (R71). -/
def bumpBy (w a n : Nat) (s : State) : State :=
  if n == 0 then s
  else
    let v := (s.reg a).toNat
    let top := 2 ^ w - 1
    let c := min top (v % 2 ^ w + n)
    let s := s.fset a (w - 1) 0 c
    if c == top && !bitAt v 31 then raise 473 (s.setFlag a 31 true) else s

/-- The vision context, camera and index of the stripe job that a bale runs. -/
def State.stripeOf (s : State) (b : Bale) : Option (StnBlock × IspCtx × CamDecl) :=
  match s.blockOf b with
  | none => none
  | some blk =>
    match blk.vision with
    | none => none
    | some x => (s.camDecl? x.cam).map fun c => (blk, x, c)

/-- A layer reads the stripe input. -/
def Layer.direct (l : Layer) : Bool := l.src0.isNone || ((l.op == .add || l.op == .mul) && l.src1.isNone)

/-- The vision slot of the stripe that a bale runs is written. -/
def Bale.slotReady (b : Bale) : Bool := b.vis.any fun v => v.stripe == b.stripes && v.ready

/-- The bale's stripe job runs. -/
def State.stripeRuns (s : State) (id : Nat) : Bool := s.jobs.any fun j => j.bale == id && j.kind == .stripe && j.running

/-- Output rows of layer `i` that the bale's running stripe job produces: from the first to before the second (R294, R297). -/
def Bale.newRows (b : Bale) (blk : StnBlock) (x : IspCtx) (c : CamDecl) (i : Nat) : Nat × Nat :=
  ((b.rows.getD i []).length, ((stripeRows blk x c).getD b.stripes []).getD i 0)

/-- The rows that a layer needs from its sources are present: the layer makes none in this job, or its source layers have ended and the
stripe's slot is written (R284, R469). Rows of a layer become present when it ends (log 49). -/
def State.sourcesReady (s : State) (b : Bale) (i : Nat) (l : Layer) : Bool :=
  let none_ := ((s.stripeOf b).map fun p => let r := b.newRows p.1 p.2.1 p.2.2 i; decide (r.2 ≤ r.1)).getD true
  let src := fun (o : Option Nat) => match o with
    | some k => decide (k < b.layer)
    | none => true
  (!l.direct || b.slotReady) && (none_ || (src l.src0 && src l.src1))

/-- Every tile of the placement has started layer `i` (R306, R353). -/
def Bale.startedAll (b : Bale) (i : Nat) : Bool := b.tiles.all fun k => b.begun.contains (i, k)

/-- LAYER_START (R284, R334, R353). -/
def execLayerStart (bale layer tile : Nat) (waited : Bool) (s : State) : Host.Outcome State Fault Refusal :=
  let t := s.begin_
  done s <|
    match t.bale? bale with
    | none => t
    | some b =>
      match (t.blockOf b).bind fun k => k.layers[layer]? with
      | none => t
      | some l =>
        if t.stripeRuns bale && b.tiles.contains tile && decide (b.layer ≤ layer) && !b.begun.contains (layer, tile) &&
            t.sourcesReady b layer l && ((t.blockOf b).map fun k => t.resident k.uid (t.pagesFor b k l tile) tile).getD false then
          let t := t.setBale bale fun b => { b with begun := b.begun ++ [(layer, tile)] }
          let t := t.fset (Reg.tileLayer tile) 31 20 layer
          if waited then bump (Reg.khanStnStall b.stn) t else t
        else t

/-- The rows of the stripe input that stripe `k`'s job can read. -/
def Bale.inputNow (b : Bale) : List Row :=
  match b.vis.find? fun v => v.stripe == b.stripes with
  | some v => b.input ++ (v.rows.filter fun r => decide (b.input.length ≤ r.1)).map Prod.snd
  | none => b.input

/-- Layers from a layer to the last one that reads it, in descriptor order. -/
def lastReader (blk : StnBlock) (i : Nat) : Nat :=
  (indexed blk.layers).foldl (fun m p =>
    if p.2.src0 == some i || ((p.2.op == .add || p.2.op == .mul) && p.2.src1 == some i) then p.1 else m) i

/-- The spilled output of layer `i` shares bytes of the spill area with another one while both are live in a stripe job (R311). -/
def spillClash (blk : StnBlock) (x : IspCtx) (c : CamDecl) (i : Nat) : Bool :=
  let shapes := layerShapes (inputShape x c) blk.layers
  let per := stripeRows blk x c
  let span := fun (k : Nat) (l : Layer) =>
    (l.spillOff, l.spillOff + maxStripeRows per k * (shapes.getD k (inputShape x c)).width *
      ceilDiv l.cOut (spillChans l.fmtOut) * spillBlock l)
  match blk.layers[i]? with
  | none => false
  | some l => l.spill && (indexed blk.layers).any fun p =>
      p.1 != i && p.2.spill && decide (p.1 ≤ lastReader blk i) && decide (i ≤ lastReader blk p.1) &&
        decide ((span i l).1 < (span p.1 p.2).2) && decide ((span p.1 p.2).1 < (span i l).2)

/-- The rows of a source as a layer reads them (R310). What a spill reads back that shares its bytes with another live one is not
specified (R311): free codes, of which `seed` names the draw. -/
def Bale.sourceRows (b : Bale) (blk : StnBlock) (x : IspCtx) (c : CamDecl) (seed : Nat) : Option Nat → List Row
  | none => b.inputNow
  | some i =>
    let rows := b.rows.getD i []
    match blk.layers[i]? with
    | some l =>
      if spillClash blk x c i then
        (indexed rows).map fun r => (indexed r.2).map fun p => (indexed p.2).map fun q =>
          Config.freeCode (((seed * 2 ^ 20 + r.1) * 2 ^ 14 + p.1) * 2 ^ 13 + q.1) % 2 ^ l.fmtOut.bits
      else rows.map (readBack l)
    | none => rows

/-- Rows of a source that are present after each stripe job so far (R303). -/
def boundsOf (per : List (List Nat)) (inRows : List Nat) (k : Nat) : Option Nat → List Nat
  | none => inRows.take (k + 1)
  | some i => (per.take (k + 1)).map fun r => r.getD i 0

/-- The run of a layer of a bale (R281, R301). -/
def State.layerRun (s : State) (blk : StnBlock) (l : Layer) (width : Nat) (orders : List (List Nat)) : LRun :=
  { l := l, partW := blk.partW, partH := blk.partH, splitK := blk.splitK, det := s.flag Reg.sysDetMode 0, width := width
    orders := orders
    ws := if l.fmtW.isSome then l.weights (s.payAt blk l.wRef l.wLen) else []
    bs := if l.bias then (chunks 4 (s.payAt blk l.bRef (4 * l.cOut))).map leN else []
    qs := if l.carriesQ then (chunks 8 (s.payAt blk l.qRef (8 * l.cOut))).map requantEntry else [] }

/-- The output rows of layer `i` in the stripe job that a bale runs: those before it, and the new ones with what conversion
did to them. -/
def State.layerOut (s : State) (b : Bale) (blk : StnBlock) (x : IspCtx) (c : CamDecl) (i : Nat) (l : Layer)
    (orders : List (List Nat)) : List (List (List (Nat × Conv))) :=
  let inS := inputShape x c
  let shapes := layerShapes inS blk.layers
  let per := stripeRows blk x c
  let n := stripeCount c
  let ins := (List.range n).map fun k => inputRows inS.rows (c.stripe / x.s2d) k (k + 1 == n)
  let r := b.newRows blk x c i
  let width := (shapes.getD i inS).width
  let src := b.sourceRows blk x c s.free
  layerRows (s.layerRun blk l width orders) (src l.src0) (src l.src1) (boundsOf per ins b.stripes l.src0) width r.1 r.2

/-- SAT_CNT and NAN_CNT of the tiles that converted the elements (R268). -/
def countConv (b : Bale) (blk : StnBlock) (l : Layer) (width : Nat) (rows : List (List (List (Nat × Conv)))) (s : State) : State :=
  (indexed (convCounts blk l width rows)).foldl (fun s p =>
    match b.tileOf p.1 with
    | some k => bumpBy 24 (Reg.tileNanCnt k) p.2.2 (bumpBy 24 (Reg.tileSatCnt k) p.2.1 s)
    | none => s) s

/-- What a layer delivers to a vector of the bale (R306). -/
def Bale.deliver (b : Bale) (l : Layer) (row : Row) : Bale :=
  let es := (indexed (row.headD [])).map fun p => (l.outBase + p.1, vectorCode l.fmtOut p.2)
  let b := if l.scores then b.putVec 0 es else b
  let b := if l.measure then b.putVec 1 es else b
  if l.features then b.putVec 2 es else b

/-! ## Regions of interest (R475 to R482) -/

/-- The full region that the ROI layer's rows of stripe `b.stripes` give for the next one. -/
def steerNext (id : Nat) (l : Layer) (shape : Shape) (c : CamDecl) (rows : List Row) (s : State) : State :=
  match s.bale? id with
  | none => s
  | some b =>
    let thr := b.rsGet (Reg.intakeRoiCfg b.stn) 15 8
    let g := fullRegion c.width (b.rsGet (Reg.intakeRoiCfg2 b.stn) 15 8) shape.cx ((marked l.fmtOut 0 thr rows).map Prod.snd)
    let s := s.setN (Reg.intakeRoiLast b.stn)
      (if g.2 ≤ g.1 then 2 ^ 31 else ceilDiv g.2 64 % 512 * 65536 + g.1 / 64 % 512)
    s.setBale id fun b => { b with regions := b.regions.filter (fun r => r.1 != b.stripes + 1) ++ [(b.stripes + 1, g.1, g.2)] }

/-- The decode region that stripe `b.stripes` of a bale marks, in bale rows and columns (R477, R481). -/
def Bale.decodeRegion (b : Bale) (blk : StnBlock) (x : IspCtx) (c : CamDecl) : Option (Nat × Nat × Nat × Nat) :=
  match b.roiLayer blk with
  | none => none
  | some i =>
    match blk.layers[i]? with
    | none => none
    | some l =>
      let per := stripeRows blk x c
      let lo := if b.stripes == 0 then 0 else (per.getD (b.stripes - 1) []).getD i 0
      let sh := (layerShapes (inputShape x c) blk.layers).getD i (inputShape x c)
      let ps := marked l.fmtOut 1 (b.rsGet (Reg.intakeRoiCfg b.stn) 7 0) ((b.rows.getD i []).drop lo)
      boundingBox sh.cy sh.cx (ps.map fun p => (p.1 + lo, p.2))

/-- The memory rows of a decoder from the pixels of a layer that `keep` selects by the bale pixel at their top left, as BF16
values (R400, R412, R418). -/
def memoryRows (f : Fmt) (sh : Shape) (rows : List Row) (keep : Nat → Nat → Bool) : List FVec :=
  (indexed rows).flatMap fun r => (indexed r.2).filterMap fun p =>
    if keep (r.1 * sh.cy) (p.1 * sh.cx) then some (p.2.map fun e => toBf16 (f.val e)) else none

/-- Bytes of the memory rows of a decoder in the bale store: BF16 elements in row order (R411, R412). -/
def memoryBytes (mem : List FVec) : List Byte := mem.flatMap fun r => r.flatMap fun v => leBytes 2 (Fmt.bf16.encode true v).1

/-- Memory rows beyond MEM_MAX are cut (R413). -/
def cutMemory (n k memMax : Nat) (mem : List FVec) (s : State) : List FVec × State :=
  if memMax < mem.length then (mem.take memMax, raise (evStn n 13) (bump (Reg.treeDecCut n k) s)) else (mem, s)

/-- A sequence that waits for its turn (R359, R402). -/
def newDec (id uid : Nat) (interactive : Bool) (tok : Nat) (mem : List FVec) : Dec :=
  { bale := id, uid := uid, interactive := interactive, running := false, pos := 0, tok := tok, gen := 0, mem := mem, kvs := [],
    cross := [], kv := 0, again := false, toks := [] }

/-- The bale's decode region is delivered at the end of the stripe job that marks it; a later one is counted (R412, R443,
R481). -/
def deliverRoi (id : Nat) (s : State) : State × Writes :=
  match s.bale? id with
  | none => (s, [])
  | some b =>
    match s.stripeOf b with
    | none => (s, [])
    | some (blk, x, c) =>
      match b.decodeRegion blk x c with
      | none => (s, [])
      | some g =>
        if b.roi.isSome then
          (if b.again then s
           else (blk.inlineDecs.foldl (fun s d => bump (Reg.treeDecNoroi b.stn d.1) s) s).setBale id fun b => { b with again := true }, [])
        else
          let shapes := layerShapes (inputShape x c) blk.layers
          let s := s.setBale id fun b => { b with roi := some g }
          blk.inlineDecs.foldl (fun (st : State × Writes) d =>
            let sh := shapes.getD d.2.srcLayer (inputShape x c)
            let mem := memoryRows sh.fmt sh (b.rows.getD d.2.srcLayer []) fun y x =>
              decide (g.1 ≤ y) && decide (y < g.2.1) && decide (g.2.2.1 ≤ x) && decide (x < g.2.2.2)
            let r := cutMemory b.stn d.1 d.2.memMax mem st.1
            let w := (st.1.memBase b blk x c d.1, memoryBytes r.1)
            let s := { r.2 with decs := r.2.decs ++ [((b.stn, d.1), newDec id b.uid false d.2.startToken r.1)] }
            (enqueue ⟨b.stn, id, .decode, d.1, false⟩ (refreshDec b.stn d.1 s), st.2 ++ [w])) (s, [])

/-! ## The end of a layer -/

/-- The stored bytes of one spill block: compressed, or the elements as they are, with zeros for the channels that pad it (R312 to
R317). -/
def blockBytes (l : Layer) (cs : List Nat) : List Byte :=
  if l.cmpM != 0 then spillBytes l.fmtOut l.cmpM cs
  else l.fmtOut.pack (cs ++ List.replicate (spillChans l.fmtOut - cs.length) 0)

/-- The spilled blocks of the rows that a stripe job has made, by their place in the spill area (R310, R312): stripe-local rows from 0. -/
def spillWrites (base : Nat) (l : Layer) (width : Nat) (rows : List Row) : Writes :=
  let n := spillChans l.fmtOut
  let bs := ceilDiv l.cOut n
  (indexed rows).flatMap fun r => (indexed r.2).flatMap fun p => (indexed (chunks n p.2)).map fun q =>
    (base + l.spillOff + ((r.1 * width + p.1) * bs + q.1) * spillBlock l, blockBytes l q.2)

/-- Layer `i` of a bale ends without a fault (R268, R294, R306, R310, R318). The answer holds what it spills to DRAM. -/
def layerDone (id i : Nat) (orders : List (List Nat)) (s : State) : State × Writes :=
  match s.bale? id with
  | none => (s, [])
  | some b =>
    match s.stripeOf b with
    | none => (s, [])
    | some (blk, x, c) =>
      match blk.layers[i]? with
      | none => (s, [])
      | some l =>
        let sh := (layerShapes (inputShape x c) blk.layers).getD i (inputShape x c)
        let new := s.layerOut b blk x c i l orders
        let rows : List Row := new.map fun r => r.map fun px => px.map Prod.fst
        let old := b.rows.getD i []
        let last := decide (b.stripes + 1 = stripeCount c)
        let w := if l.spill then spillWrites (s.spillBase b x c) l sh.width rows else []
        let s := countConv b blk l sh.width new { s with free := s.free + 1 }
        let s := s.setBale id fun b =>
          let b := { b with
            layer := i + 1
            begun := b.begun.filter fun p => p.1 != i
            rows := if i < b.rows.length then modAt b.rows i fun r => r ++ rows else b.rows ++ [rows]
            seals := if last then b.seals ++ [layerSeal sh.fmt (old ++ rows)] else b.seals }
          if old.isEmpty then match rows with
            | r :: _ => b.deliver l r
            | [] => b
          else b
        let s := if b.roiLayer blk == some i then steerNext id l sh c rows s else s
        let more := (indexed blk.layers).any fun p => decide (i < p.1) && p.2.direct
        if l.direct && !more then
          (s.setBale id fun b => { b with
            input := b.inputNow.take (inputRows (ceilDiv c.lines x.s2d) (c.stripe / x.s2d) b.stripes last)
            vis := b.vis.filter fun v => v.stripe != b.stripes }, w)
        else (s, w)

/-- A fault found at the end of a layer: the tile's window counts it or the tile is retired, and the bale is aborted (R213,
R330, R381, R904, R906). Corrected SRAM errors and router handshake errors are counted only, and the layer ends (R212). -/
def layerFault (id layer fault tile : Nat) (orders : List (List Nat)) (s : State) : State × Writes :=
  let f := fun (code : Nat) => ({ action := 1, stn := baleStn s id, code := code, unit := 1, index := tile, detail := layer } : FaultRec)
  if fault == 5 then layerDone id layer orders (restoreAll (eccEvent tile s))
  else if fault == 6 then layerDone id layer orders (restoreAll (routerEvent tile s))
  else (
    if fault == 4 then abortBale id { f 0x02 with unit := 5, index := 0 } s
    else if fault == 1 then abortBale id (f 0x03) (restoreAll (residueEvent tile s))
    else if fault == 2 then isolation ((baleStn s id).getD 0) (some id) 1 tile s
    else abortBale id (f 0x01) (restoreAll (retire tile 0x05 s)), [])

/-- What LAYER_END leads to, and what it spills to DRAM (R306, R310). -/
def layerEnd (bale layer fault tile : Nat) (orders : List (List Nat)) (s : State) : State × Writes :=
  match s.bale? bale with
  | none => (s, [])
  | some b =>
    match (s.blockOf b).bind fun k => k.layers[layer]? with
    | none => (s, [])
    | some l =>
      if s.stripeRuns bale && b.layer == layer && b.startedAll layer && s.sourcesReady b layer l then
        if fault == 0 then layerDone bale layer orders s
        else if b.tiles.contains tile then layerFault bale layer fault tile orders s
        else (s, [])
      else (s, [])

/-- LAYER_END (R306, R310). -/
def execLayerEnd (bale layer fault tile : Nat) (orders : List (List Nat)) (s : State) : Host.Outcome State Fault Refusal :=
  let r := layerEnd bale layer fault tile orders s.begin_
  doneDram s r.1 r.2

/-! ## End of stripe jobs -/

/-- The seal report of a bale (R322 to R324, R331, R332). -/
def sealReport (b : Bale) (s : State) : State :=
  (sealPackets (b.rsGet (Reg.mboxSealcfg b.stn) 1 0) (b.tag % 2 ^ 32) b.seals).foldl (fun s ws =>
    mbPut b.stn 3 (ws.map (BitVec.ofNat 64)) s) s

/-- The carried rows of layer `l` at the end of the bale's running stripe job (R295): the last rows of its source that the next job
reads again. -/
def Bale.carried (b : Bale) (l : Layer) : List Row :=
  let src := match l.src0 with
    | none => b.input
    | some i => b.rows.getD i []
  src.drop (src.length - carriedRows l)

/-- Bytes of the carried rows that slot `slot` of the partition holds: of all layers in descriptor order, its columns of each row (R296,
R299, log 48). -/
def Bale.carriedBytes (b : Bale) (blk : StnBlock) (slot : Nat) : List Byte :=
  blk.layers.flatMap fun l =>
    let w := ceilDiv l.wIn (max blk.partW 1)
    (b.carried l).flatMap fun row => streamBytes l.fmtA [(row.drop (slot % max blk.partW 1 * w)).take w]

/-- The carried rows go into the halo stores of the bale's tiles, and what those cannot hold into the last of the granted pages, whose
weights have to be fetched again (R296, log 48). -/
def keepCarried (b : Bale) (s : State) : State × Writes :=
  match s.blockOf b with
  | none => (s, [])
  | some blk =>
    (indexed b.tiles).foldl (fun (st : State × Writes) p =>
      let bs := (s.slotsOn b blk p.2).flatMap (b.carriedBytes blk)
      let rest := bs.drop 0x20000
      let from_ := (s.pagesPerTile b.stn * 16384 - rest.length) / 16384
      let at_ := p.2 * 0x200000
      if bs.isEmpty then st
      else if rest.isEmpty then (st.1, st.2 ++ [(at_ + 0x180000, bs)])
      else (st.1.setTile p.2 fun t => { t with pages := t.pages.filter fun q => q.slot < from_ },
        st.2 ++ [(at_ + 0x180000, bs.take 0x20000), (at_ + from_ * 16384, rest)])) (s, [])

/-- A bale's stripe job ends (R296, R359, R364). The answer holds the decoder memory that goes to DRAM and the carried rows that go to
tile SRAM. -/
def stripeEnd (id : Nat) (s : State) : State × Writes × Writes :=
  let stn := ((s.jobs.find? fun j => j.bale == id && j.kind == .stripe && j.running).map Job.stn).getD 0
  let s := clearWork id { s with jobs := s.jobs.filter fun j => !(j.bale == id && j.kind == .stripe && j.running) }
  match s.bale? id with
  | none => (releaseRegion stn (settleTiles stn s), [], [])
  | some _ =>
    let r := deliverRoi id s
    let s := r.1.setBale id fun b => { b with stripes := b.stripes + 1, begun := [], vis := b.vis.filter fun v => v.stripe != b.stripes }
    match s.bale? id with
    | none => (s, r.2, [])
    | some b =>
      let k := if s.stripesEnded b then (s, []) else keepCarried b s
      let s := if s.stripesEnded b then advance id (sealReport b s) else queueStripe id k.1
      (settleTiles stn (gateSurplus stn s), r.2, k.2)

/-- What STRIPE_JOB_END leads to. -/
def stripeJobEnd (bale : Nat) (s : State) : State × Writes × Writes :=
  if !s.stripeRuns bale then (s, [], [])
  else match s.bale? bale with
    | none => stripeEnd bale s
    | some b => if ((s.blockOf b).map fun k => k.layers.length).getD 0 ≤ b.layer then stripeEnd bale s else (s, [], [])

/-- STRIPE_JOB_END (R296, R359). -/
def execStripeJobEnd (bale : Nat) (s : State) : Host.Outcome State Fault Refusal :=
  let r := stripeJobEnd bale s.begin_
  finish {} s r.1 r.2.1 [] r.2.2 []

end Sys2Proof.Machine
end

