-- ==== Sys2Proof/Machine/Trees.lean ====
section
/-! DEFINITION. Tree ensembles (R421 to R432) and the verdict program (R182 to R184, R724 to R730). -/

namespace Sys2Proof.Machine

/-- Bytes of one tree (R421). -/
def Ensemble.treeBytes (e : Ensemble) : Nat := (2 ^ e.depth - 1) * 4 + 2 ^ e.depth * (e.leafBits / 8)

/-- A threshold as a value (R428). -/
def Ensemble.threshold (e : Ensemble) (w : Nat) : Val :=
  if e.thrBf16 then Fmt.bf16.decode (fld w 31 16) else Val.ofInt (sInt 16 (fld w 31 16))

/-- The node goes left (R422, R423, R427, R428). -/
def goesLeft (e : Ensemble) (feats : Nat → Nat) (w : Nat) : Bool :=
  let f := fld w 10 0
  if f == 0x7ff then true
  else
    let x := Val.of32 (feats f)
    if x.isNan then !bitAt w 11
    else
      let c := Val.cmp x (e.threshold w)
      match fld w 15 12 with
      | 0 => c == -1
      | 1 => c != 1
      | _ => c == 0

/-- The node reached after `n` steps from node `i` (R426). -/
def descend (e : Ensemble) (node : Nat → Nat) (feats : Nat → Nat) : Nat → Nat → Nat
  | 0, i => i
  | n + 1, i => descend e node feats n (if goesLeft e feats (node i) then 2 * i + 1 else 2 * i + 2)

/-- The leaf value of tree `t`, widened to FP32 (R424, R430). -/
def leafOf (e : Ensemble) (arr : List Byte) (feats : Nat → Nat) (t : Nat) : Val :=
  let bs := arr.drop (t * e.treeBytes)
  let leaf := descend e (fun i => leAt bs (4 * i) 4) feats e.depth 0 - (2 ^ e.depth - 1)
  let o := (2 ^ e.depth - 1) * 4 + leaf * (e.leafBits / 8)
  if e.leafBits == 16 then Fmt.bf16.decode (leAt bs o 2) else Val.of32 (leAt bs o 4)

/-- The sum of class `c` (R429, R430). -/
def classSum (e : Ensemble) (base : List Byte) (arr : List Byte) (feats : Nat → Nat) (c : Nat) : Val :=
  ((List.range e.trees).filter fun t => t % e.classes == c).foldl (fun a t => a.fadd (leafOf e arr feats t))
    (Val.of32 (leAt base (4 * c) 4))

/-- The tree sigmoid of a class sum (R431). -/
def treeSig (v : Val) : Nat :=
  match v with
  | .nan => Fmt.fp32.nanCode
  | .inf s => if s then 0 else 0x3f800000
  | _ => (ftreeSigmoid v).to32

/-- The tree softmax output of class `c` (R431). -/
def treeSoft (vs : List Val) (c : Nat) : Nat :=
  let bad := vs.any Val.isNan || vs.any (· == .inf false) || vs.all (· == .inf true)
  if bad then Fmt.fp32.nanCode
  else if vs.getD c .nan == .inf true then 0
  else (ftreeSoftmax vs c).to32

/-- The outputs of one ensemble, one FP32 code for each class (R431, R432). -/
def ensembleOut (e : Ensemble) (base arr : List Byte) (feats : Nat → Nat) : List Nat :=
  let vs := (List.range e.classes).map (classSum e base arr feats)
  match e.outFn with
  | 1 => vs.map treeSig
  | 2 => (List.range e.classes).map (treeSoft vs)
  | _ => vs.map Val.to32

/-- The codes of one CMP, applied to an ordered comparison (R182, R728, R729). -/
def cmpHolds (cmp : Nat) (x a b : Val) : Bool :=
  if x.isNan then false
  else
    let c := Val.cmp x a
    match cmp with
    | 0 => c == -1
    | 1 => c != 1
    | 2 => c == 1
    | 3 => c != -1
    | 4 => c == 0
    | 5 => c != 0
    | 6 => c != -1 && Val.cmp x b != 1
    | _ => !(c != -1 && Val.cmp x b != 1)

/-- A string matches a pattern; pattern byte 0x00 matches any byte (R730). -/
def stringMatch (s pat : List Byte) : Bool :=
  s.length == pat.length && (s.zip pat).all fun p => p.1 == p.2 || p.2 == 0

/-- What a rule reads: class scores, tree outputs, measurements (FP32 codes) and strings (R724, R726). -/
structure Operands where
  /-- Class score. -/
  score : Nat → Nat
  /-- Tree output. -/
  tree : Nat → Nat
  /-- Measurement. -/
  meas : Nat → Nat
  /-- String of a decoder. -/
  str : Nat → List Byte
  /-- Payload bytes at a reference. -/
  pay : Nat → Nat → List Byte

/-- The rule's condition holds (R726 to R730). -/
def Rule.holds (r : Rule) (o : Operands) : Bool :=
  let num := fun (c : Nat) => cmpHolds r.cmp (Val.of32 c) (Val.of32 r.a) (Val.of32 r.b)
  match r.op with
  | 1 => num (o.score r.index)
  | 2 => num (o.tree r.index)
  | 3 => num (o.meas r.index)
  | 4 =>
    let m := stringMatch (o.str r.index) (o.pay r.a r.b)
    if r.cmp == 4 then m else !m
  | _ => true

/-- The first rule that holds: its index and its verdict (R183, R184). -/
def runRules (o : Operands) (rs : List Rule) : Option (Nat × Nat) :=
  ((indexed rs).find? fun p => p.2.holds o).map fun p => (p.1, p.2.verdict)

end Sys2Proof.Machine
end

