-- ==== Sys2Proof/Machine/TreeExec.lean ====
section
/-! DEFINITION. Decoder sequences, tree passes, the verdict, and the dispatch of jobs (R31 to R33, R360, R363 to R366, R396 to
R445, R724 to R734). -/

namespace Sys2Proof.Machine

/-! ## Decoder sequences (R396 to R420, R438 to R443) -/

/-- The decode tiles of a station (R340). -/
def State.decodeTiles (s : State) (n : Nat) : List Nat := (s.stn n).tiles.take (s.stn n).decTiles

/-- A sequence must not be dispatched to the old tile of a retirement (R214, R439): it starts again after a loss, or its bale was
admitted at or after the owner's next bale boundary. -/
def State.decMustSwap (s : State) (d : Dec) (r : Retire) : Bool :=
  d.again || if d.interactive then r.from_.isSome else ((s.bale? d.bale).map fun b => b.qualifies r).getD true

/-- The decode tiles can run a sequence (R214, R217, R343). -/
def State.decodeReady (s : State) (n : Nat) (d : Dec) : Bool :=
  let ks := s.decodeTiles n
  !ks.isEmpty && ks.all fun k => s.backed k && !(s.tile k).scrub && !(s.retiring.any fun r => r.tile == k && s.decMustSwap d r)

/-- Swaps of decode tiles that a dispatch of a sequence completes (R216 step 5, R232, R439). -/
def swapDecode (n : Nat) (d : Dec) (s : State) : State :=
  s.retiring.foldl (fun (s : State) r =>
    if (s.decodeTiles n).contains r.tile && s.decMustSwap d r && s.swapReady none r then switchSpare r s else s) s

/-- KV pages that the sequences of a station hold (R354). -/
def State.kvHeld (s : State) (n : Nat) : Nat := sumN ((s.decs.filter fun d => d.1.1 == n).map fun d => d.2.kv)

/-- A decoder sequence changed: the one of decoder `k` of station `n` for bale `id`. -/
def State.setDec (s : State) (n k id : Nat) (f : Dec → Dec) : State :=
  { s with decs := s.decs.map fun d => if d.1 == (n, k) && d.2.bale == id then (d.1, f d.2) else d }

/-- A decoder sequence and its job end. -/
def endDec (n k : Nat) (d : Dec) (s : State) : State :=
  let kind := if d.interactive then JobKind.explain else JobKind.decode
  let s := { s with
    decs := s.decs.filter fun x => !(x.1 == (n, k) && x.2.bale == d.bale && x.2.interactive == d.interactive)
    jobs := s.jobs.filter fun j => !(j.stn == n && j.kind == kind && j.idx == k && j.bale == d.bale) }
  settleTurn n (refreshDec n k s)

/-- The declaration of a decoder sequence and the bytes of its image. -/
def State.decImage (s : State) (k : Nat) (d : Dec) : Option (DecDecl × List Byte) :=
  match s.block? d.uid with
  | none => none
  | some b => (b.decs[k]?).map fun x => (x, s.payAt b x.wRef x.wLen)

/-- A queued sequence starts on the decode tiles: its KV pages are granted whole, and the memory's keys and values computed (R354, R365,
R400, R405, R409). -/
def dispatchDecode (j : Job) (s : State) : Option State :=
  let wants := j.kind == .explain
  if s.decs.any (fun d => d.1 == (j.stn, j.idx) && d.2.running) then none
  else match s.decs.find? fun d => d.1 == (j.stn, j.idx) && d.2.bale == j.bale && d.2.interactive == wants with
    | none => none
    | some (_, d) =>
      let s := swapDecode j.stn d s
      match s.decImage j.idx d with
      | none => none
      | some (x, img) =>
        if !s.decodeReady j.stn d || 96 * (s.decodeTiles j.stn).length < s.kvHeld j.stn + x.kvPages then none
        else
          let tag := ((s.bale? j.bale).map Bale.tag).getD j.bale
          let gen := if x.topk then seedOf x tag j.stn j.idx s.free else 0
          let s := if x.topk && x.trng then { s with free := s.free + 1 } else s
          let s := s.setDec j.stn j.idx j.bale fun d =>
            { d with running := true, gen := gen, kv := x.kvPages, cross := crossOf x img d.mem }
          some (settleTurn j.stn { s with jobs := s.jobs.map fun y => if y == j then { y with running := true } else y })

/-- The string of an in-line sequence (R414). -/
def decString (x : DecDecl) (img : List Byte) (toks : List Nat) : List Byte :=
  (toks.takeWhile (· != x.endToken)).map fun t => img.getD (x.tokOff + t) 0

/-- An in-line sequence starts again from position 0 once its tiles are backed (R439). -/
def restartDec (n k : Nat) (d : Dec) (s : State) : State :=
  match s.decImage k d with
  | none => s
  | some (x, _) =>
    let s := s.setDec n k d.bale fun d =>
      { d with running := false, pos := 0, tok := x.startToken, kvs := [], cross := [], kv := 0, again := true, toks := [] }
    settleTurn n (refreshDec n k { s with jobs := s.jobs.map fun j =>
      if j.stn == n && j.kind == .decode && j.idx == k && j.bale == d.bale then { j with running := false } else j })

/-- A decode tile of station `n` is lost: in-line sequences start again, interactive ones stop (R439, R440). -/
def decodeTileLost (n : Nat) (s : State) : State :=
  (s.decs.filter fun d => d.1.1 == n && d.2.running).foldl (fun s d =>
    if d.2.interactive then stopExplain n d.1.2 d.2 s else restartDec n d.1.2 d.2 s) s

/-- A tile is retired, with what that means for sequences on it (R213, R439, R440). A tile that is neither ACTIVE nor SPARE has
nothing to retire. -/
def retireTile (k cause : Nat) (s : State) : State :=
  if (s.tile k).st != tileActive && (s.tile k).st != tileSpare then s
  else
  let lost := match (s.tile k).owner with
    | some n => if (s.tile k).st == tileActive && (s.decodeTiles n).contains k then some n else none
    | none => none
  let s := restoreAll (retire k cause s)
  match lost with
  | some n => decodeTileLost n s
  | none => s

/-- One token of the sequence that has the decode tiles, which then go to the next one (R365, R396, R402, R404, R414, R419, R420, R438,
R442). -/
def decodeToken (n k : Nat) (s : State) : State :=
  match s.decs.find? fun d => d.1 == (n, k) && d.2.running && (s.stn n).dec.turn == some (decKey d) with
  | none => s
  | some (_, d) =>
    if !d.interactive && ((s.bale? d.bale).map Bale.stopped).getD true then endDec n k d s
    else if (s.decodeTiles n).isEmpty then (if d.interactive then stopExplain n k d s else restartDec n k d s)
    else match s.decImage k d with
      | none => endDec n k d s
      | some (x, img) =>
        let step := decodeStep x img d.cross d.kvs d.pos d.tok
        let ch := chooseToken x d.gen step.1
        let tok := ch.1
        let toks := d.toks ++ [tok]
        let stopped := tok == x.endToken
        let ended := stopped || decide (x.maxTokens ≤ toks.length)
        let s := bump (Reg.treeDecTok n k) s
        let s := s.setDec n k d.bale fun d => { d with pos := d.pos + 1, tok := tok, gen := ch.2, kvs := step.2, toks := toks }
        let s := s.fset (Reg.treeDecStat n k) 11 0 tok
        let s := if d.interactive then
            let s := if ended && !stopped then bump (Reg.treeDecCut n k) s else s
            mbPut n 2 [captionWord d.bale ended (ended && !stopped) k (d.pos + 1) tok false] s
          else s
        if !ended then passTurn n s
        else
          let s := endDec n k d s
          if d.interactive then s
          else checkReady d.bale (s.setBale d.bale fun b => { b with strings := b.strings ++ [(k, decString x img toks)] })

/-- DECODE_TOKEN (R396). -/
def execDecodeToken (stn dec : Nat) (s : State) : Host.Outcome State Fault Refusal := done s (decodeToken stn dec s.begin_)

/-- An explanation of a committed bale is requested, or dropped (R360, R417, R418). -/
def requestExplain (b : Bale) (blk : StnBlock) (rule : Nat) (s : State) : State :=
  match (indexed blk.decs).find? fun d => d.2.interactive with
  | none => s
  | some (k, x) =>
    let n := b.stn
    if (s.decs.any fun d => d.1 == (n, k)) || s.maxJobs n ≤ s.slotsReserved n then bump (Reg.khanStnIdrop n) s
    else
      let sh := match blk.vision with
        | some v => match s.camDecl? v.cam with
          | some c => (layerShapes (inputShape v c) blk.layers).getD x.srcLayer (inputShape v c)
          | none => ⟨0, 0, 0, .int8, 0, 0⟩
        | none => ⟨0, 0, 0, .int8, 0, 0⟩
      let r := cutMemory n k x.memMax (memoryRows sh.fmt sh (b.rows.getD x.srcLayer []) fun _ _ => true) s
      let d := newDec b.id b.uid true (x.startToken + rule) r.1
      enqueue ⟨n, b.id, .explain, k, false⟩ (refreshDec n k { r.2 with decs := r.2.decs ++ [((n, k), d)] })

/-! ## Dispatch (R363, R364) -/

/-- The queued job may be dispatched beside the others of its station: one of a replay only while no deadline job is queued (R493). -/
def State.mayRun (s : State) (j : Job) : Bool :=
  !(((s.bale? j.bale).map fun b => b.kind == 2).getD false) || !((s.queued j.stn).any fun x => (s.deadline x).isSome)

/-- JOB_DISPATCH (R363): the queued job of the station with the earliest deadline that has all it needs. Tree jobs go to the
tree engine's passes (R366). While the Khan rebuilds its state it dispatches nothing (R925). -/
def jobDispatch (n : Nat) (s : State) : State :=
  if s.boot.rebuilding then s
  else ((s.byDeadline ((s.queued n).filter s.mayRun)).findSome? fun j =>
    match j.kind with
    | .stripe => dispatchStripe j s
    | .tree => none
    | .decode => dispatchDecode j s
    | .explain => dispatchDecode j s).getD s

/-- A tile refuses the command of a stripe job that has just been dispatched to it: the bale is aborted (R904, R907). -/
def refuseCommand (before : State) (tile : Nat) (s : State) : State :=
  match (s.tile tile).work with
  | some id =>
    if (before.tile tile).work == some id then s
    else abortBale id { action := 1, stn := baleStn s id, code := 0x06, unit := 1, index := tile } s
  | none => s

/-- JOB_DISPATCH (R214 to R217, R229, R348, R363, R907). -/
def execJobDispatch (stn : Nat) (bad : Option Nat) (s : State) : Host.Outcome State Fault Refusal :=
  let t := jobDispatch stn s.begin_
  done s (match bad with
    | some k => refuseCommand s k t
    | none => t)

/-! ## Tree passes (R366, R433 to R437, R444) -/

/-- Tree jobs of a station that are ready. -/
def State.treeJobs (s : State) (n : Nat) : List Job :=
  (s.queued n).filter fun j => j.kind == .tree && s.mayRun j && ((s.bale? j.bale).map fun b => !b.held && !b.stopped).getD false

/-- The next pass of a station: the ensemble that its job with the earliest deadline needs next, for up to 64 ready jobs of the same
block that need it (R433 to R435). -/
def State.passJobs (s : State) (n : Nat) : Option (Nat × List Job) :=
  let at_ := fun (j : Job) => (s.bale? j.bale).map fun b => (b.uid, b.ensDone.getD 0)
  match s.byDeadline (s.treeJobs n) with
  | [] => none
  | j :: r => (at_ j).map fun p => (p.2, (j :: r.filter fun x => at_ x == some p).take 64)

/-- The size by which the round-robin counts a pass: its trees, for each job (log 37). -/
def State.treeSize (s : State) (p : Nat × List Job) : Nat :=
  p.2.length * ((((p.2.head?.bind fun j => s.bale? j.bale).bind s.blockOf).bind fun b => (b.trees[p.1]?).map Ensemble.trees).getD 1)

/-- TREE_PASS_START (R366, R434). -/
def execTreePassStart (s : State) : Host.Outcome State Fault Refusal :=
  let t := s.begin_
  done s <|
    if t.treePass.isSome then t
    else
      let heads := (List.range 16).filterMap fun n => (t.passJobs n).map fun p => (n, p)
      match drrNext (heads.map fun (h : Nat × Nat × List Job) =>
          (h.1, ((t.env? h.1).map Env.shareTile).getD 0, (t.stn h.1).treeDeficit, t.treeSize h.2)) with
      | none => t
      | some (n, ds) =>
        match heads.find? fun h => h.1 == n with
        | none => t
        | some (_, e, js) =>
          showPass { t with
            stations := settleShares (fun (q : Stn) d => { q with treeDeficit := d }) ds t.stations
            treePass := some (n, e, js.map Job.bale)
            jobs := t.jobs.map fun x => if js.contains x then { x with running := true } else x }

/-- The outputs of an ensemble enter a bale, whose tree job ends with its last ensemble (R359, R432, R724). -/
def treeOut (e id : Nat) (s : State) : State :=
  let isJob := fun (j : Job) => j.bale == id && j.kind == .tree
  match s.bale? id with
  | none => { s with jobs := s.jobs.filter fun j => !isJob j }
  | some b =>
    match s.blockOf b with
    | none => s
    | some blk =>
      match blk.trees[e]? with
      | none => s
      | some x =>
        let out := ensembleOut x (s.payAt blk x.baseRef (4 * x.classes)) (s.payAt blk x.arrayRef x.arrayLen) (vecGet b.feats)
        let s := s.setBale id fun b =>
          { b with trees := vecPut b.trees ((indexed out).map fun p => (e * 16 + p.1, p.2)), ensDone := some (e + 1) }
        if blk.trees.length ≤ e + 1 then checkReady id { s with jobs := s.jobs.filter fun j => !isJob j }
        else { s with jobs := s.jobs.map fun j => if isJob j then { j with running := false } else j }

/-- TREE_PASS_END (R437, R444): an error repeats the pass for the same jobs. -/
def execTreePassEnd (err : Nat) (s : State) : Host.Outcome State Fault Refusal :=
  let t := s.begin_
  done s <|
    match t.treePass with
    | none => t
    | some (n, e, ids) =>
      if err == 0 then
        let t := bump (Reg.treeStnPass n) (showPass { t with treePass := none })
        ids.foldl (fun t id => treeOut e id t) t
      else
        logFault { action := 2, stn := none, code := if err == 1 then 0x02 else 0x03, unit := 5, index := e }
          (bump (Reg.treeStnErr n) t)

/-! ## The verdict (R724 to R734) -/

/-- What the verdict units read of a bale (R726). -/
def State.verdictOperands (s : State) (b : Bale) (blk : StnBlock) : Operands :=
  { score := vecGet b.scores, tree := vecGet b.trees, meas := vecGet b.meas
    str := fun k => ((b.strings.find? fun x => x.1 == k).map Prod.snd).getD []
    pay := s.payAt blk }

/-- Both units agree on rule `r.1` and its verdict `r.2`: the commit (R31, R32, R135, R417, R732). -/
def commit (b : Bale) (blk : StnBlock) (r : Nat × Nat) (s : State) : State :=
  match b.entry with
  | none => commitCopy b r.2 r.1 s
  | some e =>
    let s := commitLive b e r.2 r.1 s
    if b.kind == 0 && ((0x10 ≤ r.2 && r.2 ≤ 0x13) || r.2 == 0x30) then requestExplain b blk r.1 s else s

/-- The units disagree (R733, R734). -/
def disagree (b : Bale) (s : State) : State :=
  let s := raise (evStn b.stn 8) (bump (Reg.verdictMismatch b.stn) s)
  let f := fun (code : Nat) => ({ action := 0, stn := some b.stn, code := code, unit := 5, index := 0, bale := b.tag } : FaultRec)
  if b.tries == 0 then logFault (f 0x04) (s.setBale b.id fun x => { x with tries := 1 })
  else abortBale b.id (f 0x05) s

/-- VERDICT_DONE (R41, R732 to R734). -/
def verdictDone (id flip : Nat) (s : State) : State :=
  match s.bale? id with
  | none => if flip % 256 == 0 then lateCommit id s else s
  | some b =>
    if !b.judging then s
    else match s.blockOf b with
      | none => s
      | some blk =>
        match runRules (s.verdictOperands b blk) blk.rules with
        | none => s
        | some r => if flip % 256 == 0 then commit b blk r s else disagree b s

/-- VERDICT_DONE (R732). -/
def execVerdictDone (bale flip : Nat) (s : State) : Host.Outcome State Fault Refusal := done s (verdictDone bale flip s.begin_)

end Sys2Proof.Machine
end

