-- ==== Sys2Proof/Machine/FabricExec.lean ====
section
/-! DEFINITION. Retirement by command, spares, and the field region of the defect map (R205 to R211, R213 to R216, R218, R230,
R231, R233). -/

namespace Sys2Proof.Machine

/-- A write to MESH.RETIRE_CMD (R213, R233). -/
def retireCmd (key tile : Nat) (s : State) : State := if key == 0xA5 && tile < 72 then retireTile tile 0x09 s else s

/-- RETIRE_CMD (R213, R233): KEY 0xA5 retires the tile. -/
def execRetireCmd (_ini key tile : Nat) (s : State) : Host.Outcome State Fault Refusal := done s (retireCmd key tile s.begin_)

/-- SPARE_POWERED (R216 step 2): the spare of the retirement of tile `tile` has power. -/
def execSparePowered (tile : Nat) (s : State) : Host.Outcome State Fault Refusal :=
  let t := s.begin_
  done s <|
    match t.retiring.find? fun r => r.tile == tile && r.step == 1 with
    | none => t
    | some r =>
      let t := { t with retiring := t.retiring.map fun (x : Retire) => if x.tile == tile && x.step == 1 then { x with step := 2 } else x }
      match r.spare with
      | some j => t.setTile j fun k => { k with gated := false }
      | none => t

/-- SPARE_BIST_END (R216 step 3, R218, R230): a spare that fails is retired with CAUSE 0x0A. -/
def execSpareBistEnd (tile : Nat) (pass : Bool) (s : State) : Host.Outcome State Fault Refusal :=
  let t := s.begin_
  done s <|
    match t.retiring.find? fun r => r.tile == tile && r.step < 3 with
    | none => t
    | some r =>
      if pass then spareReady r t
      else match r.spare with
        | some j => restoreAll (retireSpare j 0x0A t)
        | none => t

/-- The field region as flash holds it: header, entries and signature (R205). -/
def FieldMap.image (f : FieldMap) : List Byte := f.bytes ++ beBytes 64 (Config.mapSignature f.bytes)

/-- The oldest entry being written is in the region, which is signed again with the next SEQ; the logbook counts it and takes a
snapshot (R206, R211, R216 step 6, R988). The answer's second part is the flash write. -/
def fmapWritten (s : State) : State × Writes :=
  match s.fmap.writing with
  | [] => (s, [])
  | e :: rest =>
    let f : FieldMap := { s.fmap with seq := s.fmap.seq + 1, entries := s.fmap.entries ++ [e], writing := rest }
    let w := match s.dirType? 5 with
      | some d => [(d.off, f.image)]
      | none => []
    (snapshot (logBump 16 Reg.logDefects 3 (showFmap { s with fmap := f })), w)

/-- FMAP_WRITE_END (R206, R211, R216). -/
def execFmapWriteEnd (s : State) : Host.Outcome State Fault Refusal :=
  let r := fmapWritten s.begin_
  doneFlash s r.1 r.2

/-- The field region that flash holds: valid when MAGIC, COUNT and the signature hold (R205 to R208). -/
def State.flashMap (s : State) : FieldMap :=
  match s.dirFind? 5 with
  | none => ⟨false, 0, [], []⟩
  | some d =>
    let b := s.flashAt d.off d.len
    let n := leAt b 4 1
    let body := b.take (16 + 16 * n)
    let es := (List.range n).map fun i =>
      let o := 16 + 16 * i
      (⟨leAt b o 1, leAt b (o + 1) 1, leAt b (o + 2) 1, leAt b (o + 4) 4, leAt b (o + 8) 8⟩ : MapEntry)
    if b.take 4 == [0x48, 0x44, 0x46, 0x4D] && n ≤ 64 && 16 + 16 * n + 64 ≤ d.len &&
        (b.drop (16 + 16 * n)).take 64 == beBytes 64 (Config.mapSignature body) then
      ⟨true, BitVec.ofNat 32 (leAt b 8 4), es, []⟩
    else ⟨false, 0, [], []⟩

end Sys2Proof.Machine
end

