-- ==== Sys2Proof/Machine/FieldIn.lean ====
section
/-! DEFINITION. Field channels: accepted inputs, pulses and their checks, protection, supplies and the die link (R685 to
R722). -/

namespace Sys2Proof.Machine

/-! ## Inputs -/

/-- The stations whose trigger channel is `ch` and whose trigger edge this is (R164, R166). -/
def State.triggeredBy (s : State) (ch : Nat) (lvl : Bool) : List Nat :=
  (((s.dev.map DevBlock.policies).getD []).filter fun p => p.trigCh == ch && p.falling == !lvl).map Policy.stn

/-- The reference position that a channel records (R687). -/
def State.fioPos (s : State) (ch : Nat) : Pos := ((s.fioStn ch).map fun n => (s.ref n).pos).getD 0

/-- A rising edge of a counter input (R689). -/
def countEdge (ch : Nat) (s : State) : State :=
  let v := s.reg (Reg.fioCnt ch)
  let s := s.setReg (Reg.fioCnt ch) (v + 1)
  if v + 1 == 0 then raise (evFio ch) (stick (Reg.fioStat ch) 6 s) else s

/-- A trigger edge of a station (R20, R46). A line of its bale whose position is that of the trigger, or that the reference has passed
within the filter delay, is triggered at once (R162, log 30). -/
def triggerEdge (n pos : Nat) (s : State) : State :=
  let t := trigger n pos s
  match if t.nextBale == s.nextBale then none else t.bale? s.nextBale.toNat with
  | some b => baleLines b t
  | none => t

/-- An accepted change of a field input (R20, R46, R686 to R690). -/
def acceptInput (ch : Nat) (lvl : Bool) (back : Int) (backNs : Nat) (s : State) : State :=
  let pos := BitVec.ofNat 48 (posAdd (s.fioPos ch).toNat (-back))
  let s := s.setFio ch fun c =>
    { c with level := lvl, atNs := s.tbNs - BitVec.ofNat 32 backNs, atPos := pos }
  let f := s.fioFunc ch
  if f == 1 then raise (evFio ch) s
  else if f == 2 then (s.triggeredBy ch lvl).foldl (fun s n => triggerEdge n pos.toNat s) s
  else if f == 3 then (if lvl then countEdge ch s else s)
  else if f == 4 then
    if lvl then s.setFio ch fun c =>
      { c with edges := c.edges + 1, t0 := if c.edges == 0 then s.now else c.t0, t1 := s.now }
    else s
  else s

/-- FIO_INPUT_ACCEPT (R686). -/
def execFioInputAccept (ch : Nat) (lvl : Bool) (back : Int) (backNs : Nat) (s : State) :
    Host.Outcome State Fault Refusal :=
  let t := s.begin_
  done s (if ch < 32 && (t.fioCh ch).level != lvl then acceptInput ch lvl back backNs t else t)

/-- FIO.FREQ of `n` rising edges within `ticks` of 4 ns, in mHz (R690). Which way a part of a mHz is rounded is open. -/
def freqOf (n ticks : Nat) (up : Bool) : Nat :=
  let d := ticks * 4
  (n - 1) * 10 ^ 12 / d + (if (n - 1) * 10 ^ 12 % d != 0 && up then 1 else 0)

/-- FREQ_GATE_END (R690, R691): edges with no time between them give no frequency that the manual states. -/
def execFreqGateEnd (ch : Nat) (s : State) : Host.Outcome State Fault Refusal :=
  let t := s.begin_
  let c := t.fioCh ch
  done s <|
    if ch < 32 && t.fioFunc ch == 4 && decide (2 ≤ c.edges) then
      let t := t.setFio ch fun c => { c with edges := 0 }
      let r := takeFree t
      if c.t1 - c.t0 == 0 then r.2.setReg (Reg.fioFreq ch) r.1
      else r.2.setN (Reg.fioFreq ch) (freqOf c.edges (c.t1 - c.t0) (Config.freeBit t.free))
    else t

/-- FREQ_TIMEOUT (R691). -/
def execFreqTimeout (ch : Nat) (s : State) : Host.Outcome State Fault Refusal :=
  let t := s.begin_
  done s (if ch < 32 && t.fioFunc ch == 4 then t.setReg (Reg.fioFreq ch) 0 else t)

/-- FIO.CNT returns to 0 (R689). -/
def cntClr (ch : Nat) (s : State) : State := s.setReg (Reg.fioCnt ch) 0

/-- CNT_CLR (R689). -/
def execCntClr (_ini ch : Nat) (s : State) : Host.Outcome State Fault Refusal :=
  done s (ifOn domField (decide (ch < 32)) (cntClr ch) s.begin_)

/-! ## Pulses and their checks -/

/-- PEAK_END (R692, R693). -/
def execPeakEnd (ch : Nat) (s : State) : Host.Outcome State Fault Refusal :=
  let t := s.begin_
  done s <|
    if t.driven ch && t.fioFunc ch == 0x10 && t.fget (Reg.fioDrive ch) 22 16 != 100 then
      t.setFio ch fun c => { c with hold := true }
    else t

/-- The milestone entry of a channel is freed (R743). -/
def freeChannel (ch : Nat) (s : State) : State :=
  match (s.fioCh ch).entry with
  | some e => freeMile e (s.setFio ch fun c => { c with entry := none })
  | none => s

/-- The bale of the milestone that drives a channel, 0 for none. -/
def State.fioBale (s : State) (ch : Nat) : Nat := (((s.fioCh ch).entry.bind s.mile?).map Mile.bale).getD 0

/-- The stations that name a channel as an ejector or as a backup (R696). -/
def State.ejectors (s : State) (ch : Nat) : List Nat :=
  (((s.dev.map DevBlock.policies).getD []).filter fun p =>
    p.ej.any fun e => (!e.remote && e.ch == ch) || e.backup == ch).map Policy.stn

/-- A read-back failure of an output (R704, R755). -/
def rbFail (ch : Nat) (s : State) : State :=
  let s := raise (evFio ch) (bump Reg.fioRbFailCnt (stick (Reg.fioStat ch) 2 s))
  let s := fieldFault 0x0F ch (s.fioBale ch) s
  (s.ejectors ch).foldl (fun s n => readbackFail n (s.fioCh ch).entry s) s

/-- ON_CHECK (R702). -/
def execOnCheck (ch : Nat) (high : Bool) (s : State) : Host.Outcome State Fault Refusal :=
  let t := s.begin_
  done s <|
    if (t.fioCh ch).onCheck then
      let t := t.setFio ch fun c => { c with onCheck := false }
      if high then t else rbFail ch t
    else t

/-- OFF_CHECK (R703, R706, R743). The check after a protective turn-off leaves the entry of a pulse that still runs. -/
def execOffCheck (ch : Nat) (high : Bool) (s : State) : Host.Outcome State Fault Refusal :=
  let t := s.begin_
  done s <|
    if (t.fioCh ch).offCheck then
      let t := resumeTest ch (if high then rbFail ch t else t)
      if (t.fioCh ch).pulse then t else freeChannel ch t
    else t

/-- After a write to FIO.TEST: GO reads 0, and where `go` says that the write carried GO and was not refused (R63), a valve or
plain output pulses for PULSE_US (R701). -/
def testGo (ch : Nat) (go : Bool) (s : State) : State :=
  let s := s.setFlag (Reg.fioTest ch) 31 false
  if go && (s.fioFunc ch == 0x10 || s.fioFunc ch == 0x11) then (startPulse ch (s.fget (Reg.fioTest ch) 15 0) none s).1 else s

/-- A plain output that no ejector names: it follows FIO.CTRL.ON (R697). -/
def State.followsOn (s : State) (ch : Nat) : Bool := s.fioFunc ch == 0x11 && (s.ejectors ch).isEmpty

/-- A plain output follows FIO.CTRL.ON (R697); a pulse of FIO.TEST holds it on to its end. -/
def followOn (ch : Nat) (s : State) : State :=
  if s.followsOn ch then
    let on := s.flag (Reg.fioCtrl ch) 0
    let c := s.fioCh ch
    if on && !c.out then turnOn ch s else if !on && c.out && !c.pulse then turnOff ch s else s
  else s

/-- PULSE_END (R38, R743): an output that ON holds stays on; one that is not driven any more takes no off-check, and its entry
is freed at once unless an off-check is still to come. -/
def execPulseEnd (ch : Nat) (s : State) : Host.Outcome State Fault Refusal :=
  let t := s.begin_
  done s <|
    if !(t.fioCh ch).pulse then t
    else if t.followsOn ch && t.flag (Reg.fioCtrl ch) 0 then t.setFio ch fun c => { c with pulse := false }
    else
      let t := turnOff ch t
      if (t.fioCh ch).offCheck then t else freeChannel ch t

/-- WB_EN starts or stops the test current of an output that is off (R706). -/
def followTest (ch : Nat) (s : State) : State :=
  if s.isOutput ch then
    s.setFio ch fun c => { c with test := s.flag (Reg.fioCtrl ch) 1 && !s.driven ch && !c.offCheck && !s.fieldSafe }
  else s

/-! ## Protection -/

/-- FIO_OPEN (R707). -/
def execFioOpen (ch : Nat) (s : State) : Host.Outcome State Fault Refusal :=
  let t := s.begin_
  done s (if (t.fioCh ch).test then raise (evFio ch) (stick (Reg.fioStat ch) 3 t) else t)

/-- A protective turn-off of the channels `chs` as `f` trips them: the outputs stay commanded, and those that were driven take an
off-check (R703, R708, R711). -/
def cutOutputs (chs : List Nat) (f : State → State) (s : State) : State :=
  let on := chs.filter s.driven
  on.foldl (fun (s : State) ch => s.setFio ch fun c => { c with hold := false, offCheck := true }) (f s)

/-- After a trip is cleared as `f` says, the outputs of the channels `chs` that are still commanded turn on again (R710, R711,
R720). -/
def restoreOutputs (chs : List Nat) (f : State → State) (s : State) : State :=
  let off := chs.filter fun ch => (s.fioCh ch).out && !s.canTurnOn ch
  off.foldl (fun (s : State) ch => if s.canTurnOn ch then turnOn ch s else s) (f s)

/-- A channel trips (R708 to R710). -/
def trip (ch bit code : Nat) (s : State) : State :=
  let s := stick (Reg.fioStat ch) bit s
  let s := fieldFault code ch (s.fioBale ch) s
  cutOutputs [ch] (fun (s : State) => raise (evFio ch) (s.setFio ch fun c => { c with trip := true })) s

/-- OC_TRIP (R708). -/
def execOcTrip (ch : Nat) (s : State) : Host.Outcome State Fault Refusal :=
  done s (if ch < 32 && s.driven ch then trip ch 4 0x10 s.begin_ else s.begin_)

/-- THERM (R709). -/
def execTherm (ch : Nat) (s : State) : Host.Outcome State Fault Refusal :=
  done s (if ch < 32 && s.isOutput ch then trip ch 5 0x11 s.begin_ else s.begin_)

/-- A channel trip is cleared (R710). -/
def rearm (ch : Nat) (s : State) : State :=
  restoreOutputs [ch] (fun (s : State) => s.setFio ch fun c => { c with trip := false }) s

/-- REARM (R710). -/
def execRearm (_ini ch : Nat) (s : State) : Host.Outcome State Fault Refusal :=
  done s (ifOn domField (decide (ch < 32)) (rearm ch) s.begin_)

/-- Channels of a group. -/
def groupChs (g : Nat) : List Nat := (List.range 8).map fun i => 8 * g + i

/-- GRP_OC (R711). -/
def execGrpOc (g : Nat) (s : State) : Host.Outcome State Fault Refusal :=
  let t := s.begin_
  done s <|
    if g < 4 then
      cutOutputs (groupChs g) (fun (t : State) =>
        stick (Reg.fioGrp g) 16 { t with grpTrip := modAt t.grpTrip g fun _ => true }) t
    else t

/-- A group trip is cleared (R711). -/
def grpRearm (g : Nat) (s : State) : State :=
  restoreOutputs (groupChs g) (fun (s : State) => { s with grpTrip := modAt s.grpTrip g fun _ => false }) s

/-- GRP_REARM (R711). -/
def execGrpRearm (_ini g : Nat) (s : State) : Host.Outcome State Fault Refusal :=
  done s (ifOn domField (decide (g < 4)) (grpRearm g) s.begin_)

/-! ## Supplies and the die link -/

/-- UV of a supply and of its channels (R683, R712, R723). -/
def setUv (supply : Nat) (on : Bool) (s : State) : State :=
  (List.range 16).foldl (fun (s : State) i => s.setFlag (Reg.fioStat (16 * supply + i)) 7 on)
    (s.setFlag Reg.fioSupply (30 + supply) on)

/-- FIO_UV (R712). -/
def execFioUv (supply : Nat) (s : State) : Host.Outcome State Fault Refusal :=
  done s (if supply < 2 then raise 468 (setUv supply true s.begin_) else s.begin_)

/-- V24_RETURN (R712): with V24_B, the LOS that its loss set clears too (R638). -/
def execV24Return (supply : Nat) (s : State) : Host.Outcome State Fault Refusal :=
  done s <|
    if supply < 2 then
      let t := setUv supply false s.begin_
      if supply == 1 then v24bBack t else t
    else s.begin_

/-- DIE_LINK_TIMEOUT (R713, R722, R904): the safe state; milestones whose pulse is cut have no off-check to wait for. -/
def execDieLinkTimeout (s : State) : Host.Outcome State Fault Refusal :=
  let t := s.begin_
  done s <|
    if t.fieldSafe then t
    else
      let t := logFault { action := 0, stn := none, code := 0x15, unit := 5, index := 0 } t
      let r := safeState t
      r.2.foldl (fun s e => freeMile e s) r.1

/-- DIE_LINK_RETURN (R715), unless another cause of R713 holds the safe state. -/
def execDieLinkReturn (s : State) : Host.Outcome State Fault Refusal :=
  let t := s.begin_
  done s (if t.domOn domField && !t.flag Reg.sysBootStat 31 && !t.boot.rstLow then leaveSafe t else t)

end Sys2Proof.Machine
end

