-- ==== Sys2Proof/Machine/Power.lean ====
section
/-! DEFINITION. Power domains by command, reference clocks, the oscillator mesh, operating points, adaptive voltage, thermal
limits and the power policy (R368, R855 to R898). -/

namespace Sys2Proof.Machine

/-! ## Domains (R855 to R859) -/

/-- DOMAIN_OFF (R855 to R857): the off condition holds and, for a domain other than a band, its DOMAINS_OFF bit is 1. -/
def execDomainOff (d : Nat) (s : State) : Host.Outcome State Fault Refusal :=
  let t := s.begin_
  let bit := bitAt ((t.dev.map fun b => b.power.domainsOff).getD 0) d || (domBand0 ≤ d && d < domTree)
  done s (if t.dev.isSome && bit && t.mayBeOff d then switchOff d t else t)

/-- DOMAIN_ON (R857, R858): the steward switches a domain on. A band is powered by a load only (R860), and in the waystation state
nothing is. -/
def execDomainOn (d : Nat) (s : State) : Host.Outcome State Fault Refusal :=
  let t := s.begin_
  let band := domBand0 ≤ d && d < domTree
  done s (if t.flag Reg.sysBootStat 31 || band then t else switchOn d t)

/-! ## Reference clocks (R861 to R868) -/

/-- MESH.REF_STAT.SOURCE. -/
def State.refSource (s : State) : Nat := s.fget Reg.meshRefStat 1 0
/-- A handover runs. -/
def State.refMoves (s : State) : Bool := s.flag Reg.meshRefStat 4
/-- A reference is healthy, and fitted (R861). -/
def State.refOk (s : State) (r : Nat) : Bool :=
  if r == 0 then s.flag Reg.meshRefStat 5
  else s.flag Reg.meshRefStat 6 && ((s.dev.map fun d => d.dev.refB).getD false)

/-- A handover to reference `r` starts (R863, R866). -/
def startRefMove (r : Nat) (back : Bool) (s : State) : State :=
  { (s.setFlag Reg.meshRefStat 4 true).setFlag Reg.meshRefStat 7 false with
    refclk := { s.refclk with target := r, returning := back } }

/-- With neither reference healthy the PLL stays in holdover, which is said once (R868). -/
def refHoldover (s : State) : State :=
  let s := (s.fset Reg.meshRefStat 1 0 2).setFlag Reg.meshRefStat 4 false
  if s.refclk.told then s else raise 458 { s with refclk := { s.refclk with told := true } }

/-- The PLL runs on a reference or moves to it: it is the one in use, or the target of a handover. -/
def State.refUsed (s : State) (r : Nat) : Bool := s.refSource == r || (s.refMoves && s.refclk.target == r)

/-- The reference that becomes unhealthy: the healthy one. The command does not name it, so of two healthy ones it is either, which a
free bit decides (log 8). -/
def State.losing (s : State) : Nat :=
  if s.flag Reg.meshRefStat 5 && (!s.flag Reg.meshRefStat 6 || Config.freeBit s.free) then 0 else 1

/-- REFCLK_LOSS (R862, R863, R867, R868): a reference becomes unhealthy. Whatever it waited for starts anew with its next recovery.
One in use, or the target of a running handover, is lost: the PLL hands over to the other one or holds over. -/
def execRefclkLoss (s : State) : Host.Outcome State Fault Refusal :=
  let t := s.begin_
  done s <|
    let ref := t.losing
    if !t.flag Reg.meshRefStat (5 + ref) then t
    else
      let used := t.refUsed ref
      let t := { t with free := t.free + 1 }
      let t := t.setFlag Reg.meshRefStat (5 + ref) false
      let t := if ref == 0 then
          { t.setFlag Reg.meshRefStat 7 false with refclk := { t.refclk with waiting := false } }
        else t
      if used then
        let t := raise 455 (logFault { action := 0, stn := none, code := 0x0B, unit := 5, index := ref } t)
        if t.refOk (1 - ref) then startRefMove (1 - ref) false t else refHoldover t
      else t

/-- REFCLK_SWITCH (R864, R865): the handover ends; a reference that came back meanwhile starts requalification. -/
def execRefclkSwitch (s : State) : Host.Outcome State Fault Refusal :=
  let t := s.begin_
  done s <|
    if t.refMoves then
      let r := t.refclk.target
      let wait := t.refclk.waiting
      let t := ((t.fset Reg.meshRefStat 1 0 r).setFlag Reg.meshRefStat 4 false).setFlag Reg.meshRefStat 7 (wait && r == 1)
      let t := t.setFlag Reg.timeStat 0 (r == 1)
      raise 456 (bump Reg.meshRefSwitchCnt
        { t with refclk := { t.refclk with returning := false, waiting := false, told := false } })
    else t

/-- REFCLK_RECOVER (R865, R866, R868): out of holdover the PLL hands over to the reference; REFCLK_A waits for the end of a
handover away from it, and requalifies while REFCLK_B is in use. -/
def execRefclkRecover (ref : Nat) (s : State) : Host.Outcome State Fault Refusal :=
  let t := s.begin_
  done s <|
    let t := t.setFlag Reg.meshRefStat (5 + ref) true
    if !t.refOk ref then t
    else if t.refMoves then
      (if ref == 0 && t.refclk.target == 1 then { t with refclk := { t.refclk with waiting := true } } else t)
    else if t.refSource == 2 then startRefMove ref false t
    else if ref == 0 && t.refSource == 1 then t.setFlag Reg.meshRefStat 7 true
    else t

/-- REFCLK_RETURN (R866): requalification has succeeded. -/
def execRefclkReturn (s : State) : Host.Outcome State Fault Refusal :=
  let t := s.begin_
  done s (if t.flag Reg.meshRefStat 7 && t.refOk 0 && t.refSource == 1 then raise 457 (startRefMove 0 true t) else t)

/-! ## The mesh (R869 to R873, R895, R896) -/

/-- Neighbours of a mesh node: of a tile, the tiles beside it, then system nodes. -/
def meshNear (k : Nat) : List Nat :=
  (if k < 72 then
    (if 9 ≤ k then [k - 9] else []) ++ (if k % 9 != 0 then [k - 1] else []) ++ (if k % 9 != 8 then [k + 1] else []) ++
      (if k + 9 < 72 then [k + 9] else [])
  else []) ++ Config.meshNeighbours k

/-- MESH.NODE_FAIL names the node. -/
def State.nodeFailed (s : State) (k : Nat) : Bool := s.flag (Reg.meshNodeFail (k / 32)) (k % 32)

/-- The healthy neighbour with the lowest index (R872). -/
def State.lender? (s : State) (k : Nat) : Option Nat :=
  (sortBy (fun a b => decide (a ≤ b)) (meshNear k)).find? fun j => j < 96 && !s.nodeFailed j

/-- An island takes the clock of a healthy neighbour; a system island that has none sends the device to the waystation state
(R872, R895). -/
def borrow (k : Nat) (s : State) : State :=
  let s : State := { s with lenders := s.lenders.filter fun p => p.1 != k }
  match s.lender? k with
  | some j =>
    let s := (s.setFlag (Reg.meshBorrow (k / 32)) (k % 32) true).setTile k fun t => { t with borrowed := true }
    { s with lenders := s.lenders ++ [(k, j)] }
  | none => if k < 72 || s.flag Reg.sysBootStat 31 then s else waystation 0x12 6 k s

/-- NODE_FAIL (R871 to R873, R895, R896): the island borrows, islands that borrowed from the node move on, and a tile is retired. -/
def execNodeFail (node : Nat) (s : State) : Host.Outcome State Fault Refusal :=
  let t := s.begin_
  done s <|
    if t.nodeFailed node then t
    else
      let t := t.setFlag (Reg.meshNodeFail (node / 32)) (node % 32) true
      let own := if node < 72 then (t.tile node).owner else none
      let moved := (t.lenders.filter fun p => p.2 == node).map Prod.fst
      let stuck := !t.flag Reg.sysBootStat 31 && (node :: moved).any fun k => decide (72 ≤ k) && (t.lender? k).isNone
      let f : FaultRec := { action := if stuck then 6 else 0, stn := own, code := 0x0A, unit := 6, index := node }
      let t := raise 459 (logFault f t)
      let t := (node :: moved).foldl (fun t k => borrow k t) t
      if node < 72 then retireTile node 0x07 t else t

/-! ## Operating points (R875 to R878, R893, R898) -/

/-- Nominal voltage and window of an operating point, in mV (R875). -/
def opVolts (p : Nat) : Nat × Nat × Nat :=
  match p with
  | 0 => (0, 0, 0)
  | 1 => (500, 500, 540)
  | 2 => (550, 500, 590)
  | 3 => (600, 540, 640)
  | 4 => (680, 620, 720)
  | _ => (800, 740, 840)

/-- The tree engine's island. -/
def treeIsland : Nat := 72

/-- The register with THERM, POLICY and OP of a band; 4 is the tree engine. -/
def opReg (b : Nat) : Nat := if b < 4 then Reg.pwrBandOp b else Reg.pwrTreeOp

/-- THERM of a band or of the tree engine. -/
def State.therm (s : State) (b : Nat) : Nat := s.fget (opReg b) 18 16
/-- POLICY of a band or of the tree engine. -/
def State.policyPt (s : State) (b : Nat) : Nat := s.fget (opReg b) 10 8
/-- OP of a band or of the tree engine. -/
def State.opPt (s : State) (b : Nat) : Nat := s.fget (opReg b) 2 0

/-- The lowest of policy point, software cap and thermal limit (R876); the tree engine has no cap. A cap of 0, 6 or 7 counts as the
nearer end of its range. -/
def State.lowest (s : State) (b : Nat) : Nat :=
  let cap := if b < 4 then max 1 (min 5 (s.fget Reg.pwrOpCap (4 * b + 2) (4 * b))) else 5
  min (s.policyPt b) (min cap (s.therm b))

/-- OP of an island. -/
def State.islandOp (s : State) (k : Nat) : Nat := if k < 72 then s.fget (Reg.tileIsland k) 2 0 else s.opPt 4
/-- Voltage of an island in mV. -/
def State.islandVolt (s : State) (k : Nat) : Nat := if k < 72 then s.fget (Reg.tileIsland k) 27 16 else s.pwr.treeVolt

/-- An island's divider switches (R877, R878). -/
def setIslandOp (k p : Nat) (s : State) : State := if k < 72 then s.fset (Reg.tileIsland k) 2 0 p else s.fset Reg.pwrTreeOp 2 0 p

/-- An island's voltage. -/
def setIslandVolt (k mv : Nat) (s : State) : State :=
  if k < 72 then s.fset (Reg.tileIsland k) 27 16 mv else { s with pwr := { s.pwr with treeVolt := mv } }

/-- An island heads for a point: a lower one at once, a higher one after its ramp (R877). -/
def moveIsland (p k : Nat) (s : State) : State :=
  let s : State := { s with pwr := { s.pwr with
    ramps := s.pwr.ramps.filter (fun r => r.1 != k), limited := s.pwr.limited.filter (· != k) } }
  if p < s.islandOp k then setIslandOp k p s
  else if s.islandOp k < p then { s with pwr := { s.pwr with ramps := s.pwr.ramps ++ [(k, p)] } }
  else s

/-- Islands of a band, or of the tree engine. -/
def islandsOf (b : Nat) : List Nat := if b < 4 then tilesOfBand b else [treeIsland]

/-- A band, or the tree engine, follows the lowest of its three limits (R876). -/
def updateBand (b : Nat) (s : State) : State :=
  let p := s.lowest b
  if b < 4 then
    if s.opPt b == p || !s.bandOn b then s
    else (islandsOf b).foldl (fun s k => moveIsland p k s) (s.fset (opReg b) 2 0 p)
  else if s.opPt 4 == p && s.pwr.ramps.all (fun r => r.1 != treeIsland) && !s.pwr.limited.contains treeIsland then s
  else moveIsland p treeIsland s

/-- Every band and the tree engine follow their limits. -/
def updateBands (s : State) : State := (List.range 5).foldl (fun s b => updateBand b s) s

/-- OP_RAMP_END (R877): the island has reached the nominal voltage and its divider switches. -/
def execOpRampEnd (island : Nat) (s : State) : Host.Outcome State Fault Refusal :=
  let t := s.begin_
  done s <|
    match t.pwr.ramps.find? fun r => r.1 == island with
    | some (k, p) =>
      let t : State := { t with pwr := { t.pwr with ramps := t.pwr.ramps.filter fun r => r.1 != k } }
      setIslandOp k p (setIslandVolt k (opVolts p).1 t)
    | none => t

/-- AVS_STEP (R879): 5 mV up below LOW, 5 mV down above HIGH, inside the window of the island's point. -/
def execAvsStep (island slack : Nat) (s : State) : Host.Outcome State Fault Refusal :=
  let t := s.begin_
  done s <|
    let p := t.islandOp island
    if p == 0 then t
    else
      let t := if island < 72 then t.fset (Reg.tileIsland island) 15 8 slack
        else { t with pwr := { t.pwr with treeSlack := slack } }
      let v := t.islandVolt island
      let w := opVolts p
      if slack < t.fget Reg.pwrAvsCfg 7 0 then (if v + 5 ≤ w.2.2 then setIslandVolt island (v + 5) t else t)
      else if t.fget Reg.pwrAvsCfg 15 8 < slack then (if w.2.1 + 5 ≤ v then setIslandVolt island (v - 5) t else t)
      else t

/-- AVS_LIMIT (R880): the island runs one point lower until the next change of its band's point. -/
def execAvsLimit (island : Nat) (s : State) : Host.Outcome State Fault Refusal :=
  let t := s.begin_
  done s <|
    let p := t.islandOp island
    if p == 0 || t.pwr.limited.contains island then t
    else
      let t := setIslandOp island (max 1 (p - 1)) { t with pwr := { t.pwr with limited := t.pwr.limited ++ [island] } }
      if island < 72 then raise (evTile island) (t.setFlag (Reg.tileIsland island) 31 true) else t

/-! ## Thermal limits (R881 to R885) -/

/-- The grade's maximum junction temperature in degrees (R173). -/
def State.tjMax (s : State) : Nat := if s.otp.gradeX then 105 else 100

/-- PWR.TEMP of a sensor. -/
def setTemp (sensor : Nat) (temp : Int) (s : State) : State := s.setN (Reg.pwrTemp sensor) (ofInt 16 temp)

/-- The sensors that govern a band; 4 is the tree engine (R881, R882). -/
def governs (b sensor : Nat) : Bool := if b < 4 then sensor / 8 == b else 32 ≤ sensor && sensor ≤ 55

/-- A thermal limit. -/
def setTherm (b p : Nat) (s : State) : State := updateBand b (s.fset (opReg b) 18 16 p)

/-- THROTTLE (R882, R893): the limit falls by one point while the hottest sensor reads T_THROTTLE or more. -/
def execThrottle (b sensor : Nat) (temp : Int) (s : State) : Host.Outcome State Fault Refusal :=
  let t := setTemp sensor temp s.begin_
  done s <|
    match t.dev with
    | none => t
    | some d =>
      if governs b sensor && (d.power.tThrottle : Int) * 16 ≤ temp && 1 < t.therm b then
        raise 460 (bump Reg.pwrThrotCnt (setTherm b (t.therm b - 1) t))
      else t

/-- THERMAL_LIMIT_RISE (R883): up to the highest point that the manifest allows. -/
def execThermalLimitRise (b : Nat) (s : State) : Host.Outcome State Fault Refusal :=
  let t := s.begin_
  let top := (t.dev.map fun d => d.power.opMax).getD 0
  done s (if t.therm b < top then setTherm b (t.therm b + 1) t else t)

/-- THERMAL_MAX (R884): every thermal limit goes to OP1. -/
def execThermalMax (sensor : Nat) (temp : Int) (s : State) : Host.Outcome State Fault Refusal :=
  let t := setTemp sensor temp s.begin_
  done s <|
    if (t.tjMax : Int) * 16 ≤ temp then
      (List.range 5).foldl (fun (t : State) b => if t.therm b == 0 then t else setTherm b 1 t) t
    else t

/-- THERM_TRIP (R885, R979): the waystation state; in it the event is only logged. -/
def execThermTrip (sensor : Nat) (temp : Int) (s : State) : Host.Outcome State Fault Refusal :=
  let t := setTemp sensor temp s.begin_
  done s <|
    if ((t.tjMax : Int) + 10) * 16 ≤ temp then
      toWaystation 0x11 { action := 6, stn := none, code := 0x17, unit := 5, index := sensor } (raise 462 t)
    else t

/-! ## Power policy (R886 to R890) -/

/-- The band is powered by the manifest. -/
def State.bandPowered (s : State) (b : Nat) : Bool := bitAt ((s.dev.map fun d => d.power.bands).getD 0) b

/-- The band whose policy point is highest, the highest index on a tie (R887). -/
def State.highestBand? (s : State) : Option Nat :=
  ((List.range 4).filter s.bandPowered).foldl (fun (a : Option Nat) b =>
    match a with
    | none => some b
    | some c => if s.policyPt c ≤ s.policyPt b then some b else some c) none

/-- A policy point. -/
def setPolicy (b p : Nat) (s : State) : State := updateBand b (s.fset (opReg b) 10 8 p)

/-- POWER_MEASURE (R886, R887). -/
def execPowerMeasure (mw : Nat) (s : State) : Host.Outcome State Fault Refusal :=
  let t := s.begin_.setN Reg.pwrMeasMw (min mw 65535)
  done s <|
    match t.dev with
    | none => t
    | some d =>
      if d.power.envelopeW * 1000 < mw then
        let t := match t.highestBand? with
          | some b => if 1 < t.policyPt b then setPolicy b (t.policyPt b - 1) t else t
          | none => t
        if t.pwr.overEnv then t else raise 461 { t with pwr := { t.pwr with overEnv := true } }
      else { t with pwr := { t.pwr with overEnv := false } }

/-- A station has a tile in a band. -/
def State.inBand (s : State) (b n : Nat) : Bool := (s.stn n).tiles.any fun k => bandOf k == b

/-- The busy stations that could not grow ask for a higher point (R888): `u` is the state after the Khan's part of the window. -/
def State.asksRaise (s u : State) (busy : List Nat) (n : Nat) : Bool :=
  s.armed n && decide (s.fget Reg.pwrPolicy 9 0 ≤ busy.getD n 0) &&
    (decide (((s.env? n).map Env.tilesMax).getD 0 ≤ (s.stn n).tiles.length) ||
      ((s.growth busy n).isSome && (u.stn n).sinceGrowth != some 0))

/-- Every station of the band has been below 500 per mille for four windows (R889). -/
def State.idleBand (s : State) (b : Nat) : Bool :=
  (List.range 16).all fun n => !s.inBand b n || decide (4 ≤ (s.stn n).idleWindows)

/-- The policy points at the end of a window (R888, R889). -/
def policyWindow (busy : List Nat) (s u : State) : State :=
  match s.dev with
  | none => u
  | some d =>
    let cool := decide (s.fget Reg.pwrMeasMw 15 0 * 100 ≤ d.power.envelopeW * 1000 * 85)
    (List.range 4).foldl (fun (u : State) b =>
      let p := u.policyPt b
      if !s.bandPowered b then u
      else if p < d.power.opMax && cool && (List.range 16).any (fun n => s.inBand b n && s.asksRaise u busy n) then setPolicy b (p + 1) u
      else if d.power.opDefault < p && s.idleBand b then setPolicy b (p - 1) u
      else u) u

/-- PLACEMENT_WINDOW (R368 to R378, R888, R889): the Khan's part, then the steward's. -/
def execPlacementWindow (busy bw : List Nat) (s : State) : Host.Outcome State Fault Refusal :=
  let t := s.begin_
  let t : State := { t with stations := (indexed t.stations).map fun (p : Nat × Stn) =>
    { p.2 with idleWindows := if busy.getD p.1 0 < 500 then p.2.idleWindows + 1 else 0 } }
  done s (policyWindow busy t (placeWindow busy bw t))

end Sys2Proof.Machine
end

