-- ==== Sys2Proof/Machine/SurasLink.lean ====
section
/-! DEFINITION. Suras Link: segments, packets, retry, credits, endpoints and their clocks (R511, R523, R557, R560 to R633, R840,
R841, R844). -/

namespace Sys2Proof.Machine

/-! ## Segments (R587, R589, R629) -/

/-- Endpoints of a link in ring order, the one next to the device first: the order of their ENDPOINT sections. -/
def State.ring (s : State) (l : Nat) : List Ep := s.eps.filter fun e => e.link == l

/-- The endpoint is up: CHECKING, STRAYED, ACTIVE, DOZE or SLEEP (R600, R604). -/
def State.epUp (s : State) (l a : Nat) : Bool := (s.ep? l a).isSome && decide (2 ≤ s.epState l a)

/-- A link that carries a PEER endpoint (R567). -/
def State.peerLink (s : State) (l : Nat) : Bool := ((s.dev.map DevBlock.eps).getD []).any fun e => e.link == l && e.cls == 4

/-- The guard time of an endpoint in ns (R159, R173). -/
def State.guardOf (s : State) (l a : Nat) : Nat :=
  let own := ((s.epDecl? l a).map EpDecl.guardNs).getD 0
  let dflt := ((s.dev.map fun d => d.power.guardNs)).getD 0
  if own != 0 then own else if dflt != 0 then dflt else 1000

/-- An endpoint takes a state other than ACTIVE; when it leaves ACTIVE its pending FIRE_AT are cancelled (R751). -/
def leaveActive (l a st : Nat) (s : State) : State :=
  let s := if s.epActive l a then cancelAt l a s else s
  (setEpState l a st s).setEp l a fun e => { e with exch := none }

/-- An endpoint is lost: DOWN, with EP_LOST if it was up (R601, R628, R629). -/
def loseEp (l a : Nat) (s : State) : State :=
  let up := s.epUp l a
  let s := (leaveActive l a 0 s).setEp l a fun e => { e with resync := 0, retry := false, asked := 0 }
  if up then raise (evLink l) s else s

/-- The device's segment goes down: replay buffers are discarded and every endpoint of the ring is lost (R587, R629). -/
def linkDown (l : Nat) (s : State) : State :=
  let s := s.setLink l fun _ => Link.none
  let s := (s.setFlag (Reg.slinkStat l) 31 false).fset (Reg.slinkStat l) 14 0 0
  judgeAll ((s.ring l).foldl (fun s e => loseEp l e.addr s) s)

/-- The segment goes down and its lanes train again (R511, R587). -/
def retrain (l : Nat) (s : State) : State := (s.linkLanes l).foldl (fun s k => startTraining k s) (linkDown l s)

/-- A LINK block of KIND 1 ACK, 2 NAK or 3 CREDIT goes out (R571): byte 2 and the 16-bit value. -/
def linkBlock (l kind sel val : Nat) (s : State) : State :=
  streamBlocks l [linkBlockOf kind sel val] { s with out := s.out ++ [(l, blockType 0x4B, 0, [kind, sel, val])] }

/-- Byte 2 of an ACK or NAK. -/
def streamBit (express : Bool) : Nat := b2n express

/-- The CREDIT block of one VC (R589). -/
def sendCredit (l vc : Nat) (s : State) : State := linkBlock l 3 (vc * 2) ((s.link l).given.getD vc 0) s

/-- The CREDIT blocks of every VC. -/
def sendCredits (l : Nat) (s : State) : State := (List.range 4).foldl (fun s vc => sendCredit l vc s) s

/-- A packet of the replay buffer as one that waits again: only its header's SEQ changes when it goes out anew. -/
def waitAgain (ws : List Dword) : Waiting :=
  let h := (ws.headD 0).toNat
  ⟨fld h 51 50, fld h 49 44, fld h 63 58, none, none, (ws.drop 1).dropLast⟩

/-- What a link holds for its next alignment: the packets without ACK, and those that wait (R788). A link that has gone down holds
neither (R587). -/
def Link.held (k : Link) : List Waiting := (k.express.replay ++ k.normal.replay).map (fun p => waitAgain p.2) ++ k.queue

/-- The segment is aligned: counters and credits start anew, and credits are granted (R578, R589). The grants of VC0 to VC2 are
those of the worked example. -/
def alignLink (l : Nat) (s : State) : State :=
  let vc3 := if s.peerLink l then Config.peerCredit % 65536 else 0
  sendCredits l (((s.setLink l fun k => { Link.none with up := true, given := [64, 16, 8, vc3], queue := k.held }).setFlag
    (Reg.slinkStat l) 31 true).fset (Reg.slinkStat l) 14 0 0)

/-- A sleeping endpoint wakes and is checked again before it is ACTIVE (R622 to R624). The device's own segment relocks or, out
of SLEEP, trains and aligns anew; what waited on it goes out as its credit allows (R788). -/
def wakeEp (l a : Nat) (s : State) : State :=
  let st := s.epState l a
  if st == 5 || st == 6 then
    let own := (s.ring l).head?.map Ep.addr == some a
    let s := if own then
        let s := (s.linkLanes l).foldl (fun (s : State) k => laneStat k (s.laneTrain k) 1 true true s) s
        if st == 6 then alignLink l s else s
      else s
    let s := (setEpState l a 2 s).setEp l a fun e => { e with resync := 0, retry := false, asked := 0 }
    startExchange l a (if own then drain l s else s)
  else s

/-- LINK_ALIGNED (R542, R554, R589, R599, R623): training ends on the link's lanes; on a peer link the device announces itself. A segment
in SLEEP that the far end has trained wakes. -/
def execLinkAligned (link : Nat) (s : State) : Host.Outcome State Fault Refusal :=
  let t := s.begin_
  done s <|
    let ks := t.linkLanes link
    if ks.isEmpty || (t.link link).up || !(ks.all t.lrefOk) then t
    else if t.asleep link then (t.ring link).head?.elim t fun e => wakeEp link e.addr t
    else
      let t := ks.foldl (fun (t : State) k => (endTraining k 2 t).setLane k fun x => { x with preset := 0 }) t
      let t := alignLink link t
      match t.peerLink link, t.ring link with
      | true, e :: _ =>
        sendPacket link 1 0x01 e.addr [BitVec.ofNat 64 t.otp.serial, BitVec.ofNat 64 (4 + 0x01 * 256 + 16 * 2 ^ 32)] t
      | _, _ => t

/-- LANE_LOCK_LOSS (R511): the whole link goes down and retrains. -/
def execLaneLockLoss (lane : Nat) (s : State) : Host.Outcome State Fault Refusal :=
  let t := s.begin_
  done s <|
    if t.laneLock lane then
      let t := raise (evLane lane) (t.setFlag (Reg.laneStat lane) 0 false)
      match t.laneLink lane with
      | some l => retrain l t
      | none => t
    else t

/-- Lanes of a side. -/
def sideLanes (side : Nat) : List Nat := (List.range 12).map fun i => side * 12 + i

/-- LREF_LOSS (R523, R557): every lane of the side goes down but for those in PARK. -/
def execLrefLoss (side : Nat) (s : State) : Host.Outcome State Fault Refusal :=
  let t := s.begin_
  done s <|
    if t.lref.getD side false then
      let ks := (sideLanes side).filter fun k => t.lanePower k != 3
      let ls := (List.range 16).filter fun l => (t.linkLanes l).any ks.contains
      let t : State := { t with lref := modAt t.lref side fun _ => false }
      let t := raise 467 (logFault { action := 0, stn := none, code := 0x0C, unit := 2, index := side * 12 } t)
      let t := ks.foldl (fun (t : State) k => laneStat k 0 (t.lanePower k) false false t) t
      ls.foldl (fun t l => linkDown l t) t
    else t

/-- LREF_RETURN (R523, R557): the links of the side train again, and its Ethernet lanes lock. -/
def execLrefReturn (side : Nat) (s : State) : Host.Outcome State Fault Refusal :=
  let t := s.begin_
  done s <|
    if !t.lref.getD side true then
      let t : State := { t with lref := modAt t.lref side fun _ => true }
      (sideLanes side).foldl (fun (t : State) k =>
        let use := t.fget (Reg.laneCfg k) 5 4
        if t.lanePower k == 3 then t
        else if use == 1 then startTraining k t
        else if use == 2 then startPcs (k - 22) (t.phy.pcs.getD (k - 22) Pcs.none).mode (laneStat k 0 1 true true t)
        else t) t
    else t

/-! ## Retry (R578 to R588, R626) -/

/-- The message that a packet in the replay buffer carries, as `out` shows it. -/
def showPacket (l : Nat) (ws : List Dword) : Nat × Nat × Nat × List Nat :=
  let h := (ws.headD 0).toNat
  (l, fld h 49 44, fld h 63 58, (ws.drop 1).dropLast.map BitVec.toNat)

/-- A packet of the replay buffer as it goes out again: the timestamp of a TIME_RESP is its own departure (R605, R606). -/
def restamp (lt : Pos) (ws : List Dword) : List Dword :=
  let h := (ws.headD 0).toNat
  if fld h 49 44 == 0x21 then
    packetWords (fld h 63 58) (fld h 51 50) 0x21 (fld h 33 22) (stampPayload 0x21 lt (ws.drop 1).dropLast)
  else ws

/-- Packets from SEQ `e` onward go out again; 16 resends without progress take the segment down (R583, R584, R587). -/
def resend (l : Nat) (express : Bool) (e : Nat) (s : State) : State :=
  let st := (s.link l).stream express
  let ps := (st.replay.dropWhile fun p => p.1 != e).map fun p => (p.1, restamp s.tb.lt p.2)
  if ps.isEmpty then s
  else
    let s := ps.foldl (fun (s : State) p =>
      let h := (p.2.headD 0).toNat
      stampRequest l (fld h 49 44) (fld h 63 58) (p.2.drop 1).dropLast s) s
    let s := streamBlocks l (ps.flatMap fun p => packetBlocks express p.2) s
    let s := bump (Reg.slinkReplay l) { s with out := s.out ++ ps.map fun p => showPacket l p.2 }
    let s := s.setLink l fun k => k.setStream express fun t =>
      { t with resends := t.resends + 1, replay := (t.replay.takeWhile fun p => p.1 != e) ++ ps }
    if 16 ≤ st.resends + 1 then retrain l s else s

/-- ACK (R578, R582): the covered packets leave the replay buffer, and waiting packets go out. -/
def execAck (link : Nat) (express : Bool) (seq : Nat) (s : State) : Host.Outcome State Fault Refusal :=
  let t := s.begin_
  done s <|
    let st := (t.link link).stream express
    if st.replay.any fun p => p.1 == seq then
      let left := (st.replay.dropWhile fun p => p.1 != seq).drop 1
      drain link (showReplay link (t.setLink link fun k => k.setStream express fun x => { x with replay := left, resends := 0 }))
    else t

/-- NAK (R583, R626). -/
def execNak (link : Nat) (express : Bool) (seq : Nat) (s : State) : Host.Outcome State Fault Refusal :=
  done s (resend link express seq s.begin_)

/-- REPLAY_TIMEOUT (R584, R587). -/
def execReplayTimeout (link : Nat) (express : Bool) (s : State) : Host.Outcome State Fault Refusal :=
  let t := s.begin_
  done s <|
    match ((t.link link).stream express).replay with
    | p :: _ => resend link express p.1 t
    | [] => t

/-- CREDIT (R589, R590, R632): the cumulative grant of a VC. -/
def execCredit (link vc grant : Nat) (s : State) : Host.Outcome State Fault Refusal :=
  let t := s.begin_
  done s <|
    if (t.link link).up then
      drain link (t.setLink link fun k => { k with grant := modAt k.grant vc fun _ => grant % 65536 })
    else t

/-- CREDIT_REFRESH (R589). -/
def execCreditRefresh (link : Nat) (s : State) : Host.Outcome State Fault Refusal :=
  let t := s.begin_
  done s (if (t.link link).up then sendCredits link t else t)

/-! ## Receiving (R574 to R577, R580 to R582, R586, R591) -/

/-- The VC of a message type, and the DIR of its row: 0, 1, or either (R594). -/
def typeRow (t : Nat) : Option (Nat × Option Nat) :=
  if t == 0x01 || t == 0x05 || t == 0x06 || t == 0x08 then some (1, some 1)
  else if t == 0x02 || t == 0x03 || t == 0x04 || t == 0x07 then some (1, some 0)
  else if t == 0x10 then some (0, some 1)
  else if t == 0x21 || t == 0x26 || t == 0x27 then some (2, some 1)
  else if t == 0x20 || (0x22 ≤ t && t ≤ 0x25) then some (2, some 0)
  else if 0x30 ≤ t && t < 0x40 then some (3, none)
  else none

/-- The packet's VC, TYPE and DIR form a row of the table, on the stream of its VC (R576, R577). On a peer link DIR is 0
(R567). -/
def State.rowOk (s : State) (l h : Nat) (express : Bool) (len : Nat) : Bool :=
  let vc := fld h 51 50
  let dir := fld h 21 21
  match typeRow (fld h 49 44) with
  | some (v, d) =>
    v == vc && (vc == 2) == express && (!express || decide (len ≤ 8)) &&
      (if s.peerLink l then dir == 0 else (d.getD dir) == dir)
  | none => false

/-- A NAK of the expected SEQ, unless one is out (R581). -/
def sendNak (l : Nat) (express : Bool) (s : State) : State :=
  let st := (s.link l).stream express
  if st.nakd then s
  else
    linkBlock l 2 (streamBit express) st.expect_ (bump (Reg.slinkNakTx l)
      (s.setLink l fun k => k.setStream express fun t => { t with nakd := true }))

/-- The sender's address of a packet: on a peer link, the peer's. -/
def State.srcOf (s : State) (l h : Nat) : Nat :=
  if s.peerLink l then ((s.ring l).head?.map Ep.addr).getD 0 else fld h 57 52

/-- An endpoint's segment sleeps: on the device's own segment the lanes go to IDLE or PARK, and its packets are held (R543, R621, R788). -/
def sleepEp (l a target : Nat) (s : State) : State :=
  let s := (leaveActive l a (4 + target) s).setEp l a fun e => { e with asked := 0 }
  if (s.ring l).head?.map Ep.addr == some a then
    let s := streamBlocks l [eidleBlock target] { s with out := s.out ++ [(l, blockType 0x55, a, [target])] }
    let s := (s.linkLanes l).foldl (fun s k => askSleep k (1 + target) s) s
    if target == 2 then
      (s.setLink l fun k => { k with up := false }).setFlag (Reg.slinkStat l) 31 false
    else s
  else s

/-- What the device does with a message that a peer sends it as to an endpoint: TIME_REQ is answered (R606), READ and WRITE find
no register (R595), and POWER is answered by the state that the manifest permits (R619, R621). -/
def peerRequest (l a type : Nat) (ws : List Nat) (s : State) : State :=
  let w := ws.headD 0
  if type == 0x20 then
    let t2 := s.tb.lt.toNat
    sendPacket l 2 0x21 a [BitVec.ofNat 64 (t2 + fld w 15 0 * 2 ^ 48), BitVec.ofNat 64 t2] s
  else if type == 0x03 || type == 0x04 then sendPacket l 1 0x05 a [BitVec.ofNat 64 (1 + fld w 55 48 * 2 ^ 48)] s
  else if type == 0x07 then
    let target := fld w 1 0
    let ok := (target == 1 || target == 2) && decide (target ≤ ((s.epDecl? l a).map EpDecl.power).getD 0)
    let s := sendPacket l 1 0x08 a [if ok then 0 else 2] s
    if ok && s.epActive l a then sleepEp l a target s else s
  else s

/-- A good packet with the expected SEQ (R577, R580, R582, R589, R591, R601). -/
def acceptPacket (l : Nat) (express : Bool) (words : List Dword) (s : State) : State :=
  let h := (words.headD 0).toNat
  let seq := fld h 33 22
  let vc := fld h 51 50
  let type := fld h 49 44
  let s := s.setLink l fun k =>
    { k.setStream express (fun t => { t with expect_ := (seq + 1) % 4096, nakd := false }) with
      given := modAt k.given vc fun g => (g + creditUnits words.length) % 65536 }
  let s := sendCredit l vc (linkBlock l 1 (streamBit express) seq s)
  if s.rowOk l h express words.length then
    let a := s.srcOf l h
    let ws := (words.drop 1).dropLast.map BitVec.toNat
    if type == 1 || s.epUp l a then
      let s := deliver l type a ws s
      if s.peerLink l then peerRequest l a type ws s else s
    else s
  else bump (Reg.slinkBadType l) s

/-- PACKET_RECEIVE (R574 to R582, R586): the link layer of an arriving packet. What a message means is the meaning of its own
command. -/
def execPacketReceive (link : Nat) (express : Bool) (words : List Dword) (s : State) : Host.Outcome State Fault Refusal :=
  let t := s.begin_
  done s <|
    if !(t.link link).up then t
    else
      let h := (words.headD 0).toNat
      let e := ((t.link link).stream express).expect_
      let crc := Crypto.crc32c (words.dropLast.flatMap fun w => leBytes 8 w.toNat)
      let last := (words.getLastD 0).toNat
      let shape := decide (3 ≤ words.length) && fld h 43 34 == words.length
      if shape && last == 2 ^ 32 - 1 - crc then bump (Reg.slinkStomp link) t
      else if !shape || last != crc then sendNak link express (bump (Reg.slinkCrcErr link) t)
      else if fld h 33 22 == e then acceptPacket link express words t
      else if before 12 (fld h 33 22) e then linkBlock link 1 (streamBit express) ((e + 4095) % 4096) t
      else sendNak link express t

/-- NAK_REPEAT (R581): a NAK may be sent again. -/
def execNakRepeat (link : Nat) (express : Bool) (s : State) : Host.Outcome State Fault Refusal :=
  done s (s.begin_.setLink link fun k => k.setStream express fun t => { t with nakd := false })

/-! ## Identity (R599 to R604, R628) -/

/-- The answer to an ANNOUNCE: 0 accepted, else the result of R601; the comparisons run in the order of the device's own
record, NOT_DECLARED, VERSION, CLASS, SERIAL, DUPLICATE. -/
def State.judgeAnnounce (s : State) (l a serial cls version : Nat) : Nat :=
  match s.epDecl? l a with
  | none => 3
  | some d =>
    if version != 1 then 5
    else if cls != d.cls then 2
    else if serial != d.serial then 1
    else if s.epUp l a then 4
    else 0

/-- ANNOUNCE (R600, R601, R603, R628). -/
def execAnnounce (link addr serial cls version : Nat) (s : State) : Host.Outcome State Fault Refusal :=
  let t := s.begin_
  done s <|
    let t := if t.epActive link addr then judgeAll (loseEp link addr t) else t
    let r := t.judgeAnnounce link addr serial cls version
    let power := ((t.epDecl? link addr).map EpDecl.power).getD 0
    let weights := ((t.dev.map fun d => d.dev.vcWeight)).getD 0
    let t := sendAnnounceResp link addr r power (t.guardOf link addr) weights (t.setN (Reg.slinkEpRej link addr) r)
    if r == 0 then
      startExchange link addr ((setEpState link addr 2 t).setEp link addr fun e =>
        { e with resync := 0, retry := false, asked := 0, corrAt := none })
    else
      let t := if (t.ep? link addr).isSome && !t.epUp link addr then setEpState link addr 1 t else t
      judgeAll (raise (evLink link) t)

/-! ## Time checks (R605 to R611, R840, R841, R844, R850) -/

/-- TIME_REQ (R609): an exchange with every ACTIVE endpoint of the link. -/
def execTimeReq (link : Nat) (s : State) : Host.Outcome State Fault Refusal :=
  let t := s.begin_
  done s ((t.ring link).foldl (fun (t : State) e => if t.epActive link e.addr then startExchange link e.addr t else t) t)

/-- RATE of the TIME_CORR that follows an exchange with an ACTIVE endpoint (R840). -/
def State.corrRate (s : State) (e : Ep) (off : Int) : Int :=
  match e.corrAt with
  | none => 0
  | some t =>
    let dt := (s.now - t) * 4
    if dt > 2 * s.fget (Reg.slinkTimeCfg e.link) 15 0 * 1000000 then 0
    else if dt == 0 then clampI (-20000000) 20000000 ((Config.freeWord s.free).toInt)
    else clampI (-20000000) 20000000 (rneDiv (-off * 10 ^ 11) dt)

/-- TIME_CORR, but to a PEER endpoint (R844). -/
def correct (l a : Nat) (off rate : Int) (s : State) : State :=
  if ((s.epDecl? l a).map EpDecl.cls) == some 4 then s else sendTimeCorr l a off rate s

/-- An endpoint becomes ACTIVE: EP_UP, CV_HELLO to the peers of every group when it is a PEER, and held contributions (R611, R792,
R819). -/
def becomeActive (l a : Nat) (s : State) : State :=
  let s := raise (evLink l) (setEpState l a 4 s)
  let s := s.setEp l a fun e => { e with resync := 0, retry := false }
  if s.peerLink l then judgeAll (flushPeer l a (sendHellos s)) else s

/-- The offset of an exchange is judged (R610, R611, R840, R841). -/
def judgeTime (l a : Nat) (off : Int) (s : State) : State :=
  let ok := decide (off.natAbs ≤ s.guardOf l a)
  match s.ep? l a with
  | none => s
  | some e =>
    if s.epActive l a && ok then { correct l a off (s.corrRate e off) s with free := s.free + 1 }
    else
      let rounds := if s.epActive l a then 1 else e.resync + 1
      if ok then becomeActive l a (correct l a off 0 s)
      else
        let s := correct l a off 0 (leaveActive l a 3 s)
        if ((s.dev.map fun d => d.power.resyncRt).getD 1) ≤ rounds then
          raise (evLink l) (s.setEp l a fun e => { e with resync := 0, retry := true })
        else startExchange l a (s.setEp l a fun e => { e with resync := rounds })

/-- Half of a number of ns; which way an odd number is rounded is open. -/
def halve (n : Int) (bit : Bool) : Int := n / 2 + (if n % 2 == 1 && bit then 1 else 0)

/-- TIME_RESP (R607, R610, R611, R633): offset and delay of the exchange, and what follows. A delay that its field cannot hold
leaves the field open. -/
def execTimeResp (link addr tag t2 t3 : Nat) (s : State) : Host.Outcome State Fault Refusal :=
  let t := s.begin_
  done s <|
    match (t.ep? link addr).bind Ep.exch with
    | none => t
    | some (g, t1) =>
      if g != tag then t
      else
        let t4 := t.tb.lt.toNat
        let off := halve (modDiff 48 t1 t2 - modDiff 48 t3 t4) (Config.freeBit t.free)
        let delay := halve (modDiff 48 t1 t4 - modDiff 48 t2 t3) (Config.freeBit (t.free + 1))
        let shown := if 0 ≤ delay && delay < 65536 then delay.toNat else (Config.freeWord (t.free + 2)).toNat % 65536
        let t : State := { t with free := t.free + 3 }
        let t := (t.fset (Reg.slinkEpStat link addr) 31 16 shown).setN (Reg.slinkEpOffset link addr)
          (ofInt 32 (clampI (-(2 ^ 31 - 1)) (2 ^ 31 - 1) off))
        judgeTime link addr off (t.setEp link addr fun e => { e with exch := none })

/-- STRAYED_RETRY (R611): the time check runs again 100 ms after EP_STRAYED. -/
def execStrayedRetry (link addr : Nat) (s : State) : Host.Outcome State Fault Refusal :=
  let t := s.begin_
  done s <|
    match t.ep? link addr with
    | some e =>
      if e.retry && t.epState link addr == 3 then
        startExchange link addr (t.setEp link addr fun e => { e with retry := false, resync := 0 })
      else t
    | none => t

/-! ## Power (R619 to R624) -/

/-- POWER (R619): sent for a permitted state, once every endpoint beyond is in that state or a deeper one. -/
def execPower (link addr target : Nat) (s : State) : Host.Outcome State Fault Refusal :=
  let t := s.begin_
  done s <|
    let beyond := ((t.ring link).dropWhile fun e => e.addr != addr).drop 1
    let idle := if target == 1 then (t.dev.map fun d => d.power.dozeUs).getD 0 else (t.dev.map fun d => d.power.sleepMs).getD 0
    if t.epActive link addr && (target == 1 || target == 2) && idle != 0 &&
        decide (target ≤ ((t.epDecl? link addr).map EpDecl.power).getD 0) &&
        beyond.all fun e => decide (4 + target ≤ t.epState link e.addr) then
      (sendPower link addr target t).setEp link addr fun e => { e with asked := target }
    else t

/-- POWER_RESP (R620, R621): OK puts the segment to sleep; any other answer leaves the endpoint ACTIVE. -/
def execPowerResp (link addr result : Nat) (s : State) : Host.Outcome State Fault Refusal :=
  let t := s.begin_
  done s <|
    match t.ep? link addr with
    | some e =>
      if e.asked == 0 || !t.epActive link addr then t
      else if result == 0 then sleepEp link addr e.asked t
      else t.setEp link addr fun e => { e with asked := 0 }
    | none => t

/-- SEGMENT_WAKE (R622 to R624, R788, R818, R851): the segments from the device up to the endpoint wake. Without its lane
reference a segment stays asleep (R557). -/
def execSegmentWake (link addr : Nat) (s : State) : Host.Outcome State Fault Refusal :=
  let t := s.begin_
  done s <|
    if (t.linkLanes link).all t.lrefOk then
      let near := (t.ring link).takeWhile fun e => e.addr != addr
      (near.map Ep.addr ++ [addr]).foldl (fun t a => wakeEp link a t) t
    else t

/-! ## Messages to software -/

/-- EVENT (R594): delivered to software. -/
def execEvent (link addr code chan : Nat) (s : State) : Host.Outcome State Fault Refusal :=
  let t := s.begin_
  done s (if t.epUp link addr then deliver link 0x06 addr [code, chan] t else t)

/-- RESP (R594): delivered to software. -/
def execResp (link addr tag status : Nat) (data : List Dword) (s : State) : Host.Outcome State Fault Refusal :=
  let t := s.begin_
  done s (if t.epUp link addr then deliver link 0x05 addr (tag :: status :: data.map BitVec.toNat) t else t)

/-- IO_REPORT (R598): the latest report of the endpoint. -/
def execIoReport (link addr time value : Nat) (s : State) : Host.Outcome State Fault Refusal :=
  let t := s.begin_
  done s <|
    if t.epUp link addr then
      ((t.setN (Reg.slinkEpRptLo link addr) (value % 2 ^ 32)).setN (Reg.slinkEpRptHi link addr) (value / 2 ^ 32 % 2 ^ 32)).setN
        (Reg.slinkEpRptTime link addr) (time % 2 ^ 32)
    else t

/-- FIRE_REPORT (R594, R749, R750, R755, R774, R981): the entry moves, and an executed command counts a valve cycle of its
channel. -/
def execFireReport (link addr _time rch result cmdId bale : Nat) (s : State) : Host.Outcome State Fault Refusal :=
  let t := s.begin_
  done s <|
    if t.epUp link addr then
      let t := fireReport link addr result cmdId bale t
      if result == 0 then remoteCycle (((t.epDecl? link addr).map EpDecl.serial).getD 0) rch t else t
    else t

end Sys2Proof.Machine
end

