-- ==== Sys2Proof/Machine/Loader.lean ====
section
/-! DEFINITION. Loading a manifest: the loader's commands, its verdict on a container, the band tests and what a successful
load installs (R102 to R143, R860, R890, R1088, R1089), and arming a station (R154, R759, R897). -/

namespace Sys2Proof.Machine

/-! ## The container -/

/-- What a container holds once it has passed steps 2 to 5. -/
structure Parsed where
  /-- The device block that counts: the container's, or the active one. -/
  dev : DevBlock
  /-- The sections of the container's device block; none for a LOAD_STATION. -/
  sects : List Sect
  /-- Its station blocks with their sections. -/
  stns : List (StnBlock × List Sect)
  deriving DecidableEq, Repr

/-- The headers and section tables of the blocks of a container (R1088). A second block for one station fails at its STATION byte. -/
def chkTables (bs : List Byte) : List Nat → List RawBlock → Chk (List (RawBlock × List Sect))
  | _, [] => .ok []
  | seen, b :: r => do
    let ss ← chkTable bs b
    let n := leAt bs (b.start + 6) 1
    need (b.device || !seen.contains n) resBadTable b.num 0xff (b.start + 6)
    let rest ← chkTables bs (if b.device then seen else n :: seen) r
    pure ((b, ss) :: rest)

/-- Step 4 (R116, R1088). DEDUCED (log 47): a missing section is reported after the headers and tables of every block have passed. -/
def chkStep4 (bs : List Byte) (raws : List RawBlock) : Chk (List (RawBlock × List Sect)) := do
  let ts ← chkTables bs [] raws
  ts.forM fun t => need (requiredOk t.1 t.2) resMissing t.1.num 0xff t.1.start
  pure ts

/-- Step 5 for each station block of a container. -/
def parseStns (dev : DevBlock) (det : Bool) (bs : List Byte) : List (RawBlock × List Sect) → Chk (List (StnBlock × List Sect))
  | [] => .ok []
  | (b, ss) :: r => do
    let x ← parseStnBlock dev det 0 bs b ss
    let rest ← parseStns dev det bs r
    pure ((x, ss) :: rest)

/-- Step 3 for each block, in order. -/
def chkKeys (bs : List Byte) (ks : KeySlots) (keys : List Nat) (slot : Nat) : List RawBlock → Chk Unit
  | [] => .ok ()
  | b :: r => do
    chkKey bs ks keys slot b
    chkKeys bs ks keys slot r

/-- Steps 2 to 5 of a LOAD_FULL (R116), as a function of the container and OTP. -/
def parseFull (otp : Otp) (bs : List Byte) : Chk Parsed := do
  let raws ← walkBlocks bs bs.length 17 0 0
  let b0 : RawBlock := raws.headD ⟨0, 0, 0, true⟩
  chkKeys bs ⟨otp.keys, otp.revoked⟩ (containerKeys bs b0) (leAt bs 0xd 1) raws
  let ts ← chkStep4 bs raws
  let ss := (ts.headD (b0, [])).2
  let dev ← parseDevBlock otp.gradeX bs b0 ss
  let stns ← parseStns dev dev.detMode bs (ts.drop 1)
  pure ⟨dev, ss, stns⟩

/-- Steps 2 to 5 of a LOAD_STATION (R115, R116): `det` is SYS.DET_MODE. DESIGN CHOICE (log 47): without an active device block BLOCK
reads 1, SECTION 0xFF and ERR_OFFSET 0. -/
def parseStation (otp : Otp) (active : Option DevBlock) (det : Bool) (bs : List Byte) : Chk Parsed :=
  match active with
  | none => .error ⟨resMissing, 1, 0xff, 0⟩
  | some dev => do
    let raws ← oneBlock bs bs.length
    chkKeys bs ⟨otp.keys, otp.revoked⟩ dev.keys dev.keySlot raws
    let ts ← chkStep4 bs raws
    let stns ← parseStns dev det bs ts
    pure ⟨dev, [], stns⟩

/-! ## Payload space (R119, R124, R130) -/

/-- The payload space of a station that resident blocks hold, but for a pending block that a new one replaces (R124, R137). -/
def State.payloadUsed (s : State) (n : Nat) : List (Nat × Nat) :=
  (s.blocks.filter fun b => b.stn == n && b.payLen != 0 && (s.stn n).pend != some b.uid).map fun b => (b.payBase, b.payLen)

/-- Where a payload of `size` bytes goes in a station's partition. -/
def placePayload (d : DevBlock) (n size : Nat) (used : List (Nat × Nat)) : Option Nat :=
  (d.env? n).bind fun e => placeIn (e.dramBase * 2 ^ 20) ((e.dramBase + e.dramSize) * 2 ^ 20) size used

/-- What a load must leave as it is until it installs: the payloads of resident blocks, and the bale stores (R117, R130, R1021). -/
def State.heldDram (s : State) : List (Nat × Nat) :=
  (s.blocks.filter fun b => b.payLen != 0).map (fun b => (b.payBase, b.payLen)) ++
    ((s.dev.map DevBlock.envs).getD []).map fun e => (e.baleBase * 2 ^ 20, e.baleSize * 2 ^ 20)

/-- Where the payload of a LOAD_FULL goes: beside what the manifest before still holds, or where that leaves no room, in its place. -/
def placeFull (d : DevBlock) (n size : Nat) (held : List (Nat × Nat)) : Option Nat :=
  (placePayload d n size held).or (placePayload d n size [])

/-- The PAYLOAD bytes among a block's sections. -/
def payloadOf (ss : List Sect) : List Byte := ((ss.find? fun s => s.typ == 0x17).map Sect.data).getD []

/-! ## Step 6 -/

/-- ISP contexts of blocks. -/
def ctxsOf (bs : List StnBlock) : List Nat := bs.flatMap fun b => b.ctxs.map IspCtx.ctx

/-- Step 6 for the station blocks of a container. -/
def chkStns (d : DevBlock) (others : StnBlock → List Nat) (used : Nat → List (Nat × Nat)) :
    List (StnBlock × List Sect) → Chk Unit
  | [] => .ok ()
  | (b, ss) :: r => do
    chkStation6 d (others b) (fun size => (placePayload d b.stn size (used b.stn)).isSome) b ss
    chkStns d others used r

/-- Bands that a load tests: powered by its manifest, and untested since power-up or tested below its OP_MAX (R860, R1089). -/
def State.untested (s : State) (d : DevBlock) : List Nat :=
  (List.range 4).filter fun b => bitAt d.power.bands b && decide (s.pwr.tested.getD b 0 < d.power.opMax)

/-- Tiles that failed the tests of this power-up. -/
def State.failedTiles (s : State) : List Nat := s.boot.marks.map Prod.fst

/-- A tile fails a test of M3 to M5, or of a band test: it is marked and gets a field entry (R215, R1089). -/
def markTile (k cause : Nat) (s : State) : State :=
  if (s.bad s.failedTiles k).isSome then s
  else fieldEntry 0 k cause { s with boot := { s.boot with marks := s.boot.marks ++ [(k, cause)] } }

/-- The bands `bs` have been tested at `op`; `fails` are the tiles that failed, with their causes (R1089). -/
def testBands (bs : List Nat) (op : Nat) (fails : List (Nat × Nat)) (s : State) : State :=
  let s := (fails.filter fun f => decide (f.1 < 72) && bs.contains (bandOf f.1)).foldl (fun s f => markTile f.1 f.2 s) s
  { s with pwr := { s.pwr with tested := (indexed s.pwr.tested).map fun p => if bs.contains p.1 then op else p.2 } }

/-- Bands whose rows a load rebuilds: those that it tests, and every band when the grid mode changes. Another band keeps the map that it
had, also one that was off (R1089). -/
def State.rebuilds (s : State) (d : DevBlock) : List Nat :=
  (List.range 4).filter fun b => (s.untested d).contains b || s.holes != d.holes

/-- Bands are rebuilt in a grid mode. -/
def rebuildBands (holes : Bool) (bs : List Nat) (s : State) : State :=
  bs.foldl (fun s b => rebuildBand holes s.failedTiles b s) s

/-- A band that was tested for a load that then failed: one that was off is off again; one that was on keeps its mode, without the
tiles that failed (R117, R1089). -/
def dropTest (bs : List Nat) (s : State) : State :=
  bs.foldl (fun (s : State) b =>
    if !s.bandOn b then darkBand b (rebuildBand s.holes s.failedTiles b s)
    else if s.boot.marks.any (fun m => bandOf m.1 == b && (s.tile m.1).st != tileRetired) then rebuildBand s.holes s.failedTiles b s
    else s) s

/-- Step 6 (R116, R122 to R125, R1089), in the state `t` after the band test. -/
def chkLoad (full : Bool) (p : Parsed) (s t : State) : Chk Unit := do
  if full then
    let bands := (List.range 4).filter fun b => bitAt p.dev.power.bands b
    match p.sects.find? fun x => x.typ == 9 with
    | some x => x.fail ((s.untested p.dev).all fun b => t.bandOk p.dev.holes t.failedTiles b) resCapacity 1
    | none => pure ()
    let u := bands.foldl (fun t b => lightBand b t) (rebuildBands p.dev.holes (s.rebuilds p.dev) t)
    chkDevice6 p.dev (u.capacityOf p.dev.holes bands) p.sects
    chkStns p.dev (fun b => ctxsOf ((p.stns.map Prod.fst).filter fun x => x.stn != b.stn)) (fun _ => []) p.stns
  else
    let active := fun (b : StnBlock) => ((List.range 16).filter fun n => n != b.stn).filterMap s.active?
    chkStns p.dev (fun b => ctxsOf (active b)) s.payloadUsed p.stns

/-! ## Step 7: what a LOAD_FULL installs -/

/-- Every station is disarmed, and no bale, sequence, job or milestone of the manifest before is left (R120). Recorded STOP_LINE
causes stay. -/
def clearStations (s : State) : State :=
  let s := (List.range 16).foldl (fun s n => stopExplains n (cancelAll n (trigEnClear n s))) s
  let s := s.bales.foldl (fun s b => releaseBale b.id s) s
  let s := s.miles.foldl (fun s m => freeMile m.idx s) s
  let s := (List.range 16).foldl (fun (s : State) c => s.setN (Reg.ispCtxStat c) 0) s
  let s := ((s.setFlag Reg.ispReplayStat 31 false).setN Reg.treeStat 0)
  let s := s.retiring.foldl (fun (s : State) r =>
    let s := s.setTile r.tile fun t => { t with work := none }
    if 3 ≤ r.step then switchSpare r (freeTile r.tile s) else s) s
  let s := (List.range 72).foldl (fun (s : State) k =>
    if (s.tile k).owner.isSome then freeTile k ((s.setTile k fun t => { t with work := none }).setN (Reg.tileLayer k) 0) else s) s
  { s with
    jobs := [], decs := [], isp := none, treePass := none
    capture := s.capture.map fun c => (c.1, none)
    cams := s.cams.map fun (c : Cam) => { c with delayed := [] }
    stations := s.stations.map fun (t : Stn) => { Stn.none with stops := t.stops } }

/-- Bands go on, off or are rebuilt (R860, R1089); `olds` were on before and `new` are those to rebuild. A retirement in a band
that changes ends; one whose spare is gone looks for another. -/
def installBands (d : DevBlock) (new : List Nat) (s : State) : State :=
  let gone := (List.range 4).filter fun b => new.contains b || !bitAt d.power.bands b
  let cut := s.retiring.filter fun r => !gone.contains (bandOf r.tile) && (r.spare.elim false fun j => gone.contains (bandOf j))
  let s : State := { s with retiring := s.retiring.filter fun r => !gone.contains (bandOf r.tile) }
  let s := (List.range 4).foldl (fun (s : State) b =>
    if bitAt d.power.bands b then switchOn (domBand0 + b) s else switchOff (domBand0 + b) s) s
  let s := rebuildBands d.holes new s
  let s := (List.range 4).foldl (fun (s : State) b => if bitAt d.power.bands b then s else darkBand b s) s
  cut.foldl (fun s r => seekSpare r.tile r.from_ s) s

/-- Operating points after a LOAD_FULL (R876, R890): every policy point is OP_DEFAULT; the thermal limit of what was off starts at
OP_MAX. A band that was off starts at its point. -/
def installPoints (d : DevBlock) (s : State) : State :=
  (List.range 5).foldl (fun (s : State) b =>
    if b < 4 && !s.bandOn b then s.setN (opReg b) 0
    else
      let fresh := s.opPt b == 0
      let th := if s.therm b == 0 then d.power.opMax else min (s.therm b) d.power.opMax
      let s := (s.fset (opReg b) 10 8 d.power.opDefault).fset (opReg b) 18 16 th
      if fresh then
        let p := s.lowest b
        (islandsOf b).foldl (fun s k => setIslandVolt k (opVolts p).1 (setIslandOp k p s)) (s.fset (opReg b) 2 0 p)
      else updateBand b s) s

/-- The channel registers of an ODOMETER section (R682). -/
def installOdoCh (c : Nat) (x : OdoCh) (s : State) : State :=
  (s.setN (Reg.odoCfg c) (x.dirHyst * 2 ^ 24 + x.index * 2 ^ 16 + x.filter * 2 ^ 8 + x.mode)).setN (Reg.odoCpr c) x.cpr

/-- The odometer sections (R657, R658, R682). -/
def installOdos (d : DevBlock) (s : State) : State :=
  let s := (List.range 16).foldl (fun s c => installOdoCh c ⟨0, 0, 0, 0, 0⟩ s) s
  let s := d.odos.foldl (fun s o =>
    let s := installOdoCh o.primary o.c1 s
    if o.secondary == 255 then s else installOdoCh o.secondary o.c2 s) s
  let s := (List.range 16).foldl (fun (s : State) c => s.setFlag (Reg.odoStat c) 6 (s.odoOk c)) s
  let s := (List.range 16).foldl (fun (s : State) n => if (d.odo? n).isNone then s.setRef n fun _ => Ref.none else s) s
  d.odos.foldl (fun s o => startRef o.stn s) s

/-- The registers of a FIELD_CHANNEL section, or of none (R164, R165, R723). -/
def installFio (ch : Nat) (f : Option FioDecl) (s : State) : State :=
  match f with
  | some x => ((s.setN (Reg.fioCfg ch) ((if x.stn == 255 then 2 ^ 20 else x.stn % 16 * 2 ^ 16) + x.intype * 2 ^ 8 + x.func)).setN
      (Reg.fioFilt ch) (x.gate * 2 ^ 30 + x.filterUs * 2 ^ 16 + (if x.settleUs == 0 then 20 else x.settleUs))).setN
      (Reg.fioDrive ch) (x.holdDuty * 2 ^ 16 + x.peakUs)
  | none => ((s.setN (Reg.fioCfg ch) 0).setN (Reg.fioFilt ch) 20).setN (Reg.fioDrive ch) 0

/-- The field sections. An output whose section is the same goes on; any other turns off without a check. -/
def installFields (old : Option DevBlock) (d : DevBlock) (s : State) : State :=
  let s := (List.range 32).foldl (fun (s : State) ch =>
    let new := d.field? ch
    if (old.bind fun o => o.field? ch) == new then s
    else
      let s := installFio ch new s
      followTest ch (s.setFio ch fun c => { c with
        out := false, pulse := false, hold := false, onCheck := false, offCheck := false, test := false, edges := 0, t0 := 0, t1 := 0 })) s
  driveStopLine s

/-- What a link's ENDPOINT sections and lane reference make of it: equal for a link that a load leaves up. -/
def DevBlock.linkSig (d : DevBlock) (l : Nat) : List (List Nat) :=
  (d.eps.filter fun e => e.link == l).map fun e =>
    [e.addr, e.cls, e.width, e.rate, e.firstLane, e.serial, laneRefOf d.dev.laneRef e.firstLane]

/-- The use, rate and lane reference of a lane (R506, R508, R544): 0 none, 1 Suras Link, 2 Ethernet. -/
def DevBlock.laneUse (d : DevBlock) (k : Nat) : Nat × Nat × Nat :=
  let ref := laneRefOf d.dev.laneRef k
  let eth := fun (m : Nat) => if m == 0 then (0, 7, ref) else (2, if m == 1 then 5 else 0, ref)
  match d.eps.find? fun e => e.lanes.contains k with
  | some e => (1, e.rate, ref)
  | none => if k == 22 then eth d.dev.eth0 else if k == 23 then eth d.dev.eth1 else (0, 7, ref)

/-- A lane takes its use: OFF, training as part of a link, or sending as an Ethernet port (R508, R539, R543, R544, R547). -/
def installLane (d : DevBlock) (k : Nat) (s : State) : State :=
  let u := d.laneUse k
  let s := (s.setN (Reg.laneCfg k) (u.1 * 16 + u.2.1)).setLane k fun _ => Lane.none
  let s := if k < 22 then s else startPcs (k - 22) (if u.1 == 2 then (if k == 22 then d.dev.eth0 else d.dev.eth1) else 0) s
  if u.1 == 0 then laneStat k 0 0 false false s
  else if u.1 == 1 then startTraining k s
  else laneStat k 0 1 (s.lrefOk k) (s.lrefOk k) (setTapsNow k (taps (s.reg (Reg.laneTxfir k)).toNat) s)

/-- The links and lanes (R506 to R508, R543, R544, R599). A link whose sections and lane reference are the same stays up; any other
goes down and trains. -/
def installLinks (old : Option DevBlock) (d : DevBlock) (s : State) : State :=
  let sig := fun (l : Nat) => (old.map fun o => o.linkSig l).getD []
  let changed := (List.range 16).filter fun l => sig l != d.linkSig l
  let s := changed.foldl (fun s l => linkDown l s) s
  let s := (s.eps.filter fun e => changed.contains e.link).foldl (fun (s : State) e =>
    ((s.setN (Reg.slinkEpStat e.link e.addr) 0).setN (Reg.slinkEpOffset e.link e.addr) 0).setN (Reg.slinkEpRej e.link e.addr) 0) s
  let eps := d.eps.map fun x =>
    (s.eps.find? fun e => e.link == x.link && e.addr == x.addr && !changed.contains e.link).getD
      (⟨x.link, x.addr, none, 0, false, none, 0⟩ : Ep)
  let s : State := { s with eps := eps }
  let s := d.eps.foldl (fun (s : State) x =>
    if changed.contains x.link then s.setN (Reg.slinkEpStat x.link x.addr) (x.cls * 256) else s) s
  let s := (List.range 6).foldl (fun (s : State) g => s.setN (Reg.laneGrp g) (laneRefOf d.dev.laneRef (4 * g))) s
  (List.range 24).foldl (fun s k =>
    let same := (old.map fun o => o.laneUse k) == some (d.laneUse k) &&
      !(d.eps.any fun e => changed.contains e.link && e.lanes.contains k)
    if same then s else installLane d k s) s

/-- The convoy groups: agreement starts anew (R791 to R793). -/
def installGroups (d : DevBlock) (s : State) : State :=
  let s : State := { s with groups := List.replicate 32 Group.none }
  let s := (List.range 32).foldl (fun (s : State) g =>
    ((s.setFlag (Reg.convoyGrpStat g) 31 false).fset (Reg.convoyGrpStat g) 21 16 0).fset (Reg.convoyGrpStat g) 14 8 0) s
  d.groups.foldl (fun s g => showGroup g s) s

/-- Domains that a manifest uses. -/
def DevBlock.domains (d : DevBlock) (blocks : List StnBlock) : List Nat :=
  let side := fun (east : Bool) => (List.range 24).any fun k => decide (12 ≤ k) == east && (d.laneUse k).1 != 0
  (if d.usesField then [domField] else []) ++ (if side false then [domLaneW] else []) ++ (if side true then [domLaneE] else []) ++
    (if blocks.any (fun b => !b.trees.isEmpty) then [domTree] else [])

/-- Station blocks numbered and placed in their partitions. -/
def numberBlocks (d : DevBlock) (uid : Nat) (held : List (Nat × Nat)) (stns : List (StnBlock × List Sect)) : List StnBlock :=
  (indexed stns).map fun p =>
    let b := p.2.1
    { b with uid := uid + p.1, payBase := (placeFull d b.stn b.payLen held).getD 0 }

/-- Everything that a LOAD_FULL installs but for the DRAM copies (R116 step 7, R120, R735, R860, R890). -/
def installFull (p : Parsed) (new : List Nat) (s : State) : State :=
  let d := p.dev
  let old := s.dev
  let blocks := numberBlocks d s.nextUid s.heldDram p.stns
  let s := clearStations s
  let s : State := { s with
    dev := some d, blocks := blocks, nextUid := s.nextUid + blocks.length
    stations := (indexed s.stations).map fun (q : Nat × Stn) =>
      { q.2 with active := (blocks.find? fun b => b.stn == q.1).map StnBlock.uid } }
  let s := needDomains (d.domains blocks) s
  let s := installPoints d (installBands d new s)
  let s := installGroups d (installFields old d (installOdos d s))
  let s := installLinks old d s
  let s := (s.setFlag Reg.sysDetMode 0 d.detMode).setN Reg.mflActive (2 ^ 31 + d.keySlot % 4)
  let s := s.setN Reg.mflDevGen d.gen
  (List.range 16).foldl (fun (s : State) n =>
    s.setN (Reg.mflStnGen n) (((blocks.find? fun b => b.stn == n).map StnBlock.gen).getD 0)) s

/-- The DRAM copies of the payloads (R119). -/
def payloadWrites (blocks : List StnBlock) (stns : List (StnBlock × List Sect)) : Writes :=
  (blocks.zip stns).filterMap fun p =>
    if p.1.payLen == 0 then none else some (p.1.payBase, payloadOf p.2.2)

/-! ## What a load that fails leaves in DRAM (R119) -/

/-- The blocks of a container that the loader had hashed when a load failed: none at step 2, those up to the failing one at step 3,
and every one later. -/
def hashedBlocks (e : LoadErr) (raws : List RawBlock) : List RawBlock :=
  if [resBadMagic, resWrongDevice, resWrongRev].contains e.code then []
  else if [resKeyUnknown, resKeyRevoked, resBadSignature].contains e.code then raws.filter fun b => decide (b.num ≤ e.block)
  else raws

/-- The sections of a block as its table has them, unchecked. -/
def rawSects (bs : List Byte) (b : RawBlock) : List Sect :=
  let cnt := if b.device then leAt bs (b.start + 0xe) 2 else leAt bs (b.start + 7) 1
  (List.range (min cnt 64)).map (entryAt bs b)

/-- The partition in which the payload of station `n` would lie, as a LOAD_FULL's envelopes have it: base and size in MiB. -/
def rawPartition (ss : List Sect) (n : Nat) : Option (Nat × Nat) :=
  (ss.find? fun s => s.typ == 2 && s.stn == n && decide (s.u 8 4 + s.u 0xc 4 ≤ 14336)).map fun s => (s.u 8 4, s.u 0xc 4)

/-- The copies that a load which fails has made while it hashed (R119): each payload in free space of its station's partition, where
nothing holds it; what the load found in DRAM otherwise stays (R117). Where no partition or no free space is known, none was made. -/
def copiesMade (full : Bool) (bs : List Byte) (e : LoadErr) (s : State) : Writes :=
  let raws := match (if full then walkBlocks bs bs.length 17 0 0 else oneBlock bs bs.length) with
    | .ok r => r
    | .error _ => []
  let env := rawSects bs (raws.headD ⟨0, 0, 0, true⟩)
  let part := fun (n : Nat) =>
    if full then rawPartition env n else (s.env? n).map fun (x : Env) => (x.dramBase, x.dramSize)
  ((hashedBlocks e raws).filter fun b => !b.device).filterMap fun b =>
    let pay := payloadOf (rawSects bs b)
    if pay.isEmpty then none
    else (part (leAt bs (b.start + 6) 1)).bind fun p =>
      (placeIn (p.1 * 2 ^ 20) ((p.1 + p.2) * 2 ^ 20) pay.length s.heldDram).map fun base => (base, pay)

/-! ## The commands -/

/-- A load that failed (R117, R144). -/
def loadFailed (e : LoadErr) (s : State) : State :=
  raise 450 (({ s with load := none }.setN Reg.mflStatus (e.sect % 256 * 2 ^ 16 + e.block % 32 * 2 ^ 8 + e.code)).setN
    Reg.mflErrOffset e.off)

/-- A load that succeeded: BLOCK, SECTION and ERR_OFFSET read 0 (DESIGN CHOICE, log 47), as while a load runs; MFL_DONE, the logbook's count and its snapshot, and CV_HELLO (R116, R121, R792, R981, R988). -/
def loadDone (s : State) : State :=
  let s := ({ s with load := none }.setN Reg.mflStatus 0).setN Reg.mflErrOffset 0
  sendHellos (snapshot (logBump 32 Reg.logMflLoads 2 (raise 449 s)))

/-- A command that step 1 refuses (R116, R117); the result of a load in progress replaces it. DESIGN CHOICE (log 47): with ARMED, BUSY
and ABORTED, BLOCK reads 0, SECTION 0xFF and ERR_OFFSET 0. -/
def loadRefused (code : Nat) (s : State) : State :=
  raise 450 ((s.setN Reg.mflStatus (b2n s.load.isSome * 2 ^ 31 + 0xff * 2 ^ 16 + code)).setN Reg.mflErrOffset 0)

/-- LOAD_FULL or LOAD_STATION starts or is refused (R115, R116 step 1). In the waystation state nothing is loaded (R956). -/
def startLoad (full : Bool) (s : State) : State :=
  if s.flag Reg.sysBootStat 31 then s
  else if full && s.anyArmed then loadRefused resArmed s
  else if s.load.isSome then loadRefused resBusy s
  else
    let addr := ((s.reg Reg.mflSrcLo).toNat + s.fget Reg.mflSrcHi 7 0 * 2 ^ 32) / 8 * 8
    ({ s with load := some ⟨full, addr, (s.reg Reg.mflLen).toNat⟩ }.setN Reg.mflStatus (2 ^ 31)).setN Reg.mflErrOffset 0

/-- LOAD_FULL (R115, R116). -/
def execLoadFull (_ini : Nat) (s : State) : Host.Outcome State Fault Refusal := done s (startLoad true s.begin_)

/-- LOAD_STATION (R115, R116). -/
def execLoadStation (_ini : Nat) (s : State) : Host.Outcome State Fault Refusal := done s (startLoad false s.begin_)

/-- A load in progress is aborted (R140). -/
def abortLoad (s : State) : State := if s.load.isSome then loadFailed ⟨resAborted, 0, 0xff, 0⟩ s else s

/-- ABORT (R140). -/
def execAbort (_ini : Nat) (s : State) : Host.Outcome State Fault Refusal := done s (abortLoad s.begin_)

/-- A LOAD_FULL of the container `bs` (R116): the state after it and the DRAM writes. -/
def loadFull (bs : List Byte) (bandFails : List (Nat × Nat)) (s : State) : State × Writes :=
  match parseFull s.otp bs with
  | .error e => (loadFailed e s, copiesMade true bs e s)
  | .ok p =>
    let bands := s.untested p.dev
    let t := testBands bands p.dev.power.opMax bandFails s
    match chkLoad true p s t with
    | .error e => (loadFailed e (dropTest bands t), copiesMade true bs e s)
    | .ok _ => (loadDone (installFull p (s.rebuilds p.dev) t), payloadWrites (numberBlocks p.dev s.nextUid s.heldDram p.stns) p.stns)

/-- A LOAD_STATION of the container `bs` (R116). -/
def loadStation (bs : List Byte) (s : State) : State × Writes :=
  match parseStation s.otp s.dev (s.flag Reg.sysDetMode 0) bs with
  | .error e => (loadFailed e s, copiesMade false bs e s)
  | .ok p =>
    match chkLoad false p s s, p.stns with
    | .error e, _ => (loadFailed e s, copiesMade false bs e s)
    | .ok _, (b, ss) :: _ =>
      let base := ((placePayload p.dev b.stn b.payLen s.heldDram).or
        (placePayload p.dev b.stn b.payLen (s.payloadUsed b.stn))).getD 0
      let b := { b with uid := s.nextUid, payBase := base }
      (loadDone (installBlock b { s with nextUid := s.nextUid + 1 }), payloadWrites [b] [(b, ss)])
    | .ok _, [] => (loadDone s, [])

/-- LOAD_END (R116, R117, R119 to R125, R1088, R1089): the container is read where the load found it. -/
def execLoadEnd (bandFails : List (Nat × Nat)) (s : State) : Host.Outcome State Fault Refusal :=
  let t := s.begin_
  match t.load with
  | none => done s t
  | some l =>
    let bs := t.dramAt l.addr l.len
    let r := if l.full then loadFull bs bandFails t else loadStation bs t
    doneDram s r.1 r.2

/-! ## Arming (R154, R339, R759, R897) -/

/-- A write of 1 to TRIG_EN: the grant is asked for, or the write is refused. The domains that arming needs go on first. -/
def trigEnSet (n : Nat) (s : State) : State :=
  if s.flag Reg.sysBootStat 31 || (s.stn n).trigEn || (s.stn n).want then s
  else
    let trees := ((s.active? n).map fun b => !b.trees.isEmpty).getD false
    let s := needDomains (stationDomains ++ if trees then [domTree] else []) s
    let held := !(s.stn n).tiles.isEmpty
    let min_ := ((s.env? n).map Env.tilesMin).getD 0
    if (s.active? n).isNone || (s.ref n).lost || (!held && decide (s.claim n < max 1 min_)) then s.setFlag (Reg.mileStnStat n) 30 true
    else s.setStn n fun t => { t with want := true }

/-- TRIG_EN_SET (R759). -/
def execTrigEnSet (_ini stn : Nat) (s : State) : Host.Outcome State Fault Refusal :=
  done s (if stn < 16 then trigEnSet stn s.begin_ else s.begin_)

end Sys2Proof.Machine
end

