-- ==== Sys2Proof/Machine/Boot.lean ====
section
/-! DEFINITION. Reset, muster, handoff and the loss and return of main power (R938 to R959, R971, R974 to R978, R989, R995,
R998, R1046 to R1048). -/

namespace Sys2Proof.Machine

/-! ## Images (R943 to R947, R1024) -/

/-- A trailer of R108 at offset `o` of an image: the digest of its key, and whether its signature over the bytes before it
verifies. -/
def trailerOf (bs : List Byte) (o : Nat) : Nat × Bool :=
  let num := fun (k : Nat) => beN (slice bs (o + 32 * k) 32)
  (keyDigest (slice bs o 64), Crypto.ecdsaOk (num 0) (num 1) (num 2) (num 3) (Crypto.sha256 (bs.take o)))

/-- The status of a check of an image: 0 for good, else the STATUS code of R966. -/
def keyStatus (hash : List Nat) (revoked : List Bool) (t : Nat × Bool) : Nat :=
  if !(indexed hash).any (fun p => p.2 == t.1) then 4
  else if !(indexed hash).any (fun p => p.2 == t.1 && !revoked.getD p.1 false) then 5
  else if t.2 then 0
  else 4

/-- A steward firmware image (R945). -/
def State.firmwareStatus (s : State) (bs : List Byte) : Nat :=
  if bs.take 4 == [0x48, 0x53, 0x46, 0x57] && decide (132 ≤ bs.length) then
    keyStatus s.otp.fwKeys s.otp.fwRevoked (trailerOf bs (bs.length - 128))
  else 4

/-- LOAD, ENTRY and LENGTH of an application image (R947). -/
def appHeader (bs : List Byte) : Nat × Nat × Nat := (leAt bs 8 8, leAt bs 16 8, leAt bs 24 4)

/-- An application image (R947): its key is that of any integrator slot, under R110. -/
def State.appStatus (s : State) (bs : List Byte) : Nat :=
  let n := (appHeader bs).2.2
  if bs.take 4 == [0x48, 0x41, 0x50, 0x50] && bs.length == 32 + n + 128 then
    keyStatus s.otp.keys s.otp.revoked (trailerOf bs (32 + n))
  else 4

/-- The place of an application image lies in usable DRAM and outside every partition of the manifest (R1024). -/
def DevBlock.appPlaceOk (d : DevBlock) (load len : Nat) : Bool :=
  decide (load + len ≤ dramEnd) && d.envs.all fun e =>
    let apart := fun (base size : Nat) => decide (load + len ≤ base * 2 ^ 20) || decide ((base + size) * 2 ^ 20 ≤ load)
    apart e.dramBase e.dramSize && apart e.baleBase e.baleSize

/-- The bytes of the first valid entry of a TYPE, nothing without one. -/
def State.flashImage (s : State) (t : Nat) : List Byte := ((s.dirFind? t).map s.image).getD []

/-- The device block of a manifest image under steps 2 and 3 of R116. -/
def State.bootBlockOk (s : State) (bs : List Byte) : Bool :=
  let n := leAt bs 0x10 4
  match walkBlocks bs (align8 n) 1 0 0 with
  | .ok (b :: _) =>
    match chkKey bs ⟨s.otp.keys, s.otp.revoked⟩ [] 0 b with
    | .ok _ => decide (b.len ≤ bs.length)
    | .error _ => false
  | _ => false

/-- What muster knows of the boot-flash manifest: its device block, where its sections can be read. -/
def State.bootDev (s : State) (bs : List Byte) : Option DevBlock :=
  let b : RawBlock := ⟨0, 0, leAt bs 0x10 4, true⟩
  match chkTable bs b with
  | .ok ss =>
    match parseDevBlock s.otp.gradeX bs b ss with
    | .ok d => some d
    | .error _ => none
  | .error _ => none

/-! ## Muster (R948 to R950) -/

/-- Bands that the boot-flash manifest powers. -/
def State.bootBands (s : State) : List Nat :=
  (List.range 4).filter fun b => bitAt ((s.boot.man.map fun d => d.power.bands).getD 0) b

/-- What a phase powers before it tests. -/
def State.phaseDomains (s : State) (p : Nat) : List Nat :=
  if p == 2 then [domNoc]
  else if p == 3 then [domDrover, domKhan, domIsp, domTree, domVerdict] ++ s.bootBands.map (domBand0 + ·)
  else if p == 6 then [domMem]
  else if p == 7 then domLaneE :: (if (List.range 12).any fun k => ((s.boot.man.map fun d => (d.laneUse k).1).getD 0) != 0 then [domLaneW] else [])
  else if p == 8 then [domField]
  else []

/-- A phase starts. -/
def startPhase (p : Nat) (s : State) : State :=
  let s := needDomains (s.phaseDomains p) (s.fset Reg.sysBootStat 27 24 p)
  { s with boot := { s.boot with phase := some p, phaseStart := s.now } }

/-- Muster starts from M0 (R941, R942). -/
def startMuster (s : State) : State :=
  let s := ((s.setFlag Reg.sysBootStat 31 false).setFlag Reg.sysBootStat 30 false).fset Reg.sysBootStat 7 0 0
  startPhase 0 { s with boot := { s.boot with
    rstLow := false, start := s.now, record := [], recSlot := 0, recCause := 0, recUs := 0, rom := false, marks := [],
    lane22 := false, man := none, rollAt := none, khanAt := none, rebuilding := false } }

/-- Microseconds since a time in 4 ns ticks. -/
def State.usSince (s : State) (t : Nat) : Nat := (s.now - t) / 250

/-- The entry of the phase that ends. -/
def endPhase (result unit index : Nat) (s : State) : State :=
  { s with boot := { s.boot with
    record := s.boot.record ++ [⟨result, unit, index, s.usSince s.boot.phaseStart⟩], recUs := s.usSince s.boot.start } }

/-- Muster ends in the waystation state with a RESULT for the phase (R949, R971, R978). -/
def musterStop (result cause unit index : Nat) (s : State) : State :=
  let s := (endPhase result unit index s).setN Reg.sysMusterUs (s.usSince s.boot.start)
  waystation cause unit index { s with boot := { s.boot with recCause := cause } }

/-- A phase fails (R949, R978). -/
def musterFail (cause unit index : Nat) (s : State) : State := musterStop 2 cause unit index s

/-- Muster goes on with the next phase; after M9 it has passed. -/
def musterPass (p result unit index : Nat) (s : State) : State :=
  let s := endPhase result unit index s
  if p < 9 then startPhase (p + 1) s
  else
    let s := (s.setN Reg.sysMusterUs (s.usSince s.boot.start)).fset Reg.sysBootStat 27 24 15
    { s with boot := { s.boot with phase := some 10 } }

/-- Tiles that a phase's tests mark: tested, and neither a hole nor marked before (R948). -/
def State.newMarks (s : State) (p : Nat) (marks : List (Nat × Nat)) : List Nat :=
  ((marks.map Prod.fst).filter fun k => decide (k < 72) && (p == 2 || s.bootBands.contains (bandOf k)) &&
    (s.bad s.failedTiles k).isNone).eraseDups

/-- Causes of the field map for M2 to M5 (R207, R948). -/
def markCause (p : Nat) : Nat := if p == 2 then 7 else p - 2

/-- Tiles marked in a phase; ABSORBED counts them. -/
def markPhase (p : Nat) (ks : List Nat) (s : State) : State :=
  let s : State := { s with boot := { s.boot with marks := s.boot.marks ++ ks.map fun k => (k, markCause p) } }
  s.fset Reg.sysBootStat 7 0 (min 255 s.boot.marks.length)

/-- M1 (R208, R945, R946, R948, R989). -/
def phase1 (fail : Bool) (unit index : Nat) (s : State) : State :=
  let s := restoreLog s
  let map := s.flashMap
  let s := showFmap { s with fmap := { map with writing := s.fmap.writing } }
  let s := s.setFlag Reg.sysBootStat 15 map.valid
  let s := if map.valid then s else raise 463 s
  let ok := fun (t : Nat) => (s.dirFind? t).isSome && s.firmwareStatus (s.flashImage t) == 0
  if fail then musterFail 0x02 unit index s
  else if !ok 1 && !ok 2 then musterFail 0x03 5 0 s
  else
    let slotB := !ok 1
    let s := (s.setFlag Reg.sysBootStat 16 slotB)
    let s : State := { s with boot := { s.boot with recSlot := b2n slotB } }
    let bs := s.flashImage 4
    if !s.bootBlockOk bs then musterFail 0x04 5 0 s
    else
      let s : State := { s with boot := { s.boot with man := s.bootDev bs } }
      musterPass 1 (if slotB && (s.dirFind? 1).isSome || !map.valid then 1 else 0) (if slotB || !map.valid then 5 else 0) 0 s

/-- M2 to M5: a failing tile is absorbed. M2 locks the mesh to REFCLK_A (R861, R869). -/
def phaseTiles (p cause : Nat) (fail : Bool) (unit index : Nat) (marks : List (Nat × Nat)) (s : State) : State :=
  let ks := s.newMarks p marks
  let s := markPhase p ks s
  if fail then musterFail cause unit index s
  else
    let s :=
      if p == 2 then
        let s := (List.range 3).foldl (fun (s : State) i => (s.setN (Reg.meshNodeFail i) 0).setN (Reg.meshBorrow i) 0) s
        let s := (s.setN Reg.meshRefStat (2 ^ 8 + 2 ^ 5)).setFlag Reg.timeStat 0 false
        { s with lenders := [], refclk := ⟨0, false, false, false⟩ }
      else if p == 5 then
        let op := (s.boot.man.map fun d => d.power.opMax).getD 0
        { s with pwr := { s.pwr with
          tested := (indexed s.pwr.tested).map fun q => if s.bootBands.contains q.1 then op else q.2 } }
      else s
    match ks with
    | k :: _ => musterPass p 1 1 k s
    | [] => musterPass p 0 0 0 s

/-- M7: `marks` lists the lanes that failed. A lane in use must pass; LANE22 can serve the waystation state when it passes (R548,
R948). -/
def phase7 (fail : Bool) (unit index : Nat) (marks : List (Nat × Nat)) (s : State) : State :=
  let used := fun (k : Nat) => ((s.boot.man.map fun d => (d.laneUse k).1).getD 0) != 0
  let bad := (marks.map Prod.fst).filter fun k => k < 24 && (k == 22 || used k)
  let s : State := { s with boot := { s.boot with lane22 := !(bad.contains 22 || (fail && unit == 2 && index == 22)) } }
  match bad.find? used, bad with
  | some k, _ => musterFail 0x0A 2 k s
  | none, bs =>
    if fail then musterFail 0x0A unit index s
    else match bs with
      | k :: _ => musterPass 7 1 2 k s
      | [] => musterPass 7 0 0 0 s

/-- M9 (R215, R221 to R225, R948, R971, R976). -/
def phase9 (fail : Bool) (unit index : Nat) (s : State) : State :=
  let s := s.boot.marks.foldl (fun s m => fieldEntry 0 m.1 m.2 s) s
  let holes := (s.boot.man.map DevBlock.holes).getD false
  let s := rebuildBands holes (List.range 4) { s with gridHoles := holes }
  let s := (List.range 4).foldl (fun (s : State) b => if s.bootBands.contains b then s else darkBand b s) s
  let bad := s.bootBands.find? fun b => !s.bandOk holes s.failedTiles b
  match bad with
  | some b => musterFail 0x0C 5 b s
  | none =>
    if fail then musterFail 0x0C unit index s
    else if s.boot.hold then musterStop 0 0x20 5 0 { s with boot := { s.boot with hold := false } }
    else musterPass 9 0 0 0 s

/-- A phase ends (R948, R949). -/
def musterPhaseEnd (fail : Bool) (unit index : Nat) (marks : List (Nat × Nat)) (s : State) : State :=
  match s.boot.phase with
  | none => s
  | some p =>
    if p == 0 then (if fail then musterFail 0x01 unit index s else musterPass 0 0 0 0 s)
    else if p == 1 then phase1 fail unit index s
    else if p == 2 then phaseTiles 2 0x06 fail unit index marks s
    else if p == 3 then phaseTiles 3 0x07 fail unit index marks s
    else if p == 4 then phaseTiles 4 0x08 fail unit index marks s
    else if p == 5 then phaseTiles 5 0x08 fail unit index marks s
    else if p == 6 then (if fail then musterFail 0x09 unit index s else musterPass 6 0 0 0 s)
    else if p == 7 then phase7 fail unit index marks s
    else if p == 8 then (if fail then musterFail 0x0B unit index s else musterPass 8 0 0 0 s)
    else if p == 9 then phase9 fail unit index s
    else s

/-- MUSTER_PHASE_END (R948). -/
def execMusterPhaseEnd (fail : Bool) (unit index : Nat) (marks : List (Nat × Nat)) (s : State) :
    Host.Outcome State Fault Refusal :=
  done s (musterPhaseEnd fail unit index marks s.begin_)

/-! ## Handoff (R951 to R953, R977, R1024) -/

/-- The waystation state for a failure after muster: the muster record takes the cause. -/
def handoffFail (cause : Nat) (s : State) : State :=
  waystation cause 5 0 { s with boot := { s.boot with recCause := cause } }

/-- HANDOFF (R951, R952): a LOAD_FULL of the boot-flash manifest, then the application image, which is copied to LOAD before it is
verified. -/
def handoff (s : State) : State × Writes :=
  if s.boot.phase != some 10 then (s, [])
  else
    let s := needDomains [domApp] { s with boot := { s.boot with phase := none } }
    let r := loadFull (s.flashImage 4) [] s
    match r.1.dev with
    | none => (handoffFail 0x04 r.1, r.2)
    | some d =>
      let s := r.1
      let bs := s.flashImage 3
      let h := appHeader bs
      let copy := if d.appPlaceOk h.1 h.2.2 then [(h.1, (bs.drop 32).take h.2.2)] else []
      if s.appStatus bs != 0 || !d.appPlaceOk h.1 h.2.2 then (handoffFail 0x05 s, r.2 ++ copy)
      else
        let s := s.setFlag Reg.sysBootStat 30 true
        let s : State := { s with cores := (indexed s.cores).map fun (p : Nat × AppCore) =>
          { p.2 with run := p.1 == 0, entry := h.2.1, kick := s.now } }
        (driveStopLine s, r.2 ++ copy)

/-- HANDOFF (R951). -/
def execHandoff (s : State) : Host.Outcome State Fault Refusal :=
  let r := handoff s.begin_
  doneDram s r.1 r.2

/-! ## Resets (R941, R942, R998, R1046 to R1048) -/

/-- A RESET (R942): a snapshot is written, every domain but PD_AON is reset, and muster starts (R988). -/
def resetDevice (s : State) : State × Writes :=
  let r := mirrorNow s
  (startMuster (resetDomains r.1), r.2)

/-- A write to SYS.RESET_CMD (R942): KEY reads 0; while a station is armed a write that would change it is dropped (R63), else 0x5A
resets. -/
def resetCmd (ini key : Nat) (s : State) : State × Writes :=
  if key % 256 == 0 then (s, [])
  else if s.anyArmed then (dropWrite ini Reg.sysResetCmd .device s, [])
  else if key % 256 == 0x5A then resetDevice s
  else (s, [])

/-- RESET_CMD_WRITE (R942). -/
def execResetCmdWrite (ini key : Nat) (s : State) : Host.Outcome State Fault Refusal :=
  let r := resetCmd ini key s.begin_
  doneFlash s r.1 r.2

/-- Registers of the logbook and the calendar. -/
def logReg (a : Nat) : Bool := decide (Reg.logPoh ≤ a) && decide (a < Reg.logPoh + 0x10000)

/-- The state of a whole-device reset (R998, R1048): everything is at its reset value but the logbook and the calendar, OTP, and what
the pins bring. -/
def State.afterReset (s : State) : State :=
  { State.reset with
    regs := (s.regs.filter fun p => logReg p.1)
    otp := s.otp
    lref := s.lref, gpio := s.gpio, tap := s.tap, scan := s.scan, free := s.free, nextUid := s.nextUid
    log := { s.log with writing := [], setPend := false }
    boot := { State.reset.boot with
      hold := s.boot.hold, record := s.boot.record, recSlot := s.boot.recSlot, recCause := s.boot.recCause, recUs := s.boot.recUs } }

/-- A record whose write is cut short leaves a slot that no CRC fits (R1000). -/
def cutRecord (s : State) : Writes :=
  match s.mirrorBase?, s.log.writing with
  | some base, _ :: _ => [(base + (s.log.slot + 1) % 32 * 8192, List.replicate 8192 0xFF)]
  | _, _ => []

/-- SYS_RST_N goes low for `ns` ns (R941, R975, R1046 to R1048): a pulse between 1 µs and 10 µs may or may not act. -/
def execSysRstNLow (ns : Nat) (s : State) : Host.Outcome State Fault Refusal :=
  let acts := decide (10000 ≤ ns) || (decide (1000 ≤ ns) && Config.freeBit s.free)
  if acts then
    finish { tb := true } s ({ s.afterReset with free := s.free + 1 }.setFlag Reg.logMirror 30 false) [] (cutRecord s) [] []
  else finish {} s { s.begin_ with free := s.free + 1 } [] [] [] []

/-- SYS_RST_N_RISE (R941, R1081): the ROM starts, then muster from M0. EXTEST gives way to BYPASS. -/
def execSysRstNRise (s : State) : Host.Outcome State Fault Refusal :=
  let t := s.begin_
  done s (if t.boot.rstLow && t.log.power then startMuster { t with tap := if t.tap == 3 then 0 else t.tap } else t)

/-! ## Main power (R828, R974, R989, R995, R998) -/

/-- MAIN_POWER_LOSS (R998): only OTP, flash, and the calendar on VBAT outlive it. -/
def execMainPowerLoss (s : State) : Host.Outcome State Fault Refusal :=
  if s.log.power then
    let t := s.afterReset
    finish { tb := true } s { t with
      tap := 0
      scan := Scan.none
      regs := t.regs.filter fun p => p.1 == Reg.logCalLo || p.1 == Reg.logCalHi || p.1 == Reg.logCalCtrl
      log := ⟨0, [], none, false, false, false, true⟩
      boot := State.reset.boot } [] (cutRecord s) [] []
  else done s s.begin_

/-- MAIN_POWER_RETURN (R828, R992, R1009): PD_AON leaves reset, and LT and the time CSR start from 0. SYS_RST_N is still low
(R939). -/
def execMainPowerReturn (s : State) : Host.Outcome State Fault Refusal :=
  let t := s.begin_
  if t.log.power then done s t
  else doneTb s { t with tb := State.reset.tb, log := { t.log with power := true } }

/-- VBAT_LOW (R995): without main power the calendar is lost. -/
def execVbatLow (s : State) : Host.Outcome State Fault Refusal :=
  let t := s.begin_
  done s (if t.log.power then t else { t with log := { t.log with vbatLost := true } })

end Sys2Proof.Machine
end

