-- ==== Sys2Proof/Machine/Peri.lean ====
section
/-! DEFINITION. The application cores' timers and watchdogs, the UARTs, the I2C controllers, GPIO and the boundary-scan port
(R952, R1009 to R1013, R1030 to R1033, R1061 to R1063, R1081). -/

namespace Sys2Proof.Machine

/-! ## Cores -/

/-- An application core. -/
def State.core (s : State) (c : Nat) : AppCore := s.cores.getD c ⟨false, 0, 0, 0, 0xFFFFFFFFFFFFFFFF⟩
/-- An application core changed. -/
def State.setCore (s : State) (c : Nat) (f : AppCore → AppCore) : State := { s with cores := modAt s.cores c f }

/-- The machine timer interrupt of a core is pending (R1010). -/
def State.timerPending (s : State) (c : Nat) : Bool := decide ((s.core c).cmp.toNat ≤ s.now)
/-- The machine external interrupt of a core is pending (R1011). -/
def State.externalPending (s : State) (c : Nat) : Bool := !(s.evq.getD c []).isEmpty

/-- A core of a mask whose watchdog runs has it restarted. -/
def kickCores (mask : Nat) (s : State) : State :=
  { s with cores := (indexed s.cores).map fun (p : Nat × AppCore) =>
      if bitAt mask p.1 && p.2.run then { p.2 with kick := s.now } else p.2 }

/-- Core 0 releases cores 1 to 3 while the device runs (R952). -/
def appStart (ini mask : Nat) (s : State) : State :=
  if ini == 0 && s.running && (s.core 0).run then
    { s with cores := (indexed s.cores).map fun (p : Nat × AppCore) =>
        if 1 ≤ p.1 && bitAt mask p.1 && !p.2.run then { p.2 with run := true, kick := s.now } else p.2 }
  else s

/-- APP_START (R952). -/
def execAppStart (ini cores : Nat) (s : State) : Host.Outcome State Fault Refusal := done s (appStart ini cores s.begin_)

/-- A write to SYS.WDOG_KICK (R1012). -/
def wdogKick (key mask : Nat) (s : State) : State := if key % 256 == 0x4B then kickCores mask s else s

/-- WDOG_KICK (R1012). -/
def execWdogKick (_ini key core : Nat) (s : State) : Host.Outcome State Fault Refusal := done s (wdogKick key core s.begin_)

/-- A write to the low word of SYS.MTIMECMP (R1010). -/
def mtimecmpWrite (c : Nat) (v : Word) (s : State) : State :=
  (s.setReg (Reg.sysMtimecmpLo c) v).setCore c fun k =>
    { k with cmp := BitVec.ofNat 64 ((s.reg (Reg.sysMtimecmpHi c)).toNat * 2 ^ 32 + v.toNat) }

/-- MTIMECMP_WRITE (R1010). -/
def execMtimecmpWrite (_ini c : Nat) (val : Word) (s : State) : Host.Outcome State Fault Refusal :=
  done s (mtimecmpWrite c val s.begin_)

/-- The type under which an interrupt of a core stands in `out`. -/
def irqType (n : Nat) : Nat := 0x200 + n

/-- MACHINE_TIMER_INTERRUPT (R1010): the interrupt reaches a released core while it is pending. -/
def execMachineTimerInterrupt (c : Nat) (s : State) : Host.Outcome State Fault Refusal :=
  let t := s.begin_
  done s (if (t.core c).run && t.timerPending c then { t with out := [(c, irqType 7, 0, [])] } else t)

/-! ## UARTs (R1030, R1033) -/

/-- A UART. -/
def State.uartOf (s : State) (u : Nat) : Uart := s.uart.getD u ⟨[], []⟩
/-- A UART changed. -/
def State.setUart (s : State) (u : Nat) (f : Uart → Uart) : State := { s with uart := modAt s.uart u f }

/-- A read of UART.DATA: VALID and the oldest byte, which leaves the FIFO. -/
def uartRead (u : Nat) (s : State) : Word × State :=
  match (s.uartOf u).rx with
  | b :: r => (BitVec.ofNat 32 (256 + b.toNat), s.setUart u fun x => { x with rx := r })
  | [] => (0, s)

/-- A write of UART.DATA; a byte that finds the FIFO full is lost. -/
def uartWrite (u : Nat) (b : Byte) (s : State) : State :=
  if (s.uartOf u).tx.length < 64 then s.setUart u fun x => { x with tx := x.tx ++ [b] } else s

/-- UART_DATA_READ (R1030). -/
def execUartDataRead (_ini u : Nat) (s : State) : Host.Outcome State Fault Refusal :=
  let r := uartRead u s.begin_
  done s { r.2 with rdata := r.1 }

/-- UART_DATA_WRITE (R1030). -/
def execUartDataWrite (_ini u : Nat) (b : Byte) (s : State) : Host.Outcome State Fault Refusal := done s (uartWrite u b s.begin_)

/-- UART_RX_BYTE (R1030, R1033): the event comes when the FIFO was empty or an error flag sets. -/
def execUartRxByte (u : Nat) (b : Byte) (err : Bool) (s : State) : Host.Outcome State Fault Refusal :=
  let t := s.begin_
  let n := (t.uartOf u).rx.length
  let full := decide (64 ≤ n)
  let t := if err then stick (Reg.uartStat u) 1 t else t
  let t := if full then stick (Reg.uartStat u) 0 t else t.setUart u fun x => { x with rx := x.rx ++ [b] }
  done s (if n == 0 || full || err then raise (477 + u) t else t)

/-- UART_TX_BYTE (R1033). -/
def execUartTxByte (u : Nat) (s : State) : Host.Outcome State Fault Refusal :=
  let t := s.begin_
  match (t.uartOf u).tx with
  | [] => done s t
  | _ :: r =>
    let t := t.setUart u fun x => { x with tx := r }
    done s (if r.length == 16 then raise (477 + u) t else t)

/-! ## I2C (R1031, R1033) -/

/-- An I2C controller. -/
def State.i2cOf (s : State) (i : Nat) : I2c := s.i2c.getD i ⟨[], [], false⟩
/-- An I2C controller changed. -/
def State.setI2c (s : State) (i : Nat) (f : I2c → I2c) : State := { s with i2c := modAt s.i2c i f }

/-- A command enters the FIFO; one that finds it full is lost. -/
def i2cPush (i : Nat) (c : I2cOp) (s : State) : State :=
  if (s.i2cOf i).cmds.length < 16 then s.setI2c i fun x => { x with cmds := x.cmds ++ [c] } else s

/-- The command of a word of I2C.CMD (R1038). -/
def i2cOp? (v : Nat) : Option I2cOp :=
  match fld v 2 0 with
  | 1 => some .start
  | 2 => some (.write (BitVec.ofNat 8 (fld v 15 8)))
  | 3 => some .readAck
  | 4 => some .readNack
  | 5 => some .stop
  | _ => none

/-- START (R1031). -/
def execStart (_ini i : Nat) (s : State) : Host.Outcome State Fault Refusal := done s (i2cPush i .start s.begin_)
/-- WRITE (R1031). -/
def execWrite (_ini i : Nat) (b : Byte) (s : State) : Host.Outcome State Fault Refusal := done s (i2cPush i (.write b) s.begin_)
/-- READ_ACK (R1031). -/
def execReadAck (_ini i : Nat) (s : State) : Host.Outcome State Fault Refusal := done s (i2cPush i .readAck s.begin_)
/-- READ_NACK (R1031). -/
def execReadNack (_ini i : Nat) (s : State) : Host.Outcome State Fault Refusal := done s (i2cPush i .readNack s.begin_)
/-- STOP (R1031). -/
def execStop (_ini i : Nat) (s : State) : Host.Outcome State Fault Refusal := done s (i2cPush i .stop s.begin_)

/-- A read of I2C.RX: VALID and the oldest byte. -/
def i2cRead (i : Nat) (s : State) : Word × State :=
  match (s.i2cOf i).rx with
  | b :: r => (BitVec.ofNat 32 (256 + b.toNat), s.setI2c i fun x => { x with rx := r })
  | [] => (0, s)

/-- I2C_RX_READ (R1031). -/
def execI2cRxRead (_ini i : Nat) (s : State) : Host.Outcome State Fault Refusal :=
  let r := i2cRead i s.begin_
  done s { r.2 with rdata := r.1 }

/-- I2C_CMD_DONE (R1031, R1033): the oldest command is complete; the event comes when the FIFO empties or NACK sets. -/
def execI2cCmdDone (i : Nat) (rx : Byte) (nack : Bool) (s : State) : Host.Outcome State Fault Refusal :=
  let t := s.begin_
  match (t.i2cOf i).cmds with
  | [] => done s t
  | c :: r =>
    let t := t.setI2c i fun x => { x with cmds := r }
    let (t, bad) : State × Bool := match c with
      | .start => (t.setI2c i fun x => { x with busy := true }, false)
      | .stop => (t.setI2c i fun x => { x with busy := false }, false)
      | .write _ => (if nack then stick (Reg.i2cStat i) 3 t else t, nack)
      | _ => (t.setI2c i fun x => { x with rx := x.rx ++ [rx] }, false)
    done s (if r.isEmpty || bad then raise (479 + i) t else t)

/-! ## GPIO (R1032) -/

/-- GPIO_EDGE (R1032): the pin's level, and its event when it is an input whose edge is selected. -/
def execGpioEdge (pin : Nat) (lvl : Bool) (s : State) : Host.Outcome State Fault Refusal :=
  let t := s.begin_
  let old := t.gpio.getD pin false
  let t : State := { t with gpio := modAt t.gpio pin fun _ => lvl }
  let sel := t.flag Reg.gpioEdge (if lvl then pin else 16 + pin)
  done s (if old != lvl && !t.flag Reg.gpioDir pin && sel then raise (481 + pin) t else t)

/-! ## Boundary scan (R1061 to R1063, R1081) -/

/-- What IDCODE reads (R1062). -/
def idcode : Word := 0xB007256B

/-- The level of the ball at a place of the chain: GPIO, EVENT_OUT and SYS_RST_N as the state has them; what the pins of the flash,
of the serial ports, of the reference clocks, and of the steward and scan ports carry at one moment is open. -/
def State.ballLevel (s : State) (place : Nat) : Ball → Bool
  | .gpio p => if s.flag Reg.gpioDir p then s.flag Reg.gpioOut p else s.gpio.getD p false
  | .eventOut n => s.eventOut n
  | .sysRstN => !s.boot.rstLow
  | _ => Config.freeBit (s.free + place)

/-- An input of the device alone: EXTEST drives no level on it. -/
def Ball.input : Ball → Bool
  | .sysRstN | .refclk _ => true
  | .serial k => k == 1 || k == 3
  | .steward k => k == 0 || k == 1 || k == 2 || k == 5
  | .scan k => k != 3
  | _ => false

/-- What EXTEST drives on the balls: the level of each ball that the chain drives (R1061). -/
def State.scanDrives (s : State) : List (Ball × Bool) :=
  if s.tap == 3 then (scanBalls.zip s.scan.latch).filter fun p => !p.1.input else []

/-- The chain captures the balls, and what is shifted in takes its place (R1061, R1063). A ball that EXTEST drives is captured at
the level driven. -/
def scanChain (shift : List Bool) (s : State) : State :=
  let was := s.scanDrives
  let level := fun (q : Ball × Nat) => ((was.find? fun d => d.1 == q.1).map Prod.snd).getD (s.ballLevel q.2 q.1)
  { s with scan := ⟨scanBalls.zipIdx.map level, shift⟩, free := s.free + 53 }

/-- BOUNDARY_SCAN_INSTRUCTION (R1061 to R1063, R1081): EXTEST gives way to BYPASS while SYS_RST_N is high; IDCODE selects the
identification register, BYPASS the one-bit register, and SAMPLE/PRELOAD and EXTEST the chain. -/
def execBoundaryScanInstruction (scan : Nat) (s : State) : Host.Outcome State Fault Refusal :=
  let t := s.begin_
  let ins := scan % 4
  let shift := (List.range 53).map (bitAt (scan / 4))
  let i := if ins == 3 && !t.boot.rstLow then 0 else ins
  let t := if i == 2 || i == 3 then scanChain shift t else t
  done s { t with tap := i, rdata := if i == 1 then idcode else if i == 0 then 0 else t.rdata }

end Sys2Proof.Machine
end

