-- ==== Sys2Proof/Machine/Sport.lean ====
section
/-! DEFINITION. The steward port up to the execution of a command: transports, frames and answers (R957, R958, R960 to R966,
R972, R973, R1028, R1029, R1037, R1082). -/

namespace Sys2Proof.Machine

/-- STATUS codes of R966. -/
def stOk : Nat := 0
/-- UNKNOWN_CMD. -/
def stUnknown : Nat := 1
/-- BAD_LEN. -/
def stBadLen : Nat := 2
/-- BAD_STATE. -/
def stBadState : Nat := 3
/-- BAD_SIGNATURE. -/
def stBadSignature : Nat := 4
/-- KEY_REVOKED. -/
def stRevoked : Nat := 5
/-- FLASH_ERROR. -/
def stFlash : Nat := 6
/-- ARMED. -/
def stArmed : Nat := 7
/-- BUSY. -/
def stBusy : Nat := 8
/-- BAD_ARG. -/
def stBadArg : Nat := 9

/-- CRC-16/CCITT-FALSE (R960). -/
def crc16 (bs : List Byte) : Nat := Crypto.crcMsb 16 0x1021 0xFFFF bs

/-- A frame with its CRC (R960). -/
def frame (seq cmd status : Nat) (payload : List Byte) : List Byte :=
  let body := leBytes 1 seq ++ leBytes 1 cmd ++ leBytes 2 payload.length ++ leBytes 1 status ++ [0] ++ payload
  [0xA5, 0x5A] ++ body ++ beBytes 2 (crc16 body)

/-- The commands of R965. -/
def portCmds : List Nat := [0x01, 0x02, 0x03, 0x04, 0x05, 0x06, 0x07, 0x10, 0x11, 0x12, 0x20, 0x21, 0x30, 0x31]

/-- The port serves transport `t` (R957, R1029): 0 UART, 1 SPI, 2 Ethernet in the waystation state, 3 internal while the device runs. -/
def State.portOn (s : State) (t : Nat) : Bool :=
  !s.boot.rstLow && s.log.power &&
    (if t == 2 then s.flag Reg.sysBootStat 31 && s.wayEth != 0 else if t == 3 then s.running else decide (t < 2))

/-- The type under which a response stands in `out`. -/
def portType : Nat := 0x300

/-- A response goes out on a transport, on Ethernet by the symbols of ETH0 (R545, R957). The host reads UART, SPI and Ethernet; an application core reads the internal one byte by
byte. -/
def sendFrame (t : Nat) (f : List Byte) (s : State) : State :=
  if t == 3 then { s with sport := { s.sport with tx := modAt s.sport.tx 3 fun q => q ++ f } }
  else { s with sport := { s.sport with tx := modAt s.sport.tx t fun _ => f }
                out := s.out ++ [(t, portType, 0, f.map BitVec.toNat)]
                phy := if t == 2 then { s.phy with eth := s.phy.eth ++ [(0, (s.phy.pcs.getD 0 Pcs.none).symbols (f.map BitVec.toNat))] }
                       else s.phy }

/-- A good request frame (R966, R972, R973): BUSY while a command is executed, the stored response for a repeat, UNKNOWN_CMD for a
command that does not exist, else the command is in progress. -/
def takeRequest (t seq cmd : Nat) (payload : List Byte) (s : State) : State :=
  if s.sport.running.isSome then sendFrame t (frame seq (cmd ||| 0x80) stBusy []) s
  else match s.sport.last.bind fun l => if l.1 == seq && l.2.1 == cmd then some l.2.2 else none with
    | some f => sendFrame t f s
    | none =>
      if portCmds.contains cmd then { s with sport := { s.sport with running := some ⟨t, seq, cmd, payload⟩ } }
      else sendFrame t (frame seq (cmd ||| 0x80) stUnknown []) s

/-- A discarded frame counts (R961, R1082). -/
def portError (s : State) : State := bump Reg.sysSportErr s

/-- The bytes that a transport has received are read as frames (R960 to R962): the receiver hunts for SYNC. What is left is an
unfinished frame. -/
def parseFrames (t : Nat) : Nat → List Byte → State → List Byte × State
  | 0, bs, s => (bs, s)
  | fuel + 1, bs, s =>
    match bs with
    | [] => ([], s)
    | [x] => (if x == 0xA5 then [x] else [], s)
    | x :: y :: r =>
      if x != 0xA5 || y != 0x5A then parseFrames t fuel (y :: r) s
      else if bs.length < 8 then (bs, s)
      else
        let n := leAt bs 4 2
        if 1024 < n then parseFrames t fuel r (portError s)
        else if bs.length < 10 + n then (bs, s)
        else
          let body := slice bs 2 (6 + n)
          let rest := bs.drop (10 + n)
          if beN (slice bs (8 + n) 2) == crc16 body then
            parseFrames t fuel rest (takeRequest t (leAt bs 2 1) (leAt bs 3 1) (slice bs 8 n) s)
          else parseFrames t fuel rest (portError s)

/-- Bytes arrive on a transport. -/
def receive (t : Nat) (bytes : List Byte) (s : State) : State :=
  if s.portOn t then
    let bs := s.sport.rx.getD t [] ++ bytes
    let r := parseFrames t (bs.length + 1) bs s
    { r.2 with sport := { r.2.sport with rx := modAt r.2.sport.rx t fun _ => r.1 } }
  else s

/-- STEWARD_FRAME (R957, R960 to R963, R972, R973). -/
def execStewardFrame (t : Nat) (bytes : List Byte) (s : State) : Host.Outcome State Fault Refusal :=
  done s (receive t bytes s.begin_)

/-- UART_GAP_TIMEOUT (R962): the frame is discarded. -/
def execUartGapTimeout (s : State) : Host.Outcome State Fault Refusal :=
  let t := s.begin_
  done s { t with sport := { t.sport with rx := modAt t.sport.rx 0 fun _ => [] } }

/-- SPT_CS_RISE (R1082): a partial request is discarded and counted. -/
def execSptCsRise (s : State) : Host.Outcome State Fault Refusal :=
  let t := s.begin_
  done s <|
    if (t.sport.rx.getD 1 []).isEmpty then t
    else portError { t with sport := { t.sport with rx := modAt t.sport.rx 1 fun _ => [] } }

/-- A byte is written to SYS.SPORT_DATA (R1028, R1029, R1037). -/
def sportWrite (b : Byte) (s : State) : State :=
  if !s.portOn 3 then s
  else if (s.sport.running.map Request.t) == some 3 then { s with sport := { s.sport with busy := true } }
  else receive 3 [b] s

/-- SYS.SPORT_DATA is read (R1028, R1037): the next response byte with VALID, or 0. -/
def sportRead (s : State) : Word × State :=
  let q := s.sport.tx.getD 3 []
  let q := if s.sport.busy then
      (match s.sport.running with
        | some r => frame r.seq (r.cmd ||| 0x80) stBusy []
        | none => match s.sport.last with
          | some l => frame l.1 (l.2.1 ||| 0x80) stBusy []
          | none => frame 0 0x80 stBusy []) ++ q
    else q
  match q with
  | [] => (0, s)
  | b :: r => (BitVec.ofNat 32 (256 + b.toNat),
      { s with sport := { s.sport with busy := false, tx := modAt s.sport.tx 3 fun _ => r } })

/-- SPORT_DATA_WRITE (R1028, R1037). -/
def execSportDataWrite (_ini : Nat) (b : Byte) (s : State) : Host.Outcome State Fault Refusal := done s (sportWrite b s.begin_)

/-- SPORT_DATA_READ (R1028, R1037). -/
def execSportDataRead (_ini : Nat) (s : State) : Host.Outcome State Fault Refusal :=
  let r := sportRead s.begin_
  done s { r.2 with rdata := r.1 }

end Sys2Proof.Machine
end

