-- ==== Sys2Proof/Machine/Timebase.lean ====
section
/-! DEFINITION. The timebase (R826 to R833, R848, R849). -/

namespace Sys2Proof.Machine

/-- The next value of LT and of its fraction after one tick of `incr` (R826). -/
def tickLt (lt : Pos) (frac : BitVec 24) (incr : Word) : Pos × BitVec 24 :=
  let v := lt.toNat * 2 ^ 24 + frac.toNat + incr.toNat
  (BitVec.ofNat 48 (v / 2 ^ 24), BitVec.ofNat 24 v)

/-- TB_WRAP where LT_HI rises from `old` to `new`, TB_UNWRAP where it falls (R829, R848). The change of LT_HI is the one
that the signed change of LT gives, so a rise past the top of LT is a rise. -/
def wrapEvents (old new : Pos) (s : State) : State :=
  if old.toNat / 2 ^ 32 == new.toNat / 2 ^ 32 then s
  else if before 48 old.toNat new.toNat then raise 451 s else raise 452 s

/-- One 4 ns tick that also adds the signed step `step` (R826, R831, R832, R848, R849): the increment in force drives this
tick, and TIME.TB_INCR drives the next. -/
def tick (step : Int) (s : State) : State :=
  let r := tickLt s.tb.lt s.tb.frac s.tb.incr
  let lt := BitVec.ofInt 48 ((r.1.toNat : Int) + step)
  wrapEvents s.tb.lt lt
    { s with tb := { lt := lt, frac := r.2, cycles := s.tb.cycles + 1, incr := s.reg Reg.timeTbIncr } }

/-- What a step does on an empty queue: one tick of the timebase; the queue and everything else stay (assumption 1). -/
def idleTick (s : State) : State :=
  let t := tick 0 s
  { s with tb := t.tb, regs := t.regs, evq := t.evq, out := [], phy := Phy.quiet s.phy.starts s.phy.pcs }

end Sys2Proof.Machine
end

