-- ==== Sys2Proof/Machine/TimeNet.lean ====
section
/-! DEFINITION. Correcting the timebase, its effect on endpoints, and PTP timestamps (R826 to R833, R835 to R839, R842 to R844,
R848 to R850, R853, R854). -/

namespace Sys2Proof.Machine

/-- A write to TIME.TB_INCR (R831, R850): a value out of range is ignored. -/
def writeIncr (v : Word) (s : State) : State :=
  if 0x03FEF9DC ≤ v.toNat && v.toNat ≤ 0x04010624 then
    let old := s.reg Reg.timeTbIncr
    let s := s.setReg Reg.timeTbIncr v
    if old == v then s else restartExchanges s
  else s.setFlag Reg.timeStat 1 true

/-- TB_INCR (R831). -/
def execTbIncr (_ini : Nat) (val : Word) (s : State) : Host.Outcome State Fault Refusal := done s (writeIncr val s.begin_)

/-- A write to TIME.TB_STEP (R832, R833, R848 to R850): the next tick adds the step. While a station is armed a step is refused, unless
the write carries the value that the field has, which R63 does not refuse (log 50). -/
def writeStep (ini : Nat) (v : Word) (s : State) : State :=
  if s.anyArmed && v != s.reg Reg.timeTbStep then dropWrite ini Reg.timeTbStep .device s
  else restartExchanges (raise 453 (tick v.toInt (s.setReg Reg.timeTbStep v)))

/-- TB_STEP (R832). -/
def execTbStep (ini : Nat) (val : Word) (s : State) : Host.Outcome State Fault Refusal := doneTb s (writeStep ini val s.begin_)

/-- TIME_CORR to each ACTIVE endpoint but PEER endpoints (R842 to R844). -/
def correctAll (off rate : Int) (s : State) : State :=
  s.eps.foldl (fun (s : State) e => if s.epActive e.link e.addr then correct e.link e.addr off rate s else s) s

/-- INCR_TIME_CORR (R842): RATE of the change Δ from `old`. -/
def execIncrTimeCorr (old : Word) (s : State) : Host.Outcome State Fault Refusal :=
  let t := s.begin_
  let d := ((t.reg Reg.timeTbIncr).toNat : Int) - old.toNat
  done s (correctAll 0 (rneDiv (d * 10 ^ 11) (2 ^ 26)) t)

/-- STEP_TIME_CORR (R843). -/
def execStepTimeCorr (step : Int) (s : State) : Host.Outcome State Fault Refusal := done s (correctAll (-step) 0 s.begin_)

/-- The timebase when LT_HI next increments: whole ticks pass, the first by the increment in force (R826, R829). -/
def Timebase.toWrap (t : Timebase) (incr : Word) : Timebase :=
  let x := t.lt.toNat * 2 ^ 24 + t.frac.toNat
  let goal := (t.lt.toNat / 2 ^ 32 + 1) * 2 ^ 56
  let y := x + t.incr.toNat
  let n := if goal ≤ y || incr == 0 then 0 else ceilDiv (goal - y) incr.toNat
  let v := y + n * incr.toNat
  { lt := BitVec.ofNat 48 (v / 2 ^ 24), frac := BitVec.ofNat 24 v, cycles := t.cycles + BitVec.ofNat 64 (n + 1), incr := incr }

/-- TB_WRAP (R829): time passes until the low 32 bits of LT roll over. -/
def execTbWrap (s : State) : Host.Outcome State Fault Refusal :=
  let t := s.begin_
  doneTb s (raise 451 { t with tb := t.tb.toWrap (t.reg Reg.timeTbIncr) })

/-- PTP FIFO `dir` (0 receive, 1 transmit) of a port. -/
def State.ptpFifo (s : State) (port dir : Nat) : List PtpEntry := s.ptp.getD (2 * port + dir) []

/-- The port is enabled: by the DEVICE section, or ETH0 in the waystation state over LANE22 (R544, R548). -/
def State.ethOn (s : State) (port : Nat) : Bool :=
  if s.flag Reg.sysBootStat 31 then port == 0 && s.wayEth != 0
  else ((s.dev.map fun d => if port == 0 then d.dev.eth0 else d.dev.eth1).getD 0) != 0

/-- PTP_EVENT_MESSAGE (R835 to R838): a recognised event message is timestamped with LT; a full FIFO drops the timestamp. -/
def execPtpEventMessage (port dir msgType domain seq : Nat) (udp : Bool) (s : State) : Host.Outcome State Fault Refusal :=
  let t := s.begin_
  done s <|
    if t.ethOn port && t.flag (Reg.ethPtpCtrl port) (b2n udp) && msgType < 4 then
      if (t.ptpFifo port dir).length < (if dir == 0 then 64 else 16) then
        raise (475 + port) { t with ptp := modAt t.ptp (2 * port + dir) fun q => q ++ [⟨t.tb.lt, msgType, domain, seq⟩] }
      else bump (Reg.ethPtpDrop port) t
    else t

end Sys2Proof.Machine
end

