-- ==== Sys2Proof/Machine/Access.lean ====
section
/-! DEFINITION. Accesses to the physical address space: what every register reads as, what reading and writing it does beside
its fields (R9 to R15, R49 to R101, R1005 to R1038), and the commands that are such accesses. -/

namespace Sys2Proof.Machine

/-! ## What registers read as

Registers that show other state are computed when they are read. `i` and `j` are the indexes of the copy. -/

/-- Bits set where a predicate on indexes holds. -/
def maskOf (n : Nat) (p : Nat → Bool) : Nat := sumN ((List.range n).map fun i => if p i then 2 ^ i else 0)

/-- Pending device-owned shadow writes of the block instance whose COMMIT register lies at `a` (R60, R101). -/
def State.commitWords (s : State) (a : Nat) : List ShadowWrite :=
  s.shadow.filter fun w => w.own.isNone && decide (w.addr + 0xFFC < a + 0x1000) && decide (a < w.addr + 0x1000)

/-- The COMMIT registers: at 0xFFC of each block with RS fields of the device (R60, R101). -/
def isCommit (a : Nat) : Bool :=
  a % 0x1000 == 0xFFC && (match regAt a with
    | some (r, _, _) => [Reg.pwrCommit, Reg.khanCommit, Reg.laneCommit 0, Reg.slinkCommit 0, Reg.mileCommit].contains r.base
    | none => false)

/-- Tiles of powered bands in a state. -/
def State.tilesIn (s : State) (p : Tile → Bool) : Nat :=
  ((List.range 72).filter fun k => s.bandOn (bandOf k) && p (s.tile k)).length

/-- Spares of powered bands that no retirement waits for (R235). -/
def State.sparesReady (s : State) : Nat :=
  s.tilesIn (fun t => t.st == tileSpare) - (s.retiring.filter fun r => match r.spare with
    | some k => (s.tile k).st == tileSpare
    | none => false).length

/-- MESH.GRID (R235). -/
def State.gridWord (s : State) : Nat :=
  let hole := fun (t : Tile) => t.st == tileRetired || t.st == tileFactory
  let logical := if s.holes then s.tilesIn fun t => t.st == tileSpare || t.st == tileActive
    else s.tilesIn fun t => (t.st == tileActive || t.st == tileRetiring) && decide (t.lx < 8)
  logical * 2 ^ 24 + s.sparesReady * 2 ^ 16 + s.tilesIn hole * 2 ^ 8 + b2n s.holes

/-- TILE.STATE (R236). -/
def State.tileWord (s : State) (k : Nat) : Nat :=
  let t := s.tile k
  (if t.owner.isSome then 2 ^ 20 else 0) + (t.owner.getD 0) % 16 * 2 ^ 16 + t.ly % 8 * 2 ^ 12 + t.lx % 16 * 2 ^ 8 +
    b2n t.borrowed * 8 + t.st % 8

/-- The six words of a milestone entry (R770). -/
def State.entryWords (s : State) (e : Nat) : List Nat :=
  match s.mile? e with
  | none => [0, 0, 0, 0, 0xFF0000, 0]
  | some m =>
    let f := m.pFire.getD 0
    [m.bale % 2 ^ 32, m.pDead % 2 ^ 32, m.pulse % 2 ^ 16 * 2 ^ 16 + m.pDead / 2 ^ 32 % 2 ^ 16, f % 2 ^ 32,
     (m.outcome.getD 0xFF) % 256 * 2 ^ 16 + f / 2 ^ 32 % 2 ^ 16,
     m.stn % 16 * 2 ^ 28 + m.st % 8 * 2 ^ 24 + b2n m.remote * 2 ^ 23 + b2n m.defaulted * 2 ^ 22 + b2n m.late * 2 ^ 21 +
       m.link % 16 * 2 ^ 16 + m.ch % 64 * 2 ^ 8 + m.rch % 256]

/-- Registers of SYS, MESH and TIME that are computed. -/
def State.viewSys (s : State) (b i a : Nat) : Nat :=
  let own := (s.reg a).toNat
  if b == Reg.sysRevId then setBitTo own 8 s.otp.gradeX
  else if b == Reg.sysShadowPend then maskOf 16 fun n => s.shadow.any fun w => w.own == some n
  else if b == Reg.sysEvqLo 0 then (((s.evq.getD i []).head?.map Prod.fst).getD 0).toNat
  else if b == Reg.sysEvqHi 0 then (((s.evq.getD i []).head?.map fun e => 2 ^ 31 + e.2 % 512).getD 0)
  else if b == Reg.sysEvqCount 0 then (s.evq.getD i []).length
  else if b == Reg.meshRowmap 0 then sumN ((List.range 8).map fun lx => s.rowmap i lx * 2 ^ (4 * lx))
  else if b == Reg.meshGrid then s.gridWord
  else if b == Reg.meshFactory 0 then s.otp.factory.toNat / 2 ^ (32 * i) % 2 ^ 32
  else if b == Reg.timeTbNs then s.tbNs.toNat
  else if b == Reg.timeLtHi then s.tb.lt.toNat / 2 ^ 32
  else own

/-- Registers of the peripherals that are computed. -/
def State.viewPeri (s : State) (b i a : Nat) : Nat :=
  let own := (s.reg a).toNat
  if b == Reg.uartStat 0 then own % 4 + (s.uartOf i).rx.length % 128 * 2 ^ 8 + (s.uartOf i).tx.length % 128 * 2 ^ 16
  else if b == Reg.i2cStat 0 then setBitTo (setBitTo own 0 (s.i2cOf i).cmds.isEmpty) 1 (s.i2cOf i).busy
  else if b == Reg.gpioIn then
    maskOf 16 fun p => if s.flag Reg.gpioDir p then s.flag Reg.gpioOut p else s.gpio.getD p false
  else own

/-- Registers of KHAN and MFL that are computed (R144, R390). -/
def State.viewKhan (s : State) (b i a : Nat) : Nat :=
  let held := (List.range 72).filter fun k => (s.tile k).owner == some i
  if b == Reg.khanFree then s.capacity % 256 * 2 ^ 16 + ((List.range 72).filter s.unheld).length % 256
  else if b == Reg.khanStnTiles 0 then
    s.guarOf i % 256 * 2 ^ 24 + held.length * 2 ^ 16 + (s.stn i).n % 256 * 2 ^ 8 + (s.stn i).decTiles % 256
  else if b == Reg.khanStnShape 0 then
    instCount (s.slotsOf i) (s.stn i).n % 256 * 2 ^ 8 + foldOf (s.slotsOf i) (s.stn i).n % 256
  else if b == Reg.khanStnPages 0 then
    (sumN (held.map fun k => (s.tile k).pages.length) + s.kvHeld i) % 2 ^ 13 * 2 ^ 16 +
      (s.pagesPerTile i * (s.stn i).n + s.kvHeld i) % 2 ^ 13
  else if b == Reg.khanStnJobs 0 then s.slotsReserved i % 128 * 2 ^ 16 + (s.queued i).length % 128
  else if b == Reg.mflPending then maskOf 16 fun n => (s.stn n).pend.isSome
  else (s.reg a).toNat

/-- Registers of MILE that are computed (R770); words 1 to 5 of an entry come from the snapshot. -/
def State.viewMile (s : State) (b i a : Nat) : Nat :=
  let own := (s.reg a).toNat
  if b == Reg.mileStnCtrl 0 then b2n (s.stn i).trigEn
  else if b == Reg.mileStnStat 0 then
    (if (s.stn i).stops != 0 then 2 ^ 31 else 0) + own / 2 ^ 30 % 2 * 2 ^ 30 + (s.stn i).stops % 64 * 2 ^ 16 +
      (s.miles.filter fun m => m.stn == i).length % 2 ^ 13
  else if b == Reg.mileStnPart 0 then (s.partOf i).2 % 2 ^ 13 * 2 ^ 16 + (s.partOf i).1 % 2 ^ 12
  else if b == Reg.mileEntBale 0 then (s.entryWords i).getD 0 0
  else own

/-- Registers of FIELD that are computed (R682, R723). -/
def State.viewField (s : State) (b i a : Nat) : Nat :=
  let own := (s.reg a).toNat
  let o := s.odoCh i
  let r := s.ref i
  let req := if r.req.isEmpty then 7 else (r.req.map Prod.fst).foldl min 7
  if b == Reg.fioStat 0 then setBitTo (setBitTo own 0 (s.fioCh i).level) 1 (s.fioCh i).out
  else if b == Reg.odoPosLo 0 then o.cnt.toNat % 2 ^ 32
  else if b == Reg.odoPosHi 0 then o.cnt.toNat / 2 ^ 32
  else if b == Reg.odoIdxLo 0 then o.latch.toNat % 2 ^ 32
  else if b == Reg.odoIdxHi 0 then o.latch.toNat / 2 ^ 32
  else if b == Reg.odoRefPosLo 0 then r.pos.toNat % 2 ^ 32
  else if b == Reg.odoRefPosHi 0 then r.pos.toNat / 2 ^ 32
  else if b == Reg.odoRefHwmLo 0 then r.hwm.toNat % 2 ^ 32
  else if b == Reg.odoRefHwmHi 0 then r.hwm.toNat / 2 ^ 32
  else if b == Reg.odoRefStat 0 then b2n r.lost * 256 + req * 16 + b2n r.handover * 4 + r.src % 4
  else if b == Reg.odoRefResid 0 then ofInt 32 r.resid
  else if b == Reg.odoRefRequal 0 then ((r.req.find? fun p => p.1 == req).map Prod.snd).getD 0 % 2 ^ 32
  else own

/-- What the CTLE or DFE of a lane shows, once it has adapted (R530, R531): the measured value `w` while it adapts, and otherwise the value
at which it stopped. -/
def State.eqWord (s : State) (w : Word) (k : Nat) (dfe : Bool) : Option Word :=
  let n := if dfe then (s.lane k).dfe else (s.lane k).ctle
  if n == 0 then none
  else if s.laneLock k && !s.flag (Reg.laneRxeq k) (if dfe then 9 else 8) then some w
  else some (Config.equaliser k dfe n)

/-- What a register shows, without the effects of reading it. Analog readings that no command brings are free values (assumption
16): `w` stands for them. -/
def State.view (s : State) (w : Word) (r : RegInfo) (i j a : Nat) : Nat :=
  let b := r.base
  let own := (s.reg a).toNat
  if isCommit a then (if (s.commitWords a).isEmpty then 0 else 2)
  else if b < Reg.uartData 0 then s.viewSys b i a
  else if b < Reg.khanCtrl then s.viewPeri b i a
  else if b < Reg.laneCfg 0 then s.viewKhan b i a
  else if b == Reg.laneGrp 0 then setBitTo own 8 (s.lref.getD (i / 3) false)
  else if b == Reg.laneCfg 0 then (if s.laneTests i then setFld own 5 4 3 else own)
  else if b == Reg.laneRxeq 0 then (s.eqWord w i false).elim own fun v => setFld own 3 0 v.toNat
  else if b == Reg.laneDfe 0 then (s.eqWord w i true).elim own fun v => setBitTo v.toNat 7 false
  else if b == Reg.ethPtpTsCnt 0 0 then (s.ptpFifo i j).length % 128
  else if b == Reg.ethPtpTsLo 0 0 then (((s.ptpFifo i j).head?.map fun e => e.lt.toNat % 2 ^ 32).getD 0)
  else if Reg.mileRemoteCfg ≤ b && b < Reg.fioCfg 0 then s.viewMile b i a
  else if b == Reg.fioGrp 0 then setFld own 15 0 w.toNat
  else if b == Reg.fioSupply then setFld (setFld own 27 16 (w.toNat / 2 ^ 16)) 11 0 w.toNat
  else if Reg.fioCfg 0 ≤ b && b < Reg.convoyStale then s.viewField b i a
  else if b == Reg.mboxDataLo 0 then ((s.mbHead? i).getD 0).toNat % 2 ^ 32
  else if b == Reg.mboxDataHi 0 then ((s.mbHead? i).getD 0).toNat / 2 ^ 32
  else if b == Reg.mboxCount 0 then (s.mbox.getD i ⟨[], 0⟩).count
  else if b == Reg.tileState 0 then s.tileWord i
  else own

/-- What the register at an address shows. -/
def State.viewAt (s : State) (w : Word) (a : Nat) : Nat :=
  match regAt a with
  | some (r, i, j) => s.view w r i j a
  | none => 0

/-! ## Reading -/

/-- Low words of the counters wider than 32 bits; the high word follows at the next address (R74, R77). -/
def wideLows : List Nat :=
  [Reg.timeTbNs, Reg.logCalLo, Reg.logFioLo 0, Reg.logRemLo 0, Reg.slinkEpRptLo 0 0, Reg.odoPosLo 0, Reg.odoIdxLo 0,
   Reg.odoRefPosLo 0, Reg.odoRefHwmLo 0, Reg.convoyGrpMissLo 0]

/-- Registers whose value is measured by analog circuits. -/
def analogRegs : List Nat := [Reg.laneRxeq 0, Reg.laneDfe 0, Reg.fioGrp 0, Reg.fioSupply]

/-- A number as a register word. -/
def word (n : Nat) : Word := BitVec.ofNat 32 n

/-- A read of SYS.EVQ_HI: the head entry leaves the queue (R1086). -/
def evqRead (t : Nat) (s : State) : Word × State :=
  match s.evq.getD t [] with
  | e :: r => (word (2 ^ 31 + e.2 % 512), { s with evq := modAt s.evq t fun _ => r })
  | [] => (0, s)

/-- A read of MBOX.DATA_HI: the head entry leaves the mailbox, and an empty one sets UNDERRUN (R83, R85). -/
def mboxRead (n : Nat) (s : State) : Word × State :=
  match s.mbHead? n with
  | some e => (word (e.toNat / 2 ^ 32), { s with mbox := modAt s.mbox n Mbox.pop })
  | none => (0, s.setFlag (Reg.mboxStat n) 31 true)

/-- A read of ETH.PTP_TS_LO latches the other words of the head (R854). -/
def ptpRead (ini port dir : Nat) (s : State) : Word × State :=
  match (s.ptpFifo port dir).head? with
  | some e => (word (e.lt.toNat % 2 ^ 32), s.setSnap ini fun p =>
      { p with ptp := [word (e.lt.toNat / 2 ^ 32), word (e.seq % 2 ^ 16 * 2 ^ 16 + e.domain % 256 * 2 ^ 8 + e.msg % 16)] })
  | none => (0, s.setSnap ini fun p => { p with ptp := [0, 0] })

/-- A read of ETH.PTP_TS_ID returns the word that the low-word read has latched, and the head leaves the FIFO (R854). -/
def ptpIdRead (ini port dir : Nat) (s : State) : Word × State :=
  ((s.snap ini).ptp.getD 1 0, { s with ptp := modAt s.ptp (2 * port + dir) List.tail })

/-- A read of word 0 of a milestone entry latches words 1 to 5 (R770). -/
def entryRead (ini e : Nat) (s : State) : Word × State :=
  let ws := (s.entryWords e).map word
  (ws.getD 0 0, s.setSnap ini fun p => { p with mile := ws.drop 1 })

/-- A read of word 0 of a fault-log entry latches words 1 to 3 (R930). -/
def faultRead (ini i : Nat) (s : State) : Word × State :=
  (s.reg (Reg.faultLogW0 i), s.setSnap ini fun p =>
    { p with fault := [s.reg (Reg.faultLogW1 i), s.reg (Reg.faultLogW2 i), s.reg (Reg.faultLogW3 i)] })

/-- A read of the low word at `a` of a wide counter latches the high word (R75). -/
def wideRead (ini a : Nat) (s : State) : Word × State :=
  (word (s.viewAt 0 a), s.setSnap ini fun p => { p with wide := word (s.viewAt 0 (a + 4)) })

/-- A read of a register by an initiator. -/
def regRead (ini : Nat) (r : RegInfo) (i j a : Nat) (s : State) : Word × State :=
  let b := r.base
  if b == Reg.sysSportData then sportRead s
  else if b == Reg.uartData 0 then uartRead i s
  else if b == Reg.i2cRx 0 then i2cRead i s
  else if b == Reg.sysEvqHi 0 then evqRead i s
  else if b == Reg.mboxDataHi 0 then mboxRead i s
  else if b == Reg.ethPtpTsLo 0 0 then ptpRead ini i j s
  else if b == Reg.ethPtpTsHi 0 0 then ((s.snap ini).ptp.getD 0 0, s)
  else if b == Reg.ethPtpTsId 0 0 then ptpIdRead ini i j s
  else if b == Reg.mileEntBale 0 then entryRead ini i s
  else if Reg.mileEntDeadLo 0 ≤ b && b ≤ Reg.mileEntCtl 0 then ((s.snap ini).mile.getD ((b - Reg.mileEntDeadLo 0) / 4) 0, s)
  else if b == Reg.faultLogW0 0 then faultRead ini i s
  else if Reg.faultLogW1 0 ≤ b && b ≤ Reg.faultLogW3 0 then ((s.snap ini).fault.getD ((b - Reg.faultLogW1 0) / 4) 0, s)
  else if wideLows.contains b then wideRead ini a s
  else if wideLows.contains (b - 4) then ((s.snap ini).wide, s)
  else if analogRegs.contains b then let f := takeFree s; (word (s.view f.1 r i j a), f.2)
  else (word (s.view 0 r i j a), s)

/-- A blocked access of an application core or a drover (R380, R381, R1020, R1023). -/
def blockedWrite (ini : Nat) (stn : Option Nat) (s : State) : State :=
  match stn with
  | some n => isolation n none 5 ini s
  | none => logFault { action := 0, stn := none, code := 0x14, unit := 5, index := ini } s

/-- The steward programs or erases flash (R1034): a mirror record or a field entry is being written, or a FLASH command runs. -/
def State.flashBusy (s : State) : Bool :=
  !s.log.writing.isEmpty || !s.fmap.writing.isEmpty ||
    ((s.sport.running.map fun q => 0x10 ≤ q.cmd && q.cmd ≤ 0x12).getD false)

/-- A DRAM access that R379 blocks: a drover's outside the payload and bale-store partitions of the stations (R380, R1021, log 50). -/
def State.droverBlocked (s : State) (ini a n : Nat) : Bool :=
  decide (4 ≤ ini) && decide (ini < 12) && !(s.envs.any fun e => e.inPayload a n || e.inBales a n)

/-- A 32-bit read of the physical address space (R380, R1014 to R1019, R1027, R1034). The steward port and boundary scan reach registers
only. -/
def busRead (ini a : Nat) (s : State) : Word × State :=
  if a + 4 ≤ dramEnd && ini < 13 then
    if s.droverBlocked ini a 4 then (0, blockedWrite ini none s) else (word (leN (s.dramAt a 4)), s)
  else if sramBase ≤ a && a + 4 ≤ sramBase + sramLen && ini < 13 then
    let o := a - sramBase
    (if (s.tile (o / 0x200000)).gated || 0x1A0000 ≤ o % 0x200000 then 0
      else word (leN (Memory.reads sramByte s.sram o 4)), s)
  else if flashBase ≤ a && a + 4 ≤ flashBase + flashLen && ini < 13 then
    (if s.flashBusy then 0xFFFFFFFF else word (leN (s.flashAt (a - flashBase) 4)), s)
  else
    match if a % 4 == 0 then regAt a else none with
    | some (r, i, j) => if s.domOn (domainOf a) then regRead ini r i j a s else (0, s)
    | none => (0, busError ini a false s)

/-! ## Writing -/

/-- What a write leads to: the state, and writes to DRAM and to flash. -/
structure Bus where
  /-- The state. -/
  st : State
  /-- Writes to DRAM. -/
  dram : Writes := []
  /-- Writes to flash. -/
  flash : Writes := []

/-- The end of a command that writes through the bus. -/
def doneBus (s : State) (b : Bus) : Host.Outcome State Fault Refusal := finish { tb := true } s b.st b.dram b.flash [] []

/-- The station whose protected payload pages of 64 KiB the bytes [a, a + n) touch (R1022, R1035). -/
def State.protectedBy (s : State) (a n : Nat) : Option Nat :=
  (s.blocks.find? fun b => b.payLen != 0 && decide (b.payBase / 65536 * 65536 < a + n) &&
    decide (a < ceilDiv (b.payBase + b.payLen) 65536 * 65536)).map StnBlock.stn

/-- A store outside the register region (R196, R380, R1014, R1020, R1022, R1023, R1027). -/
def store (ini a : Nat) (bs : List Byte) (s : State) : Bus :=
  if a + bs.length ≤ dramEnd && ini < 13 then
    match if isCore ini then s.protectedBy a bs.length else none with
    | some n => { st := blockedWrite ini (some n) s }
    | none => if s.droverBlocked ini a bs.length then { st := blockedWrite ini none s } else { st := s, dram := [(a, bs)] }
  else if sramBase ≤ a && a < sramBase + sramLen && 0x1A0000 ≤ (a - sramBase) % 0x200000 && ini < 13 then { st := s }
  else if sramBase ≤ a && a < sramBase + sramLen && isCore ini then
    { st := blockedWrite ini (s.tile ((a - sramBase) / 0x200000)).owner s }
  else { st := busError ini a true s }

/-- COMMIT.GO of the block instance whose COMMIT register lies at `a` (R60, R94, R526, R876): its pending shadow applies. -/
def commitGo (a : Nat) (s : State) : State :=
  let ws := s.commitWords a
  let s := { s with shadow := s.shadow.filter fun w => !ws.contains w }
  let s := ws.foldl (fun (s : State) w =>
    if Reg.laneCfg 0 ≤ a && a < Reg.slinkStat 0 then commitTxfir ((w.addr - Reg.laneCfg 0) / 0x1000) w.val s
    else applyShadow w s) s
  if a == Reg.pwrCommit && !ws.isEmpty then updateBands s else s

/-- DROP_PKT (R86, R98, R99): the rest of the head packet leaves the mailbox. -/
def dropPacket (n : Nat) (s : State) : State :=
  { s with mbox := modAt s.mbox n fun (m : Mbox) => { m with pkts := m.pkts.tail } }

/-- A write to SYS.EVT_ROUTE (R1026). -/
def routeWrite (ini src val : Nat) (s : State) : State :=
  let mask := if ini == iniSteward then 0xFFFF else 0xE00F
  s.setN (Reg.sysEvtRoute src) (mergeBits mask (s.reg (Reg.sysEvtRoute src)).toNat val)

/-- A write to MFL.CMD (R115, R116, R140, R141). -/
def mflWrite (val : Nat) (s : State) : State :=
  match fld val 3 0 with
  | 1 => startLoad true s
  | 2 => startLoad false s
  | 3 => abortLoad s
  | 4 => cancelPending (fld val 11 8) s
  | _ => s

/-- The order of the fields of one write to MILE.STN_CTRL: the trigger enable, CANCEL_ALL, STOP_CLR, STOP_SET (R756 to R761). -/
def stnCtrlWrite (n val : Nat) (s : State) : State :=
  let s := if bitAt val 0 then trigEnSet n s else trigEnClear n s
  let s := if bitAt val 3 then cancelAll n s else s
  let s := if bitAt val 2 then stopClr n s else s
  if bitAt val 1 then assertStop n causeSoftware s else s

/-- What the written word of CONVOY.GRP_CFG does beyond its fields: a write of 1 to EN that the group's range forbids is refused
(R807). `was` is EN before the write. -/
def grpCfgCheck (g val : Nat) (was : Bool) (s : State) : State :=
  let a := Reg.convoyGrpCfg g
  if bitAt val 15 && s.flag a 15 && !s.grpCfgOk g (s.reg a).toNat then
    (s.setFlag a 15 was).setFlag (Reg.convoyGrpStat g) 29 true
  else s

/-- A write of `v` by an initiator to register `r`, copy (`i`, `j`), of SYS, PWR, MESH, TIME, LOG and PERI. -/
def writeLow (ini : Nat) (r : RegInfo) (i a v : Nat) (s : State) : Bus :=
  let b := r.base
  let t := writeFields r i ini a v s
  if b == Reg.sysEvtRoute 0 then { st := routeWrite ini i v s }
  else if b == Reg.sysResetCmd then let x := resetCmd ini v s; { st := x.1, flash := x.2 }
  else if b == Reg.sysAppStart then { st := appStart ini v s }
  else if b == Reg.sysWdogKick then { st := wdogKick (fld v 15 8) (fld v 3 0) s }
  else if b == Reg.sysMtimecmpLo 0 then { st := mtimecmpWrite i (word v) s }
  else if b == Reg.sysSportData then { st := sportWrite (BitVec.ofNat 8 v) s }
  else if b == Reg.meshRetireCmd then { st := retireCmd (fld v 31 24) (fld v 6 0) s }
  else if b == Reg.timeTbIncr then { st := writeIncr (word v) s }
  else if b == Reg.timeTbStep then { st := writeStep ini (word v) s }
  else if b == Reg.logMirror then { st := if bitAt v 0 then snapshot t else t }
  else if b == Reg.logCalCtrl then { st := if bitAt v 0 then calSet t else t }
  else if b == Reg.uartData 0 then { st := uartWrite i (BitVec.ofNat 8 v) s }
  else if b == Reg.i2cCmd 0 then { st := ((i2cOp? v).map fun c => i2cPush i c s).getD s }
  else { st := clearCount r a v t }

/-- A write of `v` to a register of the other blocks. -/
def writeHigh (ini : Nat) (r : RegInfo) (i a v : Nat) (s : State) : State :=
  let b := r.base
  let t := writeFields r i ini a v s
  if b == Reg.mflCmd then mflWrite v s
  else if b == Reg.intakeCapture then (if bitAt v 8 then captureGo (fld v 4 0) t else t)
  else if b == Reg.ispReplay then (if bitAt v 8 then replayGo (fld v 3 0) t else t)
  else if b == Reg.mileStnCtrl 0 then stnCtrlWrite i v s
  else if b == Reg.fioCtrl 0 then
    let t := if bitAt v 5 then rearm i t else t
    let t := if bitAt v 4 then cntClr i t else t
    followTest i (followOn i t)
  else if b == Reg.fioTest 0 then testGo i (bitAt v 31 && !s.ownerArmed (s.ownerOf r.owner i)) t
  else if b == Reg.fioGrp 0 then (if bitAt v 17 then grpRearm i t else t)
  else if b == Reg.odoCtrl 0 then odoHealth i (if bitAt v 0 then odoArm i t else t)
  else if b == Reg.odoCfg 0 || b == Reg.odoStat 0 || b == Reg.odoHealthCfg 0 then odoHealth i t
  else if b == Reg.convoyGrpCfg 0 then grpCfgCheck i v (s.flag a 15) t
  else if b == Reg.laneRxeq 0 then unfreeze i (s.reg a).toNat t
  else if b == Reg.mboxCmd 0 then (if fld v 3 0 == 1 then dropPacket i s else s)
  else clearCount r a v t

/-- A write that the registers of a domain that is off do not ignore: it starts an action that switches the domain on (R857, R897). -/
def wakes (b v : Nat) : Bool :=
  (b == Reg.mileStnCtrl 0 && bitAt v 0) || (b == Reg.intakeCapture && bitAt v 8) || (b == Reg.ispReplay && bitAt v 8)

/-- A 32-bit write to the physical address space (R10 to R15, R1014 to R1023, R1027). -/
def busWrite (ini a : Nat) (val : Word) (s : State) : Bus :=
  let v := val.toNat
  match if a % 4 == 0 then regAt a else none with
  | some (r, i, _) =>
    if !s.domOn (domainOf a) && !wakes r.base v then { st := s }
    else if isCommit a then { st := if bitAt v 0 then commitGo a s else s }
    else if a < Reg.khanCtrl then writeLow ini r i a v s
    else { st := writeHigh ini r i a v s }
  | none => store ini a (leBytes 4 v) s

/-! ## The commands -/

/-- REGISTER_WRITE (R10). -/
def execRegisterWrite (ini addr : Nat) (val : Word) (s : State) : Host.Outcome State Fault Refusal :=
  doneBus s (busWrite ini addr val s.begin_)

/-- COUNTER_CLR (R72): only the CLR bit of the counter at `addr` is written with 1. -/
def execCounterClr (ini addr : Nat) (s : State) : Host.Outcome State Fault Refusal :=
  doneBus s (busWrite ini addr 0x40000000 s.begin_)

/-- COMMIT_GO (R60, R94). -/
def execCommitGo (ini addr : Nat) (s : State) : Host.Outcome State Fault Refusal := doneBus s (busWrite ini addr 1 s.begin_)

/-- The end of a read. -/
def doneRead (s : State) (r : Word × State) : Host.Outcome State Fault Refusal := done s { r.2 with rdata := r.1 }

/-- WIDE_LOW_READ (R75). -/
def execWideLowRead (ini addr : Nat) (s : State) : Host.Outcome State Fault Refusal := doneRead s (busRead ini addr s.begin_)

/-- MILE_ENTRY_READ (R770). -/
def execMileEntryRead (ini e : Nat) (s : State) : Host.Outcome State Fault Refusal :=
  let t := s.begin_
  doneRead s (if t.domOn domVerdict && e < 4096 then entryRead ini e t else (0, t))

/-- FAULT_ENTRY_READ (R930). -/
def execFaultEntryRead (ini i : Nat) (s : State) : Host.Outcome State Fault Refusal :=
  let t := s.begin_
  doneRead s (if i < 64 then faultRead ini i t else (0, t))

/-- PTP_TS_LO_READ (R854). -/
def execPtpTsLoRead (ini port dir : Nat) (s : State) : Host.Outcome State Fault Refusal :=
  let t := s.begin_
  doneRead s (if port < 2 && dir < 2 then ptpRead ini port dir t else (0, t))

/-- PTP_TS_ID_READ (R854). -/
def execPtpTsIdRead (ini port dir : Nat) (s : State) : Host.Outcome State Fault Refusal :=
  let t := s.begin_
  doneRead s (if port < 2 && dir < 2 then ptpIdRead ini port dir t else (0, t))

/-- MBOX_DATA_HI_READ (R83, R85). -/
def execMboxDataHiRead (_ini n : Nat) (s : State) : Host.Outcome State Fault Refusal :=
  let t := s.begin_
  doneRead s (if n < 16 then mboxRead n t else (0, t))

/-- DROP_PKT (R86, R98, R99). -/
def execDropPkt (_ini n : Nat) (s : State) : Host.Outcome State Fault Refusal := done s (dropPacket n s.begin_)

/-- EVQ_HI_READ (R1086). -/
def execEvqHiRead (_ini t : Nat) (s : State) : Host.Outcome State Fault Refusal := doneRead s (evqRead t s.begin_)

/-- EVT_ROUTE_WRITE (R1026). -/
def execEvtRouteWrite (ini src : Nat) (val : Word) (s : State) : Host.Outcome State Fault Refusal :=
  let t := s.begin_
  done s (if src < 512 then routeWrite ini src val.toNat t else t)

/-- ON (R696, R697): FIO.CTRL.ON of channel `ch` is written, with the other fields as they stand. -/
def execOn (ini ch : Nat) (lvl : Bool) (s : State) : Host.Outcome State Fault Refusal :=
  doneBus s (busWrite ini (Reg.fioCtrl ch) (word (setBitTo ((s.reg (Reg.fioCtrl ch)).toNat % 4) 0 lvl)) s.begin_)

/-- FIO_TEST (R701, R63). -/
def execFioTest (ini ch us : Nat) (s : State) : Host.Outcome State Fault Refusal :=
  doneBus s (busWrite ini (Reg.fioTest ch) (word (2 ^ 31 + us % 65536)) s.begin_)

/-- BUS_ERR (R1017, R1018): an access to an unmapped address. -/
def execBusErr (ini addr : Nat) (wr : Bool) (s : State) : Host.Outcome State Fault Refusal :=
  let t := busError ini addr wr s.begin_
  done s (if wr then t else { t with rdata := 0 })

/-- CORE_BLOCKED_WRITE (R1020, R1022, R1023): a store of an application core; one that no rule blocks takes place. -/
def execCoreBlockedWrite (core addr : Nat) (data : List Byte) (s : State) : Host.Outcome State Fault Refusal :=
  doneBus s (store core addr data s.begin_)

end Sys2Proof.Machine
end

