-- ==== Sys2Proof/Machine/Steward.lean ====
section
/-! DEFINITION. The commands of the steward port (R205 to R211, R942, R943, R950, R958, R965 to R971, R996, R997). Each acts on the
request in progress, and answers it. The sizes of the one-byte arguments and the layout of the answers that the manual does not
give are those of assumption 17. -/

namespace Sys2Proof.Machine

/-- What a command leads to: the state, STATUS, the answer's payload, and writes to DRAM and flash. -/
structure Reply where
  /-- The state. -/
  st : State
  /-- STATUS of R966. -/
  status : Nat := 0
  /-- PAYLOAD. -/
  payload : List Byte := []
  /-- Writes to DRAM. -/
  dram : Writes := []
  /-- Writes to flash. -/
  flash : Writes := []

/-- A refusal: nothing changes. -/
def refuse (status : Nat) (s : State) : Reply := { st := s, status := status }

/-- The answer is sent and kept (R960, R973); the port is ready for the next request. -/
def respond (q : Request) (status : Nat) (payload : List Byte) (s : State) : State :=
  let f := frame q.seq (q.cmd ||| 0x80) status payload
  sendFrame q.t f { s with sport := { s.sport with running := none, last := some (q.seq, q.cmd, f) } }

/-- The device is in the waystation state. -/
def State.inWay (s : State) : Bool := s.flag Reg.sysBootStat 31

/-- A command is available (R958, R965): while the device runs and in the waystation state; where the ROM serves the port, only
some are. -/
def State.portServes (s : State) (cmd : Nat) : Bool :=
  (s.running || s.inWay) && (!s.boot.rom || [0x01, 0x02, 0x10, 0x11, 0x12, 0x30].contains cmd)

/-- The request in progress is executed by the command that it names. -/
def serve (sc : Scope) (cmd : Nat) (f : List Byte → State → Reply) (s : State) : Host.Outcome State Fault Refusal :=
  let t := s.begin_
  match t.sport.running with
  | some q =>
    if q.cmd == cmd then
      let r := if t.portServes cmd then f q.payload t else refuse stBadState t
      finish sc s (respond q r.status r.payload r.st) r.dram r.flash [] []
    else done s t
  | none => done s t

/-- A command whose request payload is `n` bytes long. -/
def sized (n : Nat) (f : State → Reply) (p : List Byte) (s : State) : Reply := if p.length == n then f s else refuse stBadLen s

/-! ## Reports -/

/-- The payload of GET_INFO (R965). -/
def State.info (s : State) : List Byte :=
  let r := fun (a : Nat) => leBytes 4 (s.viewAt 0 a)
  r Reg.sysDeviceId ++ r Reg.sysRevId ++ r Reg.sysBootStat ++ r Reg.sysWayCause ++ r Reg.mflDevGen ++ leBytes 8 s.otp.serial

/-- The muster record (R950): a phase without an entry has not run. -/
def State.musterRecord (s : State) : List Byte :=
  [0x48, 0x4D, 0x55, 0x53] ++ leBytes 1 s.boot.recSlot ++ leBytes 1 s.boot.recCause ++ [0, 0] ++ leBytes 4 s.boot.recUs ++ leBytes 4 0 ++
    (List.range 10).flatMap fun p =>
      let e := s.boot.record.getD p ⟨3, 0, 0, 0⟩
      leBytes 1 p ++ leBytes 1 e.result ++ leBytes 1 e.unit ++ leBytes 1 e.index ++ leBytes 4 e.us

/-- The bytes of a fault-log entry: its four words (R928). -/
def State.faultBytes (s : State) (i : Nat) : List Byte :=
  [Reg.faultLogW0 i, Reg.faultLogW1 i, Reg.faultLogW2 i, Reg.faultLogW3 i].flatMap fun a => leBytes 4 (s.reg a).toNat

/-- GET_INFO (R965). -/
def execGetInfo (s : State) : Host.Outcome State Fault Refusal :=
  serve {} 0x01 (sized 0 fun t => { st := t, payload := t.info }) s

/-- GET_MUSTER (R950). -/
def execGetMuster (s : State) : Host.Outcome State Fault Refusal :=
  serve {} 0x02 (sized 0 fun t => { st := t, payload := t.musterRecord }) s

/-- GET_DEFECT_MAP (R965): the entries of the field region (R207). -/
def execGetDefectMap (s : State) : Host.Outcome State Fault Refusal :=
  serve {} 0x03 (sized 0 fun t => { st := t, payload := t.fmap.entries.flatMap MapEntry.bytes }) s

/-- What GET_FAULT_LOG answers: `count` entries from index `first` (R965). -/
def faultReport (p : List Byte) (s : State) : Reply :=
  let first := leAt p 0 1
  let n := leAt p 1 1
  if n == 0 || decide (64 < first + n) then refuse stBadArg s
  else { st := s, payload := (List.range n).flatMap fun k => s.faultBytes (first + k) }

/-- GET_FAULT_LOG (R965). -/
def execGetFaultLog (s : State) : Host.Outcome State Fault Refusal := serve {} 0x04 (fun p => sized 2 (faultReport p) p) s

/-- What GET_LOGBOOK answers (R996, R997): offset 0 takes a snapshot, and every offset reads the one last taken. -/
def logReport (p : List Byte) (s : State) : Reply :=
  let o := leAt p 0 4
  if 8192 ≤ o then refuse stBadArg s
  else if o == 0 then
    let im := s.logImage (s.reg Reg.logMirrorSeq).toNat
    { st := { s with sport := { s.sport with image := im } }, payload := im.take 1024 }
  else if s.sport.image.isEmpty then refuse stBadState s
  else { st := s, payload := (s.sport.image.drop o).take 1024 }

/-- GET_LOGBOOK (R996, R997). -/
def execGetLogbook (s : State) : Host.Outcome State Fault Refusal := serve {} 0x05 (fun p => sized 4 (logReport p) p) s

/-! ## Registers (R95, R965) -/

/-- READ_REG: `n` words from an address, read by the steward port. -/
def readWords : Nat → Nat → State → List Byte × State
  | 0, _, s => ([], s)
  | n + 1, a, s =>
    let r := busRead iniPort a s
    let q := readWords n (a + 4) r.2
    (leBytes 4 r.1.toNat ++ q.1, q.2)

/-- What READ_REG answers. In the waystation state only the registers that PD_AON serves are available. -/
def regReport (p : List Byte) (s : State) : Reply :=
  let a := leAt p 0 8
  let n := leAt p 8 1
  if n == 0 || 64 < n then refuse stBadArg s
  else if s.inWay && !((List.range n).all fun k => aonBlock (a + 4 * k)) then refuse stBadState s
  else
    let r := readWords n a s
    { st := r.2, payload := r.1 }

/-- READ_REG (R965). -/
def execReadReg (s : State) : Host.Outcome State Fault Refusal := serve {} 0x06 (fun p => sized 9 (regReport p) p) s

/-- WRITE_REG: words written in order from an address by the steward port. -/
def writeWords : List (List Byte) → Nat → Bus → Bus
  | [], _, b => b
  | w :: ws, a, b =>
    let x := busWrite iniPort a (word (leN w)) b.st
    writeWords ws (a + 4) { st := x.st, dram := b.dram ++ x.dram, flash := b.flash ++ x.flash }

/-- What WRITE_REG does. -/
def regStore (p : List Byte) (s : State) : Reply :=
  let a := leAt p 0 8
  let ws := chunks 4 (p.drop 8)
  if p.length < 12 || p.length % 4 != 0 then refuse stBadLen s
  else if s.inWay && !((List.range ws.length).all fun k => aonBlock (a + 4 * k)) then refuse stBadState s
  else
    let b := writeWords ws a { st := s }
    { st := b.st, dram := b.dram, flash := b.flash }

/-- WRITE_REG (R95, R965). -/
def execWriteReg (s : State) : Host.Outcome State Fault Refusal := serve { tb := true } 0x07 regStore s

/-! ## Flash (R967, R968) -/

/-- The end of the space of a directory entry: the start of the next region, or the end of flash. -/
def State.regionEnd (s : State) (d : DirEntry) : Nat :=
  (s.dir.filter fun e => d.off < e.off).foldl (fun m e => min m e.off) flashLen

/-- The firmware slot that is running: none where the ROM serves the port. -/
def State.runningSlot (s : State) : Option Nat := if s.boot.rom then none else some (1 + s.fget Reg.sysBootStat 16 16)

/-- What FLASH_BEGIN does (R958, R967, R968). -/
def flashStart (p : List Byte) (s : State) : Reply :=
  let ty := leAt p 0 1
  let len := leAt p 1 4
  if ty == 5 || ty == 6 || s.runningSlot == some ty || (s.boot.rom && ty != 1 && ty != 2) then refuse stBadState s
  else match if ty == 0 then none else s.dirType? ty with
    | none => refuse stBadArg s
    | some d =>
      if len == 0 || decide (s.regionEnd d < d.off + len) then refuse stBadArg s
      else { st := { s with sport := { s.sport with flash := some ⟨ty, d.idx, len⟩ } }, flash := s.setValid d.idx 0 }

/-- FLASH_BEGIN (R967, R968). -/
def execFlashBegin (s : State) : Host.Outcome State Fault Refusal := serve {} 0x10 (fun p => sized 5 (flashStart p) p) s

/-- The directory entry of a flashing session. -/
def State.sessionEntry? (s : State) (f : FlashSession) : Option DirEntry := s.dir.find? fun d => d.idx == f.slot

/-- What FLASH_DATA does: the bytes are programmed at an offset of the region. -/
def flashBytes (p : List Byte) (s : State) : Reply :=
  let o := leAt p 0 4
  let bs := p.drop 4
  match s.sport.flash with
  | none => refuse stBadState s
  | some f =>
    if bs.isEmpty then refuse stBadLen s
    else match s.sessionEntry? f with
      | none => refuse stFlash s
      | some d => if f.len < o + bs.length then refuse stBadArg s else { st := s, flash := [(d.off + o, bs)] }

/-- FLASH_DATA (R965). -/
def execFlashData (s : State) : Host.Outcome State Fault Refusal := serve {} 0x11 flashBytes s

/-- The status of a written image under R945, R947 or R109. -/
def State.imageStatus (s : State) (ty : Nat) (bs : List Byte) : Nat :=
  if ty == 1 || ty == 2 then s.firmwareStatus bs
  else if ty == 3 then s.appStatus bs
  else match walkBlocks bs bs.length 17 0 0 with
    | .ok bl => if !bl.isEmpty && bl.all fun b => signatureOk bs b then stOk else stBadSignature
    | .error _ => stBadSignature

/-- The flash writes that set LENGTH and VALID of an entry, with the directory's CRC (R943, R967). -/
def State.setImage (s : State) (i len : Nat) : Writes :=
  let put := fun (bs : List Byte) (o : Nat) (x : List Byte) => bs.take o ++ x ++ bs.drop (o + x.length)
  let bs := put (put (s.flashAt 0 252) (dirAt i + 1) [1]) (dirAt i + 8) (leBytes 4 len)
  [(0, bs ++ leBytes 4 (Crypto.crc32c bs))]

/-- What FLASH_END does (R967): the session ends, and an image that verifies becomes valid. -/
def flashStop (s : State) : Reply :=
  match s.sport.flash with
  | none => refuse stBadState s
  | some f =>
    let s : State := { s with sport := { s.sport with flash := none } }
    match s.sessionEntry? f with
    | none => refuse stFlash s
    | some d =>
      let st := s.imageStatus f.type (s.flashAt d.off f.len)
      { st := s, status := st, flash := if st == stOk then s.setImage d.idx f.len else [] }

/-- FLASH_END (R967). -/
def execFlashEnd (s : State) : Host.Outcome State Fault Refusal := serve {} 0x12 (sized 0 flashStop) s

/-! ## Signed commands (R969, R970) -/

/-- The status of a command signed with integrator slot `slot`: `p` holds the public key, r and s from byte 2, and `msg` is what
is signed. -/
def State.signedBy (s : State) (slot : Nat) (p msg : List Byte) : Nat :=
  let num := fun (k : Nat) => beN (slice p (2 + 32 * k) 32)
  if keyDigest (slice p 2 64) != s.otp.keys.getD slot 0 then stBadSignature
  else if s.otp.revoked.getD slot true then stRevoked
  else if Crypto.ecdsaOk (num 0) (num 1) (num 2) (num 3) (Crypto.sha256 msg) then stOk
  else stBadSignature

/-- What APPROVE_ROW does (R210, R969). -/
def approveRow (p : List Byte) (s : State) : Reply :=
  let row := leAt p 0 1
  let slot := leAt p 1 1
  let msg := [0x48, 0x44, 0x52, 0x41] ++ leBytes 8 s.otp.serial ++ leBytes 1 row ++ leBytes 4 s.fmap.seq.toNat
  if 8 ≤ row || 4 ≤ slot then refuse stBadArg s
  else
    let st := s.signedBy slot p msg
    if st != stOk then refuse st s
    else { st := fieldEntry 1 row 0 s,
           status := if s.fmap.entries.length + s.fmap.writing.length < 64 then stOk else stFlash }

/-- APPROVE_ROW (R210, R969). -/
def execApproveRow (s : State) : Host.Outcome State Fault Refusal := serve {} 0x20 (fun p => sized 130 (approveRow p) p) s

/-- What REVOKE_SLOT does (R970). -/
def revokeSlot (p : List Byte) (s : State) : Reply :=
  let slot := leAt p 0 1
  let by_ := leAt p 1 1
  let msg := [0x48, 0x52, 0x56, 0x4B] ++ leBytes 8 s.otp.serial ++ leBytes 1 slot
  let after := s.otp.revoked.set slot true
  if 4 ≤ slot || 4 ≤ by_ || slot == by_ || after.all id then refuse stBadArg s
  else
    let st := s.signedBy by_ p msg
    if st != stOk then refuse st s else { st := { s with otp := { s.otp with revoked := after } } }

/-- REVOKE_SLOT (R970). -/
def execRevokeSlot (s : State) : Host.Outcome State Fault Refusal :=
  serve { otp := true } 0x21 (fun p => sized 130 (revokeSlot p) p) s

/-! ## Reset and hold (R942, R971) -/

/-- What RESET does (R942). -/
def portReset (s : State) : Reply :=
  if s.anyArmed then refuse stArmed s
  else
    let r := resetDevice s
    { st := r.1, flash := r.2 }

/-- RESET (R942). -/
def execReset (s : State) : Host.Outcome State Fault Refusal := serve {} 0x30 (sized 0 portReset) s

/-- BOOT_HOLD (R971). -/
def execBootHold (s : State) : Host.Outcome State Fault Refusal :=
  serve {} 0x31 (sized 0 fun t => { st := { t with boot := { t.boot with hold := true } } }) s

end Sys2Proof.Machine
end

