-- ==== Sys2Proof/Machine/Dispatch.lean ====
section
/-! DEFINITION. Which meaning each command has. -/

namespace Sys2Proof.Machine

/-- The effect of a command on everything but the queue. -/
def exec (i : Instr) (s : State) : Host.Outcome State Fault Refusal :=
  match i with
  | .registerWrite ini addr val => Sys2Proof.Machine.execRegisterWrite ini addr val s
  | .counterClr ini addr => Sys2Proof.Machine.execCounterClr ini addr s
  | .commitGo ini addr => Sys2Proof.Machine.execCommitGo ini addr s
  | .wideLowRead ini addr => Sys2Proof.Machine.execWideLowRead ini addr s
  | .mileEntryRead ini e => Sys2Proof.Machine.execMileEntryRead ini e s
  | .faultEntryRead ini ix => Sys2Proof.Machine.execFaultEntryRead ini ix s
  | .ptpTsLoRead ini port dir => Sys2Proof.Machine.execPtpTsLoRead ini port dir s
  | .ptpTsIdRead ini port dir => Sys2Proof.Machine.execPtpTsIdRead ini port dir s
  | .mboxDataHiRead ini n => Sys2Proof.Machine.execMboxDataHiRead ini n s
  | .dropPkt ini n => Sys2Proof.Machine.execDropPkt ini n s
  | .evqHiRead ini t => Sys2Proof.Machine.execEvqHiRead ini t s
  | .evtRouteWrite ini src val => Sys2Proof.Machine.execEvtRouteWrite ini src val s
  | .loadFull ini => Sys2Proof.Machine.execLoadFull ini s
  | .loadStation ini => Sys2Proof.Machine.execLoadStation ini s
  | .abort ini => Sys2Proof.Machine.execAbort ini s
  | .cancelPending ini stn => Sys2Proof.Machine.execCancelPending ini stn s
  | .loadEnd bandFails => Sys2Proof.Machine.execLoadEnd bandFails s
  | .retireCmd ini key tile => Sys2Proof.Machine.execRetireCmd ini key tile s
  | .sparePowered tile => Sys2Proof.Machine.execSparePowered tile s
  | .spareBistEnd tile pass => Sys2Proof.Machine.execSpareBistEnd tile pass s
  | .fmapWriteEnd => Sys2Proof.Machine.execFmapWriteEnd s
  | .trigEnSet ini stn => Sys2Proof.Machine.execTrigEnSet ini stn s
  | .armGrant stn => Sys2Proof.Machine.execArmGrant stn s
  | .trigEnClear ini stn => Sys2Proof.Machine.execTrigEnClear ini stn s
  | .cancelAll ini stn => Sys2Proof.Machine.execCancelAll ini stn s
  | .stopClr ini stn => Sys2Proof.Machine.execStopClr ini stn s
  | .stopSet ini stn => Sys2Proof.Machine.execStopSet ini stn s
  | .arm ini ch => Sys2Proof.Machine.execArm ini ch s
  | .rearm ini ch => Sys2Proof.Machine.execRearm ini ch s
  | .grpRearm ini g => Sys2Proof.Machine.execGrpRearm ini g s
  | .cntClr ini ch => Sys2Proof.Machine.execCntClr ini ch s
  | .on ini ch lvl => Sys2Proof.Machine.execOn ini ch lvl s
  | .fioTest ini ch us => Sys2Proof.Machine.execFioTest ini ch us s
  | .captureGo ini cam => Sys2Proof.Machine.execCaptureGo ini cam s
  | .captureDone => Sys2Proof.Machine.execCaptureDone s
  | .replayGo ini stn => Sys2Proof.Machine.execReplayGo ini stn s
  | .dispRd ini ctx idx => Sys2Proof.Machine.execDispRd ini ctx idx s
  | .codeRd ini ctx idx => Sys2Proof.Machine.execCodeRd ini ctx idx s
  | .tbIncr ini val => Sys2Proof.Machine.execTbIncr ini val s
  | .tbStep ini val => Sys2Proof.Machine.execTbStep ini val s
  | .incrTimeCorr old => Sys2Proof.Machine.execIncrTimeCorr old s
  | .stepTimeCorr step => Sys2Proof.Machine.execStepTimeCorr step s
  | .tbWrap => Sys2Proof.Machine.execTbWrap s
  | .sync ini => Sys2Proof.Machine.execSync ini s
  | .mirrorInterval => Sys2Proof.Machine.execMirrorInterval s
  | .mirrorWriteEnd ok => Sys2Proof.Machine.execMirrorWriteEnd ok s
  | .calSet ini => Sys2Proof.Machine.execCalSet ini s
  | .calendarSecond => Sys2Proof.Machine.execCalendarSecond s
  | .powerOnHour => Sys2Proof.Machine.execPowerOnHour s
  | .appStart ini cores => Sys2Proof.Machine.execAppStart ini cores s
  | .resetCmdWrite ini key => Sys2Proof.Machine.execResetCmdWrite ini key s
  | .wdogKick ini key core => Sys2Proof.Machine.execWdogKick ini key core s
  | .mtimecmpWrite ini c val => Sys2Proof.Machine.execMtimecmpWrite ini c val s
  | .sportDataWrite ini b => Sys2Proof.Machine.execSportDataWrite ini b s
  | .sportDataRead ini => Sys2Proof.Machine.execSportDataRead ini s
  | .uartDataRead ini u => Sys2Proof.Machine.execUartDataRead ini u s
  | .uartDataWrite ini u b => Sys2Proof.Machine.execUartDataWrite ini u b s
  | .uartRxByte u b err => Sys2Proof.Machine.execUartRxByte u b err s
  | .uartTxByte u => Sys2Proof.Machine.execUartTxByte u s
  | .start ini ix => Sys2Proof.Machine.execStart ini ix s
  | .write ini ix b => Sys2Proof.Machine.execWrite ini ix b s
  | .readAck ini ix => Sys2Proof.Machine.execReadAck ini ix s
  | .readNack ini ix => Sys2Proof.Machine.execReadNack ini ix s
  | .stop ini ix => Sys2Proof.Machine.execStop ini ix s
  | .i2cRxRead ini ix => Sys2Proof.Machine.execI2cRxRead ini ix s
  | .i2cCmdDone ix rx nack => Sys2Proof.Machine.execI2cCmdDone ix rx nack s
  | .gpioEdge pin lvl => Sys2Proof.Machine.execGpioEdge pin lvl s
  | .stewardFrame t bytes => Sys2Proof.Machine.execStewardFrame t bytes s
  | .uartGapTimeout => Sys2Proof.Machine.execUartGapTimeout s
  | .sptCsRise => Sys2Proof.Machine.execSptCsRise s
  | .getInfo => Sys2Proof.Machine.execGetInfo s
  | .getMuster => Sys2Proof.Machine.execGetMuster s
  | .getDefectMap => Sys2Proof.Machine.execGetDefectMap s
  | .getFaultLog => Sys2Proof.Machine.execGetFaultLog s
  | .getLogbook => Sys2Proof.Machine.execGetLogbook s
  | .readReg => Sys2Proof.Machine.execReadReg s
  | .writeReg => Sys2Proof.Machine.execWriteReg s
  | .flashBegin => Sys2Proof.Machine.execFlashBegin s
  | .flashData => Sys2Proof.Machine.execFlashData s
  | .flashEnd => Sys2Proof.Machine.execFlashEnd s
  | .approveRow => Sys2Proof.Machine.execApproveRow s
  | .revokeSlot => Sys2Proof.Machine.execRevokeSlot s
  | .reset => Sys2Proof.Machine.execReset s
  | .bootHold => Sys2Proof.Machine.execBootHold s
  | .sysRstNLow ns => Sys2Proof.Machine.execSysRstNLow ns s
  | .sysRstNRise => Sys2Proof.Machine.execSysRstNRise s
  | .musterPhaseEnd fail unit index marks => Sys2Proof.Machine.execMusterPhaseEnd fail unit index marks s
  | .handoff => Sys2Proof.Machine.execHandoff s
  | .mainPowerLoss => Sys2Proof.Machine.execMainPowerLoss s
  | .vbatLow => Sys2Proof.Machine.execVbatLow s
  | .fioUv supply => Sys2Proof.Machine.execFioUv supply s
  | .v24BLoss => Sys2Proof.Machine.execV24BLoss s
  | .refclkLoss => Sys2Proof.Machine.execRefclkLoss s
  | .refclkSwitch => Sys2Proof.Machine.execRefclkSwitch s
  | .refclkRecover ref => Sys2Proof.Machine.execRefclkRecover ref s
  | .refclkReturn => Sys2Proof.Machine.execRefclkReturn s
  | .lrefLoss side => Sys2Proof.Machine.execLrefLoss side s
  | .lrefReturn side => Sys2Proof.Machine.execLrefReturn side s
  | .nodeFail node => Sys2Proof.Machine.execNodeFail node s
  | .throttle b sensor temp => Sys2Proof.Machine.execThrottle b sensor temp s
  | .thermalLimitRise b => Sys2Proof.Machine.execThermalLimitRise b s
  | .thermalMax sensor temp => Sys2Proof.Machine.execThermalMax sensor temp s
  | .thermTrip sensor temp => Sys2Proof.Machine.execThermTrip sensor temp s
  | .thermalCycle temp => Sys2Proof.Machine.execThermalCycle temp s
  | .powerMeasure mw => Sys2Proof.Machine.execPowerMeasure mw s
  | .placementWindow busy bw => Sys2Proof.Machine.execPlacementWindow busy bw s
  | .opRampEnd island => Sys2Proof.Machine.execOpRampEnd island s
  | .avsStep island slack => Sys2Proof.Machine.execAvsStep island slack s
  | .avsLimit island => Sys2Proof.Machine.execAvsLimit island s
  | .domainOff d => Sys2Proof.Machine.execDomainOff d s
  | .domainOn d => Sys2Proof.Machine.execDomainOn d s
  | .odoInputAccept ch a b z bNew => Sys2Proof.Machine.execOdoInputAccept ch a b z bNew s
  | .losSet ch => Sys2Proof.Machine.execLosSet ch s
  | .losClear ch => Sys2Proof.Machine.execLosClear ch s
  | .periodStall ch => Sys2Proof.Machine.execPeriodStall ch s
  | .speedWindow stn => Sys2Proof.Machine.execSpeedWindow stn s
  | .refReturn stn => Sys2Proof.Machine.execRefReturn stn s
  | .synthTick stn ns => Sys2Proof.Machine.execSynthTick stn ns s
  | .synthMaxExpiry stn => Sys2Proof.Machine.execSynthMaxExpiry stn s
  | .lineTrigDelayed cam => Sys2Proof.Machine.execLineTrigDelayed cam s
  | .fireAtResend e => Sys2Proof.Machine.execFireAtResend e s
  | .stallCancel stn => Sys2Proof.Machine.execStallCancel stn s
  | .fioInputAccept ch lvl back backNs => Sys2Proof.Machine.execFioInputAccept ch lvl back backNs s
  | .freqGateEnd ch => Sys2Proof.Machine.execFreqGateEnd ch s
  | .freqTimeout ch => Sys2Proof.Machine.execFreqTimeout ch s
  | .peakEnd ch => Sys2Proof.Machine.execPeakEnd ch s
  | .pulseEnd ch => Sys2Proof.Machine.execPulseEnd ch s
  | .onCheck ch high => Sys2Proof.Machine.execOnCheck ch high s
  | .offCheck ch high => Sys2Proof.Machine.execOffCheck ch high s
  | .mergedPulseFree e => Sys2Proof.Machine.execMergedPulseFree e s
  | .fioOpen ch => Sys2Proof.Machine.execFioOpen ch s
  | .ocTrip ch => Sys2Proof.Machine.execOcTrip ch s
  | .therm ch => Sys2Proof.Machine.execTherm ch s
  | .grpOc g => Sys2Proof.Machine.execGrpOc g s
  | .dieLinkTimeout => Sys2Proof.Machine.execDieLinkTimeout s
  | .lineData cam bale line plane offset last px => Sys2Proof.Machine.execLineData cam bale line plane offset last px s
  | .lineMissing cam bale line => Sys2Proof.Machine.execLineMissing cam bale line s
  | .ispPassStart => Sys2Proof.Machine.execIspPassStart s
  | .ispPassEnd ctx err => Sys2Proof.Machine.execIspPassEnd ctx err s
  | .jobDispatch stn bad => Sys2Proof.Machine.execJobDispatch stn bad s
  | .pageFetchEnd tile page bale err => Sys2Proof.Machine.execPageFetchEnd tile page bale err s
  | .layerStart bale layer tile waited => Sys2Proof.Machine.execLayerStart bale layer tile waited s
  | .layerEnd bale layer fault tile orders => Sys2Proof.Machine.execLayerEnd bale layer fault tile orders s
  | .stripeJobEnd bale => Sys2Proof.Machine.execStripeJobEnd bale s
  | .tileScrubEnd tile => Sys2Proof.Machine.execTileScrubEnd tile s
  | .treePassStart => Sys2Proof.Machine.execTreePassStart s
  | .treePassEnd err => Sys2Proof.Machine.execTreePassEnd err s
  | .verdictDone bale flip => Sys2Proof.Machine.execVerdictDone bale flip s
  | .decodeToken stn dec => Sys2Proof.Machine.execDecodeToken stn dec s
  | .cvHello link group count index det digest => Sys2Proof.Machine.execCvHello link group count index det digest s
  | .cvData link group member absent tag base vals => Sys2Proof.Machine.execCvData link group member absent tag base vals s
  | .convoyTimeout group bale => Sys2Proof.Machine.execConvoyTimeout group bale s
  | .fireReport link addr time rch result cmdId bale => Sys2Proof.Machine.execFireReport link addr time rch result cmdId bale s
  | .reportTimeout e => Sys2Proof.Machine.execReportTimeout e s
  | .remoteFree e => Sys2Proof.Machine.execRemoteFree e s
  | .comparatorDisagree e => Sys2Proof.Machine.execComparatorDisagree e s
  | .khanFault => Sys2Proof.Machine.execKhanFault s
  | .khanRebuildEnd => Sys2Proof.Machine.execKhanRebuildEnd s
  | .droverWatchdog d bales => Sys2Proof.Machine.execDroverWatchdog d bales s
  | .stewardRollback => Sys2Proof.Machine.execStewardRollback s
  | .appWdog c => Sys2Proof.Machine.execAppWdog c s
  | .busErr ini addr wr => Sys2Proof.Machine.execBusErr ini addr wr s
  | .coreBlockedWrite core addr data => Sys2Proof.Machine.execCoreBlockedWrite core addr data s
  | .train lane request status locked => Sys2Proof.Machine.execTrain lane request status locked s
  | .backChannelRequest lane request => Sys2Proof.Machine.execBackChannelRequest lane request s
  | .laneTrainFail lane => Sys2Proof.Machine.execLaneTrainFail lane s
  | .trainRetry lane => Sys2Proof.Machine.execTrainRetry lane s
  | .laneLockLoss lane => Sys2Proof.Machine.execLaneLockLoss lane s
  | .skipSend lane => Sys2Proof.Machine.execSkipSend lane s
  | .skipReceive lane => Sys2Proof.Machine.execSkipReceive lane s
  | .ebSlip lane full => Sys2Proof.Machine.execEbSlip lane full s
  | .badControlBlock lane => Sys2Proof.Machine.execBadControlBlock lane s
  | .packetReceive link express words => Sys2Proof.Machine.execPacketReceive link express words s
  | .nakRepeat link express => Sys2Proof.Machine.execNakRepeat link express s
  | .ack link express seq => Sys2Proof.Machine.execAck link express seq s
  | .nak link express seq => Sys2Proof.Machine.execNak link express seq s
  | .replayTimeout link express => Sys2Proof.Machine.execReplayTimeout link express s
  | .credit link vc grant => Sys2Proof.Machine.execCredit link vc grant s
  | .creditRefresh link => Sys2Proof.Machine.execCreditRefresh link s
  | .announce link addr serial cls version => Sys2Proof.Machine.execAnnounce link addr serial cls version s
  | .timeReq link => Sys2Proof.Machine.execTimeReq link s
  | .timeResp link addr tag t2 t3 => Sys2Proof.Machine.execTimeResp link addr tag t2 t3 s
  | .strayedRetry link addr => Sys2Proof.Machine.execStrayedRetry link addr s
  | .power link addr target => Sys2Proof.Machine.execPower link addr target s
  | .powerResp link addr result => Sys2Proof.Machine.execPowerResp link addr result s
  | .segmentWake link addr => Sys2Proof.Machine.execSegmentWake link addr s
  | .linkAligned link => Sys2Proof.Machine.execLinkAligned link s
  | .event link addr code chan => Sys2Proof.Machine.execEvent link addr code chan s
  | .resp link addr tag status data => Sys2Proof.Machine.execResp link addr tag status data s
  | .ioReport link addr time value => Sys2Proof.Machine.execIoReport link addr time value s
  | .ptpEventMessage port dir msgType domain seq udp => Sys2Proof.Machine.execPtpEventMessage port dir msgType domain seq udp s
  | .machineTimerInterrupt c => Sys2Proof.Machine.execMachineTimerInterrupt c s
  | .errorRateWindowEnd ch => Sys2Proof.Machine.execErrorRateWindowEnd ch s
  | .dieLinkReturn => Sys2Proof.Machine.execDieLinkReturn s
  | .v24Return supply => Sys2Proof.Machine.execV24Return supply s
  | .mainPowerReturn => Sys2Proof.Machine.execMainPowerReturn s
  | .boundaryScanInstruction scan => Sys2Proof.Machine.execBoundaryScanInstruction scan s
  | .laneEyeUpdate lane height width => Sys2Proof.Machine.execLaneEyeUpdate lane height width s
  | .prbsBitError lane => Sys2Proof.Machine.execPrbsBitError lane s

end Sys2Proof.Machine
end

