-- ==== Sys2Proof/Safety.lean ====
section
/-! DEFINITION. What counts as a safe state and a safe step of the device, in the terms that the statements use. -/

namespace Sys2Proof.Machine

/-- The three byte memories are in their canonical form. -/
def State.memOk (s : State) : Bool :=
  Memory.wf dramByte s.dram && Memory.wf flashByte s.flash && Memory.wf sramByte s.sram

/-- OTP `b` is a later state of OTP `a`: revoke bits may have been set (R970), nothing else has changed. -/
def Otp.later (a b : Otp) : Prop :=
  (∃ r : List Bool, b = { a with revoked := r }) ∧ ∀ k : Nat, a.revoked.getD k false = true → b.revoked.getD k false = true

/-- Registers outside the addresses `A` and outside the event registers hold in `g` what they held in `f`. -/
def RegFile.kept (A : List Nat) (f g : RegFile) : Prop :=
  ∀ b, b ∉ A → (∀ i < 16, b ≠ Reg.sysEvtPend i) → (∀ k < 13, b ≠ Reg.sysEvqDrops k) → g.get b = f.get b

/-- The registers of the fault log (R927 to R929). -/
def faultRegs : List Nat :=
  [Reg.faultHead, Reg.faultCount, Reg.faultOverwrite] ++
    (List.range 64).flatMap fun i => [Reg.faultLogW0 i, Reg.faultLogW1 i, Reg.faultLogW2 i, Reg.faultLogW3 i]

/-- What of the lanes' state is not the traffic of the last command: the Ethernet ports' own state. -/
def Phy.still (a b : Phy) : Phy := { a with pcs := b.pcs }

/-- `t` differs from `s` in nothing but the registers `A`, the event registers and queues (R87), and what the command sent: packets,
messages, and the blocks that they take on the lanes. A statement that lets another field change puts it back first. -/
def State.onlyRegs (A : List Nat) (s t : State) : Prop :=
  { t with regs := s.regs, evq := s.evq, out := s.out, phy := s.phy.still t.phy } = s ∧ RegFile.kept A s.regs t.regs

/-- `t` differs from `s` in nothing but what the last command sent. -/
def State.unchanged (s t : State) : Prop := { t with out := s.out, phy := s.phy.still t.phy } = s

/-- Every list of numbered units has an element for each unit that the device has. -/
def State.sized (s : State) : Bool :=
  s.stations.length == 16 && s.tiles.length == 72 && s.odo.length == 16 && s.refs.length == 16 && s.fio.length == 32 &&
    s.grpTrip.length == 4 && s.cams.length == 32 && s.lanes.length == 24 && s.links.length == 16 && s.groups.length == 32 &&
    s.mbox.length == 16 && s.evq.length == 13 && s.snaps.length == 15 && s.ptp.length == 4 && s.cores.length == 4 &&
    s.uart.length == 2 && s.i2c.length == 2 && s.gpio.length == 16 && s.lref.length == 2 && s.sport.rx.length == 4 &&
    s.sport.tx.length == 4

/-- Declared endpoints have the numbers of a ring address, each pair once (R159, R560). -/
def State.epsOk (s : State) : Bool :=
  decide (s.eps.map fun e => (e.link, e.addr)).Nodup && s.eps.all fun e => decide (e.link < 16) && decide (e.addr < 64)

/-- The registers that count what the links' replay buffers hold. -/
def linkStatRegs : List Nat := (List.range 16).map Reg.slinkStat

/-- The milestone entry keeps its station armed: ARMED or DECIDED (R50). -/
def Mile.live (m : Mile) : Bool := m.st == 1 || m.st == 2

/-- The declared STOP_LINE channels (R699). -/
def State.stopChannels (s : State) : List Nat :=
  (((s.dev.map DevBlock.fields).getD []).filter fun f => f.func == 0x12).map FioDecl.ch

/-- Valve cycles of a channel (R698). -/
def State.valveCycles (s : State) (ch : Nat) : Nat := (s.reg (Reg.logFioLo ch)).toNat + s.fget (Reg.logFioHi ch) 7 0 * 2 ^ 32

/-- The registers that count valve cycles, and the overflow bits of the logbook (R698, R985). -/
def cycleRegs : List Nat := Reg.logOvf :: (List.range 32).flatMap fun ch => [Reg.logFioLo ch, Reg.logFioHi ch]

/-- Event source `src` is pending (R87). -/
def State.pendingEvent (s : State) (src : Nat) : Bool := s.flag (Reg.sysEvtPend (src / 32)) (src % 32)

/-- The fault log of `t` holds one more entry than that of `s`, at FAULT.HEAD: ACTION, the station or scope DEVICE, CODE, UNIT,
INDEX and BALE (R927, R928). -/
def State.faultAdded (s t : State) (action : Nat) (stn : Option Nat) (code unit index bale : Nat) : Prop :=
  let i := s.fget Reg.faultHead 5 0
  t.reg (Reg.faultLogW0 i) = s.tbNs ∧ t.fget (Reg.faultLogW1 i) 31 29 = action ∧ t.flag (Reg.faultLogW1 i) 28 = stn.isNone ∧
    t.fget (Reg.faultLogW1 i) 27 24 = stn.getD 0 % 16 ∧ t.fget (Reg.faultLogW1 i) 23 16 = code ∧
    t.fget (Reg.faultLogW2 i) 7 0 = unit ∧ t.fget (Reg.faultLogW2 i) 15 8 = index ∧
    (t.reg (Reg.faultLogW3 i)).toNat = bale % 2 ^ 32 ∧ t.fget Reg.faultHead 5 0 = (i + 1) % 64 ∧ t.pendingEvent 454 = true

/-- The byte at an address of DRAM, of flash and of tile SRAM. -/
def State.dramByteAt (s : State) (a : Nat) : Byte := Memory.read dramByte s.dram a
/-- The byte at an offset of boot flash. -/
def State.flashByteAt (s : State) (a : Nat) : Byte := Memory.read flashByte s.flash a
/-- The byte at an offset of the tile SRAM window. -/
def State.sramByteAt (s : State) (a : Nat) : Byte := Memory.read sramByte s.sram a

/-- `t` has the memories of `s`, byte for byte, the same OTP and the same timebase. -/
def State.storesNothing (s t : State) : Prop :=
  (∀ a, t.dramByteAt a = s.dramByteAt a) ∧ (∀ a, t.flashByteAt a = s.flashByteAt a) ∧
    (∀ a, t.sramByteAt a = s.sramByteAt a) ∧ t.otp = s.otp ∧ t.tb = s.tb

/-- The device is in the waystation state for a cause, and nothing works or drives an output (R949, R954, R955). -/
def State.stopped (cause unit index : Nat) (t : State) : Prop :=
  t.inWay = true ∧ t.fget Reg.sysWayCause 7 0 = cause ∧ t.fget Reg.sysWayCause 15 8 = unit % 256 ∧
    t.fget Reg.sysWayCause 23 16 = index % 256 ∧ t.boot.phase = none ∧ t.bales = [] ∧ t.miles = [] ∧ t.anyArmed = false ∧
    ∀ ch, t.driven ch = false

/-- Muster starts from M0 with everything outside PD_AON reset (R941, R942). -/
def State.mustering (t : State) : Prop :=
  t.boot.phase = some 0 ∧ t.inWay = false ∧ t.running = false ∧ t.fget Reg.sysBootStat 27 24 = 0 ∧ t.dev = none ∧ t.blocks = [] ∧
    t.bales = [] ∧ t.miles = [] ∧ t.anyArmed = false ∧ t.fieldSafe = true ∧ ∀ ch, t.driven ch = false

/-! ## The steward port -/

/-- The code of a command of the steward port (R965). -/
def portCode : Instr → Option Nat
  | .getInfo => some 0x01 | .getMuster => some 0x02 | .getDefectMap => some 0x03 | .getFaultLog => some 0x04
  | .getLogbook => some 0x05 | .readReg => some 0x06 | .writeReg => some 0x07 | .flashBegin => some 0x10
  | .flashData => some 0x11 | .flashEnd => some 0x12 | .approveRow => some 0x20 | .revokeSlot => some 0x21
  | .reset => some 0x30 | .bootHold => some 0x31
  | _ => none

/-- The request is over, and its answer has gone out on its transport and is kept (R960, R973). -/
def State.answered (q : Request) (status : Nat) (payload : List Byte) (t : State) : Prop :=
  let f := frame q.seq (q.cmd ||| 0x80) status payload
  t.sport.running = none ∧ t.sport.last = some (q.seq, q.cmd, f) ∧
    (q.t < 3 → (q.t, portType, 0, f.map BitVec.toNat) ∈ t.out) ∧ (q.t = 3 → ∃ old, t.sport.tx.getD 3 [] = old ++ f)

/-- `t` differs from `s` in nothing but the request, the answer kept and the bytes that wait to be read or were sent. -/
def State.portOnly (s t : State) : Prop :=
  { t with
    out := s.out
    phy := s.phy.still t.phy
    sport := { t.sport with running := s.sport.running, last := s.sport.last, tx := s.sport.tx } } = s

/-! ## What a command may write

The manual's commands that reach memory, OTP and the timebase. Each list names every command that has a path to what it
lists; on other operands it may well write nothing. -/

/-- Commands that may write DRAM: stores, lines that the intake writes, the passes' outputs, spills, decoder memory, loads, and the
handoff. -/
def writesDram : Instr → Bool
  | .registerWrite .. | .counterClr .. | .commitGo .. | .on .. | .fioTest .. | .coreBlockedWrite .. | .loadEnd .. | .handoff
  | .lineData .. | .ispPassEnd .. | .layerEnd .. | .stripeJobEnd .. | .writeReg => true
  | _ => false

/-- Commands that may write flash: the field map, the logbook's mirror, the steward's flash commands, and resets. -/
def writesFlash : Instr → Bool
  | .registerWrite .. | .counterClr .. | .commitGo .. | .on .. | .fioTest .. | .coreBlockedWrite .. | .fmapWriteEnd
  | .mirrorWriteEnd .. | .resetCmdWrite .. | .writeReg | .flashBegin | .flashData | .flashEnd | .reset | .sysRstNLow ..
  | .mainPowerLoss => true
  | _ => false

/-- Commands that may write tile SRAM: page fetches, the carried rows at the end of a stripe job, and the scrub. -/
def writesSram : Instr → Bool
  | .pageFetchEnd .. | .stripeJobEnd .. | .tileScrubEnd .. => true
  | _ => false

/-- The one command that may write OTP (R970). -/
def writesOtp : Instr → Bool
  | .revokeSlot => true
  | _ => false

/-- Commands that may move the timebase: register writes that may be TIME.TB_STEP, its rollover, resets and main power. -/
def movesTime : Instr → Bool
  | .registerWrite .. | .counterClr .. | .commitGo .. | .on .. | .fioTest .. | .coreBlockedWrite .. | .writeReg | .tbStep ..
  | .tbWrap | .sysRstNLow .. | .mainPowerLoss | .mainPowerReturn => true
  | _ => false

/-- Neither the state nor anything that hangs on it drives an output of the field die in the safe state, or one that is
tripped (R710, R711, R713). -/
def State.outputsSafe (s : State) : Prop :=
  ∀ ch < 32, s.driven ch = true → s.fieldSafe = false ∧ (s.fioCh ch).trip = false ∧ s.grpTrip.getD (ch / 8) false = false

end Sys2Proof.Machine
end

