-- ==== Sys2Proof/Certificates/Slice0/Obligations.lean ====
section
/-! DEFINITION. The statements about the model. Each names the commands that it covers, says that they complete and what
they leave, and what they leave alone. -/

open Sys2Proof Sys2Proof.Machine

/-- For every command c and state s, step of s with c put at the front of its queue is exec of c on s with the queue's
rest; and no word of the opcode table spells a command, because the table gives its rows no bits, so withFetchWord
leaves the state as it is (log entry 9). (95_what_each_step_holds.md, 00_scope.md.) -/
def Obligations.StepRunsFrontCommand : Prop :=
  (∀ (c : Instr) (s : State), step { s with pending := c :: s.pending } = exec c s) ∧
  (∀ (s : State) (c : Instr) (rest : List Instr), s.pending = c :: rest → step s = exec c { s with pending := rest }) ∧
  (∀ (s : State) (nbits w : Nat), decodeTableWord nbits w = none ∧ s.withFetchWord nbits w = s)

/-- On an empty queue (the model's choice of log entry 1) a step is one tick of R826: LT with its 24 fractional bits
grows by the increment in force modulo 2^72, the next tick takes TIME.TB_INCR, the time CSR counts one tick, TB_WRAP
(event 451) is raised when LT_HI changes and nothing but the event machinery changes beside the timebase; when LT_HI
does not change no register changes. (18_timebase.md.) -/
def Obligations.EmptyQueueTicksTimebase : Prop :=
  ∀ s : State, s.pending = [] → ∃ t, step s = .next t ∧
    t.tb.lt.toNat * 2 ^ 24 + t.tb.frac.toNat = (s.tb.lt.toNat * 2 ^ 24 + s.tb.frac.toNat + s.tb.incr.toNat) % 2 ^ 72 ∧
    t.tb.incr = s.reg Reg.timeTbIncr ∧ t.tb.cycles = s.tb.cycles + 1 ∧
    (t.tb.lt.toNat / 2 ^ 32 = s.tb.lt.toNat / 2 ^ 32 → t.regs = s.regs ∧ t.evq = s.evq) ∧
    (t.tb.lt.toNat / 2 ^ 32 ≠ s.tb.lt.toNat / 2 ^ 32 → t.pendingEvent 451 = true) ∧
    State.onlyRegs [] s { t with tb := s.tb }

/-- Right after reset the queue is empty, every register holds the reset word of its table, LT is 0 and the increment is
4 ns, no event is queued and no mailbox holds a packet, no station is armed and no milestone is live, the field die is
in the safe state and no output is driven, no device block is active, every list of units has its size, and the three
memories list nothing in their canonical form. The contents of the memories are the model's choice of log entry 3.
(00_scope.md, 14_field_io.md, 18_timebase.md, 21_muster_and_waystation.md.) -/
def Obligations.ResetLeavesTheStatedValues : Prop :=
  State.reset.pending = [] ∧ (∀ a, State.reset.reg a = BitVec.ofNat 32 (regReset a)) ∧
    State.reset.tb.lt = 0 ∧ State.reset.tb.incr = 0x04000000 ∧ State.reset.reg Reg.timeTbIncr = 0x04000000 ∧
    (∀ t < 13, State.reset.evq.getD t [] = []) ∧ (∀ n < 16, (State.reset.mbox.getD n ⟨[], 0⟩).pkts = []) ∧
    State.reset.anyArmed = false ∧ (∀ e, State.reset.mile? e = none) ∧ State.reset.fieldSafe = true ∧
    (∀ ch, State.reset.driven ch = false) ∧ State.reset.dev = none ∧ State.reset.blocks = [] ∧
    State.reset.memOk = true ∧ State.reset.sized = true ∧ State.reset.dram = [] ∧ State.reset.flash = [] ∧ State.reset.sram = []

/-- For every command and every state exec answers a next state, never a fault or a refusal, and the commands that wait
are the same before and after it. A command outside the list of those that write DRAM leaves every byte of DRAM; the
same for boot flash and for tile SRAM, each with its own list; only REVOKE_SLOT changes OTP; and a command outside the
list of those that move the timebase leaves LT, its fraction, the increment in force and the time CSR.
(95_what_each_step_holds.md, 16_progress_guarantees.md, 23_control_cores_and_memory_map.md, 22_logbook.md,
21_muster_and_waystation.md.) -/
def Obligations.EveryCommandAnswersAndStoresOnlyWhatItMay : Prop :=
  ∀ (c : Instr) (s : State), ∃ t, exec c s = .next t ∧ t.pending = s.pending ∧
    (writesDram c = false → ∀ a, t.dramByteAt a = s.dramByteAt a) ∧
    (writesFlash c = false → ∀ a, t.flashByteAt a = s.flashByteAt a) ∧
    (writesSram c = false → ∀ a, t.sramByteAt a = s.sramByteAt a) ∧
    (writesOtp c = false → t.otp = s.otp) ∧ (movesTime c = false → t.tb = s.tb)

/-- If DRAM, boot flash and tile SRAM are in their canonical form (addresses strictly rising, no entry equal to what an
unlisted address reads as) and a step answers a next state, they are in canonical form there. Over one step and over any
number of steps from any state, OTP changes in nothing but its revoke bits, and a revoke bit that is set stays set:
revoking is irreversible (R970). (23_control_cores_and_memory_map.md, 21_muster_and_waystation.md.) -/
def Obligations.EveryStepKeepsMemoriesAndOtp : Prop :=
  (∀ s t : State, s.memOk = true → step s = .next t → t.memOk = true) ∧
  (∀ s t : State, step s = .next t → Otp.later s.otp t.otp) ∧
  (∀ s t : State, Relation.ReflTransGen (fun a b => step a = .next b) s t → Otp.later s.otp t.otp)

/-- If every list of numbered units (stations, tiles, odometer channels, references, field channels and groups, cameras,
lanes, links, convoy groups, mailboxes, event queues, snapshots, PTP FIFOs, cores, UARTs, I2C controllers, GPIO pins,
lane references and steward transports) has an element for each unit that the device has, and a step answers a next
state, the same holds there. (00_scope.md, 24_electrical_and_package.md, 23_control_cores_and_memory_map.md.) -/
def Obligations.EveryStepKeepsTheSizes : Prop :=
  ∀ s t : State, s.sized = true → step s = .next t → t.sized = true

/-- Raising event source src below 512, where no full queue's drop counter sets its overflow flag, sets its bit in
SYS.EVT_PEND, appends TB_NS and the source to the queue of each core target of its SYS.EVT_ROUTE mask that holds fewer
than 64 entries, counts one drop in SYS.EVQ_DROPS of each target of the mask whose queue is full, and leaves every other
queue, every other register and all other state (R87 to R89). (02_access_classes_counters_mailboxes.md.) -/
def Obligations.RaisedEventReachesItsTargets : Prop :=
  ∀ (s : State) (src : Nat), src < 512 → s.evq.length = 13 →
    (∀ t < 13, bitAt (s.reg (Reg.sysEvtRoute src)).toNat t = true → 64 ≤ (s.evq.getD t []).length →
      (satWord 24 (s.reg (Reg.sysEvqDrops t)).toNat).2 = false) →
    let u := raise src s
    let hit := fun t => bitAt (s.reg (Reg.sysEvtRoute src)).toNat t
    u.reg (Reg.sysEvtPend (src / 32)) =
        BitVec.ofNat 32 (setBitTo (s.reg (Reg.sysEvtPend (src / 32))).toNat (src % 32) true) ∧
      (∀ t < 13, u.evq.getD t [] =
        if hit t = true ∧ (s.evq.getD t []).length < 64 then s.evq.getD t [] ++ [(s.tbNs, src)] else s.evq.getD t []) ∧
      (∀ t < 13, u.reg (Reg.sysEvqDrops t) =
        if hit t = true ∧ 64 ≤ (s.evq.getD t []).length
        then BitVec.ofNat 32 (satWord 24 (s.reg (Reg.sysEvqDrops t)).toNat).1 else s.reg (Reg.sysEvqDrops t)) ∧
      (∀ b, b ≠ Reg.sysEvtPend (src / 32) → (∀ t < 13, b ≠ Reg.sysEvqDrops t) → u.reg b = s.reg b) ∧
      { u with regs := s.regs, evq := s.evq } = s

/-- MBOX_DATA_HI_READ of mailbox n completes. Where the head packet still has entry e, it returns the high word of e and
removes exactly that entry: the packet's later entries stay in front, and a packet without further entries leaves the
mailbox. Where the mailbox is empty it returns 0, removes nothing and sets MBOX.STAT[n].UNDERRUN. Nothing else changes.
(R83, R85.) -/
def Obligations.MailboxHeadReadRemovesOneEntry : Prop :=
  (∀ (s : State) (ini n : Nat) (e : Dword) (r : List Dword) (ps : List (List Dword)) (q : Word), n < 16 →
    s.mbox.getD n ⟨[], 0⟩ = ⟨(e :: r) :: ps, q⟩ →
    ∃ t, exec (.mboxDataHiRead ini n) s = .next t ∧ t.rdata.toNat = e.toNat / 2 ^ 32 ∧
      t.mbox = s.mbox.set n ⟨if r = [] then ps else r :: ps, q⟩ ∧
      { t with mbox := s.mbox, rdata := s.rdata, out := s.out, phy := s.phy.still t.phy } = s) ∧
  (∀ (s : State) (ini n : Nat), n < 16 → (s.mbox.getD n ⟨[], 0⟩).pkts = [] →
    ∃ t, exec (.mboxDataHiRead ini n) s = .next t ∧ t.rdata = 0 ∧ t.flag (Reg.mboxStat n) 31 = true ∧
      (∀ i < 31, t.flag (Reg.mboxStat n) i = s.flag (Reg.mboxStat n) i) ∧
      State.onlyRegs [Reg.mboxStat n] s { t with rdata := s.rdata })

/-- DROP_PKT of mailbox n, and a register write of a word whose CMD field is 0x1 to MBOX.CMD[n], complete and discard
the entries that remain of the head packet: the packets behind it stay, other mailboxes stay, an empty mailbox stays as
it is without UNDERRUN. A write of any other CMD value completes and changes nothing, and no event is raised. (R86,
R99.) -/
def Obligations.DropPktDiscardsTheHeadPacket : Prop :=
  (∀ (s : State) (ini n : Nat), ∃ t, exec (.dropPkt ini n) s = .next t ∧
    t.mbox = s.mbox.modify n (fun m => { m with pkts := m.pkts.tail }) ∧
    { t with mbox := s.mbox, out := s.out, phy := s.phy.still t.phy } = s) ∧
  (∀ (s : State) (ini n : Nat) (val : Word), n < 16 → s.domOn 0 = true →
    ∃ t, exec (.registerWrite ini (Reg.mboxCmd n) val) s = .next t ∧
      t.mbox = (if val.toNat % 16 = 1 then s.mbox.modify n (fun m => { m with pkts := m.pkts.tail }) else s.mbox) ∧
      { t with mbox := s.mbox, out := s.out, phy := s.phy.still t.phy } = s)

/-- EVQ_HI_READ of queue t completes. Where the queue holds an entry it returns VALID 1 with the entry's source and
removes exactly that entry; where the queue is empty it returns VALID 0 and SOURCE 0, removes nothing and sets no flag,
and SYS.EVQ_LO shows 0. Nothing else changes. (R1086.) -/
def Obligations.EventQueueReadRemovesOneEntry : Prop :=
  (∀ (s : State) (ini t : Nat) (e : Word × Nat) (r : List (Word × Nat)), t < 13 → s.evq.getD t [] = e :: r → e.2 < 512 →
    ∃ u, exec (.evqHiRead ini t) s = .next u ∧ u.rdata.toNat / 2 ^ 31 = 1 ∧ u.rdata.toNat % 2 ^ 31 = e.2 ∧
      u.evq = s.evq.set t r ∧ { u with evq := s.evq, rdata := s.rdata, out := s.out, phy := s.phy.still u.phy } = s) ∧
  (∀ (s : State) (ini t : Nat), t < 13 → s.evq.getD t [] = [] →
    (∃ u, exec (.evqHiRead ini t) s = .next u ∧ u.rdata = 0 ∧ { u with rdata := s.rdata, out := s.out, phy := s.phy.still u.phy } = s) ∧
    s.viewAt 0 (Reg.sysEvqLo t) = 0)

/-- WIDE_LOW_READ of the low word of a wide counter whose domain is on returns what the register shows and latches the
high word; MILE_ENTRY_READ of a live entry returns its bale and latches the words of its deadline, its fire position and
outcome and its control word; FAULT_ENTRY_READ returns word 0 and latches words 1 to 3; PTP_TS_LO_READ of a FIFO with a
head entry returns the low word of its time and latches the other two; PTP_TS_ID_READ returns the latched ID word and
removes the head. Each completes, changes the snapshot of no other initiator, and changes nothing else.
(02_access_classes_counters_mailboxes.md, 15_verdict_and_milestones.md, 20_faults_and_recovery.md, 18_timebase.md.) -/
def Obligations.ReadsLatchForTheReadingInitiator : Prop :=
  (∀ (s : State) (ini a : Nat) (r : RegInfo) (i j : Nat), ini < s.snaps.length → 0x2000000000 ≤ a → a < 0x3000000000 →
    a % 4 = 0 → regAt a = some (r, i, j) → r.base ∈ wideLows → s.domOn (domainOf a) = true →
    ∃ t, exec (.wideLowRead ini a) s = .next t ∧ t.rdata = word (s.viewAt 0 a) ∧
      (t.snap ini).wide = word (s.viewAt 0 (a + 4)) ∧ (∀ k, k ≠ ini → t.snap k = s.snap k) ∧
      { t with rdata := s.rdata, snaps := s.snaps, out := s.out, phy := s.phy.still t.phy } = s) ∧
  (∀ (s : State) (ini e : Nat) (m : Mile), ini < s.snaps.length → e < 4096 → s.domOn domVerdict = true → s.mile? e = some m →
    ∃ t, exec (.mileEntryRead ini e) s = .next t ∧ t.rdata.toNat = m.bale % 2 ^ 32 ∧
      (t.snap ini).mile.map BitVec.toNat =
        [m.pDead % 2 ^ 32, m.pulse % 2 ^ 16 * 2 ^ 16 + m.pDead / 2 ^ 32 % 2 ^ 16, m.pFire.getD 0 % 2 ^ 32,
         m.outcome.getD 0xFF % 256 * 2 ^ 16 + m.pFire.getD 0 / 2 ^ 32 % 2 ^ 16,
         m.stn % 16 * 2 ^ 28 + m.st % 8 * 2 ^ 24 + b2n m.remote * 2 ^ 23 + b2n m.defaulted * 2 ^ 22 + b2n m.late * 2 ^ 21 +
           m.link % 16 * 2 ^ 16 + m.ch % 64 * 2 ^ 8 + m.rch % 256] ∧
      (∀ k, k ≠ ini → t.snap k = s.snap k) ∧ { t with rdata := s.rdata, snaps := s.snaps, out := s.out, phy := s.phy.still t.phy } = s) ∧
  (∀ (s : State) (ini i : Nat), ini < s.snaps.length → i < 64 →
    ∃ t, exec (.faultEntryRead ini i) s = .next t ∧ t.rdata = s.reg (Reg.faultLogW0 i) ∧
      (t.snap ini).fault = [s.reg (Reg.faultLogW1 i), s.reg (Reg.faultLogW2 i), s.reg (Reg.faultLogW3 i)] ∧
      (∀ k, k ≠ ini → t.snap k = s.snap k) ∧ { t with rdata := s.rdata, snaps := s.snaps, out := s.out, phy := s.phy.still t.phy } = s) ∧
  (∀ (s : State) (ini port dir : Nat) (e : PtpEntry) (q : List PtpEntry), ini < s.snaps.length → port < 2 → dir < 2 →
    s.ptpFifo port dir = e :: q →
    ∃ t, exec (.ptpTsLoRead ini port dir) s = .next t ∧ t.rdata.toNat = e.lt.toNat % 2 ^ 32 ∧
      ((t.snap ini).ptp.map BitVec.toNat =
        [e.lt.toNat / 2 ^ 32, e.seq % 2 ^ 16 * 2 ^ 16 + e.domain % 256 * 2 ^ 8 + e.msg % 16]) ∧
      (∀ k, k ≠ ini → t.snap k = s.snap k) ∧ { t with rdata := s.rdata, snaps := s.snaps, out := s.out, phy := s.phy.still t.phy } = s) ∧
  (∀ (s : State) (ini port dir : Nat), port < 2 → dir < 2 →
    ∃ t, exec (.ptpTsIdRead ini port dir) s = .next t ∧ t.rdata = (s.snap ini).ptp.getD 1 0 ∧
      t.ptp = s.ptp.modify (2 * port + dir) List.tail ∧ { t with rdata := s.rdata, ptp := s.ptp, out := s.out, phy := s.phy.still t.phy } = s)

/-- BUS_ERR completes: a read returns 0, a write is discarded; the address and the initiator (with the direction) stand
in SYS.BUS_ERR_ADDR and SYS.BUS_ERR_SRC, event 474 is pending, and no other register and no byte of any memory changes.
(R1018.) -/
def Obligations.BusErrorsAreRecorded : Prop :=
  ∀ (s : State) (ini addr : Nat) (wr : Bool), ini < 16 → addr < 2 ^ 40 →
    ∃ t, exec (.busErr ini addr wr) s = .next t ∧ (wr = false → t.rdata = 0) ∧ (wr = true → t.rdata = s.rdata) ∧
      (t.reg Reg.sysBusErrAddrLo).toNat = addr % 2 ^ 32 ∧ (t.reg Reg.sysBusErrAddrHi).toNat = addr / 2 ^ 32 ∧
      (t.reg Reg.sysBusErrSrc).toNat = (if wr then 256 else 0) + ini ∧ t.pendingEvent 474 = true ∧
      State.onlyRegs [Reg.sysBusErrAddrLo, Reg.sysBusErrAddrHi, Reg.sysBusErrSrc] s { t with rdata := s.rdata }

/-- CORE_BLOCKED_WRITE of an application core completes. A store to usable DRAM that touches a 64 KiB page of a resident
station block's payload, or a store that starts in the SRAM or the halo store of a tile, changes no byte of DRAM, flash
or tile SRAM and neither OTP nor the timebase, and logs a fault entry with code 0x14, UNIT 5, the core as INDEX and BALE
0; where the page or the tile belongs to a station, KHAN.STN_ISO of that station counts and its ISO_VIOLATION event is
pending. A store of at least one byte to usable DRAM that touches no such page writes its bytes, in order from its
address, and nothing else (that the whole store is discarded is log entry 18). A store to the reserved part of a tile's
range is ignored (R196). (23_control_cores_and_memory_map.md.) -/
def Obligations.CoreStoresAreProtected : Prop :=
  (∀ (s : State) (core addr : Nat) (data : List Byte) (o : Option Nat), core < 4 →
    (addr + data.length ≤ dramEnd ∧ o.isSome = true ∧ s.protectedBy addr data.length = o ∨
      sramBase ≤ addr ∧ addr < sramBase + sramLen ∧ (addr - sramBase) % 0x200000 < 0x1A0000 ∧ o = (s.tile ((addr - sramBase) / 0x200000)).owner) →
    (∀ n, o = some n → n < 16) →
    let i := s.fget Reg.faultHead 5 0
    ∃ t, exec (.coreBlockedWrite core addr data) s = .next t ∧ State.storesNothing s t ∧
      (t.reg (Reg.faultLogW1 i)).toNat / 2 ^ 16 % 256 = 0x14 ∧ (t.reg (Reg.faultLogW2 i)).toNat % 2 ^ 16 = core * 256 + 5 ∧
      t.reg (Reg.faultLogW3 i) = 0 ∧ t.pendingEvent 454 = true ∧
      (∀ n, o = some n → t.pendingEvent (evStn n 11) = true ∧
        t.reg (Reg.khanStnIso n) = BitVec.ofNat 32 (satWord 24 (s.reg (Reg.khanStnIso n)).toNat).1) ∧
      State.onlyRegs (faultRegs ++ (match o with | some n => [Reg.khanStnIso n] | none => [])) s t) ∧
  (∀ (s : State) (core addr : Nat) (data : List Byte), core < 4 → addr + data.length ≤ dramEnd → s.memOk = true →
    s.protectedBy addr data.length = none →
    ∃ t, exec (.coreBlockedWrite core addr data) s = .next t ∧
      (∀ a, t.dramByteAt a = if addr ≤ a ∧ a < addr + data.length then data.getD (a - addr) 0 else s.dramByteAt a) ∧
      { t with dram := s.dram, out := s.out, phy := s.phy.still t.phy } = s) ∧
  (∀ (s : State) (core addr : Nat) (data : List Byte), core < 4 → sramBase ≤ addr → addr < sramBase + sramLen →
    0x1A0000 ≤ (addr - sramBase) % 0x200000 → ∃ t, exec (.coreBlockedWrite core addr data) s = .next t ∧ State.unchanged s t)

/-- EVT_ROUTE_WRITE, and a register write to SYS.EVT_ROUTE[src], complete: bits 0 to 3 and 13 to 15 take the written
value, bits 4 to 12 take it only where the steward itself (initiator 12) writes, and otherwise stay. Bits 16 to 31,
every other register, the event queues and all other state stay, so nothing is reported. (R1026.) -/
def Obligations.EventRoutesOfCoresAreTheStewards : Prop :=
  ∀ (s : State) (ini src : Nat) (val : Word) (c : Instr), src < 512 → s.domOn 0 = true →
    c = .evtRouteWrite ini src val ∨ c = .registerWrite ini (Reg.sysEvtRoute src) val →
    ∃ t, exec c s = .next t ∧
      (∀ i < 16, t.flag (Reg.sysEvtRoute src) i =
        if ini ≠ iniSteward ∧ 4 ≤ i ∧ i ≤ 12 then s.flag (Reg.sysEvtRoute src) i else bitAt val.toNat i) ∧
      (∀ i, 16 ≤ i → i < 32 → t.flag (Reg.sysEvtRoute src) i = s.flag (Reg.sysEvtRoute src) i) ∧
      (∀ b, b ≠ Reg.sysEvtRoute src → t.reg b = s.reg b) ∧ { t with regs := s.regs, out := s.out, phy := s.phy.still t.phy } = s

/-- REGISTER_WRITE completes on a register of each access code. RW: GPIO.OUT takes the written value. RF:
MILE.STN_POLICY of a disarmed station takes it; of an armed station it keeps what it holds, and a write that would
change it counts in SYS.WDROP_CNT, records its address, initiator and owner and raises WDROP. RS: MILE.REMOTE_CFG, owned
by the device, keeps its value and the written one waits in the shadow copy; MBOX.SEALCFG of an armed station does the
same, of a disarmed station it changes at once and a pending value is dropped. COMMIT_GO on the MILE block makes
REMOTE_CFG take the pending value and leaves the pending words of other blocks. COUNTER_CLR of a saturating counter sets
its COUNT to 0 and keeps OVF. (00_scope.md, 02_access_classes_counters_mailboxes.md.) -/
def Obligations.WritesFollowTheAccessCodes : Prop :=
  (∀ (s : State) (ini : Nat) (val : Word), s.domOn 0 = true →
    ∃ t, exec (.registerWrite ini Reg.gpioOut val) s = .next t ∧ t.fget Reg.gpioOut 15 0 = val.toNat % 65536 ∧
      State.onlyRegs [Reg.gpioOut] s t) ∧
  (∀ (s : State) (ini n : Nat) (val : Word), n < 16 → ini < 16 → s.domOn domVerdict = true →
    ∃ t, exec (.registerWrite ini (Reg.mileStnPolicy n) val) s = .next t ∧
      (s.armed n = false → t.fget (Reg.mileStnPolicy n) 1 0 = val.toNat % 4 ∧ State.onlyRegs [Reg.mileStnPolicy n] s t) ∧
      (s.armed n = true → t.reg (Reg.mileStnPolicy n) = s.reg (Reg.mileStnPolicy n) ∧
        (s.fget (Reg.mileStnPolicy n) 1 0 = val.toNat % 4 → State.onlyRegs [] s t) ∧
        (s.fget (Reg.mileStnPolicy n) 1 0 ≠ val.toNat % 4 →
          t.reg Reg.sysWdropCnt = BitVec.ofNat 32 (satWord 24 (s.reg Reg.sysWdropCnt).toNat).1 ∧
          (t.reg Reg.sysWdropAddr).toNat = Reg.mileStnPolicy n % 2 ^ 32 ∧ (t.reg Reg.sysWdropSrc).toNat = n * 16 + ini ∧
          t.pendingEvent 448 = true ∧
          State.onlyRegs [Reg.sysWdropCnt, Reg.sysWdropAddr, Reg.sysWdropSrc] s t))) ∧
  (∀ (s : State) (ini : Nat) (val : Word), s.domOn domVerdict = true →
    ∃ t, exec (.registerWrite ini Reg.mileRemoteCfg val) s = .next t ∧
      ((t.shadowAt Reg.mileRemoteCfg).map fun w => w % 65536) = some (val.toNat % 65536) ∧
      (∀ a, a ≠ Reg.mileRemoteCfg → t.shadowAt a = s.shadowAt a) ∧ (∀ b, t.reg b = s.reg b) ∧
      { t with regs := s.regs, shadow := s.shadow, out := s.out, phy := s.phy.still t.phy } = s) ∧
  (∀ (s : State) (ini n : Nat) (val : Word), n < 16 → val.toNat % 4 ≠ 3 → s.domOn 0 = true →
    ∃ t, exec (.registerWrite ini (Reg.mboxSealcfg n) val) s = .next t ∧
      (s.armed n = true → (t.shadowAt (Reg.mboxSealcfg n)).map (fun w => w % 4) = some (val.toNat % 4) ∧
        t.reg (Reg.mboxSealcfg n) = s.reg (Reg.mboxSealcfg n)) ∧
      (s.armed n = false → t.shadowAt (Reg.mboxSealcfg n) = none ∧ t.fget (Reg.mboxSealcfg n) 1 0 = val.toNat % 4) ∧
      (∀ a, a ≠ Reg.mboxSealcfg n → t.shadowAt a = s.shadowAt a ∧ t.reg a = s.reg a) ∧
      { t with regs := s.regs, shadow := s.shadow, out := s.out, phy := s.phy.still t.phy } = s) ∧
  (∀ (s : State) (ini : Nat) (w : ShadowWrite), s.domOn domVerdict = true →
    s.commitWords Reg.mileCommit = [w] → w.addr = Reg.mileRemoteCfg →
    ∃ t, exec (.commitGo ini Reg.mileCommit) s = .next t ∧
      t.fget Reg.mileRemoteCfg 15 0 = w.val.toNat % 65536 ∧ t.shadow = s.shadow.filter (fun x => x ≠ w) ∧
      (∀ b, b ≠ Reg.mileRemoteCfg → t.reg b = s.reg b) ∧
      { t with regs := s.regs, shadow := s.shadow, out := s.out, phy := s.phy.still t.phy } = s) ∧
  (∀ (s : State) (ini a : Nat) (r : RegInfo) (i j : Nat), a % 4 = 0 → regAt a = some (r, i, j) → r.fields = cntFields →
    s.domOn (domainOf a) = true →
    ∃ t, exec (.counterClr ini a) s = .next t ∧ t.fget a 23 0 = 0 ∧ t.flag a 31 = s.flag a 31 ∧
      (∀ b, b ≠ a → t.reg b = s.reg b) ∧ { t with regs := s.regs, out := s.out, phy := s.phy.still t.phy } = s)

/-- Outside the waystation state, LOAD_FULL with no station armed and LOAD_STATION complete, with no load in progress,
by starting a load of the container at MFL.SRC (a multiple of 8) and MFL.LEN bytes: BUSY reads 1 and the result clears.
With a station armed LOAD_FULL is refused with ARMED, and with a load in progress either is refused with BUSY: the load
in progress goes on, the code stands in MFL.STATUS, MFL_FAIL is pending. Nothing else changes (step 1 of R116; that the
bits of SRC below 8 read as 0 is log entry 19). (03_manifest_loading.md.) -/
def Obligations.LoadsStartOnlyWhereTheyMay : Prop :=
  ∀ (s : State) (ini : Nat) (c : Instr) (full : Bool), s.flag Reg.sysBootStat 31 = false →
    c = .loadFull ini ∧ full = true ∨ c = .loadStation ini ∧ full = false →
    ((full = true → s.anyArmed = false) → s.load = none →
      ∃ t, exec c s = .next t ∧
        t.load = some ⟨full, ((s.reg Reg.mflSrcLo).toNat + s.fget Reg.mflSrcHi 7 0 * 2 ^ 32) / 8 * 8, (s.reg Reg.mflLen).toNat⟩ ∧
        (t.reg Reg.mflStatus).toNat = 2 ^ 31 ∧ (t.reg Reg.mflErrOffset).toNat = 0 ∧
        State.onlyRegs [Reg.mflStatus, Reg.mflErrOffset] s { t with load := s.load }) ∧
    ((full = true ∧ s.anyArmed = true ∨ s.load.isSome = true) →
      ∃ t, exec c s = .next t ∧ t.load = s.load ∧
        t.fget Reg.mflStatus 7 0 = (if full = true ∧ s.anyArmed = true then 0x0D else 0x0E) ∧
        t.flag Reg.mflStatus 31 = s.load.isSome ∧ t.pendingEvent 450 = true ∧
        State.onlyRegs [Reg.mflStatus, Reg.mflErrOffset] s t)

/-- ABORT with a load in progress completes: the load is gone, MFL.STATUS holds ABORTED with BUSY 0, MFL_FAIL is pending
and nothing else changes. CANCEL_PENDING of a station with a pending block completes: the station has no pending block
and goes on under its active block, and no bale that had not started is left under the discarded one: each has moved to
the active block, or, where that block needs more than the station has for it, is gone as a dropped trigger. Where no
bale of the discarded block waited for its first line, every other station, every bale and every register is as before.
(03_manifest_loading.md.) -/
def Obligations.AbortAndCancelPendingDiscard : Prop :=
  (∀ (s : State) (ini : Nat) (l : Load), s.load = some l →
    ∃ t, exec (.abort ini) s = .next t ∧ t.load = none ∧ t.fget Reg.mflStatus 7 0 = 0x0F ∧ t.flag Reg.mflStatus 31 = false ∧
      t.pendingEvent 450 = true ∧ State.onlyRegs [Reg.mflStatus, Reg.mflErrOffset] s { t with load := s.load }) ∧
  (∀ (s : State) (ini n o : Nat), (s.stn n).pend = some o →
    ∃ t, exec (.cancelPending ini n) s = .next t ∧ (t.stn n).pend = none ∧ (t.stn n).active = (s.stn n).active ∧
      (∀ b, s.active? n = some b → b.uid ≠ o → ∀ x ∈ t.bales, x.uid = o → x.started = true) ∧
      (∀ b ∈ t.blocks, b ∈ s.blocks) ∧
      ((∀ x ∈ s.bales, x.uid = o → x.started = true) → (∀ k, k ≠ n → t.stn k = s.stn k) ∧
        { t with stations := s.stations, blocks := s.blocks, out := s.out, phy := s.phy.still t.phy } = s))

/-- LOAD_END of a load whose container fails a check of steps 2 to 6 completes: the device block, every resident block,
pending shadow write, station, bale, job, milestone, reference, odometer and field channel, decoder sequence, camera,
link, endpoint and convoy group is as before, MFL_FAIL is pending, and MFL.STATUS holds the result and the block and
section that failed. DRAM that holds the payload of a resident block, or is part of a bale store, keeps its bytes: the
copies that the load made while it hashed (R119) lie elsewhere. A failure in steps 2 to 5, or of LOAD_STATION, changes
no other state at all. (R117.) -/
def Obligations.FailedLoadsLeaveEverything : Prop :=
  ∀ (s : State) (l : Load) (fails : List (Nat × Nat)) (e : LoadErr), s.load = some l → s.memOk = true →
    let held := fun (t : State) => ∀ h ∈ s.heldDram, ∀ a, h.1 ≤ a → a < h.1 + h.2 → t.dramByteAt a = s.dramByteAt a
    let parsed := if l.full then parseFull s.otp (s.dramAt l.addr l.len)
      else parseStation s.otp s.dev (s.flag Reg.sysDetMode 0) (s.dramAt l.addr l.len)
    let result := BitVec.ofNat 32 (e.sect % 256 * 2 ^ 16 + e.block % 32 * 2 ^ 8 + e.code)
    ((parsed = .error e ∨ l.full = false ∧ ∃ p, parsed = .ok p ∧ chkLoad false p s.begin_ s.begin_ = .error e) →
      ∃ t, exec (.loadEnd fails) s = .next t ∧ t.load = none ∧ t.reg Reg.mflStatus = result ∧ t.pendingEvent 450 = true ∧
        held t ∧ State.onlyRegs [Reg.mflStatus, Reg.mflErrOffset] s { t with load := s.load, dram := s.dram }) ∧
    (∀ p, l.full = true → parsed = .ok p →
      chkLoad true p s.begin_
        (testBands (s.untested p.dev) p.dev.power.opMax fails s.begin_) = .error e →
      ∃ t, exec (.loadEnd fails) s = .next t ∧ t.load = none ∧ t.reg Reg.mflStatus = result ∧ t.pendingEvent 450 = true ∧ held t ∧
        { t with regs := s.regs, evq := s.evq, out := s.out, phy := s.phy.still t.phy, load := s.load, tiles := s.tiles, fmap := s.fmap, boot := s.boot,
                 pwr := s.pwr, dram := s.dram } = s)

/-- LOAD_END of a LOAD_FULL whose container passes every check completes: the active device block is the container's,
the resident station blocks are the container's, no load is in progress, and the payloads stand in DRAM. LOAD_END of a
LOAD_STATION whose block passes every check completes: the device block is as before, the new block is resident and is
the pending or the active block of its station, every other station's active block is as before, no load is in progress.
(03_manifest_loading.md.) -/
def Obligations.SuccessfulLoadsInstall : Prop :=
  (∀ (s : State) (l : Load) (fails : List (Nat × Nat)) (p : Parsed), s.load = some l → l.full = true →
    parseFull s.otp (s.dramAt l.addr l.len) = .ok p →
    chkLoad true p s.begin_ (testBands (s.untested p.dev) p.dev.power.opMax fails s.begin_) = .ok () →
    ∃ t, exec (.loadEnd fails) s = .next t ∧ t.dev = some p.dev ∧ t.blocks = numberBlocks p.dev s.nextUid s.heldDram p.stns ∧
      t.load = none ∧
      t.dram = applyWrites dramByte s.dram (payloadWrites (numberBlocks p.dev s.nextUid s.heldDram p.stns) p.stns)) ∧
  (∀ (s : State) (l : Load) (fails : List (Nat × Nat)) (p : Parsed) (b : StnBlock) (ss : List Sect), s.load = some l →
    l.full = false → s.stations.length = 16 → b.stn < 16 →
    parseStation s.otp s.dev (s.flag Reg.sysDetMode 0) (s.dramAt l.addr l.len) = .ok p → p.stns = [(b, ss)] →
    chkLoad false p s.begin_ s.begin_ = .ok () →
    ∃ t, exec (.loadEnd fails) s = .next t ∧ t.dev = s.dev ∧ t.load = none ∧
      (∃ x ∈ t.blocks, x.uid = s.nextUid ∧ x.stn = b.stn) ∧
      ((t.stn b.stn).pend = some s.nextUid ∨ (t.stn b.stn).active = some s.nextUid) ∧
      (∀ k, k ≠ b.stn → (t.stn k).active = (s.stn k).active ∧ (t.stn k).pend = (s.stn k).pend))

/-- RETIRE_CMD with KEY 0xA5 of a tile below 72 that is ACTIVE or SPARE completes, and where the field region has room
the steward starts to write a KIND 0 entry for that tile with CAUSE 0x09 behind the entries it writes already. With
another key, a number that names no tile, or a tile that is neither ACTIVE nor SPARE it completes, writes no entry and
leaves every tile, every station and every register but those of the event machinery. SPARE_BIST_END of a spare that
fails starts an entry for the spare with CAUSE 0x0A. (05_stitched_fabric.md.) -/
def Obligations.RetirementWritesAFieldEntry : Prop :=
  (∀ (s : State) (ini key k : Nat), key = 0xA5 → k < 72 → (s.tile k).st = tileActive ∨ (s.tile k).st = tileSpare →
    s.fmap.entries.length + s.fmap.writing.length < 64 →
    ∃ t e, exec (.retireCmd ini key k) s = .next t ∧ t.fmap = { s.fmap with writing := s.fmap.writing ++ [e] } ∧
      e.kind = 0 ∧ e.target = k ∧ e.cause = 0x09) ∧
  (∀ (s : State) (ini key k : Nat), key ≠ 0xA5 ∨ 72 ≤ k → ∃ t, exec (.retireCmd ini key k) s = .next t ∧ State.onlyRegs [] s t) ∧
  (∀ (s : State) (ini k : Nat), k < 72 → (s.tile k).st ≠ tileActive → (s.tile k).st ≠ tileSpare →
    ∃ t, exec (.retireCmd ini 0xA5 k) s = .next t ∧ State.unchanged s t) ∧
  (∀ (s : State) (k j step : Nat) (fr : Option Nat), step < 3 →
    s.retiring.find? (fun r => r.tile == k && r.step < 3) = some ⟨k, some j, step, fr⟩ →
    s.fmap.entries.length + s.fmap.writing.length < 64 →
    ∃ t e, exec (.spareBistEnd k false) s = .next t ∧ t.fmap = { s.fmap with writing := s.fmap.writing ++ [e] } ∧
      e.kind = 0 ∧ e.target = j ∧ e.cause = 0x0A)

/-- SPARE_POWERED completes: the retirement of that tile at step 1 goes to step 2, its spare is ungated, and every other
retirement, the rest of every tile and all other state stay. SPARE_BIST_END with success completes: where a station owns
the tile the retirement goes to step 3, the Khan zeroes the spare unless that station held it last (R343), and nothing
else changes; where none owns it, in perfect-grid mode, the spare becomes ACTIVE in the tile's column, the old tile
becomes RETIRED and is gated, the retirement is over, and SPARE_ACTIVE is pending for the spare. TILE_SCRUB_END of a
tile that is being zeroed completes: every byte of its SRAM and halo store reads 0, every other byte of tile SRAM reads
as before, and no other tile and no other state changes. (05_stitched_fabric.md, 08_khan.md.) -/
def Obligations.SparesTakeOverInSteps : Prop :=
  (∀ (s : State) (k : Nat), ∃ t, exec (.sparePowered k) s = .next t ∧ t.retiring.length = s.retiring.length ∧
    (∀ (i : Nat) (r : Retire), s.retiring[i]? = some r →
      t.retiring[i]? = some (if r.tile = k ∧ r.step = 1 then { r with step := 2 } else r)) ∧
    (∀ (r : Retire) (j : Nat), s.retiring.find? (fun r => r.tile == k && r.step == 1) = some r → r.spare = some j →
      j < s.tiles.length → (t.tile j).gated = false) ∧
    (∀ i, { t.tile i with gated := (s.tile i).gated } = s.tile i) ∧
    (∀ i, (∀ r ∈ s.retiring, r.tile = k → r.step = 1 → r.spare ≠ some i) → t.tile i = s.tile i) ∧
    { t with retiring := s.retiring, tiles := s.tiles, out := s.out, phy := s.phy.still t.phy } = s) ∧
  (∀ (s : State) (k : Nat) (r : Retire), s.retiring.find? (fun r => r.tile == k && r.step < 3) = some r →
    (s.tile k).owner ≠ none →
    ∃ t, exec (.spareBistEnd k true) s = .next t ∧
      (∀ x ∈ t.retiring, x.tile = k → x = { r with step := 3 }) ∧
      (∀ i, t.tile i = if r.spare = some i ∧ i < s.tiles.length then
        { s.tile i with scrub := (s.tile i).last != (s.tile k).owner } else s.tile i) ∧
      { t with retiring := s.retiring, tiles := s.tiles, out := s.out, phy := s.phy.still t.phy } = s) ∧
  (∀ (s : State) (k j : Nat) (r : Retire), s.retiring.find? (fun r => r.tile == k && r.step < 3) = some r → r.spare = some j →
    (s.tile k).owner = none → s.holes = false → k ≠ j → k < s.tiles.length → j < s.tiles.length → j < 72 →
    ∃ t, exec (.spareBistEnd k true) s = .next t ∧ (t.tile j).st = tileActive ∧ (t.tile j).lx = (s.tile k).lx ∧
      (t.tile j).ly = j / 9 ∧ (t.tile k).st = tileRetired ∧ (t.tile k).gated = true ∧
      (∀ x ∈ t.retiring, x.tile ≠ k) ∧ t.pendingEvent (evTile j) = true ∧
      (∀ i, i ≠ j → i ≠ k → t.tile i = s.tile i)) ∧
  (∀ (s : State) (k : Nat), (s.tile k).scrub = true → s.memOk = true →
    ∃ t, exec (.tileScrubEnd k) s = .next t ∧ (t.tile k).scrub = false ∧ (∀ i, i ≠ k → t.tile i = s.tile i) ∧
      (∀ a, t.sramByteAt a = if k * 0x200000 ≤ a ∧ a < k * 0x200000 + 0x1A0000 then 0 else s.sramByteAt a) ∧
      { t with tiles := s.tiles, sram := s.sram, out := s.out, phy := s.phy.still t.phy } = s)

/-- FMAP_WRITE_END with an entry being written completes: that entry joins the field region behind the others, SEQ
counts one rewrite, the next entry (if any) is the one being written, and where flash has a directory entry for the
region its bytes there are the header, the entries and the signature. Tiles, stations, DRAM and tile SRAM are as before.
(05_stitched_fabric.md, 22_logbook.md.) -/
def Obligations.FieldEntryIsWrittenAndCounted : Prop :=
  ∀ (s : State) (e : MapEntry) (rest : List MapEntry), s.fmap.writing = e :: rest →
    ∃ t, exec .fmapWriteEnd s = .next t ∧
      t.fmap = { s.fmap with seq := s.fmap.seq + 1, entries := s.fmap.entries ++ [e], writing := rest } ∧
      (∀ d, s.dirType? 5 = some d → s.memOk = true →
        ∀ i < t.fmap.image.length, t.flashByteAt (d.off + i) = t.fmap.image.getD i 0) ∧
      t.tiles = s.tiles ∧ t.stations = s.stations ∧ t.dram = s.dram ∧ t.sram = s.sram

/-- With the verdict domain on, STOP_SET of station n completes: the software cause is recorded beside the station's
other causes, and every declared STOP_LINE output is off. STOP_CLR completes: every recorded cause of the station is
cleared but LOST, which stays while the reference is LOST (R757); each declared STOP_LINE output is on exactly where the
device runs, the field die is not in the safe state and no station has a cause left. No other station, no other output,
no register but the valve-cycle counters and the event registers, and no other state changes. With the domain off both
do nothing, as do TRIG_EN_CLEAR and CANCEL_ALL. (15_verdict_and_milestones.md, 14_field_io.md.) -/
def Obligations.StopLineIsHeldAndCleared : Prop :=
  (∀ (s : State) (ini n : Nat), n < 16 → s.sized = true → s.domOn domVerdict = true →
    ∃ t, exec (.stopSet ini n) s = .next t ∧ t.stn n = { s.stn n with stops := setBitTo (s.stn n).stops causeSoftware true } ∧
      (∀ k, k ≠ n → t.stn k = s.stn k) ∧ (∀ ch ∈ s.stopChannels, (t.fioCh ch).out = false) ∧
      (∀ ch, ch ∉ s.stopChannels → t.fioCh ch = s.fioCh ch) ∧ { t with stations := s.stations, fio := s.fio, out := s.out, phy := s.phy.still t.phy } = s) ∧
  (∀ (s : State) (ini n : Nat), n < 16 → s.sized = true → s.domOn domVerdict = true → (∀ ch ∈ s.stopChannels, ch < 32) →
    ∃ t, exec (.stopClr ini n) s = .next t ∧
      t.stn n = { s.stn n with stops := if (s.ref n).lost then (s.stn n).stops &&& 2 ^ causeLost else 0 } ∧
      (∀ k, k ≠ n → t.stn k = s.stn k) ∧
      (∀ ch ∈ s.stopChannels, (t.fioCh ch).out = (s.running && !s.fieldSafe && !t.stopLine)) ∧
      (∀ ch, ch ∉ s.stopChannels → t.fioCh ch = s.fioCh ch) ∧
      State.onlyRegs cycleRegs s { t with stations := s.stations, fio := s.fio }) ∧
  (∀ (s : State) (ini n : Nat) (c : Instr), s.domOn domVerdict = false →
    c ∈ [.stopSet ini n, .stopClr ini n, .trigEnClear ini n, .cancelAll ini n] →
    ∃ t, exec c s = .next t ∧ State.unchanged s t)

/-- TRIG_EN_SET outside the waystation state completes. Every domain that arming needs is on after it. Of a station that
is neither armed for triggers nor waiting, with those domains on, it sets ARM_ERR and nothing else where the station has
no active block, a LOST reference, or no region and a claim below TILES_MIN (R759); otherwise the station waits for its
grant and nothing else changes. Of a station that triggers or waits already it changes nothing. ARM_GRANT of a waiting
station without a region or a grant, where the free tiles suffice for its guarantee G, completes: the region is G
distinct tiles that were free or taken for it, each now owned and zeroed first unless this station held it last, N is
the largest size of R345, the decode tiles and the N model tiles are ungated and, where the station has no bale, the
surplus is gated, TRIG_EN reads 1 and TSEQ is 0; a tile outside the region keeps all but the mark of having been taken
for the station. With a region of at least G tiles already it only arms; with a smaller one whose missing tiles are free
it arms too. Where the Khan cannot grant TILES_MIN it changes nothing, as for a station that does not wait.
(15_verdict_and_milestones.md, 08_khan.md, 19_power_and_clocks.md.) -/
def Obligations.ArmingAsksForTilesAndGetsThem : Prop :=
  (∀ (s : State) (ini n : Nat), n < 16 → s.sized = true → s.flag Reg.sysBootStat 31 = false →
    (s.stn n).trigEn = false → (s.stn n).want = false →
    (∃ t, exec (.trigEnSet ini n) s = .next t ∧ ∀ d ∈ stationDomains, t.domOn d = true) ∧
    ((∀ d ∈ domTree :: stationDomains, s.domOn d = true) →
      let refused := s.active? n = none ∨ (s.ref n).lost = true ∨
        (s.stn n).tiles = [] ∧ s.begin_.claim n < max 1 (((s.env? n).map Env.tilesMin).getD 0)
      (refused → ∃ t, exec (.trigEnSet ini n) s = .next t ∧ t.flag (Reg.mileStnStat n) 30 = true ∧
        State.onlyRegs [Reg.mileStnStat n] s t) ∧
      (¬ refused → ∃ t, exec (.trigEnSet ini n) s = .next t ∧ t.stn n = { s.stn n with want := true } ∧
        (∀ k, k ≠ n → t.stn k = s.stn k) ∧ { t with stations := s.stations, out := s.out, phy := s.phy.still t.phy } = s))) ∧
  (∀ (s : State) (ini n : Nat), (s.stn n).trigEn = true ∨ (s.stn n).want = true →
    ∃ t, exec (.trigEnSet ini n) s = .next t ∧ State.unchanged s t) ∧
  (∀ (s : State) (n : Nat), n < 16 → s.sized = true → (s.stn n).want = true → (s.stn n).tiles = [] → (s.stn n).joining = [] →
    max 1 (((s.env? n).map Env.tilesMin).getD 0) ≤ s.guarOf n → s.guarOf n ≤ s.freeTiles.length →
    ∃ t, exec (.armGrant n) s = .next t ∧ (t.stn n).tiles.length = s.guarOf n ∧ (t.stn n).tiles.Nodup ∧
      (∀ k ∈ (t.stn n).tiles, s.freeFor n k = true ∧ (t.tile k).owner = some n ∧
        ((t.tile k).scrub = true ↔ (s.tile k).last ≠ some n)) ∧
      (∀ k ∈ (t.stn n).tiles.take ((t.stn n).decTiles + (t.stn n).n), (t.tile k).gated = false) ∧
      (s.inFlight n = false → ∀ k ∈ (t.stn n).tiles.drop ((t.stn n).decTiles + (t.stn n).n), (t.tile k).gated = true) ∧
      (∀ k, k ∉ (t.stn n).tiles → { t.tile k with to_ := (s.tile k).to_, src := (s.tile k).src } = s.tile k) ∧
      (t.stn n).n = bestSize (s.slotsOf n) (s.guarOf n - (t.stn n).decTiles) ∧
      (t.stn n).trigEn = true ∧ (t.stn n).want = false ∧ t.reg (Reg.convoyTseq n) = 0 ∧ (∀ k, k ≠ n → t.stn k = s.stn k) ∧
      State.onlyRegs [Reg.convoyTseq n, Reg.khanLastMove] s
        { t with stations := s.stations, tiles := s.tiles, refs := s.refs, groups := s.groups }) ∧
  (∀ (s : State) (n : Nat), n < 16 → s.sized = true → (s.stn n).want = true →
    max 1 (max (s.guarOf n) (((s.env? n).map Env.tilesMin).getD 0)) ≤ s.effHeld n →
    ∃ t, exec (.armGrant n) s = .next t ∧ (t.stn n).trigEn = true ∧ (t.stn n).want = false ∧ (t.stn n).tiles = (s.stn n).tiles ∧
      t.reg (Reg.convoyTseq n) = 0 ∧ (s.armed n = false → (t.ref n).hwm = (s.ref n).pos) ∧ (∀ k, k ≠ n → t.stn k = s.stn k) ∧
      State.onlyRegs [Reg.convoyTseq n] s { t with stations := s.stations, refs := s.refs, groups := s.groups }) ∧
  (∀ (s : State) (n : Nat), n < 16 → s.sized = true → (s.stn n).want = true →
    max 1 (((s.env? n).map Env.tilesMin).getD 0) ≤ s.guarOf n → s.guarOf n - s.effHeld n ≤ s.freeTiles.length →
    ∃ t, exec (.armGrant n) s = .next t ∧ (t.stn n).trigEn = true ∧ (t.stn n).want = false ∧ t.reg (Reg.convoyTseq n) = 0) ∧
  (∀ (s : State) (n : Nat), (s.stn n).want = false ∨ s.begin_.claim n < max 1 (((s.env? n).map Env.tilesMin).getD 0) →
    ∃ t, exec (.armGrant n) s = .next t ∧ State.unchanged s t)

/-- With the verdict domain on, TRIG_EN_CLEAR completes: the station triggers no more and waits for no grant. While a
milestone of the station is ARMED or DECIDED it stays armed and nothing else changes (R50). Of a station that is not
armed the tiles granted to it that wait to join lose their owner, and no other tile its owner (R388). An armed one
without such a milestone is disarmed: a pending station block becomes active (R128), or without one its pending RS
writes leave the shadow copy (R1085); where no bale is in flight its tiles without running work lose their owner (R339).
CANCEL_ALL completes; while TRIG_EN is 1 it changes nothing, else exactly the station's ARMED and DECIDED entries leave
the table, their bales are gone, and one verdict record for each takes a SEQ of the station's mailbox (R761).
(02_access_classes_counters_mailboxes.md, 08_khan.md, 15_verdict_and_milestones.md.) -/
def Obligations.DisarmingAndCancelling : Prop :=
  (∀ (s : State) (ini n : Nat), n < 16 → s.sized = true → s.domOn domVerdict = true →
    (∃ m ∈ s.miles, m.stn = n ∧ m.live = true) →
    ∃ t, exec (.trigEnClear ini n) s = .next t ∧ t.stn n = { s.stn n with trigEn := false, want := false } ∧
      (∀ k, k ≠ n → t.stn k = s.stn k) ∧ t.armed n = true ∧
      { t with stations := s.stations, out := s.out, phy := s.phy.still t.phy } = s) ∧
  (∀ (s : State) (ini n : Nat), n < 16 → s.sized = true → s.domOn domVerdict = true → s.armed n = false →
    ∃ t, exec (.trigEnClear ini n) s = .next t ∧ t.armed n = false ∧
      t.stn n = { s.stn n with trigEn := false, want := false, joining := [] } ∧ (∀ k, k ≠ n → t.stn k = s.stn k) ∧
      (∀ k ∈ (s.stn n).joining, k < 72 → (t.tile k).owner = none) ∧
      (∀ k, k ∉ (s.stn n).joining → (t.tile k).owner = (s.tile k).owner) ∧
      State.onlyRegs (Reg.khanLastMove :: (List.range 3).map Reg.meshBorrow) s
        { t with stations := s.stations, tiles := s.tiles, lenders := s.lenders }) ∧
  (∀ (s : State) (ini n : Nat), n < 16 → s.sized = true → s.domOn domVerdict = true → (s.stn n).trigEn = true →
    (∀ m ∈ s.miles, m.stn = n → m.live = false) →
    ∃ t, exec (.trigEnClear ini n) s = .next t ∧ t.armed n = false ∧ (t.stn n).trigEn = false ∧ (t.stn n).want = false ∧
      ((s.stn n).pend = none → (t.stn n).active = (s.stn n).active ∧ t.shadow = s.shadow.filter fun w => w.own ≠ some n) ∧
      (∀ o, (s.stn n).pend = some o → s.block? o ≠ none → (t.stn n).active = some o ∧ (t.stn n).pend = none) ∧
      (s.inFlight n = false → (t.stn n).tiles = [] ∧
        ∀ k ∈ (s.stn n).tiles, k < 72 → (s.tile k).owner = some n → (s.tile k).work = none → (t.tile k).owner = none) ∧
      t.miles = s.miles ∧ t.refs = s.refs ∧ t.fio = s.fio) ∧
  (∀ (s : State) (ini n : Nat), (s.stn n).trigEn = true → ∃ t, exec (.cancelAll ini n) s = .next t ∧ State.unchanged s t) ∧
  (∀ (s : State) (ini n : Nat), n < 16 → s.sized = true → s.domOn domVerdict = true → (s.stn n).trigEn = false →
    (s.miles.map Mile.idx).Nodup →
    (∀ b ∈ s.bales, ∀ c ∈ s.bales, b.entry = c.entry → b.entry ≠ none → b.id = c.id) →
    ∃ t, exec (.cancelAll ini n) s = .next t ∧ t.miles = s.miles.filter (fun m => !(m.stn == n && m.live)) ∧
      (∀ m ∈ s.miles, m.stn = n → m.live = true → ∀ b ∈ t.bales, b.entry ≠ some m.idx) ∧
      ((s.stn n).pend = none → (t.mbox.getD n ⟨[], 0⟩).seq =
        (s.mbox.getD n ⟨[], 0⟩).seq + BitVec.ofNat 32 (s.miles.filter fun m => m.stn == n && m.live).length))

/-- With the field domain on each completes. CNT_CLR sets FIO.CNT to 0. ARM sets ARMED of an odometer channel, whose
next index event has no previous one. REARM clears the channel's trip: a commanded output that nothing else holds off is
driven again, with one valve cycle and an on-check. GRP_REARM does so for the outputs of its group. ON writes the ON
field: a plain output that no ejector names is commanded as ON says (unless a pulse runs), with one valve cycle and an
on-check where it turns on and an off-check where it turns off; any other channel keeps its output. FIO_TEST of a
disarmed owner's valve or plain output starts a pulse of PULSE_US, or extends the running one, and GO reads 0. While the
owner is armed it changes no output, and is recorded as a dropped write. No other channel, no other register but the
valve-cycle counters, the overflow bits and the event registers changes. With the domain off none does anything. (That
REARM keeps the output commanded is log entry 31.) (14_field_io.md, 13_odometers.md.) -/
def Obligations.FieldControlsActOnTheirChannel : Prop :=
  (∀ (s : State) (ini ch : Nat), ch < 32 → s.domOn domField = true →
    ∃ t, exec (.cntClr ini ch) s = .next t ∧ t.reg (Reg.fioCnt ch) = 0 ∧ State.onlyRegs [Reg.fioCnt ch] s t) ∧
  (∀ (s : State) (ini ch : Nat), ch < 16 → s.sized = true → s.domOn domField = true →
    ∃ t, exec (.arm ini ch) s = .next t ∧ t.flag (Reg.odoStat ch) 5 = true ∧ t.odoCh ch = { s.odoCh ch with turn := none } ∧
      (∀ k, k ≠ ch → t.odoCh k = s.odoCh k) ∧ State.onlyRegs [Reg.odoStat ch] s { t with odo := s.odo }) ∧
  (∀ (s : State) (ini ch : Nat), ch < 32 → s.sized = true → s.domOn domField = true →
    ∃ t, exec (.rearm ini ch) s = .next t ∧ (t.fioCh ch).trip = false ∧ (t.fioCh ch).out = (s.fioCh ch).out ∧
      t.driven ch = ((s.fioCh ch).out && !s.grpTrip.getD (ch / 8) false && !s.fieldSafe) ∧
      (t.driven ch = true → s.driven ch = false →
        (t.fioCh ch).onCheck = true ∧ t.valveCycles ch = min (s.valveCycles ch + 1) (2 ^ 40 - 1)) ∧
      (∀ k, k ≠ ch → t.fioCh k = s.fioCh k) ∧ State.onlyRegs cycleRegs s { t with fio := s.fio }) ∧
  (∀ (s : State) (ini g : Nat), g < 4 → s.sized = true → s.domOn domField = true →
    ∃ t, exec (.grpRearm ini g) s = .next t ∧ t.grpTrip = s.grpTrip.set g false ∧
      (∀ ch ∈ groupChs g, (t.fioCh ch).out = (s.fioCh ch).out ∧
        t.driven ch = ((s.fioCh ch).out && !(s.fioCh ch).trip && !s.fieldSafe) ∧
        (t.driven ch = true → s.driven ch = false →
          (t.fioCh ch).onCheck = true ∧ t.valveCycles ch = min (s.valveCycles ch + 1) (2 ^ 40 - 1))) ∧
      (∀ k, k ∉ groupChs g → t.fioCh k = s.fioCh k) ∧
      State.onlyRegs cycleRegs s { t with fio := s.fio, grpTrip := s.grpTrip }) ∧
  (∀ (s : State) (ini ch : Nat) (lvl : Bool), ch < 32 → s.sized = true → s.domOn domField = true →
    ∃ t, exec (.on ini ch lvl) s = .next t ∧ t.flag (Reg.fioCtrl ch) 0 = lvl ∧ t.flag (Reg.fioCtrl ch) 1 = s.flag (Reg.fioCtrl ch) 1 ∧
      (t.fioCh ch).out = (if s.followsOn ch = true ∧ (lvl = true ∨ (s.fioCh ch).pulse = false) then lvl else (s.fioCh ch).out) ∧
      (t.driven ch = true → s.driven ch = false →
        (t.fioCh ch).onCheck = true ∧ t.valveCycles ch = min (s.valveCycles ch + 1) (2 ^ 40 - 1)) ∧
      (t.driven ch = false → s.driven ch = true → (t.fioCh ch).offCheck = true) ∧
      (∀ k, k ≠ ch → t.fioCh k = s.fioCh k) ∧ State.onlyRegs (Reg.fioCtrl ch :: cycleRegs) s { t with fio := s.fio }) ∧
  (∀ (s : State) (ini ch us : Nat), ch < 32 → us < 65536 → s.sized = true → s.domOn domField = true →
    s.ownerArmed (s.ownerOf .fio ch) = false → s.fioFunc ch = 0x10 ∨ s.fioFunc ch = 0x11 →
    ∃ t, exec (.fioTest ini ch us) s = .next t ∧ t.fget (Reg.fioTest ch) 15 0 = us ∧ t.flag (Reg.fioTest ch) 31 = false ∧
      (t.fioCh ch).pulse = true ∧
      (t.fioCh ch).until_ = (if (s.fioCh ch).pulse then max (s.fioCh ch).until_ (s.now + us * 250) else s.now + us * 250) ∧
      (t.fioCh ch).out = true ∧ (s.canTurnOn ch = false → (t.fioCh ch).onCheck = true) ∧
      (t.driven ch = true → s.driven ch = false →
        (t.fioCh ch).onCheck = true ∧ t.valveCycles ch = min (s.valveCycles ch + 1) (2 ^ 40 - 1)) ∧
      (∀ k, k ≠ ch → t.fioCh k = s.fioCh k) ∧ State.onlyRegs (Reg.fioTest ch :: cycleRegs) s { t with fio := s.fio }) ∧
  (∀ (s : State) (ini ch us : Nat), ch < 32 → ini < 16 → s.domOn domField = true → s.ownerArmed (s.ownerOf .fio ch) = true →
    s.flag (Reg.fioTest ch) 31 = false →
    ∃ t, exec (.fioTest ini ch us) s = .next t ∧ t.pendingEvent 448 = true ∧
      (t.reg Reg.sysWdropAddr).toNat = Reg.fioTest ch % 2 ^ 32 ∧ t.reg (Reg.fioTest ch) = s.reg (Reg.fioTest ch) ∧
      State.onlyRegs [Reg.sysWdropCnt, Reg.sysWdropAddr, Reg.sysWdropSrc] s t) ∧
  (∀ (s : State) (ini ch us : Nat) (lvl : Bool) (c : Instr), s.domOn domField = false → ch < 32 →
    c ∈ [.cntClr ini ch, .arm ini ch, .rearm ini ch, .grpRearm ini ch, .on ini ch lvl, .fioTest ini ch us] →
    ∃ t, exec c s = .next t ∧ State.unchanged s t)

/-- FIO_INPUT_ACCEPT of a new level on a channel that triggers no station completes: the channel takes the level and
records the time and the reference position of the first sample (R687). A general input raises its event. A counter
input counts a rising edge in FIO.CNT modulo 2^32, and a wrap sets WRAPPED and raises the event (R689). A frequency
input counts the edge and its time. A level that is no change does nothing. FREQ_GATE_END with two or more edges
completes: FIO.FREQ is (N - 1) divided by the time between the first and last edge in mHz, where a free bit rounds a
part of a mHz up or down, and a new measurement begins; with no time between them FIO.FREQ is a free value (log entry
8). With fewer edges, or another function, nothing changes. FREQ_TIMEOUT sets FIO.FREQ of a frequency input to 0. No
output, no other channel, no other register but the event registers and nothing else changes. (14_field_io.md.) -/
def Obligations.FieldInputsAreTimedAndCounted : Prop :=
  (∀ (s : State) (ch : Nat) (lvl : Bool) (back : Int) (backNs : Nat), ch < 32 → s.sized = true → (s.fioCh ch).level ≠ lvl →
    (s.fioFunc ch = 2 → s.triggeredBy ch lvl = []) →
    let c := s.fioCh ch
    let up := s.fioFunc ch = 4 ∧ lvl = true
    ∃ t, exec (.fioInputAccept ch lvl back backNs) s = .next t ∧
      t.fioCh ch = { c with
        level := lvl, atNs := s.tbNs - BitVec.ofNat 32 backNs
        atPos := BitVec.ofInt 48 ((s.fioPos ch).toNat - back)
        edges := if up then c.edges + 1 else c.edges
        t0 := if up ∧ c.edges = 0 then s.now else c.t0, t1 := if up then s.now else c.t1 } ∧
      (s.fioFunc ch = 1 → t.pendingEvent (evFio ch) = true) ∧
      t.reg (Reg.fioCnt ch) = (if s.fioFunc ch = 3 ∧ lvl = true then s.reg (Reg.fioCnt ch) + 1 else s.reg (Reg.fioCnt ch)) ∧
      (s.fioFunc ch = 3 → lvl = true → s.reg (Reg.fioCnt ch) = 0xFFFFFFFF →
        t.flag (Reg.fioStat ch) 6 = true ∧ t.pendingEvent (evFio ch) = true) ∧
      (∀ k, k ≠ ch → t.fioCh k = s.fioCh k) ∧ State.onlyRegs [Reg.fioCnt ch, Reg.fioStat ch] s { t with fio := s.fio }) ∧
  (∀ (s : State) (ch : Nat) (lvl : Bool) (back : Int) (backNs : Nat), (s.fioCh ch).level = lvl →
    ∃ t, exec (.fioInputAccept ch lvl back backNs) s = .next t ∧ State.unchanged s t) ∧
  (∀ (s : State) (ch : Nat), ch < 32 → s.sized = true → s.fioFunc ch = 4 → 2 ≤ (s.fioCh ch).edges →
    (s.fioCh ch).t0 < (s.fioCh ch).t1 →
    ∃ (t : State) (up : Nat), exec (.freqGateEnd ch) s = .next t ∧
      up = (if ((s.fioCh ch).edges - 1) * 10 ^ 12 % (((s.fioCh ch).t1 - (s.fioCh ch).t0) * 4) ≠ 0 ∧
        Config.freeBit s.free = true then 1 else 0) ∧
      t.reg (Reg.fioFreq ch) =
        BitVec.ofNat 32 (((s.fioCh ch).edges - 1) * 10 ^ 12 / (((s.fioCh ch).t1 - (s.fioCh ch).t0) * 4) + up) ∧
      t.fioCh ch = { s.fioCh ch with edges := 0 } ∧ (∀ k, k ≠ ch → t.fioCh k = s.fioCh k) ∧ t.free = s.free + 1 ∧
      State.onlyRegs [Reg.fioFreq ch] s { t with fio := s.fio, free := s.free }) ∧
  (∀ (s : State) (ch : Nat), ch < 32 → s.sized = true → s.fioFunc ch = 4 → 2 ≤ (s.fioCh ch).edges →
    (s.fioCh ch).t1 ≤ (s.fioCh ch).t0 →
    ∃ t, exec (.freqGateEnd ch) s = .next t ∧ t.reg (Reg.fioFreq ch) = Config.freeWord s.free ∧ t.free = s.free + 1 ∧
      (t.fioCh ch).edges = 0 ∧ State.onlyRegs [Reg.fioFreq ch] s { t with fio := s.fio, free := s.free }) ∧
  (∀ (s : State) (ch : Nat), s.fioFunc ch ≠ 4 ∨ (s.fioCh ch).edges < 2 →
    ∃ t, exec (.freqGateEnd ch) s = .next t ∧ State.unchanged s t) ∧
  (∀ (s : State) (ch : Nat), ch < 32 → ∃ t, exec (.freqTimeout ch) s = .next t ∧
    (s.fioFunc ch = 4 → t.reg (Reg.fioFreq ch) = 0 ∧ State.onlyRegs [Reg.fioFreq ch] s t) ∧
    (s.fioFunc ch ≠ 4 → State.unchanged s t))

/-- Each completes. PEAK_END of a driven valve output whose HOLD_DUTY is not 100 begins the hold phase, and of any other
channel changes nothing. PULSE_END ends the pulse: an output that FIO.CTRL.ON holds stays on; a driven output turns off
and its off-check is due; an undriven one without a pending off-check frees its milestone entry at once (log entry 31).
ON_CHECK that reads high, and OFF_CHECK that reads low, clear what is due; the off-check lets the test current resume
under WB_EN and frees the entry of an ended pulse (R743). A check that reads the other level is a read-back failure:
RB_FAIL, its counter, the event, and a fault entry with code 0x0F. Of the one station that names the channel as ejector,
STN_RBFAIL counts, and under its policy bit STOP_LINE gets the read-back cause (R755). A check or pulse end that is not
due changes nothing. (14_field_io.md, 15_verdict_and_milestones.md.) -/
def Obligations.OutputsHoldEndAndAreChecked : Prop :=
  (∀ (s : State) (ch : Nat), ∃ t, exec (.peakEnd ch) s = .next t ∧
    (s.driven ch = true → s.fioFunc ch = 0x10 → s.fget (Reg.fioDrive ch) 22 16 ≠ 100 →
      t.fioCh ch = { s.fioCh ch with hold := true } ∧ (∀ k, k ≠ ch → t.fioCh k = s.fioCh k) ∧
      { t with fio := s.fio, out := s.out, phy := s.phy.still t.phy } = s) ∧
    (s.driven ch = false ∨ s.fioFunc ch ≠ 0x10 ∨ s.fget (Reg.fioDrive ch) 22 16 = 100 → State.unchanged s t)) ∧
  (∀ (s : State) (ch : Nat), (s.fioCh ch).pulse = true →
    let held := s.followsOn ch && s.flag (Reg.fioCtrl ch) 0
    (held = true ∨ s.driven ch = true ∨ (s.fioCh ch).offCheck = true ∨ (s.fioCh ch).entry = none) →
    ∃ t, exec (.pulseEnd ch) s = .next t ∧ t.fioCh ch =
        (if held then { s.fioCh ch with pulse := false }
         else { s.fioCh ch with
           out := false, hold := false, pulse := false, offCheck := s.driven ch || (s.fioCh ch).offCheck }) ∧
      (∀ k, k ≠ ch → t.fioCh k = s.fioCh k) ∧ { t with fio := s.fio, out := s.out, phy := s.phy.still t.phy } = s) ∧
  (∀ (s : State) (ch e : Nat), (s.fioCh ch).pulse = true → s.driven ch = false → (s.fioCh ch).offCheck = false →
    (s.followsOn ch && s.flag (Reg.fioCtrl ch) 0) = false → (s.fioCh ch).entry = some e →
    ∃ t, exec (.pulseEnd ch) s = .next t ∧ t.mile? e = none ∧ (∀ x, x ≠ e → t.mile? x = s.mile? x) ∧
      (t.fioCh ch).pulse = false ∧ (t.fioCh ch).out = false ∧ (t.fioCh ch).entry = none) ∧
  (∀ (s : State) (ch : Nat) (high : Bool), ∃ t, exec (.onCheck ch high) s = .next t ∧
    ((s.fioCh ch).onCheck = true → high = true → t.fioCh ch = { s.fioCh ch with onCheck := false } ∧
      (∀ k, k ≠ ch → t.fioCh k = s.fioCh k) ∧ { t with fio := s.fio, out := s.out, phy := s.phy.still t.phy } = s) ∧
    ((s.fioCh ch).onCheck = false → State.unchanged s t)) ∧
  (∀ (s : State) (ch : Nat), (s.fioCh ch).offCheck = true → ((s.fioCh ch).pulse = true ∨ (s.fioCh ch).entry = none) →
    ∃ t, exec (.offCheck ch false) s = .next t ∧
      t.fioCh ch = { s.fioCh ch with offCheck := false, test := s.flag (Reg.fioCtrl ch) 1 && !s.fieldSafe } ∧
      (∀ k, k ≠ ch → t.fioCh k = s.fioCh k) ∧ { t with fio := s.fio, out := s.out, phy := s.phy.still t.phy } = s) ∧
  (∀ (s : State) (ch e : Nat), (s.fioCh ch).offCheck = true → (s.fioCh ch).pulse = false → (s.fioCh ch).entry = some e →
    ∃ t, exec (.offCheck ch false) s = .next t ∧ t.mile? e = none ∧ (∀ x, x ≠ e → t.mile? x = s.mile? x) ∧
      (t.fioCh ch).offCheck = false ∧ (t.fioCh ch).entry = none) ∧
  (∀ (s : State) (ch : Nat) (high : Bool), (s.fioCh ch).offCheck = false →
    ∃ t, exec (.offCheck ch high) s = .next t ∧ State.unchanged s t) ∧
  (∀ (s : State) (ch : Nat) (c : Instr), ch < 32 → (∀ n ∈ s.ejectors ch, n < 16) →
    c = .onCheck ch false ∧ (s.fioCh ch).onCheck = true ∨
      c = .offCheck ch true ∧ (s.fioCh ch).offCheck = true ∧ (s.fioCh ch).entry = none →
    ∃ t, exec c s = .next t ∧ t.flag (Reg.fioStat ch) 2 = true ∧ t.pendingEvent (evFio ch) = true ∧
      t.reg Reg.fioRbFailCnt = BitVec.ofNat 32 (satWord 24 (s.reg Reg.fioRbFailCnt).toNat).1 ∧
      State.faultAdded s t 4 (s.fioStn ch) 0x0F 3 ch (s.fioBale ch) ∧
      (s.ejectors ch = [] → State.onlyRegs (Reg.fioStat ch :: Reg.fioRbFailCnt :: faultRegs) s { t with fio := s.fio }) ∧
      (∀ n, s.sized = true → s.ejectors ch = [n] →
        t.reg (Reg.mileStnRbfail n) = BitVec.ofNat 32 (satWord 24 (s.reg (Reg.mileStnRbfail n)).toNat).1 ∧
        (s.flag (Reg.mileStnPolicy n) 0 = true → bitAt (t.stn n).stops causeReadback = true) ∧
        (s.flag (Reg.mileStnPolicy n) 0 = false → t.stn n = s.stn n) ∧
        (∀ e m, (s.fioCh ch).entry = some e → s.mile? e = some m → m.fire = 0 → (t.mile? e).map Mile.fire = some 1)))

/-- Each completes. FIO_OPEN of a channel under test current sets OPEN and raises the channel's event. OC_TRIP of a
driven channel and THERM of an output turn the output off, set OC_TRIP or THERM, raise the event and add a fault entry
with code 0x10 or 0x11; the off-check of a driven output is due, and the channel drives nothing until its trip is
cleared. GRP_OC sets GRP_OC of its group and turns off every output of the group. No other channel, no other register
but the event registers and nothing else changes. On a channel without test current, an undriven channel and a channel
that is no output they change nothing. (That the output stays commanded is log entry 31.) (R707, R708, R709.) -/
def Obligations.FieldProtectionTurnsOff : Prop :=
  (∀ (s : State) (ch : Nat), ch < 32 → ∃ t, exec (.fioOpen ch) s = .next t ∧
    ((s.fioCh ch).test = true → t.flag (Reg.fioStat ch) 3 = true ∧ t.pendingEvent (evFio ch) = true ∧
      State.onlyRegs [Reg.fioStat ch] s t) ∧
    ((s.fioCh ch).test = false → State.unchanged s t)) ∧
  (∀ (s : State) (ch bit code : Nat) (c : Instr), ch < 32 → s.sized = true →
    c = .ocTrip ch ∧ bit = 4 ∧ code = 0x10 ∧ s.driven ch = true ∨ c = .therm ch ∧ bit = 5 ∧ code = 0x11 ∧ s.isOutput ch = true →
    ∃ t, exec c s = .next t ∧ t.flag (Reg.fioStat ch) bit = true ∧ t.pendingEvent (evFio ch) = true ∧
      State.faultAdded s t 4 (s.fioStn ch) code 3 ch (s.fioBale ch) ∧ t.driven ch = false ∧ t.canTurnOn ch = false ∧
      t.fioCh ch = { s.fioCh ch with
        trip := true, hold := (s.fioCh ch).hold && !s.driven ch, offCheck := s.driven ch || (s.fioCh ch).offCheck } ∧
      (∀ k, k ≠ ch → t.fioCh k = s.fioCh k) ∧ State.onlyRegs (Reg.fioStat ch :: faultRegs) s { t with fio := s.fio }) ∧
  (∀ (s : State) (ch : Nat), (s.driven ch = false → ∃ t, exec (.ocTrip ch) s = .next t ∧ State.unchanged s t) ∧
    (s.isOutput ch = false → ∃ t, exec (.therm ch) s = .next t ∧ State.unchanged s t)) ∧
  (∀ (s : State) (g : Nat), g < 4 → s.sized = true →
    ∃ t, exec (.grpOc g) s = .next t ∧ t.flag (Reg.fioGrp g) 16 = true ∧ t.grpTrip = s.grpTrip.set g true ∧
      (∀ ch ∈ groupChs g, t.driven ch = false ∧ t.canTurnOn ch = false ∧
        (t.fioCh ch).offCheck = (s.driven ch || (s.fioCh ch).offCheck)) ∧
      (∀ k, k ∉ groupChs g → t.fioCh k = s.fioCh k) ∧
      State.onlyRegs [Reg.fioGrp g] s { t with fio := s.fio, grpTrip := s.grpTrip })

/-- Each completes. FIO_UV sets UV of the supply and of its 16 channels and raises FIO_UV; outputs stay commanded.
V24_B_LOSS sets LOS on every odometer channel. V24_RETURN clears UV of the supply and its channels and, for V24_B, the
LOS that its loss had set, but of a channel whose own pair shows LOS. DIE_LINK_TIMEOUT enters the safe state: no output
is driven or commanded, no test current flows, no off-check is due, and no entry whose pulse ran or whose check was due
is left; in the safe state it changes nothing. DIE_LINK_RETURN leaves the safe state where no other cause of R713 holds
it: every output but the STOP_LINE outputs stays as commanded, test currents follow WB_EN, and the STOP_LINE outputs
follow the stations; where another cause holds it, or outside the safe state, it changes nothing. (14_field_io.md,
13_odometers.md.) -/
def Obligations.FieldSuppliesAndDieLink : Prop :=
  (∀ (s : State) (k : Nat), k < 2 → ∃ t, exec (.fioUv k) s = .next t ∧ t.flag Reg.fioSupply (30 + k) = true ∧
    (∀ i < 16, t.flag (Reg.fioStat (16 * k + i)) 7 = true) ∧ t.pendingEvent 468 = true ∧
    State.onlyRegs (Reg.fioSupply :: (List.range 16).map fun i => Reg.fioStat (16 * k + i)) s t) ∧
  (∀ s : State, s.sized = true → ∃ t, exec .v24BLoss s = .next t ∧ ∀ c < 16, t.flag (Reg.odoStat c) 1 = true ∧
    (t.odoCh c).supplyLos = true ∧ (t.odoCh c).pairLos = (s.odoCh c).pairLos) ∧
  (∀ s : State, ∃ t, exec (.v24Return 0) s = .next t ∧ t.flag Reg.fioSupply 30 = false ∧
    (∀ i < 16, t.flag (Reg.fioStat i) 7 = false) ∧ State.onlyRegs (Reg.fioSupply :: (List.range 16).map Reg.fioStat) s t) ∧
  (∀ s : State, s.sized = true → ∃ t, exec (.v24Return 1) s = .next t ∧ t.flag Reg.fioSupply 31 = false ∧
    (∀ i < 16, t.flag (Reg.fioStat (16 + i)) 7 = false) ∧
    (∀ c < 16, (t.odoCh c).supplyLos = false ∧ t.flag (Reg.odoStat c) 1 =
      (s.flag (Reg.odoStat c) 1 && (!(s.odoCh c).supplyLos || (s.odoCh c).pairLos)))) ∧
  (∀ s : State, s.fieldSafe = false → s.sized = true → ∃ t, exec .dieLinkTimeout s = .next t ∧ t.fieldSafe = true ∧
    (∀ ch, t.driven ch = false ∧ (t.fioCh ch).out = false ∧ (t.fioCh ch).test = false ∧ (t.fioCh ch).offCheck = false) ∧
    (∀ ch e, (s.fioCh ch).entry = some e → t.mile? e = none) ∧ t.pendingEvent 454 = true) ∧
  (∀ s : State, s.fieldSafe = true → ∃ t, exec .dieLinkTimeout s = .next t ∧ State.unchanged s t) ∧
  (∀ s : State, s.fieldSafe = true → s.sized = true → s.domOn domField = true → s.flag Reg.sysBootStat 31 = false →
    s.boot.rstLow = false → (∀ ch ∈ s.stopChannels, ch < 32) → ∃ t, exec .dieLinkReturn s = .next t ∧ t.fieldSafe = false ∧
      (∀ ch, ch ∉ s.stopChannels → (t.fioCh ch).out = (s.fioCh ch).out ∧
        (ch < 32 → s.isOutput ch = true → (t.fioCh ch).test = s.flag (Reg.fioCtrl ch) 1)) ∧
      (∀ ch ∈ s.stopChannels, (t.fioCh ch).out = (s.running && !s.stopLine)) ∧
      State.onlyRegs cycleRegs s { t with fio := s.fio, fieldSafe := s.fieldSafe }) ∧
  (∀ s : State, s.fieldSafe = false ∨ s.domOn domField = false ∨ s.flag Reg.sysBootStat 31 = true ∨ s.boot.rstLow = true →
    ∃ t, exec .dieLinkReturn s = .next t ∧ State.unchanged s t)

/-- FIO_INPUT_ACCEPT of a trigger edge of one station completes. With TRIG_EN 0 or a LOST reference it creates no bale
and no milestone and counts in MILE.STN_TRIG_IGN; TSEQ counts it while TRIG_EN is 1. Otherwise, with a free entry in the
station's partition and P_dead and every camera's first line still ahead, the lowest free entry becomes ARMED with the
next bale ID, with P_trig the reference position at the first sample of the edge and P_dead behind it by the policy's
distance, and with TSEQ after its count; a bale of that ID is admitted where a block, the tiles, the store and the slots
allow and no bale is being captured, and where the tiles do not suffice none is, STN_DROP counts and its event is
pending. Without a free entry no entry appears, STN_TRIGOVF counts, TRIG_OVF is pending, and STOP_LINE gets its cause
where the policy says so. Every other entry and every reference is as before. (R21, R760.) -/
def Obligations.TriggerReservesAMilestone : Prop :=
  ∀ (s : State) (ch n : Nat) (lvl : Bool) (back : Int) (backNs : Nat), ch < 32 → n < 16 → s.sized = true →
    (s.fioCh ch).level ≠ lvl → s.fioFunc ch = 2 → s.triggeredBy ch lvl = [n] →
    let pos := posAdd (s.fioPos ch).toNat (-back)
    let seq := s.reg (Reg.convoyTseq n) + 1
    ∃ t, exec (.fioInputAccept ch lvl back backNs) s = .next t ∧ (t.fioCh ch).level = lvl ∧ (t.fioCh ch).atPos.toNat = pos ∧
      t.reg (Reg.convoyTseq n) = (if (s.stn n).trigEn then seq else s.reg (Reg.convoyTseq n)) ∧ t.refs = s.refs ∧
      ((s.stn n).trigEn = false ∨ (s.ref n).lost = true →
        t.reg (Reg.mileStnTrigIgn n) = BitVec.ofNat 32 (satWord 24 (s.reg (Reg.mileStnTrigIgn n)).toNat).1 ∧
        t.bales = s.bales ∧ t.miles = s.miles ∧ t.nextBale = s.nextBale ∧ t.stations = s.stations ∧
        (∀ k, k ≠ ch → t.fioCh k = s.fioCh k)) ∧
      (∀ p e, (s.stn n).trigEn = true → (s.ref n).lost = false → s.policy? n = some p → s.freeEntry? n = some e →
        atOrBefore 48 (posAdd pos p.dead) (s.ref n).hwm.toNat = false → (∀ b ∈ s.bales, b.id ≠ s.nextBale.toNat) →
        (∀ c ∈ s.camsOf n, atOrBefore 48 (linePos c pos 0) (s.ref n).hwm.toNat = false) →
        (∃ m, t.mile? e = some m ∧ m.stn = n ∧ m.st = 1 ∧ m.bale = s.nextBale.toNat ∧ m.pTrig = pos ∧ m.pDead = posAdd pos p.dead ∧
          m.tseq = seq.toNat ∧ m.outcome = none) ∧
        (∀ x, x ≠ e → t.mile? x = s.mile? x) ∧ t.nextBale = (if s.nextBale + 1 = 0 then 1 else s.nextBale + 1) ∧
        (∀ k, k ≠ ch → t.fioCh k = s.fioCh k) ∧ t.stations = s.stations ∧
        (∀ blk, s.admitting? n = some blk → (s.balesOf n).any s.capturing = false → s.tilesOk n = true → s.fits n blk = true →
          ∃ b ∈ t.bales, b.id = s.nextBale.toNat ∧ b.stn = n ∧ b.uid = blk.uid ∧ b.entry = some e ∧ b.pTrig = pos) ∧
        (s.tilesOk n = false → (s.balesOf n).any s.capturing = false → t.bales = s.bales ∧ t.pendingEvent (evStn n 5) = true ∧
          t.reg (Reg.khanStnDrop n) = BitVec.ofNat 32 (satWord 24 (s.reg (Reg.khanStnDrop n)).toNat).1)) ∧
      (∀ p, (s.stn n).trigEn = true → (s.ref n).lost = false → s.policy? n = some p → s.freeEntry? n = none →
        t.miles = s.miles ∧ t.bales = s.bales ∧ t.pendingEvent (evStn n 2) = true ∧
        t.reg (Reg.mileStnTrigovf n) = BitVec.ofNat 32 (satWord 24 (s.reg (Reg.mileStnTrigovf n)).toNat).1 ∧
        (p.ovfStop = true → bitAt (t.stn n).stops causeOvf = true))

/-- Each completes. FIRE_AT_RESEND of a DECIDED remote entry of an ACTIVE endpoint whose predicted DUE has moved by more
than 1 µs records the new DUE and, where the segment has room, sends FIRE_AT with that DUE, ACTION 1, the pulse, the
entry index as CMD_ID and the bale; a smaller move changes nothing. STALL_CANCEL leaves no DECIDED entry of the station
with a pending command. FIRE_REPORT of an entry's own command with RESULT 0 moves it to FIRED; with RESULT 2 it does so
and records the read-back failure, which STN_RBFAIL counts, and a further report with RESULT 2 records it too (R755);
with RESULT 3, and a report that matches no entry and has another RESULT than 2, changes nothing (log entry 35).
REMOTE_FREE of a FIRED entry whose report and crossing have come, and MERGED_PULSE_FREE of a merged FIRED entry, free
it; of any other entry they change nothing. No other entry changes. (15_verdict_and_milestones.md,
16_progress_guarantees.md, 12_suras_link.md.) -/
def Obligations.RemoteCommandsFollowThePrediction : Prop :=
  (∀ (s : State) (e due p : Nat) (m : Mile), s.mile? e = some m → m.pending = some due → m.remoteDue = true →
    s.epActive m.link m.ch = true → s.predicted m = some p →
    let new := (s.tb.lt.toNat + p) % 2 ^ 48
    ∃ t, exec (.fireAtResend e) s = .next t ∧
      ((modDiff 48 due new).natAbs ≤ 1000 → State.unchanged s t) ∧
      (1000 < (modDiff 48 due new).natAbs → t.mile? e = some { m with pending := some new } ∧
        (∀ x, x ≠ e → t.mile? x = s.mile? x) ∧
        ((s.link m.link).canSend 2 4 = true → (s.link m.link).queue = [] → s.asleep m.link = false →
          t.out = [(m.link, 0x24, m.ch, [new + m.rch % 2 ^ 8 * 2 ^ 48 + 2 ^ 56,
            m.pulse % 2 ^ 16 + e % 2 ^ 16 * 2 ^ 16 + m.bale % 2 ^ 32 * 2 ^ 32])]) ∧
        State.onlyRegs [Reg.slinkStat m.link] s { t with miles := s.miles, links := s.links })) ∧
  (∀ (s : State) (n : Nat), (s.miles.map Mile.idx).Nodup →
    ∃ t, exec (.stallCancel n) s = .next t ∧
      t.miles = s.miles.map (fun m => if m.stn = n ∧ m.st = 2 then { m with pending := none } else m) ∧
      t.bales = s.bales ∧ t.stations = s.stations ∧ t.refs = s.refs ∧ t.fio = s.fio ∧ t.eps = s.eps) ∧
  (∀ (s : State) (e time rch result : Nat) (m : Mile), s.mile? e = some m → m.remote = true → m.st = 2 ∨ m.st = 3 →
    m.reported = false → m.stn < 16 → s.sized = true →
    ∃ t, exec (.fireReport m.link m.ch time rch result e m.bale) s = .next t ∧
      (result = 0 → t.mile? e = some { m with st := 3, reported := true, pending := none }) ∧
      (result = 2 → t.mile? e = some { m with st := 3, reported := true, pending := none, fire := max m.fire 1 } ∧
        t.reg (Reg.mileStnRbfail m.stn) = BitVec.ofNat 32 (satWord 24 (s.reg (Reg.mileStnRbfail m.stn)).toNat).1) ∧
      (result = 0 ∨ result = 2 → ∀ x, x ≠ e → t.mile? x = s.mile? x) ∧ (result = 3 → State.unchanged s t)) ∧
  (∀ (s : State) (e time rch : Nat) (m : Mile), s.mile? e = some m → m.remote = true → m.st = 2 ∨ m.st = 3 →
    m.reported = true → m.stn < 16 → s.sized = true →
    ∃ t, exec (.fireReport m.link m.ch time rch 2 e m.bale) s = .next t ∧ t.mile? e = some { m with fire := max m.fire 1 } ∧
      t.reg (Reg.mileStnRbfail m.stn) = BitVec.ofNat 32 (satWord 24 (s.reg (Reg.mileStnRbfail m.stn)).toNat).1 ∧
      ∀ x, x ≠ e → t.mile? x = s.mile? x) ∧
  (∀ (s : State) (link addr time rch result cmd bale : Nat), result ≠ 2 →
    (∀ m, s.mile? cmd = some m → m.bale ≠ bale ∨ m.link ≠ link ∨ m.ch ≠ addr ∨ m.remote = false ∨ m.reported = true) →
    ∃ t, exec (.fireReport link addr time rch result cmd bale) s = .next t ∧ State.unchanged s t) ∧
  (∀ (s : State) (e : Nat) (c : Instr) (go : Mile → Bool),
    c = .remoteFree e ∧ go = (fun m => m.st == 3 && m.remote && m.reported && m.crossed && m.fire != 2) ∨
      c = .mergedPulseFree e ∧ go = (fun m => m.merged && m.st == 3) →
    ∃ t, exec c s = .next t ∧ ((s.mile? e).any go = true → t.mile? e = none ∧ ∀ x, x ≠ e → t.mile? x = s.mile? x) ∧
      ((s.mile? e).any go = false → State.unchanged s t))

/-- FIRE_REPORT with RESULT 1, 4 or 5 for a remote entry, REPORT_TIMEOUT of a crossed remote entry without a report, and
COMPARATOR_DISAGREE of an entry that has not crossed its fire position complete: STN_MISSED counts and MISSED is pending
(R752). A BACKUP channel whose output holds no other entry pulses, and the entry is FIRED with FIRE 2 (R753). Without
one, a default action 0x20 asserts STOP_LINE and frees the entry (R754). Every other entry stays. COMPARATOR_DISAGREE
adds a fault entry of scope DEVICE with code 0x09. REPORT_TIMEOUT and COMPARATOR_DISAGREE of any other entry change
nothing. (That the entry of a default action's ejector which is missed in turn fires nothing but its backup, and the
firing of a backup at once, are log entry 35.) (15_verdict_and_milestones.md, 20_faults_and_recovery.md.) -/
def Obligations.MissedMilestonesAreCountedAndBackedUp : Prop :=
  (∀ (s : State) (c : Instr) (e time rch result : Nat) (m : Mile), s.sized = true → m.stn < 16 → s.mile? e = some m →
    c = .fireReport m.link m.ch time rch result e m.bale ∧ (result = 1 ∨ result = 4 ∨ result = 5) ∧ m.remote = true ∧
        (m.st = 2 ∨ m.st = 3) ∧ m.reported = false ∨
      c = .reportTimeout e ∧ m.st = 2 ∧ m.remote = true ∧ m.crossed = true ∧ m.reported = false ∨
      c = .comparatorDisagree e ∧ m.st = 2 ∧ m.target ≠ none ∧ m.crossed = false →
    ∃ t, exec c s = .next t ∧
      t.reg (Reg.mileStnMissed m.stn) = BitVec.ofNat 32 (satWord 24 (s.reg (Reg.mileStnMissed m.stn)).toNat).1 ∧
      t.pendingEvent (evStn m.stn 3) = true ∧
      (c = .comparatorDisagree e → State.faultAdded s t 4 none 0x09 5 (e % 256) m.bale) ∧
      (m.backup < 32 → (s.fioCh m.backup).entry = none → (t.fioCh m.backup).pulse = true ∧
        (t.mile? e).map (fun x => (x.st, x.fire)) = some (3, 2) ∧ (∀ x, x ≠ e → t.mile? x = s.mile? x) ∧
        ∀ k, k ≠ m.backup → t.fioCh k = s.fioCh k) ∧
      (∀ p, m.backup = 255 → m.fire ≠ 3 → s.policy? m.stn = some p → p.dflt = 0x20 → t.mile? e = none ∧
        bitAt (t.stn m.stn).stops causeDefault = true ∧ ∀ x, x ≠ e → t.mile? x = s.mile? x)) ∧
  (∀ (s : State) (e : Nat) (c : Instr) (go : Mile → Bool),
    c = .reportTimeout e ∧ go = (fun m => m.st == 2 && m.remote && m.crossed && !m.reported) ∨
      c = .comparatorDisagree e ∧ go = (fun m => m.st == 2 && m.target.isSome && !m.crossed) →
    (s.mile? e).any go = false → ∃ t, exec c s = .next t ∧ State.unchanged s t)

/-- ODO_INPUT_ACCEPT completes and the channel takes the sample's levels. Without an index event: in quadrature modes a
change of both inputs leaves the count, sets ILLEGAL, counts in ERR_CNT and raises ODO_ILLEGAL (R640); a change of one
counts by the mode's table (R639), and no change leaves everything else; pulse/direction mode counts a rising A by the
level of B (R641); Hall mode counts an adjacent step and flags 000 and 111 with HALL_INV and a jump with HALL_JUMP
(R642). MODE bit 4 negates every tick (R644). Where the channel is the active primary of one station, in no handover,
the station's reference moves with the count. An index edge without a change of A and B latches the count, and sets it
to 0 in INDEX mode 1, and in mode 2 while ARMED, which it clears (R648); the drift is the net ticks since the last index
event less CPR (R650). No other channel's inputs and count change. (Readings of these rules are in log entry 29.)
(13_odometers.md.) -/
def Obligations.OdometerSamplesMoveTheCount : Prop :=
  (∀ (s : State) (ch : Nat) (a b z bNew : Bool), ch < 16 → s.sized = true →
    (s.odoCh ch).z = true ∨ z = false ∨ s.fget (Reg.odoCfg ch) 17 16 = 0 ∨ s.fget (Reg.odoCfg ch) 2 0 = 4 →
    let o := s.odoCh ch
    let m := s.fget (Reg.odoCfg ch) 2 0
    let tickBy := fun (t : State) (d : Int) =>
      let d := if s.flag (Reg.odoCfg ch) 4 then -d else d
      (t.odoCh ch).cnt = BitVec.ofInt 48 (o.cnt.toNat + d) ∧
      (∀ n, n < 16 → s.bindings ch = [(n, 0)] → (s.ref n).src = 0 → (s.ref n).lost = false → (s.ref n).handover = false →
        o.stallBad = false → (t.ref n).pos = BitVec.ofInt 48 ((s.ref n).pos.toNat + d))
    let err := fun (t : State) =>
      (t.odoCh ch).cnt = o.cnt ∧ t.reg (Reg.odoErrCnt ch) = BitVec.ofNat 32 (satWord 24 (s.reg (Reg.odoErrCnt ch)).toNat).1
    ∃ t, exec (.odoInputAccept ch a b z bNew) s = .next t ∧ (t.odoCh ch).a = a ∧ (t.odoCh ch).b = b ∧ (t.odoCh ch).z = z ∧
      (∀ k, k ≠ ch → (t.odoCh k).cnt = (s.odoCh k).cnt ∧ (t.odoCh k).a = (s.odoCh k).a ∧ (t.odoCh k).b = (s.odoCh k).b) ∧
      (m ≤ 2 → o.a ≠ a → o.b ≠ b → err t ∧ t.flag (Reg.odoStat ch) 2 = true ∧ t.pendingEvent (evOdo ch) = true) ∧
      (m ≤ 2 → (o.a ≠ a ↔ o.b = b) →
        tickBy t (if m = 2 ∨ o.a ≠ a ∧ (m = 1 ∨ b = false)
          then (if (quadIndex o.a o.b + 1) % 4 = quadIndex a b then 1 else -1) else 0)) ∧
      (m = 3 → bNew = false → tickBy t (if o.a = false ∧ a = true then (if b then -1 else 1) else 0)) ∧
      (m = 3 → bNew = true → o.a = false → a = true →
        (t.odoCh ch).cnt = BitVec.ofInt 48 (o.cnt.toNat + if b = s.flag (Reg.odoCfg ch) 4 then 1 else -1) ∧
        t.flag (Reg.odoStat ch) 2 = true) ∧
      (m = 4 → ∀ i j, hallIndex o.a o.b o.z = some i → hallIndex a b z = some j → i ≠ j →
        ((i + 1) % 6 = j → tickBy t 1) ∧ ((j + 1) % 6 = i → tickBy t (-1)) ∧
        ((i + 1) % 6 ≠ j → (j + 1) % 6 ≠ i → err t ∧ t.flag (Reg.odoStat ch) 9 = true)) ∧
      (m = 4 → (o.a ≠ a ∨ o.b ≠ b ∨ o.z ≠ z) → hallIndex a b z = none → err t ∧ t.flag (Reg.odoStat ch) 8 = true) ∧
      (o.a = a → o.b = b → o.z = z → State.onlyRegs [] s { t with odo := s.odo })) ∧
  (∀ (s : State) (ch : Nat) (bNew : Bool), ch < 16 → s.sized = true → (s.odoCh ch).z = false →
    let o := s.odoCh ch
    let mode := s.fget (Reg.odoCfg ch) 17 16
    let zero := mode = 1 ∨ mode = 2 ∧ s.flag (Reg.odoStat ch) 5 = true
    mode ≠ 0 → s.fget (Reg.odoCfg ch) 2 0 ≠ 4 →
    ∃ t, exec (.odoInputAccept ch o.a o.b true bNew) s = .next t ∧ (t.odoCh ch).latch = o.cnt ∧
      t.flag (Reg.odoStat ch) 4 = true ∧ (t.odoCh ch).turn = some 0 ∧ (zero → (t.odoCh ch).cnt = 0) ∧
      (¬ zero → (t.odoCh ch).cnt = o.cnt) ∧
      (∀ k, o.turn = some k → s.reg (Reg.odoCpr ch) ≠ 0 →
        t.reg (Reg.odoDrift ch) = BitVec.ofInt 32 (k.natAbs - (s.reg (Reg.odoCpr ch)).toNat)) ∧ t.flag (Reg.odoStat ch) 5 = (s.flag (Reg.odoStat ch) 5 && mode != 2))

/-- Each completes. LOS_SET of an RS-422 channel without LOS sets LOS, makes the channel unhealthy and adds a fault
entry with code 0x0D. Where that channel was the active primary of one station and the secondary is eligible, a handover
to the secondary starts and the reference holds its position (R660); where nothing can take over, the reference is LOST,
its event is pending and STOP_LINE has its cause (R668). Of another channel it changes nothing. LOS_CLEAR clears LOS of
an RS-422 channel while V24_B is there, after which HEALTHY follows the other reasons of R655 and the next index event
has no previous one. ERROR_RATE_WINDOW_END starts a new error count, with no error-rate reason left. PERIOD_STALL makes
ODO.PERIOD read 0xFFFF_FFFF. Otherwise LOS_SET and LOS_CLEAR change nothing but what the model notes of the channel's
own input pair. No other channel changes; with no station bound to the channel no other state changes. (The fault
entry's ACTION is log entry 29.) (13_odometers.md, 20_faults_and_recovery.md.) -/
def Obligations.OdometerHealthMovesTheReference : Prop :=
  (∀ (s : State) (ch : Nat), ch < 16 → s.sized = true → s.rs422 ch = true → s.flag (Reg.odoStat ch) 1 = false →
    ∃ t, exec (.losSet ch) s = .next t ∧ t.flag (Reg.odoStat ch) 1 = true ∧ t.flag (Reg.odoStat ch) 6 = false ∧
      State.faultAdded s t 0 ((s.bindings ch).head?.map Prod.fst) 0x0D 4 ch 0 ∧
      t.odoCh ch = { s.odoCh ch with pairLos := true } ∧ (∀ k, k ≠ ch → t.odoCh k = s.odoCh k) ∧
      (s.bindings ch = [] → State.onlyRegs (Reg.odoStat ch :: faultRegs) s { t with odo := s.odo }) ∧
      (∀ n d, n < 16 → s.bindings ch = [(n, 0)] → s.odoDecl? n = some d → d.primary = ch → (s.ref n).src = 0 →
        (s.ref n).lost = false → s.flag (Reg.odoStat ch) 6 = true →
        (d.secondary ≠ 255 → d.secondary ≠ ch → s.odoOk d.secondary = true → (s.ref n).req = [] → (s.ref n).wait = [] →
          (t.ref n).src = 1 ∧ (t.ref n).handover = true ∧ (t.ref n).lost = false ∧ (t.ref n).pos = (s.ref n).pos ∧
          t.stations = s.stations) ∧
        (d.secondary = 255 → d.synth = false →
          (t.ref n).lost = true ∧ (t.ref n).pos = (s.ref n).pos ∧ t.pendingEvent (evStn n 10) = true ∧
          bitAt (t.stn n).stops causeLost = true))) ∧
  (∀ (s : State) (ch : Nat) (lost : Bool) (c : Instr), ch < 16 → s.sized = true →
    lost = true ∧ c = .losSet ch ∧ (s.rs422 ch = false ∨ s.flag (Reg.odoStat ch) 1 = true) ∨
      lost = false ∧ c = .losClear ch ∧ (s.rs422 ch = false ∨ s.flag (Reg.odoStat ch) 1 = false ∨ (s.odoCh ch).supplyLos = true) →
    ∃ t, exec c s = .next t ∧ State.unchanged s { t with odo := s.odo } ∧ (∀ k, k ≠ ch → t.odoCh k = s.odoCh k) ∧
      t.odoCh ch = (if s.rs422 ch = true then { s.odoCh ch with pairLos := lost } else s.odoCh ch)) ∧
  (∀ (s : State) (ch : Nat), ch < 16 → s.sized = true → s.rs422 ch = true → s.flag (Reg.odoStat ch) 1 = true →
    (s.odoCh ch).supplyLos = false →
    ∃ t, exec (.losClear ch) s = .next t ∧ t.flag (Reg.odoStat ch) 1 = false ∧ t.flag (Reg.odoStat ch) 6 = t.odoOk ch ∧
      t.odoCh ch = { s.odoCh ch with turn := none, pairLos := false } ∧ (∀ k, k ≠ ch → t.odoCh k = s.odoCh k) ∧
      (s.bindings ch = [] → State.onlyRegs [Reg.odoStat ch] s { t with odo := s.odo })) ∧
  (∀ (s : State) (ch : Nat), ch < 16 → s.sized = true →
    ∃ t, exec (.errorRateWindowEnd ch) s = .next t ∧ t.odoCh ch = { s.odoCh ch with errs := 0, errBad := false } ∧
      t.flag (Reg.odoStat ch) 6 = t.odoOk ch ∧ (∀ k, k ≠ ch → t.odoCh k = s.odoCh k) ∧
      (s.bindings ch = [] → State.onlyRegs [Reg.odoStat ch] s { t with odo := s.odo })) ∧
  (∀ (s : State) (ch : Nat), ch < 16 → ∃ t, exec (.periodStall ch) s = .next t ∧ t.reg (Reg.odoPeriod ch) = 0xFFFFFFFF ∧
    State.onlyRegs [Reg.odoPeriod ch] s t)

/-- Each completes. SPEED_WINDOW sets REF_SPEED to 1,000 times the net forward ticks of the window, in two's complement,
and starts a new window (R654). REF_RETURN of a station in no handover, whose one requalifying source has its ticks
behind it and is healthy, starts the handover back to a better source and raises REF_RETURN (R666); a worse source only
becomes eligible (log entry 30). Without such a source it changes nothing. SYNTH_TICK moves a reference that the
synthetic source drives, in no handover, by the whole ticks that its speed gives over the time, and keeps the fraction;
of another reference nothing changes. SYNTH_MAX_EXPIRY with no healthy channel makes the reference LOST with its event
and STOP_LINE cause (R669), and with a healthy primary hands over to it; where the synthetic source is not active it
changes nothing. (13_odometers.md.) -/
def Obligations.ReferenceSourcesReturnAndRun : Prop :=
  (∀ (s : State) (n : Nat), n < 16 → s.sized = true →
    ∃ t, exec (.speedWindow n) s = .next t ∧ t.reg (Reg.odoRefSpeed n) = BitVec.ofInt 32 ((s.ref n).window * 1000) ∧
      t.ref n = { s.ref n with window := 0 } ∧ (∀ k, k ≠ n → t.ref k = s.ref k) ∧
      State.onlyRegs [Reg.odoRefSpeed n] s { t with refs := s.refs }) ∧
  (∀ (s : State) (n y : Nat), n < 16 → s.sized = true → (s.ref n).lost = false → (s.ref n).handover = false →
    (s.ref n).req = [(y, 0)] → s.sourceOk n y = true →
    ∃ t, exec (.refReturn n) s = .next t ∧ (t.ref n).req = [] ∧ (t.ref n).pos = (s.ref n).pos ∧ (∀ k, k ≠ n → t.ref k = s.ref k) ∧
      (y < (s.ref n).src → (t.ref n).src = y ∧ (t.ref n).handover = true ∧ t.pendingEvent (evStn n 9) = true ∧
        State.onlyRegs [Reg.odoRefSwitchCnt n] s { t with refs := s.refs }) ∧
      ((s.ref n).src ≤ y → { t with refs := s.refs, out := s.out, phy := s.phy.still t.phy } = s)) ∧
  (∀ (s : State) (n : Nat), (s.ref n).lost = true ∨ (s.ref n).handover = true ∨ (s.ref n).req = [] →
    ∃ t, exec (.refReturn n) s = .next t ∧ State.unchanged s t) ∧
  (∀ (s : State) (n ns : Nat), n < 16 → s.sized = true → (s.ref n).src = 2 → (s.ref n).lost = false → (s.ref n).handover = false →
    s.odoDecl? n ≠ none →
    let v := (s.ref n).synthFrac + (s.ref n).synthSpeed.natAbs * ns
    ∃ t, exec (.synthTick n ns) s = .next t ∧
      (t.ref n).pos = BitVec.ofInt 48 ((s.ref n).pos.toNat + (v / 10 ^ 9 : Nat) * (s.ref n).synthSpeed.sign) ∧
      (t.ref n).synthFrac = v % 10 ^ 9 ∧ (t.ref n).src = 2 ∧ (∀ k, k ≠ n → t.ref k = s.ref k)) ∧
  (∀ (s : State) (n ns : Nat), (s.ref n).src ≠ 2 ∨ (s.ref n).lost = true → ∃ t, exec (.synthTick n ns) s = .next t ∧ State.unchanged s t) ∧
  (∀ (s : State) (n : Nat) (d : OdoDecl), n < 16 → s.sized = true → (s.ref n).src = 2 → (s.ref n).lost = false →
    s.odoDecl? n = some d →
    ∃ t, exec (.synthMaxExpiry n) s = .next t ∧ (t.ref n).pos = (s.ref n).pos ∧ (∀ k, k ≠ n → t.ref k = s.ref k) ∧
      (s.sourceOk n 0 = false → s.sourceOk n 1 = false → (t.ref n).lost = true ∧ t.pendingEvent (evStn n 10) = true ∧
        bitAt (t.stn n).stops causeLost = true) ∧
      (s.sourceOk n 0 = true → (s.ref n).req = [] → (s.ref n).wait = [] →
        (t.ref n).src = 0 ∧ (t.ref n).handover = true ∧ (t.ref n).lost = false ∧
        State.onlyRegs [Reg.odoRefSwitchCnt n] s { t with refs := s.refs })) ∧
  (∀ (s : State) (n : Nat), (s.ref n).src ≠ 2 ∨ (s.ref n).lost = true →
    ∃ t, exec (.synthMaxExpiry n) s = .next t ∧ State.unchanged s t)

/-- Each completes. CAPTURE_GO without a capture in progress switches the image domain on and waits for the camera's
next bale with BUSY 1; during a capture it changes nothing. CAPTURE_DONE of a bale whose lines have all arrived ends the
capture; else it changes nothing. DISP_RD and CODE_RD write the software read index of their ring, which frees the
places before it, and nothing else, and nothing with the domain off (that equal indexes leave nothing unread is log
entry 37). REPLAY_GO while a replay runs only takes the station number. It is refused with RESULT 2 for a station
without an active block, or without a vision camera, with 3 for an image address outside the station's partition, and
with 1 without a free job slot, and changes nothing else (R495). Otherwise REPLAY_STAT reads BUSY, a bale of kind replay
with the header's tag joins the station's bales, and no milestone appears (R492). (10_intake_and_image_pipeline.md,
19_power_and_clocks.md.) -/
def Obligations.CapturesReplaysAndRings : Prop :=
  (∀ (s : State) (ini c : Nat), s.capture = none →
    ∃ t, exec (.captureGo ini c) s = .next t ∧ t.domOn domIsp = true ∧ t.capture = some (c % 32, none) ∧
      (t.reg Reg.intakeCapture).toNat = 2 ^ 31 + c % 32 ∧
      (s.domOn domIsp = true → State.onlyRegs [Reg.intakeCapture] s { t with capture := s.capture })) ∧
  (∀ (s : State) (ini c : Nat), s.capture ≠ none → ∃ t, exec (.captureGo ini c) s = .next t ∧ State.unchanged s t) ∧
  (∀ (s : State) (c id : Nat), s.capture = some (c, some id) → (∀ b, s.bale? id = some b → s.capturing b = false) →
    ∃ t, exec .captureDone s = .next t ∧ t.capture = none ∧ t.flag Reg.intakeCapture 31 = false ∧
      t.fget Reg.intakeCapture 4 0 = s.fget Reg.intakeCapture 4 0 ∧
      State.onlyRegs [Reg.intakeCapture] s { t with capture := s.capture }) ∧
  (∀ s : State, (∀ c id, s.capture = some (c, some id) → ∃ b, s.bale? id = some b ∧ s.capturing b = true) →
    ∃ t, exec .captureDone s = .next t ∧ State.unchanged s t) ∧
  (∀ (s : State) (ini k v : Nat), k < 16 → s.domOn domIsp = true →
    (v < 65536 → ∃ t, exec (.dispRd ini k v) s = .next t ∧ t.fget (Reg.ispDispRd k) 15 0 = v ∧
      t.unreadIn k = (min (s.unreadIn k).1 (unread (s.fget (Reg.ispDispLines k) 15 0) v (s.fget (Reg.ispDispWr k) 15 0)), (s.unreadIn k).2) ∧
      (∀ j, j ≠ k → t.unreadIn j = s.unreadIn j) ∧ State.onlyRegs [Reg.ispDispRd k] s { t with rings := s.rings }) ∧
    (v < 32 → ∃ t, exec (.codeRd ini k v) s = .next t ∧ t.fget (Reg.ispCodeRd k) 4 0 = v ∧
      t.unreadIn k = ((s.unreadIn k).1, min (s.unreadIn k).2 (unread (s.fget (Reg.ispCodeFrames k) 4 0) v (s.fget (Reg.ispCodeWr k) 4 0))) ∧
      (∀ j, j ≠ k → t.unreadIn j = s.unreadIn j) ∧ State.onlyRegs [Reg.ispCodeRd k] s { t with rings := s.rings })) ∧
  (∀ (s : State) (ini k v : Nat) (c : Instr), s.domOn domIsp = false → c = .dispRd ini k v ∨ c = .codeRd ini k v →
    ∃ t, exec c s = .next t ∧ State.unchanged s t) ∧
  (∀ (s : State) (ini n : Nat), n < 16 →
    let a := s.fget Reg.ispReplayAddrLo 31 0 + s.fget Reg.ispReplayAddrHi 7 0 * 2 ^ 32
    let h := s.dramAt a 64
    ∃ t, exec (.replayGo ini n) s = .next t ∧ t.fget Reg.ispReplay 3 0 = n ∧
      (s.flag Reg.ispReplayStat 31 = true → State.onlyRegs [Reg.ispReplay] s t) ∧
      (s.flag Reg.ispReplayStat 31 = false → s.active? n = none →
        t.reg Reg.ispReplayStat = 2 ∧ State.onlyRegs [Reg.ispReplay, Reg.ispReplayStat] s t) ∧
      (∀ blk, s.flag Reg.ispReplayStat 31 = false → s.active? n = some blk → blk.visionCam?.bind s.camDecl? = none →
        t.reg Reg.ispReplayStat = 2 ∧ State.onlyRegs [Reg.ispReplay, Reg.ispReplayStat] s t) ∧
      (∀ blk e c, s.flag Reg.ispReplayStat 31 = false → s.active? n = some blk → s.env? n = some e →
        blk.visionCam?.bind s.camDecl? = some c →
        let len := 64 + s.linesOf c * c.planes * c.width * c.bpp
        let good := leAt h 0 4 = 0x57415248 ∧ leAt h 4 1 = c.cam ∧ leAt h 5 1 = c.pixfmt ∧ leAt h 6 2 = c.width ∧
          leAt h 8 4 = s.linesOf c
        (e.inPayload a 64 = false → t.reg Reg.ispReplayStat = 3 ∧ State.onlyRegs [Reg.ispReplay, Reg.ispReplayStat] s t) ∧
        (e.inPayload a 64 = true → ¬ good → t.reg Reg.ispReplayStat = 2 ∧
          State.onlyRegs [Reg.ispReplay, Reg.ispReplayStat] s t) ∧
        (e.inPayload a 64 = true → good → e.inPayload a len = true → s.maxJobs n < s.slotsReserved n + blk.baleSlots →
          t.reg Reg.ispReplayStat = 1 ∧ State.onlyRegs [Reg.ispReplay, Reg.ispReplayStat] s t) ∧
        (e.inPayload a 64 = true → good → e.inPayload a len = true → s.slotsReserved n + blk.baleSlots ≤ s.maxJobs n →
          t.flag Reg.ispReplayStat 31 = true ∧ (∀ d ∈ stationDomains, t.domOn d = true) ∧
          (∃ b ∈ t.bales, b.kind = 2 ∧ b.stn = n ∧ b.uid = blk.uid ∧ b.tag = leAt h 12 4 ∧ b.entry = none) ∧
          (∀ b ∈ s.bales, b ∈ t.bales) ∧ t.miles = s.miles)))

/-- Each completes. LINE_TRIG_DELAYED sends the oldest trigger that a camera held back, as LINE_TRIG with its bale and
line where that bale still runs and its endpoint is ACTIVE, and notes the time of what it sends; without one it changes
nothing. LINE_DATA that no admitted bale waits for is discarded: LINE_UNSOLICITED is pending and nothing else changes
(R778). Pixels of a line enter the bale's raw area in DRAM at their place (R451), no other byte changes before the line
is complete, and with LAST and a full line the plane is complete. LINE_MISSING of a line that was triggered, is not held
back and has not arrived aborts the bale: it is gone, STN_ABANDON counts, LINE_MISSING is pending, a fault entry with
code 0x13 is added, and its milestone is as before, so that it takes the default action at P_dead (R497). Of another
line it changes nothing. (10_intake_and_image_pipeline.md, 16_progress_guarantees.md.) -/
def Obligations.LinesArriveOrAreMissed : Prop :=
  (∀ (s : State) (k : Nat) (c : CamDecl) (p : Nat × Nat) (r : List (Nat × Nat)), k < 32 → s.sized = true → s.camDecl? k = some c →
    (s.cam k).delayed = p :: r →
    ∃ t, exec (.lineTrigDelayed k) s = .next t ∧ t.cam k = { s.cam k with delayed := r, sentAt := if (s.bale? p.1).isSome then some s.now else (s.cam k).sentAt } ∧
      (∀ j, j ≠ k → t.cam j = s.cam j) ∧
      (s.bale? p.1 ≠ none → s.epActive c.link c.addr = true → (s.link c.link).canSend 2 3 = true → (s.link c.link).queue = [] →
        s.asleep c.link = false → p.1 < 2 ^ 32 → t.out = [(c.link, 0x23, c.addr, [p.1 * 2 ^ 32 + p.2 % 2 ^ 16 * 2 ^ 16])]) ∧
      (s.bale? p.1 = none → t.out = []) ∧ State.onlyRegs [Reg.slinkStat c.link] s { t with cams := s.cams, links := s.links }) ∧
  (∀ (s : State) (k : Nat), (s.cam k).delayed = [] → ∃ t, exec (.lineTrigDelayed k) s = .next t ∧ State.unchanged s t) ∧
  (∀ (s : State) (k id line plane off : Nat) (last : Bool) (px : List Nat),
    (∀ b c, s.bale? id = some b → s.camDecl? k = some c →
      b.kind ≠ 0 ∨ (∀ d ∈ s.camsOf b.stn, d.cam ≠ k) ∨ s.linesOf c ≤ line ∨ c.planes ≤ plane ∨ c.width < off * 16 + px.length ∨
        ∃ x ∈ b.raw, x.cam = k ∧ x.line = line ∧ x.plane = plane ∧ x.done = true) →
    ∃ t, exec (.lineData k id line plane off last px) s = .next t ∧ t.pendingEvent 472 = true ∧ State.onlyRegs [] s t) ∧
  (∀ (s : State) (k id line plane off : Nat) (last : Bool) (px : List Nat) (b : Bale) (c : CamDecl),
    s.bale? id = some b → s.camDecl? k = some c → b.kind = 0 → (∃ d ∈ s.camsOf b.stn, d.cam = k) → line < s.linesOf c →
    plane < c.planes → off * 16 + px.length ≤ c.width →
    (∀ x ∈ b.raw, x.cam = k → x.line = line → x.plane = plane → x.done = false) →
    let new := placePx (b.rawOf k line plane) (off * 16) (px.map fun v => v % 2 ^ c.depth)
    let at_ := s.rawBase b k + (line * c.planes + plane) * c.width * c.bpp + off * 16 * c.bpp
    let bs := lineBytes c (px.map fun v => v % 2 ^ c.depth)
    ∃ t, exec (.lineData k id line plane off last px) s = .next t ∧
      (∀ u, t.bale? id = some u → u.rawOf k line plane = new ∧
        u.raw.any (fun x => x.cam == k && x.line == line && x.plane == plane && x.done) = (last && new.length == c.width)) ∧
      (last = false ∨ s.capture = none ∧ (∀ blk, s.blockOf b = some blk → ∀ x ∈ blk.ctxs, x.outputs = 4) →
        t.bale? id ≠ none ∧ t.miles = s.miles) ∧
      (last = false → s.memOk = true →
        (∀ a, t.dramByteAt a = if at_ ≤ a ∧ a < at_ + bs.length then bs.getD (a - at_) 0 else s.dramByteAt a) ∧
        { t with bales := s.bales, dram := s.dram, out := s.out, phy := s.phy.still t.phy } = s)) ∧
  (∀ (s : State) (k id line : Nat) (b : Bale) (c : CamDecl), s.bale? id = some b → s.camDecl? k = some c → b.stn < 16 →
    c.link < 16 →
    ∃ t, exec (.lineMissing k id line) s = .next t ∧
      ((∃ p ∈ b.trig, p.1 = k ∧ line < p.2) → (id, line) ∉ (s.cam k).delayed → b.lineDone c line = false →
        t.bale? id = none ∧ t.pendingEvent (evStn b.stn 12) = true ∧ t.miles = s.miles ∧
        t.reg (Reg.faultStnAbandon b.stn) = BitVec.ofNat 32 (satWord 24 (s.reg (Reg.faultStnAbandon b.stn)).toNat).1 ∧
        State.faultAdded s t 3 (some b.stn) 0x13 2 c.link b.tag) ∧
      ((∀ p ∈ b.trig, p.1 = k → p.2 ≤ line) ∨ (id, line) ∈ (s.cam k).delayed ∨ b.lineDone c line = true → State.unchanged s t))

/-- ISP_PASS_START completes. During a pass, or with none ready, it changes nothing. Otherwise it starts the earliest
ready pass of one station (R467): as few rounds pass as bring some station with a share the credit that its pass asks
for in pixels, each round adds every such station its SHARE_BW, the first of them with enough credit is served and pays
for its pass; the pass is recorded and CTX_STAT shows it; nothing but the stations' credits and that bale's slot
changes. (That a pass counts by its pixels is log entry 37.) ISP_PASS_END of the running pass completes: the pass is
over, and for a context with only the vision output the slot holds the pass's rows, is ready, and stands in the bale's
vision area in DRAM; of another context it changes nothing. With a residue mismatch a bale that is not abandoned is
aborted: while its re-executions are below RETRY_MAX they count up by one, the bale starts again from stripe 0, and a
fault entry of scope DEVICE with code 0x03 is added. (10_intake_and_image_pipeline.md, 20_faults_and_recovery.md.) -/
def Obligations.ImagePassesTakeTurns : Prop :=
  (∀ s : State, s.isp ≠ none ∨ (∀ n < 16, s.passesOf n = []) → ∃ t, exec .ispPassStart s = .next t ∧ State.unchanged s t) ∧
  (∀ s : State, s.isp = none → s.sized = true → (∃ n < 16, s.passesOf n ≠ []) →
    let share := fun n => ((s.env? n).map Env.shareBw).getD 0
    let head := fun n => s.firstPass (s.passesOf n)
    ∃ t n id x k, exec .ispPassStart s = .next t ∧ n < 16 ∧ head n = some (id, x, k) ∧ (id, x, k) ∈ s.passesOf n ∧
      t.isp = some (x.ctx, id, k) ∧
      ((∃ m < 16, s.passesOf m ≠ [] ∧ share m ≠ 0) → share n ≠ 0 ∧ ∃ r,
        (∀ m < 16, s.passesOf m ≠ [] → share m ≠ 0 →
          (t.stn m).ispDeficit + (if m = n then s.passSize (id, x, k) else 0) = (s.stn m).ispDeficit + r * share m) ∧
        (∀ m < 16, ∀ p, head m = some p → share m ≠ 0 → 0 < r → (s.stn m).ispDeficit + (r - 1) * share m < s.passSize p) ∧
        (∀ m < n, ∀ p, head m = some p → share m ≠ 0 → (s.stn m).ispDeficit + r * share m < s.passSize p)) ∧
      (t.reg (Reg.ispCtxStat x.ctx)).toNat = 2 ^ 31 + n * 65536 ∧
      (∀ m, t.stn m = { s.stn m with ispDeficit := (t.stn m).ispDeficit }) ∧
      State.onlyRegs [Reg.ispCtxStat x.ctx] s { t with isp := s.isp, stations := s.stations, bales := s.bales }) ∧
  (∀ (s : State) (ctx : Nat) (err : Bool), (∀ id k, s.isp ≠ some (ctx, id, k)) →
    ∃ t, exec (.ispPassEnd ctx err) s = .next t ∧ State.unchanged s t) ∧
  (∀ (s : State) (ctx id k : Nat) (b : Bale) (blk : StnBlock) (x : IspCtx) (c : CamDecl), s.isp = some (ctx, id, k) →
    s.bale? id = some b → s.blockOf b = some blk → blk.ctxs.find? (fun c => c.ctx == ctx) = some x → x.outputs = 4 →
    s.camDecl? x.cam = some c →
    ∃ t u, exec (.ispPassEnd ctx false) s = .next t ∧ t.isp = none ∧ t.reg (Reg.ispCtxStat ctx) = 0 ∧ t.bale? id = some u ∧
      let rows := s.slotRows b blk x c k (!inlineCtx x c) (slotRange blk x c k)
      u.vis.length = b.vis.length ∧ (∀ v ∈ u.vis, v.stripe = k → v.ready = true ∧ v.rows = rows) ∧
      t.dram = applyWrites dramByte s.dram (s.slotWrites b x c k rows) ∧
      State.onlyRegs [Reg.ispCtxStat ctx] s { t with isp := s.isp, bales := s.bales, dram := s.dram }) ∧
  (∀ (s : State) (ctx id k : Nat) (b : Bale), s.isp = some (ctx, id, k) → s.bale? id = some b → b.stn < 16 →
    b.stopped = false → b.reexec < s.fget Reg.faultCfg 3 0 → s.memOk = true →
    ∃ t u, exec (.ispPassEnd ctx true) s = .next t ∧ t.isp = none ∧ t.bale? id = some u ∧ u.reexec = b.reexec + 1 ∧
      u.stripes = 0 ∧ u.inst = b.inst ∧ u.raw = b.raw ∧ State.faultAdded s t 1 none 0x03 5 0 b.tag ∧ State.storesNothing s t)

/-- Each completes. JOB_DISPATCH of a station with no queued job, or while the Khan rebuilds its state (R925), changes
nothing. Where its only queued job is the stripe job of a bale that may run and no tile is retiring: a bale that has no
instance yet gets the lowest-numbered instance of its place in the region whose tiles are all ready (R348), one that has
keeps it; each of those tiles then works for the bale ungated, the job runs, and no other tile changes. Where a tile
refuses its command the bale is aborted with code 0x06 and no tile works for it. LAYER_START of a layer of a running
stripe job, on a tile of it where that layer has not started, with its source rows present and its weight pages
resident, notes the start, shows the layer in TILE.LAYER and counts a stall where it waited; otherwise it changes
nothing. STRIPE_JOB_END of a job whose layers have all ended, and which is not the bale's last, completes the stripe: no
tile works for the bale, the job runs no more, and the bale's stripe count goes up by one, and DRAM changes only where
an in-line decoder takes its memory; a job of a bale that is gone leaves its tiles; in any other case nothing changes.
(07_layer_execution.md, 08_khan.md, 20_faults_and_recovery.md.) -/
def Obligations.StripeJobsRunOnTheirTiles : Prop :=
  (∀ (s : State) (n : Nat) (bad : Option Nat), s.queued n = [] ∨ s.boot.rebuilding = true → ∃ t, exec (.jobDispatch n bad) s = .next t ∧ State.unchanged s t) ∧
  (∀ (s : State) (j : Job) (b : Bale) (ks : List Nat) (i : Nat) (bad : Option Nat), s.sized = true → b.stn < 16 →
    s.boot.rebuilding = false → s.queued b.stn = [j] →
    j.kind = .stripe → s.bale? j.bale = some b → b.held = false → b.stopped = false → s.retiring = [] →
    (s.jobs.any fun x => x.bale == b.id && x.running) = false → ks ≠ [] → (∀ k ∈ ks, k < 72) → (s.stn b.stn).tiles ≠ [] →
    b.inst = some i ∧ s.placeLost b = false ∧ b.tiles = ks ∧ ks.all (s.tileReady b) = true ∨
      b.inst = none ∧
        (instancesOf (s.slotsOf b.stn) (s.placeTiles b)).find? (fun p => p.2.all (s.tileReady b)) = some (i, ks) →
    ∃ t u, exec (.jobDispatch b.stn bad) s = .next t ∧ t.bale? b.id = some u ∧
      (bad = none → u.inst = some i ∧ u.tiles = ks ∧ u.layer = 0 ∧ t.stripeRuns b.id = true ∧
        (∀ k ∈ ks, t.tile k = { s.tile k with work := some b.id, gated := false }) ∧ (∀ k, k ∉ ks → t.tile k = s.tile k) ∧
        t.stations = s.stations ∧ t.miles = s.miles ∧ State.onlyRegs (ks.map Reg.tileLayer) s
          { t with bales := s.bales, tiles := s.tiles, jobs := s.jobs }) ∧
      (∀ k, bad = some k → k ∈ ks → b.reexec < s.fget Reg.faultCfg 3 0 → u.reexec = b.reexec + 1 ∧ u.stripes = 0 ∧
        (∀ q < 72, (t.tile q).work ≠ some b.id) ∧ t.stripeRuns b.id = false ∧
        State.faultAdded s t 1 (some b.stn) 0x06 1 k b.tag)) ∧
  (∀ (s : State) (id i k : Nat) (waited : Bool) (b : Bale) (blk : StnBlock) (l : Layer), s.bale? id = some b → s.blockOf b = some blk →
    blk.layers[i]? = some l → b.stn < 16 → k < 72 → i < 4096 →
    let go := s.stripeRuns id = true ∧ k ∈ b.tiles ∧ b.layer ≤ i ∧ (i, k) ∉ b.begun ∧ s.sourcesReady b i l = true ∧
      s.resident blk.uid (s.pagesFor b blk l k) k = true
    ∃ t, exec (.layerStart id i k waited) s = .next t ∧ (¬ go → State.unchanged s t) ∧
      (go → t.bale? id = some { b with begun := b.begun ++ [(i, k)] } ∧ (∀ x, x ≠ id → t.bale? x = s.bale? x) ∧
        t.fget (Reg.tileLayer k) 31 20 = i ∧ t.fget (Reg.tileLayer k) 19 0 = s.fget (Reg.tileLayer k) 19 0 ∧
        t.reg (Reg.khanStnStall b.stn) = (if waited then
          BitVec.ofNat 32 (satWord 24 (s.reg (Reg.khanStnStall b.stn)).toNat).1 else s.reg (Reg.khanStnStall b.stn)) ∧
        State.onlyRegs [Reg.tileLayer k, Reg.khanStnStall b.stn] s { t with bales := s.bales })) ∧
  (∀ (s : State) (id : Nat) (b : Bale) (blk : StnBlock), s.sized = true → s.stripeRuns id = true → s.bale? id = some b →
    s.blockOf b = some blk → (s.bales.map Bale.id).Nodup → b.stripes + 1 < s.stripesOf b →
    ∃ t, exec (.stripeJobEnd id) s = .next t ∧ (b.layer < blk.layers.length → State.unchanged s t) ∧
      (blk.layers.length ≤ b.layer → (∃ u, t.bale? id = some u ∧ u.stripes = b.stripes + 1 ∧ u.rows = b.rows ∧ u.inst = b.inst) ∧
        (∀ k < 72, (t.tile k).work ≠ some id) ∧ t.stripeRuns id = false ∧ t.miles = s.miles ∧
        (blk.inlineDecs = [] → t.dram = s.dram))) ∧
  (∀ (s : State) (id : Nat), s.sized = true → s.stripeRuns id = true → s.bale? id = none →
    ∃ t, exec (.stripeJobEnd id) s = .next t ∧ (∀ k < 72, (t.tile k).work ≠ some id) ∧ t.stripeRuns id = false ∧
      t.miles = s.miles) ∧
  (∀ (s : State) (id : Nat), s.stripeRuns id = false → ∃ t, exec (.stripeJobEnd id) s = .next t ∧ State.unchanged s t)

/-- Each completes. PAGE_FETCH_END of a page that a tile's next layer for the bale needs and lacks, where a granted slot
is free or the tile runs no layer and takes no other's place, makes the page resident in that slot or in that of the
page whose next use lies farthest ahead: those bytes of tile SRAM hold the payload's, every other byte of tile SRAM
stays, and no register changes; a page that nothing needs, a bale that is gone and a tile of another station change
nothing. LAYER_END of the bale's next layer, started on every tile of the job, without a fault appends the layer's
output rows, stores a spilled layer's blocks in the bale's spill area and nothing else in memory, and moves on to the
next layer; jobs, tiles and milestones stay. With a fault, while re-executions are below RETRY_MAX, the bale is aborted
and starts again: code 0x01 for an uncorrected SRAM error, which also retires an ACTIVE tile with CAUSE 5, 0x02 for an
uncorrected DRAM error, also of PAGE_FETCH_END, 0x03 for a residue mismatch, which RES_WIN counts. A command that meets
no such layer changes nothing. (The place of a page in SRAM is log entry 32.) (07_layer_execution.md, 08_khan.md,
05_stitched_fabric.md, 20_faults_and_recovery.md.) -/
def Obligations.LayersAndPagesEnd : Prop :=
  (∀ (s : State) (k p : Nat) (b : Bale) (blk : StnBlock), k < 72 → s.sized = true → s.memOk = true → s.bale? b.id = some b →
    s.pageOwner k = some b.stn → s.blockOf b = some blk → s.wantsPage b blk k p = true → 0 < s.pagesPerTile b.stn →
    (b.runsOn k = false ∧ s.standsFor k = k ∨ ∃ j < s.pagesPerTile b.stn, ∀ q ∈ (s.tile k).pages, q.slot ≠ j) →
    ∃ t j, exec (.pageFetchEnd k p b.id false) s = .next t ∧ s.fetchSlot b blk k = some j ∧
      t.tile k = { s.tile k with pages := (s.tile k).pages.filter (fun q => q.slot ≠ j) ++ [⟨j, blk.uid, p⟩] } ∧
      (∀ i, i ≠ k → t.tile i = s.tile i) ∧
      (∀ a, t.sramByteAt a =
        let o := a - (k * 0x200000 + j * 16384)
        if k * 0x200000 + j * 16384 ≤ a ∧ o < 16384 ∧ p * 16384 + o < blk.payLen
          then s.dramByteAt (blk.payBase + p * 16384 + o) else s.sramByteAt a) ∧
      { t with tiles := s.tiles, sram := s.sram, retiring := s.retiring, out := s.out, phy := s.phy.still t.phy } = s) ∧
  (∀ (s : State) (k p id : Nat) (err : Bool), (∀ b, s.bale? id = some b → s.pageOwner k ≠ some b.stn ∨
      err = false ∧ ∀ blk, s.blockOf b = some blk → s.wantsPage b blk k p = false ∨ s.fetchSlot b blk k = none) →
    ∃ t, exec (.pageFetchEnd k p id err) s = .next t ∧ State.unchanged s t) ∧
  (∀ (s : State) (id i k : Nat) (orders : List (List Nat)) (b : Bale) (blk : StnBlock) (x : IspCtx) (c : CamDecl) (l : Layer),
    s.bale? id = some b → s.stripeOf b = some (blk, x, c) → blk.layers[i]? = some l → s.stripeRuns id = true → b.layer = i →
    b.startedAll i = true → s.sourcesReady b i l = true → i ≤ b.rows.length →
    let rows := (s.layerOut b blk x c i l orders).map fun r => r.map fun q => q.map Prod.fst
    let width := ((layerShapes (inputShape x c) blk.layers).getD i (inputShape x c)).width
    ∃ t u, exec (.layerEnd id i 0 k orders) s = .next t ∧ t.bale? id = some u ∧ u.layer = i + 1 ∧
      u.rows.getD i [] = b.rows.getD i [] ++ rows ∧ (∀ q, q ≠ i → u.rows.getD q [] = b.rows.getD q []) ∧ u.raw = b.raw ∧
      t.dram = applyWrites dramByte s.dram (if l.spill then spillWrites (s.spillBase b x c) l width rows else []) ∧
      t.sram = s.sram ∧ t.jobs = s.jobs ∧ t.tiles = s.tiles ∧ t.miles = s.miles ∧ t.stations = s.stations) ∧
  (∀ (s : State) (id i fault k : Nat) (orders : List (List Nat)), (∀ b, s.bale? id = some b → s.stripeRuns id = false ∨ b.layer ≠ i ∨
      b.startedAll i = false ∨ (∀ l, (s.blockOf b).bind (fun x => x.layers[i]?) = some l → s.sourcesReady b i l = false) ∨
      fault ≠ 0 ∧ k ∉ b.tiles) →
    ∃ t, exec (.layerEnd id i fault k orders) s = .next t ∧ State.unchanged s t) ∧
  (∀ (s : State) (id i fault code k p : Nat) (orders : List (List Nat)) (b : Bale) (l : Layer) (c : Instr), s.sized = true →
    s.bale? id = some b → b.stn < 16 → k < 72 → b.stopped = false → b.reexec < s.fget Reg.faultCfg 3 0 → (s.bales.map Bale.id).Nodup →
    c = .layerEnd id i fault k orders ∧ (fault = 1 ∧ code = 0x03 ∨ fault = 3 ∧ code = 0x01 ∨ fault = 4 ∧ code = 0x02) ∧
        (s.blockOf b).bind (fun x => x.layers[i]?) = some l ∧ s.stripeRuns id = true ∧ b.layer = i ∧
        b.startedAll i = true ∧ s.sourcesReady b i l = true ∧ k ∈ b.tiles ∨
      c = .pageFetchEnd k p id true ∧ fault = 4 ∧ code = 0x02 ∧ s.pageOwner k = some b.stn →
    ∃ t u, exec c s = .next t ∧ t.bale? id = some u ∧ u.reexec = b.reexec + 1 ∧ u.stripes = 0 ∧ u.raw = b.raw ∧
      (∀ q < 72, (t.tile q).work ≠ some id) ∧
      State.faultAdded s t 1 (some b.stn) code (if fault = 4 then 5 else 1) (if fault = 4 then 0 else k) b.tag ∧
      (fault = 1 → t.reg (Reg.tileResWin k) = BitVec.ofNat 32 (satWord 8 (s.reg (Reg.tileResWin k)).toNat).1) ∧
      (fault = 3 → (s.tile k).st = tileActive → s.retiring = [] → s.fmap.entries.length + s.fmap.writing.length < 64 →
        (t.tile k).st ≠ tileActive ∧ ∃ e, t.fmap.writing = s.fmap.writing ++ [e] ∧ e.target = k ∧ e.cause = 5))

/-- Each completes. TREE_PASS_START during a pass or without a ready tree job changes nothing. Otherwise one station
starts a pass of 1 to 64 of its ready jobs that all need the same ensemble of the same block: where some station with
ready jobs has a share, as few rounds pass as bring one of them the credit that its pass asks for, each round adds each
of them its SHARE_TILE, and the one served pays for its pass (its size is log entry 37); TREE.STAT shows it and nothing
but the stations' credits and these jobs changes (R366, R434). TREE_PASS_END without an error ends the pass, counts it
for its station, and each bale of the pass has that ensemble behind it; of a pass of one bale the outputs stand in the
bale's tree vector. With an error the pass stays as it is, STN_ERR counts and a fault entry of scope DEVICE with ACTION
2 is added (R437, R923). JOB_DISPATCH of the queued job of an in-line sequence whose decode tiles are ready, with room
for its KV pages, starts it: its KV pages are granted whole and the memory's keys and values computed (R354, R400).
DECODE_TOKEN of an in-line sequence that has the decode tiles, and that its bale still carries, appends the chosen token
and counts it; at the END token or MAX_TOKENS the sequence ends and its string is the bale's. Of a decoder without a
sequence that has the tiles it changes nothing, as TREE_PASS_END does without a pass. (09_decode_and_trees.md,
08_khan.md.) -/
def Obligations.TreePassesAndTokens : Prop :=
  (∀ s : State, s.treePass ≠ none ∨ (∀ n < 16, s.treeJobs n = []) → ∃ t, exec .treePassStart s = .next t ∧ State.unchanged s t) ∧
  (∀ s : State, s.treePass = none → s.sized = true → (∃ n < 16, s.treeJobs n ≠ []) →
    let share := fun n => ((s.env? n).map Env.shareTile).getD 0
    ∃ t n e uid js, exec .treePassStart s = .next t ∧ n < 16 ∧ s.passJobs n = some (e, js) ∧
      let ids := js.map Job.bale
      t.treePass = some (n, e, ids) ∧ ids ≠ [] ∧ ids.length ≤ 64 ∧
      (∀ id ∈ ids, (∃ j ∈ s.treeJobs n, j.bale = id) ∧ ∃ b, s.bale? id = some b ∧ b.uid = uid ∧ b.ensDone.getD 0 = e) ∧
      ((∃ m < 16, s.treeJobs m ≠ [] ∧ share m ≠ 0) → share n ≠ 0 ∧ ∃ r,
        (∀ m < 16, s.treeJobs m ≠ [] → share m ≠ 0 →
          (t.stn m).treeDeficit + (if m = n then s.treeSize (e, js) else 0) = (s.stn m).treeDeficit + r * share m) ∧
        (∀ m < 16, ∀ p, s.passJobs m = some p → share m ≠ 0 → 0 < r → (s.stn m).treeDeficit + (r - 1) * share m < s.treeSize p) ∧
        (∀ m < n, ∀ p, s.passJobs m = some p → share m ≠ 0 → (s.stn m).treeDeficit + r * share m < s.treeSize p)) ∧
      t.flag Reg.treeStat 31 = true ∧ t.fget Reg.treeStat 27 24 = n ∧
      (∀ m, t.stn m = { s.stn m with treeDeficit := (t.stn m).treeDeficit }) ∧
      State.onlyRegs [Reg.treeStat] s { t with treePass := s.treePass, stations := s.stations, jobs := s.jobs }) ∧
  (∀ (s : State) (n e : Nat) (ids : List Nat), n < 16 → s.treePass = some (n, e, ids) →
    ∃ t, exec (.treePassEnd 0) s = .next t ∧ t.treePass = none ∧ t.flag Reg.treeStat 31 = false ∧
      t.reg (Reg.treeStnPass n) = BitVec.ofNat 32 (satWord 24 (s.reg (Reg.treeStnPass n)).toNat).1 ∧
      (∀ id ∈ ids, ∀ b blk x, s.bale? id = some b → s.blockOf b = some blk → blk.trees[e]? = some x →
        ∃ u, t.bale? id = some u ∧ u.ensDone = some (e + 1) ∧
          (ids = [id] → u.trees = vecPut b.trees ((indexed (ensembleOut x (s.payAt blk x.baseRef (4 * x.classes))
            (s.payAt blk x.arrayRef x.arrayLen) (vecGet b.feats))).map fun p => (e * 16 + p.1, p.2)))) ∧
      State.onlyRegs [Reg.treeStat, Reg.treeStnPass n] s { t with treePass := s.treePass, jobs := s.jobs, bales := s.bales }) ∧
  (∀ (s : State) (n e err : Nat) (ids : List Nat), n < 16 → err ≠ 0 → s.treePass = some (n, e, ids) →
    ∃ t, exec (.treePassEnd err) s = .next t ∧
      t.reg (Reg.treeStnErr n) = BitVec.ofNat 32 (satWord 24 (s.reg (Reg.treeStnErr n)).toNat).1 ∧
      State.faultAdded s t 2 none (if err = 1 then 0x02 else 0x03) 5 (e % 256) 0 ∧
      State.onlyRegs (Reg.treeStnErr n :: faultRegs) s t) ∧
  (∀ (s : State) (err : Nat), s.treePass = none → ∃ t, exec (.treePassEnd err) s = .next t ∧ State.unchanged s t) ∧
  (∀ (s : State) (n k : Nat), (∀ x ∈ s.decs, x.1 = (n, k) → x.2.running = true → (s.stn n).dec.turn ≠ some (decKey x)) →
    ∃ t, exec (.decodeToken n k) s = .next t ∧ State.unchanged s t) ∧
  (∀ (s : State) (j : Job) (d : Dec) (x : DecDecl) (img : List Byte), s.queued j.stn = [j] → j.kind = .decode → s.mayRun j = true →
    s.boot.rebuilding = false →
    s.retiring = [] → (∀ y ∈ s.decs, y.1 = (j.stn, j.idx) → y.2.running = false) →
    s.decs.find? (fun y => y.1 == (j.stn, j.idx) && y.2.bale == j.bale && y.2.interactive == false) = some ((j.stn, j.idx), d) →
    s.decImage j.idx d = some (x, img) → s.decodeReady j.stn d = true →
    s.kvHeld j.stn + x.kvPages ≤ 96 * (s.decodeTiles j.stn).length →
    ∃ t, exec (.jobDispatch j.stn none) s = .next t ∧ ∃ y ∈ t.decs, y.1 = (j.stn, j.idx) ∧ y.2.bale = j.bale ∧ y.2.running = true ∧
      y.2.kv = x.kvPages ∧ y.2.cross = crossOf x img d.mem ∧ y.2.tok = d.tok ∧ y.2.pos = d.pos) ∧
  (∀ (s : State) (n k : Nat) (d : Dec) (b : Bale) (x : DecDecl) (img : List Byte), n < 16 → k < 2 →
    s.decs.find? (fun y => y.1 == (n, k) && y.2.running && (s.stn n).dec.turn == some (decKey y)) = some ((n, k), d) →
    d.interactive = false → s.bale? d.bale = some b → b.stopped = false → s.decodeTiles n ≠ [] → s.decImage k d = some (x, img) →
    let step := decodeStep x img d.cross d.kvs d.pos d.tok
    let tok := (chooseToken x d.gen step.1).1
    let toks := d.toks ++ [tok]
    ∃ t, exec (.decodeToken n k) s = .next t ∧
      t.reg (Reg.treeDecTok n k) = BitVec.ofNat 32 (satWord 24 (s.reg (Reg.treeDecTok n k)).toNat).1 ∧
      (tok ≠ x.endToken → toks.length < x.maxTokens → ∃ y ∈ t.decs, y.1 = (n, k) ∧ y.2.bale = d.bale ∧ y.2.toks = toks ∧
        y.2.pos = d.pos + 1 ∧ y.2.tok = tok ∧ y.2.kvs = step.2 ∧ y.2.running = true) ∧
      (tok = x.endToken ∨ x.maxTokens ≤ toks.length → (∃ u, t.bale? d.bale = some u ∧ u.strings = b.strings ++ [(k, decString x img toks)]) ∧
        ∀ y ∈ t.decs, y.1 = (n, k) → y.2.interactive = false → y.2.bale ≠ d.bale))

/-- VERDICT_DONE completes. Of a live bale under judgement whose units agree, VERDICT.LAST shows the bale, the outcome
and the first rule that holds (R732); where neither P_dead nor the outcome's fire or expiry position has been reached,
its milestone is DECIDED with that outcome and rule, not defaulted, and the bale is gone. Where the units disagree for
the first time, MISMATCH counts, its event is pending, a fault entry with code 0x04 is added, and the bale is judged
once more (R733); a second time, while re-executions are below RETRY_MAX, a bale that is not abandoned is aborted with
code 0x05 and starts again (R734). Of a bale that is gone, where the units agree, it counts a late commit of a milestone
that took the default action in this very cycle (R41), and changes nothing where there is none, as for a bale that is
not under judgement. (15_verdict_and_milestones.md, 01_journey_of_a_part.md, 20_faults_and_recovery.md.) -/
def Obligations.VerdictsCommitOrDisagree : Prop :=
  (∀ (s : State) (id e : Nat) (b : Bale) (blk : StnBlock) (r : Nat × Nat) (m : Mile) (p : Policy), s.sized = true →
    s.bale? id = some b → b.judging = true → b.kind = 0 → b.entry = some e → b.stn < 16 → m.stn = b.stn → s.blockOf b = some blk →
    runRules (s.verdictOperands b blk) blk.rules = some r → r.1 < 32 → r.2 < 256 → s.mile? e = some m → m.again = none → s.policy? m.stn = some p →
    (s.bales.map Bale.id).Nodup → (∀ c ∈ s.bales, c.entry = some e → c.id = id) →
    ∃ t, exec (.verdictDone id 0) s = .next t ∧ (t.reg (Reg.verdictLastBale b.stn)).toNat = id % 2 ^ 32 ∧
      (t.reg (Reg.verdictLast b.stn)).toNat = r.2 * 65536 + r.1 * 256 ∧ t.bale? id = none ∧
      (m.past = true ∨ atOrBefore 48 m.pDead (s.ref m.stn).hwm.toNat = false →
        m.crossed = false →
        (∀ x, p.ejector? r.2 = some x → atOrBefore 48 (posAdd m.pTrig x.offset) (s.ref m.stn).hwm.toNat = false) →
        (p.ejector? r.2 = none → atOrBefore 48 (posAdd m.pTrig p.maxOffset) (s.ref m.stn).hwm.toNat = false) →
        ∃ u, t.mile? e = some u ∧ u.st = 2 ∧ u.outcome = some r.2 ∧ u.rule = r.1 ∧ u.defaulted = false ∧
          u.pFire = (p.ejector? r.2).map (fun x => posAdd m.pTrig x.offset) ∧ u.bale = m.bale ∧ u.pTrig = m.pTrig ∧
          ∀ q, q ≠ e → t.mile? q = s.mile? q)) ∧
  (∀ (s : State) (id flip : Nat) (b : Bale) (blk : StnBlock) (r : Nat × Nat), s.bale? id = some b → b.judging = true →
    b.stn < 16 → s.blockOf b = some blk → runRules (s.verdictOperands b blk) blk.rules = some r → flip % 256 ≠ 0 →
    ∃ t u, exec (.verdictDone id flip) s = .next t ∧
      t.reg (Reg.verdictMismatch b.stn) = BitVec.ofNat 32 (satWord 24 (s.reg (Reg.verdictMismatch b.stn)).toNat).1 ∧
      t.pendingEvent (evStn b.stn 8) = true ∧
      (b.tries = 0 → t.bale? id = some u ∧ u = { b with tries := 1 } ∧ State.faultAdded s t 0 (some b.stn) 0x04 5 0 b.tag ∧
        State.onlyRegs (Reg.verdictMismatch b.stn :: faultRegs) s { t with bales := s.bales }) ∧
      (b.tries ≠ 0 → b.stopped = false → b.reexec < s.fget Reg.faultCfg 3 0 → t.bale? id = some u ∧ u.reexec = b.reexec + 1 ∧ u.judging = false ∧
        u.stripes = 0 ∧ State.faultAdded s t 1 (some b.stn) 0x05 5 0 b.tag)) ∧
  (∀ (s : State) (id flip : Nat), (∀ b, s.bale? id = some b → b.judging = false) →
    (s.bale? id = none → flip % 256 = 0 → ∀ m ∈ s.miles, m.bale = id → m.lateAt ≠ some s.now) →
    ∃ t, exec (.verdictDone id flip) s = .next t ∧ State.unchanged s t) ∧
  (∀ (s : State) (id flip : Nat) (m : Mile), s.bale? id = none → flip % 256 = 0 → m.stn < 16 → (s.miles.map Mile.idx).Nodup →
    s.miles.find? (fun m => m.bale == id && m.lateAt == some s.now && !m.late) = some m →
    ∃ t, exec (.verdictDone id flip) s = .next t ∧ t.mile? m.idx = some { m with late := true, lateAt := none } ∧
      (∀ x, x ≠ m.idx → t.mile? x = s.mile? x) ∧ t.pendingEvent (evStn m.stn 1) = true ∧
      t.reg (Reg.mileStnLate m.stn) = BitVec.ofNat 32 (satWord 24 (s.reg (Reg.mileStnLate m.stn)).toNat).1 ∧
      State.onlyRegs [Reg.mileStnLate m.stn] s { t with miles := s.miles })

/-- Each completes. A message of a peer that is DOWN or REJECTED changes nothing (R601). CV_HELLO of a peer member that
agrees counts the member, and GRP_STAT.VALID shows whether every peer has agreed (R793); one that disagrees takes the
member out, VALID reads 0, MISMATCH is set and CONVOY_MISMATCH is pending (R795), and a running step with a contribution
missing and none ABSENT fails with cause 2. CV_DATA of no member, of a TAG that has ended or of a contribution that is
held already counts in STALE and does nothing else (R811); other data for a TAG of which no step runs is held, for up to
eight TAGs (R810). Data that completes the last step of the only waiting bale writes the result of R804 for it, counts
in GRP_DONE and ends the TAG; ABSENT data fails the step with cause 1 and its sender. CONVOY_TIMEOUT of a running step
fails it with cause 0, the lowest missing member and the mask of the missing ones, and otherwise changes nothing. A step
that fails counts in GRP_FAIL, raises CONVOY_STEP_FAIL and stops its bale, which keeps its lines (R910), while every
milestone keeps its state (R816, R817). (17_convoys.md, 16_progress_guarantees.md.) -/
def Obligations.ConvoyMessagesAndTimeouts : Prop :=
  let fails := fun (s t : State) (g cause member : Nat) (b : Bale) =>
    (∃ u, t.bale? b.id = some u ∧ u.stopped = true ∧ u.step = none ∧ u.raw = b.raw) ∧ t.fget (Reg.convoyGrpBlame g) 17 16 = cause ∧ t.fget (Reg.convoyGrpBlame g) 13 8 = member % 64 ∧
      t.reg (Reg.convoyGrpFail g) = BitVec.ofNat 32 (satWord 24 (s.reg (Reg.convoyGrpFail g)).toNat).1 ∧
      t.pendingEvent (evGroup g) = true ∧ b.tseq ∈ (t.group g).ended ∧ t.miles.map Mile.st = s.miles.map Mile.st
  let only := fun (s : State) (b : Bale) => b ∈ s.bales ∧ (s.bales.map Bale.id).Nodup ∧ ∀ x ∈ s.bales, x ≠ b → x.step = none
  (∀ (s : State) (link g count index k digest : Nat) (det : Bool) (d : GroupDecl), g < 32 → s.sized = true →
    s.groupDecl? g = some d → d.memberAt link = some k → s.peerUp link = true →
    let same := count = d.members.length ∧ det = s.flag Reg.sysDetMode 0 ∧ digest = s.digest d ∧ index = k
    ∃ t, exec (.cvHello link g count index det digest) s = .next t ∧
      (same → (t.group g).hello = (s.group g).hello.filter (fun x => x ≠ k) ++ [k] ∧
        t.flag (Reg.convoyGrpStat g) 31 = t.groupValid d ∧ (∀ j, j ≠ g → t.group j = s.group j) ∧
        State.onlyRegs [Reg.convoyGrpStat g] s { t with groups := s.groups }) ∧
      (¬ same → (t.group g).hello = (s.group g).hello.filter (fun x => x ≠ k) ∧ t.flag (Reg.convoyGrpStat g) 31 = false ∧
        t.flag (Reg.convoyGrpStat g) 30 = true ∧ t.pendingEvent (evGroup g) = true ∧
        ((∀ b ∈ s.bales, b.step = none) → State.onlyRegs [Reg.convoyGrpStat g] s { t with groups := s.groups }) ∧
        (∀ b, only s b → b.step = some g → s.missing d b.tseq ≠ [] → (∀ c ∈ s.held g b.tseq, c.absent = false) →
          (∃ u, t.bale? b.id = some u ∧ u.stopped = true) ∧ t.fget (Reg.convoyGrpBlame g) 17 16 = 2))) ∧
  (∀ (s : State) (link g count index digest : Nat) (det : Bool),
    s.peerUp link = false ∨ (∀ d, s.groupDecl? g = some d → d.memberAt link = none) →
    ∃ t, exec (.cvHello link g count index det digest) s = .next t ∧ State.unchanged s t) ∧
  (∀ (s : State) (link g member tag base : Nat) (absent : Bool) (vals : List Nat), s.peerUp link = false →
    ∃ t, exec (.cvData link g member absent tag base vals) s = .next t ∧ State.unchanged s t) ∧
  (∀ (s : State) (link g member tag base : Nat) (absent : Bool) (vals : List Nat), s.peerUp link = true →
    (∀ d, s.groupDecl? g = some d → d.memberAt link ≠ some member ∨ tag ∈ (s.group g).ended ∨
      ∃ c ∈ (s.group g).data, c.member = member ∧ c.tag = tag) →
    ∃ t, exec (.cvData link g member absent tag base vals) s = .next t ∧
      t.reg Reg.convoyStale = BitVec.ofNat 32 (satWord 24 (s.reg Reg.convoyStale).toNat).1 ∧
      State.onlyRegs [Reg.convoyStale] s t) ∧
  (∀ (s : State) (link g member tag base : Nat) (absent : Bool) (vals : List Nat) (d : GroupDecl), g < 32 → s.sized = true →
    s.groupDecl? g = some d → d.memberAt link = some member → s.peerUp link = true → tag ∉ (s.group g).ended →
    (∀ c ∈ (s.group g).data, c.member = member → c.tag ≠ tag) →
    let new : CvData := ⟨member, tag, absent, base, vals⟩
    ∃ t, exec (.cvData link g member absent tag base vals) s = .next t ∧
      ((∀ b ∈ s.bales, b.step = none) → ((s.group g).data.filter fun c => c.member == member && c.tag != tag).length < 8 →
        (t.group g).data = (s.group g).data ++ [new] ∧ (∀ j, j ≠ g → t.group j = s.group j) ∧
        { t with groups := s.groups, out := s.out, phy := s.phy.still t.phy } = s) ∧
      (∀ b, only s b → b.step = some g → b.tseq = tag → (∀ c ∈ s.held g tag, c.absent = false) → absent = true →
        fails s t g 1 member b) ∧
      (∀ b, only s b → b.step = some g → b.tseq = tag → (∀ c ∈ s.held g tag, c.absent = false) → absent = false →
        s.missing d tag = [member] → s.stepsLeft b = [d] →
        t.reg (Reg.convoyGrpDone g) = BitVec.ofNat 32 (satWord 24 (s.reg (Reg.convoyGrpDone g)).toNat).1 ∧
        tag ∈ (t.group g).ended ∧ ∃ u, t.bale? b.id = some u ∧ u.step = none ∧
          u.convoy = b.convoy ++ [(g, (s.stepCfg g).result (s.flag Reg.sysDetMode 0) (s.held g tag ++ [new]))])) ∧
  (∀ (s : State) (g id : Nat) (d : GroupDecl) (b : Bale), g < 32 → s.sized = true → s.groupDecl? g = some d →
    s.bale? id = some b → b.step = some g →
    ∃ t, exec (.convoyTimeout g id) s = .next t ∧ fails s t g 0 ((s.missing d b.tseq).headD 0) b ∧
      (t.reg (Reg.convoyGrpMissLo g)).toNat + (t.reg (Reg.convoyGrpMissHi g)).toNat * 2 ^ 32 =
        sumN ((s.missing d b.tseq).map fun k => 2 ^ k) % 2 ^ 64) ∧
  (∀ (s : State) (g id : Nat), (∀ b, s.bale? id = some b → b.step ≠ some g) →
    ∃ t, exec (.convoyTimeout g id) s = .next t ∧ State.unchanged s t)

/-- Each completes. A first KHAN_FAULT adds a fault entry with code 0x08 and ACTION 5, starts the rebuild, and every
bale that is not abandoned and whose re-executions are below RETRY_MAX starts again from stripe 0 and is held.
KHAN_REBUILD_END of a rebuild ends it and holds no bale; without one it changes nothing. STEWARD_ROLLBACK adds a fault
entry with code 0x16 and ACTION 0 and remembers the time, nothing else. A KHAN_FAULT within 1 s of the last one, and a
STEWARD_ROLLBACK within 10 µs, enter the waystation state with cause 0x13 or 0x10: no bale, no milestone and no job is
left, no station is armed, no output is driven (R926, R954, R955); in the waystation state they are only logged (log
entry 38). DROVER_WATCHDOG of a drover that is off changes nothing (R1006); without a bale adds a fault entry with code
0x07 and the drover; with one that is not abandoned it aborts that bale under that code. APP_WDOG of a running core
restarts that core alone, adds a fault entry with code 0x0E and raises APP_WDOG; of another it changes nothing. (That a
recurrence logs ACTION 6 is log entry 38.) (20_faults_and_recovery.md, 23_control_cores_and_memory_map.md,
21_muster_and_waystation.md.) -/
def Obligations.DeviceFaultsAreContained : Prop :=
  (∀ s : State, (∀ x, s.boot.khanAt = some x → x + 250000000 < s.now) →
    ∃ t, exec .khanFault s = .next t ∧ t.boot = { s.boot with khanAt := some s.now, rebuilding := true } ∧
      t.pendingEvent 454 = true ∧
      ((s.bales.map Bale.id).Nodup → ∀ b ∈ s.bales, b.stopped = false → b.reexec < s.fget Reg.faultCfg 3 0 →
        ∃ u, t.bale? b.id = some u ∧ u.held = true ∧ u.reexec = b.reexec + 1 ∧ u.stripes = 0 ∧ u.raw = b.raw) ∧
      (s.bales = [] → State.faultAdded s t 5 none 0x08 5 0 0)) ∧
  (∀ s : State, ∃ t, exec .khanRebuildEnd s = .next t ∧ t.boot.rebuilding = false ∧ (s.boot.rebuilding = false → State.unchanged s t) ∧
    (s.boot.rebuilding = true → t.bales = s.bales.map (fun b => { b with held := false }) ∧
      { t with boot := s.boot, bales := s.bales, jobs := s.jobs, out := s.out, phy := s.phy.still t.phy } = s)) ∧
  (∀ s : State, (∀ x, s.boot.rollAt = some x → x + 2500 < s.now) →
    ∃ t, exec .stewardRollback s = .next t ∧ t.boot = { s.boot with rollAt := some s.now } ∧
      State.faultAdded s t 0 none 0x16 5 0 0 ∧ State.onlyRegs faultRegs s { t with boot := s.boot }) ∧
  (∀ (s : State) (c : Instr) (cause x : Nat), s.sized = true →
    c = .khanFault ∧ cause = 0x13 ∧ s.boot.khanAt = some x ∧ s.now ≤ x + 250000000 ∨
      c = .stewardRollback ∧ cause = 0x10 ∧ s.boot.rollAt = some x ∧ s.now ≤ x + 2500 →
    ∃ t, exec c s = .next t ∧
      (s.inWay = true → State.faultAdded s t 0 none (if cause = 0x13 then 0x08 else 0x16) 5 0 0 ∧ State.onlyRegs faultRegs s t) ∧
      (s.inWay = false → t.inWay = true ∧ t.fget Reg.sysWayCause 7 0 = cause ∧
        t.bales = [] ∧ t.miles = [] ∧ t.jobs = [] ∧ t.blocks = [] ∧ t.anyArmed = false ∧ t.load = none ∧
        (∀ ch, t.driven ch = false) ∧ (∀ l, (t.link l).up = false))) ∧
  (∀ (s : State) (d : Nat) (ids : List Nat), s.droverOn d = false → ∃ t, exec (.droverWatchdog d ids) s = .next t ∧ State.unchanged s t) ∧
  (∀ (s : State) (d : Nat), d < 8 → s.droverOn d = true → ∃ t, exec (.droverWatchdog d []) s = .next t ∧ State.faultAdded s t 0 none 0x07 5 d 0 ∧
    State.onlyRegs faultRegs s t) ∧
  (∀ (s : State) (d : Nat) (b : Bale), d < 8 → s.droverOn d = true → s.bale? b.id = some b → b.stn < 16 → b.stopped = false → b.reexec < s.fget Reg.faultCfg 3 0 →
    ∃ t u, exec (.droverWatchdog d [b.id]) s = .next t ∧ t.bale? b.id = some u ∧ u.reexec = b.reexec + 1 ∧ u.stripes = 0 ∧
      u.raw = b.raw ∧ State.faultAdded s t 1 none 0x07 5 d b.tag) ∧
  (∀ (s : State) (c : Nat) (k : AppCore), c < 4 → s.cores[c]? = some k → ∃ t, exec (.appWdog c) s = .next t ∧
    (k.run = false → State.unchanged s t) ∧
    (k.run = true → t.cores = s.cores.set c { k with restarts := k.restarts + 1, kick := s.now } ∧ t.pendingEvent 497 = true ∧
      State.faultAdded s t 0 none 0x0E 5 c 0 ∧ State.onlyRegs faultRegs s { t with cores := s.cores }))

/-- Each completes. TB_INCR stores a value in range and, when it changes, discards and repeats every exchange in
progress; a value out of range is ignored and sets INCR_ERR. TB_STEP that would change the field while any station is
armed is dropped, counted and leaves the timebase; else (the value that the field has already is written, log entry 50)
the tick that applies it adds the step to LT, raises TB_STEPPED and TB_WRAP or TB_UNWRAP where LT_HI rises or falls, and
exchanges are repeated (that the step performs this tick is log entry 1). TB_WRAP passes exactly as many ticks of an
empty queue as bring the next change of LT_HI (log entry 1) and raises TB_WRAP. INCR_TIME_CORR and STEP_TIME_CORR
correct every ACTIVE endpoint that is no peer, by the rate of R842 or by minus the step, and no other endpoint. Nothing
else changes. (18_timebase.md, 02_access_classes_counters_mailboxes.md, 12_suras_link.md.) -/
def Obligations.TimebaseIsCorrectedAndFollowed : Prop :=
  let redone := fun (s t : State) => ∀ l a e, s.ep? l a = some e →
    (e.exch = none → t.ep? l a = some e) ∧ (e.exch ≠ none → ∃ g, t.ep? l a = some { e with exch := some (g, t.tb.lt.toNat) })
  let linksOnly := fun (A : List Nat) (s t : State) =>
    State.onlyRegs (A ++ linkStatRegs) s { t with eps := s.eps, links := s.links, timeTag := s.timeTag }
  (∀ (s : State) (ini : Nat) (v : Word), 0x03FEF9DC ≤ v.toNat → v.toNat ≤ 0x04010624 → s.epsOk = true →
    ∃ t, exec (.tbIncr ini v) s = .next t ∧ t.reg Reg.timeTbIncr = v ∧
      (v = s.reg Reg.timeTbIncr → State.onlyRegs [Reg.timeTbIncr] s t) ∧
      (v ≠ s.reg Reg.timeTbIncr → redone s t ∧ linksOnly [Reg.timeTbIncr] s t)) ∧
  (∀ (s : State) (ini : Nat) (v : Word), v.toNat < 0x03FEF9DC ∨ 0x04010624 < v.toNat →
    ∃ t, exec (.tbIncr ini v) s = .next t ∧ t.flag Reg.timeStat 1 = true ∧ State.onlyRegs [Reg.timeStat] s t) ∧
  (∀ (s : State) (ini : Nat) (v : Word), s.anyArmed = true → v ≠ s.reg Reg.timeTbStep → ∃ t, exec (.tbStep ini v) s = .next t ∧
    t.reg Reg.sysWdropCnt = BitVec.ofNat 32 (satWord 24 (s.reg Reg.sysWdropCnt).toNat).1 ∧ t.pendingEvent 448 = true ∧
    State.onlyRegs [Reg.sysWdropCnt, Reg.sysWdropAddr, Reg.sysWdropSrc] s t) ∧
  (∀ (s : State) (ini : Nat) (v : Word), s.anyArmed = false ∨ v = s.reg Reg.timeTbStep → s.epsOk = true → s.tb.incr.toNat ≤ 0x04010624 →
    ∃ t, exec (.tbStep ini v) s = .next t ∧ t.reg Reg.timeTbStep = v ∧ t.pendingEvent 453 = true ∧
      (t.tb.lt.toNat : Int) =
        (((s.tb.lt.toNat * 2 ^ 24 + s.tb.frac.toNat + s.tb.incr.toNat) / 2 ^ 24 : Nat) + v.toInt) % 2 ^ 48 ∧
      t.tb.cycles = s.tb.cycles + 1 ∧
      (t.tb.lt.toNat / 2 ^ 32 ≠ s.tb.lt.toNat / 2 ^ 32 →
        (0 ≤ v.toInt → t.pendingEvent 451 = true) ∧ (v.toInt < -10 → t.pendingEvent 452 = true)) ∧
      redone s t ∧ linksOnly [Reg.timeTbStep] s { t with tb := s.tb }) ∧
  (∀ s : State, s.tb.incr.toNat ≤ 0x04010624 → 0 < (s.reg Reg.timeTbIncr).toNat → (s.reg Reg.timeTbIncr).toNat ≤ 0x04010624 →
    ∃ t, exec .tbWrap s = .next t ∧ t.pendingEvent 451 = true ∧ State.onlyRegs [] s { t with tb := s.tb } ∧
      t.tb.lt.toNat / 2 ^ 32 = (s.tb.lt.toNat / 2 ^ 32 + 1) % 2 ^ 16 ∧ t.tb.lt.toNat % 2 ^ 32 < 5 ∧
      ∃ n, t.tb = ((idleTick^[n + 1]) s).tb) ∧
  (∀ (s : State) (c : Instr) (off rate : Int), s.epsOk = true →
    (∃ old : Word, c = .incrTimeCorr old ∧ off = 0 ∧
        rate = rneDiv ((((s.reg Reg.timeTbIncr).toNat : Int) - old.toNat) * 10 ^ 11) (2 ^ 26)) ∨
      (∃ step : Int, c = .stepTimeCorr step ∧ off = -step ∧ rate = 0) →
    let due := fun (e : Ep) => s.epActive e.link e.addr = true ∧ (s.epDecl? e.link e.addr).map EpDecl.cls ≠ some 4
    ∃ t, exec c s = .next t ∧ linksOnly [] s t ∧
      (∀ l a e, s.ep? l a = some e → (due e → t.ep? l a = some { e with corrAt := some s.now }) ∧ (¬ due e → t.ep? l a = some e)) ∧
      (∀ e, s.eps = [e] → due e → (s.link e.link).canSend 2 3 = true → (s.link e.link).queue = [] →
        t.out = [(e.link, 0x22, e.addr,
          [(ofInt 32 (clampI (-(2 ^ 31 - 1)) (2 ^ 31 - 1) off) + ofInt 32 rate * 2 ^ 32) % 2 ^ 64])]))

/-- PTP_EVENT_MESSAGE of an event message (types 0 to 3, log entry 42) on an enabled port that recognises its form
completes: with room in the port's FIFO of that direction, 64 entries to receive and 16 to transmit, LT and the
message's fields enter it behind the others and the port's event is raised; with none the timestamp is dropped and
PTP_DROP counts. No other FIFO and nothing else changes. A message that is not recognised, or on a port that is off,
changes nothing. (R837.) -/
def Obligations.EventMessagesAreTimestamped : Prop :=
  ∀ (s : State) (port dir msg dom seq : Nat) (udp : Bool), port < 2 → dir < 2 → s.sized = true →
    let on := s.ethOn port = true ∧ s.flag (Reg.ethPtpCtrl port) (b2n udp) = true ∧ msg < 4
    let room := (s.ptpFifo port dir).length < (if dir = 0 then 64 else 16)
    ∃ t, exec (.ptpEventMessage port dir msg dom seq udp) s = .next t ∧
      (on → room → t.ptpFifo port dir = s.ptpFifo port dir ++ [⟨s.tb.lt, msg, dom, seq⟩] ∧
        (∀ p d, p < 2 → d < 2 → (p, d) ≠ (port, dir) → t.ptpFifo p d = s.ptpFifo p d) ∧
        t.pendingEvent (475 + port) = true ∧ State.onlyRegs [] s { t with ptp := s.ptp }) ∧
      (on → ¬ room → t.reg (Reg.ethPtpDrop port) = BitVec.ofNat 32 (satWord 24 (s.reg (Reg.ethPtpDrop port)).toNat).1 ∧
        State.onlyRegs [Reg.ethPtpDrop port] s t) ∧
      (¬ on → State.unchanged s t)

/-- Each completes. SYNC and MIRROR_INTERVAL take a snapshot: with a mirror region one record of 8 KiB, with the next
SEQ, the calendar and a CRC-32C over the rest, waits behind the others, and without one the failure is shown (log entry
27). MIRROR_WRITE_END that passes writes the oldest record whole into the slot after the one last written, and no other
byte of flash, and MIRROR_SEQ shows its SEQ; one that fails sets MIRROR.FAIL, leaves the erased slot, and the record
waits for the next slot. CAL_SET makes a set wait; CALENDAR_SECOND applies it and sets VALID, or counts the calendar on,
unless it is lost; with main power POH_SEC counts too, and a change of the calendar's hour clears the tile windows.
POWER_ON_HOUR counts POH, up to its maximum, and THERMAL_CYCLE counts a swing of 40 degrees above the lowest reading,
which then restarts (readings are in sixteenths). Nothing else changes. (22_logbook.md, 05_stitched_fabric.md.) -/
def Obligations.LogbookIsKeptAndMirrored : Prop :=
  (∀ (s : State) (c : Instr) (base : Nat), (∃ ini, c = .sync ini) ∨ c = .mirrorInterval → s.mirrorBase? = some base →
    ∃ t r, exec c s = .next t ∧ t.log = { s.log with writing := s.log.writing ++ [r] } ∧ t.flag Reg.logMirror 30 = true ∧
      r.length = 8192 ∧ r.take 4 = [0x48, 0x4C, 0x47, 0x42] ∧
      leAt r 8 4 = ((s.reg Reg.logMirrorSeq).toNat + 1 + s.log.writing.length) % 2 ^ 32 ∧ leAt r 0x18 8 = s.calendar ∧
      leAt r 0x20 4 = (s.reg Reg.logPoh).toNat ∧ (∀ k < 72, leAt r (0x140 + 4 * k) 4 = (s.reg (Reg.logTileEcc k)).toNat) ∧
      leAt r 0x1FFC 4 = Crypto.crc32c (r.take 0x1FFC) ∧ State.onlyRegs [Reg.logMirror] s { t with log := s.log }) ∧
  (∀ (s : State) (c : Instr), (∃ ini, c = .sync ini) ∨ c = .mirrorInterval → s.mirrorBase? = none →
    ∃ t, exec c s = .next t ∧ t.flag Reg.logMirror 29 = true ∧ t.pendingEvent 471 = true ∧ State.onlyRegs [Reg.logMirror] s t) ∧
  (∀ (s : State) (base : Nat) (r : List Byte) (rest : List (List Byte)), s.mirrorBase? = some base → s.log.writing = r :: rest →
    s.memOk = true →
    let slot := (s.log.slot + 1) % 32
    let at_ := base + slot * 8192
    (∃ t, exec (.mirrorWriteEnd true) s = .next t ∧ t.log = { s.log with slot := slot, writing := rest } ∧
      (∀ a, t.flashByteAt a = if at_ ≤ a ∧ a < at_ + r.length then r.getD (a - at_) 0 else s.flashByteAt a) ∧
      (t.reg Reg.logMirrorSeq).toNat = leAt r 8 4 ∧ t.flag Reg.logMirror 30 = !rest.isEmpty ∧
      State.onlyRegs [Reg.logMirror, Reg.logMirrorSeq] s { t with log := s.log, flash := s.flash }) ∧
    (∃ t, exec (.mirrorWriteEnd false) s = .next t ∧ t.log = { s.log with slot := slot } ∧
      (∀ a, t.flashByteAt a = if at_ ≤ a ∧ a < at_ + 8192 then 0xFF else s.flashByteAt a) ∧
      t.flag Reg.logMirror 29 = true ∧ t.pendingEvent 471 = true ∧
      State.onlyRegs [Reg.logMirror] s { t with log := s.log, flash := s.flash })) ∧
  (∀ (s : State) (ok : Bool), s.mirrorBase? = none ∨ s.log.writing = [] →
    ∃ t, exec (.mirrorWriteEnd ok) s = .next t ∧ State.unchanged s t) ∧
  (∀ (s : State) (ini : Nat), ∃ t, exec (.calSet ini) s = .next t ∧
    State.unchanged { s with log := { s.log with setPend := true } } t) ∧
  (∀ s : State, ∃ t, exec .calendarSecond s = .next t ∧
    let hours := t.calendar / 3600 ≠ s.calendar / 3600 ∧ s.log.power = true
    let lost := s.log.vbatLost = true ∧ s.log.power = false
    (lost → State.unchanged s t) ∧
    (¬ lost → s.log.setPend = true → t.log = { s.log with setPend := false } ∧ t.flag Reg.logCalCtrl 8 = true ∧
      t.calendar = (s.reg Reg.logCalSetLo).toNat + (s.reg Reg.logCalSetHi).toNat * 2 ^ 32) ∧
    (¬ lost → s.log.setPend = false → t.log = s.log ∧ t.reg Reg.logCalCtrl = s.reg Reg.logCalCtrl ∧
      t.calendar = (s.calendar + 1) % 2 ^ 64) ∧
    (s.log.power = true → t.fget Reg.logPohSec 11 0 = min 3599 (s.fget Reg.logPohSec 11 0 + 1)) ∧
    (s.log.power = false → t.reg Reg.logPohSec = s.reg Reg.logPohSec) ∧
    (∀ k < 72, t.fget (Reg.tileEccWin k) 15 0 = (if hours then 0 else s.fget (Reg.tileEccWin k) 15 0) ∧
      t.fget (Reg.tileResWin k) 7 0 = (if hours then 0 else s.fget (Reg.tileResWin k) 7 0) ∧
      t.fget (Reg.tileRtrWin k) 7 0 = (if hours then 0 else s.fget (Reg.tileRtrWin k) 7 0)) ∧
    State.onlyRegs ([Reg.logCalLo, Reg.logCalHi, Reg.logCalCtrl, Reg.logPohSec] ++
      (List.range 72).flatMap fun k => [Reg.tileEccWin k, Reg.tileResWin k, Reg.tileRtrWin k]) s { t with log := s.log }) ∧
  (∀ s : State, ∃ t, exec .powerOnHour s = .next t ∧
    (t.reg Reg.logPoh).toNat = min (2 ^ 32 - 1) ((s.reg Reg.logPoh).toNat + 1) ∧ t.fget Reg.logPohSec 11 0 = 0 ∧
    ((t.reg Reg.logPoh).toNat = 2 ^ 32 - 1 → t.flag Reg.logOvf 0 = true ∧ (s.flag Reg.logOvf 0 = false → t.pendingEvent 469 = true)) ∧
    State.onlyRegs [Reg.logPoh, Reg.logPohSec, Reg.logOvf] s t) ∧
  (∀ (s : State) (temp : Int), ∃ t, exec (.thermalCycle temp) s = .next t ∧
    (s.log.low = none → State.unchanged { s with log := { s.log with low := some temp } } t) ∧
    (∀ x, s.log.low = some x → temp < x + 640 → State.unchanged { s with log := { s.log with low := some (min x temp) } } t) ∧
    (∀ x, s.log.low = some x → x + 640 ≤ temp → t.log = { s.log with low := some temp } ∧
      (t.reg Reg.logThermal).toNat = min (2 ^ 32 - 1) ((s.reg Reg.logThermal).toNat + 1) ∧
      State.onlyRegs [Reg.logThermal, Reg.logOvf] s { t with log := s.log }))

/-- Each completes. APP_START by core 0 while the device runs releases each core 1 to 3 of the mask that is not
released, with its watchdog started, and changes no other core; by another initiator, or when core 0 does not run, it
changes nothing. WDOG_KICK with KEY 0x4B restarts the watchdog of each running core of the mask and with another KEY
changes nothing. MTIMECMP_WRITE of a core puts its compare value to the last high word with the low word written.
MACHINE_TIMER_INTERRUPT reaches a released core whose time CSR is at or above that value, and otherwise nothing happens.
No other core, register or state changes. (23_control_cores_and_memory_map.md, 21_muster_and_waystation.md.) -/
def Obligations.CoresAreReleasedTimedAndWatched : Prop :=
  (∀ (s : State) (mask : Nat), s.running = true → (s.core 0).run = true → s.sized = true →
    ∃ t, exec (.appStart 0 mask) s = .next t ∧ { t with cores := s.cores, out := s.out, phy := s.phy.still t.phy } = s ∧ t.core 0 = s.core 0 ∧
      ∀ c, 1 ≤ c → c < 4 → t.core c =
        if mask.testBit c = true ∧ (s.core c).run = false then { s.core c with run := true, kick := s.now } else s.core c) ∧
  (∀ (s : State) (ini mask : Nat), ini ≠ 0 ∨ s.running = false ∨ (s.core 0).run = false →
    ∃ t, exec (.appStart ini mask) s = .next t ∧ State.unchanged s t) ∧
  (∀ (s : State) (ini key mask : Nat), s.sized = true → ∃ t, exec (.wdogKick ini key mask) s = .next t ∧
    { t with cores := s.cores, out := s.out, phy := s.phy.still t.phy } = s ∧ ∀ c < 4, t.core c =
      if key % 256 = 0x4B ∧ mask.testBit c = true ∧ (s.core c).run = true then { s.core c with kick := s.now } else s.core c) ∧
  (∀ (s : State) (ini c : Nat) (v : Word), c < 4 → s.sized = true → ∃ t, exec (.mtimecmpWrite ini c v) s = .next t ∧
    t.core c = { s.core c with cmp := (s.reg (Reg.sysMtimecmpHi c)) ++ v } ∧ t.reg (Reg.sysMtimecmpLo c) = v ∧
    (∀ k, k ≠ c → t.core k = s.core k) ∧ State.onlyRegs [Reg.sysMtimecmpLo c] s { t with cores := s.cores }) ∧
  (∀ (s : State) (c : Nat), ∃ t, exec (.machineTimerInterrupt c) s = .next t ∧ State.unchanged s t ∧
    t.out = if (s.core c).run = true ∧ (s.core c).cmp.toNat ≤ s.tb.cycles.toNat then [(c, irqType 7, 0, [])] else [])

/-- Each completes. UART_RX_BYTE puts the byte behind the others; with the FIFO of 64 full it is lost and the overflow
flag sets, and a frame error sets its flag; the event comes when the FIFO was empty or a flag sets. UART_DATA_READ takes
the oldest byte with VALID, or reads 0. UART_DATA_WRITE puts a byte into the transmit FIFO unless it is full;
UART_TX_BYTE sends the oldest, with the event when 16 are left. START, WRITE, READ_ACK, READ_NACK and STOP enter the
command FIFO of 16 unless it is full; I2C_CMD_DONE completes the oldest: START and STOP make the bus busy and idle, a
read stores the byte received, and a write that is not acknowledged sets NACK; the event comes when the FIFO empties or
NACK sets. I2C_RX_READ takes the oldest received byte or reads 0. GPIO_EDGE gives the pin its level and raises its event
when the pin is an input whose edge is selected. BOUNDARY_SCAN_INSTRUCTION selects the instruction, BYPASS in place of
EXTEST while SYS_RST_N is high; IDCODE reads 0xB007256B, and SAMPLE/PRELOAD and EXTEST capture the 53 cells of the chain
and latch what is shifted in. (What a full or empty FIFO does is log entry 24.) Nothing else changes.
(23_control_cores_and_memory_map.md, 24_electrical_and_package.md.) -/
def Obligations.SerialPortsGpioAndBoundaryScan : Prop :=
  (∀ (s : State) (u : Nat) (b : Byte) (err : Bool), u < 2 → s.sized = true →
    let n := (s.uartOf u).rx.length
    ∃ t, exec (.uartRxByte u b err) s = .next t ∧
      t.uartOf u = { s.uartOf u with rx := if n < 64 then (s.uartOf u).rx ++ [b] else (s.uartOf u).rx } ∧
      t.flag (Reg.uartStat u) 0 = (s.flag (Reg.uartStat u) 0 || decide (64 ≤ n)) ∧
      t.flag (Reg.uartStat u) 1 = (s.flag (Reg.uartStat u) 1 || err) ∧
      (n = 0 ∨ 64 ≤ n ∨ err = true → t.pendingEvent (477 + u) = true) ∧
      (0 < n → n < 64 → err = false → t.regs = s.regs ∧ t.evq = s.evq) ∧ (∀ k, k ≠ u → t.uartOf k = s.uartOf k) ∧
      State.onlyRegs [Reg.uartStat u] s { t with uart := s.uart }) ∧
  (∀ (s : State) (ini u : Nat), u < 2 → s.sized = true → ∃ t, exec (.uartDataRead ini u) s = .next t ∧
    t.rdata.toNat = (match (s.uartOf u).rx with | b :: _ => 256 + b.toNat | [] => 0) ∧
    t.uartOf u = { s.uartOf u with rx := (s.uartOf u).rx.tail } ∧ (∀ k, k ≠ u → t.uartOf k = s.uartOf k) ∧
    { t with uart := s.uart, rdata := s.rdata, out := s.out, phy := s.phy.still t.phy } = s) ∧
  (∀ (s : State) (ini u : Nat) (b : Byte), u < 2 → s.sized = true → ∃ t, exec (.uartDataWrite ini u b) s = .next t ∧
    t.uartOf u = { s.uartOf u with
      tx := if (s.uartOf u).tx.length < 64 then (s.uartOf u).tx ++ [b] else (s.uartOf u).tx } ∧
    (∀ k, k ≠ u → t.uartOf k = s.uartOf k) ∧ { t with uart := s.uart, out := s.out, phy := s.phy.still t.phy } = s) ∧
  (∀ (s : State) (u : Nat), u < 2 → s.sized = true → ∃ t, exec (.uartTxByte u) s = .next t ∧
    t.uartOf u = { s.uartOf u with tx := (s.uartOf u).tx.tail } ∧ (∀ k, k ≠ u → t.uartOf k = s.uartOf k) ∧
    ((s.uartOf u).tx.length = 17 → t.pendingEvent (477 + u) = true) ∧
    ((s.uartOf u).tx.length ≠ 17 → t.regs = s.regs ∧ t.evq = s.evq) ∧ State.onlyRegs [] s { t with uart := s.uart }) ∧
  (∀ (s : State) (ini i : Nat) (c : Instr) (op : I2cOp), i < 2 → s.sized = true →
    (c = .start ini i ∧ op = .start) ∨ (∃ b, c = .write ini i b ∧ op = .write b) ∨ (c = .readAck ini i ∧ op = .readAck) ∨
      (c = .readNack ini i ∧ op = .readNack) ∨ (c = .stop ini i ∧ op = .stop) →
    ∃ t, exec c s = .next t ∧ t.i2cOf i = { s.i2cOf i with
        cmds := if (s.i2cOf i).cmds.length < 16 then (s.i2cOf i).cmds ++ [op] else (s.i2cOf i).cmds } ∧
      (∀ k, k ≠ i → t.i2cOf k = s.i2cOf k) ∧ { t with i2c := s.i2c, out := s.out, phy := s.phy.still t.phy } = s) ∧
  (∀ (s : State) (i : Nat) (rx : Byte) (nack : Bool) (op : I2cOp) (rest : List I2cOp), i < 2 → s.sized = true →
    (s.i2cOf i).cmds = op :: rest →
    let bad := nack = true ∧ ∃ b, op = .write b
    ∃ t, exec (.i2cCmdDone i rx nack) s = .next t ∧
      t.i2cOf i = { cmds := rest
                    rx := if op = .readAck ∨ op = .readNack then (s.i2cOf i).rx ++ [rx] else (s.i2cOf i).rx
                    busy := if op = .start then true else if op = .stop then false else (s.i2cOf i).busy } ∧
      (bad → t.flag (Reg.i2cStat i) 3 = true) ∧ (rest = [] ∨ bad → t.pendingEvent (479 + i) = true) ∧
      (rest ≠ [] → ¬ bad → t.regs = s.regs ∧ t.evq = s.evq) ∧ (∀ k, k ≠ i → t.i2cOf k = s.i2cOf k) ∧
      (¬ bad → t.reg (Reg.i2cStat i) = s.reg (Reg.i2cStat i)) ∧ State.onlyRegs [Reg.i2cStat i] s { t with i2c := s.i2c }) ∧
  (∀ (s : State) (i : Nat) (rx : Byte) (nack : Bool), (s.i2cOf i).cmds = [] →
    ∃ t, exec (.i2cCmdDone i rx nack) s = .next t ∧ State.unchanged s t) ∧
  (∀ (s : State) (ini i : Nat), i < 2 → s.sized = true → ∃ t, exec (.i2cRxRead ini i) s = .next t ∧
    t.rdata.toNat = (match (s.i2cOf i).rx with | b :: _ => 256 + b.toNat | [] => 0) ∧
    t.i2cOf i = { s.i2cOf i with rx := (s.i2cOf i).rx.tail } ∧ (∀ k, k ≠ i → t.i2cOf k = s.i2cOf k) ∧
    { t with i2c := s.i2c, rdata := s.rdata, out := s.out, phy := s.phy.still t.phy } = s) ∧
  (∀ (s : State) (pin : Nat) (lvl : Bool), pin < 16 → s.sized = true →
    let hit := s.gpio.getD pin false ≠ lvl ∧ s.flag Reg.gpioDir pin = false ∧
      s.flag Reg.gpioEdge (if lvl = true then pin else 16 + pin) = true
    ∃ t, exec (.gpioEdge pin lvl) s = .next t ∧ t.gpio = s.gpio.set pin lvl ∧ (hit → t.pendingEvent (481 + pin) = true) ∧
      (¬ hit → t.regs = s.regs ∧ t.evq = s.evq) ∧ State.onlyRegs [] s { t with gpio := s.gpio }) ∧
  (∀ (s : State) (scan : Nat),
    let ins := scan % 4
    let shift := (List.range 53).map fun p => (scan / 4).testBit p
    ∃ t, exec (.boundaryScanInstruction scan) s = .next t ∧
    t.tap = (if ins = 3 ∧ s.boot.rstLow = false then 0 else ins) ∧ (ins = 1 → t.rdata = 0xB007256B) ∧
    (t.tap < 2 → t.scan = s.scan) ∧ (t.tap = 2 ∨ t.tap = 3 → t.scan.latch = shift ∧ t.scan.cells.length = 53 ∧
      (s.tap ≠ 3 → t.scan.cells.getD 39 false = !s.boot.rstLow ∧
        ∀ p, p < 16 → t.scan.cells.getD (20 + p) false = s.ballLevel (20 + p) (.gpio p))) ∧
    State.onlyRegs [] s { t with tap := s.tap, rdata := s.rdata, scan := s.scan, free := s.free })

/-- Each completes. STEWARD_FRAME with one good request frame on a transport that the port serves, behind nothing,
starts the request where none runs; answers BUSY where one runs; sends the stored answer again, without executing
anything, where the frame repeats the last SEQ and CMD; and answers UNKNOWN_CMD to a command that R965 does not list. A
frame whose CRC is wrong is discarded and counts in SPORT_ERR; the start of a frame waits for the rest; on a transport
that is not served nothing happens. UART_GAP_TIMEOUT discards what the UART has received of a frame; SPT_CS_RISE does
the same for SPI and counts it, if there is anything. SPORT_DATA_WRITE gives the byte to the internal transport as
STEWARD_FRAME does, but while a request of that transport runs it only marks BUSY, and while the device does not run it
does nothing. SPORT_DATA_READ takes the next answer byte with VALID, or reads 0. Nothing else changes. (Argument layouts
are log entry 17.) (21_muster_and_waystation.md, 23_control_cores_and_memory_map.md, 24_electrical_and_package.md.) -/
def Obligations.StewardPortTakesFrames : Prop :=
  (∀ (s : State) (t seq cmd status : Nat) (payload : List Byte), t < 4 → s.sized = true → s.portOn t = true →
    s.sport.rx.getD t [] = [] → seq < 256 → cmd < 256 → status < 256 → payload.length ≤ 1024 →
    let repeats := ∃ f, s.sport.last = some (seq, cmd, f)
    ∃ u, exec (.stewardFrame t (frame seq cmd status payload)) s = .next u ∧ { u with sport := s.sport, out := s.out, phy := s.phy.still u.phy } = s ∧
      (s.sport.running = none → ¬ repeats → cmd ∈ portCmds →
        u.sport = { s.sport with running := some ⟨t, seq, cmd, payload⟩ } ∧ u.out = []) ∧
      (∀ a, (s.sport.running ≠ none ∧ a = frame seq (cmd ||| 0x80) stBusy []) ∨
          (s.sport.running = none ∧ s.sport.last = some (seq, cmd, a)) ∨
          (s.sport.running = none ∧ ¬ repeats ∧ cmd ∉ portCmds ∧ a = frame seq (cmd ||| 0x80) stUnknown []) →
        u.sport = { s.sport with tx := u.sport.tx } ∧
        (t = 3 → u.sport.tx.getD 3 [] = s.sport.tx.getD 3 [] ++ a ∧ u.out = []) ∧
        (t ≠ 3 → u.out = [(t, portType, 0, a.map BitVec.toNat)]))) ∧
  (∀ (s : State) (t : Nat) (body crc : List Byte), t < 4 → s.sized = true → s.portOn t = true → s.sport.rx.getD t [] = [] →
    body.length = 6 + leAt body 2 2 → leAt body 2 2 ≤ 1024 → crc.length = 2 → beN crc ≠ crc16 body →
    ∃ u, exec (.stewardFrame t ([0xA5, 0x5A] ++ body ++ crc)) s = .next u ∧
      u.reg Reg.sysSportErr = BitVec.ofNat 32 (satWord 24 (s.reg Reg.sysSportErr).toNat).1 ∧
      State.onlyRegs [Reg.sysSportErr] s u) ∧
  (∀ (s : State) (t seq cmd status n : Nat) (payload : List Byte), t < 4 → s.sized = true → s.portOn t = true →
    s.sport.rx.getD t [] = [] → seq < 256 → cmd < 256 → payload.length ≤ 1024 → n < 10 + payload.length →
    let part := (frame seq cmd status payload).take n
    ∃ u, exec (.stewardFrame t part) s = .next u ∧ u.sport = { s.sport with rx := s.sport.rx.set t part } ∧
      { u with sport := s.sport, out := s.out, phy := s.phy.still u.phy } = s) ∧
  (∀ (s : State) (t : Nat) (bs : List Byte), s.portOn t = false → ∃ u, exec (.stewardFrame t bs) s = .next u ∧ State.unchanged s u) ∧
  (∀ s : State, ∃ u, exec .uartGapTimeout s = .next u ∧
    State.unchanged { s with sport := { s.sport with rx := s.sport.rx.set 0 [] } } u) ∧
  (∀ s : State, s.sized = true → ∃ u, exec .sptCsRise s = .next u ∧ (s.sport.rx.getD 1 [] = [] → State.unchanged s u) ∧
    (s.sport.rx.getD 1 [] ≠ [] → u.sport = { s.sport with rx := s.sport.rx.set 1 [] } ∧
      u.reg Reg.sysSportErr = BitVec.ofNat 32 (satWord 24 (s.reg Reg.sysSportErr).toNat).1 ∧
      State.onlyRegs [Reg.sysSportErr] s { u with sport := s.sport })) ∧
  (∀ (s : State) (ini : Nat) (b : Byte), ∃ u, exec (.sportDataWrite ini b) s = .next u ∧
    (s.portOn 3 = false → State.unchanged s u) ∧
    (s.portOn 3 = true → (∃ q, s.sport.running = some q ∧ q.t = 3) →
      State.unchanged { s with sport := { s.sport with busy := true } } u) ∧
    (s.portOn 3 = true → (∀ q, s.sport.running = some q → q.t ≠ 3) → exec (.stewardFrame 3 [b]) s = .next u)) ∧
  (∀ (s : State) (ini : Nat), s.sized = true → ∃ u, exec (.sportDataRead ini) s = .next u ∧
    { u with sport := s.sport, rdata := s.rdata, out := s.out, phy := s.phy.still u.phy } = s ∧
    (∀ b r, s.sport.busy = false → s.sport.tx.getD 3 [] = b :: r → u.rdata.toNat = 256 + b.toNat ∧
      u.sport = { s.sport with tx := s.sport.tx.set 3 r }) ∧
    (s.sport.busy = false → s.sport.tx.getD 3 [] = [] → u.rdata = 0 ∧ u.sport = s.sport) ∧
    (∀ q, s.sport.busy = true → s.sport.running = some q → u.rdata = 0x1A5 ∧
      u.sport = { s.sport with
        busy := false
        tx := s.sport.tx.set 3 ((frame q.seq (q.cmd ||| 0x80) stBusy []).tail ++ s.sport.tx.getD 3 []) }))

/-- A command of the port completes. Where the request in progress is not its own it changes nothing; where the port
does not serve it now it answers BAD_STATE, and where its payload has the wrong length BAD_LEN, and nothing else
changes. GET_INFO answers 28 bytes that end with the serial, GET_MUSTER the 96-byte record, GET_DEFECT_MAP the entries
of the field region, GET_FAULT_LOG the entries asked for, or BAD_ARG where the log of 64 has none there; GET_LOGBOOK at
offset 0 takes a snapshot and every offset answers up to 1,024 bytes of the snapshot last taken. READ_REG answers the
words that initiator 13 reads, and WRITE_REG of one word does what that initiator's register write of it does; in the
waystation state both reach only what PD_AON serves. (Layouts and the order of checks are log entries 17 and 20.)
(21_muster_and_waystation.md, 22_logbook.md, 02_access_classes_counters_mailboxes.md.) -/
def Obligations.StewardReportsAndReachesRegisters : Prop :=
  (∀ (s : State) (c : Instr) (k : Nat), portCode c = some k → (∀ q, s.sport.running = some q → q.cmd ≠ k) →
    ∃ t, exec c s = .next t ∧ State.unchanged s t) ∧
  (∀ (s : State) (c : Instr) (k : Nat) (q : Request), portCode c = some k → s.sport.running = some q → q.cmd = k → s.sized = true →
    ∃ t, exec c s = .next t ∧ t.sport.running = none ∧
      (s.portServes k = false → State.answered q stBadState [] t ∧ State.portOnly s t) ∧
      (s.portServes k = true → (k ∈ [0x01, 0x02, 0x03, 0x12, 0x30, 0x31] ∧ q.payload ≠ []) ∨ (k = 0x04 ∧ q.payload.length ≠ 2) ∨
          (k = 0x05 ∧ q.payload.length ≠ 4) ∨ (k = 0x06 ∧ q.payload.length ≠ 9) ∨ (k = 0x10 ∧ q.payload.length ≠ 5) ∨
          (k ∈ [0x20, 0x21] ∧ q.payload.length ≠ 130) →
        State.answered q stBadLen [] t ∧ State.portOnly s t)) ∧
  (∀ (s : State) (q : Request), s.sport.running = some q → s.portServes q.cmd = true → s.sized = true → q.t < 4 →
    (q.cmd = 0x01 → q.payload = [] → ∃ t p, exec .getInfo s = .next t ∧ State.answered q stOk p t ∧ State.portOnly s t ∧
      p.length = 28 ∧ leAt p 20 8 = s.otp.serial % 2 ^ 64) ∧
    (q.cmd = 0x02 → q.payload = [] → ∃ t, exec .getMuster s = .next t ∧ State.answered q stOk s.musterRecord t ∧
      State.portOnly s t ∧ s.musterRecord.length = 96) ∧
    (q.cmd = 0x03 → q.payload = [] → ∃ t, exec .getDefectMap s = .next t ∧
      State.answered q stOk (s.fmap.entries.flatMap MapEntry.bytes) t ∧ State.portOnly s t) ∧
    (∀ i n : Byte, q.cmd = 0x04 → q.payload = [i, n] → ∃ t, exec .getFaultLog s = .next t ∧ State.portOnly s t ∧
      (n ≠ 0 → i.toNat + n.toNat ≤ 64 → State.answered q stOk ((List.range n.toNat).flatMap fun k => s.faultBytes (i.toNat + k)) t) ∧
      (n = 0 ∨ 64 < i.toNat + n.toNat → State.answered q stBadArg [] t)) ∧
    (q.cmd = 0x05 → q.payload.length = 4 → ∃ t, exec .getLogbook s = .next t ∧
      let o := leN q.payload
      let im := s.logImage (s.reg Reg.logMirrorSeq).toNat
      State.portOnly s { t with sport := { t.sport with image := s.sport.image } } ∧
      (o = 0 → t.sport.image = im ∧ State.answered q stOk (im.take 1024) t) ∧
      (0 < o → t.sport.image = s.sport.image) ∧
      (0 < o → o < 8192 → s.sport.image ≠ [] → State.answered q stOk ((s.sport.image.drop o).take 1024) t) ∧
      (8192 ≤ o → State.answered q stBadArg [] t)) ∧
    (q.cmd = 0x06 → q.payload.length = 9 → ∃ t, exec .readReg s = .next t ∧
      let a := leAt q.payload 0 8
      let n := leAt q.payload 8 1
      let far := s.inWay = true ∧ ∃ k < n, aonBlock (a + 4 * k) = false
      let r := readWords n a s.begin_
      (1 ≤ n → n ≤ 64 → ¬ far → State.answered q stOk r.1 t ∧ r.1.length = 4 * n ∧ t.regs = r.2.regs ∧ t.mbox = r.2.mbox) ∧
      (n = 0 ∨ 64 < n → State.answered q stBadArg [] t ∧ State.portOnly s t) ∧
      (1 ≤ n → n ≤ 64 → far → State.answered q stBadState [] t ∧ State.portOnly s t)) ∧
    (q.cmd = 0x07 → q.payload.length = 12 → ∃ t, exec .writeReg s = .next t ∧
      let a := leAt q.payload 0 8
      (s.inWay = true → aonBlock a = false → State.answered q stBadState [] t ∧ State.portOnly s t) ∧
      (s.inWay = false ∨ aonBlock a = true → State.answered q stOk [] t ∧
        ∃ u, exec (.registerWrite iniPort a (BitVec.ofNat 32 (leAt q.payload 8 4))) s = .next u ∧
          { t with sport := u.sport, out := u.out, phy := u.phy.still t.phy } = u)) ∧
    (q.cmd = 0x07 → q.payload.length < 12 ∨ q.payload.length % 4 ≠ 0 → ∃ t, exec .writeReg s = .next t ∧
      State.answered q stBadLen [] t ∧ State.portOnly s t))

/-- Each completes, and answers. FLASH_BEGIN of the running firmware slot, of TYPE 5 or of TYPE 6 answers BAD_STATE and
changes nothing; of another TYPE with an entry and room it starts a session and clears the entry's VALID, with a
directory CRC that fits, and changes no other byte of flash. FLASH_DATA of a session writes its bytes at their offset of
the region and no other byte; beyond the length it answers BAD_ARG, and without a session BAD_STATE. FLASH_END ends the
session; an image that does not verify leaves flash as it is and answers why, and one that does gets VALID, its LENGTH
and a CRC that fits, and no byte outside the directory changes. APPROVE_ROW and REVOKE_SLOT whose signature is not good
answer why and change nothing; a good approval starts a KIND 1 entry for its row while the region has room, and a good
revocation by another slot that leaves one sets exactly that slot's revoke bit, while one that would leave none answers
BAD_ARG. RESET while a station is armed answers ARMED and changes nothing. BOOT_HOLD holds the next muster. (Payload
layouts and the other checks are log entries 17 and 20.) (R968.) -/
def Obligations.StewardFlashesSignsAndHolds : Prop :=
  let good := fun (t : State) => leN (t.flashAt 252 4) = Crypto.crc32c (t.flashAt 0 252)
  let flashOnly := fun (s t : State) =>
    State.portOnly s { t with flash := s.flash, sport := { t.sport with flash := s.sport.flash } }
  ∀ (s : State) (q : Request), s.sport.running = some q → s.portServes q.cmd = true → s.sized = true → q.t < 4 → s.memOk = true →
    (q.cmd = 0x10 → q.payload.length = 5 →
      let ty := leAt q.payload 0 1
      let len := leAt q.payload 1 4
      let barred := ty = 5 ∨ ty = 6 ∨ s.runningSlot = some ty
      ∃ t, exec .flashBegin s = .next t ∧ (barred → State.answered q stBadState [] t ∧ State.portOnly s t) ∧
        (∀ d, ¬ barred → ty ≠ 0 → (s.boot.rom = true → ty = 1 ∨ ty = 2) → s.dirType? ty = some d → 0 < len →
          d.off + len ≤ s.regionEnd d → State.answered q stOk [] t ∧ t.sport.flash = some ⟨ty, d.idx, len⟩ ∧
            t.flashByteAt (dirAt d.idx + 1) = 0 ∧ good t ∧
            (∀ a, a ≠ dirAt d.idx + 1 → (a < 252 ∨ 256 ≤ a) → t.flashByteAt a = s.flashByteAt a) ∧ flashOnly s t)) ∧
    (q.cmd = 0x11 → ∃ t, exec .flashData s = .next t ∧
      (s.sport.flash = none → State.answered q stBadState [] t ∧ State.portOnly s t) ∧
      (∀ f d, s.sport.flash = some f → s.sessionEntry? f = some d → q.payload.drop 4 ≠ [] →
        let o := leAt q.payload 0 4
        let bs := q.payload.drop 4
        (o + bs.length ≤ f.len → State.answered q stOk [] t ∧ t.sport.flash = some f ∧ flashOnly s t ∧
          ∀ a, t.flashByteAt a = if d.off + o ≤ a ∧ a < d.off + o + bs.length then bs.getD (a - (d.off + o)) 0 else s.flashByteAt a) ∧
        (f.len < o + bs.length → State.answered q stBadArg [] t ∧ State.portOnly s t))) ∧
    (q.cmd = 0x12 → q.payload = [] → ∃ t, exec .flashEnd s = .next t ∧ t.sport.flash = none ∧ flashOnly s t ∧
      (s.sport.flash = none → State.answered q stBadState [] t ∧ t.flash = s.flash) ∧
      (∀ f d, s.sport.flash = some f → s.sessionEntry? f = some d →
        let st := s.imageStatus f.type (s.flashAt d.off f.len)
        State.answered q st [] t ∧ (st ≠ stOk → t.flash = s.flash) ∧
        (st = stOk → t.flashByteAt (dirAt d.idx + 1) = 1 ∧ leN (t.flashAt (dirAt d.idx + 8) 4) = f.len % 2 ^ 32 ∧ good t ∧
          ∀ a, 256 ≤ a → t.flashByteAt a = s.flashByteAt a))) ∧
    (q.cmd = 0x20 → q.payload.length = 130 →
      let row := leAt q.payload 0 1
      let slot := leAt q.payload 1 1
      let st := s.signedBy slot q.payload ([0x48, 0x44, 0x52, 0x41] ++ leBytes 8 s.otp.serial ++ leBytes 1 row ++ leBytes 4 s.fmap.seq.toNat)
      row < 8 → slot < 4 → ∃ t, exec .approveRow s = .next t ∧
        (st ≠ stOk → State.answered q st [] t ∧ State.portOnly s t) ∧
        (st = stOk → s.fmap.entries.length + s.fmap.writing.length < 64 → State.answered q stOk [] t ∧
          ∃ e, t.fmap = { s.fmap with writing := s.fmap.writing ++ [e] } ∧ e.kind = 1 ∧ e.target = row)) ∧
    (q.cmd = 0x21 → q.payload.length = 130 →
      let slot := leAt q.payload 0 1
      let by_ := leAt q.payload 1 1
      let st := s.signedBy by_ q.payload ([0x48, 0x52, 0x56, 0x4B] ++ leBytes 8 s.otp.serial ++ leBytes 1 slot)
      slot < 4 → by_ < 4 → ∃ t, exec .revokeSlot s = .next t ∧
        (slot = by_ ∨ (s.otp.revoked.set slot true).all id = true → State.answered q stBadArg [] t ∧ State.portOnly s t) ∧
        (slot ≠ by_ → (s.otp.revoked.set slot true).all id = false → st ≠ stOk → State.answered q st [] t ∧ State.portOnly s t) ∧
        (slot ≠ by_ → (s.otp.revoked.set slot true).all id = false → st = stOk → State.answered q stOk [] t ∧
          t.otp = { s.otp with revoked := s.otp.revoked.set slot true } ∧ State.portOnly s { t with otp := s.otp })) ∧
    (q.cmd = 0x30 → q.payload = [] → s.anyArmed = true → ∃ t, exec .reset s = .next t ∧
      State.answered q stArmed [] t ∧ State.portOnly s t) ∧
    (q.cmd = 0x31 → q.payload = [] → ∃ t, exec .bootHold s = .next t ∧ State.answered q stOk [] t ∧
      State.portOnly s { t with boot := s.boot } ∧ t.boot = { s.boot with hold := true })

/-- Each completes. SYS_RST_N_RISE out of a reset with main power present starts muster at M0 and turns EXTEST into
BYPASS; else it changes nothing. MUSTER_PHASE_END of M0, M6 and M8 that passes adds a record entry and starts the next
phase, and one that fails ends in the waystation state with cause 0x01, 0x09 or 0x0B. M1 ends there with cause 0x03,
under the ROM, where no firmware slot is good, with 0x04 where the manifest's block does not verify, and else goes on to
M2. M2 to M5 mark the failing tiles that are neither holes nor marked, show their number in ABSORBED, and go on; a
failure of another unit ends there with 0x06, 0x07 or 0x08. M7 ends there with 0x0A for a lane in use. M9 ends there
once with cause 0x20 under BOOT_HOLD, with 0x0C for a band that cannot run, and else muster has passed. HANDOFF after
that loads the manifest of boot flash or ends with 0x04, verifies and copies the application image or ends with 0x05,
and releases core 0 alone at its entry. Without a phase that runs, or before muster has passed, they change nothing.
(The order of checks is log entry 22.) (21_muster_and_waystation.md, 05_stitched_fabric.md.) -/
def Obligations.MusterRunsPhaseByPhase : Prop :=
  (∀ s : State, ∃ t, exec .sysRstNRise s = .next t ∧
    (s.boot.rstLow = true → s.log.power = true → t.boot.phase = some 0 ∧ t.boot.rstLow = false ∧ t.inWay = false ∧
      t.running = false ∧ t.fget Reg.sysBootStat 27 24 = 0 ∧ t.tap = (if s.tap = 3 then 0 else s.tap) ∧
      State.onlyRegs [Reg.sysBootStat] s { t with boot := s.boot, tap := s.tap }) ∧
    (s.boot.rstLow = false ∨ s.log.power = false → State.unchanged s t)) ∧
  (∀ (s : State) (fail : Bool) (unit index p : Nat) (marks : List (Nat × Nat)), s.boot.phase = some p → s.sized = true →
    ∃ t, exec (.musterPhaseEnd fail unit index marks) s = .next t ∧
      let us := (s.now - s.boot.phaseStart) / 250
      let goes := fun (r u i : Nat) => t.boot.phase = some (p + 1) ∧ t.fget Reg.sysBootStat 27 24 = p + 1 ∧
        t.boot.record = s.boot.record ++ [⟨r, u, i, us⟩]
      let good := fun (k : Nat) => (s.dirFind? k).isSome = true ∧ s.firmwareStatus (s.flashImage k) = 0
      (∀ cause, (p, cause) ∈ [(0, 0x01), (6, 0x09), (8, 0x0B)] →
        (fail = false → goes 0 0 0) ∧
        (fail = true → State.stopped cause unit index t ∧ t.boot.record = s.boot.record ++ [⟨2, unit, index, us⟩])) ∧
      (p = 1 → fail = true → State.stopped 0x02 unit index t) ∧
      (p = 1 → fail = false → ¬ good 1 → ¬ good 2 → State.stopped 0x03 5 0 t ∧ t.boot.rom = true) ∧
      (p = 1 → fail = false → good 1 ∨ good 2 → s.bootBlockOk (s.flashImage 4) = false → State.stopped 0x04 5 0 t) ∧
      (p = 1 → fail = false → good 1 ∨ good 2 → s.bootBlockOk (s.flashImage 4) = true →
        t.boot.phase = some 2 ∧ t.boot.man = s.bootDev (s.flashImage 4) ∧ (t.flag Reg.sysBootStat 16 = true ↔ ¬ good 1)) ∧
      (∀ cause, (p, cause) ∈ [(2, 0x06), (3, 0x07), (4, 0x08), (5, 0x08)] →
        let ks := s.newMarks p marks
        (fail = false → goes (if ks = [] then 0 else 1) (if ks = [] then 0 else 1) (ks.headD 0) ∧
          t.boot.marks = s.boot.marks ++ ks.map (fun k => (k, markCause p)) ∧
          t.fget Reg.sysBootStat 7 0 = min 255 t.boot.marks.length) ∧
        (fail = true → State.stopped cause unit index t)) ∧
      (p = 7 → ∀ k, ((marks.map Prod.fst).filter fun k => k < 24).find? (fun k =>
          ((s.boot.man.map fun d => (d.laneUse k).1).getD 0) != 0) = some k → State.stopped 0x0A 2 k t) ∧
      (p = 7 → fail = false → marks = [] → goes 0 0 0 ∧ t.boot.lane22 = true) ∧
      (p = 9 → s.boot.hold = true → fail = false → State.stopped 0x20 5 0 t ∧ t.boot.hold = false ∨ ∃ b, State.stopped 0x0C 5 b t) ∧
      (p = 9 → s.boot.hold = false → fail = false →
        t.boot.phase = some 10 ∧ t.fget Reg.sysBootStat 27 24 = 15 ∨ ∃ b, State.stopped 0x0C 5 b t) ∧
      (p = 9 → s.boot.man = none → fail = false → s.boot.marks = [] → t.boot.phase = some 10 ∨ s.boot.hold = true)) ∧
  (∀ (s : State) (fail : Bool) (unit index : Nat) (marks : List (Nat × Nat)), (∀ p, s.boot.phase = some p → 10 ≤ p) →
    ∃ t, exec (.musterPhaseEnd fail unit index marks) s = .next t ∧ State.unchanged s t) ∧
  (∀ s : State, s.boot.phase ≠ some 10 → ∃ t, exec .handoff s = .next t ∧ State.unchanged s t) ∧
  (∀ s : State, s.boot.phase = some 10 → s.sized = true → s.memOk = true →
    let r := loadFull (s.flashImage 4) [] (needDomains [domApp] { s.begin_ with boot := { s.boot with phase := none } })
    let bs := s.flashImage 3
    let h := appHeader bs
    let runs := fun (d : DevBlock) => s.appStatus bs = 0 ∧ d.appPlaceOk h.1 h.2.2 = true
    ∃ t, exec .handoff s = .next t ∧ (r.1.dev = none → State.stopped 0x04 5 0 t) ∧
      (∀ d, r.1.dev = some d → ¬ runs d → State.stopped 0x05 5 0 t) ∧
      (∀ d, r.1.dev = some d → runs d → t.flag Reg.sysBootStat 30 = true ∧ t.dev = some d ∧ (t.core 0).run = true ∧
        (t.core 0).entry = h.2.1 ∧ (∀ c, 1 ≤ c → c < 4 → (t.core c).run = false) ∧
        (∀ i < h.2.2, t.dramByteAt (h.1 + i) = bs.getD (32 + i) 0) ∧
        (∀ a, a < h.1 ∨ h.1 + h.2.2 ≤ a → (∀ w ∈ r.2, a < w.1 ∨ w.1 + w.2.length ≤ a) → t.dramByteAt a = s.dramByteAt a)))

/-- Each completes. RESET and a RESET_CMD_WRITE of 0x5A while no station is armed start muster from M0 with no work, no
manifest and no output driven, and keep OTP, DRAM, tile SRAM, the timebase and its increment, the counts of the logbook
and a pending BOOT_HOLD. RESET_CMD_WRITE while a station is armed is dropped and counted; of KEY 0, or of another KEY
with none armed, it changes nothing. SYS_RST_N_LOW of 10 us or more brings every register outside the logbook block to
its reset word, and keeps the logbook, the calendar, OTP and the memories (but for a mirror record that it cuts short);
under 1 us it changes nothing but the model's count of free values, and between them it does one or the other, as a free
value says. MAIN_POWER_LOSS keeps OTP and the calendar alone of what is not flash, and muster records no more.
MAIN_POWER_RETURN starts LT and the time CSR from 0. VBAT_LOW without main power marks the calendar lost, and with it
does nothing. (What DRAM and SRAM keep, and the register values that the manual does not give, are log entries 3 to 6,
12 and 22.) (21_muster_and_waystation.md, 22_logbook.md, 02_access_classes_counters_mailboxes.md, 18_timebase.md.) -/
def Obligations.ResetsAndPowerKeepWhatTheyMust : Prop :=
  (∀ (s : State) (ini key : Nat), s.anyArmed = false → key % 256 = 0x5A → s.sized = true →
    ∃ t, exec (.resetCmdWrite ini key) s = .next t ∧ State.mustering t ∧ t.otp = s.otp ∧ t.tb = s.tb ∧ t.dram = s.dram ∧
      t.sram = s.sram ∧ t.reg Reg.timeTbIncr = s.reg Reg.timeTbIncr ∧ t.reg Reg.logPoh = s.reg Reg.logPoh ∧
      t.calendar = s.calendar ∧ t.boot.hold = s.boot.hold ∧ (∀ c, (t.core c).run = false)) ∧
  (∀ (s : State) (q : Request), s.anyArmed = false → s.sized = true → s.sport.running = some q → q.cmd = 0x30 → q.payload = [] →
    s.portServes 0x30 = true → q.t < 4 →
    ∃ t, exec .reset s = .next t ∧ State.mustering t ∧ State.answered q stOk [] t ∧ t.otp = s.otp ∧ t.tb = s.tb ∧
      t.dram = s.dram ∧ t.sram = s.sram ∧ t.reg Reg.timeTbIncr = s.reg Reg.timeTbIncr ∧ t.boot.hold = s.boot.hold) ∧
  (∀ (s : State) (ini key : Nat), key % 256 = 0 ∨ (s.anyArmed = false ∧ key % 256 ≠ 0x5A) →
    ∃ t, exec (.resetCmdWrite ini key) s = .next t ∧ State.unchanged s t) ∧
  (∀ (s : State) (ini key : Nat), s.anyArmed = true → key % 256 ≠ 0 → ∃ t, exec (.resetCmdWrite ini key) s = .next t ∧
    t.reg Reg.sysWdropCnt = BitVec.ofNat 32 (satWord 24 (s.reg Reg.sysWdropCnt).toNat).1 ∧ t.pendingEvent 448 = true ∧
    State.onlyRegs [Reg.sysWdropCnt, Reg.sysWdropAddr, Reg.sysWdropSrc] s t) ∧
  (∀ (s : State) (ns : Nat),
    let whole := fun (t : State) => t.boot.rstLow = true ∧ t.boot.phase = none ∧ t.tb = State.reset.tb ∧ t.otp = s.otp ∧
      t.dram = s.dram ∧ t.sram = s.sram ∧ (s.log.writing = [] → t.flash = s.flash) ∧ t.fieldSafe = true ∧
      (∀ ch, t.driven ch = false) ∧ t.anyArmed = false ∧ t.dev = none ∧ t.bales = [] ∧ t.boot.hold = s.boot.hold ∧
      (∀ a, logReg a = false → t.reg a = BitVec.ofNat 32 (regReset a)) ∧
      (∀ a, logReg a = true → a ≠ Reg.logMirror → t.reg a = s.reg a)
    ∃ t, exec (.sysRstNLow ns) s = .next t ∧ t.free = s.free + 1 ∧ (10000 ≤ ns → whole t) ∧
      (ns < 1000 → State.unchanged { s with free := s.free + 1 } t) ∧
      (whole t ∨ State.unchanged { s with free := s.free + 1 } t)) ∧
  (∀ s : State, ∃ t, exec .mainPowerLoss s = .next t ∧ (s.log.power = false → State.unchanged s t) ∧
    (s.log.power = true → t.log.power = false ∧ t.log.fresh = true ∧ t.otp = s.otp ∧ t.calendar = s.calendar ∧
      t.reg Reg.logCalCtrl = s.reg Reg.logCalCtrl ∧ (s.log.writing = [] → t.flash = s.flash) ∧
      (∀ a, a ≠ Reg.logCalLo → a ≠ Reg.logCalHi → a ≠ Reg.logCalCtrl → a ≠ Reg.logMirror → t.reg a = BitVec.ofNat 32 (regReset a)) ∧
      t.boot = State.reset.boot ∧ (∀ ch, t.driven ch = false) ∧ t.anyArmed = false)) ∧
  (∀ s : State, ∃ t, exec .mainPowerReturn s = .next t ∧ (s.log.power = true → State.unchanged s t) ∧
    (s.log.power = false → State.unchanged { s with tb := State.reset.tb, log := { s.log with power := true } } t)) ∧
  (∀ s : State, ∃ t, exec .vbatLow s = .next t ∧ (s.log.power = true → State.unchanged s t) ∧
    (s.log.power = false → State.unchanged { s with log := { s.log with vbatLost := true } } t))

/-- Each completes. REFCLK_LOSS takes the health of the healthy reference (of two healthy ones it does not say which)
and, from REFCLK_A, its requalification. Of the reference in use, or the target of a handover, it logs code 0x0B and
starts a handover to the other reference where that is healthy, else holdover, which raises its event once; of any other
it changes nothing more, and of an unhealthy one nothing. REFCLK_SWITCH ends a handover: SOURCE, SWITCH_CNT, TIME.STAT
and the event. REFCLK_RECOVER gives a reference its health, and out of holdover starts a handover to it, or starts or
defers the requalification of REFCLK_A. REFCLK_RETURN hands over to REFCLK_A after requalification. LREF_LOSS takes lock
and PLL from every lane of its side but those in PARK and takes their links and endpoints down; LREF_RETURN trains the
lanes of links again and locks those of Ethernet. NODE_FAIL marks the node, logs code 0x0A, and its island borrows the
clock of the healthy neighbour with the lowest index; a tile that runs is retired with CAUSE 7; a system island without
such a neighbour sends the device to the waystation state with cause 0x12. Where the condition is not met they change
nothing. (The fault entry of LREF_LOSS is log entry 25, handovers out of holdover log entry 28.)
(19_power_and_clocks.md, 11_lanes.md, 12_suras_link.md.) -/
def Obligations.ClocksHandOverAndBorrow : Prop :=
  let ref := Reg.meshRefStat
  (∀ (s : State) (r : Nat), r < 2 → (r = 0 → s.flag ref 5 = true ∧ (s.flag ref 6 = true → Config.freeBit s.free = true)) →
    (r = 1 → s.flag ref 5 = true → s.flag ref 6 = true ∧ Config.freeBit s.free = false) →
    ∃ t, exec .refclkLoss s = .next t ∧ (s.flag ref (5 + r) = false → State.unchanged s t) ∧
      (s.flag ref (5 + r) = true → t.flag ref (5 + r) = false ∧ (r = 0 → t.flag ref 7 = false ∧ t.refclk.waiting = false) ∧
        (s.refUsed r = true → State.faultAdded s t 0 none 0x0B 5 r 0 ∧ t.pendingEvent 455 = true ∧
          (s.refOk (1 - r) = true → t.refMoves = true ∧ t.flag ref 7 = false ∧ t.refSource = s.refSource ∧
            t.refclk.target = 1 - r) ∧
          (s.refOk (1 - r) = false → t.refMoves = false ∧ t.refSource = 2 ∧ t.refclk.told = true ∧
            (s.refclk.told = false → t.pendingEvent 458 = true)) ∧
          State.onlyRegs (ref :: faultRegs) s { t with refclk := s.refclk, free := s.free }) ∧
        (s.refUsed r = false → t.refMoves = s.refMoves ∧ t.refSource = s.refSource ∧ t.refclk.target = s.refclk.target ∧
          State.onlyRegs [ref] s { t with refclk := s.refclk, free := s.free }))) ∧
  (∀ s : State, s.refclk.target < 2 → ∃ t, exec .refclkSwitch s = .next t ∧ (s.refMoves = false → State.unchanged s t) ∧
    (s.refMoves = true → t.refMoves = false ∧ t.refSource = s.refclk.target ∧ t.pendingEvent 456 = true ∧
      t.flag Reg.timeStat 0 = decide (s.refclk.target = 1) ∧ t.flag ref 7 = (s.refclk.waiting && s.refclk.target == 1) ∧
      t.reg Reg.meshRefSwitchCnt = BitVec.ofNat 32 (satWord 24 (s.reg Reg.meshRefSwitchCnt).toNat).1 ∧
      t.refclk = ⟨s.refclk.target, false, false, false⟩ ∧
      State.onlyRegs [ref, Reg.timeStat, Reg.meshRefSwitchCnt] s { t with refclk := s.refclk })) ∧
  (∀ (s : State) (r : Nat), r < 2 →
    let fit := r = 0 ∨ (s.dev.map fun d => d.dev.refB) = some true
    ∃ t, exec (.refclkRecover r) s = .next t ∧ t.flag ref (5 + r) = true ∧ t.refSource = s.refSource ∧
      State.onlyRegs [ref] s { t with refclk := s.refclk } ∧
      (fit → s.refMoves = false → s.refSource = 2 → t.refMoves = true ∧ t.refclk.target = r) ∧
      (r = 0 → s.refMoves = true → s.refclk.target = 1 → t.refclk = { s.refclk with waiting := true }) ∧
      (r = 0 → s.refMoves = false → s.refSource = 1 → t.flag ref 7 = true ∧ t.refclk = s.refclk) ∧
      (¬ fit → t.refMoves = s.refMoves ∧ t.refclk = s.refclk)) ∧
  (∀ s : State,
    let due := s.flag ref 7 = true ∧ s.refOk 0 = true ∧ s.refSource = 1
    ∃ t, exec .refclkReturn s = .next t ∧ (¬ due → State.unchanged s t) ∧
      (due → t.refMoves = true ∧ t.flag ref 7 = false ∧ t.refclk = { s.refclk with target := 0, returning := true } ∧
        t.refSource = 1 ∧ t.pendingEvent 457 = true ∧ State.onlyRegs [ref] s { t with refclk := s.refclk })) ∧
  (∀ (s : State) (side : Nat), side < 2 → s.sized = true → s.epsOk = true → s.lref.getD side false = true →
    ∃ t, exec (.lrefLoss side) s = .next t ∧ t.lref = s.lref.set side false ∧ t.pendingEvent 467 = true ∧
      State.faultAdded s t 0 none 0x0C 2 (side * 12) 0 ∧
      (∀ k ∈ sideLanes side, s.lanePower k ≠ 3 → t.laneLock k = false ∧ t.laneTrain k = 0 ∧ t.flag (Reg.laneStat k) 1 = false ∧
        t.lanePower k = s.lanePower k) ∧
      (∀ k < 24, k ∉ sideLanes side ∨ s.lanePower k = 3 → t.reg (Reg.laneStat k) = s.reg (Reg.laneStat k)) ∧
      (∀ l < 16, (∃ k ∈ s.linkLanes l, k ∈ sideLanes side ∧ s.lanePower k ≠ 3) → (t.link l).up = false ∧
        t.flag (Reg.slinkStat l) 31 = false ∧ ∀ e ∈ s.eps, e.link = l → t.epState l e.addr = 0)) ∧
  (∀ (s : State) (side : Nat), s.lref.getD side false = false → ∃ t, exec (.lrefLoss side) s = .next t ∧ State.unchanged s t) ∧
  (∀ (s : State) (side : Nat), side < 2 → s.sized = true → s.lref.getD side true = false →
    ∃ t, exec (.lrefReturn side) s = .next t ∧ t.lref = s.lref.set side true ∧
      (∀ k ∈ sideLanes side, s.lanePower k ≠ 3 →
        (s.fget (Reg.laneCfg k) 5 4 = 1 → t.laneTrain k = 1 ∧ t.lanePower k = 1 ∧ t.laneLock k = false ∧
          t.flag (Reg.laneStat k) 1 = true ∧ (t.reg (Reg.laneTxfirNow k)).toNat =
            tapWord (s.fget (Reg.laneTxfir k) 3 0) (s.fget (Reg.laneTxfir k) 13 8) (s.fget (Reg.laneTxfir k) 20 16)) ∧
        (s.fget (Reg.laneCfg k) 5 4 = 2 → t.laneTrain k = 0 ∧ t.lanePower k = 1 ∧ t.laneLock k = true)) ∧
      (∀ k < 24, k ∉ sideLanes side ∨ s.lanePower k = 3 → t.reg (Reg.laneStat k) = s.reg (Reg.laneStat k)) ∧
      State.onlyRegs ((sideLanes side).flatMap fun k => [Reg.laneStat k, Reg.laneTxfirNow k]) s
        { t with lref := s.lref, lanes := s.lanes, phy := s.phy }) ∧
  (∀ (s : State) (side : Nat), s.lref.getD side true = true → ∃ t, exec (.lrefReturn side) s = .next t ∧ State.unchanged s t) ∧
  (∀ (s : State) (k : Nat), s.nodeFailed k = true → ∃ t, exec (.nodeFail k) s = .next t ∧ State.unchanged s t) ∧
  (∀ (s : State) (k : Nat), k < 96 → s.nodeFailed k = false → s.sized = true → (∀ p ∈ s.lenders, p.2 ≠ k) →
    let lender := (s.setFlag (Reg.meshNodeFail (k / 32)) (k % 32) true).lender? k
    let runs := k < 72 ∧ ((s.tile k).st = tileActive ∨ (s.tile k).st = tileSpare)
    ∃ t, exec (.nodeFail k) s = .next t ∧ t.nodeFailed k = true ∧ t.pendingEvent 459 = true ∧
      (∀ j, lender = some j → ¬ runs → t.flag (Reg.meshBorrow (k / 32)) (k % 32) = true ∧
        t.lenders = s.lenders.filter (fun p => p.1 != k) ++ [(k, j)] ∧ (k < 72 → (t.tile k).borrowed = true) ∧
        (∀ i, i ≠ k → t.tile i = s.tile i) ∧
        State.faultAdded s t 0 (if k < 72 then (s.tile k).owner else none) 0x0A 6 k 0 ∧
        State.onlyRegs (Reg.meshNodeFail (k / 32) :: Reg.meshBorrow (k / 32) :: faultRegs) s
          { t with tiles := s.tiles, lenders := s.lenders }) ∧
      (runs → s.fmap.entries.length + s.fmap.writing.length < 64 → ∃ e, t.fmap = { s.fmap with writing := s.fmap.writing ++ [e] } ∧
        e.kind = 0 ∧ e.target = k ∧ e.cause = 7) ∧
      (72 ≤ k → lender = none → s.inWay = false → State.stopped 0x12 6 k t))

/-- Each command completes. DOMAIN_OFF switches off a domain that may be off, with its registers at their reset values,
and no output driven when it is the field's; DOMAIN_ON switches one other than a band on, outside the waystation state,
with the same registers; else they change nothing. OP_RAMP_END gives an island the point and the nominal voltage that it
ramps to. AVS_STEP moves the voltage by 5 mV inside the point's window. AVS_LIMIT holds an island one point lower.
THROTTLE at the limit temperature lowers the thermal limit of a band by one and counts it, THERMAL_LIMIT_RISE raises it
up to OP_MAX, THERMAL_MAX puts every limit to 1, and a band that is on follows the lowest of its limits. THERM_TRIP
enters the waystation state with cause 0x11, and in it only logs code 0x17. POWER_MEASURE above the envelope lowers the
highest policy point by one and raises its event once. PLACEMENT_WINDOW reports each armed station's ratio, counts
windows below 500 per mille, and lowers the policy point of a band whose stations were below it for four windows.
(Readings of caps and ramps are log entry 28.) (19_power_and_clocks.md, 08_khan.md, 21_muster_and_waystation.md.) -/
def Obligations.PowerFollowsItsLimits : Prop :=
  (∀ (s : State) (d : Nat), d < 16 →
    let may := d ≠ 0 ∧ s.dev ≠ none ∧ s.mayBeOff d = true ∧ s.domOn d = true ∧
      (bitAt ((s.dev.map fun b => b.power.domainsOff).getD 0) d = true ∨ (domBand0 ≤ d ∧ d < domTree))
    ∃ t, exec (.domainOff d) s = .next t ∧ (¬ may → State.unchanged s t) ∧
      (may → t.domOn d = false ∧ (∀ e < 16, e ≠ d → t.domOn e = s.domOn e) ∧
        (∀ a, domainOf a = d → t.reg a = BitVec.ofNat 32 (regReset a)) ∧
        (d ≠ domField → ∀ a, domainOf a ≠ d → a ≠ Reg.pwrDomOn → a ≠ Reg.pwrTreeOp → (∀ b < 4, a ≠ Reg.pwrBandOp b) →
          t.reg a = s.reg a) ∧
        (d = domField → t.fieldSafe = true ∧ ∀ ch, t.driven ch = false))) ∧
  (∀ (s : State) (d : Nat), d < 16 → d ≠ 0 →
    let may := s.inWay = false ∧ s.domOn d = false ∧ (d < domBand0 ∨ domTree ≤ d)
    ∃ t, exec (.domainOn d) s = .next t ∧ (¬ may → State.unchanged s t) ∧
      (may → t.domOn d = true ∧ (∀ e < 16, e ≠ d → t.domOn e = s.domOn e) ∧
        (∀ a, domainOf a = d → t.reg a = BitVec.ofNat 32 (regReset a)) ∧
        (d = domField → s.boot.rstLow = false → t.fieldSafe = false))) ∧
  (∀ (s : State) (k p : Nat), k ≤ treeIsland → p < 8 → s.pwr.ramps.find? (fun r => r.1 == k) = some (k, p) →
    ∃ t, exec (.opRampEnd k) s = .next t ∧ t.islandOp k = p ∧ t.islandVolt k = (opVolts p).1 ∧
      t.pwr.ramps = s.pwr.ramps.filter (fun r => r.1 != k) ∧ (∀ i < 72, i ≠ k → t.reg (Reg.tileIsland i) = s.reg (Reg.tileIsland i)) ∧
      State.onlyRegs [Reg.tileIsland k, Reg.pwrTreeOp] s { t with pwr := s.pwr }) ∧
  (∀ (s : State) (k : Nat), s.pwr.ramps.find? (fun r => r.1 == k) = none →
    ∃ t, exec (.opRampEnd k) s = .next t ∧ State.unchanged s t) ∧
  (∀ (s : State) (k slack : Nat), k < 72 → slack < 256 → s.islandOp k ≠ 0 →
    let v := s.islandVolt k
    let w := opVolts (s.islandOp k)
    ∃ t, exec (.avsStep k slack) s = .next t ∧ t.fget (Reg.tileIsland k) 15 8 = slack ∧ t.islandOp k = s.islandOp k ∧
      t.islandVolt k = (if slack < s.fget Reg.pwrAvsCfg 7 0 ∧ v + 5 ≤ w.2.2 then v + 5
        else if s.fget Reg.pwrAvsCfg 7 0 ≤ slack ∧ s.fget Reg.pwrAvsCfg 15 8 < slack ∧ w.2.1 + 5 ≤ v then v - 5 else v) ∧
      State.onlyRegs [Reg.tileIsland k] s t) ∧
  (∀ (s : State) (k slack : Nat), s.islandOp k = 0 → ∃ t, exec (.avsStep k slack) s = .next t ∧ State.unchanged s t) ∧
  (∀ (s : State) (k : Nat), k < 72 →
    let may := s.islandOp k ≠ 0 ∧ k ∉ s.pwr.limited
    ∃ t, exec (.avsLimit k) s = .next t ∧ (¬ may → State.unchanged s t) ∧
      (may → t.islandOp k = max 1 (s.islandOp k - 1) ∧ t.flag (Reg.tileIsland k) 31 = true ∧ t.pendingEvent (evTile k) = true ∧
        t.pwr = { s.pwr with limited := s.pwr.limited ++ [k] } ∧ State.onlyRegs [Reg.tileIsland k] s { t with pwr := s.pwr })) ∧
  (∀ (s : State) (b sensor : Nat) (temp : Int), b ≤ 4 → sensor < 64 →
    let hot := ∃ d, s.dev = some d ∧ governs b sensor = true ∧ (d.power.tThrottle : Int) * 16 ≤ temp ∧ 1 < s.therm b
    ∃ t, exec (.throttle b sensor temp) s = .next t ∧ (t.reg (Reg.pwrTemp sensor)).toNat = ofInt 16 temp ∧
      (¬ hot → State.onlyRegs [Reg.pwrTemp sensor] s t) ∧
      (hot → t.therm b = s.therm b - 1 ∧ t.pendingEvent 460 = true ∧ (b < 4 → s.bandOn b = true → t.opPt b = t.lowest b) ∧
        t.reg Reg.pwrThrotCnt = BitVec.ofNat 32 (satWord 24 (s.reg Reg.pwrThrotCnt).toNat).1 ∧
        (∀ c ≤ 4, c ≠ b → t.therm c = s.therm c ∧ t.policyPt c = s.policyPt c))) ∧
  (∀ (s : State) (b : Nat), b ≤ 4 →
    let may := ∃ d, s.dev = some d ∧ s.therm b < d.power.opMax ∧ s.therm b < 7
    ∃ t, exec (.thermalLimitRise b) s = .next t ∧
      (may → t.therm b = s.therm b + 1 ∧ (b < 4 → s.bandOn b = true → t.opPt b = t.lowest b) ∧
        ∀ c ≤ 4, c ≠ b → t.therm c = s.therm c) ∧
      ((∀ d, s.dev = some d → d.power.opMax ≤ s.therm b) → State.unchanged s t)) ∧
  (∀ (s : State) (sensor : Nat) (temp : Int), sensor < 64 → ∃ t, exec (.thermalMax sensor temp) s = .next t ∧
    (t.reg (Reg.pwrTemp sensor)).toNat = ofInt 16 temp ∧
    ((s.tjMax : Int) * 16 ≤ temp → ∀ b ≤ 4, t.therm b = min 1 (s.therm b)) ∧
    (temp < (s.tjMax : Int) * 16 → State.onlyRegs [Reg.pwrTemp sensor] s t)) ∧
  (∀ (s : State) (sensor : Nat) (temp : Int), sensor < 64 → ∃ t, exec (.thermTrip sensor temp) s = .next t ∧
    (t.reg (Reg.pwrTemp sensor)).toNat = ofInt 16 temp ∧
    (temp < ((s.tjMax : Int) + 10) * 16 → State.onlyRegs [Reg.pwrTemp sensor] s t) ∧
    (((s.tjMax : Int) + 10) * 16 ≤ temp → t.pendingEvent 462 = true ∧ (s.inWay = false → State.stopped 0x11 5 sensor t) ∧
      (s.inWay = true → State.faultAdded s t 0 none 0x17 5 sensor 0 ∧
        State.onlyRegs (Reg.pwrTemp sensor :: faultRegs) s t))) ∧
  (∀ (s : State) (mw : Nat) (d : DevBlock), s.dev = some d → ∃ t, exec (.powerMeasure mw) s = .next t ∧
    (t.reg Reg.pwrMeasMw).toNat = min mw 65535 ∧ t.pwr.overEnv = decide (d.power.envelopeW * 1000 < mw) ∧
    (mw ≤ d.power.envelopeW * 1000 → State.onlyRegs [Reg.pwrMeasMw] s { t with pwr := s.pwr }) ∧
    (d.power.envelopeW * 1000 < mw → (s.pwr.overEnv = false → t.pendingEvent 461 = true) ∧
      ∀ b < 4, t.policyPt b = if s.highestBand? = some b ∧ 1 < s.policyPt b then s.policyPt b - 1 else s.policyPt b)) ∧
  (∀ (s : State) (busy bw : List Nat), s.sized = true → ∃ t, exec (.placementWindow busy bw) s = .next t ∧
    (∀ n < 16, s.armed n = true → t.fget (Reg.khanStnBusy n) 9 0 = min 1023 (busy.getD n 0)) ∧
    ((∀ n < 16, s.armed n = false) →
      (∀ n < 16, t.stn n = { s.stn n with
        idleWindows := if busy.getD n 0 < 500 then (s.stn n).idleWindows + 1 else 0
        moved := false }) ∧
      t.tiles = s.tiles ∧ ∀ d, s.dev = some d → ∀ b < 4, t.policyPt b =
        if s.bandPowered b = true ∧ d.power.opDefault < s.policyPt b ∧
          (∀ n < 16, s.inBand b n = true → 4 ≤ (t.stn n).idleWindows) then s.policyPt b - 1 else s.policyPt b) ∧
    (∀ n m, n < 16 → (∀ k < 16, k ≠ n → s.armed k = false) → s.growth busy n = some m → s.guarOf n ≤ s.effHeld n → 0 < m →
      m ≤ (s.tilesFor n).length → s.inFlight n = true → (t.stn n).joining = s.pickTiles n m ∧ (t.stn n).sinceGrowth = some 0 ∧
        (t.stn n).tiles = (s.stn n).tiles))

/-- Each command completes. TRAIN while a lane trains records the far status, locks, applies the request to the taps and
answers it with the lane's own request; a hold leaves the taps, a preset applies, an increment of PRE moves it by one
with MAIN making up the sum where that is valid, and otherwise answers MAX and leaves the taps. BACK_CHANNEL_REQUEST
sends the device's request. When READY has gone both ways training is done. LANE_TRAIN_FAIL ends it as failed, counts
and raises its event, and TRAIN_RETRY starts it again at the next preset. LANE_LOCK_LOSS takes the whole link and its
endpoints down and trains its lanes. SKIP_SEND of an ACTIVE Suras lane in IR mode sends a SKIP block, not scrambled, on
every lane of the link, onto the pins or in loopback to the lane itself, but of a lane that sends a test pattern; of any
other lane it sends nothing (R516, R546). SKIP_RECEIVE of a Suras lane in IR mode deletes above a fill of 10 and repeats
below 6, on all lanes of the link. EB_SLIP, BAD_CONTROL_BLOCK, and PRBS_BIT_ERROR while the checker checks a pattern,
count, and LANE_EYE_UPDATE of a locked lane shows the eye. Where the condition is not met nothing changes. The equaliser
of a lane that gains CDR lock starts to adapt unless it is frozen (R530). (Retries, fills and the answer to a request
that R525 bars are log entry 25.) (11_lanes.md, 12_suras_link.md.) -/
def Obligations.LanesTrainSkipAndCount : Prop :=
  (∀ (sum : Nat) (now : Nat × Nat × Nat) (req : Nat),
    let r := applyRequest sum now req
    let up := (now.1 + 1, sum - (now.1 + 1) - now.2.2, now.2.2)
    (req % 128 = 0 → r = (now, 0)) ∧
    (∀ p, p < 5 → req / 16 % 8 = p + 1 → r = (preset p, 16)) ∧
    (req % 128 = 1 → now.1 < 15 → now.2.2 ≤ 31 → now.1 + 1 + now.2.2 ≤ sum → tapsValid up.1 up.2.1 up.2.2 = true → r = (up, 1)) ∧
    (req % 128 = 1 → now.2.2 ≤ 31 → 15 ≤ now.1 ∨ (now.1 + 1 + now.2.2 ≤ sum ∧ tapsValid up.1 up.2.1 up.2.2 = false) → r = (now, 3))) ∧
  (∀ (s : State) (k req st : Nat) (locked : Bool), k < 24 → s.sized = true → s.laneTrain k = 1 →
    let x := s.lane k
    let r := applyRequest x.sum (taps (s.reg (Reg.laneTxfirNow k)).toNat) req
    let ends := x.readyTx = true ∧ (x.readyRx = true ∨ req.testBit 7 = true)
    ∃ t, exec (.train k req st locked) s = .next t ∧ t.fget (Reg.laneBc k) 31 16 = st % 65536 ∧
      t.out = [(k, blockType 0x2D, 0, [s.fget (Reg.laneBc k) 15 0, r.2])] ∧
      (¬ ends → (t.reg (Reg.laneTxfirNow k)).toNat = tapWord r.1.1 r.1.2.1 r.1.2.2 % 2 ^ 32 ∧ t.laneTrain k = 1 ∧
        t.laneLock k = true ∧
        t.lane k = { x with
          readyRx := x.readyRx || req.testBit 7
          ctle := if s.laneLock k = false ∧ s.flag (Reg.laneRxeq k) 8 = false then x.ctle + 1 else x.ctle
          dfe := if s.laneLock k = false ∧ s.flag (Reg.laneRxeq k) 9 = false then x.dfe + 1 else x.dfe } ∧ (∀ j, j ≠ k → t.lane j = s.lane j) ∧
        State.onlyRegs [Reg.laneTxfirNow k, Reg.laneBc k, Reg.laneStat k] s { t with lanes := s.lanes }) ∧
      (ends → x.commit = none → x.after = none → t.laneTrain k = 2 ∧ t.lanePower k = 1 ∧ t.laneLock k = true ∧
        t.flag (Reg.laneStat k) 1 = true)) ∧
  (∀ (s : State) (k req : Nat), k < 24 → s.sized = true → s.laneTrain k = 1 →
    let x := s.lane k
    let ends := x.readyRx = true ∧ (x.readyTx = true ∨ req.testBit 7 = true)
    ∃ t, exec (.backChannelRequest k req) s = .next t ∧ t.fget (Reg.laneBc k) 15 0 = req % 65536 ∧
      t.out = [(k, blockType 0x2D, 0, [req, 0])] ∧
      (¬ ends → t.lane k = { x with readyTx := x.readyTx || req.testBit 7 } ∧ State.onlyRegs [Reg.laneBc k] s { t with lanes := s.lanes }) ∧
      (ends → x.commit = none → x.after = none → t.laneTrain k = 2 ∧ t.laneLock k = true)) ∧
  (∀ (s : State) (k : Nat) (c : Instr), s.laneTrain k ≠ 1 →
    (∃ r x l, c = .train k r x l) ∨ (∃ r, c = .backChannelRequest k r) ∨ c = .laneTrainFail k →
    ∃ t, exec c s = .next t ∧ State.unchanged s t) ∧
  (∀ (s : State) (k : Nat), k < 24 → s.sized = true → s.laneTrain k = 1 → (s.lane k).commit = none → (s.lane k).after = none →
    ∃ t, exec (.laneTrainFail k) s = .next t ∧ t.laneTrain k = 3 ∧ t.lanePower k = 1 ∧ t.laneLock k = false ∧
      t.reg (Reg.laneTrainFail k) = BitVec.ofNat 32 (satWord 24 (s.reg (Reg.laneTrainFail k)).toNat).1 ∧
      t.pendingEvent (evLane k) = true ∧ State.onlyRegs [Reg.laneStat k, Reg.laneTrainFail k] s t) ∧
  (∀ (s : State) (k : Nat), k < 24 → s.sized = true → ∃ t, exec (.trainRetry k) s = .next t ∧
    (s.laneTrain k ≠ 3 → State.unchanged s t) ∧
    (s.laneTrain k = 3 → s.lrefOk k = true → t.laneTrain k = 1 ∧ t.lanePower k = 1 ∧ t.ebFill k = 8 ∧
      (let p := preset (s.lane k).preset
       (t.reg (Reg.laneTxfirNow k)).toNat = tapWord p.1 p.2.1 p.2.2 ∧
        t.lane k = { s.lane k with
          preset := ((s.lane k).preset + 1) % 5, sum := p.1 + p.2.1 + p.2.2, readyTx := false, readyRx := false }) ∧
      State.onlyRegs [Reg.laneStat k, Reg.laneTxfirNow k] s { t with lanes := s.lanes })) ∧
  (∀ (s : State) (k : Nat), k < 24 → ∃ t, exec (.laneLockLoss k) s = .next t ∧ (s.laneLock k = false → State.unchanged s t) ∧
    (s.laneLock k = true → t.pendingEvent (evLane k) = true ∧
      (s.laneLink k = none → t.laneLock k = false ∧ State.onlyRegs [Reg.laneStat k] s t) ∧
      (∀ l, s.laneLink k = some l → s.sized = true → s.epsOk = true → (∀ j ∈ s.linkLanes l, j < 24) → (t.link l).up = false ∧
        t.flag (Reg.slinkStat l) 31 = false ∧ (∀ e ∈ s.eps, e.link = l → t.epState l e.addr = 0) ∧
        ∀ j ∈ s.linkLanes l, s.lrefOk j = true → t.laneTrain j = 1 ∧ t.laneLock j = false))) ∧
  (∀ (s : State) (k : Nat), ∃ t, exec (.skipSend k) s = .next t ∧ State.unchanged s t ∧
    t.out = if s.laneIr k = true ∧ s.surasLane k = true ∧ s.lanePower k = 1 then (s.lanesWith k).map (fun j => (j, blockType 0xE1, 0, [])) else []) ∧
  (∀ (s : State) (k : Nat), s.laneIr k = true → s.surasLane k = true → s.lanePower k = 1 →
    ∃ t, exec (.skipSend k) s = .next t ∧ t.phy.scr = s.begin_.phy.scr ∧
    t.phy.wire = ((s.lanesWith k).filter fun j => !s.patterned j && !s.flag (Reg.lanePrbs j) 4).map (fun j => (j, true, 0x5A5A5A5A5A5A5AE1)) ∧
    t.phy.loop = ((s.lanesWith k).filter fun j => !s.patterned j && s.flag (Reg.lanePrbs j) 4).map (fun j => (j, true, 0x5A5A5A5A5A5A5AE1))) ∧
  (∀ (s : State) (k : Nat), (∀ j ∈ s.lanesWith k, j < 24) → ∃ t, exec (.skipReceive k) s = .next t ∧
    (s.laneIr k = false ∨ s.surasLane k = false ∨ (6 ≤ s.ebFill k ∧ s.ebFill k ≤ 10) → State.unchanged s t) ∧
    (s.laneIr k = true → s.surasLane k = true → 10 < s.ebFill k → (∀ j ∈ s.lanesWith k, t.ebFill j = s.ebFill j - 1 ∧
        t.reg (Reg.laneSkipDel j) = BitVec.ofNat 32 (satWord 24 (s.reg (Reg.laneSkipDel j)).toNat).1) ∧
      State.onlyRegs ((s.lanesWith k).flatMap fun j => [Reg.laneStat j, Reg.laneSkipDel j]) s t) ∧
    (s.laneIr k = true → s.surasLane k = true → s.ebFill k < 6 → (∀ j ∈ s.lanesWith k, s.ebFill j < 255 → t.ebFill j = s.ebFill j + 1 ∧
        t.reg (Reg.laneSkipIns j) = BitVec.ofNat 32 (satWord 24 (s.reg (Reg.laneSkipIns j)).toNat).1) ∧
      State.onlyRegs ((s.lanesWith k).flatMap fun j => [Reg.laneStat j, Reg.laneSkipIns j]) s t)) ∧
  (∀ (s : State) (k : Nat) (full : Bool), k < 24 → ∃ t, exec (.ebSlip k full) s = .next t ∧
    t.ebFill k = (if full then 15 else 1) ∧ t.pendingEvent (evLane k) = true ∧
    t.reg (Reg.laneEbSlip k) = BitVec.ofNat 32 (satWord 24 (s.reg (Reg.laneEbSlip k)).toNat).1 ∧
    State.onlyRegs [Reg.laneStat k, Reg.laneEbSlip k] s t) ∧
  (∀ (s : State) (k : Nat), k < 24 → (∃ t, exec (.badControlBlock k) s = .next t ∧
      t.reg (Reg.laneCodeErr k) = BitVec.ofNat 32 (satWord 24 (s.reg (Reg.laneCodeErr k)).toNat).1 ∧
      State.onlyRegs [Reg.laneCodeErr k] s t) ∧
    (∃ t, exec (.prbsBitError k) s = .next t ∧
      (s.flag (Reg.lanePrbs k) 3 = false ∨ s.fget (Reg.lanePrbs k) 1 0 = 0 → State.unchanged s t) ∧
      (s.flag (Reg.lanePrbs k) 3 = true → s.fget (Reg.lanePrbs k) 1 0 ≠ 0 →
        t.reg (Reg.lanePrbsErr k) = BitVec.ofNat 32 (satWord 24 (s.reg (Reg.lanePrbsErr k)).toNat).1 ∧
        State.onlyRegs [Reg.lanePrbsErr k] s t)) ∧
    ∀ height width, ∃ t, exec (.laneEyeUpdate k height width) s = .next t ∧ (s.laneLock k = false → State.unchanged s t) ∧
      (s.laneLock k = true → t.fget (Reg.laneEye k) 7 0 = height % 256 ∧ t.fget (Reg.laneEye k) 23 16 = width % 256 ∧
        State.onlyRegs [Reg.laneEye k] s t))

/-- Each completes. PACKET_RECEIVE on a link that is down does nothing; on one that is up, a packet with its CRC
inverted counts STOMP; one whose length or CRC is wrong counts CRC_ERR and sends NAK of the expected SEQ unless one is
out; one of a later SEQ sends that NAK; one of an earlier SEQ acknowledges the last good one; one of the expected SEQ
counts the SEQ on, acknowledges it, grants its units again, and hands a message of an endpoint that is up to software,
or counts BAD_TYPE where VC, TYPE and DIR form no row. NAK_REPEAT lets a NAK go out again. ACK frees the replay buffer
up to its SEQ. NAK sends the packets from its SEQ on again, with the departure of a TIME_RESP as it goes (R605), and
counts REPLAY, and the sixteenth resend without progress takes the segment down; REPLAY_TIMEOUT does the same from the
oldest packet. CREDIT of a link that is up stores the grant and lets a packet that waits go. CREDIT_REFRESH of one sends
the grants. LINK_ALIGNED ends the training of the link's lanes, starts the segment anew, with the packets that it holds,
and sends its grants; a segment that sleeps wakes by it as by SEGMENT_WAKE. (Initial grants, and what REPLAY counts, are
log entry 26.) (12_suras_link.md, 11_lanes.md.) -/
def Obligations.SegmentsDeliverRetryAndGrant : Prop :=
  (∀ (s : State) (l : Nat) (ex : Bool) (words : List Dword), l < 16 → s.sized = true → s.peerLink l = false →
    let h := (words.headD 0).toNat
    let st := (s.link l).stream ex
    let crc := Crypto.crc32c (words.dropLast.flatMap fun w => leBytes 8 w.toNat)
    let last := (words.getLastD 0).toNat
    let shape := 3 ≤ words.length ∧ fld h 43 34 = words.length
    let seq := fld h 33 22
    ∃ t, exec (.packetReceive l ex words) s = .next t ∧
      let naks := (t.link l).stream ex = { st with nakd := true } ∧
        t.out = (if st.nakd then [] else [(l, blockType 0x4B, 0, [2, b2n ex, st.expect_])]) ∧
        (st.nakd = false → t.reg (Reg.slinkNakTx l) = BitVec.ofNat 32 (satWord 24 (s.reg (Reg.slinkNakTx l)).toNat).1)
      ((s.link l).up = false → State.unchanged s t) ∧
      ((s.link l).up = true → (∀ j, j ≠ l → t.link j = s.link j) ∧
        State.onlyRegs [Reg.slinkStomp l, Reg.slinkCrcErr l, Reg.slinkNakTx l, Reg.slinkBadType l] s { t with links := s.links } ∧
        (shape → last = 2 ^ 32 - 1 - crc → t.link l = s.link l ∧ t.out = [] ∧
          t.reg (Reg.slinkStomp l) = BitVec.ofNat 32 (satWord 24 (s.reg (Reg.slinkStomp l)).toNat).1) ∧
        ((¬ shape ∨ (last ≠ 2 ^ 32 - 1 - crc ∧ last ≠ crc)) → naks ∧
          t.reg (Reg.slinkCrcErr l) = BitVec.ofNat 32 (satWord 24 (s.reg (Reg.slinkCrcErr l)).toNat).1) ∧
        (shape → last = crc → st.expect_ < 4096 → before 12 st.expect_ seq = true → naks) ∧
        (shape → last = crc → st.expect_ < 4096 → before 12 seq st.expect_ = true → t.link l = s.link l ∧
          t.out = [(l, blockType 0x4B, 0, [1, b2n ex, (st.expect_ + 4095) % 4096])]) ∧
        (shape → last = crc → seq = st.expect_ →
          (t.link l).stream ex = { st with expect_ := (seq + 1) % 4096, nakd := false } ∧
          (t.link l).stream (!ex) = (s.link l).stream (!ex) ∧ t.out.take 1 = [(l, blockType 0x4B, 0, [1, b2n ex, seq])] ∧
          (s.rowOk l h ex words.length = false →
            t.reg (Reg.slinkBadType l) = BitVec.ofNat 32 (satWord 24 (s.reg (Reg.slinkBadType l)).toNat).1 ∧ t.out.length = 2) ∧
          (s.rowOk l h ex words.length = true → t.out.drop 2 =
            if fld h 49 44 = 1 ∨ s.epUp l (fld h 57 52) = true
            then [(l, fld h 49 44, fld h 57 52, (words.drop 1).dropLast.map BitVec.toNat)] else [])))) ∧
  (∀ (s : State) (l : Nat) (ex : Bool), l < 16 → s.sized = true → ∃ t, exec (.nakRepeat l ex) s = .next t ∧
    (t.link l).stream ex = { (s.link l).stream ex with nakd := false } ∧ (t.link l).stream (!ex) = (s.link l).stream (!ex) ∧
    (∀ j, j ≠ l → t.link j = s.link j) ∧ { t with links := s.links, out := s.out, phy := s.phy.still t.phy } = s) ∧
  (∀ (s : State) (l seq : Nat) (ex : Bool), l < 16 → s.sized = true →
    let rp := ((s.link l).stream ex).replay
    ∃ t, exec (.ack l ex seq) s = .next t ∧ ((∀ p ∈ rp, p.1 ≠ seq) → State.unchanged s t) ∧
      ((∃ p ∈ rp, p.1 = seq) → (s.link l).queue = [] →
        (t.link l).stream ex = { (s.link l).stream ex with replay := (rp.dropWhile fun p => p.1 != seq).drop 1, resends := 0 } ∧
        (t.link l).stream (!ex) = (s.link l).stream (!ex) ∧ (∀ j, j ≠ l → t.link j = s.link j) ∧ t.out = [] ∧
        State.onlyRegs [Reg.slinkStat l] s { t with links := s.links })) ∧
  (∀ (s : State) (l seq : Nat) (ex : Bool), l < 16 → s.sized = true →
    let st := (s.link l).stream ex
    let ps := (st.replay.dropWhile fun p => p.1 != seq).map fun p => (p.1, restamp s.tb.lt p.2)
    ∃ t, exec (.nak l ex seq) s = .next t ∧ (ps = [] → State.unchanged s t) ∧
      (ps ≠ [] → t.reg (Reg.slinkReplay l) = BitVec.ofNat 32 (satWord 24 (s.reg (Reg.slinkReplay l)).toNat).1) ∧
      (ps ≠ [] → st.resends < 15 → t.out = ps.map (fun p => showPacket l p.2) ∧
        (t.link l).stream ex =
          { st with resends := st.resends + 1, replay := (st.replay.takeWhile fun p => p.1 != seq) ++ ps } ∧
        (∀ j, j ≠ l → t.link j = s.link j) ∧ State.onlyRegs [Reg.slinkReplay l] s { t with links := s.links, eps := s.eps }) ∧
      (ps ≠ [] → 15 ≤ st.resends → (t.link l).up = false ∧ t.flag (Reg.slinkStat l) 31 = false ∧
        (s.epsOk = true → ∀ e ∈ s.eps, e.link = l → t.epState l e.addr = 0))) ∧
  (∀ (s : State) (l : Nat) (ex : Bool),
    (∀ p r, ((s.link l).stream ex).replay = p :: r → exec (.replayTimeout l ex) s = exec (.nak l ex p.1) s) ∧
    (((s.link l).stream ex).replay = [] → ∃ t, exec (.replayTimeout l ex) s = .next t ∧ State.unchanged s t)) ∧
  (∀ (s : State) (l vc grant : Nat), l < 16 → vc < 4 → s.sized = true → (s.link l).grant.length = 4 →
    let k := { s.link l with grant := (s.link l).grant.set vc (grant % 65536) }
    ∃ t, exec (.credit l vc grant) s = .next t ∧ ((s.link l).up = false → State.unchanged s t) ∧
      ((s.link l).up = true → (t.link l).grant = k.grant ∧ (∀ j, j ≠ l → t.link j = s.link j) ∧
        State.onlyRegs [Reg.slinkStat l] s { t with links := s.links, eps := s.eps } ∧
        ((s.link l).queue = [] ∨ s.asleep l = true → t.link l = k ∧ t.regs = s.regs ∧ t.out = []) ∧
        (∀ p, (s.link l).queue = [p] → s.asleep l = false → p.vc = vc → (∀ n, p.stn = some n → n < 16) →
          (k.canSend vc (p.words.length + 2) = true →
            t.out = [(l, p.type, p.dest, (stampPayload p.type s.tb.lt p.words).map BitVec.toNat)] ∧ (t.link l).queue = []) ∧
          (k.canSend vc (p.words.length + 2) = false → t.link l = k ∧ t.out = [])))) ∧
  (∀ (s : State) (l : Nat), ∃ t, exec (.creditRefresh l) s = .next t ∧ State.unchanged s t ∧
    t.out = if (s.link l).up = true
      then (List.range 4).map (fun vc => (l, blockType 0x4B, 0, [3, vc * 2, (s.link l).given.getD vc 0])) else []) ∧
  (∀ (s : State) (l : Nat), l < 16 → s.sized = true → (∀ k ∈ s.linkLanes l, k < 24 ∧ (s.lane k).commit = none ∧ (s.lane k).after = none) →
    let may := s.linkLanes l ≠ [] ∧ (s.link l).up = false ∧ ∀ k ∈ s.linkLanes l, s.lrefOk k = true
    ∃ t, exec (.linkAligned l) s = .next t ∧ (¬ may → State.unchanged s t) ∧
      (may → s.asleep l = true → ∀ e, (s.ring l).head? = some e → exec (.linkAligned l) s = exec (.segmentWake l e.addr) s) ∧
      (may → s.asleep l = false → (t.link l).up = true ∧ t.flag (Reg.slinkStat l) 31 = true ∧ (∀ j, j ≠ l → t.link j = s.link j) ∧
        (∀ k ∈ s.linkLanes l, t.laneTrain k = 2 ∧ t.lanePower k = 1 ∧ t.laneLock k = true) ∧
        State.onlyRegs (Reg.slinkStat l :: (s.linkLanes l).map Reg.laneStat) s { t with links := s.links, lanes := s.lanes } ∧
        (s.peerLink l = false → t.link l = { Link.none with up := true, given := [64, 16, 8, 0], queue := (s.link l).held } ∧
          t.out = (List.range 4).map (fun vc => (l, blockType 0x4B, 0, [3, vc * 2, [64, 16, 8, 0].getD vc 0])))))

/-- Each completes. ANNOUNCE of a declared endpoint that is not up, with its version, class and serial, is accepted:
CHECKING, EP_REJ 0 and a time exchange; else EP_REJ gives the reason, the link's event is raised, and a declared
endpoint that is not up is REJECTED. TIME_REQ starts an exchange with every ACTIVE endpoint of the link and no other.
TIME_RESP of the exchange in progress shows offset and delay; within the guard time an endpoint that is checked becomes
ACTIVE and an ACTIVE one stays so and is corrected; beyond it the endpoint is STRAYED, and another exchange starts until
RESYNC_RT of them are over, when it waits for STRAYED_RETRY, which starts one. POWER asks an idle endpoint for a
permitted state once those beyond it sleep, POWER_RESP takes it there or leaves it, and SEGMENT_WAKE wakes it to
CHECKING with an exchange. EVENT, RESP and IO_REPORT of an endpoint that is up reach software or its registers.
Otherwise nothing happens. (Odd sums are halved by a free value, and the order of checks is log entry 26.)
(12_suras_link.md, 18_timebase.md, 17_convoys.md.) -/
def Obligations.EndpointsAreJudgedTimedAndSlept : Prop :=
  let quiet := fun (s : State) => ∀ b ∈ s.bales, b.step = none
  let exchanging := fun (s t : State) (l a : Nat) => ∃ g, (t.ep? l a).bind Ep.exch = some (g, s.tb.lt.toNat)
  (∀ (s : State) (l a serial cls version : Nat), l < 16 → a < 64 → s.epActive l a = false → quiet s →
    let r := match s.epDecl? l a with
      | none => 3
      | some d => if version ≠ 1 then 5 else if cls ≠ d.cls then 2 else if serial ≠ d.serial then 1 else if s.epUp l a = true then 4 else 0
    ∃ t, exec (.announce l a serial cls version) s = .next t ∧ (t.reg (Reg.slinkEpRej l a)).toNat = r ∧
      (∀ l' a', l' < 16 → a' < 64 → (l', a') ≠ (l, a) → t.epState l' a' = s.epState l' a') ∧ t.bales = s.bales ∧ t.miles = s.miles ∧
      (r = 0 → (s.ep? l a).isSome = true → t.epState l a = 2 ∧ exchanging s t l a) ∧
      (r ≠ 0 → t.pendingEvent (evLink l) = true ∧ t.epState l a =
        if (s.ep? l a).isSome = true ∧ s.epUp l a = false then 1 else s.epState l a)) ∧
  (∀ (s : State) (l : Nat), s.epsOk = true → ∃ t, exec (.timeReq l) s = .next t ∧
    (∀ e ∈ s.eps, (e.link = l ∧ s.epActive l e.addr = true → exchanging s t l e.addr) ∧
      (e.link ≠ l ∨ s.epActive l e.addr = false → t.ep? e.link e.addr = some e)) ∧
    State.onlyRegs linkStatRegs s { t with eps := s.eps, links := s.links, timeTag := s.timeTag }) ∧
  (∀ (s : State) (l a tag t1 t2 t3 : Nat) (e : Ep), s.epsOk = true → s.sized = true → s.ep? l a = some e → e.exch = some (tag, t1) →
    s.peerLink l = false → quiet s →
    let n := modDiff 48 t1 t2 - modDiff 48 t3 s.tb.lt.toNat
    let m := modDiff 48 t1 s.tb.lt.toNat - modDiff 48 t2 t3
    ∃ t, exec (.timeResp l a tag t2 t3) s = .next t ∧
      (m % 2 = 0 → 0 ≤ m → m < 2 ^ 17 → (t.fget (Reg.slinkEpStat l a) 31 16 : Int) = m / 2) ∧
      (∀ off : Int, n = 2 * off → off.natAbs < 2 ^ 31 → t.reg (Reg.slinkEpOffset l a) = BitVec.ofInt 32 off ∧
        (off.natAbs ≤ s.guardOf l a → t.epState l a = 4 ∧ (t.ep? l a).bind Ep.exch = none ∧
          (s.epActive l a = false → t.pendingEvent (evLink l) = true)) ∧
        (s.guardOf l a < off.natAbs → t.epState l a = 3 ∧
          (let rounds := if s.epActive l a = true then 1 else e.resync + 1
           ∀ d, s.dev = some d → (rounds < d.power.resyncRt → exchanging s t l a) ∧
            (d.power.resyncRt ≤ rounds → (t.ep? l a).map Ep.retry = some true ∧ t.pendingEvent (evLink l) = true))))) ∧
  (∀ (s : State) (l a tag t2 t3 : Nat), (∀ t1, (s.ep? l a).bind Ep.exch ≠ some (tag, t1)) →
    ∃ t, exec (.timeResp l a tag t2 t3) s = .next t ∧ State.unchanged s t) ∧
  (∀ (s : State) (l a : Nat), ∃ t, exec (.strayedRetry l a) s = .next t ∧
    let due := ∃ e, s.ep? l a = some e ∧ e.retry = true ∧ s.epState l a = 3
    (¬ due → State.unchanged s t) ∧ (due → exchanging s t l a ∧ (t.ep? l a).map Ep.retry = some false)) ∧
  (∀ (s : State) (l a target : Nat) (e : Ep) (d : DevBlock) (x : EpDecl), s.ep? l a = some e → s.dev = some d → d.ep? l a = some x →
    let idle := if target = 1 then d.power.dozeUs else d.power.sleepMs
    let beyond := ((s.ring l).dropWhile fun y => y.addr != a).drop 1
    let may := s.epActive l a = true ∧ (target = 1 ∨ target = 2) ∧ idle ≠ 0 ∧ target ≤ x.power ∧
      ∀ y ∈ beyond, 4 + target ≤ s.epState l y.addr
    ∃ t, exec (.power l a target) s = .next t ∧ (¬ may → State.unchanged s t) ∧
      (may → t.ep? l a = some { e with asked := target } ∧
        ((s.link l).queue = [] → (s.link l).canSend 1 4 = true → s.asleep l = false → t.out = [(l, 0x07, a, [target, 0])]) ∧
        State.onlyRegs [Reg.slinkStat l] s { t with eps := s.eps, links := s.links })) ∧
  (∀ (s : State) (l a result : Nat) (e : Ep), s.ep? l a = some e → l < 16 → a < 64 →
    ∃ t, exec (.powerResp l a result) s = .next t ∧ (e.asked = 0 ∨ s.epActive l a = false → State.unchanged s t) ∧
      (e.asked ≠ 0 → s.epActive l a = true → result ≠ 0 → t.ep? l a = some { e with asked := 0 } ∧ t.epState l a = 4 ∧
        { t with eps := s.eps, out := s.out, phy := s.phy.still t.phy } = s) ∧
      (e.asked ≠ 0 → e.asked ≤ 2 → s.epActive l a = true → result = 0 → t.epState l a = 4 + e.asked)) ∧
  (∀ (s : State) (l a : Nat), l < 16 → a < 64 → s.epsOk = true → ∃ t, exec (.segmentWake l a) s = .next t ∧
    ((∃ k ∈ s.linkLanes l, s.lrefOk k = false) → State.unchanged s t) ∧
    ((∀ k ∈ s.linkLanes l, s.lrefOk k = true) → (s.epState l a = 5 ∨ s.epState l a = 6 → t.epState l a = 2 ∧
        ((s.ep? l a).isSome = true → exchanging s t l a)) ∧
      ((∀ b < 64, s.epState l b ≠ 5 ∧ s.epState l b ≠ 6) → State.unchanged s t))) ∧
  (∀ (s : State) (l a : Nat), (∀ code chan, ∃ t, exec (.event l a code chan) s = .next t ∧ State.unchanged s t ∧
      t.out = if s.epUp l a = true then [(l, 0x06, a, [code, chan])] else []) ∧
    ∀ tag status data, ∃ t, exec (.resp l a tag status data) s = .next t ∧ State.unchanged s t ∧
      t.out = if s.epUp l a = true then [(l, 0x05, a, tag :: status :: data.map BitVec.toNat)] else []) ∧
  (∀ (s : State) (l a time value : Nat), l < 16 → a < 64 → ∃ t, exec (.ioReport l a time value) s = .next t ∧
    (s.epUp l a = false → State.unchanged s t) ∧
    (s.epUp l a = true → (t.reg (Reg.slinkEpRptLo l a)).toNat = value % 2 ^ 32 ∧
      (t.reg (Reg.slinkEpRptHi l a)).toNat = value / 2 ^ 32 % 2 ^ 32 ∧ (t.reg (Reg.slinkEpRptTime l a)).toNat = time % 2 ^ 32 ∧
      State.onlyRegs [Reg.slinkEpRptLo l a, Reg.slinkEpRptHi l a, Reg.slinkEpRptTime l a] s t))
end

