-- ==== Sys2Proof/Laws/Memory.lean ====
section
/-! SUPPORT. Every memory operation keeps the canonical form, and a written byte reads back. -/

namespace Sys2Proof.Machine

theorem Memory.wfFrom_mono (d : Byte) (m : Memory) {lo lo' : Nat} (h : lo' ≤ lo) (hm : Memory.wfFrom d lo m = true) :
    Memory.wfFrom d lo' m = true := by
  cases m with
  | nil => rfl
  | cons c r =>
    simp only [Memory.wfFrom, Bool.and_eq_true, decide_eq_true_eq] at hm ⊢
    exact ⟨⟨by omega, hm.1.2⟩, hm.2⟩

theorem Memory.wfFrom_write (d : Byte) (m : Memory) (lo a : Nat) (v : Byte) (ha : lo ≤ a) (hm : Memory.wfFrom d lo m = true) :
    Memory.wfFrom d lo (Memory.write d m a v) = true := by
  induction m generalizing lo with
  | nil =>
    simp only [Memory.write]
    split
    · rfl
    · rename_i h; simp_all [Memory.wfFrom]
  | cons c r ih =>
    obtain ⟨k, w⟩ := c
    simp only [Memory.wfFrom, Bool.and_eq_true, decide_eq_true_eq] at hm
    obtain ⟨⟨h1, h2⟩, h3⟩ := hm
    simp only [Memory.write]
    split
    · rename_i hak
      split
      · simp [Memory.wfFrom, h1, h2, h3]
      · rename_i hv
        simp only [Memory.wfFrom, Bool.and_eq_true, decide_eq_true_eq]
        exact ⟨⟨ha, by simpa using hv⟩, ⟨by omega, h2⟩, h3⟩
    · split
      · rename_i hak hk
        have hk := beq_iff_eq.1 hk
        subst hk
        split
        · exact Memory.wfFrom_mono d r (by omega) h3
        · rename_i hv
          simp only [Memory.wfFrom, Bool.and_eq_true, decide_eq_true_eq]
          exact ⟨⟨ha, by simpa using hv⟩, h3⟩
      · rename_i h4 h5
        have h5 : a ≠ k := by simpa using h5
        simp only [Memory.wfFrom, Bool.and_eq_true, decide_eq_true_eq]
        exact ⟨⟨h1, h2⟩, ih (k + 1) (by omega) h3⟩

/-- A write keeps the canonical form. -/
theorem Memory.wf_write (d : Byte) (m : Memory) (a : Nat) (v : Byte) (hm : Memory.wf d m = true) :
    Memory.wf d (Memory.write d m a v) = true := Memory.wfFrom_write d m 0 a v (Nat.zero_le _) hm

/-- A write of several bytes keeps the canonical form. -/
theorem Memory.wf_writes (d : Byte) (m : Memory) (a : Nat) (bs : List Byte) (hm : Memory.wf d m = true) :
    Memory.wf d (Memory.writes d m a bs) = true := by
  induction bs generalizing m a with
  | nil => exact hm
  | cons b r ih => exact ih _ _ (Memory.wf_write d m a b hm)

/-- The writes of a command keep the canonical form. -/
theorem Memory.wf_applyWrites (d : Byte) (m : Memory) (ws : Writes) (hm : Memory.wf d m = true) :
    Memory.wf d (applyWrites d m ws) = true := by
  unfold applyWrites
  induction ws generalizing m with
  | nil => exact hm
  | cons w r ih => exact ih _ (Memory.wf_writes d m w.1 w.2 hm)

/-- Dropping entries keeps the canonical form. -/
theorem Memory.wfFrom_filter (d : Byte) (m : Memory) (p : Host.Cell → Bool) (lo : Nat) (hm : Memory.wfFrom d lo m = true) :
    Memory.wfFrom d lo (m.filter p) = true := by
  induction m generalizing lo with
  | nil => rfl
  | cons c r ih =>
    obtain ⟨k, w⟩ := c
    simp only [Memory.wfFrom, Bool.and_eq_true, decide_eq_true_eq] at hm
    obtain ⟨⟨h1, h2⟩, h3⟩ := hm
    simp only [List.filter_cons]
    split
    · simp only [Memory.wfFrom, Bool.and_eq_true, decide_eq_true_eq]
      exact ⟨⟨h1, h2⟩, ih _ h3⟩
    · exact Memory.wfFrom_mono d _ (by omega) (ih _ h3)

/-- Zeroing spans keeps the canonical form. -/
theorem Memory.wf_clears (d : Byte) (m : Memory) (zs : List (Nat × Nat)) (hm : Memory.wf d m = true) :
    Memory.wf d (zs.foldl (fun m z => Memory.clear m z.1 z.2) m) = true := by
  induction zs generalizing m with
  | nil => exact hm
  | cons z r ih => exact ih _ (Memory.wfFrom_filter d m _ 0 hm)

theorem Memory.read_below (d : Byte) (m : Memory) {lo a : Nat} (h : a < lo) (hm : Memory.wfFrom d lo m = true) :
    Memory.read d m a = d := by
  cases m with
  | nil => rfl
  | cons c r =>
    obtain ⟨k, w⟩ := c
    simp only [Memory.wfFrom, Bool.and_eq_true, decide_eq_true_eq] at hm
    have h1 : a ≠ k := by omega
    have h2 : a < k := by omega
    simp [Memory.read, h1, h2]

theorem Memory.read_writeFrom (d : Byte) (m : Memory) (lo a b : Nat) (v : Byte) (hm : Memory.wfFrom d lo m = true) :
    Memory.read d (Memory.write d m a v) b = if b = a then v else Memory.read d m b := by
  induction m generalizing lo with
  | nil =>
    by_cases hv : v = d
    · simp [Memory.write, Memory.read, hv]
    · by_cases hb : b = a <;> simp [Memory.write, Memory.read, hv, hb]
  | cons c r ih =>
    obtain ⟨k, w⟩ := c
    simp only [Memory.wfFrom, Bool.and_eq_true, decide_eq_true_eq] at hm
    obtain ⟨⟨h1, h2⟩, h3⟩ := hm
    rcases Nat.lt_trichotomy a k with hak | hak | hak
    · by_cases hv : v = d
      · by_cases hb : b = a
        · have h4 : b ≠ k := by omega
          have h5 : b < k := by omega
          simp [Memory.write, Memory.read, hv, hb ▸ h4, hb, hak]
        · simp [Memory.write, hak, hv, hb]
      · by_cases hb : b = a
        · simp [Memory.write, Memory.read, hak, hv, hb]
        · by_cases hba : b < a
          · have h4 : b ≠ k := by omega
            have h5 : b < k := by omega
            simp [Memory.write, Memory.read, hak, hv, hb, hba, h4, h5]
          · simp [Memory.write, Memory.read, hak, hv, hb, hba]
    · subst hak
      by_cases hv : v = d
      · by_cases hb : b = a
        · subst hb
          simp [Memory.write, hv, Memory.read_below d r (Nat.lt_succ_self b) h3]
        · by_cases hba : b < a
          · simp [Memory.write, Memory.read, hv, hb, hba, Memory.read_below d r (show b < a + 1 by omega) h3]
          · simp [Memory.write, Memory.read, hv, hb, hba]
      · by_cases hb : b = a
        · simp [Memory.write, Memory.read, hv, hb]
        · simp [Memory.write, Memory.read, hv, hb]
    · have h4 : ¬ a < k := by omega
      have h5 : a ≠ k := by omega
      have e := ih (k + 1) h3
      by_cases hbk : b = k
      · subst hbk
        have : b ≠ a := fun h => h5 h.symm
        simp [Memory.write, Memory.read, h4, h5, this]
      · by_cases hlt : b < k
        · have : b ≠ a := by omega
          simp [Memory.write, Memory.read, h4, h5, hbk, hlt, this]
        · simp [Memory.write, Memory.read, h4, h5, hbk, hlt, e]

/-- The byte written reads back, and every other byte reads as before. -/
theorem Memory.read_write (d : Byte) (m : Memory) (a b : Nat) (v : Byte) (hm : Memory.wf d m = true) :
    Memory.read d (Memory.write d m a v) b = if b = a then v else Memory.read d m b :=
  Memory.read_writeFrom d m 0 a b v hm

/-- The bytes written read back, and every byte outside them reads as before. -/
theorem Memory.read_writes (d : Byte) (m : Memory) (a b : Nat) (bs : List Byte) (hm : Memory.wf d m = true) :
    Memory.read d (Memory.writes d m a bs) b =
      if a ≤ b ∧ b < a + bs.length then bs.getD (b - a) 0 else Memory.read d m b := by
  induction bs generalizing m a with
  | nil => simp [Memory.writes]
  | cons x r ih =>
    simp only [Memory.writes, List.length_cons]
    rw [ih _ _ (Memory.wf_write d m a x hm), Memory.read_write d m a b x hm]
    by_cases h : b = a
    · subst h
      simp
    · by_cases h2 : a + 1 ≤ b ∧ b < a + 1 + r.length
      · have h3 : a ≤ b ∧ b < a + (r.length + 1) := by omega
        have h4 : b - a = (b - (a + 1)) + 1 := by omega
        rw [if_pos h2, if_pos h3, h4, List.getD_cons_succ]
      · have h3 : ¬ (a ≤ b ∧ b < a + (r.length + 1)) := by omega
        rw [if_neg h2, if_neg h3, if_neg h]

end Sys2Proof.Machine
end

