-- ==== Sys2Proof/Laws/State.lean ====
section
/-! SUPPORT. What each update of the state leaves as it was, field by field. -/

namespace Sys2Proof.Machine

variable (s : State)

/-! ## `State.setReg` -/

@[simp] theorem State.setReg_pending (a : Nat) (w : Word) : (s.setReg a w).pending = s.pending := rfl
@[simp] theorem State.setReg_shadow (a : Nat) (w : Word) : (s.setReg a w).shadow = s.shadow := rfl
@[simp] theorem State.setReg_snaps (a : Nat) (w : Word) : (s.setReg a w).snaps = s.snaps := rfl
@[simp] theorem State.setReg_rdata (a : Nat) (w : Word) : (s.setReg a w).rdata = s.rdata := rfl
@[simp] theorem State.setReg_tb (a : Nat) (w : Word) : (s.setReg a w).tb = s.tb := rfl
@[simp] theorem State.setReg_otp (a : Nat) (w : Word) : (s.setReg a w).otp = s.otp := rfl
@[simp] theorem State.setReg_dram (a : Nat) (w : Word) : (s.setReg a w).dram = s.dram := rfl
@[simp] theorem State.setReg_flash (a : Nat) (w : Word) : (s.setReg a w).flash = s.flash := rfl
@[simp] theorem State.setReg_sram (a : Nat) (w : Word) : (s.setReg a w).sram = s.sram := rfl
@[simp] theorem State.setReg_evq (a : Nat) (w : Word) : (s.setReg a w).evq = s.evq := rfl
@[simp] theorem State.setReg_mbox (a : Nat) (w : Word) : (s.setReg a w).mbox = s.mbox := rfl
@[simp] theorem State.setReg_load (a : Nat) (w : Word) : (s.setReg a w).load = s.load := rfl
@[simp] theorem State.setReg_dev (a : Nat) (w : Word) : (s.setReg a w).dev = s.dev := rfl
@[simp] theorem State.setReg_blocks (a : Nat) (w : Word) : (s.setReg a w).blocks = s.blocks := rfl
@[simp] theorem State.setReg_nextUid (a : Nat) (w : Word) : (s.setReg a w).nextUid = s.nextUid := rfl
@[simp] theorem State.setReg_stations (a : Nat) (w : Word) : (s.setReg a w).stations = s.stations := rfl
@[simp] theorem State.setReg_tiles (a : Nat) (w : Word) : (s.setReg a w).tiles = s.tiles := rfl
@[simp] theorem State.setReg_gridHoles (a : Nat) (w : Word) : (s.setReg a w).gridHoles = s.gridHoles := rfl
@[simp] theorem State.setReg_retiring (a : Nat) (w : Word) : (s.setReg a w).retiring = s.retiring := rfl
@[simp] theorem State.setReg_fmap (a : Nat) (w : Word) : (s.setReg a w).fmap = s.fmap := rfl
@[simp] theorem State.setReg_jobs (a : Nat) (w : Word) : (s.setReg a w).jobs = s.jobs := rfl
@[simp] theorem State.setReg_bales (a : Nat) (w : Word) : (s.setReg a w).bales = s.bales := rfl
@[simp] theorem State.setReg_nextBale (a : Nat) (w : Word) : (s.setReg a w).nextBale = s.nextBale := rfl
@[simp] theorem State.setReg_miles (a : Nat) (w : Word) : (s.setReg a w).miles = s.miles := rfl
@[simp] theorem State.setReg_odo (a : Nat) (w : Word) : (s.setReg a w).odo = s.odo := rfl
@[simp] theorem State.setReg_refs (a : Nat) (w : Word) : (s.setReg a w).refs = s.refs := rfl
@[simp] theorem State.setReg_fio (a : Nat) (w : Word) : (s.setReg a w).fio = s.fio := rfl
@[simp] theorem State.setReg_fieldSafe (a : Nat) (w : Word) : (s.setReg a w).fieldSafe = s.fieldSafe := rfl
@[simp] theorem State.setReg_grpTrip (a : Nat) (w : Word) : (s.setReg a w).grpTrip = s.grpTrip := rfl
@[simp] theorem State.setReg_cams (a : Nat) (w : Word) : (s.setReg a w).cams = s.cams := rfl
@[simp] theorem State.setReg_rings (a : Nat) (w : Word) : (s.setReg a w).rings = s.rings := rfl
@[simp] theorem State.setReg_capture (a : Nat) (w : Word) : (s.setReg a w).capture = s.capture := rfl
@[simp] theorem State.setReg_isp (a : Nat) (w : Word) : (s.setReg a w).isp = s.isp := rfl
@[simp] theorem State.setReg_treePass (a : Nat) (w : Word) : (s.setReg a w).treePass = s.treePass := rfl
@[simp] theorem State.setReg_decs (a : Nat) (w : Word) : (s.setReg a w).decs = s.decs := rfl
@[simp] theorem State.setReg_lanes (a : Nat) (w : Word) : (s.setReg a w).lanes = s.lanes := rfl
@[simp] theorem State.setReg_lref (a : Nat) (w : Word) : (s.setReg a w).lref = s.lref := rfl
@[simp] theorem State.setReg_links (a : Nat) (w : Word) : (s.setReg a w).links = s.links := rfl
@[simp] theorem State.setReg_eps (a : Nat) (w : Word) : (s.setReg a w).eps = s.eps := rfl
@[simp] theorem State.setReg_timeTag (a : Nat) (w : Word) : (s.setReg a w).timeTag = s.timeTag := rfl
@[simp] theorem State.setReg_groups (a : Nat) (w : Word) : (s.setReg a w).groups = s.groups := rfl
@[simp] theorem State.setReg_ptp (a : Nat) (w : Word) : (s.setReg a w).ptp = s.ptp := rfl
@[simp] theorem State.setReg_pwr (a : Nat) (w : Word) : (s.setReg a w).pwr = s.pwr := rfl
@[simp] theorem State.setReg_refclk (a : Nat) (w : Word) : (s.setReg a w).refclk = s.refclk := rfl
@[simp] theorem State.setReg_phy (a : Nat) (w : Word) : (s.setReg a w).phy = s.phy := rfl
@[simp] theorem State.setReg_lenders (a : Nat) (w : Word) : (s.setReg a w).lenders = s.lenders := rfl
@[simp] theorem State.setReg_boot (a : Nat) (w : Word) : (s.setReg a w).boot = s.boot := rfl
@[simp] theorem State.setReg_sport (a : Nat) (w : Word) : (s.setReg a w).sport = s.sport := rfl
@[simp] theorem State.setReg_log (a : Nat) (w : Word) : (s.setReg a w).log = s.log := rfl
@[simp] theorem State.setReg_cores (a : Nat) (w : Word) : (s.setReg a w).cores = s.cores := rfl
@[simp] theorem State.setReg_uart (a : Nat) (w : Word) : (s.setReg a w).uart = s.uart := rfl
@[simp] theorem State.setReg_i2c (a : Nat) (w : Word) : (s.setReg a w).i2c = s.i2c := rfl
@[simp] theorem State.setReg_gpio (a : Nat) (w : Word) : (s.setReg a w).gpio = s.gpio := rfl
@[simp] theorem State.setReg_out (a : Nat) (w : Word) : (s.setReg a w).out = s.out := rfl
@[simp] theorem State.setReg_tap (a : Nat) (w : Word) : (s.setReg a w).tap = s.tap := rfl
@[simp] theorem State.setReg_scan (a : Nat) (w : Word) : (s.setReg a w).scan = s.scan := rfl
@[simp] theorem State.setReg_free (a : Nat) (w : Word) : (s.setReg a w).free = s.free := rfl

/-! ## `State.setStn` -/

@[simp] theorem State.setStn_pending (n : Nat) (f : Stn → Stn) : (s.setStn n f).pending = s.pending := rfl
@[simp] theorem State.setStn_regs (n : Nat) (f : Stn → Stn) : (s.setStn n f).regs = s.regs := rfl
@[simp] theorem State.setStn_shadow (n : Nat) (f : Stn → Stn) : (s.setStn n f).shadow = s.shadow := rfl
@[simp] theorem State.setStn_snaps (n : Nat) (f : Stn → Stn) : (s.setStn n f).snaps = s.snaps := rfl
@[simp] theorem State.setStn_rdata (n : Nat) (f : Stn → Stn) : (s.setStn n f).rdata = s.rdata := rfl
@[simp] theorem State.setStn_tb (n : Nat) (f : Stn → Stn) : (s.setStn n f).tb = s.tb := rfl
@[simp] theorem State.setStn_otp (n : Nat) (f : Stn → Stn) : (s.setStn n f).otp = s.otp := rfl
@[simp] theorem State.setStn_dram (n : Nat) (f : Stn → Stn) : (s.setStn n f).dram = s.dram := rfl
@[simp] theorem State.setStn_flash (n : Nat) (f : Stn → Stn) : (s.setStn n f).flash = s.flash := rfl
@[simp] theorem State.setStn_sram (n : Nat) (f : Stn → Stn) : (s.setStn n f).sram = s.sram := rfl
@[simp] theorem State.setStn_evq (n : Nat) (f : Stn → Stn) : (s.setStn n f).evq = s.evq := rfl
@[simp] theorem State.setStn_mbox (n : Nat) (f : Stn → Stn) : (s.setStn n f).mbox = s.mbox := rfl
@[simp] theorem State.setStn_load (n : Nat) (f : Stn → Stn) : (s.setStn n f).load = s.load := rfl
@[simp] theorem State.setStn_dev (n : Nat) (f : Stn → Stn) : (s.setStn n f).dev = s.dev := rfl
@[simp] theorem State.setStn_blocks (n : Nat) (f : Stn → Stn) : (s.setStn n f).blocks = s.blocks := rfl
@[simp] theorem State.setStn_nextUid (n : Nat) (f : Stn → Stn) : (s.setStn n f).nextUid = s.nextUid := rfl
@[simp] theorem State.setStn_tiles (n : Nat) (f : Stn → Stn) : (s.setStn n f).tiles = s.tiles := rfl
@[simp] theorem State.setStn_gridHoles (n : Nat) (f : Stn → Stn) : (s.setStn n f).gridHoles = s.gridHoles := rfl
@[simp] theorem State.setStn_retiring (n : Nat) (f : Stn → Stn) : (s.setStn n f).retiring = s.retiring := rfl
@[simp] theorem State.setStn_fmap (n : Nat) (f : Stn → Stn) : (s.setStn n f).fmap = s.fmap := rfl
@[simp] theorem State.setStn_jobs (n : Nat) (f : Stn → Stn) : (s.setStn n f).jobs = s.jobs := rfl
@[simp] theorem State.setStn_bales (n : Nat) (f : Stn → Stn) : (s.setStn n f).bales = s.bales := rfl
@[simp] theorem State.setStn_nextBale (n : Nat) (f : Stn → Stn) : (s.setStn n f).nextBale = s.nextBale := rfl
@[simp] theorem State.setStn_miles (n : Nat) (f : Stn → Stn) : (s.setStn n f).miles = s.miles := rfl
@[simp] theorem State.setStn_odo (n : Nat) (f : Stn → Stn) : (s.setStn n f).odo = s.odo := rfl
@[simp] theorem State.setStn_refs (n : Nat) (f : Stn → Stn) : (s.setStn n f).refs = s.refs := rfl
@[simp] theorem State.setStn_fio (n : Nat) (f : Stn → Stn) : (s.setStn n f).fio = s.fio := rfl
@[simp] theorem State.setStn_fieldSafe (n : Nat) (f : Stn → Stn) : (s.setStn n f).fieldSafe = s.fieldSafe := rfl
@[simp] theorem State.setStn_grpTrip (n : Nat) (f : Stn → Stn) : (s.setStn n f).grpTrip = s.grpTrip := rfl
@[simp] theorem State.setStn_cams (n : Nat) (f : Stn → Stn) : (s.setStn n f).cams = s.cams := rfl
@[simp] theorem State.setStn_rings (n : Nat) (f : Stn → Stn) : (s.setStn n f).rings = s.rings := rfl
@[simp] theorem State.setStn_capture (n : Nat) (f : Stn → Stn) : (s.setStn n f).capture = s.capture := rfl
@[simp] theorem State.setStn_isp (n : Nat) (f : Stn → Stn) : (s.setStn n f).isp = s.isp := rfl
@[simp] theorem State.setStn_treePass (n : Nat) (f : Stn → Stn) : (s.setStn n f).treePass = s.treePass := rfl
@[simp] theorem State.setStn_decs (n : Nat) (f : Stn → Stn) : (s.setStn n f).decs = s.decs := rfl
@[simp] theorem State.setStn_lanes (n : Nat) (f : Stn → Stn) : (s.setStn n f).lanes = s.lanes := rfl
@[simp] theorem State.setStn_lref (n : Nat) (f : Stn → Stn) : (s.setStn n f).lref = s.lref := rfl
@[simp] theorem State.setStn_links (n : Nat) (f : Stn → Stn) : (s.setStn n f).links = s.links := rfl
@[simp] theorem State.setStn_eps (n : Nat) (f : Stn → Stn) : (s.setStn n f).eps = s.eps := rfl
@[simp] theorem State.setStn_timeTag (n : Nat) (f : Stn → Stn) : (s.setStn n f).timeTag = s.timeTag := rfl
@[simp] theorem State.setStn_groups (n : Nat) (f : Stn → Stn) : (s.setStn n f).groups = s.groups := rfl
@[simp] theorem State.setStn_ptp (n : Nat) (f : Stn → Stn) : (s.setStn n f).ptp = s.ptp := rfl
@[simp] theorem State.setStn_pwr (n : Nat) (f : Stn → Stn) : (s.setStn n f).pwr = s.pwr := rfl
@[simp] theorem State.setStn_refclk (n : Nat) (f : Stn → Stn) : (s.setStn n f).refclk = s.refclk := rfl
@[simp] theorem State.setStn_phy (n : Nat) (f : Stn → Stn) : (s.setStn n f).phy = s.phy := rfl
@[simp] theorem State.setStn_lenders (n : Nat) (f : Stn → Stn) : (s.setStn n f).lenders = s.lenders := rfl
@[simp] theorem State.setStn_boot (n : Nat) (f : Stn → Stn) : (s.setStn n f).boot = s.boot := rfl
@[simp] theorem State.setStn_sport (n : Nat) (f : Stn → Stn) : (s.setStn n f).sport = s.sport := rfl
@[simp] theorem State.setStn_log (n : Nat) (f : Stn → Stn) : (s.setStn n f).log = s.log := rfl
@[simp] theorem State.setStn_cores (n : Nat) (f : Stn → Stn) : (s.setStn n f).cores = s.cores := rfl
@[simp] theorem State.setStn_uart (n : Nat) (f : Stn → Stn) : (s.setStn n f).uart = s.uart := rfl
@[simp] theorem State.setStn_i2c (n : Nat) (f : Stn → Stn) : (s.setStn n f).i2c = s.i2c := rfl
@[simp] theorem State.setStn_gpio (n : Nat) (f : Stn → Stn) : (s.setStn n f).gpio = s.gpio := rfl
@[simp] theorem State.setStn_out (n : Nat) (f : Stn → Stn) : (s.setStn n f).out = s.out := rfl
@[simp] theorem State.setStn_tap (n : Nat) (f : Stn → Stn) : (s.setStn n f).tap = s.tap := rfl
@[simp] theorem State.setStn_scan (n : Nat) (f : Stn → Stn) : (s.setStn n f).scan = s.scan := rfl
@[simp] theorem State.setStn_free (n : Nat) (f : Stn → Stn) : (s.setStn n f).free = s.free := rfl

/-! ## `State.setTile` -/

@[simp] theorem State.setTile_pending (k : Nat) (f : Tile → Tile) : (s.setTile k f).pending = s.pending := rfl
@[simp] theorem State.setTile_regs (k : Nat) (f : Tile → Tile) : (s.setTile k f).regs = s.regs := rfl
@[simp] theorem State.setTile_shadow (k : Nat) (f : Tile → Tile) : (s.setTile k f).shadow = s.shadow := rfl
@[simp] theorem State.setTile_snaps (k : Nat) (f : Tile → Tile) : (s.setTile k f).snaps = s.snaps := rfl
@[simp] theorem State.setTile_rdata (k : Nat) (f : Tile → Tile) : (s.setTile k f).rdata = s.rdata := rfl
@[simp] theorem State.setTile_tb (k : Nat) (f : Tile → Tile) : (s.setTile k f).tb = s.tb := rfl
@[simp] theorem State.setTile_otp (k : Nat) (f : Tile → Tile) : (s.setTile k f).otp = s.otp := rfl
@[simp] theorem State.setTile_dram (k : Nat) (f : Tile → Tile) : (s.setTile k f).dram = s.dram := rfl
@[simp] theorem State.setTile_flash (k : Nat) (f : Tile → Tile) : (s.setTile k f).flash = s.flash := rfl
@[simp] theorem State.setTile_sram (k : Nat) (f : Tile → Tile) : (s.setTile k f).sram = s.sram := rfl
@[simp] theorem State.setTile_evq (k : Nat) (f : Tile → Tile) : (s.setTile k f).evq = s.evq := rfl
@[simp] theorem State.setTile_mbox (k : Nat) (f : Tile → Tile) : (s.setTile k f).mbox = s.mbox := rfl
@[simp] theorem State.setTile_load (k : Nat) (f : Tile → Tile) : (s.setTile k f).load = s.load := rfl
@[simp] theorem State.setTile_dev (k : Nat) (f : Tile → Tile) : (s.setTile k f).dev = s.dev := rfl
@[simp] theorem State.setTile_blocks (k : Nat) (f : Tile → Tile) : (s.setTile k f).blocks = s.blocks := rfl
@[simp] theorem State.setTile_nextUid (k : Nat) (f : Tile → Tile) : (s.setTile k f).nextUid = s.nextUid := rfl
@[simp] theorem State.setTile_stations (k : Nat) (f : Tile → Tile) : (s.setTile k f).stations = s.stations := rfl
@[simp] theorem State.setTile_gridHoles (k : Nat) (f : Tile → Tile) : (s.setTile k f).gridHoles = s.gridHoles := rfl
@[simp] theorem State.setTile_retiring (k : Nat) (f : Tile → Tile) : (s.setTile k f).retiring = s.retiring := rfl
@[simp] theorem State.setTile_fmap (k : Nat) (f : Tile → Tile) : (s.setTile k f).fmap = s.fmap := rfl
@[simp] theorem State.setTile_jobs (k : Nat) (f : Tile → Tile) : (s.setTile k f).jobs = s.jobs := rfl
@[simp] theorem State.setTile_bales (k : Nat) (f : Tile → Tile) : (s.setTile k f).bales = s.bales := rfl
@[simp] theorem State.setTile_nextBale (k : Nat) (f : Tile → Tile) : (s.setTile k f).nextBale = s.nextBale := rfl
@[simp] theorem State.setTile_miles (k : Nat) (f : Tile → Tile) : (s.setTile k f).miles = s.miles := rfl
@[simp] theorem State.setTile_odo (k : Nat) (f : Tile → Tile) : (s.setTile k f).odo = s.odo := rfl
@[simp] theorem State.setTile_refs (k : Nat) (f : Tile → Tile) : (s.setTile k f).refs = s.refs := rfl
@[simp] theorem State.setTile_fio (k : Nat) (f : Tile → Tile) : (s.setTile k f).fio = s.fio := rfl
@[simp] theorem State.setTile_fieldSafe (k : Nat) (f : Tile → Tile) : (s.setTile k f).fieldSafe = s.fieldSafe := rfl
@[simp] theorem State.setTile_grpTrip (k : Nat) (f : Tile → Tile) : (s.setTile k f).grpTrip = s.grpTrip := rfl
@[simp] theorem State.setTile_cams (k : Nat) (f : Tile → Tile) : (s.setTile k f).cams = s.cams := rfl
@[simp] theorem State.setTile_rings (k : Nat) (f : Tile → Tile) : (s.setTile k f).rings = s.rings := rfl
@[simp] theorem State.setTile_capture (k : Nat) (f : Tile → Tile) : (s.setTile k f).capture = s.capture := rfl
@[simp] theorem State.setTile_isp (k : Nat) (f : Tile → Tile) : (s.setTile k f).isp = s.isp := rfl
@[simp] theorem State.setTile_treePass (k : Nat) (f : Tile → Tile) : (s.setTile k f).treePass = s.treePass := rfl
@[simp] theorem State.setTile_decs (k : Nat) (f : Tile → Tile) : (s.setTile k f).decs = s.decs := rfl
@[simp] theorem State.setTile_lanes (k : Nat) (f : Tile → Tile) : (s.setTile k f).lanes = s.lanes := rfl
@[simp] theorem State.setTile_lref (k : Nat) (f : Tile → Tile) : (s.setTile k f).lref = s.lref := rfl
@[simp] theorem State.setTile_links (k : Nat) (f : Tile → Tile) : (s.setTile k f).links = s.links := rfl
@[simp] theorem State.setTile_eps (k : Nat) (f : Tile → Tile) : (s.setTile k f).eps = s.eps := rfl
@[simp] theorem State.setTile_timeTag (k : Nat) (f : Tile → Tile) : (s.setTile k f).timeTag = s.timeTag := rfl
@[simp] theorem State.setTile_groups (k : Nat) (f : Tile → Tile) : (s.setTile k f).groups = s.groups := rfl
@[simp] theorem State.setTile_ptp (k : Nat) (f : Tile → Tile) : (s.setTile k f).ptp = s.ptp := rfl
@[simp] theorem State.setTile_pwr (k : Nat) (f : Tile → Tile) : (s.setTile k f).pwr = s.pwr := rfl
@[simp] theorem State.setTile_refclk (k : Nat) (f : Tile → Tile) : (s.setTile k f).refclk = s.refclk := rfl
@[simp] theorem State.setTile_phy (k : Nat) (f : Tile → Tile) : (s.setTile k f).phy = s.phy := rfl
@[simp] theorem State.setTile_lenders (k : Nat) (f : Tile → Tile) : (s.setTile k f).lenders = s.lenders := rfl
@[simp] theorem State.setTile_boot (k : Nat) (f : Tile → Tile) : (s.setTile k f).boot = s.boot := rfl
@[simp] theorem State.setTile_sport (k : Nat) (f : Tile → Tile) : (s.setTile k f).sport = s.sport := rfl
@[simp] theorem State.setTile_log (k : Nat) (f : Tile → Tile) : (s.setTile k f).log = s.log := rfl
@[simp] theorem State.setTile_cores (k : Nat) (f : Tile → Tile) : (s.setTile k f).cores = s.cores := rfl
@[simp] theorem State.setTile_uart (k : Nat) (f : Tile → Tile) : (s.setTile k f).uart = s.uart := rfl
@[simp] theorem State.setTile_i2c (k : Nat) (f : Tile → Tile) : (s.setTile k f).i2c = s.i2c := rfl
@[simp] theorem State.setTile_gpio (k : Nat) (f : Tile → Tile) : (s.setTile k f).gpio = s.gpio := rfl
@[simp] theorem State.setTile_out (k : Nat) (f : Tile → Tile) : (s.setTile k f).out = s.out := rfl
@[simp] theorem State.setTile_tap (k : Nat) (f : Tile → Tile) : (s.setTile k f).tap = s.tap := rfl
@[simp] theorem State.setTile_scan (k : Nat) (f : Tile → Tile) : (s.setTile k f).scan = s.scan := rfl
@[simp] theorem State.setTile_free (k : Nat) (f : Tile → Tile) : (s.setTile k f).free = s.free := rfl

/-! ## `State.setOdo` -/

@[simp] theorem State.setOdo_pending (c : Nat) (f : Odo → Odo) : (s.setOdo c f).pending = s.pending := rfl
@[simp] theorem State.setOdo_regs (c : Nat) (f : Odo → Odo) : (s.setOdo c f).regs = s.regs := rfl
@[simp] theorem State.setOdo_shadow (c : Nat) (f : Odo → Odo) : (s.setOdo c f).shadow = s.shadow := rfl
@[simp] theorem State.setOdo_snaps (c : Nat) (f : Odo → Odo) : (s.setOdo c f).snaps = s.snaps := rfl
@[simp] theorem State.setOdo_rdata (c : Nat) (f : Odo → Odo) : (s.setOdo c f).rdata = s.rdata := rfl
@[simp] theorem State.setOdo_tb (c : Nat) (f : Odo → Odo) : (s.setOdo c f).tb = s.tb := rfl
@[simp] theorem State.setOdo_otp (c : Nat) (f : Odo → Odo) : (s.setOdo c f).otp = s.otp := rfl
@[simp] theorem State.setOdo_dram (c : Nat) (f : Odo → Odo) : (s.setOdo c f).dram = s.dram := rfl
@[simp] theorem State.setOdo_flash (c : Nat) (f : Odo → Odo) : (s.setOdo c f).flash = s.flash := rfl
@[simp] theorem State.setOdo_sram (c : Nat) (f : Odo → Odo) : (s.setOdo c f).sram = s.sram := rfl
@[simp] theorem State.setOdo_evq (c : Nat) (f : Odo → Odo) : (s.setOdo c f).evq = s.evq := rfl
@[simp] theorem State.setOdo_mbox (c : Nat) (f : Odo → Odo) : (s.setOdo c f).mbox = s.mbox := rfl
@[simp] theorem State.setOdo_load (c : Nat) (f : Odo → Odo) : (s.setOdo c f).load = s.load := rfl
@[simp] theorem State.setOdo_dev (c : Nat) (f : Odo → Odo) : (s.setOdo c f).dev = s.dev := rfl
@[simp] theorem State.setOdo_blocks (c : Nat) (f : Odo → Odo) : (s.setOdo c f).blocks = s.blocks := rfl
@[simp] theorem State.setOdo_nextUid (c : Nat) (f : Odo → Odo) : (s.setOdo c f).nextUid = s.nextUid := rfl
@[simp] theorem State.setOdo_stations (c : Nat) (f : Odo → Odo) : (s.setOdo c f).stations = s.stations := rfl
@[simp] theorem State.setOdo_tiles (c : Nat) (f : Odo → Odo) : (s.setOdo c f).tiles = s.tiles := rfl
@[simp] theorem State.setOdo_gridHoles (c : Nat) (f : Odo → Odo) : (s.setOdo c f).gridHoles = s.gridHoles := rfl
@[simp] theorem State.setOdo_retiring (c : Nat) (f : Odo → Odo) : (s.setOdo c f).retiring = s.retiring := rfl
@[simp] theorem State.setOdo_fmap (c : Nat) (f : Odo → Odo) : (s.setOdo c f).fmap = s.fmap := rfl
@[simp] theorem State.setOdo_jobs (c : Nat) (f : Odo → Odo) : (s.setOdo c f).jobs = s.jobs := rfl
@[simp] theorem State.setOdo_bales (c : Nat) (f : Odo → Odo) : (s.setOdo c f).bales = s.bales := rfl
@[simp] theorem State.setOdo_nextBale (c : Nat) (f : Odo → Odo) : (s.setOdo c f).nextBale = s.nextBale := rfl
@[simp] theorem State.setOdo_miles (c : Nat) (f : Odo → Odo) : (s.setOdo c f).miles = s.miles := rfl
@[simp] theorem State.setOdo_refs (c : Nat) (f : Odo → Odo) : (s.setOdo c f).refs = s.refs := rfl
@[simp] theorem State.setOdo_fio (c : Nat) (f : Odo → Odo) : (s.setOdo c f).fio = s.fio := rfl
@[simp] theorem State.setOdo_fieldSafe (c : Nat) (f : Odo → Odo) : (s.setOdo c f).fieldSafe = s.fieldSafe := rfl
@[simp] theorem State.setOdo_grpTrip (c : Nat) (f : Odo → Odo) : (s.setOdo c f).grpTrip = s.grpTrip := rfl
@[simp] theorem State.setOdo_cams (c : Nat) (f : Odo → Odo) : (s.setOdo c f).cams = s.cams := rfl
@[simp] theorem State.setOdo_rings (c : Nat) (f : Odo → Odo) : (s.setOdo c f).rings = s.rings := rfl
@[simp] theorem State.setOdo_capture (c : Nat) (f : Odo → Odo) : (s.setOdo c f).capture = s.capture := rfl
@[simp] theorem State.setOdo_isp (c : Nat) (f : Odo → Odo) : (s.setOdo c f).isp = s.isp := rfl
@[simp] theorem State.setOdo_treePass (c : Nat) (f : Odo → Odo) : (s.setOdo c f).treePass = s.treePass := rfl
@[simp] theorem State.setOdo_decs (c : Nat) (f : Odo → Odo) : (s.setOdo c f).decs = s.decs := rfl
@[simp] theorem State.setOdo_lanes (c : Nat) (f : Odo → Odo) : (s.setOdo c f).lanes = s.lanes := rfl
@[simp] theorem State.setOdo_lref (c : Nat) (f : Odo → Odo) : (s.setOdo c f).lref = s.lref := rfl
@[simp] theorem State.setOdo_links (c : Nat) (f : Odo → Odo) : (s.setOdo c f).links = s.links := rfl
@[simp] theorem State.setOdo_eps (c : Nat) (f : Odo → Odo) : (s.setOdo c f).eps = s.eps := rfl
@[simp] theorem State.setOdo_timeTag (c : Nat) (f : Odo → Odo) : (s.setOdo c f).timeTag = s.timeTag := rfl
@[simp] theorem State.setOdo_groups (c : Nat) (f : Odo → Odo) : (s.setOdo c f).groups = s.groups := rfl
@[simp] theorem State.setOdo_ptp (c : Nat) (f : Odo → Odo) : (s.setOdo c f).ptp = s.ptp := rfl
@[simp] theorem State.setOdo_pwr (c : Nat) (f : Odo → Odo) : (s.setOdo c f).pwr = s.pwr := rfl
@[simp] theorem State.setOdo_refclk (c : Nat) (f : Odo → Odo) : (s.setOdo c f).refclk = s.refclk := rfl
@[simp] theorem State.setOdo_phy (c : Nat) (f : Odo → Odo) : (s.setOdo c f).phy = s.phy := rfl
@[simp] theorem State.setOdo_lenders (c : Nat) (f : Odo → Odo) : (s.setOdo c f).lenders = s.lenders := rfl
@[simp] theorem State.setOdo_boot (c : Nat) (f : Odo → Odo) : (s.setOdo c f).boot = s.boot := rfl
@[simp] theorem State.setOdo_sport (c : Nat) (f : Odo → Odo) : (s.setOdo c f).sport = s.sport := rfl
@[simp] theorem State.setOdo_log (c : Nat) (f : Odo → Odo) : (s.setOdo c f).log = s.log := rfl
@[simp] theorem State.setOdo_cores (c : Nat) (f : Odo → Odo) : (s.setOdo c f).cores = s.cores := rfl
@[simp] theorem State.setOdo_uart (c : Nat) (f : Odo → Odo) : (s.setOdo c f).uart = s.uart := rfl
@[simp] theorem State.setOdo_i2c (c : Nat) (f : Odo → Odo) : (s.setOdo c f).i2c = s.i2c := rfl
@[simp] theorem State.setOdo_gpio (c : Nat) (f : Odo → Odo) : (s.setOdo c f).gpio = s.gpio := rfl
@[simp] theorem State.setOdo_out (c : Nat) (f : Odo → Odo) : (s.setOdo c f).out = s.out := rfl
@[simp] theorem State.setOdo_tap (c : Nat) (f : Odo → Odo) : (s.setOdo c f).tap = s.tap := rfl
@[simp] theorem State.setOdo_scan (c : Nat) (f : Odo → Odo) : (s.setOdo c f).scan = s.scan := rfl
@[simp] theorem State.setOdo_free (c : Nat) (f : Odo → Odo) : (s.setOdo c f).free = s.free := rfl

/-! ## `State.setRef` -/

@[simp] theorem State.setRef_pending (n : Nat) (f : Ref → Ref) : (s.setRef n f).pending = s.pending := rfl
@[simp] theorem State.setRef_regs (n : Nat) (f : Ref → Ref) : (s.setRef n f).regs = s.regs := rfl
@[simp] theorem State.setRef_shadow (n : Nat) (f : Ref → Ref) : (s.setRef n f).shadow = s.shadow := rfl
@[simp] theorem State.setRef_snaps (n : Nat) (f : Ref → Ref) : (s.setRef n f).snaps = s.snaps := rfl
@[simp] theorem State.setRef_rdata (n : Nat) (f : Ref → Ref) : (s.setRef n f).rdata = s.rdata := rfl
@[simp] theorem State.setRef_tb (n : Nat) (f : Ref → Ref) : (s.setRef n f).tb = s.tb := rfl
@[simp] theorem State.setRef_otp (n : Nat) (f : Ref → Ref) : (s.setRef n f).otp = s.otp := rfl
@[simp] theorem State.setRef_dram (n : Nat) (f : Ref → Ref) : (s.setRef n f).dram = s.dram := rfl
@[simp] theorem State.setRef_flash (n : Nat) (f : Ref → Ref) : (s.setRef n f).flash = s.flash := rfl
@[simp] theorem State.setRef_sram (n : Nat) (f : Ref → Ref) : (s.setRef n f).sram = s.sram := rfl
@[simp] theorem State.setRef_evq (n : Nat) (f : Ref → Ref) : (s.setRef n f).evq = s.evq := rfl
@[simp] theorem State.setRef_mbox (n : Nat) (f : Ref → Ref) : (s.setRef n f).mbox = s.mbox := rfl
@[simp] theorem State.setRef_load (n : Nat) (f : Ref → Ref) : (s.setRef n f).load = s.load := rfl
@[simp] theorem State.setRef_dev (n : Nat) (f : Ref → Ref) : (s.setRef n f).dev = s.dev := rfl
@[simp] theorem State.setRef_blocks (n : Nat) (f : Ref → Ref) : (s.setRef n f).blocks = s.blocks := rfl
@[simp] theorem State.setRef_nextUid (n : Nat) (f : Ref → Ref) : (s.setRef n f).nextUid = s.nextUid := rfl
@[simp] theorem State.setRef_stations (n : Nat) (f : Ref → Ref) : (s.setRef n f).stations = s.stations := rfl
@[simp] theorem State.setRef_tiles (n : Nat) (f : Ref → Ref) : (s.setRef n f).tiles = s.tiles := rfl
@[simp] theorem State.setRef_gridHoles (n : Nat) (f : Ref → Ref) : (s.setRef n f).gridHoles = s.gridHoles := rfl
@[simp] theorem State.setRef_retiring (n : Nat) (f : Ref → Ref) : (s.setRef n f).retiring = s.retiring := rfl
@[simp] theorem State.setRef_fmap (n : Nat) (f : Ref → Ref) : (s.setRef n f).fmap = s.fmap := rfl
@[simp] theorem State.setRef_jobs (n : Nat) (f : Ref → Ref) : (s.setRef n f).jobs = s.jobs := rfl
@[simp] theorem State.setRef_bales (n : Nat) (f : Ref → Ref) : (s.setRef n f).bales = s.bales := rfl
@[simp] theorem State.setRef_nextBale (n : Nat) (f : Ref → Ref) : (s.setRef n f).nextBale = s.nextBale := rfl
@[simp] theorem State.setRef_miles (n : Nat) (f : Ref → Ref) : (s.setRef n f).miles = s.miles := rfl
@[simp] theorem State.setRef_odo (n : Nat) (f : Ref → Ref) : (s.setRef n f).odo = s.odo := rfl
@[simp] theorem State.setRef_fio (n : Nat) (f : Ref → Ref) : (s.setRef n f).fio = s.fio := rfl
@[simp] theorem State.setRef_fieldSafe (n : Nat) (f : Ref → Ref) : (s.setRef n f).fieldSafe = s.fieldSafe := rfl
@[simp] theorem State.setRef_grpTrip (n : Nat) (f : Ref → Ref) : (s.setRef n f).grpTrip = s.grpTrip := rfl
@[simp] theorem State.setRef_cams (n : Nat) (f : Ref → Ref) : (s.setRef n f).cams = s.cams := rfl
@[simp] theorem State.setRef_rings (n : Nat) (f : Ref → Ref) : (s.setRef n f).rings = s.rings := rfl
@[simp] theorem State.setRef_capture (n : Nat) (f : Ref → Ref) : (s.setRef n f).capture = s.capture := rfl
@[simp] theorem State.setRef_isp (n : Nat) (f : Ref → Ref) : (s.setRef n f).isp = s.isp := rfl
@[simp] theorem State.setRef_treePass (n : Nat) (f : Ref → Ref) : (s.setRef n f).treePass = s.treePass := rfl
@[simp] theorem State.setRef_decs (n : Nat) (f : Ref → Ref) : (s.setRef n f).decs = s.decs := rfl
@[simp] theorem State.setRef_lanes (n : Nat) (f : Ref → Ref) : (s.setRef n f).lanes = s.lanes := rfl
@[simp] theorem State.setRef_lref (n : Nat) (f : Ref → Ref) : (s.setRef n f).lref = s.lref := rfl
@[simp] theorem State.setRef_links (n : Nat) (f : Ref → Ref) : (s.setRef n f).links = s.links := rfl
@[simp] theorem State.setRef_eps (n : Nat) (f : Ref → Ref) : (s.setRef n f).eps = s.eps := rfl
@[simp] theorem State.setRef_timeTag (n : Nat) (f : Ref → Ref) : (s.setRef n f).timeTag = s.timeTag := rfl
@[simp] theorem State.setRef_groups (n : Nat) (f : Ref → Ref) : (s.setRef n f).groups = s.groups := rfl
@[simp] theorem State.setRef_ptp (n : Nat) (f : Ref → Ref) : (s.setRef n f).ptp = s.ptp := rfl
@[simp] theorem State.setRef_pwr (n : Nat) (f : Ref → Ref) : (s.setRef n f).pwr = s.pwr := rfl
@[simp] theorem State.setRef_refclk (n : Nat) (f : Ref → Ref) : (s.setRef n f).refclk = s.refclk := rfl
@[simp] theorem State.setRef_phy (n : Nat) (f : Ref → Ref) : (s.setRef n f).phy = s.phy := rfl
@[simp] theorem State.setRef_lenders (n : Nat) (f : Ref → Ref) : (s.setRef n f).lenders = s.lenders := rfl
@[simp] theorem State.setRef_boot (n : Nat) (f : Ref → Ref) : (s.setRef n f).boot = s.boot := rfl
@[simp] theorem State.setRef_sport (n : Nat) (f : Ref → Ref) : (s.setRef n f).sport = s.sport := rfl
@[simp] theorem State.setRef_log (n : Nat) (f : Ref → Ref) : (s.setRef n f).log = s.log := rfl
@[simp] theorem State.setRef_cores (n : Nat) (f : Ref → Ref) : (s.setRef n f).cores = s.cores := rfl
@[simp] theorem State.setRef_uart (n : Nat) (f : Ref → Ref) : (s.setRef n f).uart = s.uart := rfl
@[simp] theorem State.setRef_i2c (n : Nat) (f : Ref → Ref) : (s.setRef n f).i2c = s.i2c := rfl
@[simp] theorem State.setRef_gpio (n : Nat) (f : Ref → Ref) : (s.setRef n f).gpio = s.gpio := rfl
@[simp] theorem State.setRef_out (n : Nat) (f : Ref → Ref) : (s.setRef n f).out = s.out := rfl
@[simp] theorem State.setRef_tap (n : Nat) (f : Ref → Ref) : (s.setRef n f).tap = s.tap := rfl
@[simp] theorem State.setRef_scan (n : Nat) (f : Ref → Ref) : (s.setRef n f).scan = s.scan := rfl
@[simp] theorem State.setRef_free (n : Nat) (f : Ref → Ref) : (s.setRef n f).free = s.free := rfl

/-! ## `State.setFio` -/

@[simp] theorem State.setFio_pending (c : Nat) (f : Fio → Fio) : (s.setFio c f).pending = s.pending := rfl
@[simp] theorem State.setFio_regs (c : Nat) (f : Fio → Fio) : (s.setFio c f).regs = s.regs := rfl
@[simp] theorem State.setFio_shadow (c : Nat) (f : Fio → Fio) : (s.setFio c f).shadow = s.shadow := rfl
@[simp] theorem State.setFio_snaps (c : Nat) (f : Fio → Fio) : (s.setFio c f).snaps = s.snaps := rfl
@[simp] theorem State.setFio_rdata (c : Nat) (f : Fio → Fio) : (s.setFio c f).rdata = s.rdata := rfl
@[simp] theorem State.setFio_tb (c : Nat) (f : Fio → Fio) : (s.setFio c f).tb = s.tb := rfl
@[simp] theorem State.setFio_otp (c : Nat) (f : Fio → Fio) : (s.setFio c f).otp = s.otp := rfl
@[simp] theorem State.setFio_dram (c : Nat) (f : Fio → Fio) : (s.setFio c f).dram = s.dram := rfl
@[simp] theorem State.setFio_flash (c : Nat) (f : Fio → Fio) : (s.setFio c f).flash = s.flash := rfl
@[simp] theorem State.setFio_sram (c : Nat) (f : Fio → Fio) : (s.setFio c f).sram = s.sram := rfl
@[simp] theorem State.setFio_evq (c : Nat) (f : Fio → Fio) : (s.setFio c f).evq = s.evq := rfl
@[simp] theorem State.setFio_mbox (c : Nat) (f : Fio → Fio) : (s.setFio c f).mbox = s.mbox := rfl
@[simp] theorem State.setFio_load (c : Nat) (f : Fio → Fio) : (s.setFio c f).load = s.load := rfl
@[simp] theorem State.setFio_dev (c : Nat) (f : Fio → Fio) : (s.setFio c f).dev = s.dev := rfl
@[simp] theorem State.setFio_blocks (c : Nat) (f : Fio → Fio) : (s.setFio c f).blocks = s.blocks := rfl
@[simp] theorem State.setFio_nextUid (c : Nat) (f : Fio → Fio) : (s.setFio c f).nextUid = s.nextUid := rfl
@[simp] theorem State.setFio_stations (c : Nat) (f : Fio → Fio) : (s.setFio c f).stations = s.stations := rfl
@[simp] theorem State.setFio_tiles (c : Nat) (f : Fio → Fio) : (s.setFio c f).tiles = s.tiles := rfl
@[simp] theorem State.setFio_gridHoles (c : Nat) (f : Fio → Fio) : (s.setFio c f).gridHoles = s.gridHoles := rfl
@[simp] theorem State.setFio_retiring (c : Nat) (f : Fio → Fio) : (s.setFio c f).retiring = s.retiring := rfl
@[simp] theorem State.setFio_fmap (c : Nat) (f : Fio → Fio) : (s.setFio c f).fmap = s.fmap := rfl
@[simp] theorem State.setFio_jobs (c : Nat) (f : Fio → Fio) : (s.setFio c f).jobs = s.jobs := rfl
@[simp] theorem State.setFio_bales (c : Nat) (f : Fio → Fio) : (s.setFio c f).bales = s.bales := rfl
@[simp] theorem State.setFio_nextBale (c : Nat) (f : Fio → Fio) : (s.setFio c f).nextBale = s.nextBale := rfl
@[simp] theorem State.setFio_miles (c : Nat) (f : Fio → Fio) : (s.setFio c f).miles = s.miles := rfl
@[simp] theorem State.setFio_odo (c : Nat) (f : Fio → Fio) : (s.setFio c f).odo = s.odo := rfl
@[simp] theorem State.setFio_refs (c : Nat) (f : Fio → Fio) : (s.setFio c f).refs = s.refs := rfl
@[simp] theorem State.setFio_fieldSafe (c : Nat) (f : Fio → Fio) : (s.setFio c f).fieldSafe = s.fieldSafe := rfl
@[simp] theorem State.setFio_grpTrip (c : Nat) (f : Fio → Fio) : (s.setFio c f).grpTrip = s.grpTrip := rfl
@[simp] theorem State.setFio_cams (c : Nat) (f : Fio → Fio) : (s.setFio c f).cams = s.cams := rfl
@[simp] theorem State.setFio_rings (c : Nat) (f : Fio → Fio) : (s.setFio c f).rings = s.rings := rfl
@[simp] theorem State.setFio_capture (c : Nat) (f : Fio → Fio) : (s.setFio c f).capture = s.capture := rfl
@[simp] theorem State.setFio_isp (c : Nat) (f : Fio → Fio) : (s.setFio c f).isp = s.isp := rfl
@[simp] theorem State.setFio_treePass (c : Nat) (f : Fio → Fio) : (s.setFio c f).treePass = s.treePass := rfl
@[simp] theorem State.setFio_decs (c : Nat) (f : Fio → Fio) : (s.setFio c f).decs = s.decs := rfl
@[simp] theorem State.setFio_lanes (c : Nat) (f : Fio → Fio) : (s.setFio c f).lanes = s.lanes := rfl
@[simp] theorem State.setFio_lref (c : Nat) (f : Fio → Fio) : (s.setFio c f).lref = s.lref := rfl
@[simp] theorem State.setFio_links (c : Nat) (f : Fio → Fio) : (s.setFio c f).links = s.links := rfl
@[simp] theorem State.setFio_eps (c : Nat) (f : Fio → Fio) : (s.setFio c f).eps = s.eps := rfl
@[simp] theorem State.setFio_timeTag (c : Nat) (f : Fio → Fio) : (s.setFio c f).timeTag = s.timeTag := rfl
@[simp] theorem State.setFio_groups (c : Nat) (f : Fio → Fio) : (s.setFio c f).groups = s.groups := rfl
@[simp] theorem State.setFio_ptp (c : Nat) (f : Fio → Fio) : (s.setFio c f).ptp = s.ptp := rfl
@[simp] theorem State.setFio_pwr (c : Nat) (f : Fio → Fio) : (s.setFio c f).pwr = s.pwr := rfl
@[simp] theorem State.setFio_refclk (c : Nat) (f : Fio → Fio) : (s.setFio c f).refclk = s.refclk := rfl
@[simp] theorem State.setFio_phy (c : Nat) (f : Fio → Fio) : (s.setFio c f).phy = s.phy := rfl
@[simp] theorem State.setFio_lenders (c : Nat) (f : Fio → Fio) : (s.setFio c f).lenders = s.lenders := rfl
@[simp] theorem State.setFio_boot (c : Nat) (f : Fio → Fio) : (s.setFio c f).boot = s.boot := rfl
@[simp] theorem State.setFio_sport (c : Nat) (f : Fio → Fio) : (s.setFio c f).sport = s.sport := rfl
@[simp] theorem State.setFio_log (c : Nat) (f : Fio → Fio) : (s.setFio c f).log = s.log := rfl
@[simp] theorem State.setFio_cores (c : Nat) (f : Fio → Fio) : (s.setFio c f).cores = s.cores := rfl
@[simp] theorem State.setFio_uart (c : Nat) (f : Fio → Fio) : (s.setFio c f).uart = s.uart := rfl
@[simp] theorem State.setFio_i2c (c : Nat) (f : Fio → Fio) : (s.setFio c f).i2c = s.i2c := rfl
@[simp] theorem State.setFio_gpio (c : Nat) (f : Fio → Fio) : (s.setFio c f).gpio = s.gpio := rfl
@[simp] theorem State.setFio_out (c : Nat) (f : Fio → Fio) : (s.setFio c f).out = s.out := rfl
@[simp] theorem State.setFio_tap (c : Nat) (f : Fio → Fio) : (s.setFio c f).tap = s.tap := rfl
@[simp] theorem State.setFio_scan (c : Nat) (f : Fio → Fio) : (s.setFio c f).scan = s.scan := rfl
@[simp] theorem State.setFio_free (c : Nat) (f : Fio → Fio) : (s.setFio c f).free = s.free := rfl

/-! ## `State.setCam` -/

@[simp] theorem State.setCam_pending (c : Nat) (f : Cam → Cam) : (s.setCam c f).pending = s.pending := rfl
@[simp] theorem State.setCam_regs (c : Nat) (f : Cam → Cam) : (s.setCam c f).regs = s.regs := rfl
@[simp] theorem State.setCam_shadow (c : Nat) (f : Cam → Cam) : (s.setCam c f).shadow = s.shadow := rfl
@[simp] theorem State.setCam_snaps (c : Nat) (f : Cam → Cam) : (s.setCam c f).snaps = s.snaps := rfl
@[simp] theorem State.setCam_rdata (c : Nat) (f : Cam → Cam) : (s.setCam c f).rdata = s.rdata := rfl
@[simp] theorem State.setCam_tb (c : Nat) (f : Cam → Cam) : (s.setCam c f).tb = s.tb := rfl
@[simp] theorem State.setCam_otp (c : Nat) (f : Cam → Cam) : (s.setCam c f).otp = s.otp := rfl
@[simp] theorem State.setCam_dram (c : Nat) (f : Cam → Cam) : (s.setCam c f).dram = s.dram := rfl
@[simp] theorem State.setCam_flash (c : Nat) (f : Cam → Cam) : (s.setCam c f).flash = s.flash := rfl
@[simp] theorem State.setCam_sram (c : Nat) (f : Cam → Cam) : (s.setCam c f).sram = s.sram := rfl
@[simp] theorem State.setCam_evq (c : Nat) (f : Cam → Cam) : (s.setCam c f).evq = s.evq := rfl
@[simp] theorem State.setCam_mbox (c : Nat) (f : Cam → Cam) : (s.setCam c f).mbox = s.mbox := rfl
@[simp] theorem State.setCam_load (c : Nat) (f : Cam → Cam) : (s.setCam c f).load = s.load := rfl
@[simp] theorem State.setCam_dev (c : Nat) (f : Cam → Cam) : (s.setCam c f).dev = s.dev := rfl
@[simp] theorem State.setCam_blocks (c : Nat) (f : Cam → Cam) : (s.setCam c f).blocks = s.blocks := rfl
@[simp] theorem State.setCam_nextUid (c : Nat) (f : Cam → Cam) : (s.setCam c f).nextUid = s.nextUid := rfl
@[simp] theorem State.setCam_stations (c : Nat) (f : Cam → Cam) : (s.setCam c f).stations = s.stations := rfl
@[simp] theorem State.setCam_tiles (c : Nat) (f : Cam → Cam) : (s.setCam c f).tiles = s.tiles := rfl
@[simp] theorem State.setCam_gridHoles (c : Nat) (f : Cam → Cam) : (s.setCam c f).gridHoles = s.gridHoles := rfl
@[simp] theorem State.setCam_retiring (c : Nat) (f : Cam → Cam) : (s.setCam c f).retiring = s.retiring := rfl
@[simp] theorem State.setCam_fmap (c : Nat) (f : Cam → Cam) : (s.setCam c f).fmap = s.fmap := rfl
@[simp] theorem State.setCam_jobs (c : Nat) (f : Cam → Cam) : (s.setCam c f).jobs = s.jobs := rfl
@[simp] theorem State.setCam_bales (c : Nat) (f : Cam → Cam) : (s.setCam c f).bales = s.bales := rfl
@[simp] theorem State.setCam_nextBale (c : Nat) (f : Cam → Cam) : (s.setCam c f).nextBale = s.nextBale := rfl
@[simp] theorem State.setCam_miles (c : Nat) (f : Cam → Cam) : (s.setCam c f).miles = s.miles := rfl
@[simp] theorem State.setCam_odo (c : Nat) (f : Cam → Cam) : (s.setCam c f).odo = s.odo := rfl
@[simp] theorem State.setCam_refs (c : Nat) (f : Cam → Cam) : (s.setCam c f).refs = s.refs := rfl
@[simp] theorem State.setCam_fio (c : Nat) (f : Cam → Cam) : (s.setCam c f).fio = s.fio := rfl
@[simp] theorem State.setCam_fieldSafe (c : Nat) (f : Cam → Cam) : (s.setCam c f).fieldSafe = s.fieldSafe := rfl
@[simp] theorem State.setCam_grpTrip (c : Nat) (f : Cam → Cam) : (s.setCam c f).grpTrip = s.grpTrip := rfl
@[simp] theorem State.setCam_rings (c : Nat) (f : Cam → Cam) : (s.setCam c f).rings = s.rings := rfl
@[simp] theorem State.setCam_capture (c : Nat) (f : Cam → Cam) : (s.setCam c f).capture = s.capture := rfl
@[simp] theorem State.setCam_isp (c : Nat) (f : Cam → Cam) : (s.setCam c f).isp = s.isp := rfl
@[simp] theorem State.setCam_treePass (c : Nat) (f : Cam → Cam) : (s.setCam c f).treePass = s.treePass := rfl
@[simp] theorem State.setCam_decs (c : Nat) (f : Cam → Cam) : (s.setCam c f).decs = s.decs := rfl
@[simp] theorem State.setCam_lanes (c : Nat) (f : Cam → Cam) : (s.setCam c f).lanes = s.lanes := rfl
@[simp] theorem State.setCam_lref (c : Nat) (f : Cam → Cam) : (s.setCam c f).lref = s.lref := rfl
@[simp] theorem State.setCam_links (c : Nat) (f : Cam → Cam) : (s.setCam c f).links = s.links := rfl
@[simp] theorem State.setCam_eps (c : Nat) (f : Cam → Cam) : (s.setCam c f).eps = s.eps := rfl
@[simp] theorem State.setCam_timeTag (c : Nat) (f : Cam → Cam) : (s.setCam c f).timeTag = s.timeTag := rfl
@[simp] theorem State.setCam_groups (c : Nat) (f : Cam → Cam) : (s.setCam c f).groups = s.groups := rfl
@[simp] theorem State.setCam_ptp (c : Nat) (f : Cam → Cam) : (s.setCam c f).ptp = s.ptp := rfl
@[simp] theorem State.setCam_pwr (c : Nat) (f : Cam → Cam) : (s.setCam c f).pwr = s.pwr := rfl
@[simp] theorem State.setCam_refclk (c : Nat) (f : Cam → Cam) : (s.setCam c f).refclk = s.refclk := rfl
@[simp] theorem State.setCam_phy (c : Nat) (f : Cam → Cam) : (s.setCam c f).phy = s.phy := rfl
@[simp] theorem State.setCam_lenders (c : Nat) (f : Cam → Cam) : (s.setCam c f).lenders = s.lenders := rfl
@[simp] theorem State.setCam_boot (c : Nat) (f : Cam → Cam) : (s.setCam c f).boot = s.boot := rfl
@[simp] theorem State.setCam_sport (c : Nat) (f : Cam → Cam) : (s.setCam c f).sport = s.sport := rfl
@[simp] theorem State.setCam_log (c : Nat) (f : Cam → Cam) : (s.setCam c f).log = s.log := rfl
@[simp] theorem State.setCam_cores (c : Nat) (f : Cam → Cam) : (s.setCam c f).cores = s.cores := rfl
@[simp] theorem State.setCam_uart (c : Nat) (f : Cam → Cam) : (s.setCam c f).uart = s.uart := rfl
@[simp] theorem State.setCam_i2c (c : Nat) (f : Cam → Cam) : (s.setCam c f).i2c = s.i2c := rfl
@[simp] theorem State.setCam_gpio (c : Nat) (f : Cam → Cam) : (s.setCam c f).gpio = s.gpio := rfl
@[simp] theorem State.setCam_out (c : Nat) (f : Cam → Cam) : (s.setCam c f).out = s.out := rfl
@[simp] theorem State.setCam_tap (c : Nat) (f : Cam → Cam) : (s.setCam c f).tap = s.tap := rfl
@[simp] theorem State.setCam_scan (c : Nat) (f : Cam → Cam) : (s.setCam c f).scan = s.scan := rfl
@[simp] theorem State.setCam_free (c : Nat) (f : Cam → Cam) : (s.setCam c f).free = s.free := rfl

/-! ## `State.setLane` -/

@[simp] theorem State.setLane_pending (l : Nat) (f : Lane → Lane) : (s.setLane l f).pending = s.pending := rfl
@[simp] theorem State.setLane_regs (l : Nat) (f : Lane → Lane) : (s.setLane l f).regs = s.regs := rfl
@[simp] theorem State.setLane_shadow (l : Nat) (f : Lane → Lane) : (s.setLane l f).shadow = s.shadow := rfl
@[simp] theorem State.setLane_snaps (l : Nat) (f : Lane → Lane) : (s.setLane l f).snaps = s.snaps := rfl
@[simp] theorem State.setLane_rdata (l : Nat) (f : Lane → Lane) : (s.setLane l f).rdata = s.rdata := rfl
@[simp] theorem State.setLane_tb (l : Nat) (f : Lane → Lane) : (s.setLane l f).tb = s.tb := rfl
@[simp] theorem State.setLane_otp (l : Nat) (f : Lane → Lane) : (s.setLane l f).otp = s.otp := rfl
@[simp] theorem State.setLane_dram (l : Nat) (f : Lane → Lane) : (s.setLane l f).dram = s.dram := rfl
@[simp] theorem State.setLane_flash (l : Nat) (f : Lane → Lane) : (s.setLane l f).flash = s.flash := rfl
@[simp] theorem State.setLane_sram (l : Nat) (f : Lane → Lane) : (s.setLane l f).sram = s.sram := rfl
@[simp] theorem State.setLane_evq (l : Nat) (f : Lane → Lane) : (s.setLane l f).evq = s.evq := rfl
@[simp] theorem State.setLane_mbox (l : Nat) (f : Lane → Lane) : (s.setLane l f).mbox = s.mbox := rfl
@[simp] theorem State.setLane_load (l : Nat) (f : Lane → Lane) : (s.setLane l f).load = s.load := rfl
@[simp] theorem State.setLane_dev (l : Nat) (f : Lane → Lane) : (s.setLane l f).dev = s.dev := rfl
@[simp] theorem State.setLane_blocks (l : Nat) (f : Lane → Lane) : (s.setLane l f).blocks = s.blocks := rfl
@[simp] theorem State.setLane_nextUid (l : Nat) (f : Lane → Lane) : (s.setLane l f).nextUid = s.nextUid := rfl
@[simp] theorem State.setLane_stations (l : Nat) (f : Lane → Lane) : (s.setLane l f).stations = s.stations := rfl
@[simp] theorem State.setLane_tiles (l : Nat) (f : Lane → Lane) : (s.setLane l f).tiles = s.tiles := rfl
@[simp] theorem State.setLane_gridHoles (l : Nat) (f : Lane → Lane) : (s.setLane l f).gridHoles = s.gridHoles := rfl
@[simp] theorem State.setLane_retiring (l : Nat) (f : Lane → Lane) : (s.setLane l f).retiring = s.retiring := rfl
@[simp] theorem State.setLane_fmap (l : Nat) (f : Lane → Lane) : (s.setLane l f).fmap = s.fmap := rfl
@[simp] theorem State.setLane_jobs (l : Nat) (f : Lane → Lane) : (s.setLane l f).jobs = s.jobs := rfl
@[simp] theorem State.setLane_bales (l : Nat) (f : Lane → Lane) : (s.setLane l f).bales = s.bales := rfl
@[simp] theorem State.setLane_nextBale (l : Nat) (f : Lane → Lane) : (s.setLane l f).nextBale = s.nextBale := rfl
@[simp] theorem State.setLane_miles (l : Nat) (f : Lane → Lane) : (s.setLane l f).miles = s.miles := rfl
@[simp] theorem State.setLane_odo (l : Nat) (f : Lane → Lane) : (s.setLane l f).odo = s.odo := rfl
@[simp] theorem State.setLane_refs (l : Nat) (f : Lane → Lane) : (s.setLane l f).refs = s.refs := rfl
@[simp] theorem State.setLane_fio (l : Nat) (f : Lane → Lane) : (s.setLane l f).fio = s.fio := rfl
@[simp] theorem State.setLane_fieldSafe (l : Nat) (f : Lane → Lane) : (s.setLane l f).fieldSafe = s.fieldSafe := rfl
@[simp] theorem State.setLane_grpTrip (l : Nat) (f : Lane → Lane) : (s.setLane l f).grpTrip = s.grpTrip := rfl
@[simp] theorem State.setLane_cams (l : Nat) (f : Lane → Lane) : (s.setLane l f).cams = s.cams := rfl
@[simp] theorem State.setLane_rings (l : Nat) (f : Lane → Lane) : (s.setLane l f).rings = s.rings := rfl
@[simp] theorem State.setLane_capture (l : Nat) (f : Lane → Lane) : (s.setLane l f).capture = s.capture := rfl
@[simp] theorem State.setLane_isp (l : Nat) (f : Lane → Lane) : (s.setLane l f).isp = s.isp := rfl
@[simp] theorem State.setLane_treePass (l : Nat) (f : Lane → Lane) : (s.setLane l f).treePass = s.treePass := rfl
@[simp] theorem State.setLane_decs (l : Nat) (f : Lane → Lane) : (s.setLane l f).decs = s.decs := rfl
@[simp] theorem State.setLane_lref (l : Nat) (f : Lane → Lane) : (s.setLane l f).lref = s.lref := rfl
@[simp] theorem State.setLane_links (l : Nat) (f : Lane → Lane) : (s.setLane l f).links = s.links := rfl
@[simp] theorem State.setLane_eps (l : Nat) (f : Lane → Lane) : (s.setLane l f).eps = s.eps := rfl
@[simp] theorem State.setLane_timeTag (l : Nat) (f : Lane → Lane) : (s.setLane l f).timeTag = s.timeTag := rfl
@[simp] theorem State.setLane_groups (l : Nat) (f : Lane → Lane) : (s.setLane l f).groups = s.groups := rfl
@[simp] theorem State.setLane_ptp (l : Nat) (f : Lane → Lane) : (s.setLane l f).ptp = s.ptp := rfl
@[simp] theorem State.setLane_pwr (l : Nat) (f : Lane → Lane) : (s.setLane l f).pwr = s.pwr := rfl
@[simp] theorem State.setLane_refclk (l : Nat) (f : Lane → Lane) : (s.setLane l f).refclk = s.refclk := rfl
@[simp] theorem State.setLane_phy (l : Nat) (f : Lane → Lane) : (s.setLane l f).phy = s.phy := rfl
@[simp] theorem State.setLane_lenders (l : Nat) (f : Lane → Lane) : (s.setLane l f).lenders = s.lenders := rfl
@[simp] theorem State.setLane_boot (l : Nat) (f : Lane → Lane) : (s.setLane l f).boot = s.boot := rfl
@[simp] theorem State.setLane_sport (l : Nat) (f : Lane → Lane) : (s.setLane l f).sport = s.sport := rfl
@[simp] theorem State.setLane_log (l : Nat) (f : Lane → Lane) : (s.setLane l f).log = s.log := rfl
@[simp] theorem State.setLane_cores (l : Nat) (f : Lane → Lane) : (s.setLane l f).cores = s.cores := rfl
@[simp] theorem State.setLane_uart (l : Nat) (f : Lane → Lane) : (s.setLane l f).uart = s.uart := rfl
@[simp] theorem State.setLane_i2c (l : Nat) (f : Lane → Lane) : (s.setLane l f).i2c = s.i2c := rfl
@[simp] theorem State.setLane_gpio (l : Nat) (f : Lane → Lane) : (s.setLane l f).gpio = s.gpio := rfl
@[simp] theorem State.setLane_out (l : Nat) (f : Lane → Lane) : (s.setLane l f).out = s.out := rfl
@[simp] theorem State.setLane_tap (l : Nat) (f : Lane → Lane) : (s.setLane l f).tap = s.tap := rfl
@[simp] theorem State.setLane_scan (l : Nat) (f : Lane → Lane) : (s.setLane l f).scan = s.scan := rfl
@[simp] theorem State.setLane_free (l : Nat) (f : Lane → Lane) : (s.setLane l f).free = s.free := rfl

/-! ## `State.setLink` -/

@[simp] theorem State.setLink_pending (l : Nat) (f : Link → Link) : (s.setLink l f).pending = s.pending := rfl
@[simp] theorem State.setLink_regs (l : Nat) (f : Link → Link) : (s.setLink l f).regs = s.regs := rfl
@[simp] theorem State.setLink_shadow (l : Nat) (f : Link → Link) : (s.setLink l f).shadow = s.shadow := rfl
@[simp] theorem State.setLink_snaps (l : Nat) (f : Link → Link) : (s.setLink l f).snaps = s.snaps := rfl
@[simp] theorem State.setLink_rdata (l : Nat) (f : Link → Link) : (s.setLink l f).rdata = s.rdata := rfl
@[simp] theorem State.setLink_tb (l : Nat) (f : Link → Link) : (s.setLink l f).tb = s.tb := rfl
@[simp] theorem State.setLink_otp (l : Nat) (f : Link → Link) : (s.setLink l f).otp = s.otp := rfl
@[simp] theorem State.setLink_dram (l : Nat) (f : Link → Link) : (s.setLink l f).dram = s.dram := rfl
@[simp] theorem State.setLink_flash (l : Nat) (f : Link → Link) : (s.setLink l f).flash = s.flash := rfl
@[simp] theorem State.setLink_sram (l : Nat) (f : Link → Link) : (s.setLink l f).sram = s.sram := rfl
@[simp] theorem State.setLink_evq (l : Nat) (f : Link → Link) : (s.setLink l f).evq = s.evq := rfl
@[simp] theorem State.setLink_mbox (l : Nat) (f : Link → Link) : (s.setLink l f).mbox = s.mbox := rfl
@[simp] theorem State.setLink_load (l : Nat) (f : Link → Link) : (s.setLink l f).load = s.load := rfl
@[simp] theorem State.setLink_dev (l : Nat) (f : Link → Link) : (s.setLink l f).dev = s.dev := rfl
@[simp] theorem State.setLink_blocks (l : Nat) (f : Link → Link) : (s.setLink l f).blocks = s.blocks := rfl
@[simp] theorem State.setLink_nextUid (l : Nat) (f : Link → Link) : (s.setLink l f).nextUid = s.nextUid := rfl
@[simp] theorem State.setLink_stations (l : Nat) (f : Link → Link) : (s.setLink l f).stations = s.stations := rfl
@[simp] theorem State.setLink_tiles (l : Nat) (f : Link → Link) : (s.setLink l f).tiles = s.tiles := rfl
@[simp] theorem State.setLink_gridHoles (l : Nat) (f : Link → Link) : (s.setLink l f).gridHoles = s.gridHoles := rfl
@[simp] theorem State.setLink_retiring (l : Nat) (f : Link → Link) : (s.setLink l f).retiring = s.retiring := rfl
@[simp] theorem State.setLink_fmap (l : Nat) (f : Link → Link) : (s.setLink l f).fmap = s.fmap := rfl
@[simp] theorem State.setLink_jobs (l : Nat) (f : Link → Link) : (s.setLink l f).jobs = s.jobs := rfl
@[simp] theorem State.setLink_bales (l : Nat) (f : Link → Link) : (s.setLink l f).bales = s.bales := rfl
@[simp] theorem State.setLink_nextBale (l : Nat) (f : Link → Link) : (s.setLink l f).nextBale = s.nextBale := rfl
@[simp] theorem State.setLink_miles (l : Nat) (f : Link → Link) : (s.setLink l f).miles = s.miles := rfl
@[simp] theorem State.setLink_odo (l : Nat) (f : Link → Link) : (s.setLink l f).odo = s.odo := rfl
@[simp] theorem State.setLink_refs (l : Nat) (f : Link → Link) : (s.setLink l f).refs = s.refs := rfl
@[simp] theorem State.setLink_fio (l : Nat) (f : Link → Link) : (s.setLink l f).fio = s.fio := rfl
@[simp] theorem State.setLink_fieldSafe (l : Nat) (f : Link → Link) : (s.setLink l f).fieldSafe = s.fieldSafe := rfl
@[simp] theorem State.setLink_grpTrip (l : Nat) (f : Link → Link) : (s.setLink l f).grpTrip = s.grpTrip := rfl
@[simp] theorem State.setLink_cams (l : Nat) (f : Link → Link) : (s.setLink l f).cams = s.cams := rfl
@[simp] theorem State.setLink_rings (l : Nat) (f : Link → Link) : (s.setLink l f).rings = s.rings := rfl
@[simp] theorem State.setLink_capture (l : Nat) (f : Link → Link) : (s.setLink l f).capture = s.capture := rfl
@[simp] theorem State.setLink_isp (l : Nat) (f : Link → Link) : (s.setLink l f).isp = s.isp := rfl
@[simp] theorem State.setLink_treePass (l : Nat) (f : Link → Link) : (s.setLink l f).treePass = s.treePass := rfl
@[simp] theorem State.setLink_decs (l : Nat) (f : Link → Link) : (s.setLink l f).decs = s.decs := rfl
@[simp] theorem State.setLink_lanes (l : Nat) (f : Link → Link) : (s.setLink l f).lanes = s.lanes := rfl
@[simp] theorem State.setLink_lref (l : Nat) (f : Link → Link) : (s.setLink l f).lref = s.lref := rfl
@[simp] theorem State.setLink_eps (l : Nat) (f : Link → Link) : (s.setLink l f).eps = s.eps := rfl
@[simp] theorem State.setLink_timeTag (l : Nat) (f : Link → Link) : (s.setLink l f).timeTag = s.timeTag := rfl
@[simp] theorem State.setLink_groups (l : Nat) (f : Link → Link) : (s.setLink l f).groups = s.groups := rfl
@[simp] theorem State.setLink_ptp (l : Nat) (f : Link → Link) : (s.setLink l f).ptp = s.ptp := rfl
@[simp] theorem State.setLink_pwr (l : Nat) (f : Link → Link) : (s.setLink l f).pwr = s.pwr := rfl
@[simp] theorem State.setLink_refclk (l : Nat) (f : Link → Link) : (s.setLink l f).refclk = s.refclk := rfl
@[simp] theorem State.setLink_phy (l : Nat) (f : Link → Link) : (s.setLink l f).phy = s.phy := rfl
@[simp] theorem State.setLink_lenders (l : Nat) (f : Link → Link) : (s.setLink l f).lenders = s.lenders := rfl
@[simp] theorem State.setLink_boot (l : Nat) (f : Link → Link) : (s.setLink l f).boot = s.boot := rfl
@[simp] theorem State.setLink_sport (l : Nat) (f : Link → Link) : (s.setLink l f).sport = s.sport := rfl
@[simp] theorem State.setLink_log (l : Nat) (f : Link → Link) : (s.setLink l f).log = s.log := rfl
@[simp] theorem State.setLink_cores (l : Nat) (f : Link → Link) : (s.setLink l f).cores = s.cores := rfl
@[simp] theorem State.setLink_uart (l : Nat) (f : Link → Link) : (s.setLink l f).uart = s.uart := rfl
@[simp] theorem State.setLink_i2c (l : Nat) (f : Link → Link) : (s.setLink l f).i2c = s.i2c := rfl
@[simp] theorem State.setLink_gpio (l : Nat) (f : Link → Link) : (s.setLink l f).gpio = s.gpio := rfl
@[simp] theorem State.setLink_out (l : Nat) (f : Link → Link) : (s.setLink l f).out = s.out := rfl
@[simp] theorem State.setLink_tap (l : Nat) (f : Link → Link) : (s.setLink l f).tap = s.tap := rfl
@[simp] theorem State.setLink_scan (l : Nat) (f : Link → Link) : (s.setLink l f).scan = s.scan := rfl
@[simp] theorem State.setLink_free (l : Nat) (f : Link → Link) : (s.setLink l f).free = s.free := rfl

/-! ## `State.setGroup` -/

@[simp] theorem State.setGroup_pending (g : Nat) (f : Group → Group) : (s.setGroup g f).pending = s.pending := rfl
@[simp] theorem State.setGroup_regs (g : Nat) (f : Group → Group) : (s.setGroup g f).regs = s.regs := rfl
@[simp] theorem State.setGroup_shadow (g : Nat) (f : Group → Group) : (s.setGroup g f).shadow = s.shadow := rfl
@[simp] theorem State.setGroup_snaps (g : Nat) (f : Group → Group) : (s.setGroup g f).snaps = s.snaps := rfl
@[simp] theorem State.setGroup_rdata (g : Nat) (f : Group → Group) : (s.setGroup g f).rdata = s.rdata := rfl
@[simp] theorem State.setGroup_tb (g : Nat) (f : Group → Group) : (s.setGroup g f).tb = s.tb := rfl
@[simp] theorem State.setGroup_otp (g : Nat) (f : Group → Group) : (s.setGroup g f).otp = s.otp := rfl
@[simp] theorem State.setGroup_dram (g : Nat) (f : Group → Group) : (s.setGroup g f).dram = s.dram := rfl
@[simp] theorem State.setGroup_flash (g : Nat) (f : Group → Group) : (s.setGroup g f).flash = s.flash := rfl
@[simp] theorem State.setGroup_sram (g : Nat) (f : Group → Group) : (s.setGroup g f).sram = s.sram := rfl
@[simp] theorem State.setGroup_evq (g : Nat) (f : Group → Group) : (s.setGroup g f).evq = s.evq := rfl
@[simp] theorem State.setGroup_mbox (g : Nat) (f : Group → Group) : (s.setGroup g f).mbox = s.mbox := rfl
@[simp] theorem State.setGroup_load (g : Nat) (f : Group → Group) : (s.setGroup g f).load = s.load := rfl
@[simp] theorem State.setGroup_dev (g : Nat) (f : Group → Group) : (s.setGroup g f).dev = s.dev := rfl
@[simp] theorem State.setGroup_blocks (g : Nat) (f : Group → Group) : (s.setGroup g f).blocks = s.blocks := rfl
@[simp] theorem State.setGroup_nextUid (g : Nat) (f : Group → Group) : (s.setGroup g f).nextUid = s.nextUid := rfl
@[simp] theorem State.setGroup_stations (g : Nat) (f : Group → Group) : (s.setGroup g f).stations = s.stations := rfl
@[simp] theorem State.setGroup_tiles (g : Nat) (f : Group → Group) : (s.setGroup g f).tiles = s.tiles := rfl
@[simp] theorem State.setGroup_gridHoles (g : Nat) (f : Group → Group) : (s.setGroup g f).gridHoles = s.gridHoles := rfl
@[simp] theorem State.setGroup_retiring (g : Nat) (f : Group → Group) : (s.setGroup g f).retiring = s.retiring := rfl
@[simp] theorem State.setGroup_fmap (g : Nat) (f : Group → Group) : (s.setGroup g f).fmap = s.fmap := rfl
@[simp] theorem State.setGroup_jobs (g : Nat) (f : Group → Group) : (s.setGroup g f).jobs = s.jobs := rfl
@[simp] theorem State.setGroup_bales (g : Nat) (f : Group → Group) : (s.setGroup g f).bales = s.bales := rfl
@[simp] theorem State.setGroup_nextBale (g : Nat) (f : Group → Group) : (s.setGroup g f).nextBale = s.nextBale := rfl
@[simp] theorem State.setGroup_miles (g : Nat) (f : Group → Group) : (s.setGroup g f).miles = s.miles := rfl
@[simp] theorem State.setGroup_odo (g : Nat) (f : Group → Group) : (s.setGroup g f).odo = s.odo := rfl
@[simp] theorem State.setGroup_refs (g : Nat) (f : Group → Group) : (s.setGroup g f).refs = s.refs := rfl
@[simp] theorem State.setGroup_fio (g : Nat) (f : Group → Group) : (s.setGroup g f).fio = s.fio := rfl
@[simp] theorem State.setGroup_fieldSafe (g : Nat) (f : Group → Group) : (s.setGroup g f).fieldSafe = s.fieldSafe := rfl
@[simp] theorem State.setGroup_grpTrip (g : Nat) (f : Group → Group) : (s.setGroup g f).grpTrip = s.grpTrip := rfl
@[simp] theorem State.setGroup_cams (g : Nat) (f : Group → Group) : (s.setGroup g f).cams = s.cams := rfl
@[simp] theorem State.setGroup_rings (g : Nat) (f : Group → Group) : (s.setGroup g f).rings = s.rings := rfl
@[simp] theorem State.setGroup_capture (g : Nat) (f : Group → Group) : (s.setGroup g f).capture = s.capture := rfl
@[simp] theorem State.setGroup_isp (g : Nat) (f : Group → Group) : (s.setGroup g f).isp = s.isp := rfl
@[simp] theorem State.setGroup_treePass (g : Nat) (f : Group → Group) : (s.setGroup g f).treePass = s.treePass := rfl
@[simp] theorem State.setGroup_decs (g : Nat) (f : Group → Group) : (s.setGroup g f).decs = s.decs := rfl
@[simp] theorem State.setGroup_lanes (g : Nat) (f : Group → Group) : (s.setGroup g f).lanes = s.lanes := rfl
@[simp] theorem State.setGroup_lref (g : Nat) (f : Group → Group) : (s.setGroup g f).lref = s.lref := rfl
@[simp] theorem State.setGroup_links (g : Nat) (f : Group → Group) : (s.setGroup g f).links = s.links := rfl
@[simp] theorem State.setGroup_eps (g : Nat) (f : Group → Group) : (s.setGroup g f).eps = s.eps := rfl
@[simp] theorem State.setGroup_timeTag (g : Nat) (f : Group → Group) : (s.setGroup g f).timeTag = s.timeTag := rfl
@[simp] theorem State.setGroup_ptp (g : Nat) (f : Group → Group) : (s.setGroup g f).ptp = s.ptp := rfl
@[simp] theorem State.setGroup_pwr (g : Nat) (f : Group → Group) : (s.setGroup g f).pwr = s.pwr := rfl
@[simp] theorem State.setGroup_refclk (g : Nat) (f : Group → Group) : (s.setGroup g f).refclk = s.refclk := rfl
@[simp] theorem State.setGroup_phy (g : Nat) (f : Group → Group) : (s.setGroup g f).phy = s.phy := rfl
@[simp] theorem State.setGroup_lenders (g : Nat) (f : Group → Group) : (s.setGroup g f).lenders = s.lenders := rfl
@[simp] theorem State.setGroup_boot (g : Nat) (f : Group → Group) : (s.setGroup g f).boot = s.boot := rfl
@[simp] theorem State.setGroup_sport (g : Nat) (f : Group → Group) : (s.setGroup g f).sport = s.sport := rfl
@[simp] theorem State.setGroup_log (g : Nat) (f : Group → Group) : (s.setGroup g f).log = s.log := rfl
@[simp] theorem State.setGroup_cores (g : Nat) (f : Group → Group) : (s.setGroup g f).cores = s.cores := rfl
@[simp] theorem State.setGroup_uart (g : Nat) (f : Group → Group) : (s.setGroup g f).uart = s.uart := rfl
@[simp] theorem State.setGroup_i2c (g : Nat) (f : Group → Group) : (s.setGroup g f).i2c = s.i2c := rfl
@[simp] theorem State.setGroup_gpio (g : Nat) (f : Group → Group) : (s.setGroup g f).gpio = s.gpio := rfl
@[simp] theorem State.setGroup_out (g : Nat) (f : Group → Group) : (s.setGroup g f).out = s.out := rfl
@[simp] theorem State.setGroup_tap (g : Nat) (f : Group → Group) : (s.setGroup g f).tap = s.tap := rfl
@[simp] theorem State.setGroup_scan (g : Nat) (f : Group → Group) : (s.setGroup g f).scan = s.scan := rfl
@[simp] theorem State.setGroup_free (g : Nat) (f : Group → Group) : (s.setGroup g f).free = s.free := rfl

/-! ## `State.setBale` -/

@[simp] theorem State.setBale_pending (i : Nat) (f : Bale → Bale) : (s.setBale i f).pending = s.pending := rfl
@[simp] theorem State.setBale_regs (i : Nat) (f : Bale → Bale) : (s.setBale i f).regs = s.regs := rfl
@[simp] theorem State.setBale_shadow (i : Nat) (f : Bale → Bale) : (s.setBale i f).shadow = s.shadow := rfl
@[simp] theorem State.setBale_snaps (i : Nat) (f : Bale → Bale) : (s.setBale i f).snaps = s.snaps := rfl
@[simp] theorem State.setBale_rdata (i : Nat) (f : Bale → Bale) : (s.setBale i f).rdata = s.rdata := rfl
@[simp] theorem State.setBale_tb (i : Nat) (f : Bale → Bale) : (s.setBale i f).tb = s.tb := rfl
@[simp] theorem State.setBale_otp (i : Nat) (f : Bale → Bale) : (s.setBale i f).otp = s.otp := rfl
@[simp] theorem State.setBale_dram (i : Nat) (f : Bale → Bale) : (s.setBale i f).dram = s.dram := rfl
@[simp] theorem State.setBale_flash (i : Nat) (f : Bale → Bale) : (s.setBale i f).flash = s.flash := rfl
@[simp] theorem State.setBale_sram (i : Nat) (f : Bale → Bale) : (s.setBale i f).sram = s.sram := rfl
@[simp] theorem State.setBale_evq (i : Nat) (f : Bale → Bale) : (s.setBale i f).evq = s.evq := rfl
@[simp] theorem State.setBale_mbox (i : Nat) (f : Bale → Bale) : (s.setBale i f).mbox = s.mbox := rfl
@[simp] theorem State.setBale_load (i : Nat) (f : Bale → Bale) : (s.setBale i f).load = s.load := rfl
@[simp] theorem State.setBale_dev (i : Nat) (f : Bale → Bale) : (s.setBale i f).dev = s.dev := rfl
@[simp] theorem State.setBale_blocks (i : Nat) (f : Bale → Bale) : (s.setBale i f).blocks = s.blocks := rfl
@[simp] theorem State.setBale_nextUid (i : Nat) (f : Bale → Bale) : (s.setBale i f).nextUid = s.nextUid := rfl
@[simp] theorem State.setBale_stations (i : Nat) (f : Bale → Bale) : (s.setBale i f).stations = s.stations := rfl
@[simp] theorem State.setBale_tiles (i : Nat) (f : Bale → Bale) : (s.setBale i f).tiles = s.tiles := rfl
@[simp] theorem State.setBale_gridHoles (i : Nat) (f : Bale → Bale) : (s.setBale i f).gridHoles = s.gridHoles := rfl
@[simp] theorem State.setBale_retiring (i : Nat) (f : Bale → Bale) : (s.setBale i f).retiring = s.retiring := rfl
@[simp] theorem State.setBale_fmap (i : Nat) (f : Bale → Bale) : (s.setBale i f).fmap = s.fmap := rfl
@[simp] theorem State.setBale_jobs (i : Nat) (f : Bale → Bale) : (s.setBale i f).jobs = s.jobs := rfl
@[simp] theorem State.setBale_nextBale (i : Nat) (f : Bale → Bale) : (s.setBale i f).nextBale = s.nextBale := rfl
@[simp] theorem State.setBale_miles (i : Nat) (f : Bale → Bale) : (s.setBale i f).miles = s.miles := rfl
@[simp] theorem State.setBale_odo (i : Nat) (f : Bale → Bale) : (s.setBale i f).odo = s.odo := rfl
@[simp] theorem State.setBale_refs (i : Nat) (f : Bale → Bale) : (s.setBale i f).refs = s.refs := rfl
@[simp] theorem State.setBale_fio (i : Nat) (f : Bale → Bale) : (s.setBale i f).fio = s.fio := rfl
@[simp] theorem State.setBale_fieldSafe (i : Nat) (f : Bale → Bale) : (s.setBale i f).fieldSafe = s.fieldSafe := rfl
@[simp] theorem State.setBale_grpTrip (i : Nat) (f : Bale → Bale) : (s.setBale i f).grpTrip = s.grpTrip := rfl
@[simp] theorem State.setBale_cams (i : Nat) (f : Bale → Bale) : (s.setBale i f).cams = s.cams := rfl
@[simp] theorem State.setBale_rings (i : Nat) (f : Bale → Bale) : (s.setBale i f).rings = s.rings := rfl
@[simp] theorem State.setBale_capture (i : Nat) (f : Bale → Bale) : (s.setBale i f).capture = s.capture := rfl
@[simp] theorem State.setBale_isp (i : Nat) (f : Bale → Bale) : (s.setBale i f).isp = s.isp := rfl
@[simp] theorem State.setBale_treePass (i : Nat) (f : Bale → Bale) : (s.setBale i f).treePass = s.treePass := rfl
@[simp] theorem State.setBale_decs (i : Nat) (f : Bale → Bale) : (s.setBale i f).decs = s.decs := rfl
@[simp] theorem State.setBale_lanes (i : Nat) (f : Bale → Bale) : (s.setBale i f).lanes = s.lanes := rfl
@[simp] theorem State.setBale_lref (i : Nat) (f : Bale → Bale) : (s.setBale i f).lref = s.lref := rfl
@[simp] theorem State.setBale_links (i : Nat) (f : Bale → Bale) : (s.setBale i f).links = s.links := rfl
@[simp] theorem State.setBale_eps (i : Nat) (f : Bale → Bale) : (s.setBale i f).eps = s.eps := rfl
@[simp] theorem State.setBale_timeTag (i : Nat) (f : Bale → Bale) : (s.setBale i f).timeTag = s.timeTag := rfl
@[simp] theorem State.setBale_groups (i : Nat) (f : Bale → Bale) : (s.setBale i f).groups = s.groups := rfl
@[simp] theorem State.setBale_ptp (i : Nat) (f : Bale → Bale) : (s.setBale i f).ptp = s.ptp := rfl
@[simp] theorem State.setBale_pwr (i : Nat) (f : Bale → Bale) : (s.setBale i f).pwr = s.pwr := rfl
@[simp] theorem State.setBale_refclk (i : Nat) (f : Bale → Bale) : (s.setBale i f).refclk = s.refclk := rfl
@[simp] theorem State.setBale_phy (i : Nat) (f : Bale → Bale) : (s.setBale i f).phy = s.phy := rfl
@[simp] theorem State.setBale_lenders (i : Nat) (f : Bale → Bale) : (s.setBale i f).lenders = s.lenders := rfl
@[simp] theorem State.setBale_boot (i : Nat) (f : Bale → Bale) : (s.setBale i f).boot = s.boot := rfl
@[simp] theorem State.setBale_sport (i : Nat) (f : Bale → Bale) : (s.setBale i f).sport = s.sport := rfl
@[simp] theorem State.setBale_log (i : Nat) (f : Bale → Bale) : (s.setBale i f).log = s.log := rfl
@[simp] theorem State.setBale_cores (i : Nat) (f : Bale → Bale) : (s.setBale i f).cores = s.cores := rfl
@[simp] theorem State.setBale_uart (i : Nat) (f : Bale → Bale) : (s.setBale i f).uart = s.uart := rfl
@[simp] theorem State.setBale_i2c (i : Nat) (f : Bale → Bale) : (s.setBale i f).i2c = s.i2c := rfl
@[simp] theorem State.setBale_gpio (i : Nat) (f : Bale → Bale) : (s.setBale i f).gpio = s.gpio := rfl
@[simp] theorem State.setBale_out (i : Nat) (f : Bale → Bale) : (s.setBale i f).out = s.out := rfl
@[simp] theorem State.setBale_tap (i : Nat) (f : Bale → Bale) : (s.setBale i f).tap = s.tap := rfl
@[simp] theorem State.setBale_scan (i : Nat) (f : Bale → Bale) : (s.setBale i f).scan = s.scan := rfl
@[simp] theorem State.setBale_free (i : Nat) (f : Bale → Bale) : (s.setBale i f).free = s.free := rfl

/-! ## `State.setMile` -/

@[simp] theorem State.setMile_pending (e : Nat) (f : Mile → Mile) : (s.setMile e f).pending = s.pending := rfl
@[simp] theorem State.setMile_regs (e : Nat) (f : Mile → Mile) : (s.setMile e f).regs = s.regs := rfl
@[simp] theorem State.setMile_shadow (e : Nat) (f : Mile → Mile) : (s.setMile e f).shadow = s.shadow := rfl
@[simp] theorem State.setMile_snaps (e : Nat) (f : Mile → Mile) : (s.setMile e f).snaps = s.snaps := rfl
@[simp] theorem State.setMile_rdata (e : Nat) (f : Mile → Mile) : (s.setMile e f).rdata = s.rdata := rfl
@[simp] theorem State.setMile_tb (e : Nat) (f : Mile → Mile) : (s.setMile e f).tb = s.tb := rfl
@[simp] theorem State.setMile_otp (e : Nat) (f : Mile → Mile) : (s.setMile e f).otp = s.otp := rfl
@[simp] theorem State.setMile_dram (e : Nat) (f : Mile → Mile) : (s.setMile e f).dram = s.dram := rfl
@[simp] theorem State.setMile_flash (e : Nat) (f : Mile → Mile) : (s.setMile e f).flash = s.flash := rfl
@[simp] theorem State.setMile_sram (e : Nat) (f : Mile → Mile) : (s.setMile e f).sram = s.sram := rfl
@[simp] theorem State.setMile_evq (e : Nat) (f : Mile → Mile) : (s.setMile e f).evq = s.evq := rfl
@[simp] theorem State.setMile_mbox (e : Nat) (f : Mile → Mile) : (s.setMile e f).mbox = s.mbox := rfl
@[simp] theorem State.setMile_load (e : Nat) (f : Mile → Mile) : (s.setMile e f).load = s.load := rfl
@[simp] theorem State.setMile_dev (e : Nat) (f : Mile → Mile) : (s.setMile e f).dev = s.dev := rfl
@[simp] theorem State.setMile_blocks (e : Nat) (f : Mile → Mile) : (s.setMile e f).blocks = s.blocks := rfl
@[simp] theorem State.setMile_nextUid (e : Nat) (f : Mile → Mile) : (s.setMile e f).nextUid = s.nextUid := rfl
@[simp] theorem State.setMile_stations (e : Nat) (f : Mile → Mile) : (s.setMile e f).stations = s.stations := rfl
@[simp] theorem State.setMile_tiles (e : Nat) (f : Mile → Mile) : (s.setMile e f).tiles = s.tiles := rfl
@[simp] theorem State.setMile_gridHoles (e : Nat) (f : Mile → Mile) : (s.setMile e f).gridHoles = s.gridHoles := rfl
@[simp] theorem State.setMile_retiring (e : Nat) (f : Mile → Mile) : (s.setMile e f).retiring = s.retiring := rfl
@[simp] theorem State.setMile_fmap (e : Nat) (f : Mile → Mile) : (s.setMile e f).fmap = s.fmap := rfl
@[simp] theorem State.setMile_jobs (e : Nat) (f : Mile → Mile) : (s.setMile e f).jobs = s.jobs := rfl
@[simp] theorem State.setMile_bales (e : Nat) (f : Mile → Mile) : (s.setMile e f).bales = s.bales := rfl
@[simp] theorem State.setMile_nextBale (e : Nat) (f : Mile → Mile) : (s.setMile e f).nextBale = s.nextBale := rfl
@[simp] theorem State.setMile_odo (e : Nat) (f : Mile → Mile) : (s.setMile e f).odo = s.odo := rfl
@[simp] theorem State.setMile_refs (e : Nat) (f : Mile → Mile) : (s.setMile e f).refs = s.refs := rfl
@[simp] theorem State.setMile_fio (e : Nat) (f : Mile → Mile) : (s.setMile e f).fio = s.fio := rfl
@[simp] theorem State.setMile_fieldSafe (e : Nat) (f : Mile → Mile) : (s.setMile e f).fieldSafe = s.fieldSafe := rfl
@[simp] theorem State.setMile_grpTrip (e : Nat) (f : Mile → Mile) : (s.setMile e f).grpTrip = s.grpTrip := rfl
@[simp] theorem State.setMile_cams (e : Nat) (f : Mile → Mile) : (s.setMile e f).cams = s.cams := rfl
@[simp] theorem State.setMile_rings (e : Nat) (f : Mile → Mile) : (s.setMile e f).rings = s.rings := rfl
@[simp] theorem State.setMile_capture (e : Nat) (f : Mile → Mile) : (s.setMile e f).capture = s.capture := rfl
@[simp] theorem State.setMile_isp (e : Nat) (f : Mile → Mile) : (s.setMile e f).isp = s.isp := rfl
@[simp] theorem State.setMile_treePass (e : Nat) (f : Mile → Mile) : (s.setMile e f).treePass = s.treePass := rfl
@[simp] theorem State.setMile_decs (e : Nat) (f : Mile → Mile) : (s.setMile e f).decs = s.decs := rfl
@[simp] theorem State.setMile_lanes (e : Nat) (f : Mile → Mile) : (s.setMile e f).lanes = s.lanes := rfl
@[simp] theorem State.setMile_lref (e : Nat) (f : Mile → Mile) : (s.setMile e f).lref = s.lref := rfl
@[simp] theorem State.setMile_links (e : Nat) (f : Mile → Mile) : (s.setMile e f).links = s.links := rfl
@[simp] theorem State.setMile_eps (e : Nat) (f : Mile → Mile) : (s.setMile e f).eps = s.eps := rfl
@[simp] theorem State.setMile_timeTag (e : Nat) (f : Mile → Mile) : (s.setMile e f).timeTag = s.timeTag := rfl
@[simp] theorem State.setMile_groups (e : Nat) (f : Mile → Mile) : (s.setMile e f).groups = s.groups := rfl
@[simp] theorem State.setMile_ptp (e : Nat) (f : Mile → Mile) : (s.setMile e f).ptp = s.ptp := rfl
@[simp] theorem State.setMile_pwr (e : Nat) (f : Mile → Mile) : (s.setMile e f).pwr = s.pwr := rfl
@[simp] theorem State.setMile_refclk (e : Nat) (f : Mile → Mile) : (s.setMile e f).refclk = s.refclk := rfl
@[simp] theorem State.setMile_phy (e : Nat) (f : Mile → Mile) : (s.setMile e f).phy = s.phy := rfl
@[simp] theorem State.setMile_lenders (e : Nat) (f : Mile → Mile) : (s.setMile e f).lenders = s.lenders := rfl
@[simp] theorem State.setMile_boot (e : Nat) (f : Mile → Mile) : (s.setMile e f).boot = s.boot := rfl
@[simp] theorem State.setMile_sport (e : Nat) (f : Mile → Mile) : (s.setMile e f).sport = s.sport := rfl
@[simp] theorem State.setMile_log (e : Nat) (f : Mile → Mile) : (s.setMile e f).log = s.log := rfl
@[simp] theorem State.setMile_cores (e : Nat) (f : Mile → Mile) : (s.setMile e f).cores = s.cores := rfl
@[simp] theorem State.setMile_uart (e : Nat) (f : Mile → Mile) : (s.setMile e f).uart = s.uart := rfl
@[simp] theorem State.setMile_i2c (e : Nat) (f : Mile → Mile) : (s.setMile e f).i2c = s.i2c := rfl
@[simp] theorem State.setMile_gpio (e : Nat) (f : Mile → Mile) : (s.setMile e f).gpio = s.gpio := rfl
@[simp] theorem State.setMile_out (e : Nat) (f : Mile → Mile) : (s.setMile e f).out = s.out := rfl
@[simp] theorem State.setMile_tap (e : Nat) (f : Mile → Mile) : (s.setMile e f).tap = s.tap := rfl
@[simp] theorem State.setMile_scan (e : Nat) (f : Mile → Mile) : (s.setMile e f).scan = s.scan := rfl
@[simp] theorem State.setMile_free (e : Nat) (f : Mile → Mile) : (s.setMile e f).free = s.free := rfl

/-! ## `State.setEp` -/

@[simp] theorem State.setEp_pending (l a : Nat) (f : Ep → Ep) : (s.setEp l a f).pending = s.pending := rfl
@[simp] theorem State.setEp_regs (l a : Nat) (f : Ep → Ep) : (s.setEp l a f).regs = s.regs := rfl
@[simp] theorem State.setEp_shadow (l a : Nat) (f : Ep → Ep) : (s.setEp l a f).shadow = s.shadow := rfl
@[simp] theorem State.setEp_snaps (l a : Nat) (f : Ep → Ep) : (s.setEp l a f).snaps = s.snaps := rfl
@[simp] theorem State.setEp_rdata (l a : Nat) (f : Ep → Ep) : (s.setEp l a f).rdata = s.rdata := rfl
@[simp] theorem State.setEp_tb (l a : Nat) (f : Ep → Ep) : (s.setEp l a f).tb = s.tb := rfl
@[simp] theorem State.setEp_otp (l a : Nat) (f : Ep → Ep) : (s.setEp l a f).otp = s.otp := rfl
@[simp] theorem State.setEp_dram (l a : Nat) (f : Ep → Ep) : (s.setEp l a f).dram = s.dram := rfl
@[simp] theorem State.setEp_flash (l a : Nat) (f : Ep → Ep) : (s.setEp l a f).flash = s.flash := rfl
@[simp] theorem State.setEp_sram (l a : Nat) (f : Ep → Ep) : (s.setEp l a f).sram = s.sram := rfl
@[simp] theorem State.setEp_evq (l a : Nat) (f : Ep → Ep) : (s.setEp l a f).evq = s.evq := rfl
@[simp] theorem State.setEp_mbox (l a : Nat) (f : Ep → Ep) : (s.setEp l a f).mbox = s.mbox := rfl
@[simp] theorem State.setEp_load (l a : Nat) (f : Ep → Ep) : (s.setEp l a f).load = s.load := rfl
@[simp] theorem State.setEp_dev (l a : Nat) (f : Ep → Ep) : (s.setEp l a f).dev = s.dev := rfl
@[simp] theorem State.setEp_blocks (l a : Nat) (f : Ep → Ep) : (s.setEp l a f).blocks = s.blocks := rfl
@[simp] theorem State.setEp_nextUid (l a : Nat) (f : Ep → Ep) : (s.setEp l a f).nextUid = s.nextUid := rfl
@[simp] theorem State.setEp_stations (l a : Nat) (f : Ep → Ep) : (s.setEp l a f).stations = s.stations := rfl
@[simp] theorem State.setEp_tiles (l a : Nat) (f : Ep → Ep) : (s.setEp l a f).tiles = s.tiles := rfl
@[simp] theorem State.setEp_gridHoles (l a : Nat) (f : Ep → Ep) : (s.setEp l a f).gridHoles = s.gridHoles := rfl
@[simp] theorem State.setEp_retiring (l a : Nat) (f : Ep → Ep) : (s.setEp l a f).retiring = s.retiring := rfl
@[simp] theorem State.setEp_fmap (l a : Nat) (f : Ep → Ep) : (s.setEp l a f).fmap = s.fmap := rfl
@[simp] theorem State.setEp_jobs (l a : Nat) (f : Ep → Ep) : (s.setEp l a f).jobs = s.jobs := rfl
@[simp] theorem State.setEp_bales (l a : Nat) (f : Ep → Ep) : (s.setEp l a f).bales = s.bales := rfl
@[simp] theorem State.setEp_nextBale (l a : Nat) (f : Ep → Ep) : (s.setEp l a f).nextBale = s.nextBale := rfl
@[simp] theorem State.setEp_miles (l a : Nat) (f : Ep → Ep) : (s.setEp l a f).miles = s.miles := rfl
@[simp] theorem State.setEp_odo (l a : Nat) (f : Ep → Ep) : (s.setEp l a f).odo = s.odo := rfl
@[simp] theorem State.setEp_refs (l a : Nat) (f : Ep → Ep) : (s.setEp l a f).refs = s.refs := rfl
@[simp] theorem State.setEp_fio (l a : Nat) (f : Ep → Ep) : (s.setEp l a f).fio = s.fio := rfl
@[simp] theorem State.setEp_fieldSafe (l a : Nat) (f : Ep → Ep) : (s.setEp l a f).fieldSafe = s.fieldSafe := rfl
@[simp] theorem State.setEp_grpTrip (l a : Nat) (f : Ep → Ep) : (s.setEp l a f).grpTrip = s.grpTrip := rfl
@[simp] theorem State.setEp_cams (l a : Nat) (f : Ep → Ep) : (s.setEp l a f).cams = s.cams := rfl
@[simp] theorem State.setEp_rings (l a : Nat) (f : Ep → Ep) : (s.setEp l a f).rings = s.rings := rfl
@[simp] theorem State.setEp_capture (l a : Nat) (f : Ep → Ep) : (s.setEp l a f).capture = s.capture := rfl
@[simp] theorem State.setEp_isp (l a : Nat) (f : Ep → Ep) : (s.setEp l a f).isp = s.isp := rfl
@[simp] theorem State.setEp_treePass (l a : Nat) (f : Ep → Ep) : (s.setEp l a f).treePass = s.treePass := rfl
@[simp] theorem State.setEp_decs (l a : Nat) (f : Ep → Ep) : (s.setEp l a f).decs = s.decs := rfl
@[simp] theorem State.setEp_lanes (l a : Nat) (f : Ep → Ep) : (s.setEp l a f).lanes = s.lanes := rfl
@[simp] theorem State.setEp_lref (l a : Nat) (f : Ep → Ep) : (s.setEp l a f).lref = s.lref := rfl
@[simp] theorem State.setEp_links (l a : Nat) (f : Ep → Ep) : (s.setEp l a f).links = s.links := rfl
@[simp] theorem State.setEp_timeTag (l a : Nat) (f : Ep → Ep) : (s.setEp l a f).timeTag = s.timeTag := rfl
@[simp] theorem State.setEp_groups (l a : Nat) (f : Ep → Ep) : (s.setEp l a f).groups = s.groups := rfl
@[simp] theorem State.setEp_ptp (l a : Nat) (f : Ep → Ep) : (s.setEp l a f).ptp = s.ptp := rfl
@[simp] theorem State.setEp_pwr (l a : Nat) (f : Ep → Ep) : (s.setEp l a f).pwr = s.pwr := rfl
@[simp] theorem State.setEp_refclk (l a : Nat) (f : Ep → Ep) : (s.setEp l a f).refclk = s.refclk := rfl
@[simp] theorem State.setEp_phy (l a : Nat) (f : Ep → Ep) : (s.setEp l a f).phy = s.phy := rfl
@[simp] theorem State.setEp_lenders (l a : Nat) (f : Ep → Ep) : (s.setEp l a f).lenders = s.lenders := rfl
@[simp] theorem State.setEp_boot (l a : Nat) (f : Ep → Ep) : (s.setEp l a f).boot = s.boot := rfl
@[simp] theorem State.setEp_sport (l a : Nat) (f : Ep → Ep) : (s.setEp l a f).sport = s.sport := rfl
@[simp] theorem State.setEp_log (l a : Nat) (f : Ep → Ep) : (s.setEp l a f).log = s.log := rfl
@[simp] theorem State.setEp_cores (l a : Nat) (f : Ep → Ep) : (s.setEp l a f).cores = s.cores := rfl
@[simp] theorem State.setEp_uart (l a : Nat) (f : Ep → Ep) : (s.setEp l a f).uart = s.uart := rfl
@[simp] theorem State.setEp_i2c (l a : Nat) (f : Ep → Ep) : (s.setEp l a f).i2c = s.i2c := rfl
@[simp] theorem State.setEp_gpio (l a : Nat) (f : Ep → Ep) : (s.setEp l a f).gpio = s.gpio := rfl
@[simp] theorem State.setEp_out (l a : Nat) (f : Ep → Ep) : (s.setEp l a f).out = s.out := rfl
@[simp] theorem State.setEp_tap (l a : Nat) (f : Ep → Ep) : (s.setEp l a f).tap = s.tap := rfl
@[simp] theorem State.setEp_scan (l a : Nat) (f : Ep → Ep) : (s.setEp l a f).scan = s.scan := rfl
@[simp] theorem State.setEp_free (l a : Nat) (f : Ep → Ep) : (s.setEp l a f).free = s.free := rfl

/-! ## `State.setSnap` -/

@[simp] theorem State.setSnap_pending (i : Nat) (f : Snap → Snap) : (s.setSnap i f).pending = s.pending := rfl
@[simp] theorem State.setSnap_regs (i : Nat) (f : Snap → Snap) : (s.setSnap i f).regs = s.regs := rfl
@[simp] theorem State.setSnap_shadow (i : Nat) (f : Snap → Snap) : (s.setSnap i f).shadow = s.shadow := rfl
@[simp] theorem State.setSnap_rdata (i : Nat) (f : Snap → Snap) : (s.setSnap i f).rdata = s.rdata := rfl
@[simp] theorem State.setSnap_tb (i : Nat) (f : Snap → Snap) : (s.setSnap i f).tb = s.tb := rfl
@[simp] theorem State.setSnap_otp (i : Nat) (f : Snap → Snap) : (s.setSnap i f).otp = s.otp := rfl
@[simp] theorem State.setSnap_dram (i : Nat) (f : Snap → Snap) : (s.setSnap i f).dram = s.dram := rfl
@[simp] theorem State.setSnap_flash (i : Nat) (f : Snap → Snap) : (s.setSnap i f).flash = s.flash := rfl
@[simp] theorem State.setSnap_sram (i : Nat) (f : Snap → Snap) : (s.setSnap i f).sram = s.sram := rfl
@[simp] theorem State.setSnap_evq (i : Nat) (f : Snap → Snap) : (s.setSnap i f).evq = s.evq := rfl
@[simp] theorem State.setSnap_mbox (i : Nat) (f : Snap → Snap) : (s.setSnap i f).mbox = s.mbox := rfl
@[simp] theorem State.setSnap_load (i : Nat) (f : Snap → Snap) : (s.setSnap i f).load = s.load := rfl
@[simp] theorem State.setSnap_dev (i : Nat) (f : Snap → Snap) : (s.setSnap i f).dev = s.dev := rfl
@[simp] theorem State.setSnap_blocks (i : Nat) (f : Snap → Snap) : (s.setSnap i f).blocks = s.blocks := rfl
@[simp] theorem State.setSnap_nextUid (i : Nat) (f : Snap → Snap) : (s.setSnap i f).nextUid = s.nextUid := rfl
@[simp] theorem State.setSnap_stations (i : Nat) (f : Snap → Snap) : (s.setSnap i f).stations = s.stations := rfl
@[simp] theorem State.setSnap_tiles (i : Nat) (f : Snap → Snap) : (s.setSnap i f).tiles = s.tiles := rfl
@[simp] theorem State.setSnap_gridHoles (i : Nat) (f : Snap → Snap) : (s.setSnap i f).gridHoles = s.gridHoles := rfl
@[simp] theorem State.setSnap_retiring (i : Nat) (f : Snap → Snap) : (s.setSnap i f).retiring = s.retiring := rfl
@[simp] theorem State.setSnap_fmap (i : Nat) (f : Snap → Snap) : (s.setSnap i f).fmap = s.fmap := rfl
@[simp] theorem State.setSnap_jobs (i : Nat) (f : Snap → Snap) : (s.setSnap i f).jobs = s.jobs := rfl
@[simp] theorem State.setSnap_bales (i : Nat) (f : Snap → Snap) : (s.setSnap i f).bales = s.bales := rfl
@[simp] theorem State.setSnap_nextBale (i : Nat) (f : Snap → Snap) : (s.setSnap i f).nextBale = s.nextBale := rfl
@[simp] theorem State.setSnap_miles (i : Nat) (f : Snap → Snap) : (s.setSnap i f).miles = s.miles := rfl
@[simp] theorem State.setSnap_odo (i : Nat) (f : Snap → Snap) : (s.setSnap i f).odo = s.odo := rfl
@[simp] theorem State.setSnap_refs (i : Nat) (f : Snap → Snap) : (s.setSnap i f).refs = s.refs := rfl
@[simp] theorem State.setSnap_fio (i : Nat) (f : Snap → Snap) : (s.setSnap i f).fio = s.fio := rfl
@[simp] theorem State.setSnap_fieldSafe (i : Nat) (f : Snap → Snap) : (s.setSnap i f).fieldSafe = s.fieldSafe := rfl
@[simp] theorem State.setSnap_grpTrip (i : Nat) (f : Snap → Snap) : (s.setSnap i f).grpTrip = s.grpTrip := rfl
@[simp] theorem State.setSnap_cams (i : Nat) (f : Snap → Snap) : (s.setSnap i f).cams = s.cams := rfl
@[simp] theorem State.setSnap_rings (i : Nat) (f : Snap → Snap) : (s.setSnap i f).rings = s.rings := rfl
@[simp] theorem State.setSnap_capture (i : Nat) (f : Snap → Snap) : (s.setSnap i f).capture = s.capture := rfl
@[simp] theorem State.setSnap_isp (i : Nat) (f : Snap → Snap) : (s.setSnap i f).isp = s.isp := rfl
@[simp] theorem State.setSnap_treePass (i : Nat) (f : Snap → Snap) : (s.setSnap i f).treePass = s.treePass := rfl
@[simp] theorem State.setSnap_decs (i : Nat) (f : Snap → Snap) : (s.setSnap i f).decs = s.decs := rfl
@[simp] theorem State.setSnap_lanes (i : Nat) (f : Snap → Snap) : (s.setSnap i f).lanes = s.lanes := rfl
@[simp] theorem State.setSnap_lref (i : Nat) (f : Snap → Snap) : (s.setSnap i f).lref = s.lref := rfl
@[simp] theorem State.setSnap_links (i : Nat) (f : Snap → Snap) : (s.setSnap i f).links = s.links := rfl
@[simp] theorem State.setSnap_eps (i : Nat) (f : Snap → Snap) : (s.setSnap i f).eps = s.eps := rfl
@[simp] theorem State.setSnap_timeTag (i : Nat) (f : Snap → Snap) : (s.setSnap i f).timeTag = s.timeTag := rfl
@[simp] theorem State.setSnap_groups (i : Nat) (f : Snap → Snap) : (s.setSnap i f).groups = s.groups := rfl
@[simp] theorem State.setSnap_ptp (i : Nat) (f : Snap → Snap) : (s.setSnap i f).ptp = s.ptp := rfl
@[simp] theorem State.setSnap_pwr (i : Nat) (f : Snap → Snap) : (s.setSnap i f).pwr = s.pwr := rfl
@[simp] theorem State.setSnap_refclk (i : Nat) (f : Snap → Snap) : (s.setSnap i f).refclk = s.refclk := rfl
@[simp] theorem State.setSnap_phy (i : Nat) (f : Snap → Snap) : (s.setSnap i f).phy = s.phy := rfl
@[simp] theorem State.setSnap_lenders (i : Nat) (f : Snap → Snap) : (s.setSnap i f).lenders = s.lenders := rfl
@[simp] theorem State.setSnap_boot (i : Nat) (f : Snap → Snap) : (s.setSnap i f).boot = s.boot := rfl
@[simp] theorem State.setSnap_sport (i : Nat) (f : Snap → Snap) : (s.setSnap i f).sport = s.sport := rfl
@[simp] theorem State.setSnap_log (i : Nat) (f : Snap → Snap) : (s.setSnap i f).log = s.log := rfl
@[simp] theorem State.setSnap_cores (i : Nat) (f : Snap → Snap) : (s.setSnap i f).cores = s.cores := rfl
@[simp] theorem State.setSnap_uart (i : Nat) (f : Snap → Snap) : (s.setSnap i f).uart = s.uart := rfl
@[simp] theorem State.setSnap_i2c (i : Nat) (f : Snap → Snap) : (s.setSnap i f).i2c = s.i2c := rfl
@[simp] theorem State.setSnap_gpio (i : Nat) (f : Snap → Snap) : (s.setSnap i f).gpio = s.gpio := rfl
@[simp] theorem State.setSnap_out (i : Nat) (f : Snap → Snap) : (s.setSnap i f).out = s.out := rfl
@[simp] theorem State.setSnap_tap (i : Nat) (f : Snap → Snap) : (s.setSnap i f).tap = s.tap := rfl
@[simp] theorem State.setSnap_scan (i : Nat) (f : Snap → Snap) : (s.setSnap i f).scan = s.scan := rfl
@[simp] theorem State.setSnap_free (i : Nat) (f : Snap → Snap) : (s.setSnap i f).free = s.free := rfl

/-! ## `State.begin_` -/

@[simp] theorem State.begin__pending : (s.begin_).pending = s.pending := rfl
@[simp] theorem State.begin__regs : (s.begin_).regs = s.regs := rfl
@[simp] theorem State.begin__shadow : (s.begin_).shadow = s.shadow := rfl
@[simp] theorem State.begin__snaps : (s.begin_).snaps = s.snaps := rfl
@[simp] theorem State.begin__rdata : (s.begin_).rdata = s.rdata := rfl
@[simp] theorem State.begin__tb : (s.begin_).tb = s.tb := rfl
@[simp] theorem State.begin__otp : (s.begin_).otp = s.otp := rfl
@[simp] theorem State.begin__dram : (s.begin_).dram = s.dram := rfl
@[simp] theorem State.begin__flash : (s.begin_).flash = s.flash := rfl
@[simp] theorem State.begin__sram : (s.begin_).sram = s.sram := rfl
@[simp] theorem State.begin__evq : (s.begin_).evq = s.evq := rfl
@[simp] theorem State.begin__mbox : (s.begin_).mbox = s.mbox := rfl
@[simp] theorem State.begin__load : (s.begin_).load = s.load := rfl
@[simp] theorem State.begin__dev : (s.begin_).dev = s.dev := rfl
@[simp] theorem State.begin__blocks : (s.begin_).blocks = s.blocks := rfl
@[simp] theorem State.begin__nextUid : (s.begin_).nextUid = s.nextUid := rfl
@[simp] theorem State.begin__stations : (s.begin_).stations = s.stations := rfl
@[simp] theorem State.begin__tiles : (s.begin_).tiles = s.tiles := rfl
@[simp] theorem State.begin__gridHoles : (s.begin_).gridHoles = s.gridHoles := rfl
@[simp] theorem State.begin__retiring : (s.begin_).retiring = s.retiring := rfl
@[simp] theorem State.begin__fmap : (s.begin_).fmap = s.fmap := rfl
@[simp] theorem State.begin__jobs : (s.begin_).jobs = s.jobs := rfl
@[simp] theorem State.begin__bales : (s.begin_).bales = s.bales := rfl
@[simp] theorem State.begin__nextBale : (s.begin_).nextBale = s.nextBale := rfl
@[simp] theorem State.begin__miles : (s.begin_).miles = s.miles := rfl
@[simp] theorem State.begin__odo : (s.begin_).odo = s.odo := rfl
@[simp] theorem State.begin__refs : (s.begin_).refs = s.refs := rfl
@[simp] theorem State.begin__fio : (s.begin_).fio = s.fio := rfl
@[simp] theorem State.begin__fieldSafe : (s.begin_).fieldSafe = s.fieldSafe := rfl
@[simp] theorem State.begin__grpTrip : (s.begin_).grpTrip = s.grpTrip := rfl
@[simp] theorem State.begin__cams : (s.begin_).cams = s.cams := rfl
@[simp] theorem State.begin__rings : (s.begin_).rings = s.rings := rfl
@[simp] theorem State.begin__capture : (s.begin_).capture = s.capture := rfl
@[simp] theorem State.begin__isp : (s.begin_).isp = s.isp := rfl
@[simp] theorem State.begin__treePass : (s.begin_).treePass = s.treePass := rfl
@[simp] theorem State.begin__decs : (s.begin_).decs = s.decs := rfl
@[simp] theorem State.begin__lanes : (s.begin_).lanes = s.lanes := rfl
@[simp] theorem State.begin__lref : (s.begin_).lref = s.lref := rfl
@[simp] theorem State.begin__links : (s.begin_).links = s.links := rfl
@[simp] theorem State.begin__eps : (s.begin_).eps = s.eps := rfl
@[simp] theorem State.begin__timeTag : (s.begin_).timeTag = s.timeTag := rfl
@[simp] theorem State.begin__groups : (s.begin_).groups = s.groups := rfl
@[simp] theorem State.begin__ptp : (s.begin_).ptp = s.ptp := rfl
@[simp] theorem State.begin__pwr : (s.begin_).pwr = s.pwr := rfl
@[simp] theorem State.begin__refclk : (s.begin_).refclk = s.refclk := rfl
@[simp] theorem State.begin__lenders : (s.begin_).lenders = s.lenders := rfl
@[simp] theorem State.begin__boot : (s.begin_).boot = s.boot := rfl
@[simp] theorem State.begin__sport : (s.begin_).sport = s.sport := rfl
@[simp] theorem State.begin__log : (s.begin_).log = s.log := rfl
@[simp] theorem State.begin__cores : (s.begin_).cores = s.cores := rfl
@[simp] theorem State.begin__uart : (s.begin_).uart = s.uart := rfl
@[simp] theorem State.begin__i2c : (s.begin_).i2c = s.i2c := rfl
@[simp] theorem State.begin__gpio : (s.begin_).gpio = s.gpio := rfl
@[simp] theorem State.begin__tap : (s.begin_).tap = s.tap := rfl
@[simp] theorem State.begin__scan : (s.begin_).scan = s.scan := rfl
@[simp] theorem State.begin__free : (s.begin_).free = s.free := rfl

/-! ## `State.fset` -/

@[simp] theorem State.fset_pending (a hi lo x : Nat) : (s.fset a hi lo x).pending = s.pending := rfl
@[simp] theorem State.fset_shadow (a hi lo x : Nat) : (s.fset a hi lo x).shadow = s.shadow := rfl
@[simp] theorem State.fset_snaps (a hi lo x : Nat) : (s.fset a hi lo x).snaps = s.snaps := rfl
@[simp] theorem State.fset_rdata (a hi lo x : Nat) : (s.fset a hi lo x).rdata = s.rdata := rfl
@[simp] theorem State.fset_tb (a hi lo x : Nat) : (s.fset a hi lo x).tb = s.tb := rfl
@[simp] theorem State.fset_otp (a hi lo x : Nat) : (s.fset a hi lo x).otp = s.otp := rfl
@[simp] theorem State.fset_dram (a hi lo x : Nat) : (s.fset a hi lo x).dram = s.dram := rfl
@[simp] theorem State.fset_flash (a hi lo x : Nat) : (s.fset a hi lo x).flash = s.flash := rfl
@[simp] theorem State.fset_sram (a hi lo x : Nat) : (s.fset a hi lo x).sram = s.sram := rfl
@[simp] theorem State.fset_evq (a hi lo x : Nat) : (s.fset a hi lo x).evq = s.evq := rfl
@[simp] theorem State.fset_mbox (a hi lo x : Nat) : (s.fset a hi lo x).mbox = s.mbox := rfl
@[simp] theorem State.fset_load (a hi lo x : Nat) : (s.fset a hi lo x).load = s.load := rfl
@[simp] theorem State.fset_dev (a hi lo x : Nat) : (s.fset a hi lo x).dev = s.dev := rfl
@[simp] theorem State.fset_blocks (a hi lo x : Nat) : (s.fset a hi lo x).blocks = s.blocks := rfl
@[simp] theorem State.fset_nextUid (a hi lo x : Nat) : (s.fset a hi lo x).nextUid = s.nextUid := rfl
@[simp] theorem State.fset_stations (a hi lo x : Nat) : (s.fset a hi lo x).stations = s.stations := rfl
@[simp] theorem State.fset_tiles (a hi lo x : Nat) : (s.fset a hi lo x).tiles = s.tiles := rfl
@[simp] theorem State.fset_gridHoles (a hi lo x : Nat) : (s.fset a hi lo x).gridHoles = s.gridHoles := rfl
@[simp] theorem State.fset_retiring (a hi lo x : Nat) : (s.fset a hi lo x).retiring = s.retiring := rfl
@[simp] theorem State.fset_fmap (a hi lo x : Nat) : (s.fset a hi lo x).fmap = s.fmap := rfl
@[simp] theorem State.fset_jobs (a hi lo x : Nat) : (s.fset a hi lo x).jobs = s.jobs := rfl
@[simp] theorem State.fset_bales (a hi lo x : Nat) : (s.fset a hi lo x).bales = s.bales := rfl
@[simp] theorem State.fset_nextBale (a hi lo x : Nat) : (s.fset a hi lo x).nextBale = s.nextBale := rfl
@[simp] theorem State.fset_miles (a hi lo x : Nat) : (s.fset a hi lo x).miles = s.miles := rfl
@[simp] theorem State.fset_odo (a hi lo x : Nat) : (s.fset a hi lo x).odo = s.odo := rfl
@[simp] theorem State.fset_refs (a hi lo x : Nat) : (s.fset a hi lo x).refs = s.refs := rfl
@[simp] theorem State.fset_fio (a hi lo x : Nat) : (s.fset a hi lo x).fio = s.fio := rfl
@[simp] theorem State.fset_fieldSafe (a hi lo x : Nat) : (s.fset a hi lo x).fieldSafe = s.fieldSafe := rfl
@[simp] theorem State.fset_grpTrip (a hi lo x : Nat) : (s.fset a hi lo x).grpTrip = s.grpTrip := rfl
@[simp] theorem State.fset_cams (a hi lo x : Nat) : (s.fset a hi lo x).cams = s.cams := rfl
@[simp] theorem State.fset_rings (a hi lo x : Nat) : (s.fset a hi lo x).rings = s.rings := rfl
@[simp] theorem State.fset_capture (a hi lo x : Nat) : (s.fset a hi lo x).capture = s.capture := rfl
@[simp] theorem State.fset_isp (a hi lo x : Nat) : (s.fset a hi lo x).isp = s.isp := rfl
@[simp] theorem State.fset_treePass (a hi lo x : Nat) : (s.fset a hi lo x).treePass = s.treePass := rfl
@[simp] theorem State.fset_decs (a hi lo x : Nat) : (s.fset a hi lo x).decs = s.decs := rfl
@[simp] theorem State.fset_lanes (a hi lo x : Nat) : (s.fset a hi lo x).lanes = s.lanes := rfl
@[simp] theorem State.fset_lref (a hi lo x : Nat) : (s.fset a hi lo x).lref = s.lref := rfl
@[simp] theorem State.fset_links (a hi lo x : Nat) : (s.fset a hi lo x).links = s.links := rfl
@[simp] theorem State.fset_eps (a hi lo x : Nat) : (s.fset a hi lo x).eps = s.eps := rfl
@[simp] theorem State.fset_timeTag (a hi lo x : Nat) : (s.fset a hi lo x).timeTag = s.timeTag := rfl
@[simp] theorem State.fset_groups (a hi lo x : Nat) : (s.fset a hi lo x).groups = s.groups := rfl
@[simp] theorem State.fset_ptp (a hi lo x : Nat) : (s.fset a hi lo x).ptp = s.ptp := rfl
@[simp] theorem State.fset_pwr (a hi lo x : Nat) : (s.fset a hi lo x).pwr = s.pwr := rfl
@[simp] theorem State.fset_refclk (a hi lo x : Nat) : (s.fset a hi lo x).refclk = s.refclk := rfl
@[simp] theorem State.fset_phy (a hi lo x : Nat) : (s.fset a hi lo x).phy = s.phy := rfl
@[simp] theorem State.fset_lenders (a hi lo x : Nat) : (s.fset a hi lo x).lenders = s.lenders := rfl
@[simp] theorem State.fset_boot (a hi lo x : Nat) : (s.fset a hi lo x).boot = s.boot := rfl
@[simp] theorem State.fset_sport (a hi lo x : Nat) : (s.fset a hi lo x).sport = s.sport := rfl
@[simp] theorem State.fset_log (a hi lo x : Nat) : (s.fset a hi lo x).log = s.log := rfl
@[simp] theorem State.fset_cores (a hi lo x : Nat) : (s.fset a hi lo x).cores = s.cores := rfl
@[simp] theorem State.fset_uart (a hi lo x : Nat) : (s.fset a hi lo x).uart = s.uart := rfl
@[simp] theorem State.fset_i2c (a hi lo x : Nat) : (s.fset a hi lo x).i2c = s.i2c := rfl
@[simp] theorem State.fset_gpio (a hi lo x : Nat) : (s.fset a hi lo x).gpio = s.gpio := rfl
@[simp] theorem State.fset_out (a hi lo x : Nat) : (s.fset a hi lo x).out = s.out := rfl
@[simp] theorem State.fset_tap (a hi lo x : Nat) : (s.fset a hi lo x).tap = s.tap := rfl
@[simp] theorem State.fset_scan (a hi lo x : Nat) : (s.fset a hi lo x).scan = s.scan := rfl
@[simp] theorem State.fset_free (a hi lo x : Nat) : (s.fset a hi lo x).free = s.free := rfl

/-! ## `State.setFlag` -/

@[simp] theorem State.setFlag_pending (a i : Nat) (b : Bool) : (s.setFlag a i b).pending = s.pending := rfl
@[simp] theorem State.setFlag_shadow (a i : Nat) (b : Bool) : (s.setFlag a i b).shadow = s.shadow := rfl
@[simp] theorem State.setFlag_snaps (a i : Nat) (b : Bool) : (s.setFlag a i b).snaps = s.snaps := rfl
@[simp] theorem State.setFlag_rdata (a i : Nat) (b : Bool) : (s.setFlag a i b).rdata = s.rdata := rfl
@[simp] theorem State.setFlag_tb (a i : Nat) (b : Bool) : (s.setFlag a i b).tb = s.tb := rfl
@[simp] theorem State.setFlag_otp (a i : Nat) (b : Bool) : (s.setFlag a i b).otp = s.otp := rfl
@[simp] theorem State.setFlag_dram (a i : Nat) (b : Bool) : (s.setFlag a i b).dram = s.dram := rfl
@[simp] theorem State.setFlag_flash (a i : Nat) (b : Bool) : (s.setFlag a i b).flash = s.flash := rfl
@[simp] theorem State.setFlag_sram (a i : Nat) (b : Bool) : (s.setFlag a i b).sram = s.sram := rfl
@[simp] theorem State.setFlag_evq (a i : Nat) (b : Bool) : (s.setFlag a i b).evq = s.evq := rfl
@[simp] theorem State.setFlag_mbox (a i : Nat) (b : Bool) : (s.setFlag a i b).mbox = s.mbox := rfl
@[simp] theorem State.setFlag_load (a i : Nat) (b : Bool) : (s.setFlag a i b).load = s.load := rfl
@[simp] theorem State.setFlag_dev (a i : Nat) (b : Bool) : (s.setFlag a i b).dev = s.dev := rfl
@[simp] theorem State.setFlag_blocks (a i : Nat) (b : Bool) : (s.setFlag a i b).blocks = s.blocks := rfl
@[simp] theorem State.setFlag_nextUid (a i : Nat) (b : Bool) : (s.setFlag a i b).nextUid = s.nextUid := rfl
@[simp] theorem State.setFlag_stations (a i : Nat) (b : Bool) : (s.setFlag a i b).stations = s.stations := rfl
@[simp] theorem State.setFlag_tiles (a i : Nat) (b : Bool) : (s.setFlag a i b).tiles = s.tiles := rfl
@[simp] theorem State.setFlag_gridHoles (a i : Nat) (b : Bool) : (s.setFlag a i b).gridHoles = s.gridHoles := rfl
@[simp] theorem State.setFlag_retiring (a i : Nat) (b : Bool) : (s.setFlag a i b).retiring = s.retiring := rfl
@[simp] theorem State.setFlag_fmap (a i : Nat) (b : Bool) : (s.setFlag a i b).fmap = s.fmap := rfl
@[simp] theorem State.setFlag_jobs (a i : Nat) (b : Bool) : (s.setFlag a i b).jobs = s.jobs := rfl
@[simp] theorem State.setFlag_bales (a i : Nat) (b : Bool) : (s.setFlag a i b).bales = s.bales := rfl
@[simp] theorem State.setFlag_nextBale (a i : Nat) (b : Bool) : (s.setFlag a i b).nextBale = s.nextBale := rfl
@[simp] theorem State.setFlag_miles (a i : Nat) (b : Bool) : (s.setFlag a i b).miles = s.miles := rfl
@[simp] theorem State.setFlag_odo (a i : Nat) (b : Bool) : (s.setFlag a i b).odo = s.odo := rfl
@[simp] theorem State.setFlag_refs (a i : Nat) (b : Bool) : (s.setFlag a i b).refs = s.refs := rfl
@[simp] theorem State.setFlag_fio (a i : Nat) (b : Bool) : (s.setFlag a i b).fio = s.fio := rfl
@[simp] theorem State.setFlag_fieldSafe (a i : Nat) (b : Bool) : (s.setFlag a i b).fieldSafe = s.fieldSafe := rfl
@[simp] theorem State.setFlag_grpTrip (a i : Nat) (b : Bool) : (s.setFlag a i b).grpTrip = s.grpTrip := rfl
@[simp] theorem State.setFlag_cams (a i : Nat) (b : Bool) : (s.setFlag a i b).cams = s.cams := rfl
@[simp] theorem State.setFlag_rings (a i : Nat) (b : Bool) : (s.setFlag a i b).rings = s.rings := rfl
@[simp] theorem State.setFlag_capture (a i : Nat) (b : Bool) : (s.setFlag a i b).capture = s.capture := rfl
@[simp] theorem State.setFlag_isp (a i : Nat) (b : Bool) : (s.setFlag a i b).isp = s.isp := rfl
@[simp] theorem State.setFlag_treePass (a i : Nat) (b : Bool) : (s.setFlag a i b).treePass = s.treePass := rfl
@[simp] theorem State.setFlag_decs (a i : Nat) (b : Bool) : (s.setFlag a i b).decs = s.decs := rfl
@[simp] theorem State.setFlag_lanes (a i : Nat) (b : Bool) : (s.setFlag a i b).lanes = s.lanes := rfl
@[simp] theorem State.setFlag_lref (a i : Nat) (b : Bool) : (s.setFlag a i b).lref = s.lref := rfl
@[simp] theorem State.setFlag_links (a i : Nat) (b : Bool) : (s.setFlag a i b).links = s.links := rfl
@[simp] theorem State.setFlag_eps (a i : Nat) (b : Bool) : (s.setFlag a i b).eps = s.eps := rfl
@[simp] theorem State.setFlag_timeTag (a i : Nat) (b : Bool) : (s.setFlag a i b).timeTag = s.timeTag := rfl
@[simp] theorem State.setFlag_groups (a i : Nat) (b : Bool) : (s.setFlag a i b).groups = s.groups := rfl
@[simp] theorem State.setFlag_ptp (a i : Nat) (b : Bool) : (s.setFlag a i b).ptp = s.ptp := rfl
@[simp] theorem State.setFlag_pwr (a i : Nat) (b : Bool) : (s.setFlag a i b).pwr = s.pwr := rfl
@[simp] theorem State.setFlag_refclk (a i : Nat) (b : Bool) : (s.setFlag a i b).refclk = s.refclk := rfl
@[simp] theorem State.setFlag_phy (a i : Nat) (b : Bool) : (s.setFlag a i b).phy = s.phy := rfl
@[simp] theorem State.setFlag_lenders (a i : Nat) (b : Bool) : (s.setFlag a i b).lenders = s.lenders := rfl
@[simp] theorem State.setFlag_boot (a i : Nat) (b : Bool) : (s.setFlag a i b).boot = s.boot := rfl
@[simp] theorem State.setFlag_sport (a i : Nat) (b : Bool) : (s.setFlag a i b).sport = s.sport := rfl
@[simp] theorem State.setFlag_log (a i : Nat) (b : Bool) : (s.setFlag a i b).log = s.log := rfl
@[simp] theorem State.setFlag_cores (a i : Nat) (b : Bool) : (s.setFlag a i b).cores = s.cores := rfl
@[simp] theorem State.setFlag_uart (a i : Nat) (b : Bool) : (s.setFlag a i b).uart = s.uart := rfl
@[simp] theorem State.setFlag_i2c (a i : Nat) (b : Bool) : (s.setFlag a i b).i2c = s.i2c := rfl
@[simp] theorem State.setFlag_gpio (a i : Nat) (b : Bool) : (s.setFlag a i b).gpio = s.gpio := rfl
@[simp] theorem State.setFlag_out (a i : Nat) (b : Bool) : (s.setFlag a i b).out = s.out := rfl
@[simp] theorem State.setFlag_tap (a i : Nat) (b : Bool) : (s.setFlag a i b).tap = s.tap := rfl
@[simp] theorem State.setFlag_scan (a i : Nat) (b : Bool) : (s.setFlag a i b).scan = s.scan := rfl
@[simp] theorem State.setFlag_free (a i : Nat) (b : Bool) : (s.setFlag a i b).free = s.free := rfl

/-! ## `State.setN` -/

@[simp] theorem State.setN_pending (a x : Nat) : (s.setN a x).pending = s.pending := rfl
@[simp] theorem State.setN_shadow (a x : Nat) : (s.setN a x).shadow = s.shadow := rfl
@[simp] theorem State.setN_snaps (a x : Nat) : (s.setN a x).snaps = s.snaps := rfl
@[simp] theorem State.setN_rdata (a x : Nat) : (s.setN a x).rdata = s.rdata := rfl
@[simp] theorem State.setN_tb (a x : Nat) : (s.setN a x).tb = s.tb := rfl
@[simp] theorem State.setN_otp (a x : Nat) : (s.setN a x).otp = s.otp := rfl
@[simp] theorem State.setN_dram (a x : Nat) : (s.setN a x).dram = s.dram := rfl
@[simp] theorem State.setN_flash (a x : Nat) : (s.setN a x).flash = s.flash := rfl
@[simp] theorem State.setN_sram (a x : Nat) : (s.setN a x).sram = s.sram := rfl
@[simp] theorem State.setN_evq (a x : Nat) : (s.setN a x).evq = s.evq := rfl
@[simp] theorem State.setN_mbox (a x : Nat) : (s.setN a x).mbox = s.mbox := rfl
@[simp] theorem State.setN_load (a x : Nat) : (s.setN a x).load = s.load := rfl
@[simp] theorem State.setN_dev (a x : Nat) : (s.setN a x).dev = s.dev := rfl
@[simp] theorem State.setN_blocks (a x : Nat) : (s.setN a x).blocks = s.blocks := rfl
@[simp] theorem State.setN_nextUid (a x : Nat) : (s.setN a x).nextUid = s.nextUid := rfl
@[simp] theorem State.setN_stations (a x : Nat) : (s.setN a x).stations = s.stations := rfl
@[simp] theorem State.setN_tiles (a x : Nat) : (s.setN a x).tiles = s.tiles := rfl
@[simp] theorem State.setN_gridHoles (a x : Nat) : (s.setN a x).gridHoles = s.gridHoles := rfl
@[simp] theorem State.setN_retiring (a x : Nat) : (s.setN a x).retiring = s.retiring := rfl
@[simp] theorem State.setN_fmap (a x : Nat) : (s.setN a x).fmap = s.fmap := rfl
@[simp] theorem State.setN_jobs (a x : Nat) : (s.setN a x).jobs = s.jobs := rfl
@[simp] theorem State.setN_bales (a x : Nat) : (s.setN a x).bales = s.bales := rfl
@[simp] theorem State.setN_nextBale (a x : Nat) : (s.setN a x).nextBale = s.nextBale := rfl
@[simp] theorem State.setN_miles (a x : Nat) : (s.setN a x).miles = s.miles := rfl
@[simp] theorem State.setN_odo (a x : Nat) : (s.setN a x).odo = s.odo := rfl
@[simp] theorem State.setN_refs (a x : Nat) : (s.setN a x).refs = s.refs := rfl
@[simp] theorem State.setN_fio (a x : Nat) : (s.setN a x).fio = s.fio := rfl
@[simp] theorem State.setN_fieldSafe (a x : Nat) : (s.setN a x).fieldSafe = s.fieldSafe := rfl
@[simp] theorem State.setN_grpTrip (a x : Nat) : (s.setN a x).grpTrip = s.grpTrip := rfl
@[simp] theorem State.setN_cams (a x : Nat) : (s.setN a x).cams = s.cams := rfl
@[simp] theorem State.setN_rings (a x : Nat) : (s.setN a x).rings = s.rings := rfl
@[simp] theorem State.setN_capture (a x : Nat) : (s.setN a x).capture = s.capture := rfl
@[simp] theorem State.setN_isp (a x : Nat) : (s.setN a x).isp = s.isp := rfl
@[simp] theorem State.setN_treePass (a x : Nat) : (s.setN a x).treePass = s.treePass := rfl
@[simp] theorem State.setN_decs (a x : Nat) : (s.setN a x).decs = s.decs := rfl
@[simp] theorem State.setN_lanes (a x : Nat) : (s.setN a x).lanes = s.lanes := rfl
@[simp] theorem State.setN_lref (a x : Nat) : (s.setN a x).lref = s.lref := rfl
@[simp] theorem State.setN_links (a x : Nat) : (s.setN a x).links = s.links := rfl
@[simp] theorem State.setN_eps (a x : Nat) : (s.setN a x).eps = s.eps := rfl
@[simp] theorem State.setN_timeTag (a x : Nat) : (s.setN a x).timeTag = s.timeTag := rfl
@[simp] theorem State.setN_groups (a x : Nat) : (s.setN a x).groups = s.groups := rfl
@[simp] theorem State.setN_ptp (a x : Nat) : (s.setN a x).ptp = s.ptp := rfl
@[simp] theorem State.setN_pwr (a x : Nat) : (s.setN a x).pwr = s.pwr := rfl
@[simp] theorem State.setN_refclk (a x : Nat) : (s.setN a x).refclk = s.refclk := rfl
@[simp] theorem State.setN_phy (a x : Nat) : (s.setN a x).phy = s.phy := rfl
@[simp] theorem State.setN_lenders (a x : Nat) : (s.setN a x).lenders = s.lenders := rfl
@[simp] theorem State.setN_boot (a x : Nat) : (s.setN a x).boot = s.boot := rfl
@[simp] theorem State.setN_sport (a x : Nat) : (s.setN a x).sport = s.sport := rfl
@[simp] theorem State.setN_log (a x : Nat) : (s.setN a x).log = s.log := rfl
@[simp] theorem State.setN_cores (a x : Nat) : (s.setN a x).cores = s.cores := rfl
@[simp] theorem State.setN_uart (a x : Nat) : (s.setN a x).uart = s.uart := rfl
@[simp] theorem State.setN_i2c (a x : Nat) : (s.setN a x).i2c = s.i2c := rfl
@[simp] theorem State.setN_gpio (a x : Nat) : (s.setN a x).gpio = s.gpio := rfl
@[simp] theorem State.setN_out (a x : Nat) : (s.setN a x).out = s.out := rfl
@[simp] theorem State.setN_tap (a x : Nat) : (s.setN a x).tap = s.tap := rfl
@[simp] theorem State.setN_scan (a x : Nat) : (s.setN a x).scan = s.scan := rfl
@[simp] theorem State.setN_free (a x : Nat) : (s.setN a x).free = s.free := rfl

end Sys2Proof.Machine
end

