-- ==== Sys2Proof/Laws/Regs.lean ====
section
/-! SUPPORT. Bit fields, and what a register reads as after it, another register, or one of its fields is written. -/

namespace Sys2Proof.Machine

/-! ## Bit fields -/

theorem fld_lt (v hi lo : Nat) : fld v hi lo < 2 ^ (hi - lo + 1) := Nat.mod_lt _ (by positivity)

/-- A number is what lies below a field, the field, and what lies above it. -/
theorem fld_split (v hi lo : Nat) :
    v = v / 2 ^ lo / 2 ^ (hi - lo + 1) * (2 ^ (hi - lo + 1) * 2 ^ lo) + fld v hi lo * 2 ^ lo + v % 2 ^ lo := by
  unfold fld
  have h1 := Nat.div_add_mod v (2 ^ lo)
  have h2 := Nat.div_add_mod (v / 2 ^ lo) (2 ^ (hi - lo + 1))
  calc v = 2 ^ lo * (v / 2 ^ lo) + v % 2 ^ lo := h1.symm
    _ = 2 ^ lo * (2 ^ (hi - lo + 1) * (v / 2 ^ lo / 2 ^ (hi - lo + 1)) + v / 2 ^ lo % 2 ^ (hi - lo + 1)) + v % 2 ^ lo := by rw [h2]
    _ = _ := by ring

/-- A field written: what lies below and above it stays. -/
theorem setFld_split (v hi lo x : Nat) :
    setFld v hi lo x = v / 2 ^ lo / 2 ^ (hi - lo + 1) * (2 ^ (hi - lo + 1) * 2 ^ lo) + x % 2 ^ (hi - lo + 1) * 2 ^ lo + v % 2 ^ lo := by
  have h := fld_split v hi lo
  unfold setFld
  generalize v / 2 ^ lo / 2 ^ (hi - lo + 1) * (2 ^ (hi - lo + 1) * 2 ^ lo) = a at *
  generalize fld v hi lo * 2 ^ lo = b at *
  generalize x % 2 ^ (hi - lo + 1) * 2 ^ lo = c at *
  generalize v % 2 ^ lo = d at *
  omega

theorem setFld_low (v hi lo x : Nat) : setFld v hi lo x % 2 ^ lo = v % 2 ^ lo := by
  rw [setFld_split]
  have : v / 2 ^ lo / 2 ^ (hi - lo + 1) * (2 ^ (hi - lo + 1) * 2 ^ lo) + x % 2 ^ (hi - lo + 1) * 2 ^ lo + v % 2 ^ lo
      = v % 2 ^ lo + 2 ^ lo * (v / 2 ^ lo / 2 ^ (hi - lo + 1) * 2 ^ (hi - lo + 1) + x % 2 ^ (hi - lo + 1)) := by ring
  rw [this, Nat.add_mul_mod_self_left, Nat.mod_mod]

theorem setFld_div (v hi lo x : Nat) :
    setFld v hi lo x / 2 ^ lo = v / 2 ^ lo / 2 ^ (hi - lo + 1) * 2 ^ (hi - lo + 1) + x % 2 ^ (hi - lo + 1) := by
  rw [setFld_split]
  have : v / 2 ^ lo / 2 ^ (hi - lo + 1) * (2 ^ (hi - lo + 1) * 2 ^ lo) + x % 2 ^ (hi - lo + 1) * 2 ^ lo + v % 2 ^ lo
      = v % 2 ^ lo + 2 ^ lo * (v / 2 ^ lo / 2 ^ (hi - lo + 1) * 2 ^ (hi - lo + 1) + x % 2 ^ (hi - lo + 1)) := by ring
  rw [this, Nat.add_mul_div_left _ _ (by positivity), Nat.div_eq_of_lt (Nat.mod_lt _ (by positivity)), Nat.zero_add]

/-- A field reads back what was written to it. -/
theorem fld_setFld_same (v hi lo x : Nat) : fld (setFld v hi lo x) hi lo = x % 2 ^ (hi - lo + 1) := by
  conv_lhs => unfold fld
  rw [setFld_div, Nat.add_comm, Nat.add_mul_mod_self_right, Nat.mod_mod]

/-- A field below the written one stays. -/
theorem fld_setFld_below (v hi lo x h l : Nat) (hl : l ≤ h) (hh : h < lo) : fld (setFld v hi lo x) h l = fld v h l := by
  have key : ∀ u : Nat, fld u h l = u % 2 ^ lo / 2 ^ l % 2 ^ (h - l + 1) := by
    intro u
    unfold fld
    have e : (2 : Nat) ^ lo = 2 ^ l * 2 ^ (lo - l) := by rw [← pow_add]; congr 1; omega
    rw [e, Nat.mod_mul_right_div_self, Nat.mod_mod_of_dvd]
    exact pow_dvd_pow 2 (by omega)
  rw [key, key v, setFld_low]

/-- A field above the written one stays. -/
theorem fld_setFld_above (v hi lo x h l : Nat) (hl : lo ≤ hi) (hh : hi < l) : fld (setFld v hi lo x) h l = fld v h l := by
  have key : ∀ u : Nat, u / 2 ^ l = u / 2 ^ lo / 2 ^ (hi - lo + 1) / 2 ^ (l - hi - 1) := by
    intro u
    rw [Nat.div_div_eq_div_mul, Nat.div_div_eq_div_mul, ← pow_add, ← pow_add]
    congr 2
    omega
  unfold fld
  rw [key, key v]
  congr 2
  rw [setFld_div, Nat.add_comm, Nat.add_mul_div_right _ _ (by positivity), Nat.div_eq_of_lt (Nat.mod_lt _ (by positivity)),
    Nat.zero_add]

theorem setFld_lt {v hi lo : Nat} (x : Nat) (hv : v < 2 ^ 32) (hl : lo ≤ hi) (hh : hi < 32) : setFld v hi lo x < 2 ^ 32 := by
  have h1 : v / 2 ^ lo / 2 ^ (hi - lo + 1) < 2 ^ (31 - hi) := by
    rw [Nat.div_div_eq_div_mul, ← pow_add]
    apply Nat.div_lt_of_lt_mul
    rw [← pow_add]
    refine lt_of_lt_of_le hv (Nat.pow_le_pow_right (by norm_num) (by omega))
  have h2 := Nat.mod_lt x (y := 2 ^ (hi - lo + 1)) (by positivity)
  have h3 : setFld v hi lo x / 2 ^ lo < 2 ^ (32 - lo) := by
    rw [setFld_div]
    have e : (2 : Nat) ^ (32 - lo) = 2 ^ (31 - hi) * 2 ^ (hi - lo + 1) := by rw [← pow_add]; congr 1; omega
    rw [e]
    calc _ < v / 2 ^ lo / 2 ^ (hi - lo + 1) * 2 ^ (hi - lo + 1) + 2 ^ (hi - lo + 1) := Nat.add_lt_add_left h2 _
      _ = (v / 2 ^ lo / 2 ^ (hi - lo + 1) + 1) * 2 ^ (hi - lo + 1) := by rw [Nat.add_mul, Nat.one_mul]
      _ ≤ 2 ^ (31 - hi) * 2 ^ (hi - lo + 1) := Nat.mul_le_mul_right _ h1
  have h4 : (2 : Nat) ^ 32 = 2 ^ lo * 2 ^ (32 - lo) := by rw [← pow_add]; congr 1; omega
  rw [h4]
  exact (Nat.div_lt_iff_lt_mul (by positivity)).1 h3 |>.trans_eq (Nat.mul_comm _ _)

theorem bitAt_eq (v i : Nat) : bitAt v i = (fld v i i == 1) := by simp [bitAt, fld]

theorem bitAt_setFld_ne (v i j x : Nat) (h : j ≠ i) : bitAt (setFld v i i x) j = bitAt v j := by
  rw [bitAt_eq, bitAt_eq]
  rcases Nat.lt_or_gt_of_ne h with h | h
  · rw [fld_setFld_below _ _ _ _ _ _ le_rfl h]
  · rw [fld_setFld_above _ _ _ _ _ _ le_rfl h]

/-! ## Registers -/

theorem RegFile.get_set_same (f : RegFile) (a : Nat) (w : Word) : (f.set a w).get a = w := by
  induction f with
  | nil => simp [RegFile.set, RegFile.get]
  | cons p r ih =>
    obtain ⟨k, v⟩ := p
    simp only [RegFile.set]
    split
    · rename_i h; simp [RegFile.get, beq_iff_eq.1 h]
    · split
      · simp [RegFile.get]
      · rename_i h1 h2; simp [RegFile.get, h1, ih]

theorem RegFile.get_set_ne (f : RegFile) {a b : Nat} (w : Word) (h : b ≠ a) : (f.set a w).get b = f.get b := by
  induction f with
  | nil => simp [RegFile.set, RegFile.get, h]
  | cons p r ih =>
    obtain ⟨k, v⟩ := p
    simp only [RegFile.set]
    split
    · rename_i hk; rw [beq_iff_eq] at hk; subst hk; simp [RegFile.get, h]
    · split
      · simp [RegFile.get, h]
      · simp [RegFile.get, ih]

@[simp] theorem State.reg_setReg (s : State) (a : Nat) (w : Word) : (s.setReg a w).reg a = w :=
  RegFile.get_set_same _ _ _

theorem State.reg_setReg_ne (s : State) {a b : Nat} (w : Word) (h : b ≠ a) : (s.setReg a w).reg b = s.reg b :=
  RegFile.get_set_ne _ _ h

@[simp] theorem State.reg_setN (s : State) (a x : Nat) : (s.setN a x).reg a = BitVec.ofNat 32 x := State.reg_setReg _ _ _

theorem State.reg_setN_ne (s : State) {a b : Nat} (x : Nat) (h : b ≠ a) : (s.setN a x).reg b = s.reg b :=
  State.reg_setReg_ne _ _ h

theorem State.reg_fset_ne (s : State) {a b : Nat} (hi lo x : Nat) (h : b ≠ a) : (s.fset a hi lo x).reg b = s.reg b :=
  State.reg_setReg_ne _ _ h

theorem State.reg_setFlag_ne (s : State) {a b : Nat} (i : Nat) (v : Bool) (h : b ≠ a) : (s.setFlag a i v).reg b = s.reg b :=
  State.reg_fset_ne _ _ _ _ h

/-- The word of a register after one of its fields is written. -/
theorem State.toNat_reg_fset (s : State) (a x : Nat) {hi lo : Nat} (hl : lo ≤ hi) (hh : hi < 32) :
    ((s.fset a hi lo x).reg a).toNat = setFld (s.reg a).toNat hi lo x := by
  simp only [State.fset, State.reg_setReg, BitVec.toNat_ofNat]
  exact Nat.mod_eq_of_lt (setFld_lt x (s.reg a).isLt hl hh)

/-- A field reads back what was written to it. -/
theorem State.fget_fset (s : State) (a x : Nat) {hi lo : Nat} (hl : lo ≤ hi) (hh : hi < 32) :
    (s.fset a hi lo x).fget a hi lo = x % 2 ^ (hi - lo + 1) := by
  rw [State.fget, State.toNat_reg_fset s a x hl hh, fld_setFld_same]

/-- A field of another register, or of other bits, stays. -/
theorem State.fget_fset_ne (s : State) (x : Nat) {a b hi lo h l : Nat} (hl : lo ≤ hi) (hh : hi < 32) (hk : l ≤ h)
    (hd : b ≠ a ∨ h < lo ∨ hi < l) : (s.fset a hi lo x).fget b h l = s.fget b h l := by
  by_cases hb : b = a
  · subst hb
    rw [State.fget, State.toNat_reg_fset s b x hl hh, State.fget]
    rcases hd with hd | hd | hd
    · exact absurd rfl hd
    · exact fld_setFld_below _ _ _ _ _ _ hk hd
    · exact fld_setFld_above _ _ _ _ _ _ hl hd
  · rw [State.fget, State.reg_fset_ne _ _ _ _ hb, State.fget]

/-- A flag reads back what was written to it. -/
theorem State.flag_setFlag (s : State) (a : Nat) {i : Nat} (b : Bool) (hi : i < 32) : (s.setFlag a i b).flag a i = b := by
  rw [State.flag, bitAt_eq, State.setFlag, State.toNat_reg_fset s a _ le_rfl hi, fld_setFld_same]
  cases b <;> simp [b2n]

/-- Another flag stays. -/
theorem State.flag_setFlag_ne (s : State) {a c i j : Nat} (b : Bool) (hi : i < 32) (hd : c ≠ a ∨ j ≠ i) :
    (s.setFlag a i b).flag c j = s.flag c j := by
  by_cases hc : c = a
  · subst hc
    rw [State.flag, State.setFlag, State.toNat_reg_fset s c _ le_rfl hi,
      bitAt_setFld_ne _ _ _ _ (hd.resolve_left (absurd rfl)), State.flag]
  · rw [State.flag, State.reg_setFlag_ne _ _ _ hc, State.flag]

end Sys2Proof.Machine
end

