-- ==== Sys2Proof/Laws/Ops.lean ====
section
/-! SUPPORT. Everything that the shared operations can do: raising an event, counting, logging a fault, putting a packet into
a mailbox, and ending a command. -/

namespace Sys2Proof.Machine

/-! ## Events -/

/-- A register of the event machinery: SYS.EVT_PEND or SYS.EVQ_DROPS. -/
def eventReg (a : Nat) : Prop := (∃ i < 16, a = Reg.sysEvtPend i) ∨ ∃ t < 13, a = Reg.sysEvqDrops t

theorem pushEvent_shape (s : State) (src t : Nat) :
    ∃ f q, (pushEvent s src t).1 = { s with regs := f, evq := q } ∧
      ∀ b, b ≠ Reg.sysEvqDrops t → RegFile.get f b = s.reg b := by
  by_cases h : (s.evq.getD t []).length < 64
  · exact ⟨s.regs, modAt s.evq t fun q => q ++ [(s.tbNs, src)], by simp only [pushEvent, if_pos h], fun b _ => rfl⟩
  · exact ⟨s.regs.set (Reg.sysEvqDrops t) (BitVec.ofNat 32 (satWord 24 (s.reg (Reg.sysEvqDrops t)).toNat).1), s.evq,
      by simp only [pushEvent, if_neg h]; rfl, fun b hb => RegFile.get_set_ne _ _ hb⟩

/-- What raising an event, or several, can change. -/
def EventOnly (s t : State) : Prop :=
  (∃ f q, t = { s with regs := f, evq := q }) ∧ (∀ b, ¬ eventReg b → t.reg b = s.reg b) ∧
    ∀ i < 16, ∀ j, s.flag (Reg.sysEvtPend i) j = true → t.flag (Reg.sysEvtPend i) j = true

theorem EventOnly.refl (s : State) : EventOnly s s := ⟨⟨s.regs, s.evq, rfl⟩, fun _ _ => rfl, fun _ _ _ h => h⟩

theorem EventOnly.trans {s t u : State} (h : EventOnly s t) (g : EventOnly t u) : EventOnly s u := by
  obtain ⟨⟨f, q, rfl⟩, h2, h3⟩ := h
  obtain ⟨⟨f', q', rfl⟩, g2, g3⟩ := g
  exact ⟨⟨f', q', rfl⟩, fun b hb => (g2 b hb).trans (h2 b hb), fun i hi j hj => g3 i hi j (h3 i hi j hj)⟩

theorem evtPend_ne_evqDrops (i t : Nat) (hi : i < 16) (ht : t < 13) : Reg.sysEvtPend i ≠ Reg.sysEvqDrops t := by
  unfold Reg.sysEvtPend Reg.sysEvqDrops; omega

/-- Setting a pending bit. -/
theorem eventOnly_pend (s : State) (src : Nat) (h : src < 512) :
    EventOnly s (s.setFlag (Reg.sysEvtPend (src / 32)) (src % 32) true) := by
  refine ⟨⟨_, s.evq, rfl⟩, fun b hb => State.reg_setFlag_ne _ _ _ fun e => hb (.inl ⟨src / 32, by omega, e⟩), fun i _ j hij => ?_⟩
  by_cases hd : Reg.sysEvtPend i ≠ Reg.sysEvtPend (src / 32) ∨ j ≠ src % 32
  · rw [State.flag_setFlag_ne _ _ (by omega) hd, hij]
  · rw [not_or, not_not, not_not] at hd
    rw [hd.1, hd.2, State.flag_setFlag _ _ _ (by omega)]

theorem eventOnly_push (s : State) (src t : Nat) (ht : t < 13) : EventOnly s (pushEvent s src t).1 := by
  obtain ⟨f, q, h1, h2⟩ := pushEvent_shape s src t
  refine ⟨⟨f, q, h1⟩, fun b hb => ?_, fun i hi j hij => ?_⟩
  · rw [h1]; exact h2 b fun e => hb (.inr ⟨t, ht, e⟩)
  · rw [h1]
    have : RegFile.get f (Reg.sysEvtPend i) = s.reg (Reg.sysEvtPend i) := h2 _ (by
      unfold Reg.sysEvtPend Reg.sysEvqDrops; omega)
    simpa [State.flag, State.reg, this] using hij

theorem raiseFuel_eventOnly (n : Nat) (s : State) (src : Nat) (h : src < 512) : EventOnly s (raiseFuel n s src) := by
  induction n generalizing s src with
  | zero => exact EventOnly.refl s
  | succ n ih =>
    simp only [raiseFuel]
    refine (eventOnly_pend s src h).trans ?_
    generalize ((s.setFlag (Reg.sysEvtPend (src / 32)) (src % 32) true).reg (Reg.sysEvtRoute src)).toNat = mask
    generalize s.setFlag (Reg.sysEvtPend (src / 32)) (src % 32) true = u
    have key : ∀ (l : List Nat) (v : State), (∀ t ∈ l, t < 13) → EventOnly v (l.foldl (fun (s : State) t =>
        if bitAt mask t then
          if (pushEvent s src t).2 then raiseFuel n (pushEvent s src t).1 473 else (pushEvent s src t).1
        else s) v) := by
      intro l
      induction l with
      | nil => intro v _; exact EventOnly.refl v
      | cons t r ihl =>
        intro v hl
        simp only [List.foldl_cons]
        refine EventOnly.trans ?_ (ihl _ fun t ht => hl t (List.mem_cons_of_mem _ ht))
        split
        · have := eventOnly_push v src t (hl t List.mem_cons_self)
          split
          · exact this.trans (ih _ 473 (by norm_num))
          · exact this
        · exact EventOnly.refl v
    exact key _ u fun t ht => List.mem_range.1 ht

/-- Everything that raising an event can do: the event queues and the event registers change, and no pending bit clears. -/
theorem raise_eventOnly (src : Nat) (s : State) (h : src < 512) : EventOnly s (raise src s) := raiseFuel_eventOnly 14 s src h

/-- A raised event is pending (R87). -/
theorem raise_pend (src : Nat) (s : State) (h : src < 512) :
    (raise src s).flag (Reg.sysEvtPend (src / 32)) (src % 32) = true := by
  have hp : (s.setFlag (Reg.sysEvtPend (src / 32)) (src % 32) true).flag (Reg.sysEvtPend (src / 32)) (src % 32) = true :=
    State.flag_setFlag _ _ _ (by omega)
  unfold raise
  simp only [raiseFuel]
  generalize ((s.setFlag (Reg.sysEvtPend (src / 32)) (src % 32) true).reg (Reg.sysEvtRoute src)).toNat = mask
  generalize s.setFlag (Reg.sysEvtPend (src / 32)) (src % 32) true = u at *
  have key : ∀ (l : List Nat) (v : State), (∀ t ∈ l, t < 13) → EventOnly v (l.foldl (fun (s : State) t =>
      if bitAt mask t then
        if (pushEvent s src t).2 then raiseFuel 13 (pushEvent s src t).1 473 else (pushEvent s src t).1
      else s) v) := by
    intro l
    induction l with
    | nil => intro v _; exact EventOnly.refl v
    | cons t r ihl =>
      intro v hl
      simp only [List.foldl_cons]
      refine EventOnly.trans ?_ (ihl _ fun t ht => hl t (List.mem_cons_of_mem _ ht))
      split
      · have := eventOnly_push v src t (hl t List.mem_cons_self)
        split
        · exact this.trans (raiseFuel_eventOnly 13 _ 473 (by norm_num))
        · exact this
      · exact EventOnly.refl v
  exact (key _ u fun t ht => List.mem_range.1 ht).2.2 _ (by omega) _ hp

theorem raise_reg (src : Nat) (s : State) (h : src < 512) {b : Nat} (hb : ¬ eventReg b) : (raise src s).reg b = s.reg b :=
  (raise_eventOnly src s h).2.1 b hb

theorem EventOnly.flag {s t : State} (h : EventOnly s t) {b : Nat} (hb : ¬ eventReg b) (i : Nat) : t.flag b i = s.flag b i := by
  rw [State.flag, h.2.1 b hb, State.flag]

theorem EventOnly.fget {s t : State} (h : EventOnly s t) {b : Nat} (hb : ¬ eventReg b) (hi lo : Nat) :
    t.fget b hi lo = s.fget b hi lo := by
  rw [State.fget, h.2.1 b hb, State.fget]

/-- The event registers lie in SYS between 0x2000001800 and 0x20000019D4. -/
theorem not_eventReg {b : Nat} (h : b < 0x2000001800 ∨ 0x2000002000 ≤ b) : ¬ eventReg b := by
  rintro (⟨i, hi, e⟩ | ⟨t, ht, e⟩)
  · unfold Reg.sysEvtPend at e; omega
  · unfold Reg.sysEvqDrops at e; omega

/-! ## Operations that change registers only -/

/-- `t` differs from `s` in registers of `A` and in the event machinery alone. -/
def RegsOnly (A : Nat → Prop) (s t : State) : Prop :=
  (∃ f q, t = { s with regs := f, evq := q }) ∧ ∀ b, ¬ A b → ¬ eventReg b → t.reg b = s.reg b

theorem RegsOnly.refl (A : Nat → Prop) (s : State) : RegsOnly A s s := ⟨⟨s.regs, s.evq, rfl⟩, fun _ _ _ => rfl⟩

theorem RegsOnly.trans {A : Nat → Prop} {s t u : State} (h : RegsOnly A s t) (g : RegsOnly A t u) : RegsOnly A s u := by
  obtain ⟨⟨f, q, rfl⟩, h2⟩ := h
  obtain ⟨⟨f', q', rfl⟩, g2⟩ := g
  exact ⟨⟨f', q', rfl⟩, fun b hb he => (g2 b hb he).trans (h2 b hb he)⟩

theorem RegsOnly.mono {A B : Nat → Prop} {s t : State} (h : RegsOnly A s t) (hAB : ∀ b, A b → B b) : RegsOnly B s t :=
  ⟨h.1, fun b hb => h.2 b fun ha => hb (hAB b ha)⟩

theorem EventOnly.regsOnly {s t : State} (h : EventOnly s t) (A : Nat → Prop) : RegsOnly A s t :=
  ⟨h.1, fun b _ hb => h.2.1 b hb⟩

theorem regsOnly_raise (A : Nat → Prop) (src : Nat) (s : State) (h : src < 512) : RegsOnly A s (raise src s) :=
  (raise_eventOnly src s h).regsOnly A

theorem RegsOnly.raise {A : Nat → Prop} {s t : State} (h : RegsOnly A s t) (src : Nat) (hs : src < 512) :
    RegsOnly A s (Sys2Proof.Machine.raise src t) := h.trans (regsOnly_raise A src t hs)

theorem RegsOnly.setReg {A : Nat → Prop} {s t : State} (h : RegsOnly A s t) {a : Nat} (w : Word) (ha : A a) :
    RegsOnly A s (t.setReg a w) :=
  h.trans ⟨⟨_, t.evq, rfl⟩, fun _ hb _ => State.reg_setReg_ne _ _ fun e => hb (e ▸ ha)⟩

theorem RegsOnly.setN {A : Nat → Prop} {s t : State} (h : RegsOnly A s t) {a : Nat} (x : Nat) (ha : A a) :
    RegsOnly A s (t.setN a x) := h.setReg _ ha

theorem RegsOnly.fset {A : Nat → Prop} {s t : State} (h : RegsOnly A s t) {a : Nat} (hi lo x : Nat) (ha : A a) :
    RegsOnly A s (t.fset a hi lo x) := h.setReg _ ha

theorem RegsOnly.setFlag {A : Nat → Prop} {s t : State} (h : RegsOnly A s t) {a : Nat} (i : Nat) (b : Bool) (ha : A a) :
    RegsOnly A s (t.setFlag a i b) := h.setReg _ ha

theorem RegsOnly.stick {A : Nat → Prop} {s t : State} (h : RegsOnly A s t) {a : Nat} (i : Nat) (ha : A a) :
    RegsOnly A s (Sys2Proof.Machine.stick a i t) := h.setReg _ ha

theorem RegsOnly.ite {A : Nat → Prop} {s t u : State} {c : Prop} [Decidable c] (h : c → RegsOnly A s t)
    (g : ¬ c → RegsOnly A s u) : RegsOnly A s (if c then t else u) := by
  split
  · exact h ‹_›
  · exact g ‹_›

theorem RegsOnly.bumpW {A : Nat → Prop} {s t : State} (h : RegsOnly A s t) (w : Nat) {a : Nat} (ha : A a) :
    RegsOnly A s (Sys2Proof.Machine.bumpW w a t) :=
  RegsOnly.ite (fun _ => (h.setN _ ha).raise 473 (by norm_num)) fun _ => h.setN _ ha

theorem RegsOnly.bump {A : Nat → Prop} {s t : State} (h : RegsOnly A s t) {a : Nat} (ha : A a) :
    RegsOnly A s (Sys2Proof.Machine.bump a t) := h.bumpW 24 ha

/-- A saturating counter after one more event (R71). -/
theorem bumpW_reg (w : Nat) (s : State) {a : Nat} (h : ¬ eventReg a) :
    (bumpW w a s).reg a = BitVec.ofNat 32 (satWord w (s.reg a).toNat).1 := by
  unfold bumpW
  dsimp only
  split
  · rw [raise_reg 473 _ (by norm_num) h, State.reg_setN]
  · rw [State.reg_setN]

theorem bump_reg (s : State) {a : Nat} (h : ¬ eventReg a) :
    (bump a s).reg a = BitVec.ofNat 32 (satWord 24 (s.reg a).toNat).1 := bumpW_reg 24 s h

theorem bump_reg_ne (s : State) {a b : Nat} (h : b ≠ a) (hb : ¬ eventReg b) : (bump a s).reg b = s.reg b :=
  ((RegsOnly.refl (· = a) s).bump rfl).2 b h hb

theorem RegsOnly.logFull {A : Nat → Prop} {s t : State} (h : RegsOnly A s t) (cls : Nat) (ho : A Reg.logOvf) :
    RegsOnly A s (Sys2Proof.Machine.logFull cls t) :=
  RegsOnly.ite (fun _ => h) fun _ => (h.setFlag _ _ ho).raise 469 (by norm_num)

theorem RegsOnly.logBump {A : Nat → Prop} {s t : State} (h : RegsOnly A s t) (w cls : Nat) {a : Nat} (ha : A a)
    (ho : A Reg.logOvf) : RegsOnly A s (Sys2Proof.Machine.logBump w a cls t) :=
  RegsOnly.ite (fun _ => h.logFull cls ho) fun _ =>
    RegsOnly.ite (fun _ => (h.setN _ ha).logFull cls ho) fun _ => h.setN _ ha

theorem RegsOnly.logBump40 {A : Nat → Prop} {s t : State} (h : RegsOnly A s t) (cls : Nat) {lo hi : Nat} (hl : A lo)
    (hh : A hi) (ho : A Reg.logOvf) : RegsOnly A s (Sys2Proof.Machine.logBump40 lo hi cls t) :=
  RegsOnly.ite (fun _ => h.logFull cls ho) fun _ =>
    RegsOnly.ite (fun _ => ((h.setN _ hl).fset 7 0 _ hh).logFull cls ho) fun _ => (h.setN _ hl).fset 7 0 _ hh

/-- A register of the fault log (R927 to R929): FAULT.HEAD, COUNT, OVERWRITE and the entries. -/
def faultReg (a : Nat) : Prop :=
  a = Reg.faultHead ∨ a = Reg.faultCount ∨ a = Reg.faultOverwrite ∨
    ∃ i < 64, a = Reg.faultLogW0 i ∨ a = Reg.faultLogW1 i ∨ a = Reg.faultLogW2 i ∨ a = Reg.faultLogW3 i

/-- Everything that a new entry of the fault log can do. -/
theorem RegsOnly.logFault {A : Nat → Prop} {s t : State} (h : RegsOnly A s t) (f : FaultRec) (hA : ∀ a, faultReg a → A a) :
    RegsOnly A s (Sys2Proof.Machine.logFault f t) := by
  have e : ∀ i < 64, A (Reg.faultLogW0 i) ∧ A (Reg.faultLogW1 i) ∧ A (Reg.faultLogW2 i) ∧ A (Reg.faultLogW3 i) := fun i hi =>
    ⟨hA _ (.inr (.inr (.inr ⟨i, hi, .inl rfl⟩))), hA _ (.inr (.inr (.inr ⟨i, hi, .inr (.inl rfl)⟩))),
      hA _ (.inr (.inr (.inr ⟨i, hi, .inr (.inr (.inl rfl))⟩))), hA _ (.inr (.inr (.inr ⟨i, hi, .inr (.inr (.inr rfl))⟩)))⟩
  obtain ⟨e0, e1, e2, e3⟩ := e (t.fget Reg.faultHead 5 0) (fld_lt _ 5 0)
  have key := fun x1 x2 x3 x4 : Nat =>
    ((((h.setReg t.tbNs e0).setN x1 e1).setN x2 e2).setN x3 e3).fset 5 0 x4 (hA _ (.inl rfl))
  exact RegsOnly.raise (RegsOnly.ite (fun _ => (key _ _ _ _).bump (hA _ (.inr (.inr (.inl rfl)))))
    fun _ => (key _ _ _ _).fset 6 0 _ (hA _ (.inr (.inl rfl)))) 454 (by norm_num)

/-- Word 1 of a fault-log entry (R928). -/
def faultWord1 (f : FaultRec) (s : State) : Nat :=
  f.action % 8 * 2 ^ 29 + (if f.stn.isNone then 2 ^ 28 else 0) + (f.stn.getD 0) % 16 * 2 ^ 24 + f.code % 256 * 2 ^ 16
    + s.tb.lt.toNat / 2 ^ 32

/-- The four words that a new entry of the fault log holds, and the event that it raises (R927 to R929). -/
theorem logFault_words (f : FaultRec) (s : State) :
    (logFault f s).reg (Reg.faultLogW0 (s.fget Reg.faultHead 5 0)) = s.tbNs ∧
    (logFault f s).reg (Reg.faultLogW1 (s.fget Reg.faultHead 5 0)) = BitVec.ofNat 32 (faultWord1 f s) ∧
    (logFault f s).reg (Reg.faultLogW2 (s.fget Reg.faultHead 5 0)) =
      BitVec.ofNat 32 (f.detail % 65536 * 65536 + f.index % 256 * 256 + f.unit % 256) ∧
    (logFault f s).reg (Reg.faultLogW3 (s.fget Reg.faultHead 5 0)) = BitVec.ofNat 32 f.bale ∧
    (logFault f s).flag (Reg.sysEvtPend 14) 6 = true := by
  generalize hi : s.fget Reg.faultHead 5 0 = i
  have key : ∀ b, 0x2000A00100 ≤ b → (logFault f s).reg b =
      ((((s.setReg (Reg.faultLogW0 i) s.tbNs).setN (Reg.faultLogW1 i) (faultWord1 f s)).setN (Reg.faultLogW2 i)
        (f.detail % 65536 * 65536 + f.index % 256 * 256 + f.unit % 256)).setN (Reg.faultLogW3 i) f.bale).reg b := by
    intro b hb
    have he : ¬ eventReg b := not_eventReg (.inr (by omega))
    unfold logFault
    dsimp only
    rw [raise_reg 454 _ (by norm_num) he, hi]
    split
    · rw [bump_reg_ne _ (by unfold Reg.faultOverwrite; omega) he, State.reg_fset_ne _ _ _ _ (by unfold Reg.faultHead; omega)]
      rfl
    · rw [State.reg_fset_ne _ _ _ _ (by unfold Reg.faultCount; omega), State.reg_fset_ne _ _ _ _ (by unfold Reg.faultHead; omega)]
      rfl
  refine ⟨?_, ?_, ?_, ?_, ?_⟩
  · rw [key _ (by unfold Reg.faultLogW0; omega), State.reg_setN_ne _ _ (by unfold Reg.faultLogW0 Reg.faultLogW3; omega),
      State.reg_setN_ne _ _ (by unfold Reg.faultLogW0 Reg.faultLogW2; omega),
      State.reg_setN_ne _ _ (by unfold Reg.faultLogW0 Reg.faultLogW1; omega), State.reg_setReg]
  · rw [key _ (by unfold Reg.faultLogW1; omega), State.reg_setN_ne _ _ (by unfold Reg.faultLogW1 Reg.faultLogW3; omega),
      State.reg_setN_ne _ _ (by unfold Reg.faultLogW1 Reg.faultLogW2; omega), State.reg_setN]
  · rw [key _ (by unfold Reg.faultLogW2; omega), State.reg_setN_ne _ _ (by unfold Reg.faultLogW2 Reg.faultLogW3; omega),
      State.reg_setN]
  · rw [key _ (by unfold Reg.faultLogW3; omega), State.reg_setN]
  · unfold logFault
    exact raise_pend 454 _ (by norm_num)

end Sys2Proof.Machine
end

