-- ==== Sys2Proof/Laws/Frame.lean ====
section
/-! SUPPORT. From what the shared operations can do to the frames that the statements speak of. -/

namespace Sys2Proof.Machine

theorem kept_of_regsOnly {A : List Nat} {s t : State} (h : RegsOnly (· ∈ A) s t) : RegFile.kept A s.regs t.regs :=
  fun b hb h1 h2 => h.2 b hb (by rintro (⟨i, hi, e⟩ | ⟨i, hi, e⟩); exacts [h1 i hi e, h2 i hi e])

/-- A command that ends with `done` and has changed registers of `A` alone. -/
theorem done_onlyRegs {A : List Nat} {s u : State} (h : RegsOnly (· ∈ A) s.begin_ u) :
    ∃ t, done s u = .next t ∧ t.regs = u.regs ∧ t.evq = u.evq ∧ State.onlyRegs A s t := by
  have hk := kept_of_regsOnly h
  obtain ⟨⟨f, q, rfl⟩, h2⟩ := h
  exact ⟨_, rfl, rfl, rfl, rfl, hk⟩

theorem mem_faultRegs {a : Nat} (h : faultReg a) : a ∈ faultRegs := by
  rcases h with h | h | h | ⟨i, hi, h⟩
  · simp [faultRegs, h]
  · simp [faultRegs, h]
  · simp [faultRegs, h]
  · refine List.mem_append_right _ (List.mem_flatMap.2 ⟨i, List.mem_range.2 hi, ?_⟩)
    simpa using h

theorem reg_congr {s t : State} (h : t.regs = s.regs) (a : Nat) : t.reg a = s.reg a := by rw [State.reg, h, State.reg]

theorem flag_congr {s t : State} (h : t.regs = s.regs) (a i : Nat) : t.flag a i = s.flag a i := by
  rw [State.flag, reg_congr h, State.flag]

theorem fget_congr {s t : State} (h : t.regs = s.regs) (a hi lo : Nat) : t.fget a hi lo = s.fget a hi lo := by
  rw [State.fget, reg_congr h, State.fget]

/-! ## Pending events stay pending -/

theorem pendingEvent_raise_self (src : Nat) (s : State) (h : src < 512) : (raise src s).pendingEvent src = true :=
  raise_pend src s h

theorem pendingEvent_raise (src e : Nat) {s : State} (h : src < 512) (he : e < 512) (hp : s.pendingEvent e = true) :
    (raise src s).pendingEvent e = true := (raise_eventOnly src s h).2.2 _ (by omega) _ hp

theorem pendingEvent_setReg (s : State) {a : Nat} (w : Word) (e : Nat) (ha : ¬ eventReg a) (he : e < 512) :
    (s.setReg a w).pendingEvent e = s.pendingEvent e := by
  unfold State.pendingEvent State.flag
  rw [State.reg_setReg_ne _ _ fun h => ha (.inl ⟨e / 32, by omega, h.symm⟩)]

theorem pendingEvent_setN (s : State) {a : Nat} (x e : Nat) (ha : ¬ eventReg a) (he : e < 512) :
    (s.setN a x).pendingEvent e = s.pendingEvent e := pendingEvent_setReg s _ e ha he

theorem pendingEvent_fset (s : State) {a : Nat} (hi lo x e : Nat) (ha : ¬ eventReg a) (he : e < 512) :
    (s.fset a hi lo x).pendingEvent e = s.pendingEvent e := pendingEvent_setReg s _ e ha he

theorem pendingEvent_setFlag (s : State) {a : Nat} (i : Nat) (b : Bool) (e : Nat) (ha : ¬ eventReg a) (he : e < 512) :
    (s.setFlag a i b).pendingEvent e = s.pendingEvent e := pendingEvent_setReg s _ e ha he

theorem pendingEvent_bumpW (w : Nat) {s : State} {a : Nat} (e : Nat) (ha : ¬ eventReg a) (he : e < 512)
    (hp : s.pendingEvent e = true) : (bumpW w a s).pendingEvent e = true := by
  unfold bumpW
  dsimp only
  split
  · exact pendingEvent_raise 473 e (by norm_num) he ((pendingEvent_setN s _ e ha he).trans hp)
  · exact (pendingEvent_setN s _ e ha he).trans hp

theorem pendingEvent_logFault (f : FaultRec) {s : State} (e : Nat) (he : e < 512) (hp : s.pendingEvent e = true) :
    (logFault f s).pendingEvent e = true := by
  have hf : ∀ b, 0x2000A00000 ≤ b → ¬ eventReg b := fun b hb => not_eventReg (.inr (by omega))
  unfold logFault
  dsimp only
  apply pendingEvent_raise 454 e (by norm_num) he
  have key : ∀ x1 x2 x3 x4 : Nat, (((((s.setReg (Reg.faultLogW0 (s.fget Reg.faultHead 5 0)) s.tbNs).setN
      (Reg.faultLogW1 (s.fget Reg.faultHead 5 0)) x1).setN (Reg.faultLogW2 (s.fget Reg.faultHead 5 0)) x2).setN
      (Reg.faultLogW3 (s.fget Reg.faultHead 5 0)) x3).fset Reg.faultHead 5 0 x4).pendingEvent e = true := by
    intro x1 x2 x3 x4
    rw [pendingEvent_fset _ _ _ _ _ (hf _ (by unfold Reg.faultHead; omega)) he,
      pendingEvent_setN _ _ _ (hf _ (by unfold Reg.faultLogW3; omega)) he,
      pendingEvent_setN _ _ _ (hf _ (by unfold Reg.faultLogW2; omega)) he,
      pendingEvent_setN _ _ _ (hf _ (by unfold Reg.faultLogW1; omega)) he,
      pendingEvent_setReg _ _ _ (hf _ (by unfold Reg.faultLogW0; omega)) he, hp]
  split
  · exact pendingEvent_bumpW 24 e (hf _ (by unfold Reg.faultOverwrite; omega)) he (key _ _ _ _)
  · rw [pendingEvent_fset _ _ _ _ _ (hf _ (by unfold Reg.faultCount; omega)) he]; exact key _ _ _ _

/-- A register that a new entry of the fault log does not hold. -/
theorem logFault_reg_ne (f : FaultRec) (s : State) {b : Nat} (h : b < 0x2000A00000 ∨ 0x2000A00500 ≤ b) (he : ¬ eventReg b) :
    (logFault f s).reg b = s.reg b := by
  refine ((RegsOnly.refl faultReg s).logFault f fun _ h => h).2 b ?_ he
  rintro (e | e | e | ⟨i, hi, e | e | e | e⟩) <;>
    · first
        | unfold Reg.faultHead at e
        | unfold Reg.faultCount at e
        | unfold Reg.faultOverwrite at e
        | unfold Reg.faultLogW0 at e
        | unfold Reg.faultLogW1 at e
        | unfold Reg.faultLogW2 at e
        | unfold Reg.faultLogW3 at e
      omega

end Sys2Proof.Machine
end

