-- ==== Sys2Proof/Laws/Exec.lean ====
section
/-! SUPPORT. The shape that every command has: it ends by `finish`, with the writes to memory that it lists. -/

namespace Sys2Proof.Machine

/-- A command answers the state that `finish` makes, and writes only what its kind may write. -/
def Ends (c : Instr) (s : State) (o : Host.Outcome State Fault Refusal) : Prop :=
  ∃ sc u d f r z, o = finish sc s u d f r z ∧ (writesDram c = false → d = []) ∧ (writesFlash c = false → f = []) ∧
    (writesSram c = false → r = [] ∧ z = []) ∧ (writesOtp c = false → sc.otp = false) ∧ (movesTime c = false → sc.tb = false)

theorem ends_finish {c : Instr} {s u : State} {sc : Scope} {d f r : Writes} {z : List (Nat × Nat)}
    (hd : writesDram c = false → d = []) (hf : writesFlash c = false → f = [])
    (hr : writesSram c = false → r = [] ∧ z = []) (ho : writesOtp c = false → sc.otp = false)
    (ht : movesTime c = false → sc.tb = false) : Ends c s (finish sc s u d f r z) :=
  ⟨sc, u, d, f, r, z, rfl, hd, hf, hr, ho, ht⟩

theorem ends_done (c : Instr) (s u : State) : Ends c s (done s u) :=
  ends_finish (fun _ => rfl) (fun _ => rfl) (fun _ => ⟨rfl, rfl⟩) (fun _ => rfl) (fun _ => rfl)

theorem ends_ite {c : Instr} {s : State} {p : Prop} [Decidable p] {a b : Host.Outcome State Fault Refusal}
    (h : p → Ends c s a) (g : ¬ p → Ends c s b) : Ends c s (if p then a else b) := by
  split
  · exact h ‹_›
  · exact g ‹_›

theorem ends_serve {c : Instr} {s : State} (sc : Scope) (cmd : Nat) (f : List Byte → State → Reply)
    (hd : writesDram c = false → ∀ p t, (f p t).dram = []) (hf : writesFlash c = false → ∀ p t, (f p t).flash = [])
    (ho : writesOtp c = false → sc.otp = false) (ht : movesTime c = false → sc.tb = false) :
    Ends c s (serve sc cmd f s) := by
  unfold serve
  dsimp only
  split
  · split
    · refine ends_finish (fun h => ?_) (fun h => ?_) (fun _ => ⟨rfl, rfl⟩) ho ht
      · split
        · exact hd h _ _
        · rfl
      · split
        · exact hf h _ _
        · rfl
    · exact ends_done _ _ _
  · exact ends_done _ _ _

theorem sized_dram {n : Nat} {f : State → Reply} (h : ∀ t, (f t).dram = []) (p : List Byte) (t : State) : (sized n f p t).dram = [] := by
  unfold sized; split
  · exact h t
  · rfl
theorem sized_flash {n : Nat} {f : State → Reply} (h : ∀ t, (f t).flash = []) (p : List Byte) (t : State) : (sized n f p t).flash = [] := by
  unfold sized; split
  · exact h t
  · rfl
theorem ends_loadEnd (x : List (Nat × Nat)) (s : State) : Ends (.loadEnd x) s (exec (.loadEnd x) s) := by
  simp only [exec, execLoadEnd]
  split
  · exact ends_done _ _ _
  · exact ends_finish (by simp [writesDram]) (by simp) (by simp) (by simp) (by simp)

theorem ends_uartTxByte (u : Nat) (s : State) : Ends (.uartTxByte u) s (exec (.uartTxByte u) s) := by
  simp only [exec, execUartTxByte]; split <;> exact ends_done _ _ _

theorem ends_i2cCmdDone (a : Nat) (b : Byte) (n : Bool) (s : State) : Ends (.i2cCmdDone a b n) s (exec (.i2cCmdDone a b n) s) := by
  simp only [exec, execI2cCmdDone]; split <;> exact ends_done _ _ _

theorem ends_getInfo (s : State) : Ends (.getInfo) s (exec (.getInfo) s) := by
  change Ends _ _ (execGetInfo s)
  unfold execGetInfo
  exact ends_serve _ _ _ (fun _ => sized_dram fun _ => rfl) (fun _ => sized_flash fun _ => rfl) (by simp) (by simp)

theorem ends_getMuster (s : State) : Ends (.getMuster) s (exec (.getMuster) s) := by
  change Ends _ _ (execGetMuster s)
  unfold execGetMuster
  exact ends_serve _ _ _ (fun _ => sized_dram fun _ => rfl) (fun _ => sized_flash fun _ => rfl) (by simp) (by simp)

theorem ends_getDefectMap (s : State) : Ends (.getDefectMap) s (exec (.getDefectMap) s) := by
  change Ends _ _ (execGetDefectMap s)
  unfold execGetDefectMap
  exact ends_serve _ _ _ (fun _ => sized_dram fun _ => rfl) (fun _ => sized_flash fun _ => rfl) (by simp) (by simp)

theorem ends_getFaultLog (s : State) : Ends (.getFaultLog) s (exec (.getFaultLog) s) := by
  change Ends _ _ (execGetFaultLog s)
  unfold execGetFaultLog
  refine ends_serve _ _ _ (fun _ p => sized_dram (fun t => ?_) p) (fun _ p => sized_flash (fun t => ?_) p) (by simp) (by simp)
  all_goals (unfold faultReport; dsimp only; split <;> rfl)

theorem ends_getLogbook (s : State) : Ends (.getLogbook) s (exec (.getLogbook) s) := by
  change Ends _ _ (execGetLogbook s)
  unfold execGetLogbook
  refine ends_serve _ _ _ (fun _ p => sized_dram (fun t => ?_) p) (fun _ p => sized_flash (fun t => ?_) p) (by simp) (by simp)
  all_goals (unfold logReport; dsimp only; repeat' split) <;> rfl

theorem ends_readReg (s : State) : Ends (.readReg) s (exec (.readReg) s) := by
  change Ends _ _ (execReadReg s)
  unfold execReadReg
  refine ends_serve _ _ _ (fun _ p => sized_dram (fun t => ?_) p) (fun _ p => sized_flash (fun t => ?_) p) (by simp) (by simp)
  all_goals (unfold regReport; dsimp only; repeat' split) <;> rfl

theorem ends_writeReg (s : State) : Ends (.writeReg) s (exec (.writeReg) s) := by
  change Ends _ _ (execWriteReg s)
  unfold execWriteReg
  exact ends_serve _ _ _ (by simp [writesDram]) (by simp [writesFlash]) (by simp) (by simp [movesTime])

theorem ends_flashBegin (s : State) : Ends (.flashBegin) s (exec (.flashBegin) s) := by
  change Ends _ _ (execFlashBegin s)
  unfold execFlashBegin
  refine ends_serve _ _ _ (fun _ p => sized_dram (fun t => ?_) p) (by simp [writesFlash]) (by simp) (by simp)
  (unfold flashStart; dsimp only; repeat' split) <;> rfl

theorem ends_flashData (s : State) : Ends (.flashData) s (exec (.flashData) s) := by
  change Ends _ _ (execFlashData s)
  unfold execFlashData
  refine ends_serve _ _ _ (fun _ p t => ?_) (by simp [writesFlash]) (by simp) (by simp)
  (unfold flashBytes; dsimp only; repeat' split) <;> rfl

theorem ends_flashEnd (s : State) : Ends (.flashEnd) s (exec (.flashEnd) s) := by
  change Ends _ _ (execFlashEnd s)
  unfold execFlashEnd
  refine ends_serve _ _ _ (fun _ p => sized_dram (fun t => ?_) p) (by simp [writesFlash]) (by simp) (by simp)
  (unfold flashStop; dsimp only; repeat' split) <;> rfl

theorem ends_approveRow (s : State) : Ends (.approveRow) s (exec (.approveRow) s) := by
  change Ends _ _ (execApproveRow s)
  unfold execApproveRow
  refine ends_serve _ _ _ (fun _ p => sized_dram (fun t => ?_) p) (fun _ p => sized_flash (fun t => ?_) p) (by simp) (by simp)
  all_goals (unfold Machine.approveRow; dsimp only; repeat' split) <;> rfl

theorem ends_revokeSlot (s : State) : Ends (.revokeSlot) s (exec (.revokeSlot) s) := by
  change Ends _ _ (execRevokeSlot s)
  unfold execRevokeSlot
  refine ends_serve _ _ _ (fun _ p => sized_dram (fun t => ?_) p) (fun _ p => sized_flash (fun t => ?_) p) (by simp [writesOtp]) (by simp)
  all_goals (unfold Machine.revokeSlot; dsimp only; repeat' split) <;> rfl

theorem ends_reset (s : State) : Ends (.reset) s (exec (.reset) s) := by
  change Ends _ _ (execReset s)
  unfold execReset
  refine ends_serve _ _ _ (fun _ p => sized_dram (fun t => ?_) p) (by simp [writesFlash]) (by simp) (by simp)
  (unfold portReset; dsimp only; repeat' split) <;> rfl

theorem ends_bootHold (s : State) : Ends (.bootHold) s (exec (.bootHold) s) := by
  change Ends _ _ (execBootHold s)
  unfold execBootHold
  exact ends_serve _ _ _ (fun _ => sized_dram fun _ => rfl) (fun _ => sized_flash fun _ => rfl) (by simp) (by simp)

theorem ends_sysRstNLow (n : Nat) (s : State) : Ends (.sysRstNLow n) s (exec (.sysRstNLow n) s) := by
  exact ends_ite (fun _ => ends_finish (by simp) (by simp [writesFlash]) (by simp) (by simp) (by simp [movesTime])) fun _ =>
    ends_finish (by simp) (by simp) (by simp) (by simp) (by simp)

theorem ends_mainPowerLoss (s : State) : Ends (.mainPowerLoss) s (exec (.mainPowerLoss) s) := by
  exact ends_ite (fun _ => ends_finish (by simp) (by simp [writesFlash]) (by simp) (by simp) (by simp [movesTime])) fun _ =>
    ends_done _ _ _

theorem ends_ispPassEnd (c : Nat) (e : Bool) (s : State) : Ends (.ispPassEnd c e) s (exec (.ispPassEnd c e) s) := by
  exact ends_ite (fun _ => ends_done _ _ _) fun _ => ends_finish (by simp [writesDram]) (by simp) (by simp) (by simp) (by simp)

theorem ends_pageFetchEnd (a b c : Nat) (e : Bool) (s : State) : Ends (.pageFetchEnd a b c e) s (exec (.pageFetchEnd a b c e) s) := by
  simp only [exec, execPageFetchEnd]
  repeat' split
  all_goals first
    | exact ends_done _ _ _
    | exact ends_finish (by simp) (by simp) (by simp [writesSram]) (by simp) (by simp)

theorem ends_tileScrubEnd (k : Nat) (s : State) : Ends (.tileScrubEnd k) s (exec (.tileScrubEnd k) s) := by
  exact ends_ite (fun _ => ends_finish (by simp) (by simp) (by simp [writesSram]) (by simp) (by simp)) fun _ => ends_done _ _ _

theorem ends_mainPowerReturn (s : State) : Ends (.mainPowerReturn) s (exec (.mainPowerReturn) s) := by
  exact ends_ite (fun _ => ends_done _ _ _) fun _ => ends_finish (by simp) (by simp) (by simp) (by simp) (by simp [movesTime])

/-- Every command ends by `finish`, with the writes that its kind may make. -/
theorem exec_ends (c : Instr) (s : State) : Ends c s (exec c s) := by
  cases c
  all_goals first
    | exact ends_done _ _ _
    | exact ends_finish (by simp [writesDram]) (by simp [writesFlash]) (by simp [writesSram]) (by simp [writesOtp])
        (by simp [movesTime])
    | exact ends_loadEnd _ _
    | exact ends_uartTxByte _ _
    | exact ends_i2cCmdDone _ _ _ _
    | exact ends_getInfo _
    | exact ends_getMuster _
    | exact ends_getDefectMap _
    | exact ends_getFaultLog _
    | exact ends_getLogbook _
    | exact ends_readReg _
    | exact ends_writeReg _
    | exact ends_flashBegin _
    | exact ends_flashData _
    | exact ends_flashEnd _
    | exact ends_approveRow _
    | exact ends_revokeSlot _
    | exact ends_reset _
    | exact ends_bootHold _
    | exact ends_sysRstNLow _ _
    | exact ends_mainPowerLoss _
    | exact ends_ispPassEnd _ _ _
    | exact ends_pageFetchEnd _ _ _ _ _
    | exact ends_tileScrubEnd _ _
    | exact ends_mainPowerReturn _

end Sys2Proof.Machine
end

