-- ==== Sys2Proof/Laws/Wire.lean ====
section
/-! SUPPORT. What the lanes' scrambler and the round-robin of the engines and links can do. -/

namespace Sys2Proof.Machine

/-- A receiver whose register holds what the transmitter's held gets the payload back, and its register follows (R569). -/
theorem descramble_scramble (n r x : Nat) : descramble n r (scramble n r x).1 = (x % 2 ^ n, (scramble n r x).2) := by
  induction n generalizing r x with
  | zero => simp [descramble, scramble, Nat.mod_one]
  | succ n ih =>
    simp only [scramble, descramble]
    generalize hq : scramble n ((2 * r + (x + r / 2 ^ 38 + r / 2 ^ 57) % 2) % 2 ^ 58) (x / 2) = q
    have h1 : ((x + r / 2 ^ 38 + r / 2 ^ 57) % 2 + 2 * q.1) % 2 = (x + r / 2 ^ 38 + r / 2 ^ 57) % 2 := by omega
    have h2 : ((x + r / 2 ^ 38 + r / 2 ^ 57) % 2 + 2 * q.1) / 2 = q.1 := by omega
    have h3 : ((x + r / 2 ^ 38 + r / 2 ^ 57) % 2 + 2 * q.1 + r / 2 ^ 38 + r / 2 ^ 57) % 2 = x % 2 := by omega
    have e := ih ((2 * r + (x + r / 2 ^ 38 + r / 2 ^ 57) % 2) % 2 ^ 58) (x / 2)
    rw [hq] at e
    rw [h1, h2, h3, e]
    refine Prod.ext ?_ rfl
    have : 2 ^ (n + 1) = 2 * 2 ^ n := by ring
    rw [this, Nat.mod_mul]

/-- The round-robin serves a queue that waits (R366, R379, R467, R593, R813). -/
theorem drrNext_mem {qs : List (Nat × Nat × Nat × Nat)} {k : Nat} {ds : List (Nat × Nat)} (h : drrNext qs = some (k, ds)) :
    ∃ q ∈ qs, q.1 = k := by
  unfold drrNext at h
  dsimp only at h
  split at h
  · obtain ⟨q, hq, e⟩ := Option.map_eq_some_iff.1 h
    exact ⟨q, List.mem_of_mem_head? hq, congrArg Prod.fst e⟩
  · rename_i q r hl
    obtain ⟨w, hw, e⟩ := Option.map_eq_some_iff.1 h
    obtain ⟨g, hg, rfl⟩ := List.mem_map.1 (List.mem_of_find?_eq_some hw)
    exact ⟨g, List.mem_of_mem_filter hg, congrArg Prod.fst e⟩

end Sys2Proof.Machine
end

