-- ==== Sys2Proof/WellFormed.lean ====
section
/-! DEFINITION. Well-formed commands: every operand names something that the device has, or fits the field that carries
it. -/

namespace Sys2Proof

/-- The command is well formed: the initiators of R101, the 40-bit address space of R1014, the units of each kind, and the
field widths of R574, R594 and R808. Commands of the Khan name a bale by its number, which for a copy or a replay lies above the bale IDs. -/
def Instr.wf : Instr → Bool
  | .registerWrite ini addr _ => decide (ini < 15) && decide (addr < 2 ^ 40)
  | .counterClr ini addr => decide (ini < 15) && decide (addr < 2 ^ 40)
  | .commitGo ini addr => decide (ini < 15) && decide (addr < 2 ^ 40)
  | .wideLowRead ini addr => decide (ini < 15) && decide (addr < 2 ^ 40)
  | .mileEntryRead ini e => decide (ini < 15) && decide (e < 4096)
  | .faultEntryRead ini i => decide (ini < 15) && decide (i < 64)
  | .ptpTsLoRead ini port dir => decide (ini < 15) && decide (port < 2) && decide (dir < 2)
  | .ptpTsIdRead ini port dir => decide (ini < 15) && decide (port < 2) && decide (dir < 2)
  | .mboxDataHiRead ini n => decide (ini < 15) && decide (n < 16)
  | .dropPkt ini n => decide (ini < 15) && decide (n < 16)
  | .evqHiRead ini t => decide (ini < 15) && decide (t < 13)
  | .evtRouteWrite ini src _ => decide (ini < 15) && decide (src < 512)
  | .loadFull ini => decide (ini < 15)
  | .loadStation ini => decide (ini < 15)
  | .abort ini => decide (ini < 15)
  | .cancelPending ini stn => decide (ini < 15) && decide (stn < 16)
  | .loadEnd _ => true
  | .retireCmd ini key tile => decide (ini < 15) && decide (key < 256) && decide (tile < 128)
  | .sparePowered tile => decide (tile < 72)
  | .spareBistEnd tile _ => decide (tile < 72)
  | .fmapWriteEnd => true
  | .trigEnSet ini stn => decide (ini < 15) && decide (stn < 16)
  | .armGrant stn => decide (stn < 16)
  | .trigEnClear ini stn => decide (ini < 15) && decide (stn < 16)
  | .cancelAll ini stn => decide (ini < 15) && decide (stn < 16)
  | .stopClr ini stn => decide (ini < 15) && decide (stn < 16)
  | .stopSet ini stn => decide (ini < 15) && decide (stn < 16)
  | .arm ini ch => decide (ini < 15) && decide (ch < 16)
  | .rearm ini ch => decide (ini < 15) && decide (ch < 32)
  | .grpRearm ini g => decide (ini < 15) && decide (g < 4)
  | .cntClr ini ch => decide (ini < 15) && decide (ch < 32)
  | .on ini ch _ => decide (ini < 15) && decide (ch < 32)
  | .fioTest ini ch us => decide (ini < 15) && decide (ch < 32) && decide (us < 2 ^ 16)
  | .captureGo ini cam => decide (ini < 15) && decide (cam < 32)
  | .captureDone => true
  | .replayGo ini stn => decide (ini < 15) && decide (stn < 16)
  | .dispRd ini ctx idx => decide (ini < 15) && decide (ctx < 16) && decide (idx < 2 ^ 16)
  | .codeRd ini ctx idx => decide (ini < 15) && decide (ctx < 16) && decide (idx < 2 ^ 16)
  | .tbIncr ini _ => decide (ini < 15)
  | .tbStep ini _ => decide (ini < 15)
  | .incrTimeCorr _ => true
  | .stepTimeCorr _ => true
  | .tbWrap => true
  | .sync ini => decide (ini < 15)
  | .mirrorInterval => true
  | .mirrorWriteEnd _ => true
  | .calSet ini => decide (ini < 15)
  | .calendarSecond => true
  | .powerOnHour => true
  | .appStart ini cores => decide (ini < 15) && decide (cores < 16)
  | .resetCmdWrite ini key => decide (ini < 15) && decide (key < 256)
  | .wdogKick ini key core => decide (ini < 15) && decide (key < 256) && decide (core < 16)
  | .mtimecmpWrite ini c _ => decide (ini < 15) && decide (c < 4)
  | .sportDataWrite ini _ => decide (ini < 15)
  | .sportDataRead ini => decide (ini < 15)
  | .uartDataRead ini u => decide (ini < 15) && decide (u < 2)
  | .uartDataWrite ini u _ => decide (ini < 15) && decide (u < 2)
  | .uartRxByte u _ _ => decide (u < 2)
  | .uartTxByte u => decide (u < 2)
  | .start ini i => decide (ini < 15) && decide (i < 2)
  | .write ini i _ => decide (ini < 15) && decide (i < 2)
  | .readAck ini i => decide (ini < 15) && decide (i < 2)
  | .readNack ini i => decide (ini < 15) && decide (i < 2)
  | .stop ini i => decide (ini < 15) && decide (i < 2)
  | .i2cRxRead ini i => decide (ini < 15) && decide (i < 2)
  | .i2cCmdDone i _ _ => decide (i < 2)
  | .gpioEdge pin _ => decide (pin < 16)
  | .stewardFrame t _ => decide (t < 4)
  | .uartGapTimeout => true
  | .sptCsRise => true
  | .getInfo => true
  | .getMuster => true
  | .getDefectMap => true
  | .getFaultLog => true
  | .getLogbook => true
  | .readReg => true
  | .writeReg => true
  | .flashBegin => true
  | .flashData => true
  | .flashEnd => true
  | .approveRow => true
  | .revokeSlot => true
  | .reset => true
  | .bootHold => true
  | .sysRstNLow _ => true
  | .sysRstNRise => true
  | .musterPhaseEnd _ unit index _ => decide (unit < 256) && decide (index < 256)
  | .handoff => true
  | .mainPowerLoss => true
  | .vbatLow => true
  | .fioUv supply => decide (supply < 2)
  | .v24BLoss => true
  | .refclkLoss => true
  | .refclkSwitch => true
  | .refclkRecover ref => decide (ref < 2)
  | .refclkReturn => true
  | .lrefLoss side => decide (side < 2)
  | .lrefReturn side => decide (side < 2)
  | .nodeFail node => decide (node < 96)
  | .throttle b sensor _ => decide (b < 5) && decide (sensor < 64)
  | .thermalLimitRise b => decide (b < 5)
  | .thermalMax sensor _ => decide (sensor < 64)
  | .thermTrip sensor _ => decide (sensor < 64)
  | .thermalCycle _ => true
  | .powerMeasure mw => decide (mw < 2 ^ 16)
  | .placementWindow _ _ => true
  | .opRampEnd island => decide (island < 73)
  | .avsStep island slack => decide (island < 73) && decide (slack < 256)
  | .avsLimit island => decide (island < 73)
  | .domainOff d => decide (d < 16)
  | .domainOn d => decide (d < 16)
  | .odoInputAccept ch _ _ _ _ => decide (ch < 16)
  | .losSet ch => decide (ch < 16)
  | .losClear ch => decide (ch < 16)
  | .periodStall ch => decide (ch < 16)
  | .speedWindow stn => decide (stn < 16)
  | .refReturn stn => decide (stn < 16)
  | .synthTick stn _ => decide (stn < 16)
  | .synthMaxExpiry stn => decide (stn < 16)
  | .lineTrigDelayed cam => decide (cam < 32)
  | .fireAtResend e => decide (e < 4096)
  | .stallCancel stn => decide (stn < 16)
  | .fioInputAccept ch _ _ _ => decide (ch < 32)
  | .freqGateEnd ch => decide (ch < 32)
  | .freqTimeout ch => decide (ch < 32)
  | .peakEnd ch => decide (ch < 32)
  | .pulseEnd ch => decide (ch < 32)
  | .onCheck ch _ => decide (ch < 32)
  | .offCheck ch _ => decide (ch < 32)
  | .mergedPulseFree e => decide (e < 4096)
  | .fioOpen ch => decide (ch < 32)
  | .ocTrip ch => decide (ch < 32)
  | .therm ch => decide (ch < 32)
  | .grpOc g => decide (g < 4)
  | .dieLinkTimeout => true
  | .lineData cam bale line plane offset _ _ => decide (cam < 32) && decide (bale < 2 ^ 32) && decide (line < 2 ^ 16) && decide (plane < 3) && decide (offset < 2 ^ 10)
  | .lineMissing cam bale line => decide (cam < 32) && decide (bale < 2 ^ 32) && decide (line < 2 ^ 16)
  | .ispPassStart => true
  | .ispPassEnd ctx _ => decide (ctx < 16)
  | .jobDispatch stn _ => decide (stn < 16)
  | .pageFetchEnd tile page bale _ => decide (tile < 72) && decide (page < 2 ^ 16) && decide (bale < 2 ^ 64)
  | .layerStart bale layer tile _ => decide (bale < 2 ^ 64) && decide (layer < 2 ^ 12) && decide (tile < 72)
  | .layerEnd bale layer fault tile _ => decide (bale < 2 ^ 64) && decide (layer < 2 ^ 12) && decide (fault < 7) && decide (tile < 72)
  | .stripeJobEnd bale => decide (bale < 2 ^ 64)
  | .tileScrubEnd tile => decide (tile < 72)
  | .treePassStart => true
  | .treePassEnd err => decide (err < 3)
  | .verdictDone bale flip => decide (bale < 2 ^ 64) && decide (flip < 256)
  | .decodeToken stn dec => decide (stn < 16) && decide (dec < 2)
  | .cvHello link group count index _ digest => decide (link < 16) && decide (group < 32) && decide (count < 128) && decide (index < 64) && decide (digest < 2 ^ 64)
  | .cvData link group member _ tag base _ => decide (link < 16) && decide (group < 32) && decide (member < 64) && decide (tag < 2 ^ 32) && decide (base < 2 ^ 11)
  | .convoyTimeout group bale => decide (group < 32) && decide (bale < 2 ^ 64)
  | .fireReport link addr time rch result cmdId bale => decide (link < 16) && decide (addr < 64) && decide (time < 2 ^ 48) && decide (rch < 256) && decide (result < 256) && decide (cmdId < 2 ^ 16) && decide (bale < 2 ^ 32)
  | .reportTimeout e => decide (e < 4096)
  | .remoteFree e => decide (e < 4096)
  | .comparatorDisagree e => decide (e < 4096)
  | .khanFault => true
  | .khanRebuildEnd => true
  | .droverWatchdog d _ => decide (d < 8)
  | .stewardRollback => true
  | .appWdog c => decide (c < 4)
  | .busErr ini addr _ => decide (ini < 15) && decide (addr < 2 ^ 40)
  | .coreBlockedWrite core addr _ => decide (core < 4) && decide (addr < 2 ^ 40)
  | .train lane request status _ => decide (lane < 24) && decide (request < 2 ^ 16) && decide (status < 2 ^ 16)
  | .backChannelRequest lane request => decide (lane < 24) && decide (request < 2 ^ 16)
  | .laneTrainFail lane => decide (lane < 24)
  | .trainRetry lane => decide (lane < 24)
  | .laneLockLoss lane => decide (lane < 24)
  | .skipSend lane => decide (lane < 24)
  | .skipReceive lane => decide (lane < 24)
  | .ebSlip lane _ => decide (lane < 24)
  | .badControlBlock lane => decide (lane < 24)
  | .packetReceive link _ _ => decide (link < 16)
  | .nakRepeat link _ => decide (link < 16)
  | .ack link _ seq => decide (link < 16) && decide (seq < 2 ^ 12)
  | .nak link _ seq => decide (link < 16) && decide (seq < 2 ^ 12)
  | .replayTimeout link _ => decide (link < 16)
  | .credit link vc grant => decide (link < 16) && decide (vc < 4) && decide (grant < 2 ^ 16)
  | .creditRefresh link => decide (link < 16)
  | .announce link addr serial cls version => decide (link < 16) && decide (addr < 64) && decide (serial < 2 ^ 64) && decide (cls < 256) && decide (version < 256)
  | .timeReq link => decide (link < 16)
  | .timeResp link addr tag t2 t3 => decide (link < 16) && decide (addr < 64) && decide (tag < 2 ^ 16) && decide (t2 < 2 ^ 48) && decide (t3 < 2 ^ 48)
  | .strayedRetry link addr => decide (link < 16) && decide (addr < 64)
  | .power link addr target => decide (link < 16) && decide (addr < 64) && decide (1 ≤ target) && decide (target ≤ 2)
  | .powerResp link addr result => decide (link < 16) && decide (addr < 64) && decide (result < 3)
  | .segmentWake link addr => decide (link < 16) && decide (addr < 64)
  | .linkAligned link => decide (link < 16)
  | .event link addr code chan => decide (link < 16) && decide (addr < 64) && decide (code < 2 ^ 16) && decide (chan < 256)
  | .resp link addr tag status _ => decide (link < 16) && decide (addr < 64) && decide (tag < 256) && decide (status < 256)
  | .ioReport link addr time value => decide (link < 16) && decide (addr < 64) && decide (time < 2 ^ 48) && decide (value < 2 ^ 64)
  | .ptpEventMessage port dir msgType domain seq _ => decide (port < 2) && decide (dir < 2) && decide (msgType < 16) && decide (domain < 256) && decide (seq < 2 ^ 16)
  | .machineTimerInterrupt c => decide (c < 4)
  | .errorRateWindowEnd ch => decide (ch < 16)
  | .dieLinkReturn => true
  | .v24Return supply => decide (supply < 2)
  | .mainPowerReturn => true
  | .boundaryScanInstruction scan => decide (scan < 2 ^ 55)
  | .laneEyeUpdate lane height width => decide (lane < 24) && decide (height < 256) && decide (width < 256)
  | .prbsBitError lane => decide (lane < 24)

end Sys2Proof
end

