-- ==== Sys2Proof/Tests/Slice0.lean ====
section
/-! SUPPORT. The model's own tests: the checks of well-formedness, for each statement with hypotheses a concrete state
that meets the hypotheses of each of its clauses, and a few single steps with results that the manual states. -/

namespace Sys2Proof.Tests

-- One theorem after the other: the kernel evaluates long terms here, and many at once ask for too many threads.
set_option Elab.async false

open Sys2Proof Sys2Proof.Machine

/-! ## Well-formedness -/

/-- Each command with every bounded operand at the top of its range, part 1. -/
def wfTop1 : List Instr :=
  [.registerWrite 14 1099511627775 0, .counterClr 14 1099511627775, .commitGo 14 1099511627775,
   .wideLowRead 14 1099511627775, .mileEntryRead 14 4095, .faultEntryRead 14 63, .ptpTsLoRead 14 1 1,
   .ptpTsIdRead 14 1 1, .mboxDataHiRead 14 15, .dropPkt 14 15, .evqHiRead 14 12, .evtRouteWrite 14 511 0,
   .loadFull 14, .loadStation 14, .abort 14, .cancelPending 14 15, .loadEnd [], .retireCmd 14 255 127,
   .sparePowered 71, .spareBistEnd 71 true, .fmapWriteEnd, .trigEnSet 14 15, .armGrant 15, .trigEnClear 14 15,
   .cancelAll 14 15, .stopClr 14 15, .stopSet 14 15, .arm 14 15, .rearm 14 31, .grpRearm 14 3, .cntClr 14 31,
   .on 14 31 true, .fioTest 14 31 65535, .captureGo 14 31, .captureDone, .replayGo 14 15, .dispRd 14 15 65535,
   .codeRd 14 15 65535, .tbIncr 14 0, .tbStep 14 0, .incrTimeCorr 0, .stepTimeCorr 0, .tbWrap, .sync 14,
   .mirrorInterval, .mirrorWriteEnd true, .calSet 14, .calendarSecond, .powerOnHour, .appStart 14 15]

/-- Each command with every bounded operand at the top of its range, part 2. -/
def wfTop2 : List Instr :=
  [.resetCmdWrite 14 255, .wdogKick 14 255 15, .mtimecmpWrite 14 3 0, .sportDataWrite 14 0, .sportDataRead 14,
   .uartDataRead 14 1, .uartDataWrite 14 1 0, .uartRxByte 1 0 true, .uartTxByte 1, .start 14 1, .write 14 1 0,
   .readAck 14 1, .readNack 14 1, .stop 14 1, .i2cRxRead 14 1, .i2cCmdDone 1 0 true, .gpioEdge 15 true,
   .stewardFrame 3 [], .uartGapTimeout, .sptCsRise, .getInfo, .getMuster, .getDefectMap, .getFaultLog, .getLogbook,
   .readReg, .writeReg, .flashBegin, .flashData, .flashEnd, .approveRow, .revokeSlot, .reset, .bootHold,
   .sysRstNLow 0, .sysRstNRise, .musterPhaseEnd true 255 255 [], .handoff, .mainPowerLoss, .vbatLow, .fioUv 1,
   .v24BLoss, .refclkLoss, .refclkSwitch, .refclkRecover 1, .refclkReturn, .lrefLoss 1, .lrefReturn 1, .nodeFail 95,
   .throttle 4 63 0]

/-- Each command with every bounded operand at the top of its range, part 3. -/
def wfTop3 : List Instr :=
  [.thermalLimitRise 4, .thermalMax 63 0, .thermTrip 63 0, .thermalCycle 0, .powerMeasure 65535,
   .placementWindow [] [], .opRampEnd 72, .avsStep 72 255, .avsLimit 72, .domainOff 15, .domainOn 15,
   .odoInputAccept 15 true true true true, .losSet 15, .losClear 15, .periodStall 15, .speedWindow 15, .refReturn 15,
   .synthTick 15 0, .synthMaxExpiry 15, .lineTrigDelayed 31, .fireAtResend 4095, .stallCancel 15,
   .fioInputAccept 31 true 0 0, .freqGateEnd 31, .freqTimeout 31, .peakEnd 31, .pulseEnd 31, .onCheck 31 true,
   .offCheck 31 true, .mergedPulseFree 4095, .fioOpen 31, .ocTrip 31, .therm 31, .grpOc 3, .dieLinkTimeout,
   .lineData 31 4294967295 65535 2 1023 true [], .lineMissing 31 4294967295 65535, .ispPassStart,
   .ispPassEnd 15 true, .jobDispatch 15 none, .pageFetchEnd 71 65535 18446744073709551615 true,
   .layerStart 18446744073709551615 4095 71 true, .layerEnd 18446744073709551615 4095 6 71 [], .stripeJobEnd 18446744073709551615,
   .tileScrubEnd 71, .treePassStart, .treePassEnd 2, .verdictDone 18446744073709551615 255, .decodeToken 15 1,
   .cvHello 15 31 127 63 true 18446744073709551615]

/-- Each command with every bounded operand at the top of its range, part 4. -/
def wfTop4 : List Instr :=
  [.cvData 15 31 63 true 4294967295 2047 [], .convoyTimeout 31 18446744073709551615,
   .fireReport 15 63 281474976710655 255 255 65535 4294967295, .reportTimeout 4095, .remoteFree 4095,
   .comparatorDisagree 4095, .khanFault, .khanRebuildEnd, .droverWatchdog 7 [], .stewardRollback, .appWdog 3,
   .busErr 14 1099511627775 true, .coreBlockedWrite 3 1099511627775 [], .train 23 65535 65535 true,
   .backChannelRequest 23 65535, .laneTrainFail 23, .trainRetry 23, .laneLockLoss 23, .skipSend 23, .skipReceive 23,
   .ebSlip 23 true, .badControlBlock 23, .packetReceive 15 true [], .nakRepeat 15 true, .ack 15 true 4095,
   .nak 15 true 4095, .replayTimeout 15 true, .credit 15 3 65535, .creditRefresh 15,
   .announce 15 63 18446744073709551615 255 255, .timeReq 15, .timeResp 15 63 65535 281474976710655 281474976710655,
   .strayedRetry 15 63, .power 15 63 2, .powerResp 15 63 2, .segmentWake 15 63, .linkAligned 15,
   .event 15 63 65535 255, .resp 15 63 255 255 [], .ioReport 15 63 281474976710655 18446744073709551615,
   .ptpEventMessage 1 1 15 255 65535 true, .machineTimerInterrupt 3, .errorRateWindowEnd 15, .dieLinkReturn,
   .v24Return 1, .mainPowerReturn, .boundaryScanInstruction 36028797018963967, .laneEyeUpdate 23 255 255, .prbsBitError 23]

/-- Commands in which one operand has just left its range, part 1. -/
def wfBeyond1 : List Instr :=
  [.registerWrite 15 0 0, .registerWrite 0 1099511627776 0, .counterClr 15 0, .counterClr 0 1099511627776,
   .commitGo 15 0, .commitGo 0 1099511627776, .wideLowRead 15 0, .wideLowRead 0 1099511627776, .mileEntryRead 15 0,
   .mileEntryRead 0 4096, .faultEntryRead 15 0, .faultEntryRead 0 64, .ptpTsLoRead 15 0 0, .ptpTsLoRead 0 2 0,
   .ptpTsLoRead 0 0 2, .ptpTsIdRead 15 0 0, .ptpTsIdRead 0 2 0, .ptpTsIdRead 0 0 2, .mboxDataHiRead 15 0,
   .mboxDataHiRead 0 16, .dropPkt 15 0, .dropPkt 0 16, .evqHiRead 15 0, .evqHiRead 0 13, .evtRouteWrite 15 0 0,
   .evtRouteWrite 0 512 0, .loadFull 15, .loadStation 15, .abort 15, .cancelPending 15 0, .cancelPending 0 16,
   .retireCmd 15 0 0, .retireCmd 0 256 0, .retireCmd 0 0 128, .sparePowered 72, .spareBistEnd 72 true,
   .trigEnSet 15 0, .trigEnSet 0 16, .armGrant 16, .trigEnClear 15 0, .trigEnClear 0 16, .cancelAll 15 0,
   .cancelAll 0 16, .stopClr 15 0, .stopClr 0 16, .stopSet 15 0, .stopSet 0 16, .arm 15 0, .arm 0 16, .rearm 15 0]

/-- Commands in which one operand has just left its range, part 2. -/
def wfBeyond2 : List Instr :=
  [.rearm 0 32, .grpRearm 15 0, .grpRearm 0 4, .cntClr 15 0, .cntClr 0 32, .on 15 0 true, .on 0 32 true,
   .fioTest 15 0 0, .fioTest 0 32 0, .fioTest 0 0 65536, .captureGo 15 0, .captureGo 0 32, .replayGo 15 0,
   .replayGo 0 16, .dispRd 15 0 0, .dispRd 0 16 0, .dispRd 0 0 65536, .codeRd 15 0 0, .codeRd 0 16 0,
   .codeRd 0 0 65536, .tbIncr 15 0, .tbStep 15 0, .sync 15, .calSet 15, .appStart 15 0, .appStart 0 16,
   .resetCmdWrite 15 0, .resetCmdWrite 0 256, .wdogKick 15 0 0, .wdogKick 0 256 0, .wdogKick 0 0 16,
   .mtimecmpWrite 15 0 0, .mtimecmpWrite 0 4 0, .sportDataWrite 15 0, .sportDataRead 15, .uartDataRead 15 0,
   .uartDataRead 0 2, .uartDataWrite 15 0 0, .uartDataWrite 0 2 0, .uartRxByte 2 0 true, .uartTxByte 2, .start 15 0,
   .start 0 2, .write 15 0 0, .write 0 2 0, .readAck 15 0, .readAck 0 2, .readNack 15 0, .readNack 0 2, .stop 15 0]

/-- Commands in which one operand has just left its range, part 3. -/
def wfBeyond3 : List Instr :=
  [.stop 0 2, .i2cRxRead 15 0, .i2cRxRead 0 2, .i2cCmdDone 2 0 true, .gpioEdge 16 true, .stewardFrame 4 [],
   .musterPhaseEnd true 256 0 [], .musterPhaseEnd true 0 256 [], .fioUv 2, .refclkRecover 2, .lrefLoss 2,
   .lrefReturn 2, .nodeFail 96, .throttle 5 0 0, .throttle 0 64 0, .thermalLimitRise 5, .thermalMax 64 0,
   .thermTrip 64 0, .powerMeasure 65536, .opRampEnd 73, .avsStep 73 0, .avsStep 0 256, .avsLimit 73, .domainOff 16,
   .domainOn 16, .odoInputAccept 16 true true true true, .losSet 16, .losClear 16, .periodStall 16, .speedWindow 16,
   .refReturn 16, .synthTick 16 0, .synthMaxExpiry 16, .lineTrigDelayed 32, .fireAtResend 4096, .stallCancel 16,
   .fioInputAccept 32 true 0 0, .freqGateEnd 32, .freqTimeout 32, .peakEnd 32, .pulseEnd 32, .onCheck 32 true,
   .offCheck 32 true, .mergedPulseFree 4096, .fioOpen 32, .ocTrip 32, .therm 32, .grpOc 4,
   .lineData 32 0 0 0 0 true [], .lineData 0 4294967296 0 0 0 true []]

/-- Commands in which one operand has just left its range, part 4. -/
def wfBeyond4 : List Instr :=
  [.lineData 0 0 65536 0 0 true [], .lineData 0 0 0 3 0 true [], .lineData 0 0 0 0 1024 true [], .lineMissing 32 0 0,
   .lineMissing 0 4294967296 0, .lineMissing 0 0 65536, .ispPassEnd 16 true, .jobDispatch 16 none,
   .pageFetchEnd 72 0 0 true, .pageFetchEnd 0 65536 0 true, .pageFetchEnd 0 0 18446744073709551616 true,
   .layerStart 18446744073709551616 0 0 true, .layerStart 0 4096 0 true, .layerStart 0 0 72 true,
   .layerEnd 18446744073709551616 0 0 0 [], .layerEnd 0 4096 0 0 [], .layerEnd 0 0 7 0 [], .layerEnd 0 0 0 72 [],
   .stripeJobEnd 18446744073709551616, .tileScrubEnd 72, .treePassEnd 3, .verdictDone 18446744073709551616 0, .verdictDone 0 256,
   .decodeToken 16 0, .decodeToken 0 2, .cvHello 16 0 0 0 true 0, .cvHello 0 32 0 0 true 0,
   .cvHello 0 0 128 0 true 0, .cvHello 0 0 0 64 true 0, .cvHello 0 0 0 0 true 18446744073709551616,
   .cvData 16 0 0 true 0 0 [], .cvData 0 32 0 true 0 0 [], .cvData 0 0 64 true 0 0 [],
   .cvData 0 0 0 true 4294967296 0 [], .cvData 0 0 0 true 0 2048 [], .convoyTimeout 32 0,
   .convoyTimeout 0 18446744073709551616, .fireReport 16 0 0 0 0 0 0, .fireReport 0 64 0 0 0 0 0,
   .fireReport 0 0 281474976710656 0 0 0 0, .fireReport 0 0 0 256 0 0 0, .fireReport 0 0 0 0 256 0 0,
   .fireReport 0 0 0 0 0 65536 0, .fireReport 0 0 0 0 0 0 4294967296, .reportTimeout 4096, .remoteFree 4096,
   .comparatorDisagree 4096, .droverWatchdog 8 [], .appWdog 4, .busErr 15 0 true]

/-- Commands in which one operand has just left its range, part 5. -/
def wfBeyond5 : List Instr :=
  [.busErr 0 1099511627776 true, .coreBlockedWrite 4 0 [], .coreBlockedWrite 0 1099511627776 [], .train 24 0 0 true,
   .train 0 65536 0 true, .train 0 0 65536 true, .backChannelRequest 24 0, .backChannelRequest 0 65536,
   .laneTrainFail 24, .trainRetry 24, .laneLockLoss 24, .skipSend 24, .skipReceive 24, .ebSlip 24 true,
   .badControlBlock 24, .packetReceive 16 true [], .nakRepeat 16 true, .ack 16 true 0, .ack 0 true 4096,
   .nak 16 true 0, .nak 0 true 4096, .replayTimeout 16 true, .credit 16 0 0, .credit 0 4 0, .credit 0 0 65536,
   .creditRefresh 16, .announce 16 0 0 0 0, .announce 0 64 0 0 0, .announce 0 0 18446744073709551616 0 0,
   .announce 0 0 0 256 0, .announce 0 0 0 0 256, .timeReq 16, .timeResp 16 0 0 0 0, .timeResp 0 64 0 0 0,
   .timeResp 0 0 65536 0 0, .timeResp 0 0 0 281474976710656 0, .timeResp 0 0 0 0 281474976710656, .strayedRetry 16 0,
   .strayedRetry 0 64, .power 16 0 1, .power 0 64 1, .power 0 0 3, .power 0 0 0, .powerResp 16 0 0,
   .powerResp 0 64 0, .powerResp 0 0 3, .segmentWake 16 0, .segmentWake 0 64, .linkAligned 16, .event 16 0 0 0]

/-- Commands in which one operand has just left its range, part 6. -/
def wfBeyond6 : List Instr :=
  [.event 0 64 0 0, .event 0 0 65536 0, .event 0 0 0 256, .resp 16 0 0 0 [], .resp 0 64 0 0 [], .resp 0 0 256 0 [],
   .resp 0 0 0 256 [], .ioReport 16 0 0 0, .ioReport 0 64 0 0, .ioReport 0 0 281474976710656 0,
   .ioReport 0 0 0 18446744073709551616, .ptpEventMessage 2 0 0 0 0 true, .ptpEventMessage 0 2 0 0 0 true,
   .ptpEventMessage 0 0 16 0 0 true, .ptpEventMessage 0 0 0 256 0 true, .ptpEventMessage 0 0 0 0 65536 true,
   .machineTimerInterrupt 4, .errorRateWindowEnd 16, .v24Return 2, .boundaryScanInstruction 36028797018963968, .laneEyeUpdate 24 0 0,
   .laneEyeUpdate 0 256 0, .laneEyeUpdate 0 0 256, .prbsBitError 24]

/-- Every constructor is well formed at the top of its ranges. -/
theorem test_wf_accepts : (wfTop1 ++ wfTop2 ++ wfTop3 ++ wfTop4).all Instr.wf = true := by decide +kernel

/-- Every single check refuses a term that only it refuses. -/
theorem test_wf_refuses : (wfBeyond1 ++ wfBeyond2 ++ wfBeyond3 ++ wfBeyond4 ++ wfBeyond5 ++ wfBeyond6).all (fun i => !i.wf) = true := by decide +kernel
/-! ## Small states

`wDev` declares one of everything for station 15, `wBlk` is its station block, and `wUp` is the device running under them,
disarmed and idle. -/

/-- Registers given by address and value. -/
def wRegs (l : List (Nat × Nat)) (s : State) : State := l.foldl (fun s p => s.setN p.1 p.2) s

/-- A device block. -/
def wDev : DevBlock where
  keySlot := 0
  gen := 1
  detMode := false
  holes := false
  dev := ⟨true, 0, 1, 0xFFF, 0x01010101, 10⟩
  envs := [⟨15, false, 255, 1, 2, 3, 2, 0, 1, 1, 64, 1, 1, 31, 0, 0, 1⟩]
  eps := [⟨15, 15, 63, 1, 1, 0, 20, 2, 2 ^ 64 - 1, 100⟩, ⟨15, 0, 0, 0, 4, 6, 0, 0, 1, 0⟩, ⟨255, 14, 1, 4, 1, 0, 21, 0, 2, 0⟩]
  cams := [⟨15, 31, 0, 0, 0, 16, 4, 0, 65536, 2, 100, true⟩]
  odos := [⟨15, 14, 15, true, 16, 0, ⟨0, 0, 0, 0, 0⟩, ⟨0, 0, 0, 0, 0⟩⟩]
  fields := [⟨15, 31, 0x10, 0, 0, 0, 100, 50, 20⟩, ⟨255, 30, 0x12, 0, 0, 0, 0, 100, 20⟩, ⟨15, 29, 2, 0, 0, 0, 0, 0, 0⟩,
    ⟨15, 28, 1, 0, 0, 0, 0, 0, 0⟩, ⟨15, 27, 3, 0, 0, 0, 0, 0, 0⟩, ⟨15, 26, 4, 0, 0, 0, 0, 0, 0⟩,
    ⟨15, 25, 0x11, 0, 0, 0, 0, 100, 20⟩]
  policies := [⟨15, 29, false, 0x20, true, 1000, 10, 5, [⟨1, false, 31, 0, 0, 255, 100, 1000, 10⟩, ⟨2, true, 63, 15, 7, 31, 50, 2000, 10⟩]⟩]
  groups := [⟨15, 31, 1, 100, [0x8000, 897]⟩]
  power := ⟨30, 0xF, 3, 5, 90, 0xFFFF, 0, 3, 1, 1⟩
  keys := List.replicate 16 0

/-- The vision context of `wBlk`. -/
def wCtx : IspCtx where
  ctx := 15
  cam := 31
  inline := false
  outputs := 4
  colour := 0
  s2d := 1
  fmt := .uint8
  dispYuv := false
  dispW := 16
  corr := 0
  ccm := []
  ccmOff := []
  mean := []
  scale := []
  ffcRef := 0
  ffcLen := 0

/-- A pooling layer without weights. -/
def wLayer : Layer where
  op := .maxpool
  fmtA := .uint8
  fmtW := none
  fmtOut := .uint8
  kh := 1
  kw := 1
  sy := 1
  sx := 1
  dy := 1
  dx := 1
  padT := 0
  padB := 0
  padL := 0
  padR := 0
  cIn := 1
  cOut := 1
  wIn := 16
  src0 := none
  src1 := none
  act := 0
  ieee := false
  bias := false
  spill := false
  scores := false
  measure := false
  features := false
  cmpM := 0
  regroup := 0
  actParam := 0
  inZp := 0
  outBase := 0
  wRef := 0
  wLen := 0
  bRef := 0
  qRef := 0
  spillOff := 0

/-- An in-line decoder of `wBlk`. -/
def wDec : DecDecl where
  interactive := false
  topk := false
  k := 1
  trng := false
  vocab := 2
  maxTokens := 2
  wRef := 0
  wLen := 0
  kvPages := 1
  endToken := 1
  dModel := 1
  nLayers := 0
  nHeads := 1
  dFf := 1
  wfmt := .bf16
  srcLayer := 0
  memMax := 1
  startToken := 0
  rmsEps := 0
  tokOff := 0
  embOff := 0
  posOff := 0
  layerOff := 0
  outOff := 0

/-- A station block: a vision context, one layer, one ensemble, one decoder, and a rule that always holds. -/
def wBlk : StnBlock where
  uid := 7
  stn := 15
  gen := 1
  name := []
  formats := 0
  reqDet := false
  partW := 1
  partH := 1
  pages := 1
  decTiles := 0
  splitK := 1
  ctxs := [wCtx]
  layers := [wLayer]
  trees := [⟨1, false, 0, 1, 1, 1, 0, 0, 0, 0⟩]
  decs := []
  rules := [⟨0, 0, 0, 1, 0, 0⟩]
  payBase := 0
  payLen := 0

/-- The device running and idle, with every domain on, the field die out of the safe state and every endpoint down. -/
def wUp : State :=
  { wRegs [(Reg.pwrDomOn, 0xFFFF), (Reg.sysBootStat, 2 ^ 30), (Reg.faultCfg, 2), (Reg.fioCfg 31, 0xF0010),
      (Reg.fioCfg 30, 0x100012), (Reg.fioCfg 29, 0xF0002), (Reg.fioCfg 28, 0xF0001), (Reg.fioCfg 27, 0xF0003),
      (Reg.fioCfg 26, 0xF0004), (Reg.fioCfg 25, 0xF0011), (Reg.odoHealthCfg 14, 10), (Reg.odoHealthCfg 15, 10)] State.reset with
    dev := some wDev
    blocks := [wBlk]
    stations := State.reset.stations.set 15 { Stn.none with active := some 7 }
    eps := [⟨15, 63, none, 0, false, none, 0⟩, ⟨0, 0, none, 0, false, none, 0⟩, ⟨14, 1, none, 0, false, none, 0⟩]
    fieldSafe := false
    boot := { State.reset.boot with rstLow := false }
    cores := State.reset.cores.set 0 ⟨true, 0, 0, 0, 0⟩ }

/-- A part's milestone entry: ARMED, local, of station 15. -/
def wMile (e bale : Nat) : Mile where
  idx := e
  stn := 15
  bale := bale
  pTrig := 0
  pDead := 990
  st := 1
  outcome := none
  rule := 0
  defaulted := false
  late := false
  pFire := none
  remote := false
  link := 0
  ch := 31
  rch := 0
  pulse := 100
  backup := 255
  fire := 0
  crossed := false
  pending := none
  reported := false
  merged := false
  tseq := 1
  owed := []
  past := false
  lateAt := none
  again := none
  undo := none

/-- A decided entry of the remote ejector, with a backup channel. -/
def wRemote (e : Nat) : Mile :=
  { wMile e 5 with st := 2, outcome := some 2, pFire := some 2000, remote := true, link := 15, ch := 63, rch := 7, backup := 31 }

/-- Tile 71 ACTIVE as logical tile 7 of its row, beside its spare 70. -/
def wTiles : List Tile :=
  (State.reset.tiles.set 71 { Tile.off 71 with st := tileActive, lx := 7 }).set 70 { Tile.off 70 with st := tileSpare }

/-- Station 15 armed, holding tile 71. -/
def wArmed : State :=
  { wUp with
    tiles := wTiles.set 71 { Tile.off 71 with st := tileActive, lx := 7, owner := some 15, gated := false }
    stations := State.reset.stations.set 15 { Stn.none with active := some 7, trigEn := true, tiles := [71], n := 1 }
    refs := State.reset.refs.set 15 { Ref.none with src := 0 } }

/-- A live bale of station 15 with its entry. -/
def wBale : Bale := newBale 5 15 7 0 5 (some 0) 0 990 1

/-! ## Witnesses

One theorem for each statement that has hypotheses: each conjunct is a state with operands that meets the hypotheses of one
clause, at a boundary of their ranges, in the order of the clauses. -/

theorem witness_StepRunsFrontCommand :
    ({ wUp with pending := [.tbWrap, .getInfo] } : State).pending = .tbWrap :: [.getInfo] := rfl

/-- The last tick before LT_HI rises. -/
def wLate : State := { wUp with tb := ⟨2 ^ 32 - 4, 0, 0, 0x04000000⟩ }

theorem witness_EmptyQueueTicksTimebase :
    (wUp.pending = [] ∧ (wUp.tb.lt.toNat + 4) / 2 ^ 32 = wUp.tb.lt.toNat / 2 ^ 32) ∧
      (wLate.pending = [] ∧ (wLate.tb.lt.toNat + 4) / 2 ^ 32 ≠ wLate.tb.lt.toNat / 2 ^ 32) := by decide +kernel

theorem witness_EveryCommandAnswersAndStoresOnlyWhatItMay :
    writesDram .getInfo = false ∧ writesFlash .getInfo = false ∧ writesSram .getInfo = false ∧ writesOtp .getInfo = false ∧
      movesTime .getInfo = false := by decide +kernel

/-- Memories that list a byte each. -/
def wMem : State := { wUp with dram := [(0x3FFFFFFFF, 1)], flash := [(0xFFFFFFF, 0)], sram := [(0, 5)] }

theorem witness_EveryStepKeepsMemoriesAndOtp :
    (wMem.memOk = true ∧ (∃ t, step wMem = .next t)) ∧
      (∃ t, step wMem = .next t ∧ Relation.ReflTransGen (fun a b => step a = .next b) wMem t) :=
  ⟨⟨by decide +kernel, _, rfl⟩, _, rfl, .single rfl⟩

theorem witness_EveryStepKeepsTheSizes : wMem.sized = true ∧ ∃ t, step wMem = .next t := ⟨by decide +kernel, _, rfl⟩

/-- The last source goes to every core target, and queue 12 is full. -/
def wEvents : State :=
  { wRegs [(Reg.sysEvtRoute 511, 0x1FFF)] State.reset with evq := List.replicate 12 [] ++ [List.replicate 64 (0, 1)] }

theorem witness_RaisedEventReachesItsTargets :
    511 < 512 ∧ wEvents.evq.length = 13 ∧ (∀ t < 13, bitAt (wEvents.reg (Reg.sysEvtRoute 511)).toNat t = true →
      64 ≤ (wEvents.evq.getD t []).length → (satWord 24 (wEvents.reg (Reg.sysEvqDrops t)).toNat).2 = false) := by decide +kernel

/-- Mailbox 15 holds a packet of two entries before one of a single entry. -/
def wBox : State := { State.reset with mbox := State.reset.mbox.set 15 ⟨[[1, 2], [3]], 2⟩ }

theorem witness_MailboxHeadReadRemovesOneEntry :
    (15 < 16 ∧ wBox.mbox.getD 15 ⟨[], 0⟩ = ⟨(1 :: [2]) :: [[3]], 2⟩) ∧
      (15 < 16 ∧ (State.reset.mbox.getD 15 ⟨[], 0⟩).pkts = []) := by decide +kernel

theorem witness_DropPktDiscardsTheHeadPacket : 15 < 16 ∧ wBox.domOn 0 = true := by decide +kernel

theorem witness_EventQueueReadRemovesOneEntry :
    (12 < 13 ∧ wEvents.evq.getD 12 [] = (0, 1) :: List.replicate 63 (0, 1) ∧ ((0, 1) : Word × Nat).2 < 512) ∧
      (11 < 13 ∧ wEvents.evq.getD 11 [] = []) := by decide +kernel

/-- A milestone entry at the top of the table, and a PTP timestamp on the last FIFO. -/
def wReads : State := { wUp with miles := [wMile 4095 5], ptp := [[], [], [], [⟨1, 2, 3, 4⟩]] }

theorem witness_ReadsLatchForTheReadingInitiator :
    (14 < wReads.snaps.length ∧ 0x2000000000 ≤ Reg.timeTbNs ∧ Reg.timeTbNs < 0x3000000000 ∧ Reg.timeTbNs % 4 = 0 ∧
        (regAt Reg.timeTbNs).any (fun x => wideLows.contains x.1.base) = true ∧ wReads.domOn (domainOf Reg.timeTbNs) = true) ∧
      (14 < wReads.snaps.length ∧ 4095 < 4096 ∧ wReads.domOn domVerdict = true ∧ wReads.mile? 4095 = some (wMile 4095 5)) ∧
      (14 < wReads.snaps.length ∧ 63 < 64) ∧
      (14 < wReads.snaps.length ∧ 1 < 2 ∧ wReads.ptpFifo 1 1 = ⟨1, 2, 3, 4⟩ :: []) ∧ 1 < 2 := by decide +kernel

theorem witness_BusErrorsAreRecorded : 15 < 16 ∧ 2 ^ 40 - 1 < 2 ^ 40 := by decide

/-- A resident block whose payload ends inside the second 64 KiB page of its partition. -/
def wGuarded : State := { wArmed with blocks := [{ wBlk with payBase := 0x20000, payLen := 0x10001 }] }

theorem witness_CoreStoresAreProtected :
    (3 < 4 ∧ 0x3FFFF + [(1 : Byte)].length ≤ dramEnd ∧ (some 15).isSome = true ∧ wGuarded.protectedBy 0x3FFFF 1 = some 15 ∧
        ∀ n, some 15 = some n → n < 16) ∧
      (3 < 4 ∧ sramBase ≤ sramBase + 71 * 0x200000 + 0x19FFFF ∧ sramBase + 71 * 0x200000 + 0x19FFFF < sramBase + sramLen ∧
        (sramBase + 71 * 0x200000 + 0x19FFFF - sramBase) % 0x200000 < 0x1A0000 ∧
        some 15 = (wGuarded.tile ((sramBase + 71 * 0x200000 + 0x19FFFF - sramBase) / 0x200000)).owner) ∧
      (3 < 4 ∧ sramBase ≤ sramBase + 70 * 0x200000 ∧ (none : Option Nat) = (wGuarded.tile 70).owner) ∧
      (3 < 4 ∧ 0x40000 + [(1 : Byte)].length ≤ dramEnd ∧ wGuarded.memOk = true ∧ wGuarded.protectedBy 0x40000 1 = none) ∧
      (3 < 4 ∧ dramEnd - 1 + [(1 : Byte)].length ≤ dramEnd ∧ wGuarded.protectedBy (dramEnd - 1) 1 = none) ∧
      (3 < 4 ∧ sramBase ≤ sramBase + 0x1A0000 ∧ sramBase + 0x1A0000 < sramBase + sramLen ∧
        0x1A0000 ≤ (sramBase + 0x1A0000 - sramBase) % 0x200000) := by
  refine ⟨⟨by decide, by decide, rfl, by decide +kernel, ?_⟩, by decide +kernel⟩
  rintro n ⟨⟩
  decide

theorem witness_EventRoutesOfCoresAreTheStewards : 511 < 512 ∧ State.reset.domOn 0 = true := by decide +kernel

/-- A pending word of the device waits for the COMMIT of MILE. -/
def wShadow : State := { wUp with shadow := [⟨none, Reg.mileRemoteCfg, 100⟩] }

theorem witness_WritesFollowTheAccessCodes :
    wUp.domOn 0 = true ∧ (15 < 16 ∧ wUp.domOn domVerdict = true ∧ wUp.armed 15 = false ∧ wArmed.domOn domVerdict = true ∧
        wArmed.armed 15 = true ∧ wArmed.fget (Reg.mileStnPolicy 15) 1 0 = 0) ∧
      wUp.domOn domVerdict = true ∧ (15 < 16 ∧ (2 : Word).toNat % 4 ≠ 3 ∧ wArmed.domOn 0 = true) ∧
      (wShadow.domOn domVerdict = true ∧ wShadow.commitWords Reg.mileCommit = [⟨none, Reg.mileRemoteCfg, 100⟩]) ∧
      (Reg.sysWdropCnt % 4 = 0 ∧ (regAt Reg.sysWdropCnt).any (fun x => x.1.fields == cntFields) = true ∧
        wUp.domOn (domainOf Reg.sysWdropCnt) = true) := by decide +kernel

theorem witness_LoadsStartOnlyWhereTheyMay :
    (wUp.flag Reg.sysBootStat 31 = false ∧ wUp.anyArmed = false ∧ wUp.load = none) ∧
      (wArmed.flag Reg.sysBootStat 31 = false ∧ wArmed.anyArmed = true) ∧
      (({ wUp with load := some ⟨false, 0, 8⟩ } : State).flag Reg.sysBootStat 31 = false ∧
        ({ wUp with load := some ⟨false, 0, 8⟩ } : State).load.isSome = true) := by decide +kernel

/-- A station block waits behind the active one. -/
def wPending : State :=
  { wUp with
    blocks := [wBlk, { wBlk with uid := 8 }]
    stations := State.reset.stations.set 15 { Stn.none with active := some 7, pend := some 8 } }

theorem witness_AbortAndCancelPendingDiscard :
    (({ wUp with load := some ⟨true, 0, 8⟩ } : State).load = some ⟨true, 0, 8⟩) ∧
      ((wPending.stn 15).pend = some 8 ∧ (wPending.stn 15).active = some 7) := by decide +kernel
/-! ## Containers

Two signed containers, written out from R104 to R108 and the section tables. The trailers hold a public key and a signature
under it: the key is the point R - G for a point R of the curve whose x coordinate r is the digest, and the signature is
(r, r), so that R109 holds with both factors 1. -/

/-- A section table from offset `o`: TYPE, STATION, VERSION 1, 0, OFFSET, LENGTH and 0 for each section. -/
def wTable (stn : Nat) : Nat → List (Nat × List Byte) → List Byte
  | _, [] => []
  | o, s :: r =>
    leBytes 1 s.1 ++ leBytes 1 stn ++ leBytes 2 1 ++ leBytes 4 o ++ leBytes 4 s.2.length ++ leBytes 4 0 ++
      wTable stn (o + s.2.length) r

/-- The trailer of R108. -/
def wTrailer (x y r : Nat) : List Byte := beBytes 32 x ++ beBytes 32 y ++ beBytes 32 r ++ beBytes 32 r

/-- The sections of a device block without stations: DEVICE, POWER_POLICY and STATION_KEYS. -/
def wDevSects : List (Nat × List Byte) :=
  [(0x01, leBytes 8 0 ++ leBytes 4 0x01010101 ++ leBytes 4 1), (0x09, leBytes 8 0x3C0101010C ++ leBytes 16 0x100000000),
   (0x0A, List.replicate 512 0)]

/-- A container for LOAD_FULL. -/
def wFull : List Byte :=
  leBytes 4 0x464E4D48 ++ leBytes 2 1 ++ leBytes 2 64 ++ leBytes 4 0x48440072 ++ leBytes 1 0xB0 ++ leBytes 1 0 ++ leBytes 2 3 ++
    leBytes 4 792 ++ leBytes 4 1 ++ leBytes 40 0 ++ wTable 0xFF 112 wDevSects ++ wDevSects.flatMap Prod.snd ++
    wTrailer 0x4983565e5164adaa074909f5752864b0103768d10463ef83defa206227b010ef
      0xcfaefe90bb875ea2ab4c713083325a246b72d3e996eab991c2c86ebadd743211
      0xb74ac7d8505130129d3baf4cf58ec8cadde26c27aaf3184cc1eab424e363d59a

/-- The sections of a station block: STATION, TILE_REGION, ISP_CONTEXT, LAYERS and VERDICT_PROGRAM. -/
def wStnSects : List (Nat × List Byte) :=
  [(0x10, leBytes 32 0), (0x11, leBytes 16 0x10000010101), (0x12, leBytes 64 0x8010004001F0F),
   (0x13, leBytes 8 0x400001 ++ leBytes 64 0xFFFFFFFF001000010001000011110101080F0810), (0x16, leBytes 8 1 ++ leBytes 16 5)]

/-- A container for LOAD_STATION: a block of station 15. -/
def wStation : List Byte :=
  leBytes 4 0x4E545348 ++ leBytes 2 1 ++ leBytes 1 15 ++ leBytes 1 5 ++ leBytes 4 448 ++ leBytes 4 3 ++ leBytes 16 0 ++
    wTable 15 112 wStnSects ++ wStnSects.flatMap Prod.snd ++
    wTrailer 0xa1400331eaf2787ebea5da53690e2ad6c53f2322268d431728895f2cb711f98a
      0xae06c45fa2b787160ee419e33029a67100913c2b0e3d2bef55f246f73a23fb76
      0xfe9413e514db5d24533d25eb8614a99c226e7089c848de8772314f060134fc54

/-- Bytes from address 0, as a memory whose other bytes read as `d` lists them. -/
def wBytes (d : Byte) (bs : List Byte) : Memory := ((List.range bs.length).zip bs).filter fun p => p.2 != d

/-- The first 252 bytes of a directory of boot flash (R943): TYPE, OFFSET and LENGTH of each valid entry. -/
def wDir (es : List (Nat × Nat × Nat)) : List Byte :=
  let b : List Byte := [0x48, 0x46, 0x4C, 0x44] ++ leBytes 12 0 ++
    es.flatMap fun e => leBytes 1 e.1 ++ leBytes 3 1 ++ leBytes 4 e.2.1 ++ leBytes 4 e.2.2 ++ leBytes 4 0
  b ++ List.replicate (252 - b.length) 0

/-- Boot flash with regions for firmware slot B, the field map and the logbook's mirror, and the CRC-32C of its directory. -/
@[irreducible] def wFlash : Memory :=
  wBytes 0xFF (wDir [(2, 0x1000, 0x1000), (5, 0x2000, 0x1000), (6, 0x3000, 0x40000)] ++ leBytes 4 3349500639)

/-- What the device reads from that directory. -/
def wEntries : List DirEntry := [⟨0, 2, true, 0x1000, 0x1000⟩, ⟨1, 5, true, 0x2000, 0x1000⟩, ⟨2, 6, true, 0x3000, 0x40000⟩]

set_option maxRecDepth 200000 in
theorem wFlash_dir : ({ State.reset with flash := wFlash } : State).dir = wEntries := by decide +kernel

theorem wDir_eq {s : State} (h : s.flash = wFlash) : s.dir = wEntries := by
  rw [← wFlash_dir, ← h]
  rfl

/-- Slot 0 holds the digest of the integrator's key. -/
def wOtp (digest : Nat) : Otp := { State.reset.otp with keys := [digest, 0, 0, 0] }

/-- LOAD_FULL of `wFull` is about to end. -/
def wLoadFull : State :=
  { wUp with
    load := some ⟨true, 0, 792⟩, dram := wBytes 0 wFull
    otp := wOtp 0x166ea1b13b4ea1d814800354cd68d3a7e21764ab9a5487039c83c9bd41d816f0 }

/-- LOAD_STATION of `wStation` is about to end. -/
def wLoadStation : State :=
  { wUp with
    load := some ⟨false, 0, 448⟩, dram := wBytes 0 wStation
    otp := wOtp 0x68c262cb62d4b61b3128fe898dae1a3501719b04c368aa32fcfb1931979de301 }

/-- The envelope of station 15 has room for no decoder tile and no page. -/
def wTight : State := { wLoadStation with dev := some { wDev with envs := wDev.envs.map fun e => { e with pages := 0 } } }

/-- A container passes steps 2 to 5, and step 6 answers as `q` says. -/
def wPasses (c : Chk Parsed) (q : Parsed → Bool) : Bool :=
  match c with
  | .ok p => q p
  | .error _ => false

theorem wPasses_ok {c : Chk Parsed} {q : Parsed → Bool} (h : wPasses c q = true) : ∃ p, c = .ok p ∧ q p = true := by
  cases c with
  | ok p => exact ⟨p, rfl, h⟩
  | error e => simp [wPasses] at h

theorem wFull_inDram : wLoadFull.dramAt 0 792 = wFull := by decide +kernel
theorem wStation_inDram : wLoadStation.dramAt 0 448 = wStation := by decide +kernel
theorem wTight_inDram : wTight.dramAt 0 448 = wStation := by
  have h := wStation_inDram
  simp only [State.dramAt, wTight] at h ⊢
  exact h

/-- Step 6 ends as `want` says for the container `p` of a LOAD_FULL. -/
def wChk (s : State) (full : Bool) (fails : List (Nat × Nat)) (want : Bool) (p : Parsed) : Bool :=
  match chkLoad full p s.begin_
    (if full then testBands (s.untested p.dev) p.dev.power.opMax fails s.begin_ else s.begin_) with
  | .ok _ => want
  | .error _ => !want

/-- Every tile of band 0 fails the band test. -/
def wFails : List (Nat × Nat) := (List.range 18).map fun k => (k, 1)

theorem wFull_passes : wPasses (parseFull wLoadFull.otp wFull)
    (fun p => wChk wLoadFull true [] true p && wChk wLoadFull true wFails false p) = true := by decide +kernel

theorem wStation_passes : wPasses (parseStation wLoadStation.otp wLoadStation.dev (wLoadStation.flag Reg.sysDetMode 0) wStation)
    (fun p => wChk wLoadStation false [] true p && (p.stns.map (fun x => x.1.stn) == [15])) = true := by decide +kernel

theorem wTight_fails : wPasses (parseStation wTight.otp wTight.dev (wTight.flag Reg.sysDetMode 0) wStation)
    (fun p => wChk wTight false [] false p) = true := by decide +kernel

/-- A container fails steps 2 to 5. -/
def wBreaks (c : Chk Parsed) : Bool :=
  match c with
  | .ok _ => false
  | .error _ => true

theorem wBreaks_error {c : Chk Parsed} (h : wBreaks c = true) : ∃ e, c = .error e := by
  cases c with
  | ok p => simp [wBreaks] at h
  | error e => exact ⟨e, rfl⟩

theorem wChk_ok {s : State} {full : Bool} {fails : List (Nat × Nat)} {p : Parsed} (h : wChk s full fails true p = true) :
    chkLoad full p s.begin_
      (if full then testBands (s.untested p.dev) p.dev.power.opMax fails s.begin_ else s.begin_) =
        .ok () := by
  unfold wChk at h
  split at h
  · assumption
  · cases h

theorem wChk_error {s : State} {full : Bool} {fails : List (Nat × Nat)} {p : Parsed} (h : wChk s full fails false p = true) :
    ∃ e, chkLoad full p s.begin_
      (if full then testBands (s.untested p.dev) p.dev.power.opMax fails s.begin_ else s.begin_) =
        .error e := by
  unfold wChk at h
  split at h
  · cases h
  · exact ⟨_, ‹_›⟩

/-- A load of eight bytes of empty DRAM. -/
def wEmpty : State := { wUp with load := some ⟨true, 0, 8⟩ }

theorem witness_FailedLoadsLeaveEverything :
    (∃ e, wEmpty.load = some ⟨true, 0, 8⟩ ∧ wEmpty.memOk = true ∧ parseFull wEmpty.otp (wEmpty.dramAt 0 8) = .error e) ∧
      (∃ p e, wTight.load = some ⟨false, 0, 448⟩ ∧ wTight.memOk = true ∧
        parseStation wTight.otp wTight.dev (wTight.flag Reg.sysDetMode 0) (wTight.dramAt 0 448) = .ok p ∧
        chkLoad false p wTight.begin_ wTight.begin_ = .error e) ∧
      (∃ p e, wLoadFull.load = some ⟨true, 0, 792⟩ ∧ wLoadFull.memOk = true ∧ parseFull wLoadFull.otp (wLoadFull.dramAt 0 792) = .ok p ∧
        chkLoad true p wLoadFull.begin_
          (testBands (wLoadFull.untested p.dev) p.dev.power.opMax wFails wLoadFull.begin_) = .error e) := by
  refine ⟨?_, ?_, ?_⟩
  · obtain ⟨e, he⟩ := wBreaks_error (c := parseFull wEmpty.otp (wEmpty.dramAt 0 8)) (by decide +kernel)
    exact ⟨e, rfl, by decide +kernel, he⟩
  · obtain ⟨p, hp, hq⟩ := wPasses_ok wTight_fails
    obtain ⟨e, he⟩ := wChk_error hq
    exact ⟨p, e, rfl, by decide +kernel, by rw [wTight_inDram]; exact hp, he⟩
  · obtain ⟨p, hp, hq⟩ := wPasses_ok wFull_passes
    obtain ⟨e, he⟩ := wChk_error (Bool.and_eq_true_iff.mp hq).2
    exact ⟨p, e, rfl, by decide +kernel, by rw [wFull_inDram]; exact hp, he⟩

theorem witness_SuccessfulLoadsInstall :
    (∃ p, wLoadFull.load = some ⟨true, 0, 792⟩ ∧ parseFull wLoadFull.otp (wLoadFull.dramAt 0 792) = .ok p ∧
        chkLoad true p wLoadFull.begin_
          (testBands (wLoadFull.untested p.dev) p.dev.power.opMax [] wLoadFull.begin_) = .ok ()) ∧
      (∃ p b ss, wLoadStation.load = some ⟨false, 0, 448⟩ ∧ wLoadStation.stations.length = 16 ∧ b.stn < 16 ∧
        parseStation wLoadStation.otp wLoadStation.dev (wLoadStation.flag Reg.sysDetMode 0) (wLoadStation.dramAt 0 448) = .ok p ∧
        p.stns = [(b, ss)] ∧ chkLoad false p wLoadStation.begin_ wLoadStation.begin_ = .ok ()) := by
  refine ⟨?_, ?_⟩
  · obtain ⟨p, hp, hq⟩ := wPasses_ok wFull_passes
    exact ⟨p, rfl, by rw [wFull_inDram]; exact hp, wChk_ok (Bool.and_eq_true_iff.mp hq).1⟩
  · obtain ⟨p, hp, hq⟩ := wPasses_ok wStation_passes
    obtain ⟨h1, h2⟩ := Bool.and_eq_true_iff.mp hq
    have h3 := eq_of_beq h2
    obtain ⟨⟨b, ss⟩, hb⟩ := List.length_eq_one_iff.mp (by simpa using congrArg List.length h3)
    rw [hb] at h3
    have h4 : b.stn = 15 := by simpa using h3
    exact ⟨p, b, ss, rfl, by decide +kernel, by omega, by rw [wStation_inDram]; exact hp, hb, wChk_ok h1⟩

/-- A retirement of tile 71 at a step, with spare 70. -/
def wRetiring (step : Nat) (owner : Option Nat) : State :=
  { wUp with
    tiles := wTiles.set 71 { Tile.off 71 with st := 3, lx := 7, owner := owner, scrub := true }
    retiring := [⟨71, some 70, step, none⟩] }

theorem witness_RetirementWritesAFieldEntry :
    (0xA5 = 0xA5 ∧ 71 < 72 ∧ (wArmed.tile 71).st = tileActive ∧ wArmed.fmap.entries.length + wArmed.fmap.writing.length < 64) ∧
      ((wArmed.tile 70).st = tileSpare) ∧ (0xA4 ≠ 0xA5 ∧ 72 ≤ 72) ∧
      (69 < 72 ∧ (wArmed.tile 69).st ≠ tileActive ∧ (wArmed.tile 69).st ≠ tileSpare) ∧
      (2 < 3 ∧ (wRetiring 2 none).retiring.find? (fun r => r.tile == 71 && r.step < 3) = some ⟨71, some 70, 2, none⟩ ∧
        (wRetiring 2 none).fmap.entries.length + (wRetiring 2 none).fmap.writing.length < 64) := by decide +kernel

theorem witness_SparesTakeOverInSteps :
    ((wRetiring 1 none).retiring[0]? = some ⟨71, some 70, 1, none⟩) ∧
      ((wRetiring 2 (some 15)).retiring.find? (fun r => r.tile == 71 && r.step < 3) = some ⟨71, some 70, 2, none⟩ ∧
        ((wRetiring 2 (some 15)).tile 71).owner ≠ none) ∧
      ((wRetiring 2 none).retiring.find? (fun r => r.tile == 71 && r.step < 3) = some ⟨71, some 70, 2, none⟩ ∧
        ((wRetiring 2 none).tile 71).owner = none ∧ (wRetiring 2 none).holes = false ∧ 71 ≠ 70 ∧
        71 < (wRetiring 2 none).tiles.length ∧ 70 < (wRetiring 2 none).tiles.length ∧ 70 < 72) ∧
      (((wRetiring 2 none).tile 71).scrub = true ∧ (wRetiring 2 none).memOk = true) := by decide +kernel

/-- A directory whose first entry is the field region, and an entry that is being written. -/
def wMapping : State :=
  { wUp with
    flash := wFlash
    fmap := ⟨true, 0, [], [⟨71, 0, 9, 0, 0⟩]⟩ }

theorem witness_FieldEntryIsWrittenAndCounted :
    wMapping.fmap.writing = ⟨71, 0, 9, 0, 0⟩ :: [] ∧ wMapping.memOk = true ∧
      wMapping.dirType? 5 = some ⟨1, 5, true, 0x2000, 0x1000⟩ :=
  ⟨rfl, by decide +kernel, (congrArg (List.find? _) (wDir_eq (s := wMapping) rfl)).trans (by decide +kernel)⟩

theorem witness_StopLineIsHeldAndCleared :
    (15 < 16 ∧ wUp.sized = true ∧ wUp.domOn domVerdict = true ∧ (∀ ch ∈ wUp.stopChannels, ch < 32) ∧ wUp.stopChannels = [30]) ∧
      (State.reset.domOn domVerdict = false ∧ Instr.cancelAll 0 15 ∈
        [.stopSet 0 15, .stopClr 0 15, .trigEnClear 0 15, .cancelAll 0 15]) := by decide +kernel

/-- Station 15 waits for its tiles, of which `n` ACTIVE ones are free. -/
def wWaiting (n : Nat) : State :=
  { wUp with
    tiles := (List.range 72).map fun k => if 72 - n ≤ k then { Tile.off k with st := tileActive, lx := k - 64 } else Tile.off k
    stations := State.reset.stations.set 15 { Stn.none with active := some 7, want := true } }

/-- Station 15 armed with tiles 70 and 71, and asking for a grant. -/
def wGrown : State :=
  { wArmed with
    tiles := wArmed.tiles.set 70 { Tile.off 70 with st := tileActive, lx := 6, owner := some 15, gated := false }
    stations := wArmed.stations.set 15 { wArmed.stn 15 with tiles := [70, 71], n := 2, want := true } }

theorem witness_ArmingAsksForTilesAndGetsThem :
    (15 < 16 ∧ wUp.sized = true ∧ wUp.flag Reg.sysBootStat 31 = false ∧ (wUp.stn 15).trigEn = false ∧ (wUp.stn 15).want = false ∧
        (∀ d ∈ domTree :: stationDomains, wUp.domOn d = true) ∧
        ((wUp.stn 15).tiles = [] ∧ wUp.begin_.claim 15 < max 1 (((wUp.env? 15).map Env.tilesMin).getD 0))) ∧
      ({ wWaiting 2 with stations := wUp.stations }.active? 15 ≠ none ∧
        ({ wWaiting 2 with stations := wUp.stations }.ref 15).lost = false ∧
        max 1 ((({ wWaiting 2 with stations := wUp.stations }.env? 15).map Env.tilesMin).getD 0) ≤
          ({ wWaiting 2 with stations := wUp.stations } : State).begin_.claim 15) ∧
      ((wArmed.stn 15).trigEn = true ∧ ((wWaiting 0).stn 15).want = true) ∧
      (15 < 16 ∧ (wWaiting 2).sized = true ∧ ((wWaiting 2).stn 15).want = true ∧ ((wWaiting 2).stn 15).tiles = [] ∧ ((wWaiting 2).stn 15).joining = [] ∧
        max 1 ((((wWaiting 2).env? 15).map Env.tilesMin).getD 0) ≤ (wWaiting 2).guarOf 15 ∧
        (wWaiting 2).guarOf 15 ≤ (wWaiting 2).freeTiles.length ∧ (wWaiting 2).freeTiles.length = 2) ∧
      (15 < 16 ∧ wGrown.sized = true ∧ (wGrown.stn 15).want = true ∧
        max 1 (max (wGrown.guarOf 15) (((wGrown.env? 15).map Env.tilesMin).getD 0)) ≤ wGrown.effHeld 15) ∧
      ((wWaiting 2).guarOf 15 - (wWaiting 2).effHeld 15 ≤ (wWaiting 2).freeTiles.length) ∧
      ((wUp.stn 15).want = false ∧ ((wWaiting 0).stn 15).tiles = [] ∧
        (wWaiting 0).begin_.claim 15 < max 1 ((((wWaiting 0).env? 15).map Env.tilesMin).getD 0)) := by
  decide +kernel

/-- Station 15 armed, with an ARMED entry and its bale. -/
def wLive : State := { wArmed with miles := [wMile 0 5], bales := [wBale] }

theorem witness_DisarmingAndCancelling :
    (15 < 16 ∧ wLive.sized = true ∧ wLive.domOn domVerdict = true ∧ (∃ m ∈ wLive.miles, m.stn = 15 ∧ m.live = true)) ∧
      (15 < 16 ∧ wArmed.sized = true ∧ wArmed.domOn domVerdict = true ∧ (wArmed.stn 15).trigEn = true ∧
        (∀ m ∈ wArmed.miles, m.stn = 15 → m.live = false) ∧ (wArmed.stn 15).pend = none ∧ wArmed.inFlight 15 = false) ∧
      ((wLive.stn 15).trigEn = true) ∧
      (({ wLive with stations := wUp.stations } : State).sized = true ∧
        (({ wLive with stations := wUp.stations } : State).stn 15).trigEn = false ∧ (wLive.miles.map Mile.idx).Nodup ∧
        (∀ b ∈ wLive.bales, ∀ c ∈ wLive.bales, b.entry = c.entry → b.entry ≠ none → b.id = c.id) ∧
        (wLive.miles.filter fun m => m.stn == 15 && m.live).length = 1) := by decide +kernel

/-- Output 25 is commanded, with its trip and that of its group. -/
def wTripped : State :=
  { wUp with fio := wUp.fio.set 25 { Fio.none with out := true, trip := true }, grpTrip := [false, false, false, true] }

theorem witness_FieldControlsActOnTheirChannel :
    (31 < 32 ∧ wUp.domOn domField = true ∧ 15 < 16 ∧ wUp.sized = true) ∧
      (25 < 32 ∧ wTripped.sized = true ∧ wTripped.domOn domField = true ∧ wTripped.driven 25 = false ∧
        ({ wTripped with grpTrip := wUp.grpTrip } : State).driven 25 = false ∧ 3 < 4 ∧ 25 ∈ groupChs 3) ∧
      (25 < 32 ∧ wUp.followsOn 25 = true ∧ wUp.driven 25 = false) ∧
      (31 < 32 ∧ 65535 < 65536 ∧ wUp.sized = true ∧ wUp.domOn domField = true ∧ wUp.ownerArmed (wUp.ownerOf .fio 31) = false ∧
        wUp.fioFunc 31 = 0x10 ∧ wUp.fioFunc 25 = 0x11) ∧
      (31 < 32 ∧ 15 < 16 ∧ wArmed.domOn domField = true ∧ wArmed.ownerArmed (wArmed.ownerOf .fio 31) = true ∧
        wArmed.flag (Reg.fioTest 31) 31 = false) ∧ State.reset.domOn domField = false := by decide +kernel

/-- A frequency input with two edges, `gap` ticks apart. -/
def wFreq (gap : Nat) : State := { wUp with fio := wUp.fio.set 26 { Fio.none with edges := 2, t0 := 5, t1 := 5 + gap } }

theorem witness_FieldInputsAreTimedAndCounted :
    (31 < 32 ∧ wUp.sized = true ∧ (wUp.fioCh 31).level ≠ true ∧ wUp.fioFunc 31 ≠ 2 ∧ wUp.fioFunc 28 = 1 ∧ wUp.fioFunc 27 = 3 ∧
        wUp.fioFunc 29 = 2 ∧ wUp.triggeredBy 29 false = []) ∧
      (({ wRegs [(Reg.fioCnt 27, 0xFFFFFFFF)] wUp with evq := [] } : State).reg (Reg.fioCnt 27) = 0xFFFFFFFF) ∧
      ((wUp.fioCh 31).level = false) ∧
      (26 < 32 ∧ (wFreq 1).sized = true ∧ (wFreq 1).fioFunc 26 = 4 ∧ 2 ≤ ((wFreq 1).fioCh 26).edges ∧
        ((wFreq 1).fioCh 26).t0 < ((wFreq 1).fioCh 26).t1) ∧
      (26 < 32 ∧ (wFreq 0).sized = true ∧ (wFreq 0).fioFunc 26 = 4 ∧ 2 ≤ ((wFreq 0).fioCh 26).edges ∧
        ((wFreq 0).fioCh 26).t1 ≤ ((wFreq 0).fioCh 26).t0) ∧
      (wUp.fioFunc 26 = 4 ∧ (wUp.fioCh 26).edges < 2) := by decide +kernel

/-- Ejector 31 with a running pulse for entry 0; `out` is its commanded output. -/
def wPulse (out : Bool) (e : Option Nat) : State :=
  { wUp with miles := [{ wMile 0 5 with st := 3 }], fio := wUp.fio.set 31 { Fio.none with out := out, pulse := true, entry := e } }

/-- Ejector 31 with both checks due. -/
def wChecks (e : Option Nat) : State :=
  { wUp with miles := [{ wMile 0 5 with st := 3 }], fio := wUp.fio.set 31 { Fio.none with onCheck := true, offCheck := true, entry := e } }

theorem witness_OutputsHoldEndAndAreChecked :
    ((wPulse true none).driven 31 = true ∧ (wPulse true none).fioFunc 31 = 0x10 ∧
        (wPulse true none).fget (Reg.fioDrive 31) 22 16 ≠ 100 ∧ wUp.driven 31 = false) ∧
      (((wPulse true (some 0)).fioCh 31).pulse = true ∧ (wPulse true (some 0)).driven 31 = true) ∧
      (((wPulse false (some 0)).fioCh 31).pulse = true ∧ (wPulse false (some 0)).driven 31 = false ∧
        ((wPulse false (some 0)).fioCh 31).offCheck = false ∧
        ((wPulse false (some 0)).followsOn 31 && (wPulse false (some 0)).flag (Reg.fioCtrl 31) 0) = false ∧
        ((wPulse false (some 0)).fioCh 31).entry = some 0) ∧
      (((wChecks none).fioCh 31).onCheck = true ∧ (wUp.fioCh 31).onCheck = false) ∧
      (((wChecks none).fioCh 31).offCheck = true ∧ ((wChecks none).fioCh 31).entry = none) ∧
      (((wChecks (some 0)).fioCh 31).offCheck = true ∧ ((wChecks (some 0)).fioCh 31).pulse = false ∧
        ((wChecks (some 0)).fioCh 31).entry = some 0) ∧
      ((wUp.fioCh 31).offCheck = false) ∧
      (31 < 32 ∧ (∀ n ∈ (wChecks none).ejectors 31, n < 16) ∧ (wChecks none).sized = true ∧ (wChecks none).ejectors 31 = [15] ∧
        (wChecks none).ejectors 25 = []) := by decide +kernel

theorem witness_FieldProtectionTurnsOff :
    (31 < 32 ∧ (({ wUp with fio := wUp.fio.set 31 { Fio.none with test := true } } : State).fioCh 31).test = true ∧
        (wUp.fioCh 31).test = false) ∧
      (31 < 32 ∧ (wPulse true none).sized = true ∧ (wPulse true none).driven 31 = true ∧ (wPulse true none).isOutput 31 = true) ∧
      (wUp.driven 31 = false ∧ wUp.isOutput 28 = false) ∧ (3 < 4 ∧ wUp.sized = true) := by decide +kernel

theorem witness_FieldSuppliesAndDieLink :
    1 < 2 ∧ wUp.sized = true ∧ (wUp.fieldSafe = false) ∧ (State.reset.fieldSafe = true) ∧
      (({ wUp with fieldSafe := true } : State).fieldSafe = true ∧ ({ wUp with fieldSafe := true } : State).sized = true ∧
        wUp.domOn domField = true ∧ wUp.flag Reg.sysBootStat 31 = false ∧ wUp.boot.rstLow = false ∧
        (∀ ch ∈ wUp.stopChannels, ch < 32)) ∧
      (State.reset.domOn domField = false ∧ State.reset.boot.rstLow = true) := by decide +kernel

theorem witness_TriggerReservesAMilestone :
    (29 < 32 ∧ 15 < 16 ∧ wUp.sized = true ∧ (wUp.fioCh 29).level ≠ true ∧ wUp.fioFunc 29 = 2 ∧ wUp.triggeredBy 29 true = [15] ∧
        (wUp.stn 15).trigEn = false) ∧
      (wArmed.sized = true ∧ (wArmed.stn 15).trigEn = true ∧ (wArmed.ref 15).lost = false ∧ (wArmed.policy? 15).isSome = true ∧
        wArmed.freeEntry? 15 = some 0 ∧ (wArmed.fioPos 29).toNat = 0 ∧ posAdd 0 (- -1) = 1 ∧
        atOrBefore 48 (posAdd 1 990) (wArmed.ref 15).hwm.toNat = false ∧ (∀ b ∈ wArmed.bales, b.id ≠ wArmed.nextBale.toNat) ∧
        wArmed.camsOf 15 ≠ [] ∧ (∀ c ∈ wArmed.camsOf 15, atOrBefore 48 (linePos c 1 0) (wArmed.ref 15).hwm.toNat = false) ∧
        (wArmed.policy? 15).map Policy.dead = some 990 ∧ (wArmed.admitting? 15).isSome = true ∧
        (wArmed.balesOf 15).any wArmed.capturing = false ∧ wArmed.tilesOk 15 = true ∧ wArmed.fits 15 wBlk = true) ∧
      (({ wArmed with stations := wArmed.stations.set 15 { wArmed.stn 15 with tiles := [] } } : State).tilesOk 15 = false) ∧
      (({ wArmed with miles := [wMile 0 5, wMile 1 6] } : State).freeEntry? 15 = none) := by decide +kernel

theorem witness_RemoteCommandsFollowThePrediction :
    (let s : State := wRegs [(Reg.slinkEpStat 15 63, 4), (Reg.odoPeriod 14, 100)]
       { wArmed with miles := [{ wRemote 1 with pending := some 0 }] }
     s.mile? 1 = some { wRemote 1 with pending := some 0 } ∧ ({ wRemote 1 with pending := some 0 } : Mile).remoteDue = true ∧
       s.epActive 15 63 = true ∧ (s.predicted { wRemote 1 with pending := some 0 }).isSome = true ∧
       ((s.predicted { wRemote 1 with pending := some 0 }).getD 0) > 1000 ∧ (s.link 15).queue = [] ∧ s.asleep 15 = false ∧
       ({ s with links := s.links.set 15 { Link.none with up := true, grant := [64, 16, 8, 0] } }.link 15).canSend 2 4 = true) ∧
      (([wRemote 1, wMile 0 5].map Mile.idx).Nodup) ∧
      (({ wArmed with miles := [wRemote 1] } : State).mile? 1 = some (wRemote 1) ∧ (wRemote 1).remote = true ∧ (wRemote 1).st = 2 ∧
        (wRemote 1).reported = false ∧ (wRemote 1).stn < 16 ∧ ({ wArmed with miles := [wRemote 1] } : State).sized = true) ∧
      (({ wArmed with miles := [{ wRemote 1 with st := 3, reported := true }] } : State).mile? 1 =
        some { wRemote 1 with st := 3, reported := true }) ∧
      (3 ≠ 2 ∧ wArmed.mile? 1 = none) ∧
      (({ wRemote 1 with st := 3, reported := true, crossed := true } : Mile).st = 3) := by decide +kernel

theorem witness_MissedMilestonesAreCountedAndBackedUp :
    (let s : State := { wArmed with miles := [{ wRemote 1 with crossed := true }] }
     s.sized = true ∧ s.mile? 1 = some { wRemote 1 with crossed := true } ∧ (wRemote 1).stn < 16 ∧ (wRemote 1).fire ≠ 3 ∧
       (wRemote 1).st = 2 ∧ (wRemote 1).remote = true ∧ (wRemote 1).reported = false ∧ (wRemote 1).backup < 32 ∧
       (s.fioCh 31).entry = none) ∧
      (let s : State := { wArmed with miles := [{ wRemote 1 with backup := 255 }] }
       s.mile? 1 = some { wRemote 1 with backup := 255 } ∧ (wRemote 1).pFire ≠ none ∧ (wRemote 1).crossed = false ∧
         (s.policy? 15).map Policy.dflt = some 0x20) ∧
      ((wArmed.mile? 1).any (fun m => m.st == 2 && m.remote && m.crossed && !m.reported) = false) := by decide +kernel

/-- Odometer channel 15 in a mode, with its levels. -/
def wOdo (cfg : Nat) (a b z : Bool) : State :=
  { wRegs [(Reg.odoCfg 15, cfg)] wUp with odo := wUp.odo.set 15 { Odo.none with a := a, b := b, z := z } }

theorem witness_OdometerSamplesMoveTheCount :
    (15 < 16 ∧ (wOdo 2 false false false).sized = true ∧ ((wOdo 2 false false false).odoCh 15).z = false ∧
        (wOdo 2 false false false).fget (Reg.odoCfg 15) 17 16 = 0 ∧ (wOdo 2 false false false).fget (Reg.odoCfg 15) 2 0 ≤ 2 ∧
        (wOdo 2 false false false).bindings 14 = [(15, 0)] ∧ 14 < 16) ∧
      ((wOdo 3 false false false).fget (Reg.odoCfg 15) 2 0 = 3 ∧ (wOdo 4 false false true).fget (Reg.odoCfg 15) 2 0 = 4 ∧
        (wOdo 4 false false true).sized = true ∧ (hallIndex false false true).isSome = true ∧ (hallIndex true false true).isSome = true ∧
        hallIndex true true true = none) ∧
      (15 < 16 ∧ (wOdo 0x20002 true true false).sized = true ∧ ((wOdo 0x20002 true true false).odoCh 15).z = false ∧
        (wOdo 0x20002 true true false).fget (Reg.odoCfg 15) 17 16 ≠ 0 ∧ (wOdo 0x20002 true true false).fget (Reg.odoCfg 15) 2 0 ≠ 4) := by
  decide +kernel

/-- Channels 14 and 15 are RS-422 inputs of station 15, both healthy. -/
def wPair (cfg : Nat) (los : Nat) : State :=
  wRegs [(Reg.odoCfg 14, cfg), (Reg.odoStat 14, los), (Reg.odoStat 15, 0x40)] wUp

/-- Station 15 has the primary channel 14 alone. -/
def wSole : DevBlock := { wDev with odos := wDev.odos.map fun o => { o with secondary := 255, synth := false } }

theorem witness_OdometerHealthMovesTheReference :
    (14 < 16 ∧ (wPair 8 0x40).sized = true ∧ (wPair 8 0x40).rs422 14 = true ∧ (wPair 8 0x40).flag (Reg.odoStat 14) 1 = false ∧
        (wPair 8 0x40).bindings 14 = [(15, 0)] ∧ (wPair 8 0x40).bindings 0 = [] ∧ ((wPair 8 0x40).odoDecl? 15).isSome = true ∧
        ((wPair 8 0x40).ref 15).src = 0 ∧ ((wPair 8 0x40).ref 15).lost = false ∧ (wPair 8 0x40).flag (Reg.odoStat 14) 6 = true ∧
        (wPair 8 0x40).odoOk 15 = true ∧ ((wPair 8 0x40).ref 15).req = [] ∧ ((wPair 8 0x40).ref 15).wait = []) ∧
      (({ wPair 8 0x40 with dev := some wSole } : State).bindings 14 = [(15, 0)] ∧
        (({ wPair 8 0x40 with dev := some wSole } : State).odoDecl? 15).map (fun d => (d.secondary, d.synth)) = some (255, false)) ∧
      ((wPair 0 0x40).rs422 14 = false ∧ (wPair 8 0x40).flag (Reg.odoStat 14) 1 = false) ∧
      ((wPair 8 2).sized = true ∧ (wPair 8 2).rs422 14 = true ∧ (wPair 8 2).flag (Reg.odoStat 14) 1 = true ∧
        ((wPair 8 2).odoCh 14).supplyLos = false) ∧ 15 < 16 := by decide +kernel

/-- The reference of station 15. -/
def wRef (r : Ref) : State := { wUp with refs := wUp.refs.set 15 r }

theorem witness_ReferenceSourcesReturnAndRun :
    (15 < 16 ∧ wUp.sized = true) ∧
      (let s := wRef { Ref.none with src := 1, req := [(0, 0)] }
       s.sized = true ∧ (s.ref 15).lost = false ∧ (s.ref 15).handover = false ∧ (s.ref 15).req = [(0, 0)] ∧ s.sourceOk 15 0 = true ∧
         0 < (s.ref 15).src) ∧
      (let s := wRef { Ref.none with src := 0, req := [(1, 0)] }
       (s.ref 15).req = [(1, 0)] ∧ s.sourceOk 15 1 = true ∧ (s.ref 15).src ≤ 1) ∧
      (((wRef { Ref.none with lost := true }).ref 15).lost = true ∧ (wUp.ref 15).req = []) ∧
      (let s := wRef { Ref.none with src := 2, synthSpeed := -5 }
       s.sized = true ∧ (s.ref 15).src = 2 ∧ (s.ref 15).lost = false ∧ (s.ref 15).handover = false ∧ s.odoDecl? 15 ≠ none ∧
         s.sourceOk 15 0 = true ∧ (s.ref 15).req = [] ∧ (s.ref 15).wait = []) ∧
      (let s := wRegs [(Reg.odoHealthCfg 14, 0), (Reg.odoHealthCfg 15, 0)] (wRef { Ref.none with src := 2 })
       s.sourceOk 15 0 = false ∧ s.sourceOk 15 1 = false ∧ (s.odoDecl? 15).isSome = true) ∧
      ((wUp.ref 15).src ≠ 2) := by decide +kernel

/-- The header of a replay image for camera 31, at address `a`. -/
def wImage (a : Nat) : State :=
  wRegs [(Reg.ispReplayAddrLo, a)]
    { wUp with
      dram := [(a, 0x48), (a + 1, 0x52), (a + 2, 0x41), (a + 3, 0x57), (a + 4, 31), (a + 6, 16), (a + 8, 4), (a + 12, 9)]
      dev := some { wDev with envs := wDev.envs.map fun e => { e with dramBase := 1 } } }

theorem witness_CapturesReplaysAndRings :
    (wUp.capture = none ∧ wUp.domOn domIsp = true) ∧ (({ wUp with capture := some (31, none) } : State).capture ≠ none) ∧
      (({ wLive with capture := some (31, some 6) } : State).capture = some (31, some 6) ∧ wLive.bale? 6 = none) ∧
      (({ wLive with capture := some (31, some 5) } : State).bale? 5 = some wBale ∧ wLive.capturing wBale = true) ∧
      (15 < 16 ∧ 65535 < 65536 ∧ 31 < 32) ∧ (State.reset.domOn domIsp = false) ∧
      (({ wBlk with ctxs := [] } : StnBlock).visionCam?.bind wUp.camDecl? = none ∧
        ({ wUp with blocks := [{ wBlk with ctxs := [] }] } : State).active? 15 = some { wBlk with ctxs := [] }) ∧
      (15 < 16 ∧ wUp.flag Reg.ispReplayStat 31 = false ∧ State.reset.active? 15 = none ∧
        (wRegs [(Reg.ispReplayStat, 2 ^ 31)] wUp).flag Reg.ispReplayStat 31 = true) ∧
      (let s := wImage 0x100000
       s.active? 15 = some wBlk ∧ (s.env? 15).any (fun e => e.inPayload 0x100000 64 && e.inPayload 0x100000 (64 + 4 * 16)) = true ∧
         (wBlk.visionCam?.bind s.camDecl?).any (fun c => c.cam == 31 && c.pixfmt == 0 && s.linesOf c * c.planes * c.width * c.bpp == 64) ∧
         leAt (s.dramAt 0x100000 64) 0 4 = 0x57415248 ∧ leAt (s.dramAt 0x100000 64) 4 1 = 31 ∧
         leAt (s.dramAt 0x100000 64) 5 1 = 0 ∧ leAt (s.dramAt 0x100000 64) 6 2 = 16 ∧ leAt (s.dramAt 0x100000 64) 8 4 = 4 ∧
         s.slotsReserved 15 + wBlk.baleSlots ≤ s.maxJobs 15) ∧
      ((wImage 0x1FFFC1).env? 15).any (fun e => !e.inPayload 0x1FFFC1 64) = true ∧
      (({ wImage 0x100000 with bales := [wBale] } : State).maxJobs 15 <
        ({ wImage 0x100000 with bales := [wBale] } : State).slotsReserved 15 + wBlk.baleSlots) := by decide +kernel

/-- Camera 31 has triggered all its lines of bale 5 and has held one trigger back; line 3 has arrived. -/
def wLines : State :=
  { wRegs [(Reg.slinkEpStat 0 0, 4)] wLive with
    bales := [{ wBale with trig := [(31, 4)], raw := [⟨31, 3, 0, true, List.replicate 16 1⟩] }]
    cams := wUp.cams.set 31 { Cam.none with delayed := [(5, 3)] }
    links := wUp.links.set 0 { Link.none with up := true, grant := [64, 16, 8, 0] } }

theorem witness_LinesArriveOrAreMissed :
    (31 < 32 ∧ wLines.sized = true ∧ wLines.memOk = true ∧ (wLines.camDecl? 31).isSome = true ∧ (wLines.cam 31).delayed = (5, 3) :: [] ∧
        wLines.bale? 5 ≠ none ∧ wLines.epActive 0 0 = true ∧ (wLines.link 0).canSend 2 3 = true ∧ (wLines.link 0).queue = [] ∧
        wLines.asleep 0 = false ∧
        ({ wLines with bales := [] } : State).bale? 5 = none) ∧
      ((wUp.cam 31).delayed = []) ∧ (wLines.bale? 6 = none ∧ (wLines.camDecl? 31).any (fun c => wLines.linesOf c ≤ 4)) ∧
      ((wLines.bale? 5).any (fun b => b.kind == 0 && (wLines.camsOf b.stn).any (fun d => d.cam == 31) &&
          b.raw.all (fun x => !(x.cam == 31 && x.line == 2 && x.plane == 0) || !x.done)) = true ∧
        (wLines.camDecl? 31).any (fun c => decide (2 < wLines.linesOf c) && decide (0 < c.planes) && decide (0 * 16 + 16 ≤ c.width)) = true) ∧
      ((wLines.cam 31).delayed.contains (5, 2) = false ∧ (wLines.bale? 5).any (fun b => decide (b.stn < 16) && b.trig.any (fun p => p.1 == 31 && decide (2 < p.2)) &&
          (wLines.camDecl? 31).any (fun c => decide (c.link < 16) && !b.lineDone c 2 && b.lineDone c 3)) = true) := by
  decide +kernel

/-- Bale 5 of `wLive` has all its lines. -/
def wWhole : State :=
  { wLive with
    bales := [{ wBale with
      started := true, trig := [(31, 4)], raw := (List.range 4).map fun l => ⟨31, l, 0, true, List.replicate 16 1⟩ }] }

theorem witness_ImagePassesTakeTurns :
    (({ wWhole with isp := some (15, 5, 0) } : State).isp ≠ none ∧ (∀ n < 16, wUp.passesOf n = [])) ∧
      (wWhole.isp = none ∧ wWhole.sized = true ∧ (∃ n < 16, wWhole.passesOf n ≠ [])) ∧
      (wUp.isp = none) ∧
      (({ wWhole with isp := some (15, 5, 0) } : State).isp = some (15, 5, 0) ∧
        (wWhole.bale? 5).any (fun b => wWhole.blockOf b == some wBlk && decide (b.stn < 16) && !b.stopped &&
          decide (b.reexec < wWhole.fget Reg.faultCfg 3 0)) = true ∧
        wBlk.ctxs.find? (fun c => c.ctx == 15) = some wCtx ∧ wCtx.outputs = 4 ∧ (wWhole.camDecl? wCtx.cam).isSome = true ∧
        wWhole.memOk = true) := by decide +kernel

/-- The stripe job of bale 5 on tile 71: queued or running, on an instance or not. -/
def wJob (running : Bool) (inst : Option Nat) (layer : Nat) : State :=
  { wLive with
    jobs := [⟨15, 5, .stripe, 0, running⟩]
    bales := [{ wBale with
      inst := inst, tiles := if inst.isSome then [71] else [], layer := layer, vis := [⟨0, true, []⟩] }] }

/-- Layer 0 of the running job has started on tile 71. -/
def wRun : State :=
  { wJob true (some 0) 0 with
    bales := [{ wBale with inst := some 0, tiles := [71], begun := [(0, 71)], vis := [⟨0, true, []⟩] }] }

/-- A block whose one layer has weights on page 0 of the payload. -/
def wWeighed : StnBlock :=
  { wBlk with layers := [{ wLayer with op := .conv, fmtW := some .int8, fmtOut := .int8, wLen := 1 }], payLen := 64 }

theorem witness_StripeJobsRunOnTheirTiles :
    (wUp.queued 15 = [] ∧ ({ wJob false none 0 with boot := { wUp.boot with rebuilding := true } } : State).boot.rebuilding = true) ∧
      (let s := wJob false none 0
       s.sized = true ∧ (wBale.stn) < 16 ∧ s.queued 15 = [⟨15, 5, .stripe, 0, false⟩] ∧ (s.bale? 5).isSome = true ∧ s.retiring = [] ∧
         s.boot.rebuilding = false ∧
         (s.jobs.any fun x => x.bale == 5 && x.running) = false ∧ (s.stn 15).tiles ≠ [] ∧
         (s.bale? 5).any (fun b => b.inst.isNone && b.reexec == 0 && !b.held && !b.stopped &&
           ((instancesOf (s.slotsOf b.stn) (s.placeTiles b)).find? (fun p => p.2.all (s.tileReady b)) == some (0, [71]))) = true ∧
         71 < 72) ∧
      (let s := wJob false (some 0) 0
       (s.bale? 5).any (fun b => b.inst == some 0 && b.tiles == [71] && !s.placeLost b && [71].all (s.tileReady b) &&
         decide (b.reexec < s.fget Reg.faultCfg 3 0)) = true) ∧
      (let s := wJob true (some 0) 0
       (s.bale? 5).any (fun b => s.blockOf b == some wBlk && wBlk.layers[0]? == some wLayer && decide (b.stn < 16) &&
         b.tiles.contains 71 && decide (b.layer ≤ 0) && !b.begun.contains (0, 71) && s.sourcesReady b 0 wLayer &&
         s.resident wBlk.uid (s.pagesFor b wBlk wLayer 71) 71) = true ∧ 71 < 72 ∧ 0 < 4096 ∧ s.stripeRuns 5 = true) ∧
      (let s := wJob true (some 0) 1
       s.sized = true ∧ s.stripeRuns 5 = true ∧ (s.bales.map Bale.id).Nodup ∧
         (s.bale? 5).any (fun b => s.blockOf b == some wBlk && decide (b.stripes + 1 < s.stripesOf b) &&
           decide (wBlk.layers.length ≤ b.layer)) = true) ∧
      (let s : State := { wJob true (some 0) 0 with bales := [] }
       s.sized = true ∧ s.stripeRuns 5 = true ∧ s.bale? 5 = none) ∧
      ((wJob false none 0).stripeRuns 5 = false) := by decide +kernel

theorem witness_LayersAndPagesEnd :
    (let s : State := { wJob true (some 0) 0 with blocks := [wWeighed] }
     71 < 72 ∧ s.sized = true ∧ s.memOk = true ∧
       (s.bale? 5).any (fun b => s.blockOf b == some wWeighed && s.pageOwner 71 == some b.stn && s.wantsPage b wWeighed 71 0 &&
         decide (0 < s.pagesPerTile b.stn) && !b.runsOn 71 && s.standsFor 71 == 71) = true) ∧
      (wUp.bale? 5 = none ∧ (wJob true (some 0) 0).pageOwner 70 = none ∧
        (wJob true (some 0) 0).wantsPage wBale wBlk 71 0 = false) ∧
      (wRun.stripeRuns 5 = true ∧
        (wRun.bale? 5).any (fun b => (wRun.stripeOf b).any (fun p => p.1 == wBlk) && wBlk.layers[0]? == some wLayer && b.layer == 0 &&
          b.startedAll 0 && wRun.sourcesReady b 0 wLayer && decide (0 ≤ b.rows.length)) = true) ∧
      ((wJob false none 0).stripeRuns 5 = false) ∧
      (wRun.sized = true ∧ (wRun.bales.map Bale.id).Nodup ∧ 71 < 72 ∧
        (wRun.bale? 5).any (fun b => decide (b.stn < 16) && !b.stopped && decide (b.reexec < wRun.fget Reg.faultCfg 3 0) &&
          b.tiles.contains 71 && ((wRun.blockOf b).bind fun x => x.layers[0]?) == some wLayer && wRun.pageOwner 71 == some b.stn) = true ∧
        (wRun.tile 71).st = tileActive ∧ wRun.retiring = [] ∧ wRun.fmap.entries.length + wRun.fmap.writing.length < 64) := by
  decide +kernel

/-- A running sequence of decoder 1 of station 15, on the one decode tile. -/
def wSeq : Dec := { newDec 5 7 false 0 [] with running := true }

/-- Bale 5 with its tree job queued, and its decoder running; it has the decode tile's turn. -/
def wTrees : State :=
  { wLive with
    jobs := [⟨15, 5, .tree, 0, false⟩]
    blocks := [{ wBlk with decTiles := 1, decs := [wDec, wDec] }]
    stations := wLive.stations.set 15
      { wLive.stn 15 with decTiles := 1, n := 0, dec := { (wLive.stn 15).dec with turn := some (1, 5, false) } }
    decs := [((15, 1), wSeq)] }

/-- The sequence still waits for its dispatch. -/
def wQueuedSeq : State :=
  { wTrees with jobs := [⟨15, 5, .decode, 1, false⟩], decs := [((15, 1), newDec 5 7 false 0 [])] }

theorem witness_TreePassesAndTokens :
    (({ wTrees with treePass := some (15, 0, [5]) } : State).treePass ≠ none ∧ (∀ n < 16, wUp.treeJobs n = [])) ∧
      (wTrees.treePass = none ∧ wTrees.sized = true ∧ (∃ n < 16, wTrees.treeJobs n ≠ [])) ∧
      (15 < 16 ∧ ({ wTrees with treePass := some (15, 0, [5]) } : State).treePass = some (15, 0, [5]) ∧
        (wTrees.bale? 5).any (fun b => (wTrees.blockOf b).any (fun k => k.trees[0]?.isSome)) = true) ∧
      (15 < 16 ∧ 2 ≠ 0) ∧ (wUp.treePass = none) ∧ wUp.decs = [] ∧
      (wQueuedSeq.queued 15 = [⟨15, 5, .decode, 1, false⟩] ∧ wQueuedSeq.mayRun ⟨15, 5, .decode, 1, false⟩ = true ∧
        wQueuedSeq.retiring = [] ∧ wQueuedSeq.boot.rebuilding = false ∧ (∀ y ∈ wQueuedSeq.decs, y.1 = (15, 1) → y.2.running = false) ∧
        wQueuedSeq.decs.find? (fun y => y.1 == (15, 1) && y.2.bale == 5 && y.2.interactive == false) =
          some ((15, 1), newDec 5 7 false 0 []) ∧
        (wQueuedSeq.decImage 1 (newDec 5 7 false 0 [])).any (fun p =>
          decide (wQueuedSeq.kvHeld 15 + p.1.kvPages ≤ 96 * (wQueuedSeq.decodeTiles 15).length)) = true ∧
        wQueuedSeq.decodeReady 15 (newDec 5 7 false 0 []) = true) ∧
      (15 < 16 ∧ 1 < 2 ∧
        wTrees.decs.find? (fun y => y.1 == (15, 1) && y.2.running && (wTrees.stn 15).dec.turn == some (decKey y)) =
          some ((15, 1), wSeq) ∧
        wSeq.interactive = false ∧ (wTrees.bale? wSeq.bale).any (fun b => !b.stopped) = true ∧ wTrees.decodeTiles 15 ≠ [] ∧
        (wTrees.decImage 1 wSeq).isSome = true) := by decide +kernel

/-- Bale 5 under judgement, after `tries` disagreements; `late` is the entry's late mark. -/
def wJudge (tries : Nat) : State := { wLive with bales := [{ wBale with judging := true, tries := tries }] }

/-- The entry of bale 5 took the default action in this very cycle. -/
def wOverdue : State := { wArmed with miles := [{ wMile 0 5 with st := 2, defaulted := true, lateAt := some 0 }] }

theorem witness_VerdictsCommitOrDisagree :
    (let s := wJudge 0
     s.sized = true ∧ (s.bale? 5).any (fun b => b.judging && b.kind == 0 && b.entry == some 0 && decide (b.stn < 16) &&
         s.blockOf b == some wBlk && runRules (s.verdictOperands b wBlk) wBlk.rules == some (0, 1)) = true ∧ 0 < 32 ∧ 1 < 256 ∧
       s.mile? 0 = some (wMile 0 5) ∧ (wMile 0 5).again = none ∧ (s.policy? 15).isSome = true ∧ (s.bales.map Bale.id).Nodup ∧
       (∀ c ∈ s.bales, c.entry = some 0 → c.id = 5) ∧ atOrBefore 48 (wMile 0 5).pDead (s.ref 15).hwm.toNat = false ∧
       (s.policy? 15).any (fun p => (p.ejector? 1).any (fun x => !atOrBefore 48 (posAdd 0 x.offset) (s.ref 15).hwm.toNat)) = true) ∧
      (let s := wJudge 0
       (s.policy? 15).any (fun p => (p.ejector? 0).isNone && !atOrBefore 48 (posAdd 0 p.maxOffset) (s.ref 15).hwm.toNat) = true) ∧
      (let s := wJudge 1
       (s.bale? 5).any (fun b => b.judging && b.tries != 0 && !b.stopped && decide (b.reexec < s.fget Reg.faultCfg 3 0)) = true ∧ 255 % 256 ≠ 0 ∧
         (wJudge 0).bale? 5 = some { wBale with judging := true, tries := 0 }) ∧
      (wLive.bale? 5 = some wBale ∧ wBale.judging = false ∧ wUp.bale? 5 = none ∧ wUp.miles = []) ∧
      (wOverdue.bale? 5 = none ∧ (wOverdue.miles.map Mile.idx).Nodup ∧
        (wOverdue.miles.find? (fun m => m.bale == 5 && m.lateAt == some wOverdue.now && !m.late)).any (fun m => decide (m.stn < 16)) = true) := by
  decide +kernel

/-- Bale 5 waits for the convoy step of group 31, with the contributions `data` there. -/
def wStepping (data : List CvData) : State :=
  { wRegs [(Reg.convoyGrpCfg 31, 0x8000), (Reg.slinkEpStat 14 1, 4)] wArmed with
    bales := [{ wBale with step := some 31 }]
    groups := State.reset.groups.set 31 ⟨[], data, [], []⟩ }

/-- The group of `wDev`. -/
def wGroup : GroupDecl := ⟨15, 31, 1, 100, [0x8000, 897]⟩

theorem witness_ConvoyMessagesAndTimeouts :
    (31 < 32 ∧ (wStepping []).sized = true ∧ (wStepping []).groupDecl? 31 = some wGroup ∧ wGroup.memberAt 14 = some 1 ∧
        wGroup.members.length ≠ 3 ∧ { wBale with step := some 31 } ∈ (wStepping []).bales ∧
        ((wStepping []).bales.map Bale.id).Nodup ∧ (∀ x ∈ (wStepping []).bales, x = { wBale with step := some 31 }) ∧
        (wStepping []).missing wGroup 1 ≠ [] ∧ (∀ c ∈ (wStepping []).held 31 1, c.absent = false) ∧
        (∀ b ∈ wLive.bales, b.step = none) ∧ wLive.groupDecl? 31 = some wGroup ∧
        (wStepping []).peerUp 14 = true ∧ (wRegs [(Reg.slinkEpStat 14 1, 2)] wLive).peerUp 14 = true ∧ wLive.peerUp 14 = false) ∧
      (State.reset.groupDecl? 31 = none ∧ wGroup.memberAt 15 = none) ∧
      (wUp.groupDecl? 30 = none ∧ (∃ c ∈ ((wStepping [⟨1, 1, false, 0, [0]⟩]).group 31).data, c.member = 1 ∧ c.tag = 1)) ∧
      ((let s := wStepping [⟨0, 1, false, 0, [0]⟩]
        s.sized = true ∧ 1 ∉ (s.group 31).ended ∧ (∀ c ∈ (s.group 31).data, c.member = 1 → c.tag ≠ 1) ∧
          ((s.group 31).data.filter fun c => c.member == 1 && c.tag != 1).length < 8 ∧ wBale.tseq = 1 ∧
          (∀ c ∈ s.held 31 1, c.absent = false) ∧ s.missing wGroup 1 = [1] ∧
          s.stepsLeft { wBale with step := some 31 } = [wGroup])) ∧
      ((wStepping []).bale? 5 = some { wBale with step := some 31 } ∧ wUp.bale? 5 = none) := by decide +kernel

theorem witness_DeviceFaultsAreContained :
    (wLive.boot.khanAt = none ∧ (wLive.bales.map Bale.id).Nodup ∧ wBale ∈ wLive.bales ∧ wBale.stopped = false ∧ wBale.reexec < wLive.fget Reg.faultCfg 3 0 ∧
        wUp.bales = []) ∧
      (wUp.boot.rebuilding = false ∧ ({ wLive with boot := { wLive.boot with rebuilding := true } } : State).boot.rebuilding = true) ∧
      wUp.boot.rollAt = none ∧
      (let s : State := { wLive with boot := { wLive.boot with khanAt := some 0, rollAt := some 0 } }
       s.sized = true ∧ s.boot.khanAt = some 0 ∧ s.now ≤ 0 + 250000000 ∧ s.boot.rollAt = some 0 ∧ s.now ≤ 0 + 2500) ∧
      (wLive.inWay = false ∧ (wRegs [(Reg.sysBootStat, 2 ^ 31)] { wUp with boot := { wUp.boot with khanAt := some 0, rollAt := some 0 } }).inWay = true) ∧
      7 < 8 ∧ (wLive.bale? wBale.id = some wBale ∧ wBale.stn < 16 ∧ wLive.droverOn 7 = true ∧ State.reset.droverOn 7 = false) ∧
      (3 < 4 ∧ wUp.cores[3]?.any (fun k => !k.run) = true ∧ wUp.cores[0]? = some ⟨true, 0, 0, 0, 0⟩) := by decide +kernel

/-- Endpoint 63 of link 15 is ACTIVE with an exchange in progress, and link 15 is aligned with full grants. -/
def wSync (exch : Option (Nat × Nat)) : State :=
  { wRegs [(Reg.slinkEpStat 15 63, 4), (Reg.slinkStat 15, 2 ^ 31)] wUp with
    eps := [⟨15, 63, exch, 0, false, none, 0⟩]
    links := wUp.links.set 15 { Link.none with up := true, grant := [64, 16, 8, 0] } }

theorem witness_TimebaseIsCorrectedAndFollowed :
    ((0x03FEF9DC : Word).toNat ≤ 0x04010624 ∧ (wSync (some (3, 4))).epsOk = true ∧
        ((wSync (some (3, 4))).ep? 15 63).any (fun e => e.exch != none) = true ∧
        (0x04010624 : Word) ≠ (wSync none).reg Reg.timeTbIncr ∧ (wSync none).reg Reg.timeTbIncr = (0x04000000 : Word)) ∧
      ((0x03FEF9DB : Word).toNat < 0x03FEF9DC ∧ 0x04010624 < (0x04010625 : Word).toNat) ∧ (wArmed.anyArmed = true ∧ (1 : Word) ≠ wArmed.reg Reg.timeTbStep ∧ (0 : Word) = wArmed.reg Reg.timeTbStep ∧ wArmed.epsOk = true) ∧
      (let s := wSync (some (3, 4))
       s.anyArmed = false ∧ s.epsOk = true ∧ s.tb.incr.toNat ≤ 0x04010624 ∧
         ((s.tb.lt.toNat * 2 ^ 24 + s.tb.frac.toNat + s.tb.incr.toNat) / 2 ^ 24) < 2 ^ 32) ∧
      (wLate.tb.incr.toNat ≤ 0x04010624 ∧ 0 < (wLate.reg Reg.timeTbIncr).toNat ∧ (wLate.reg Reg.timeTbIncr).toNat ≤ 0x04010624) ∧
      (let s := wSync none
       s.eps = [⟨15, 63, none, 0, false, none, 0⟩] ∧ s.epActive 15 63 = true ∧ (s.epDecl? 15 63).map EpDecl.cls ≠ some 4 ∧
         (s.link 15).canSend 2 3 = true ∧ (s.link 15).queue = []) := by decide +kernel

/-- Port 1 recognises messages of Ethernet; its transmit FIFO holds `n` timestamps. -/
def wPtp (n : Nat) : State :=
  { wRegs [(Reg.ethPtpCtrl 1, 1)] wUp with ptp := [[], [], [], List.replicate n ⟨0, 0, 0, 0⟩] }

theorem witness_EventMessagesAreTimestamped :
    (1 < 2 ∧ (wPtp 15).sized = true ∧ (wPtp 15).ethOn 1 = true ∧ (wPtp 15).flag (Reg.ethPtpCtrl 1) (b2n false) = true ∧ 3 < 4 ∧
        ((wPtp 15).ptpFifo 1 1).length < (if 1 = 0 then 64 else 16)) ∧
      ((wPtp 16).sized = true ∧ (wPtp 16).ethOn 1 = true ∧ (wPtp 16).flag (Reg.ethPtpCtrl 1) (b2n false) = true ∧
        ¬ ((wPtp 16).ptpFifo 1 1).length < (if 1 = 0 then 64 else 16)) ∧
      ((wPtp 16).flag (Reg.ethPtpCtrl 1) (b2n true) = false ∧ wUp.ethOn 0 = false) := by decide +kernel

/-- A device with a mirror region; `w` waits to be written, and slot 31 was written last. -/
def wMirror (w : List (List Byte)) : State := { wUp with flash := wFlash, log := { wUp.log with slot := 31, writing := w } }

theorem wMirror_base (w : List (List Byte)) : (wMirror w).mirrorBase? = some 0x3000 := by
  unfold State.mirrorBase? State.dirFind?
  rw [wDir_eq (s := wMirror w) rfl]
  decide +kernel

theorem witness_LogbookIsKeptAndMirrored :
    ((wMirror []).mirrorBase? = some 0x3000 ∧ wUp.mirrorBase? = none) ∧
      ((wMirror [[1]]).mirrorBase? = some 0x3000 ∧ (wMirror [[1]]).log.writing = [1] :: [] ∧ (wMirror [[1]]).memOk = true) ∧
      (wMirror []).log.writing = [] ∧
      ((wUp.log.vbatLost && !wUp.log.power) = false ∧
        ({ wUp with log := { wUp.log with vbatLost := true, power := false } } : State).log.vbatLost = true ∧
        ({ wUp with log := { wUp.log with setPend := true } } : State).log.setPend = true ∧ wUp.log.power = true) ∧
      (wRegs [(Reg.logPoh, 2 ^ 32 - 2)] wUp).reg Reg.logPoh = (0xFFFFFFFE : Word) ∧
      (wUp.log.low = none ∧ ({ wUp with log := { wUp.log with low := some (-10) } } : State).log.low = some (-10) ∧
        (629 : Int) < -10 + 640 ∧ (-10 : Int) + 640 ≤ 630) :=
  ⟨⟨wMirror_base [], by decide +kernel⟩, ⟨wMirror_base [[1]], rfl, by decide +kernel⟩, rfl, by decide +kernel, by decide +kernel,
    by decide +kernel⟩

theorem witness_CoresAreReleasedTimedAndWatched :
    (wUp.running = true ∧ (wUp.core 0).run = true ∧ wUp.sized = true ∧ (0xE : Nat).testBit 3 = true ∧ (wUp.core 3).run = false) ∧
      ((1 ≠ 0) ∧ State.reset.running = false) ∧ (0x14B % 256 = 0x4B ∧ (1 : Nat).testBit 0 = true) ∧ 3 < 4 ∧
      ((wUp.core 0).cmp.toNat ≤ wUp.tb.cycles.toNat) := by decide +kernel

/-- UART 1 with `n` bytes in each FIFO, and I2C controller 1 with the commands `ops`. -/
def wSerial (n : Nat) (ops : List I2cOp) : State :=
  { wRegs [(Reg.gpioEdge, 0x80008000)] wUp with
    uart := [⟨[], []⟩, ⟨List.replicate n 7, List.replicate n 7⟩]
    i2c := [⟨[], [], false⟩, ⟨ops, [], false⟩] }

theorem witness_SerialPortsGpioAndBoundaryScan :
    (1 < 2 ∧ (wSerial 0 []).sized = true ∧ ((wSerial 0 []).uartOf 1).rx.length = 0) ∧
      ((wSerial 64 []).sized = true ∧ 64 ≤ ((wSerial 64 []).uartOf 1).rx.length ∧ ¬ ((wSerial 64 []).uartOf 1).tx.length < 64) ∧
      (0 < ((wSerial 63 []).uartOf 1).rx.length ∧ ((wSerial 63 []).uartOf 1).rx.length < 64) ∧
      ((wSerial 17 []).sized = true ∧ ((wSerial 17 []).uartOf 1).tx.length = 17 ∧ ((wSerial 16 []).uartOf 1).tx.length ≠ 17) ∧
      (¬ ((wSerial 0 (List.replicate 16 .stop)).i2cOf 1).cmds.length < 16 ∧ ((wSerial 0 []).i2cOf 1).cmds.length < 16) ∧
      ((wSerial 0 [.write 9]).sized = true ∧ ((wSerial 0 [.write 9]).i2cOf 1).cmds = .write 9 :: [] ∧
        ((wSerial 0 [.readAck, .stop]).i2cOf 1).cmds = .readAck :: [.stop]) ∧ ((wSerial 0 []).i2cOf 1).cmds = [] ∧
      (15 < 16 ∧ (wSerial 0 []).gpio.getD 15 false ≠ true ∧ (wSerial 0 []).flag Reg.gpioDir 15 = false ∧
        (wSerial 0 []).flag Reg.gpioEdge 15 = true ∧ wUp.flag Reg.gpioEdge 15 = false) ∧
      (wUp.boot.rstLow = false ∧ State.reset.boot.rstLow = true) := by decide +kernel

/-- The port executes the request `r`; `last` is the last one answered. -/
def wSport (r : Option Request) (last : Option (Nat × Nat × List Byte)) : State :=
  { wUp with sport := { wUp.sport with running := r, last := last } }

theorem witness_StewardPortTakesFrames :
    (3 < 4 ∧ (wSport none none).sized = true ∧ (wSport none none).portOn 3 = true ∧ (wSport none none).portOn 1 = true ∧
        (wSport none none).sport.rx.getD 3 [] = [] ∧ (List.replicate 1024 (0 : Byte)).length ≤ 1024 ∧ 0x01 ∈ portCmds ∧
        (wSport none none).sport.running = none ∧ (wSport none none).sport.last = none) ∧
      ((wSport (some ⟨0, 1, 1, []⟩) none).sport.running ≠ none ∧ (wSport (some ⟨0, 1, 1, []⟩) none).portOn 3 = true) ∧
      ((wSport none (some (255, 1, [7]))).sport.last = some (255, 1, [7]) ∧ 0xFF ∉ portCmds) ∧
      (let body : List Byte := [1, 1, 0, 0, 0, 0]
       body.length = 6 + leAt body 2 2 ∧ leAt body 2 2 ≤ 1024 ∧ ([0, 0] : List Byte).length = 2 ∧ beN [0, 0] ≠ crc16 body) ∧
      (9 < 10 + ([] : List Byte).length) ∧ (wUp.portOn 2 = false ∧ State.reset.portOn 0 = false) ∧
      (wUp.sport.rx.getD 1 [] = [] ∧ ({ wUp with sport := { wUp.sport with rx := [[], [1], [], []] } } : State).sport.rx.getD 1 [] ≠ []) ∧
      (State.reset.portOn 3 = false ∧ (wSport (some ⟨3, 1, 1, []⟩) none).portOn 3 = true ∧
        (∃ q, (wSport (some ⟨3, 1, 1, []⟩) none).sport.running = some q ∧ q.t = 3) ∧
        (∀ q, (wSport none none).sport.running = some q → q.t ≠ 3)) ∧
      (let s : State := { wUp with sport := { wUp.sport with tx := [[], [], [], [9]] } }
       s.sized = true ∧ s.sport.busy = false ∧ s.sport.tx.getD 3 [] = 9 :: []) ∧ wUp.sport.tx.getD 3 [] = [] ∧
      (let s := wSport (some ⟨3, 1, 1, []⟩) none
       ({ s with sport := { s.sport with busy := true } } : State).sport.busy = true) := by decide +kernel

/-- A request of the internal transport. -/
def wAsk (cmd : Nat) (payload : List Byte) : State := wSport (some ⟨3, 255, cmd, payload⟩) none

/-- A request in the waystation state. -/
def wWayAsk (cmd : Nat) (payload : List Byte) : State := wRegs [(Reg.sysBootStat, 2 ^ 31)] (wAsk cmd payload)

theorem witness_StewardReportsAndReachesRegisters :
    (portCode .getInfo = some 0x01 ∧ wUp.sport.running = none) ∧
      ((wAsk 0x31 [0]).sport.running = some ⟨3, 255, 0x31, [0]⟩ ∧ (wAsk 0x31 [0]).sized = true ∧
        (wAsk 0x31 [0]).portServes 0x31 = true ∧ (wAsk 0x04 [0]).portServes 0x04 = true ∧ (wAsk 0x21 [0]).portServes 0x21 = true ∧
        ({ wAsk 0x03 [] with boot := { wUp.boot with rom := true } } : State).portServes 0x03 = false) ∧
      ((wAsk 0x01 []).portServes 0x01 = true ∧ (wAsk 0x02 []).portServes 0x02 = true ∧ (wAsk 0x03 []).portServes 0x03 = true ∧
        3 < 4) ∧
      ((wAsk 0x04 [63, 1]).portServes 0x04 = true ∧ (1 : Byte) ≠ 0 ∧ (63 : Byte).toNat + (1 : Byte).toNat ≤ 64 ∧
        64 < (64 : Byte).toNat + (1 : Byte).toNat) ∧
      ((wAsk 0x05 [0, 4, 0, 0]).portServes 0x05 = true ∧ leN ([0, 0, 0, 0] : List Byte) = 0 ∧ 0 < leN ([255, 31, 0, 0] : List Byte) ∧
        leN ([255, 31, 0, 0] : List Byte) < 8192 ∧ 8192 ≤ leN ([0, 32, 0, 0] : List Byte) ∧
        ({ wAsk 0x05 [0, 4, 0, 0] with sport := { (wAsk 0x05 [0, 4, 0, 0]).sport with image := [1] } } : State).sport.image ≠ []) ∧
      (let p : List Byte := leBytes 8 (0x2000110000 - 0xFC) ++ [64]
       (wAsk 0x06 p).portServes 0x06 = true ∧ p.length = 9 ∧ leAt p 8 1 = 64 ∧ (wAsk 0x06 p).inWay = false ∧
         (wWayAsk 0x06 p).inWay = true ∧ (wWayAsk 0x06 p).portServes 0x06 = true ∧
         (∃ k < 64, aonBlock (leAt p 0 8 + 4 * k) = false)) ∧
      (let p : List Byte := leBytes 8 Reg.sysDetMode ++ leBytes 4 1
       p.length = 12 ∧ (wAsk 0x07 p).portServes 0x07 = true ∧ (wAsk 0x07 p).inWay = false ∧ aonBlock (leAt p 0 8) = true) ∧
      (let p : List Byte := leBytes 8 (Reg.khanCtrl) ++ leBytes 4 1
       (wWayAsk 0x07 p).inWay = true ∧ (wWayAsk 0x07 p).portServes 0x07 = true ∧ aonBlock (leAt p 0 8) = false) ∧
      ((wAsk 0x07 [1]).portServes 0x07 = true ∧ ([1] : List Byte).length < 12) := by decide +kernel

/-! Images and commands signed as the containers are: a steward firmware image, an application image, and the payloads of
APPROVE_ROW for row 7 and of REVOKE_SLOT for slot 3. -/

/-- A firmware image. -/
def wFirmware : List Byte :=
  [0x48, 0x53, 0x46, 0x57] ++ leBytes 4 2 ++
    wTrailer 0xc0ff80387a5df7208f26b6d1924fe8848c1a45fc28a4e3f8d32836f674e09d50
      0x1f2194b5d66ecd478cd0bc8e63e0384f60baedf572d8ccfa04c84dbe92ee7d9d
      0x57deec4011153ae749fed91a3e81dfa32eabd3849e3bf0a2fa232a500bdce12a

/-- An application image of four bytes at 0x1000. -/
def wApp : List Byte :=
  [0x48, 0x41, 0x50, 0x50] ++ leBytes 4 0 ++ leBytes 8 0x1000 ++ leBytes 8 0x1000 ++ leBytes 4 4 ++ leBytes 4 0 ++ leBytes 4 1 ++
    wTrailer 0xefd7ab57ea44c889e8405e2338788e567a39025549356d9be6a68e3f7f80627c
      0xf2156eafccf7178081d5352293d8ad1d06439368df557286a76040071cbba54c
      0xb1a0532737e147ff0786fbe34d6f73c6ee0b0dcc79927688bd79f6b62cbe753

/-- The payload of APPROVE_ROW for row 7, signed with slot 3, of the part with serial 1. -/
def wApprove : List Byte :=
  [7, 3] ++ wTrailer 0x6199120501db4a59e3ecf23c02ca280aa3cd1c0e13e8013e84d289d404257d3d
    0xcc6d6135657d702b07bfdfa7a28ed1c9d7064ca2cfa7d15162914b0c620c3911
    0x3a5bc9468f13cd1124060393fdc2832e6e1ad5622942ef518066ae95836ba2e1

/-- The payload of REVOKE_SLOT for slot 3, signed with slot 2, of the part with serial 6. -/
def wRevoke : List Byte :=
  [3, 2] ++ wTrailer 0xebd78354d5d96833c66378937411fc9a6d08b08eb03efe43ced6b190510cc6af
    0xb36ad17e3eb8a1f28c1702092241652937f2f6618427dac254e84374bbd6c2c2
    0xad34aa0d9b96d3554e51ce63f4c19cb314b54f1f6164df56b984336b0c286816

theorem reads_writes (d : Byte) (m : Memory) (a : Nat) (bs : List Byte) (h : Memory.wf d m = true) :
    Memory.reads d (Memory.writes d m a bs) a bs.length = bs := by
  refine List.ext_getElem (by simp [Memory.reads]) fun i h1 h2 => ?_
  simp [Memory.reads, Memory.read_writes d m a _ bs h, h2]

theorem reads_writes_apart (d : Byte) (m : Memory) (a b n : Nat) (bs : List Byte) (h : Memory.wf d m = true)
    (hb : b + n ≤ a ∨ a + bs.length ≤ b) : Memory.reads d (Memory.writes d m a bs) b n = Memory.reads d m b n := by
  refine List.map_congr_left fun i hi => ?_
  have h1 := List.mem_range.mp hi
  rw [Memory.read_writes d m a _ bs h, if_neg (by omega)]

/-- Flash with a directory alone, whose regions are those of `wBootFlash`. -/
@[irreducible] def wBootDir : Memory :=
  wBytes 0xFF (wDir [(1, 0x1000, 136), (4, 0x2000, 792), (3, 0x3000, 164)] ++ leBytes 4 1549767529)

/-- Boot flash with the firmware image in slot A, the container of LOAD_FULL as the manifest, and the application image. -/
@[irreducible] def wBootFlash : Memory :=
  let w := Memory.writes flashByte
  w (w (w wBootDir 0x1000 wFirmware) 0x2000 wFull) 0x3000 wApp

theorem wBootDir_wf : Memory.wf flashByte wBootDir = true := by decide +kernel

theorem wBootFlash_wf : Memory.wf flashByte wBootFlash = true := by
  unfold wBootFlash
  exact Memory.wf_writes _ _ _ _ (Memory.wf_writes _ _ _ _ (Memory.wf_writes _ _ _ _ wBootDir_wf))

theorem wImage_lengths : wFirmware.length = 136 ∧ wFull.length = 792 ∧ wApp.length = 164 := by decide +kernel

theorem wBootFlash_low {a n : Nat} (h : a + n ≤ 0x1000) :
    Memory.reads flashByte wBootFlash a n = Memory.reads flashByte wBootDir a n := by
  obtain ⟨l1, l2, l3⟩ := wImage_lengths
  have w1 := Memory.wf_writes _ _ 0x1000 wFirmware wBootDir_wf
  have w2 := Memory.wf_writes _ _ 0x2000 wFull w1
  unfold wBootFlash
  rw [reads_writes_apart _ _ _ _ _ _ w2 (by omega), reads_writes_apart _ _ _ _ _ _ w1 (by omega),
    reads_writes_apart _ _ _ _ _ _ wBootDir_wf (by omega)]

/-- What the device reads from its directory. -/
def wBootEntries : List DirEntry := [⟨0, 1, true, 0x1000, 136⟩, ⟨1, 4, true, 0x2000, 792⟩, ⟨2, 3, true, 0x3000, 164⟩]

set_option maxRecDepth 200000 in
theorem wBootDir_dir : ({ State.reset with flash := wBootDir } : State).dir = wBootEntries := by decide +kernel

theorem wBoot_dir {s : State} (h : s.flash = wBootFlash) : s.dir = wBootEntries := by
  have e : ∀ a n, a + n ≤ 0x1000 → s.flashAt a n = ({ State.reset with flash := wBootDir } : State).flashAt a n := by
    intro a n hn
    unfold State.flashAt
    rw [h]
    exact wBootFlash_low hn
  rw [← wBootDir_dir]
  unfold State.dir State.dirOk
  rw [e 0 4 (by omega), e 252 4 (by omega), e 0 252 (by omega)]
  have g : ∀ i ∈ List.range 14, s.flashAt (dirAt i) 16 = ({ State.reset with flash := wBootDir } : State).flashAt (dirAt i) 16 :=
    fun i hi => e _ _ (by have := List.mem_range.mp hi; unfold dirAt; omega)
  rw [List.map_congr_left fun i hi => by rw [g i hi]]

theorem wBootFlash_images : Memory.reads flashByte wBootFlash 0x1000 136 = wFirmware ∧
    Memory.reads flashByte wBootFlash 0x2000 792 = wFull ∧ Memory.reads flashByte wBootFlash 0x3000 164 = wApp := by
  obtain ⟨l1, l2, l3⟩ := wImage_lengths
  have w1 := Memory.wf_writes _ _ 0x1000 wFirmware wBootDir_wf
  have w2 := Memory.wf_writes _ _ 0x2000 wFull w1
  unfold wBootFlash
  refine ⟨?_, ?_, ?_⟩
  · rw [reads_writes_apart _ _ _ _ _ _ w2 (by omega), reads_writes_apart _ _ _ _ _ _ w1 (by omega), ← l1]
    exact reads_writes _ _ _ _ wBootDir_wf
  · rw [reads_writes_apart _ _ _ _ _ _ w2 (by omega), ← l2]
    exact reads_writes _ _ _ _ w1
  · rw [← l3]
    exact reads_writes _ _ _ _ w2

theorem wBoot_images {s : State} (h : s.flash = wBootFlash) :
    s.flashImage 1 = wFirmware ∧ s.flashImage 4 = wFull ∧ s.flashImage 3 = wApp := by
  unfold State.flashImage State.dirFind?
  rw [wBoot_dir h]
  obtain ⟨e1, e2, e3⟩ := wBootFlash_images
  rw [← h] at e1 e2 e3
  have f1 : wBootEntries.find? (fun e => e.type == 1 && e.valid) = some ⟨0, 1, true, 0x1000, 136⟩ := by decide
  have f4 : wBootEntries.find? (fun e => e.type == 4 && e.valid) = some ⟨1, 4, true, 0x2000, 792⟩ := by decide
  have f3 : wBootEntries.find? (fun e => e.type == 3 && e.valid) = some ⟨2, 3, true, 0x3000, 164⟩ := by decide
  rw [f1, f4, f3]
  simp only [Option.map_some, Option.getD_some, State.image, State.flashAt]
  exact ⟨e1, e2, e3⟩

theorem wBoot_memOk {s : State} (h : s.flash = wBootFlash) (hd : s.dram = []) (hs : s.sram = []) : s.memOk = true := by
  unfold State.memOk
  rw [h, hd, hs, wBootFlash_wf]
  rfl

/-- OTP with the keys of the images: the firmware's, the manifest's in slot 0, and the application's in slot 1. -/
def wKeys : Otp :=
  { State.reset.otp with
    fwKeys := [0, 0x942795f66329298ae289d74303caca44e36a6b2b1b9db3142a666473f8f6302b]
    keys := [0x166ea1b13b4ea1d814800354cd68d3a7e21764ab9a5487039c83c9bd41d816f0,
      0x3a248e2e7d0bc4b437b75dc23579b1b34bf8de1664988a04694e890b205157e1, 0, 0] }

/-- Muster runs phase `p`, with the good images in flash. -/
def wMuster (p : Nat) : State := { State.reset with flash := wBootFlash, otp := wKeys, boot := { wUp.boot with phase := some p } }

theorem wFirmware_good : (wMuster 1).firmwareStatus wFirmware = 0 := by decide +kernel
theorem wBootBlock_good : (wMuster 1).bootBlockOk wFull = true := by decide +kernel

/-- A state about to end a FLASH session of TYPE 2 with `len` bytes, or to store into it. -/
def wSession (cmd len : Nat) (payload : List Byte) : State :=
  { wAsk cmd payload with flash := wFlash, sport := { (wAsk cmd payload).sport with flash := some ⟨2, 0, len⟩ } }

theorem wSession_entry (cmd len : Nat) (payload : List Byte) :
    (wSession cmd len payload).sessionEntry? ⟨2, 0, len⟩ = some ⟨0, 2, true, 0x1000, 0x1000⟩ := by
  unfold State.sessionEntry?
  rw [wDir_eq (s := wSession cmd len payload) rfl]
  rfl

/-- A FLASH session of the firmware image, which stands in flash. -/
def wEnding : State :=
  { wAsk 0x12 [] with
    flash := wBootFlash, otp := wKeys, sport := { (wAsk 0x12 []).sport with flash := some ⟨1, 0, 136⟩ } }

theorem wEnding_good : wEnding.imageStatus 1 (wEnding.flashAt 0x1000 136) = stOk := by
  have e : wEnding.flashAt 0x1000 136 = wFirmware := wBootFlash_images.1
  rw [e]
  decide +kernel

/-- A part with a serial and the key digest of one slot. -/
def wSigner (cmd : Nat) (payload : List Byte) (slot serial digest : Nat) : State :=
  { wAsk cmd payload with otp := { State.reset.otp with keys := (State.reset.otp.keys.set slot digest), serial := serial } }

theorem witness_StewardFlashesSignsAndHolds :
    ((wAsk 0x10 [5, 1, 0, 0, 0]).portServes 0x10 = true ∧ (wAsk 0x10 [5, 1, 0, 0, 0]).memOk = true ∧
        (wAsk 0x10 [5, 1, 0, 0, 0]).runningSlot = some 1) ∧
      (let s : State := { wAsk 0x10 [2, 0, 16, 0, 0] with flash := wFlash }
       s.memOk = true ∧ s.portServes 0x10 = true ∧ s.runningSlot ≠ some 2 ∧ leAt ([2, 0, 16, 0, 0] : List Byte) 1 4 = 0x1000 ∧
         s.dirType? 2 = some ⟨0, 2, true, 0x1000, 0x1000⟩ ∧ 0x1000 + 0x1000 ≤ s.regionEnd ⟨0, 2, true, 0x1000, 0x1000⟩) ∧
      ((wAsk 0x11 [0]).portServes 0x11 = true ∧ (wAsk 0x11 [0]).sport.flash = none) ∧
      (let p : List Byte := [0x0F, 0, 0, 0, 9]
       (wSession 0x11 16 p).memOk = true ∧ (wSession 0x11 16 p).sessionEntry? ⟨2, 0, 16⟩ = some ⟨0, 2, true, 0x1000, 0x1000⟩ ∧
         p.drop 4 ≠ [] ∧ leAt p 0 4 + (p.drop 4).length ≤ 16 ∧ 15 < leAt p 0 4 + (p.drop 4).length) ∧
      (wEnding.memOk = true ∧ wEnding.portServes 0x12 = true ∧ wEnding.sport.flash = some ⟨1, 0, 136⟩ ∧
        wEnding.sessionEntry? ⟨1, 0, 136⟩ = some ⟨0, 1, true, 0x1000, 136⟩ ∧
        wEnding.imageStatus 1 (wEnding.flashAt 0x1000 136) = stOk) ∧
      ((wSession 0x12 0 []).imageStatus 2 [] ≠ stOk) := by
  refine ⟨by decide +kernel, ⟨by decide +kernel, by decide +kernel, by decide +kernel, by decide +kernel, ?_, ?_⟩, by decide +kernel,
    ⟨by decide +kernel, wSession_entry _ _ _, by decide +kernel, by decide +kernel, by decide +kernel⟩,
    ⟨wBoot_memOk rfl rfl rfl, by decide +kernel, rfl, ?_, wEnding_good⟩, by decide +kernel⟩
  · unfold State.dirType?
    rw [wDir_eq rfl]
    rfl
  · unfold State.regionEnd
    rw [wDir_eq rfl]
    decide +kernel
  · unfold State.sessionEntry?
    rw [wBoot_dir (s := wEnding) rfl]
    rfl

theorem witness_StewardFlashesSignsAndHolds_signed :
    (let s := wSigner 0x20 wApprove 3 1 0xe95f9422155b2272233d00261b80896b0104bc5f2dfe5f7ab1a3bccfb0169f15
     s.portServes 0x20 = true ∧ wApprove.length = 130 ∧ s.memOk = true ∧ s.fmap.entries.length + s.fmap.writing.length < 64 ∧
       s.signedBy 3 wApprove ([0x48, 0x44, 0x52, 0x41] ++ leBytes 8 s.otp.serial ++ leBytes 1 7 ++ leBytes 4 s.fmap.seq.toNat) = stOk) ∧
      (let s := wSigner 0x21 wRevoke 2 6 0x937c0a2b54c5879f5cc73b938c63f75698af905d645832d5c4b1fbaf3354e9eb
       s.portServes 0x21 = true ∧ wRevoke.length = 130 ∧ (s.otp.revoked.set 3 true).all id = false ∧
         s.signedBy 2 wRevoke ([0x48, 0x52, 0x56, 0x4B] ++ leBytes 8 s.otp.serial ++ leBytes 1 3) = stOk) ∧
      ((wAsk 0x20 wApprove).signedBy 3 wApprove [] ≠ stOk ∧ (wAsk 0x21 wRevoke).signedBy 2 wRevoke [] ≠ stOk ∧
        (([true, true, true, false] : List Bool).set 3 true).all id = true) ∧
      (let s : State := { wArmed with sport := (wAsk 0x30 []).sport }
       s.portServes 0x30 = true ∧ s.sized = true ∧ s.anyArmed = true) ∧ (wAsk 0x31 []).portServes 0x31 = true := by decide +kernel

theorem witness_MusterRunsPhaseByPhase :
    (({ State.reset with boot := { State.reset.boot with rstLow := true } } : State).boot.rstLow = true ∧
        ({ State.reset with log := { State.reset.log with power := true } } : State).log.power = true ∧ wUp.boot.rstLow = false) ∧
      ((wMuster 0).boot.phase = some 0 ∧ (wMuster 0).sized = true) ∧
      ((wMuster 1).dirFind? 1 = some ⟨0, 1, true, 0x1000, 136⟩ ∧ (wMuster 1).firmwareStatus ((wMuster 1).flashImage 1) = 0 ∧
        (wMuster 1).bootBlockOk ((wMuster 1).flashImage 4) = true) ∧
      (({ wMuster 1 with otp := { wKeys with keys := [] } } : State).bootBlockOk wFull = false) ∧
      ((({ wMuster 1 with flash := [] } : State).dirFind? 1).isSome = false ∧
        (({ wMuster 1 with flash := [] } : State).dirFind? 2).isSome = false) ∧
      (let s : State := { wMuster 7 with boot := { (wMuster 7).boot with man := some wDev } }
       s.boot.phase = some 7 ∧ s.sized = true ∧
         (([(20, 0)].map Prod.fst).filter fun k => k < 24).find? (fun k => ((s.boot.man.map fun d => (d.laneUse k).1).getD 0) != 0) = some 20) ∧
      ((wMuster 9).boot.hold = false ∧ (wMuster 9).boot.man = none ∧ (wMuster 9).boot.marks = []) ∧
      (wUp.boot.phase = none ∧ (wMuster 10).boot.phase = some 10) := by
  refine ⟨by decide +kernel, by decide +kernel, ⟨?_, ?_, ?_⟩, by decide +kernel, by decide +kernel, by decide +kernel, by decide +kernel,
    by decide +kernel⟩
  · unfold State.dirFind?
    rw [wBoot_dir (s := wMuster 1) rfl]
    rfl
  · rw [(wBoot_images (s := wMuster 1) rfl).1]
    exact wFirmware_good
  · rw [(wBoot_images (s := wMuster 1) rfl).2.1]
    exact wBootBlock_good

/-- HANDOFF is about to run. -/
def wHandoff : State :=
  { wUp with
    flash := wBootFlash, otp := wKeys, boot := { wUp.boot with phase := some 10 }, dev := none, blocks := []
    pwr := { wUp.pwr with tested := [5, 5, 5, 5] } }

theorem raise_dev (src : Nat) (s : State) (h : src < 512) : (raise src s).dev = s.dev := by
  obtain ⟨f, q, e⟩ := (raise_eventOnly src s h).1
  rw [e]

theorem logFull_dev (c : Nat) (s : State) : (logFull c s).dev = s.dev := by
  unfold logFull
  split
  · rfl
  · rw [raise_dev _ _ (by omega)]
    rfl

theorem logBump_dev (w a c : Nat) (s : State) : (logBump w a c s).dev = s.dev := by
  unfold logBump
  simp only []
  split
  · exact logFull_dev c s
  · split
    · exact logFull_dev c _
    · rfl

theorem snapshot_dev (s : State) : (snapshot s).dev = s.dev := by
  unfold snapshot
  split
  · exact raise_dev _ _ (by omega)
  · rfl

theorem loadDone_dev {s : State} (h : s.dev.all (fun d => d.groups.isEmpty) = true) : (loadDone s).dev = s.dev := by
  have e : ∀ u : State, u.dev = s.dev → (sendHellos u).dev = s.dev := by
    intro u hu
    unfold sendHellos
    cases hd : s.dev with
    | none => rw [hu, hd]; exact hu.trans hd
    | some d =>
      rw [hd] at h
      have hg : d.groups = [] := List.isEmpty_iff.mp h
      rw [hu, hd]
      simp only [Option.map_some, Option.getD_some, hg, List.foldl_nil]
      exact hu.trans hd
  unfold loadDone
  exact e _ ((snapshot_dev _).trans ((logBump_dev _ _ _ _).trans (raise_dev _ _ (by omega))))

/-- The state in which HANDOFF loads the manifest. -/
def wHandoffLoads : State := needDomains [domApp] { wHandoff.begin_ with boot := { wHandoff.boot with phase := none } }

/-- The application image passes, and its place is free. -/
@[irreducible] def wHandoffRuns (bs : List Byte) (d : DevBlock) : Bool :=
  wHandoff.appStatus bs == 0 && d.appPlaceOk (appHeader bs).1 (appHeader bs).2.2

/-- Step 6 passes, and the device block installed has room for the application image. -/
def wHandoffChk (p : Parsed) : Bool :=
  let s := wHandoffLoads
  let t := testBands (s.untested p.dev) p.dev.power.opMax [] s
  (match chkLoad true p s t with
    | .ok _ => true
    | .error _ => false) &&
    (installFull p (s.rebuilds p.dev) t).dev.all (fun d => d.groups.isEmpty) &&
    (installFull p (s.rebuilds p.dev) t).dev.any (wHandoffRuns wApp)

set_option maxRecDepth 200000 in
theorem wHandoff_passes : wPasses (parseFull wKeys wFull) wHandoffChk = true := by decide +kernel

theorem wHandoff_loads : (loadFull wFull [] wHandoffLoads).1.dev.any (wHandoffRuns wApp) = true := by
  obtain ⟨p, hp, h⟩ := wPasses_ok wHandoff_passes
  have ho : wHandoffLoads.otp = wKeys := rfl
  unfold loadFull
  rw [ho, hp]
  unfold wHandoffChk at h
  simp only [Bool.and_eq_true] at h ⊢
  obtain ⟨⟨h1, h2⟩, h3⟩ := h
  split
  · next e he =>
    rw [he] at h1
    cases h1
  · rw [loadDone_dev h2]
    exact h3

theorem witness_MusterRunsPhaseByPhase_handoff :
    wHandoff.boot.phase = some 10 ∧ wHandoff.sized = true ∧ wHandoff.memOk = true ∧
      ∃ d, (loadFull (wHandoff.flashImage 4) [] wHandoffLoads).1.dev = some d ∧ wHandoffRuns (wHandoff.flashImage 3) d = true := by
  refine ⟨rfl, by decide +kernel, wBoot_memOk rfl rfl rfl, ?_⟩
  obtain ⟨-, h4, h3⟩ := wBoot_images (s := wHandoff) rfl
  rw [h4, h3]
  have hl := wHandoff_loads
  cases hd : (loadFull wFull [] wHandoffLoads).1.dev with
  | none => rw [hd] at hl; cases hl
  | some d => rw [hd] at hl; exact ⟨d, rfl, hl⟩

theorem witness_ResetsAndPowerKeepWhatTheyMust :
    (wUp.anyArmed = false ∧ 0xFF5A % 256 = 0x5A ∧ wUp.sized = true) ∧
      ((wAsk 0x30 []).anyArmed = false ∧ (wAsk 0x30 []).sized = true ∧
        (wAsk 0x30 []).sport.running = some ⟨3, 255, 0x30, []⟩ ∧ (wAsk 0x30 []).portServes 0x30 = true ∧ 3 < 4) ∧
      (256 % 256 = 0 ∧ 0x5B % 256 ≠ 0x5A) ∧ (wArmed.anyArmed = true ∧ 255 % 256 ≠ 0) ∧
      (10000 ≤ 10000 ∧ 999 < 1000 ∧ wUp.log.writing = [] ∧ logReg Reg.sysDetMode = false ∧ logReg Reg.logPoh = true ∧
        Reg.logPoh ≠ Reg.logMirror) ∧
      (wUp.log.power = true ∧ State.reset.log.writing = [] ∧
        ({ wUp with log := { wUp.log with power := false } } : State).log.power = false) := by decide +kernel

/-- REF_STAT is `w`, and a handover goes to `target`. -/
def wRefs (w target : Nat) : State := { wRegs [(Reg.meshRefStat, w)] wUp with refclk := ⟨target, false, false, false⟩ }

/-- Side 1 without its reference; lane 20 is a link's, lane 22 an Ethernet port's. -/
def wNoRef : State := { wRegs [(Reg.laneCfg 20, 0x10), (Reg.laneCfg 22, 0x20)] wUp with lref := [true, false] }

/-- Every mesh node but node 95 has failed. -/
def wNodes : State :=
  wRegs [(Reg.meshNodeFail 0, 0xFFFFFFFF), (Reg.meshNodeFail 1, 0xFFFFFFFF), (Reg.meshNodeFail 2, 0x7FFFFFFF)] wUp

theorem mem_insertBy {le : Nat → Nat → Bool} {x y : Nat} {l : List Nat} : y ∈ insertBy le x l ↔ y = x ∨ y ∈ l := by
  induction l with
  | nil => simp [insertBy]
  | cons a r ih => unfold insertBy; split <;> simp [ih, or_left_comm]

theorem mem_sortBy {le : Nat → Nat → Bool} {y : Nat} {l : List Nat} : y ∈ sortBy le l ↔ y ∈ l := by
  have h : ∀ (l a : List Nat), y ∈ l.foldl (fun a x => insertBy le x a) a ↔ y ∈ a ∨ y ∈ l := by
    intro l
    induction l with
    | nil => simp
    | cons x r ih => intro a; rw [List.foldl_cons, ih, mem_insertBy]; simp; tauto
  simpa [sortBy] using h l []

/-- Tile 71 has a healthy neighbour, tile 70, whatever its system neighbours are. -/
theorem wLender : ∃ j, (wUp.setFlag (Reg.meshNodeFail 2) 7 true).lender? 71 = some j := by
  refine Option.isSome_iff_exists.mp ?_
  unfold State.lender?
  rw [List.find?_isSome]
  refine ⟨70, mem_sortBy.mpr ?_, by decide +kernel⟩
  simp [meshNear]

/-- With every node failed there is no lender, whatever the neighbours are. -/
theorem wNoLender : (wNodes.setFlag (Reg.meshNodeFail (95 / 32)) (95 % 32) true).lender? 95 = none := by
  unfold State.lender?
  rw [List.find?_eq_none]
  intro j _
  have h : ∀ j < 96, (wNodes.setFlag (Reg.meshNodeFail (95 / 32)) (95 % 32) true).nodeFailed j = true := by decide +kernel
  by_cases hj : j < 96
  · simp [h j hj]
  · simp [hj]

theorem witness_ClocksHandOverAndBorrow :
    ((wRefs 0x60 0).refSource = 0 ∧ (wRefs 0x60 0).refMoves = false ∧ (wRefs 0x60 0).refOk 1 = true ∧ (wRefs 0x20 0).refOk 1 = false ∧
        (wRefs 0x20 0).refclk.told = false ∧ (wRefs 2 0).refSource = 2 ∧ (wRefs 2 0).refMoves = false ∧
        ((wRefs 0x20 0).flag Reg.meshRefStat 5 = true ∧ (wRefs 0x20 0).flag Reg.meshRefStat 6 = false) ∧
        ((wRefs 0x40 1).flag Reg.meshRefStat 5 = false ∧ (wRefs 0x40 1).flag Reg.meshRefStat 6 = true)) ∧
      ((wRefs 0x71 1).refMoves = true ∧ (wRefs 0x52 1).refMoves = true ∧ 2 ≤ (wRefs 0x52 1).refSource ∧ (wRefs 0x52 1).refclk.target = 1 ∧
        (wRefs 0x60 1).refMoves = false) ∧
      ((1 < 2) ∧ (wUp.dev.map fun d => d.dev.refB) = some true ∧ (wRefs 2 0).refSource = 2 ∧ (wRefs 0x50 1).refMoves = true ∧
        (wRefs 0x41 0).refMoves = false ∧ (wRefs 0x41 0).refSource = 1 ∧ (State.reset.dev.map fun d => d.dev.refB) ≠ some true) ∧
      ((wRefs 0xE1 0).flag Reg.meshRefStat 7 = true ∧ (wRefs 0xE1 0).refOk 0 = true ∧ (wRefs 0xE1 0).refSource = 1 ∧
        (wRefs 0x61 0).flag Reg.meshRefStat 7 = false) ∧
      (1 < 2 ∧ wUp.sized = true ∧ wUp.epsOk = true ∧ wUp.lref.getD 1 false = true ∧ 20 ∈ sideLanes 1 ∧ wUp.lanePower 20 ≠ 3 ∧
        0 ∉ sideLanes 1 ∧ wUp.linkLanes 15 = [20]) ∧
      (wNoRef.lref.getD 1 false = false ∧ wNoRef.lref.getD 1 true = false ∧ wNoRef.sized = true ∧ wNoRef.lanePower 20 ≠ 3 ∧
        wNoRef.fget (Reg.laneCfg 20) 5 4 = 1 ∧ wNoRef.fget (Reg.laneCfg 22) 5 4 = 2 ∧ wUp.lref.getD 1 true = true) ∧
      (wNodes.nodeFailed 94 = true ∧ wUp.nodeFailed 71 = false ∧ wUp.sized = true ∧ (∀ p ∈ wUp.lenders, p.2 ≠ 71) ∧
        (wUp.tile 71).st ≠ tileActive ∧ (wUp.tile 71).st ≠ tileSpare) ∧
      (71 < 72 ∧ (wArmed.tile 71).st = tileActive ∧ wArmed.nodeFailed 71 = false ∧ wArmed.sized = true ∧
        wArmed.fmap.entries.length + wArmed.fmap.writing.length < 64) ∧
      (95 < 96 ∧ wNodes.nodeFailed 95 = false ∧ wNodes.sized = true ∧ wNodes.inWay = false) := by
  refine ⟨?_, ?_, ?_, ?_, ?_, ?_, ?_, ?_⟩ <;> decide +kernel

/-- Island 71 and the tree engine run at point 5, and every limit of band 3 and of the tree engine is 4. -/
def wPower : State :=
  { wRegs [(Reg.tileIsland 71, 800 * 2 ^ 16 + 5), (Reg.pwrTreeOp, 4 * 2 ^ 16 + 4 * 2 ^ 8 + 4),
      (Reg.pwrBandOp 3, 4 * 2 ^ 16 + 4 * 2 ^ 8 + 4), (Reg.pwrAvsCfg, 0x2010)] wUp with
    pwr := { wUp.pwr with ramps := [(72, 5)] } }

/-- A device without field channels. -/
def wNoField : State := { wUp with dev := some { wDev with fields := [], odos := [] } }

/-- Station 15 holds its guaranteed two tiles, and tile 69 is free. -/
def wGrow : State :=
  { wLive with
    dev := some { wDev with envs := wDev.envs.map fun e => { e with tilesMax := 3 } }
    tiles := (wLive.tiles.set 69 { Tile.off 69 with st := tileActive, lx := 6 }).set 70
      { Tile.off 70 with st := tileActive, lx := 5, owner := some 15, gated := false }
    stations := State.reset.stations.set 15 { Stn.none with active := some 7, trigEn := true, tiles := [71, 70], n := 2 } }

theorem witness_PowerFollowsItsLimits :
    ((5 < 16 ∧ 5 ≠ 0 ∧ wUp.dev ≠ none ∧ wUp.mayBeOff 5 = true ∧ wUp.domOn 5 = true ∧
        bitAt ((wUp.dev.map fun b => b.power.domainsOff).getD 0) 5 = true) ∧
        (wNoField.mayBeOff domField = true ∧ wNoField.domOn domField = true ∧
          bitAt ((wNoField.dev.map fun b => b.power.domainsOff).getD 0) domField = true) ∧ wUp.mayBeOff domField = false) ∧
      (let s := wRegs [(Reg.pwrDomOn, 1)] wUp
       domField < 16 ∧ s.inWay = false ∧ s.domOn domField = false ∧ domField < domBand0 ∧ s.boot.rstLow = false ∧
         wUp.domOn domField = true) ∧
      ((72 ≤ treeIsland) ∧ 5 < 8 ∧ wPower.pwr.ramps.find? (fun r => r.1 == 72) = some (72, 5) ∧
        wUp.pwr.ramps.find? (fun r => r.1 == 72) = none) ∧
      (71 < 72 ∧ 255 < 256 ∧ wPower.islandOp 71 ≠ 0 ∧ wUp.islandOp 71 = 0 ∧ 71 ∉ wPower.pwr.limited) ∧
      ((4 ≤ 4 ∧ 55 < 64 ∧ governs 4 55 = true ∧ wPower.dev = some wDev ∧ (wDev.power.tThrottle : Int) * 16 ≤ 1440 ∧ 1 < wPower.therm 4) ∧
        (governs 3 31 = true ∧ 1 < wPower.therm 3 ∧ wPower.bandOn 3 = true ∧ governs 3 32 = false)) ∧
      (wPower.therm 4 < wDev.power.opMax ∧ wPower.therm 4 < 7 ∧
        (wRegs [(Reg.pwrTreeOp, 5 * 2 ^ 16)] wUp).therm 4 = wDev.power.opMax) ∧
      ((wUp.tjMax : Int) * 16 ≤ 1600 ∧ (1599 : Int) < (wUp.tjMax : Int) * 16 ∧ ((wUp.tjMax : Int) + 10) * 16 ≤ 1760 ∧
        (1759 : Int) < ((wUp.tjMax : Int) + 10) * 16 ∧ wUp.inWay = false ∧ (wWayAsk 1 []).inWay = true) ∧
      (wUp.dev = some wDev ∧ 30000 ≤ wDev.power.envelopeW * 1000 ∧ wDev.power.envelopeW * 1000 < 30001 ∧ wUp.pwr.overEnv = false) ∧
      ((wUp.sized = true ∧ (∀ n < 16, wUp.armed n = false) ∧ wUp.bandPowered 3 = true) ∧ wArmed.armed 15 = true ∧
        (15 < 16 ∧ wGrow.sized = true ∧ (∀ k < 16, k ≠ 15 → wGrow.armed k = false) ∧
          wGrow.growth (List.replicate 16 1000) 15 = some 1 ∧ wGrow.guarOf 15 ≤ wGrow.effHeld 15 ∧
          1 ≤ (wGrow.tilesFor 15).length ∧
          wGrow.inFlight 15 = true)) := by
  refine ⟨?_, ?_, ?_, ?_, ?_, ?_, ?_, ?_, ?_⟩ <;> decide +kernel

/-- Lanes 5 and 20 in training state `train`, with lock where `lock` is 1 and an elastic buffer filled to `fill`; lane 20 is that of
link 15, in independent-reference mode. -/
def wLane (train lock fill : Nat) (x : Lane) : State :=
  { wRegs [(Reg.laneStat 20, fill * 256 + train * 16 + 4 + lock), (Reg.laneStat 5, fill * 256 + train * 16 + 4 + lock),
      (Reg.laneGrp 5, 3), (Reg.lanePrbs 20, 9), (Reg.laneCfg 20, 0x10), (Reg.laneTxfirNow 20, tapWord 14 49 0)] wUp with
    lanes := State.reset.lanes.set 20 x }

theorem witness_LanesTrainSkipAndCount :
    ((0x1180 % 128 = 0) ∧ (4 < 5 ∧ 0x51 / 16 % 8 = 4 + 1) ∧
        (1 % 128 = 1 ∧ 14 < 15 ∧ 0 ≤ 31 ∧ 14 + 1 + 0 ≤ 63 ∧ tapsValid 15 (63 - 15 - 0) 0 = true) ∧
        (15 ≤ 15 ∧ 14 + 1 + 14 ≤ 63 ∧ tapsValid 15 (63 - 15 - 14) 14 = false)) ∧
      (let s := wLane 1 0 8 ⟨0, 63, false, false, none, none, 0, 0⟩
       20 < 24 ∧ s.sized = true ∧ s.laneTrain 20 = 1 ∧ (s.lane 20).readyTx = false ∧ (s.lane 20).commit = none ∧ (s.lane 20).after = none) ∧
      (let s := wLane 1 0 8 ⟨0, 63, true, true, none, none, 0, 0⟩
       (s.lane 20).readyTx = true ∧ (s.lane 20).readyRx = true ∧ (s.lane 20).commit = none ∧ (s.lane 20).after = none ∧
         (128 : Nat).testBit 7 = true) ∧
      (wUp.laneTrain 20 ≠ 1) ∧
      (let s := wLane 3 0 8 Lane.none
       s.laneTrain 20 = 3 ∧ s.lrefOk 20 = true ∧ s.sized = true) ∧
      (let s := wLane 2 1 11 Lane.none
       s.laneLock 20 = true ∧ s.laneLink 20 = some 15 ∧ s.epsOk = true ∧ (∀ j ∈ s.linkLanes 15, j < 24) ∧ s.laneLock 5 = true ∧
         s.laneLink 5 = none ∧ wUp.laneLock 20 = false ∧ s.laneIr 20 = true ∧ 10 < s.ebFill 20 ∧ s.lanesWith 20 = [20] ∧
         s.flag (Reg.lanePrbs 20) 3 = true ∧ s.fget (Reg.lanePrbs 20) 1 0 ≠ 0 ∧ wUp.flag (Reg.lanePrbs 20) 3 = false ∧
         s.surasLane 20 = true ∧ s.lanePower 20 = 1 ∧ (∀ j ∈ s.lanesWith 20, s.patterned j = false) ∧ wUp.surasLane 20 = false) ∧
      ((wLane 2 1 5 Lane.none).laneIr 20 = true ∧ (wLane 2 1 5 Lane.none).surasLane 20 = true ∧ (wLane 2 1 5 Lane.none).ebFill 20 < 6 ∧
        wUp.laneIr 20 = false) := by decide +kernel

/-- Link 15 is aligned; its normal stream is `st`, and `q` waits. -/
def wLink (st : Stream) (q : List Waiting) : State :=
  { wUp with
    links := State.reset.links.set 15 { Link.none with up := true, normal := st, grant := [64, 16, 8, 0], queue := q } }

/-- Link 15 down, and the one endpoint of its segment in SLEEP. -/
def wAsleep : State := wRegs [(Reg.slinkEpStat 15 63, 6)] wUp

/-- An EVENT packet from endpoint 63 with SEQ `seq` and DIR `dir`; `x` flips bits of its CRC. -/
def wPacket (seq dir x : Nat) : List Dword :=
  let ws : List Dword := [BitVec.ofNat 64 (packetHeader 0 1 0x06 3 seq + 63 * 2 ^ 52 + dir * 2 ^ 21), 5]
  ws ++ [BitVec.ofNat 64 (Crypto.crc32c (ws.flatMap fun w => leBytes 8 w.toNat) ^^^ x)]

set_option maxRecDepth 200000 in
theorem witness_SegmentsDeliverRetryAndGrant :
    (let p := wPacket 4095 1 0
     15 < 16 ∧ wUp.sized = true ∧ wUp.peerLink 15 = false ∧ (wUp.link 15).up = false ∧
       (wLink { Stream.none with expect_ := 4095 } []).sized = true ∧ (wLink Stream.none []).peerLink 15 = false ∧
       ((wLink Stream.none []).link 15).up = true ∧ 3 ≤ p.length ∧ fld ((p.headD 0).toNat) 43 34 = p.length ∧
       fld ((p.headD 0).toNat) 33 22 = 4095 ∧
       (p.getLastD 0).toNat = Crypto.crc32c (p.dropLast.flatMap fun w => leBytes 8 w.toNat) ∧
       ((wLink { Stream.none with expect_ := 4095 } []).link 15).normal.expect_ = 4095 ∧
       wUp.rowOk 15 ((p.headD 0).toNat) false p.length = true ∧
       wUp.rowOk 15 (((wPacket 4095 0 0).headD 0).toNat) false 3 = false ∧ before 12 4094 4095 = true ∧ before 12 4095 0 = true ∧
       (((wPacket 0 1 (2 ^ 32 - 1)).getLastD 0).toNat =
         2 ^ 32 - 1 - Crypto.crc32c ((wPacket 0 1 (2 ^ 32 - 1)).dropLast.flatMap fun w => leBytes 8 w.toNat)) ∧
       (((wPacket 0 1 1).getLastD 0).toNat ≠ Crypto.crc32c ((wPacket 0 1 1).dropLast.flatMap fun w => leBytes 8 w.toNat) ∧
         ((wPacket 0 1 1).getLastD 0).toNat ≠
           2 ^ 32 - 1 - Crypto.crc32c ((wPacket 0 1 1).dropLast.flatMap fun w => leBytes 8 w.toNat))) ∧
      (let s := wLink { Stream.none with replay := [(4095, [1]), (0, [2])], resends := 14 } []
       s.sized = true ∧ (∃ p ∈ ((s.link 15).stream false).replay, p.1 = 0) ∧ (s.link 15).queue = [] ∧
         (∀ p ∈ ((s.link 15).stream false).replay, p.1 ≠ 1) ∧
         (((s.link 15).stream false).replay.dropWhile fun p => p.1 != 0) ≠ [] ∧ ((s.link 15).stream false).resends < 15 ∧
         ((s.link 15).stream false).replay = (4095, [1]) :: [(0, [2])]) ∧
      (let s := wLink { Stream.none with replay := [(0, [2])], resends := 15 } []
       15 ≤ ((s.link 15).stream false).resends ∧ s.epsOk = true ∧ ((s.link 15).stream true).replay = []) ∧
      (let s := wLink Stream.none [⟨3, 0x30, 63, none, none, [7]⟩]
       3 < 4 ∧ s.sized = true ∧ (s.link 15).grant.length = 4 ∧ (s.link 15).queue = [⟨3, 0x30, 63, none, none, [7]⟩] ∧
         ({ s.link 15 with grant := (s.link 15).grant.set 3 (70000 % 65536) } : Link).canSend 3 ([(7 : Dword)].length + 2) = true ∧
         ({ s.link 15 with grant := (s.link 15).grant.set 3 0 } : Link).canSend 3 ([(7 : Dword)].length + 2) = false ∧
         s.asleep 15 = false ∧ wAsleep.asleep 15 = true) ∧
      ((wAsleep.link 15).up = false ∧ wAsleep.linkLanes 15 ≠ [] ∧ (∀ k ∈ wAsleep.linkLanes 15, wAsleep.lrefOk k = true) ∧
        (wAsleep.ring 15).head? = some ⟨15, 63, none, 0, false, none, 0⟩) ∧
      (wUp.linkLanes 15 ≠ [] ∧ (wUp.link 15).up = false ∧ (∀ k ∈ wUp.linkLanes 15, wUp.lrefOk k = true) ∧
        (∀ k ∈ wUp.linkLanes 15, k < 24 ∧ (wUp.lane k).commit = none ∧ (wUp.lane k).after = none) ∧ wUp.linkLanes 13 = [] ∧
        wUp.peerLink 15 = false ∧ wUp.asleep 15 = false) := by decide +kernel

/-- Endpoint 63 of link 15 in state `st`, as `e`. -/
def wEp (st : Nat) (e : Ep) : State := { wRegs [(Reg.slinkEpStat 15 63, st)] (wSync none) with eps := [e], tb := ⟨1000, 0, 0, 0x04000000⟩ }

theorem witness_EndpointsAreJudgedTimedAndSlept :
    (15 < 16 ∧ 63 < 64 ∧ wUp.epActive 15 63 = false ∧ (∀ b ∈ wUp.bales, b.step = none) ∧
        (wUp.epDecl? 15 63).any (fun d => d.cls == 1 && d.serial == 2 ^ 64 - 1) = true ∧ (wUp.ep? 15 63).isSome = true ∧
        wUp.epDecl? 15 62 = none ∧ (wEp 2 ⟨15, 63, none, 0, false, none, 0⟩).epUp 15 63 = true ∧
        (wEp 2 ⟨15, 63, none, 0, false, none, 0⟩).epActive 15 63 = false) ∧
      ((wSync none).epsOk = true ∧ (∃ e ∈ (wSync none).eps, e.link = 15 ∧ (wSync none).epActive 15 e.addr = true)) ∧
      (let s := wEp 2 ⟨15, 63, some (7, 0), 2, false, none, 0⟩
       s.epsOk = true ∧ s.sized = true ∧ (s.ep? 15 63).bind Ep.exch = some (7, 0) ∧ s.peerLink 15 = false ∧ (∀ b ∈ s.bales, b.step = none) ∧
         modDiff 48 0 s.tb.lt.toNat - modDiff 48 600 600 = 1000 ∧
         modDiff 48 0 600 - modDiff 48 600 s.tb.lt.toNat = 2 * 100 ∧ (100 : Int).natAbs ≤ s.guardOf 15 63 ∧
         s.epActive 15 63 = false ∧ modDiff 48 0 601 - modDiff 48 601 s.tb.lt.toNat = 2 * 101 ∧
         s.guardOf 15 63 < (101 : Int).natAbs ∧ wDev.power.resyncRt ≤ 2 + 1 ∧ (0 + 1) < wDev.power.resyncRt) ∧
      ((wUp.ep? 15 63).bind Ep.exch ≠ some (7, 0)) ∧
      (let s := wEp 3 ⟨15, 63, none, 0, true, none, 0⟩
       s.ep? 15 63 = some ⟨15, 63, none, 0, true, none, 0⟩ ∧ s.epState 15 63 = 3) ∧
      (let s := wSync none
       s.dev = some wDev ∧ wDev.ep? 15 63 = some ⟨15, 15, 63, 1, 1, 0, 20, 2, 2 ^ 64 - 1, 100⟩ ∧ s.epActive 15 63 = true ∧
         wDev.power.sleepMs ≠ 0 ∧ 2 ≤ 2 ∧ ((s.ring 15).dropWhile fun y => y.addr != 63).drop 1 = [] ∧ (s.link 15).queue = [] ∧
         (s.link 15).canSend 1 4 = true ∧ s.asleep 15 = false ∧ wUp.epActive 15 63 = false) ∧
      (let s := wEp 4 ⟨15, 63, none, 0, false, none, 2⟩
       s.ep? 15 63 = some ⟨15, 63, none, 0, false, none, 2⟩ ∧ s.epActive 15 63 = true ∧ (wUp.ep? 15 63).map Ep.asked = some 0) ∧
      (let s := wEp 6 ⟨15, 63, none, 0, false, none, 0⟩
       s.epsOk = true ∧ (∀ k ∈ s.linkLanes 15, s.lrefOk k = true) ∧ s.epState 15 63 = 6 ∧ (s.ep? 15 63).isSome = true ∧
         (∃ k ∈ wNoRef.linkLanes 15, wNoRef.lrefOk k = false) ∧ (∀ b < 64, wUp.epState 15 b ≠ 5 ∧ wUp.epState 15 b ≠ 6)) ∧
      (wUp.epUp 15 63 = false ∧ (wSync none).epUp 15 63 = true) := by decide +kernel

/-! ## Worked examples of the manual

Each expected value stands in the worked example of the chapter named. -/

/-- 06_number_formats: 0.3 and the tie 0.296875 give 0x2A in E4M3; 500 gives 0x7E, or NaN under IEEE, and 0x60 in E5M2. -/
theorem test_float_conversions :
    (Fmt.e4m3.encode false (.fin false 0x99999A (-25))).1 = 0x2A ∧ (Fmt.e4m3.encode false (.fin false 19 (-6))).1 = 0x2A ∧
      (Fmt.e4m3.encode false (Val.ofInt 500)).1 = 0x7E ∧ (Fmt.e4m3.encode true (Val.ofInt 500)).1 = 0x7F ∧
      (Fmt.e5m2.encode false (Val.ofInt 500)).1 = 0x60 := by decide +kernel

/-- 06_number_formats: a block of 12, -9, 3 and zeros is 0x80, 0xC6, 0x02 and zeros. -/
theorem test_hb4_block :
    Fmt.hb4.pack ((hb4Encode false ([12, -9, 3].map Val.ofInt ++ List.replicate 29 Val.zero)).map Prod.fst) =
      [0x80, 0xC6, 0x02] ++ List.replicate 14 0 := by decide +kernel

/-- 06_number_formats: M 10,000, SH 24 and ZP -3 take 123,456 to 71 and 500,000 to 295, which clamps to 127. -/
theorem test_requantisation :
    requantInt 123456 10000 24 (-3) = 71 ∧ requantInt 500000 10000 24 (-3) = 295 ∧ (Fmt.int8.clampInt 295).1 = 127 ∧
      wrap32 (wrap32 (2000000000 + 2000000000) - 3000000000) = 1000000000 := by decide +kernel

/-- 02_access_classes_counters_mailboxes: the wrapped P_fire and P_dead, and the fire point is crossed. -/
theorem test_positions_wrap :
    posAdd 0xFFFFFFFF8000 30000 = 0xFFFFFFFFF530 ∧ posAdd 0xFFFFFFFFF530 (-2000) = 0xFFFFFFFFED60 ∧
      before 48 0xFFFFFFFFF530 0x28 = true ∧ modDiff 48 0xFFFFFFFFF530 0x28 = 2808 := by decide +kernel

/-- 09_decode_and_trees: the tree of S3. -/
def tTree : List Byte :=
  let words := [(0, 0x3F400805), (1, 0x4000000C), (4, 0x3F000014), (10, 0x40400015)]
  let leaves := [(0, 0xC000), (4, 0x3F00), (6, 0x3FC0), (7, 0x4040), (8, 0x4020)]
  ((List.range 15).flatMap fun i => leBytes 4 ((words.lookup i).getD 0x7FF)) ++
    (List.range 16).flatMap fun i => leBytes 2 ((leaves.lookup i).getD 0)

/-- 09_decode_and_trees: bale A ends in leaf 6 and sums to 0.5, and bale B, whose feature 5 is NaN, sums to 1.5. -/
theorem test_tree_of_S3 :
    let e : Ensemble := ⟨4, true, 16, 1, 1, 32, 1, 0, 0, 92⟩
    let a := fun (f : Nat) => if f = 5 then 0x3F19999A else if f = 12 then 0x402CCCCD else if f = 20 then 0x3F4CCCCD else 0x40000000
    let b := fun (f : Nat) => if f = 5 then 0x7FC00000 else 0
    tTree.length = 92 ∧ tTree.take 4 = [0x05, 0x08, 0x40, 0x3F] ∧ (classSum e (leBytes 4 0xBF800000) tTree a 0).to32 = 0x3F000000 ∧
      (classSum e (leBytes 4 0xBF800000) tTree b 0).to32 = 0x3FC00000 := by decide +kernel

/-- 11_lanes: from P2, three increments of PRE and two of POST, S = 63, give the taps 3, 42 and 18, the word 0x0012_2A03. -/
theorem test_taps_of_backplane :
    let r := [1, 1, 1, 4, 4].foldl (fun t q => (applyRequest 63 t q).1) (preset 2)
    tapWord (preset 2).1 (preset 2).2.1 (preset 2).2.2 = 0x00102F00 ∧ r = (3, 42, 18) ∧ tapWord r.1 r.2.1 r.2.2 = 0x00122A03 := by
  decide +kernel

/-- 12_suras_link and 17_convoys: the headers of the device's packets, the row of ANNOUNCE, and 17 units for a segment of LEN 515. -/
theorem test_packet_headers :
    packetHeader 0 3 0x31 132 0x010 = 0x000F121004000000 ∧ wUp.rowOk 15 0x0014101000200000 false 4 = true ∧
      fld 0x0014101000200000 43 34 = 4 ∧ fld 0x0014101000200000 57 52 = 1 ∧ creditUnits 515 = 17 ∧ creditUnits 132 = 5 := by
  decide +kernel

/-- 12_suras_link: the first exchange of the camera's link-up shows the offset 18,402,117 ns and the delay 420 ns, and the camera
is STRAYED. -/
theorem test_timeResp :
    let s : State := { wEp 2 ⟨15, 63, some (1, 1000000), 0, false, none, 0⟩ with tb := ⟨1002340, 0, 0, 0x04000000⟩ }
    ∃ t, exec (.timeResp 15 63 1 19402537 19404037) s = .next t ∧ t.reg (Reg.slinkEpOffset 15 63) = 18402117 ∧
      t.fget (Reg.slinkEpStat 15 63) 31 16 = 420 ∧ t.epState 15 63 = 3 := ⟨_, rfl, by decide +kernel⟩

/-- 18_timebase: a change of TB_INCR by -839 is a RATE of -1,250,207. -/
theorem test_incrTimeCorr :
    let s := wRegs [(Reg.timeTbIncr, 67108025)] (wSync none)
    ∃ t, exec (.incrTimeCorr 0x04000000) s = .next t ∧
      t.out.map (fun m => m.2.2.2) = [[Machine.ofInt 32 (-1250207) * 2 ^ 32]] := ⟨_, rfl, by decide +kernel⟩

/-- 23_control_cores_and_memory_map and 22_logbook: addresses of registers. -/
theorem test_addresses :
    Reg.sysEvtRoute 55 = 0x20000010DC ∧ Reg.sysEvtPend 1 = 0x2000001804 ∧ Reg.logFioLo 24 = 0x20000401C0 ∧
      evStn 3 7 = 55 ∧ 55 = 32 + 23 := by decide +kernel

/-! ## Single steps -/

/-- R826 and R1009: a tick of the empty queue adds 4 ns to LT and one to the time CSR. -/
theorem test_tick : ∃ t, step State.reset = .next t ∧ t.tb.lt = 4 ∧ t.tb.cycles = 1 := ⟨_, rfl, by decide +kernel⟩

/-- R1018: a write to an unmapped address is discarded, and records its address and initiator. -/
theorem test_registerWrite_unmapped :
    ∃ t, exec (.registerWrite 3 0x2000000FF8 1) wUp = .next t ∧ t.reg Reg.sysBusErrAddrLo = 0x00000FF8 ∧
      t.reg Reg.sysBusErrAddrHi = 0x20 := ⟨_, rfl, by decide +kernel⟩

/-- R1012: 0x4B in KEY restarts the watchdog of a running core of the mask. -/
theorem test_wdogKick :
    let s : State := { wUp with tb := ⟨0, 0, 9, 0x04000000⟩ }
    ∃ t, exec (.wdogKick 0 0x4B 1) s = .next t ∧ (t.core 0).kick = 9 := ⟨_, rfl, by decide +kernel⟩

/-- R72: CLR zeroes a saturating counter. -/
theorem test_counterClr :
    let s := wRegs [(Reg.sysWdropCnt, 0x80FFFFFF)] wUp
    ∃ t, exec (.counterClr 0 Reg.sysWdropCnt) s = .next t ∧ t.fget Reg.sysWdropCnt 23 0 = 0 := ⟨_, rfl, by decide +kernel⟩

/-- R885: a junction ten degrees above the grade's limit sends the device to the waystation state with cause 0x11. -/
theorem test_thermTrip :
    ∃ t, exec (.thermTrip 63 1760) wUp = .next t ∧ t.flag Reg.sysBootStat 31 = true ∧ t.fget Reg.sysWayCause 7 0 = 0x11 :=
  ⟨_, rfl, by decide +kernel⟩

/-- The queue is first in, first out. -/
theorem test_queue :
    ∃ t, step { wUp with pending := [.getInfo, .tbWrap] } = .next t ∧ t.pending = [.tbWrap] := ⟨_, rfl, by decide +kernel⟩

end Sys2Proof.Tests
end

/-! PROOFS. A trigger edge reserves an ARMED milestone (O31).

The statement speaks of every device block, also of one that no load installs: a CAMERA section may carry a number above 31,
which the loader refuses (R161). The model counts an overlap of captures at `Reg.intakeCamOvlp` of that number (R496), and the
number can be chosen so that this address is the one of CONVOY.TSEQ of the triggered station. A trigger edge during a capture
then counts TSEQ twice. For the 32 cameras of the intake the counter lies in the INTAKE block, and TSEQ is not touched. -/

namespace Sys2Proof.Machine

/-- A camera of station 5 with a number that no camera has. -/
def strayCamera : CamDecl where
  stn := 5
  cam := 131066
  link := 0
  addr := 0
  pixfmt := 0
  width := 16
  lines := 1
  offset := 0
  pitch := 0
  stripe := 1
  maxKhz := 1
  lead := true

/-- The overlap counter of the stray camera is TSEQ of its station. -/
theorem intakeCamOvlp_strayCamera : Reg.intakeCamOvlp strayCamera.cam = Reg.convoyTseq 5 := rfl

/-- A device block in which station 5 has the stray camera, one milestone entry, and its trigger on channel 0. -/
def strayDevice : DevBlock where
  keySlot := 0
  gen := 1
  detMode := false
  holes := false
  dev := ⟨false, 0, 0, 0, 0, 0⟩
  envs := [⟨5, false, 255, 1, 1, 1, 1, 0, 1, 1, 1, 1, 1, 1, 0, 0, 1⟩]
  eps := []
  cams := [strayCamera]
  odos := []
  fields := []
  policies := [⟨5, 0, false, 0, false, 1000, 10, 0, []⟩]
  groups := []
  power := ⟨30, 0, 0, 0, 90, 0, 0, 0, 0, 0⟩
  keys := []

/-- A station block of station 5 without layers, trees or decoders. -/
def bareBlock : StnBlock where
  uid := 0
  stn := 5
  gen := 1
  name := []
  formats := 0
  reqDet := false
  partW := 1
  partH := 1
  pages := 1
  decTiles := 0
  splitK := 1
  ctxs := []
  layers := []
  trees := []
  decs := []
  rules := []
  payBase := 0
  payLen := 0

/-- Station 5 takes triggers while a bale of it still waits for its line. -/
def capturingState : State :=
  { State.reset with
    regs := [(Reg.fioCfg 0, 2)]
    dev := some strayDevice
    blocks := [bareBlock]
    stations := State.reset.stations.set 5 { Stn.none with active := some 0, trigEn := true }
    bales := [newBale 0 5 0 0 0 none 0 0 0] }

/-- The state meets the statement's hypotheses, and the edge is one that reserves an entry: TRIG_EN is 1, the reference is
present, entry 0 is free, and a capture runs. -/
theorem capturingState_meets_hypotheses :
    capturingState.sized = true ∧ (capturingState.fioCh 0).level ≠ true ∧ capturingState.fioFunc 0 = 2 ∧
      capturingState.triggeredBy 0 true = [5] ∧ (capturingState.stn 5).trigEn = true ∧ (capturingState.ref 5).lost = false ∧
      capturingState.freeEntry? 5 = some 0 ∧ (capturingState.balesOf 5).any capturingState.capturing = true ∧
      capturingState.reg (Reg.convoyTseq 5) = 0 := by decide +kernel

/-- The refused bale's overlap lands on TSEQ, which the edge has just counted: it reads 2 after the first trigger. -/
theorem tseq_counted_twice :
    ∃ t, exec (.fioInputAccept 0 true (-1) 0) capturingState = .next t ∧ t.reg (Reg.convoyTseq 5) = 2 :=
  ⟨_, rfl, by decide +kernel⟩

/-- Refutes O31: the statement does not bound the numbers of the declared cameras. Where station 5 has a camera 131066, the
overlap counter of R496 has the address of TSEQ 5, and a trigger edge during a capture takes TSEQ from 0 to 2 where the
statement says 1. -/
theorem not_triggerReservesAMilestone : ¬ Obligations.TriggerReservesAMilestone := by
  unfold Obligations.TriggerReservesAMilestone
  intro h
  obtain ⟨hsized, hlevel, hfunc, htrig, hen, -, -, -, hzero⟩ := capturingState_meets_hypotheses
  obtain ⟨t, ht, -, -, hseq, -⟩ := h capturingState 0 5 true (-1) 0 (by decide) (by decide) hsized hlevel hfunc htrig
  obtain ⟨u, hu, htwo⟩ := tseq_counted_twice
  have hut : u = t := by
    rw [hu] at ht
    injection ht
  rw [if_pos hen, hzero, ← hut, htwo] at hseq
  exact absurd hseq (by decide)

end Sys2Proof.Machine

/-! PROOFS. Reads that take an entry, and DROP_PKT (O8, O9, O10).

The first entry of a mailbox or of an event queue decides what a read does. Each command is brought to the shared operation
that it ends in (`mboxRead`, `dropPacket`, `evqRead`), and one lemma for each case of that operation gives what it changes. -/

namespace Sys2Proof.Machine

/-! ## A list with one element replaced -/

/-- An element that differs from the default lies within the list, so changing it sets it. -/
theorem modAt_eq_set {α : Type} {xs : List α} {i : Nat} {x d : α} (f : α → α) (h : xs.getD i d = x) (hx : x ≠ d) :
    modAt xs i f = xs.set i (f x) := by
  have hi : i < xs.length := by
    by_contra hn
    exact hx (h.symm.trans (List.getD_eq_default _ _ (Nat.le_of_not_lt hn)))
  rw [List.getD_eq_getElem _ _ hi] at h
  rw [modAt, List.modify_eq_set_get _ hi, List.get_eq_getElem, h]

/-! ## Registers by address -/

/-- The row of the register table behind an address, from its base and its copy alone. -/
theorem regAt_of_row {a b i : Nat} (h : (regAt a).map (fun x => (x.1.base, x.2.1)) = some (b, i)) :
    ∃ r j, regAt a = some (r, i, j) ∧ r.base = b := by
  obtain ⟨⟨r, k, j⟩, hreg, hrow⟩ := Option.map_eq_some_iff.1 h
  obtain ⟨hbase, rfl⟩ := Prod.mk.inj hrow
  exact ⟨r, j, hreg, hbase⟩

/-- COMMIT registers lie at offset 0xFFC alone. -/
theorem isCommit_of_offset {a : Nat} (h : a % 0x1000 ≠ 0xFFC) : isCommit a = false := by
  rw [isCommit, beq_eq_false_iff_ne.2 h, Bool.false_and]

/-! ## How a read ends -/

/-- A read that has changed registers of `A` alone. -/
theorem doneRead_onlyRegs {A : List Nat} {s u : State} (w : Word) (h : RegsOnly (· ∈ A) s.begin_ u) :
    ∃ t, doneRead s (w, u) = .next t ∧ t.rdata = w ∧ t.regs = u.regs ∧ State.onlyRegs A s { t with rdata := s.rdata } := by
  have hkept := kept_of_regsOnly h
  obtain ⟨⟨f, q, rfl⟩, -⟩ := h
  exact ⟨_, rfl, rfl, rfl, rfl, hkept⟩

/-! ## Mailboxes -/

/-- A pop takes one entry, and an emptied packet with it (R83). -/
theorem Mbox.pop_cons (e : Dword) (r : List Dword) (ps : List (List Dword)) (q : Word) :
    Mbox.pop ⟨(e :: r) :: ps, q⟩ = ⟨if r = [] then ps else r :: ps, q⟩ := by
  cases r <;> rfl

theorem mboxRead_cons {s : State} {n : Nat} {e : Dword} {r : List Dword} {ps : List (List Dword)} {q : Word}
    (h : s.mbox.getD n ⟨[], 0⟩ = ⟨(e :: r) :: ps, q⟩) :
    mboxRead n s =
      (word (e.toNat / 2 ^ 32), { s with mbox := s.mbox.set n ⟨if r = [] then ps else r :: ps, q⟩ }) := by
  have hhead : s.mbHead? n = some e := by rw [State.mbHead?, h]; rfl
  rw [mboxRead, hhead, modAt_eq_set Mbox.pop h (by simp), Mbox.pop_cons]

theorem mboxRead_nil {s : State} {n : Nat} (h : (s.mbox.getD n ⟨[], 0⟩).pkts = []) :
    mboxRead n s = (0, s.setFlag (Reg.mboxStat n) 31 true) := by
  have hhead : s.mbHead? n = none := by rw [State.mbHead?, h]; rfl
  rw [mboxRead, hhead]

theorem exec_mboxDataHiRead (ini : Nat) {n : Nat} (s : State) (hn : n < 16) :
    exec (.mboxDataHiRead ini n) s = doneRead s (mboxRead n s.begin_) := by
  change doneRead s (if n < 16 then mboxRead n s.begin_ else (0, s.begin_)) = _
  rw [if_pos hn]

/-- The high half of an entry fits in a register word. -/
theorem toNat_word_high (e : Dword) : (word (e.toNat / 2 ^ 32)).toNat = e.toNat / 2 ^ 32 := by
  have := e.isLt
  rw [word, BitVec.toNat_ofNat]
  omega

/-- Settles O8. The head packet's first entry decides: with one, the read pops it; without one, UNDERRUN is the one bit
that the read sets. -/
theorem mailboxHeadReadRemovesOneEntry : Obligations.MailboxHeadReadRemovesOneEntry := by
  unfold Obligations.MailboxHeadReadRemovesOneEntry
  constructor
  · intro s ini n e r ps q hn hbox
    rw [exec_mboxDataHiRead ini s hn, mboxRead_cons (s := s.begin_) hbox]
    exact ⟨_, rfl, toNat_word_high e, rfl, rfl⟩
  · intro s ini n hn hempty
    rw [exec_mboxDataHiRead ini s hn, mboxRead_nil (s := s.begin_) hempty]
    obtain ⟨t, ht, hdata, hregs, honly⟩ :=
      doneRead_onlyRegs 0 ((RegsOnly.refl (· ∈ [Reg.mboxStat n]) s.begin_).setFlag 31 true (List.mem_singleton_self _))
    refine ⟨t, ht, hdata, ?_, fun i hi => ?_, honly⟩
    · rw [flag_congr hregs, State.flag_setFlag _ _ true (by norm_num)]
    · rw [flag_congr hregs, State.flag_setFlag_ne _ true (by norm_num) (.inr hi.ne)]
      rfl

/-! ## DROP_PKT -/

theorem regAt_mboxCmd {n : Nat} (hn : n < 16) :
    ∃ r j, regAt (Reg.mboxCmd n) = some (r, n, j) ∧ r.base = Reg.mboxCmd 0 := by
  have hrows : ∀ n < 16, (regAt (Reg.mboxCmd n)).map (fun x => (x.1.base, x.2.1)) = some (Reg.mboxCmd 0, n) := by
    decide +kernel
  exact regAt_of_row (hrows n hn)

theorem isCommit_mboxCmd (n : Nat) : isCommit (Reg.mboxCmd n) = false :=
  isCommit_of_offset (by rw [Reg.mboxCmd]; omega)

theorem domainOf_mboxCmd : ∀ n < 16, domainOf (Reg.mboxCmd n) = 0 := by decide

/-- A write to MBOX.CMD acts for CMD 0x1 alone (R86). -/
theorem writeHigh_mboxCmd (ini : Nat) {r : RegInfo} (i a v : Nat) (s : State) (hb : r.base = Reg.mboxCmd 0) :
    writeHigh ini r i a v s = if v % 16 = 1 then dropPacket i s else s := by
  unfold writeHigh
  rw [hb]
  change (if (v / 2 ^ 0 % 2 ^ 4 == 1) = true then dropPacket i s else s) = _
  simp

theorem busWrite_mboxCmd (ini : Nat) {n : Nat} (val : Word) {s : State} (hn : n < 16) (hon : s.domOn 0 = true) :
    busWrite ini (Reg.mboxCmd n) val s = { st := if val.toNat % 16 = 1 then dropPacket n s else s } := by
  obtain ⟨r, j, hreg, hbase⟩ := regAt_mboxCmd hn
  have halign : (Reg.mboxCmd n % 4 == 0) = true := by
    rw [beq_iff_eq, Reg.mboxCmd]
    omega
  have hhigh : ¬ Reg.mboxCmd n < Reg.khanCtrl := by
    simp only [Reg.mboxCmd, Reg.khanCtrl]
    omega
  simp only [busWrite, halign, if_true, hreg, domainOf_mboxCmd n hn, hon, isCommit_mboxCmd, hhigh, if_false,
    writeHigh_mboxCmd ini n _ val.toNat s hbase, Bool.not_true, Bool.false_and, Bool.false_eq_true]

/-- Settles O9. Both forms end in `dropPacket`, which touches the one mailbox; the written word reaches it for CMD 0x1
alone. -/
theorem dropPktDiscardsTheHeadPacket : Obligations.DropPktDiscardsTheHeadPacket := by
  unfold Obligations.DropPktDiscardsTheHeadPacket
  constructor
  · intro s ini n
    exact ⟨_, rfl, rfl, rfl⟩
  · intro s ini n val hn hon
    have hexec : exec (.registerWrite ini (Reg.mboxCmd n) val) s =
        doneBus s { st := if val.toNat % 16 = 1 then dropPacket n s.begin_ else s.begin_ } :=
      congrArg (doneBus s) (busWrite_mboxCmd (s := s.begin_) ini val hn hon)
    rw [hexec]
    split
    · exact ⟨_, rfl, rfl, rfl⟩
    · exact ⟨_, rfl, rfl, rfl⟩

/-! ## Event queues -/

theorem evqRead_cons {s : State} {t : Nat} {e : Word × Nat} {r : List (Word × Nat)} (h : s.evq.getD t [] = e :: r) :
    evqRead t s = (word (2 ^ 31 + e.2 % 512), { s with evq := s.evq.set t r }) := by
  rw [evqRead, h]
  dsimp only
  rw [modAt_eq_set (fun _ => r) h (List.cons_ne_nil e r)]

theorem evqRead_nil {s : State} {t : Nat} (h : s.evq.getD t [] = []) : evqRead t s = (0, s) := by
  rw [evqRead, h]

/-- VALID and SOURCE of the word that a read of SYS.EVQ_HI returns (R1086). -/
theorem toNat_word_event {src : Nat} (h : src < 512) : (word (2 ^ 31 + src % 512)).toNat = 2 ^ 31 + src := by
  rw [word, BitVec.toNat_ofNat]
  omega

theorem regAt_sysEvqLo {t : Nat} (ht : t < 13) :
    ∃ r j, regAt (Reg.sysEvqLo t) = some (r, t, j) ∧ r.base = Reg.sysEvqLo 0 := by
  have hrows : ∀ t < 13, (regAt (Reg.sysEvqLo t)).map (fun x => (x.1.base, x.2.1)) = some (Reg.sysEvqLo 0, t) := by
    decide +kernel
  exact regAt_of_row (hrows t ht)

theorem isCommit_sysEvqLo (t : Nat) : isCommit (Reg.sysEvqLo t) = false :=
  isCommit_of_offset (by rw [Reg.sysEvqLo]; omega)

/-- SYS.EVQ_LO shows the time of the oldest entry, and 0 without one (R1086). -/
theorem viewAt_sysEvqLo (s : State) (w : Word) {t : Nat} (ht : t < 13) :
    s.viewAt w (Reg.sysEvqLo t) = (((s.evq.getD t []).head?.map Prod.fst).getD 0).toNat := by
  obtain ⟨r, j, hreg, hbase⟩ := regAt_sysEvqLo ht
  rw [State.viewAt, hreg]
  dsimp only
  rw [State.view, isCommit_sysEvqLo, hbase]
  rfl

/-- Settles O10. The queue's first entry decides: with one, the read returns its source and removes it; without one, the
read returns 0 and the state stays. -/
theorem eventQueueReadRemovesOneEntry : Obligations.EventQueueReadRemovesOneEntry := by
  unfold Obligations.EventQueueReadRemovesOneEntry
  constructor
  · intro s ini t e r ht hq he
    have hexec : exec (.evqHiRead ini t) s = doneRead s (word (2 ^ 31 + e.2 % 512), { s.begin_ with evq := s.evq.set t r }) :=
      congrArg (doneRead s) (evqRead_cons (s := s.begin_) hq)
    have hword := toNat_word_event he
    rw [hexec]
    refine ⟨_, rfl, ?_, ?_, rfl, rfl⟩
    · change (word (2 ^ 31 + e.2 % 512)).toNat / 2 ^ 31 = 1
      omega
    · change (word (2 ^ 31 + e.2 % 512)).toNat % 2 ^ 31 = e.2
      omega
  · intro s ini t ht hq
    have hexec : exec (.evqHiRead ini t) s = doneRead s (0, s.begin_) :=
      congrArg (doneRead s) (evqRead_nil (s := s.begin_) hq)
    refine ⟨⟨_, hexec, rfl, rfl⟩, ?_⟩
    rw [viewAt_sysEvqLo s 0 ht, hq]
    rfl

end Sys2Proof.Machine

/-! PROOFS. A load that fails (O18).

Every failure ends in `loadFailed`, which answers in two registers and raises MFL_FAIL. Before it a LOAD_FULL may have tested
bands; what such a test and its undoing can touch is said once, as `TestTouches`. The copies that the load made while it hashed
(R119) went where `placeIn` found room beside everything that is held. -/

namespace Sys2Proof.Machine

/-! ## Copies go beside what is held (R117, R119) -/

/-- A write lies beside a span. -/
def apart (w : Nat × List Byte) (h : Nat × Nat) : Prop := w.1 + w.2.length ≤ h.1 ∨ h.1 + h.2 ≤ w.1

theorem placeIn_apart {lo hi size a : Nat} {used : List (Nat × Nat)} (h : placeIn lo hi size used = some a) :
    ∀ u ∈ used, a + size ≤ u.1 ∨ u.1 + u.2 ≤ a := by
  have hroom := List.find?_some h
  simp only [Bool.and_eq_true, Bool.or_eq_true, List.all_eq_true, decide_eq_true_eq] at hroom
  exact hroom.2

theorem copiesMade_apart {full : Bool} {bs : List Byte} {e : LoadErr} {s : State} {w : Nat × List Byte}
    (hw : w ∈ copiesMade full bs e s) : ∀ h ∈ s.heldDram, apart w h := by
  unfold copiesMade at hw
  obtain ⟨b, -, hb⟩ := List.mem_filterMap.1 hw
  dsimp only at hb
  split at hb
  · cases hb
  · obtain ⟨p, -, hp⟩ := Option.bind_eq_some_iff.1 hb
    obtain ⟨base, hplace, rfl⟩ := Option.map_eq_some_iff.1 hp
    exact placeIn_apart hplace

/-- A byte outside every write of a command reads as before. -/
theorem read_applyWrites_outside {d : Byte} {a : Nat} {ws : Writes} {m : Memory} (hm : Memory.wf d m = true)
    (hout : ∀ w ∈ ws, ¬ (w.1 ≤ a ∧ a < w.1 + w.2.length)) :
    Memory.read d (applyWrites d m ws) a = Memory.read d m a := by
  induction ws generalizing m with
  | nil => rfl
  | cons w r ih =>
    have hhead : Memory.read d (Memory.writes d m w.1 w.2) a = Memory.read d m a := by
      rw [Memory.read_writes d m w.1 a w.2 hm, if_neg (hout w List.mem_cons_self)]
    exact (ih (Memory.wf_writes d m w.1 w.2 hm) fun x hx => hout x (List.mem_cons_of_mem w hx)).trans hhead

/-- DRAM that `s` holds has in `t` the bytes that it has in `s`. -/
def State.heldKept (s t : State) : Prop :=
  ∀ h ∈ s.heldDram, ∀ a, h.1 ≤ a → a < h.1 + h.2 → t.dramByteAt a = s.dramByteAt a

theorem heldKept_of_apart {s t : State} {ws : Writes} (hmem : s.memOk = true) (ht : t.dram = applyWrites dramByte s.dram ws)
    (hws : ∀ w ∈ ws, ∀ h ∈ s.heldDram, apart w h) : s.heldKept t := by
  intro h hh a hlo hhi
  have hwf : Memory.wf dramByte s.dram = true := by
    simp only [State.memOk, Bool.and_eq_true] at hmem
    exact hmem.1.1
  rw [State.dramByteAt, ht]
  refine read_applyWrites_outside hwf fun w hw hin => ?_
  rcases hws w hw h hh with hbelow | habove <;> omega

/-! ## The answer of a load that fails (R117, R144) -/

/-- MFL.STATUS of a load that failed. -/
def LoadErr.status (e : LoadErr) : Word := BitVec.ofNat 32 (e.sect % 256 * 2 ^ 16 + e.block % 32 * 2 ^ 8 + e.code)

theorem loadFailed_regsOnly (e : LoadErr) (s : State) :
    RegsOnly (· ∈ [Reg.mflStatus, Reg.mflErrOffset]) { s with load := none } (loadFailed e s) :=
  (((RegsOnly.refl _ _).setN _ (by simp)).setN _ (by simp)).raise 450 (by norm_num)

theorem loadFailed_status (e : LoadErr) (s : State) : (loadFailed e s).reg Reg.mflStatus = e.status := by
  unfold loadFailed
  rw [raise_reg 450 _ (by norm_num) (not_eventReg (.inr (by decide))), State.reg_setN_ne _ _ (by decide), State.reg_setN]
  rfl

theorem loadFailed_pendingEvent (e : LoadErr) (s : State) : (loadFailed e s).pendingEvent 450 = true :=
  pendingEvent_raise_self 450 _ (by norm_num)

/-! ## The commands' cases -/

theorem exec_loadEnd_full {s : State} {l : Load} (fails : List (Nat × Nat)) (hload : s.load = some l) (hfull : l.full = true) :
    exec (.loadEnd fails) s =
      doneDram s (loadFull (s.dramAt l.addr l.len) fails s.begin_).1 (loadFull (s.dramAt l.addr l.len) fails s.begin_).2 := by
  change execLoadEnd fails s = _
  have hbegin : s.begin_.load = some l := hload
  simp only [execLoadEnd, hbegin, hfull, if_true]
  rfl

theorem exec_loadEnd_station {s : State} {l : Load} (fails : List (Nat × Nat)) (hload : s.load = some l)
    (hfull : l.full = false) :
    exec (.loadEnd fails) s =
      doneDram s (loadStation (s.dramAt l.addr l.len) s.begin_).1 (loadStation (s.dramAt l.addr l.len) s.begin_).2 := by
  change execLoadEnd fails s = _
  have hbegin : s.begin_.load = some l := hload
  simp only [execLoadEnd, hbegin, hfull, Bool.false_eq_true, if_false]
  rfl

theorem loadFull_parse_error {bs : List Byte} (fails : List (Nat × Nat)) {s : State} {e : LoadErr}
    (h : parseFull s.otp bs = .error e) : loadFull bs fails s = (loadFailed e s, copiesMade true bs e s) := by
  rw [loadFull, h]

theorem loadFull_chk_error {bs : List Byte} {fails : List (Nat × Nat)} {s : State} {p : Parsed} {e : LoadErr}
    (hp : parseFull s.otp bs = .ok p)
    (he : chkLoad true p s (testBands (s.untested p.dev) p.dev.power.opMax fails s) = .error e) :
    loadFull bs fails s =
      (loadFailed e (dropTest (s.untested p.dev) (testBands (s.untested p.dev) p.dev.power.opMax fails s)),
        copiesMade true bs e s) := by
  rw [loadFull, hp]
  dsimp only
  rw [he]

theorem loadStation_parse_error {bs : List Byte} {s : State} {e : LoadErr}
    (h : parseStation s.otp s.dev (s.flag Reg.sysDetMode 0) bs = .error e) :
    loadStation bs s = (loadFailed e s, copiesMade false bs e s) := by
  rw [loadStation, h]

theorem loadStation_chk_error {bs : List Byte} {s : State} {p : Parsed} {e : LoadErr}
    (hp : parseStation s.otp s.dev (s.flag Reg.sysDetMode 0) bs = .ok p) (he : chkLoad false p s s = .error e) :
    loadStation bs s = (loadFailed e s, copiesMade false bs e s) := by
  rw [loadStation, hp]
  dsimp only
  rw [he]

/-! ## What a band test touches (R215, R1089) -/

/-- `t` differs from `s` in the registers and events, the tiles, the field map, the marks and the power state alone. -/
def TestTouches (s t : State) : Prop :=
  ∃ f q k m b p, t = { s with regs := f, evq := q, tiles := k, fmap := m, boot := b, pwr := p }

theorem TestTouches.refl (s : State) : TestTouches s s := ⟨_, _, _, _, _, _, rfl⟩

theorem TestTouches.trans {s t u : State} (h : TestTouches s t) (g : TestTouches t u) : TestTouches s u := by
  obtain ⟨f, q, k, m, b, p, rfl⟩ := h
  obtain ⟨f', q', k', m', b', p', rfl⟩ := g
  exact ⟨f', q', k', m', b', p', rfl⟩

/-- An operation repeated along a list touches what each of its steps touches. -/
theorem TestTouches.foldl {α : Type} {op : State → α → State} (hop : ∀ u x, TestTouches u (op u x)) (xs : List α) (s : State) :
    TestTouches s (xs.foldl op s) :=
  List.foldlRecOn xs op (TestTouches.refl s) fun _ ht x _ => ht.trans (hop _ x)

theorem RegsOnly.testTouches {A : Nat → Prop} {s t : State} (h : RegsOnly A s t) : TestTouches s t := by
  obtain ⟨⟨f, q, rfl⟩, -⟩ := h
  exact ⟨f, q, _, _, _, _, rfl⟩

/-- MESH.FMAP_STAT alone follows the field region. -/
theorem showFmap_regsOnly (s : State) : RegsOnly (· = Reg.meshFmapStat) s (showFmap s) :=
  have hfull : RegsOnly (· = Reg.meshFmapStat) s
      (if 64 ≤ s.fmap.entries.length then s.setFlag Reg.meshFmapStat 7 true else s) :=
    RegsOnly.ite (fun _ => (RegsOnly.refl _ s).setFlag 7 true rfl) fun _ => RegsOnly.refl _ s
  (hfull.fset 6 0 _ rfl).fset 8 8 _ rfl

theorem fieldEntry_testTouches (kind target cause : Nat) (s : State) : TestTouches s (fieldEntry kind target cause s) := by
  unfold fieldEntry
  split
  · exact .trans ⟨_, _, _, _, _, _, rfl⟩ (showFmap_regsOnly _).testTouches
  · exact (((RegsOnly.refl (· = Reg.meshFmapStat) s).setFlag 7 true rfl).raise 464 (by norm_num)).testTouches

theorem markTile_testTouches (k cause : Nat) (s : State) : TestTouches s (markTile k cause s) := by
  unfold markTile
  split
  · exact .refl s
  · exact .trans ⟨_, _, _, _, _, _, rfl⟩ (fieldEntry_testTouches 0 k cause _)

theorem testBands_testTouches (bs : List Nat) (op : Nat) (fails : List (Nat × Nat)) (s : State) :
    TestTouches s (testBands bs op fails s) :=
  (TestTouches.foldl (fun u (f : Nat × Nat) => markTile_testTouches f.1 f.2 u) _ s).trans ⟨_, _, _, _, _, _, rfl⟩

theorem rebuildBand_testTouches (holes : Bool) (failed : List Nat) (b : Nat) (s : State) :
    TestTouches s (rebuildBand holes failed b s) := ⟨_, _, _, _, _, _, rfl⟩

theorem darkBand_testTouches (b : Nat) (s : State) : TestTouches s (darkBand b s) := ⟨_, _, _, _, _, _, rfl⟩

theorem dropTest_testTouches (bs : List Nat) (s : State) : TestTouches s (dropTest bs s) := by
  refine TestTouches.foldl (fun u b => ?_) bs s
  split
  · exact (rebuildBand_testTouches _ _ b u).trans (darkBand_testTouches b _)
  · split
    · exact rebuildBand_testTouches _ _ b u
    · exact .refl u

/-! ## The end of the command -/

/-- What every failure of LOAD_END has in common, in the state `u` that the load has reached. -/
theorem doneDram_loadFailed {s u : State} (full : Bool) (bs : List Byte) (e : LoadErr) (hmem : s.memOk = true) :
    ∃ t, doneDram s (loadFailed e u) (copiesMade full bs e s.begin_) = .next t ∧ t.load = none ∧
      t.reg Reg.mflStatus = e.status ∧ t.pendingEvent 450 = true ∧ s.heldKept t ∧
      t = { u with pending := s.pending, tb := s.tb, otp := s.otp, flash := s.flash, sram := s.sram, load := none,
                   regs := (loadFailed e u).regs, evq := (loadFailed e u).evq, dram := t.dram } := by
  have hstatus := loadFailed_status e u
  have hpend := loadFailed_pendingEvent e u
  obtain ⟨⟨f, q, hfq⟩, -⟩ := loadFailed_regsOnly e u
  rw [hfq] at hstatus hpend ⊢
  exact ⟨_, rfl, rfl, hstatus, hpend, heldKept_of_apart hmem rfl fun _ hw => copiesMade_apart hw, rfl⟩

/-- A failure before any band test changes the two registers of the answer, and no other state. -/
theorem loadFailed_leavesEverything {s : State} (full : Bool) (bs : List Byte) (e : LoadErr) (hmem : s.memOk = true) :
    ∃ t, doneDram s (loadFailed e s.begin_) (copiesMade full bs e s.begin_) = .next t ∧ t.load = none ∧
      t.reg Reg.mflStatus = e.status ∧ t.pendingEvent 450 = true ∧ s.heldKept t ∧
      State.onlyRegs [Reg.mflStatus, Reg.mflErrOffset] s { t with load := s.load, dram := s.dram } := by
  obtain ⟨t, ht, hload, hstatus, hpend, hheld, hframe⟩ := doneDram_loadFailed (u := s.begin_) full bs e hmem
  have hkept := kept_of_regsOnly (loadFailed_regsOnly e s.begin_)
  refine ⟨t, ht, hload, hstatus, hpend, hheld, ?_, ?_⟩
  · rw [hframe]
    rfl
  · rw [hframe]
    exact hkept

/-- Settles O18. A failure in steps 2 to 5, or of a LOAD_STATION, fails in the state in which the command starts; one at step 6
of a LOAD_FULL fails after the band test and its undoing. -/
theorem failedLoadsLeaveEverything : Obligations.FailedLoadsLeaveEverything := by
  unfold Obligations.FailedLoadsLeaveEverything
  intro s l fails e hload hmem
  refine ⟨fun hfail => ?_, fun p hfull hp he => ?_⟩
  · cases hfull : l.full with
    | true =>
      have hparse : parseFull s.otp (s.dramAt l.addr l.len) = .error e := by simpa [hfull] using hfail
      rw [exec_loadEnd_full fails hload hfull, loadFull_parse_error (s := s.begin_) fails hparse]
      exact loadFailed_leavesEverything true _ e hmem
    | false =>
      have hresult : loadStation (s.dramAt l.addr l.len) s.begin_ =
          (loadFailed e s.begin_, copiesMade false (s.dramAt l.addr l.len) e s.begin_) := by
        simp only [hfull, Bool.false_eq_true, if_false, true_and] at hfail
        rcases hfail with hparse | ⟨p, hp, he⟩
        · exact loadStation_parse_error (s := s.begin_) hparse
        · exact loadStation_chk_error (s := s.begin_) hp he
      rw [exec_loadEnd_station fails hload hfull, hresult]
      exact loadFailed_leavesEverything false _ e hmem
  · rw [if_pos hfull] at hp
    rw [exec_loadEnd_full fails hload hfull, loadFull_chk_error (s := s.begin_) hp he]
    obtain ⟨t, ht, hnone, hstatus, hpend, hheld, hframe⟩ :=
      doneDram_loadFailed (s := s) (u := dropTest _ (testBands _ _ fails s.begin_)) true _ e hmem
    refine ⟨t, ht, hnone, hstatus, hpend, hheld, ?_⟩
    obtain ⟨f, q, k, m, b, w, htouch⟩ :=
      (testBands_testTouches (s.untested p.dev) p.dev.power.opMax fails s.begin_).trans (dropTest_testTouches (s.untested p.dev) _)
    rw [hframe, show s.begin_.untested p.dev = s.untested p.dev from rfl, htouch]
    rfl

end Sys2Proof.Machine

/-! PROOFS. Field outputs turn off for their protection (O29).

A trip and a group's over-current end in the same shared operation, `cutOutputs`: it makes the trip, and then each channel that was
driven stops holding and takes an off-check. What it does to one channel is said once, and the registers that change are those of
the trip itself. -/

namespace Sys2Proof.Machine

/-! ## One field channel changed -/

theorem fioCh_setFio_same {s : State} {ch : Nat} (f : Fio → Fio) (h : ch < s.fio.length) :
    (s.setFio ch f).fioCh ch = f (s.fioCh ch) := by
  simp [State.fioCh, State.setFio, modAt, List.getD_eq_getElem?_getD, h]

theorem fioCh_setFio_ne (s : State) {ch k : Nat} (f : Fio → Fio) (h : k ≠ ch) : (s.setFio ch f).fioCh k = s.fioCh k := by
  simp [State.fioCh, State.setFio, modAt, List.getD_eq_getElem?_getD, h.symm]

theorem length_fio_setFio (s : State) (ch : Nat) (f : Fio → Fio) : (s.setFio ch f).fio.length = s.fio.length :=
  List.length_modify ..

theorem fioCh_congr {s t : State} (h : t.fio = s.fio) (ch : Nat) : t.fioCh ch = s.fioCh ch := by
  rw [State.fioCh, h, State.fioCh]

/-- A change that a second one does not add to, made on a list of channels. -/
theorem fioCh_foldl_setFio {f : Fio → Fio} (hf : ∀ c, f (f c) = f c) (k : Nat) (chs : List Nat) (s : State)
    (h : ∀ ch ∈ chs, ch < s.fio.length) :
    (chs.foldl (fun s ch => s.setFio ch f) s).fioCh k = if k ∈ chs then f (s.fioCh k) else s.fioCh k := by
  induction chs generalizing s with
  | nil => rfl
  | cons ch r ih =>
    have hr : ∀ x ∈ r, x < (s.setFio ch f).fio.length := fun x hx => by
      rw [length_fio_setFio]
      exact h x (List.mem_cons_of_mem ch hx)
    rw [List.foldl_cons, ih _ hr]
    by_cases hk : k = ch
    · rw [hk, fioCh_setFio_same f (h ch List.mem_cons_self), hf, ite_self, if_pos List.mem_cons_self]
    · simp [fioCh_setFio_ne s f hk, hk]

theorem foldl_setFio_shape (f : Fio → Fio) (chs : List Nat) (s : State) :
    ∃ x, chs.foldl (fun s ch => s.setFio ch f) s = { s with fio := x } := by
  refine List.foldlRecOn (motive := fun t : State => ∃ x, t = { s with fio := x }) chs _ ⟨s.fio, rfl⟩ ?_
  rintro _ ⟨x, rfl⟩ ch -
  exact ⟨_, rfl⟩

theorem canTurnOn_of_trip {s : State} {ch : Nat} (h : (s.fioCh ch).trip = true) : s.canTurnOn ch = false := by
  simp [State.canTurnOn, h]

theorem canTurnOn_of_grpTrip {s : State} {ch : Nat} (h : s.grpTrip.getD (ch / 8) false = true) : s.canTurnOn ch = false := by
  rw [State.canTurnOn, h, Bool.not_true, Bool.and_false, Bool.false_and]

theorem driven_of_canTurnOn {s : State} {ch : Nat} (h : s.canTurnOn ch = false) : s.driven ch = false := by
  rw [State.driven, h, Bool.and_false]

/-! ## What a protective turn-off does (R703) -/

/-- A driven channel that turns off for its protection holds no more, and its off-check is due. -/
def Fio.cut (c : Fio) : Fio := { c with hold := false, offCheck := true }

/-- Beyond the trip itself, a protective turn-off changes field channels alone. -/
theorem cutOutputs_shape (chs : List Nat) (f : State → State) (s : State) :
    ∃ x, cutOutputs chs f s = { f s with fio := x } := foldl_setFio_shape _ _ _

theorem cutOutputs_fioCh {chs : List Nat} {f : State → State} {s : State} (h : ∀ ch ∈ chs, ch < (f s).fio.length) (k : Nat) :
    (cutOutputs chs f s).fioCh k = if k ∈ chs ∧ s.driven k = true then ((f s).fioCh k).cut else (f s).fioCh k := by
  have hcut := fioCh_foldl_setFio (f := Fio.cut) (fun _ => rfl) k (chs.filter s.driven) (f s) fun ch hch =>
    h ch (List.mem_of_mem_filter hch)
  simp only [List.mem_filter] at hcut
  exact hcut

/-! ## Operations that change registers and field channels only -/

/-- `t` differs from `s` in registers of `A`, the event machinery and the field channels alone. -/
def FieldOnly (A : Nat → Prop) (s t : State) : Prop :=
  (∃ f q x, t = { s with regs := f, evq := q, fio := x }) ∧ ∀ b, ¬ A b → ¬ eventReg b → t.reg b = s.reg b

theorem RegsOnly.fieldOnly {A : Nat → Prop} {s t : State} (h : RegsOnly A s t) : FieldOnly A s t := by
  obtain ⟨⟨f, q, rfl⟩, hreg⟩ := h
  exact ⟨⟨f, q, s.fio, rfl⟩, hreg⟩

theorem FieldOnly.trans {A : Nat → Prop} {s t u : State} (h : FieldOnly A s t) (g : FieldOnly A t u) : FieldOnly A s u := by
  obtain ⟨⟨f, q, x, rfl⟩, hreg⟩ := h
  obtain ⟨⟨f', q', x', rfl⟩, greg⟩ := g
  exact ⟨⟨f', q', x', rfl⟩, fun b hb he => (greg b hb he).trans (hreg b hb he)⟩

theorem FieldOnly.setFio {A : Nat → Prop} {s t : State} (h : FieldOnly A s t) (ch : Nat) (f : Fio → Fio) :
    FieldOnly A s (t.setFio ch f) := h.trans ⟨⟨_, _, _, rfl⟩, fun _ _ _ => rfl⟩

theorem FieldOnly.raise {A : Nat → Prop} {s t : State} (h : FieldOnly A s t) (src : Nat) (hs : src < 512) :
    FieldOnly A s (Sys2Proof.Machine.raise src t) := h.trans (regsOnly_raise A src t hs).fieldOnly

theorem FieldOnly.cutOutputs {A : Nat → Prop} {s u : State} {f : State → State} (h : FieldOnly A s (f u)) (chs : List Nat) :
    FieldOnly A s (Sys2Proof.Machine.cutOutputs chs f u) := by
  obtain ⟨x, hx⟩ := cutOutputs_shape chs f u
  rw [hx]
  exact h.trans ⟨⟨_, _, x, rfl⟩, fun _ _ _ => rfl⟩

theorem FieldOnly.grpTrip_eq {A : Nat → Prop} {s t : State} (h : FieldOnly A s t) : t.grpTrip = s.grpTrip := by
  obtain ⟨⟨f, q, x, rfl⟩, -⟩ := h
  rfl

theorem RegsOnly.fio_eq {A : Nat → Prop} {s t : State} (h : RegsOnly A s t) : t.fio = s.fio := by
  obtain ⟨⟨f, q, rfl⟩, -⟩ := h
  rfl

/-- A command that ends with `done` and, beyond a change of the groups' trips, has changed registers of `A` and field channels
alone. -/
theorem done_fieldOnly {A : List Nat} {s u : State} {g : List Bool} (h : FieldOnly (· ∈ A) { s.begin_ with grpTrip := g } u) :
    ∃ t, done s u = .next t ∧ t.regs = u.regs ∧ t.fio = u.fio ∧ t.grpTrip = g ∧
      State.onlyRegs A s { t with fio := s.fio, grpTrip := s.grpTrip } := by
  obtain ⟨⟨f, q, x, rfl⟩, hreg⟩ := h
  refine ⟨_, rfl, rfl, rfl, rfl, rfl, fun b hb hpend hdrops => hreg b hb ?_⟩
  rintro (⟨i, hi, e⟩ | ⟨i, hi, e⟩)
  exacts [hpend i hi e, hdrops i hi e]

/-- A command that has changed nothing. -/
theorem done_begin (s : State) : ∃ t, done s s.begin_ = .next t ∧ State.unchanged s t := ⟨_, rfl, rfl⟩

/-! ## A new entry of the fault log (R927 to R929) -/

/-- ACTION, DEVSCOPE, the station and CODE in word 1 of an entry (R928). -/
theorem faultWord1_fields (f : FaultRec) (s : State) :
    fld (faultWord1 f s % 2 ^ 32) 31 29 = f.action % 8 ∧ bitAt (faultWord1 f s % 2 ^ 32) 28 = f.stn.isNone ∧
      fld (faultWord1 f s % 2 ^ 32) 27 24 = f.stn.getD 0 % 16 ∧ fld (faultWord1 f s % 2 ^ 32) 23 16 = f.code % 256 := by
  have hlt := s.tb.lt.isLt
  unfold faultWord1 fld bitAt
  cases f.stn with
  | none =>
    simp only [Option.isNone_none, if_true, Option.getD_none, beq_iff_eq]
    omega
  | some n =>
    simp only [Option.isNone_some, Bool.false_eq_true, if_false, Option.getD_some, beq_eq_false_iff_ne]
    omega

theorem logFault_head (f : FaultRec) (s : State) :
    (logFault f s).fget Reg.faultHead 5 0 = (s.fget Reg.faultHead 5 0 + 1) % 64 := by
  have he : ¬ eventReg Reg.faultHead := not_eventReg (.inr (by decide))
  unfold logFault
  dsimp only
  rw [(raise_eventOnly 454 _ (by norm_num)).fget he]
  split
  · rw [State.fget, bump_reg_ne _ (by decide) he, ← State.fget, State.fget_fset _ _ _ (by norm_num) (by norm_num)]
    omega
  · rw [State.fget_fset_ne _ _ (by norm_num) (by norm_num) (by norm_num) (.inl (by decide)),
      State.fget_fset _ _ _ (by norm_num) (by norm_num)]
    omega

theorem logFault_faultAdded {f : FaultRec} (s : State) (haction : f.action < 8) (hcode : f.code < 256) (hunit : f.unit < 256)
    (hindex : f.index < 256) : State.faultAdded s (logFault f s) f.action f.stn f.code f.unit f.index f.bale := by
  obtain ⟨hw0, hw1, hw2, hw3, hpend⟩ := logFault_words f s
  obtain ⟨haction', hscope, hstn, hcode'⟩ := faultWord1_fields f s
  refine ⟨hw0, ?_, ?_, ?_, ?_, ?_, ?_, ?_, logFault_head f s, hpend⟩
  · rw [State.fget, hw1, BitVec.toNat_ofNat, haction', Nat.mod_eq_of_lt haction]
  · rw [State.flag, hw1, BitVec.toNat_ofNat, hscope]
  · rw [State.fget, hw1, BitVec.toNat_ofNat, hstn]
  · rw [State.fget, hw1, BitVec.toNat_ofNat, hcode', Nat.mod_eq_of_lt hcode]
  · rw [State.fget, hw2, BitVec.toNat_ofNat, fld]
    omega
  · rw [State.fget, hw2, BitVec.toNat_ofNat, fld]
    omega
  · rw [hw3, BitVec.toNat_ofNat]

/-- A logged entry stays where no register of the log changes and no event is taken back. -/
theorem faultAdded_of_regs {s u t : State} {action : Nat} {stn : Option Nat} {code unit index bale : Nat}
    (h : State.faultAdded s u action stn code unit index bale) (hreg : ∀ a, 0x2000A00000 ≤ a → t.reg a = u.reg a)
    (hpend : t.pendingEvent 454 = true) : State.faultAdded s t action stn code unit index bale := by
  obtain ⟨hw0, haction, hscope, hstn, hcode, hunit, hindex, hbale, hhead, -⟩ := h
  refine ⟨?_, ?_, ?_, ?_, ?_, ?_, ?_, ?_, ?_, hpend⟩
  · rwa [hreg _ (by unfold Reg.faultLogW0; omega)]
  · rwa [State.fget, hreg _ (by unfold Reg.faultLogW1; omega)]
  · rwa [State.flag, hreg _ (by unfold Reg.faultLogW1; omega)]
  · rwa [State.fget, hreg _ (by unfold Reg.faultLogW1; omega)]
  · rwa [State.fget, hreg _ (by unfold Reg.faultLogW1; omega)]
  · rwa [State.fget, hreg _ (by unfold Reg.faultLogW2; omega)]
  · rwa [State.fget, hreg _ (by unfold Reg.faultLogW2; omega)]
  · rwa [hreg _ (by unfold Reg.faultLogW3; omega)]
  · rwa [State.fget, hreg _ (by unfold Reg.faultHead; omega)]

/-! ## A channel trips (R708, R709) -/

/-- A flag of FIO.STAT and a fault entry record a trip. -/
def recordTrip (ch bit code : Nat) (s : State) : State :=
  fieldFault code ch (s.fioBale ch) (stick (Reg.fioStat ch) bit s)

/-- A recorded trip acts on its channel and raises its event. -/
def actTrip (ch : Nat) (s : State) : State := raise (evFio ch) (s.setFio ch fun c => { c with trip := true })

theorem trip_eq (ch bit code : Nat) (s : State) : trip ch bit code s = cutOutputs [ch] (actTrip ch) (recordTrip ch bit code s) := rfl

theorem evFio_lt {ch : Nat} (h : ch < 32) : evFio ch < 512 := by
  rw [evFio]
  omega

theorem not_eventReg_fioStat (ch : Nat) : ¬ eventReg (Reg.fioStat ch) := not_eventReg (.inr (by rw [Reg.fioStat]; omega))

theorem recordTrip_regsOnly (ch bit code : Nat) (s : State) :
    RegsOnly (· ∈ Reg.fioStat ch :: faultRegs) s (recordTrip ch bit code s) :=
  ((RegsOnly.refl _ s).stick bit List.mem_cons_self).logFault _ fun _ ha => List.mem_cons_of_mem _ (mem_faultRegs ha)

theorem recordTrip_flag {ch bit : Nat} (code : Nat) (s : State) (hch : ch < 32) (hbit : bit < 32) :
    (recordTrip ch bit code s).flag (Reg.fioStat ch) bit = true := by
  rw [State.flag, recordTrip, fieldFault, logFault_reg_ne _ _ (.inl (by rw [Reg.fioStat]; omega)) (not_eventReg_fioStat ch)]
  exact State.flag_setFlag s _ true hbit

theorem recordTrip_faultAdded {ch code : Nat} (bit : Nat) (s : State) (hch : ch < 32) (hcode : code < 256) :
    State.faultAdded s (recordTrip ch bit code s) 4 (s.fioStn ch) code 3 ch (s.fioBale ch) := by
  have hhead : (stick (Reg.fioStat ch) bit s).fget Reg.faultHead 5 0 = s.fget Reg.faultHead 5 0 := by
    rw [State.fget, stick, State.reg_setFlag_ne _ _ _ (by rw [Reg.fioStat, Reg.faultHead]; omega), State.fget]
  have hadded := logFault_faultAdded (f := ⟨4, s.fioStn ch, code, 3, ch, (stick (Reg.fioStat ch) bit s).fioFlags ch, s.fioBale ch⟩)
    (stick (Reg.fioStat ch) bit s) (by norm_num) hcode (by norm_num) (show ch < 256 by omega)
  unfold State.faultAdded at hadded ⊢
  rw [hhead] at hadded
  exact hadded

theorem recordTrip_driven (ch bit code : Nat) (s : State) (k : Nat) : (recordTrip ch bit code s).driven k = s.driven k := by
  obtain ⟨⟨f, q, h⟩, -⟩ := recordTrip_regsOnly ch bit code s
  rw [h]
  rfl

theorem actTrip_fio {ch : Nat} (s : State) (hch : ch < 32) :
    (actTrip ch s).fio = (s.setFio ch fun c => { c with trip := true }).fio :=
  (regsOnly_raise (fun _ => False) _ _ (evFio_lt hch)).fio_eq

theorem actTrip_reg {ch b : Nat} (s : State) (hch : ch < 32) (hb : ¬ eventReg b) : (actTrip ch s).reg b = s.reg b :=
  raise_reg _ _ (evFio_lt hch) hb

theorem actTrip_pendingEvent {ch : Nat} (s : State) (hch : ch < 32) : (actTrip ch s).pendingEvent (evFio ch) = true :=
  pendingEvent_raise_self _ _ (evFio_lt hch)

theorem actTrip_pendingEvent_of {ch e : Nat} {s : State} (hch : ch < 32) (he : e < 512) (hp : s.pendingEvent e = true) :
    (actTrip ch s).pendingEvent e = true := pendingEvent_raise _ _ (evFio_lt hch) he hp

theorem trip_regs (ch bit code : Nat) (s : State) :
    (trip ch bit code s).regs = (actTrip ch (recordTrip ch bit code s)).regs := by
  obtain ⟨x, hx⟩ := cutOutputs_shape [ch] (actTrip ch) (recordTrip ch bit code s)
  rw [trip_eq, hx]

theorem trip_fieldOnly {ch : Nat} (bit code : Nat) (s : State) (hch : ch < 32) :
    FieldOnly (· ∈ Reg.fioStat ch :: faultRegs) s (trip ch bit code s) :=
  (((recordTrip_regsOnly ch bit code s).fieldOnly.setFio ch _).raise _ (evFio_lt hch)).cutOutputs (f := actTrip ch) [ch]

theorem trip_fioCh {ch : Nat} (bit code : Nat) {s : State} (hch : ch < 32) (hlen : s.fio.length = 32) (k : Nat) :
    (trip ch bit code s).fioCh k =
      if k = ch then { s.fioCh ch with
        trip := true, hold := (s.fioCh ch).hold && !s.driven ch, offCheck := s.driven ch || (s.fioCh ch).offCheck }
      else s.fioCh k := by
  have hfio : (recordTrip ch bit code s).fio = s.fio := (recordTrip_regsOnly ch bit code s).fio_eq
  have hact := actTrip_fio (recordTrip ch bit code s) hch
  rw [trip_eq, cutOutputs_fioCh (by simp [hact, length_fio_setFio, hfio, hlen, hch]), recordTrip_driven, fioCh_congr hact]
  by_cases hk : k = ch
  · rw [hk, fioCh_setFio_same _ (by rw [hfio]; omega), fioCh_congr hfio]
    cases hd : s.driven ch <;> simp [Fio.cut]
  · simp [hk, fioCh_setFio_ne, fioCh_congr hfio]

/-- What OC_TRIP and THERM of an output have in common. -/
theorem done_trip {s : State} {ch bit code : Nat} (hch : ch < 32) (hbit : bit < 32) (hcode : code < 256)
    (hlen : s.fio.length = 32) :
    ∃ t, done s (trip ch bit code s.begin_) = .next t ∧ t.flag (Reg.fioStat ch) bit = true ∧ t.pendingEvent (evFio ch) = true ∧
      State.faultAdded s t 4 (s.fioStn ch) code 3 ch (s.fioBale ch) ∧ t.driven ch = false ∧ t.canTurnOn ch = false ∧
      t.fioCh ch = { s.fioCh ch with
        trip := true, hold := (s.fioCh ch).hold && !s.driven ch, offCheck := s.driven ch || (s.fioCh ch).offCheck } ∧
      (∀ k, k ≠ ch → t.fioCh k = s.fioCh k) ∧ State.onlyRegs (Reg.fioStat ch :: faultRegs) s { t with fio := s.fio } := by
  obtain ⟨t, ht, hregs, hfio, hgrp, honly⟩ := done_fieldOnly (g := s.grpTrip) (trip_fieldOnly bit code s.begin_ hch)
  have hacted : t.regs = (actTrip ch (recordTrip ch bit code s.begin_)).regs := hregs.trans (trip_regs ..)
  have hch' (k : Nat) := (fioCh_congr hfio k).trans (trip_fioCh bit code (s := s.begin_) hch hlen k)
  have hself := (hch' ch).trans (if_pos rfl)
  have hoff : t.canTurnOn ch = false := canTurnOn_of_trip (by rw [hself])
  have hadded := recordTrip_faultAdded bit s.begin_ hch hcode
  have hlogged : (recordTrip ch bit code s.begin_).pendingEvent 454 = true := by
    obtain ⟨-, -, -, -, -, -, -, -, -, hpend⟩ := hadded
    exact hpend
  refine ⟨t, ht, ?_, ?_, ?_, driven_of_canTurnOn hoff, hoff, hself, fun k hk => (hch' k).trans (if_neg hk), ?_⟩
  · rw [flag_congr hacted, State.flag, actTrip_reg _ hch (not_eventReg_fioStat ch)]
    exact recordTrip_flag code s.begin_ hch hbit
  · exact (flag_congr hacted _ _).trans (actTrip_pendingEvent _ hch)
  · refine faultAdded_of_regs hadded (fun a ha => ?_) ((flag_congr hacted _ _).trans (actTrip_pendingEvent_of hch (by norm_num) hlogged))
    rw [reg_congr hacted, actTrip_reg _ hch (not_eventReg (.inr (by omega)))]
  · rw [← hgrp] at honly
    exact honly

/-! ## The commands' cases -/

theorem exec_fioOpen_test {s : State} {ch : Nat} (h : (s.fioCh ch).test = true) :
    exec (.fioOpen ch) s = done s (raise (evFio ch) (stick (Reg.fioStat ch) 3 s.begin_)) :=
  congrArg (done s) (if_pos h)

theorem exec_fioOpen_noTest {s : State} {ch : Nat} (h : (s.fioCh ch).test = false) : exec (.fioOpen ch) s = done s s.begin_ :=
  congrArg (done s) (if_neg (Bool.eq_false_iff.1 h))

theorem exec_ocTrip (ch : Nat) (s : State) :
    exec (.ocTrip ch) s = done s (if ch < 32 && s.driven ch then trip ch 4 0x10 s.begin_ else s.begin_) := rfl

theorem exec_therm (ch : Nat) (s : State) :
    exec (.therm ch) s = done s (if ch < 32 && s.isOutput ch then trip ch 5 0x11 s.begin_ else s.begin_) := rfl

/-- A group's over-current is recorded, and its outputs are held off (R711). -/
def tripGroup (g : Nat) (s : State) : State := stick (Reg.fioGrp g) 16 { s with grpTrip := modAt s.grpTrip g fun _ => true }

theorem exec_grpOc {g : Nat} (s : State) (hg : g < 4) :
    exec (.grpOc g) s = done s (cutOutputs (groupChs g) (tripGroup g) s.begin_) := congrArg (done s) (if_pos hg)

theorem mem_groupChs {g ch : Nat} : ch ∈ groupChs g ↔ ch / 8 = g := by
  simp only [groupChs, List.mem_map, List.mem_range]
  constructor
  · rintro ⟨i, hi, rfl⟩
    omega
  · rintro rfl
    exact ⟨ch % 8, by omega, by omega⟩

theorem sized_field {s : State} (h : s.sized = true) : s.fio.length = 32 ∧ s.grpTrip.length = 4 := by
  simp only [State.sized, Bool.and_eq_true, beq_iff_eq] at h
  simp [h]

/-- FIO_OPEN of a channel under test current. -/
theorem fioOpen_test {s : State} {ch : Nat} (hch : ch < 32) (h : (s.fioCh ch).test = true) :
    ∃ t, exec (.fioOpen ch) s = .next t ∧ t.flag (Reg.fioStat ch) 3 = true ∧ t.pendingEvent (evFio ch) = true ∧
      State.onlyRegs [Reg.fioStat ch] s t := by
  have hraise := raise_eventOnly (evFio ch) (stick (Reg.fioStat ch) 3 s.begin_) (evFio_lt hch)
  obtain ⟨t, ht, hregs, -, honly⟩ := done_onlyRegs
    (((RegsOnly.refl (· ∈ [Reg.fioStat ch]) s.begin_).stick 3 (List.mem_singleton_self _)).raise _ (evFio_lt hch))
  refine ⟨t, (exec_fioOpen_test h).trans ht, ?_, (flag_congr hregs _ _).trans (raise_pend _ _ (evFio_lt hch)), honly⟩
  rw [flag_congr hregs, hraise.flag (not_eventReg_fioStat ch)]
  exact State.flag_setFlag _ _ true (by norm_num)

/-- GRP_OC turns off every output of its group. -/
theorem grpOc_turnsOff {s : State} {g : Nat} (hg : g < 4) (hsized : s.sized = true) :
    ∃ t, exec (.grpOc g) s = .next t ∧ t.flag (Reg.fioGrp g) 16 = true ∧ t.grpTrip = s.grpTrip.set g true ∧
      (∀ ch ∈ groupChs g, t.driven ch = false ∧ t.canTurnOn ch = false ∧
        (t.fioCh ch).offCheck = (s.driven ch || (s.fioCh ch).offCheck)) ∧
      (∀ k, k ∉ groupChs g → t.fioCh k = s.fioCh k) ∧
      State.onlyRegs [Reg.fioGrp g] s { t with fio := s.fio, grpTrip := s.grpTrip } := by
  obtain ⟨hfio, hgrps⟩ := sized_field hsized
  have hset : modAt s.grpTrip g (fun _ => true) = s.grpTrip.set g true := by
    rw [modAt, List.modify_eq_set_get _ (by omega)]
  have hfield : FieldOnly (· ∈ [Reg.fioGrp g]) { s.begin_ with grpTrip := s.grpTrip.set g true } (tripGroup g s.begin_) := by
    rw [← hset]
    exact ((RegsOnly.refl _ _).stick 16 (List.mem_singleton_self _)).fieldOnly
  obtain ⟨t, ht, hregs, hchs, hgrp, honly⟩ := done_fieldOnly (hfield.cutOutputs (groupChs g))
  have hflag : t.flag (Reg.fioGrp g) 16 = true := by
    obtain ⟨x, hx⟩ := cutOutputs_shape (groupChs g) (tripGroup g) s.begin_
    rw [flag_congr hregs, hx]
    exact State.flag_setFlag _ _ true (by norm_num)
  have hcut (k : Nat) : t.fioCh k = if k ∈ groupChs g ∧ s.driven k = true then (s.fioCh k).cut else s.fioCh k :=
    (fioCh_congr hchs k).trans <| cutOutputs_fioCh (f := tripGroup g) (s := s.begin_)
      (fun ch hch => by
        have hlt : ch < 32 := by
          rw [mem_groupChs] at hch
          omega
        exact hlt.trans_eq hfio.symm) k
  refine ⟨t, (exec_grpOc s hg).trans ht, hflag, hgrp, fun ch hch => ?_, fun k hk => (hcut k).trans (if_neg fun h => hk h.1), honly⟩
  have hoff : t.canTurnOn ch = false := canTurnOn_of_grpTrip (by
    rw [hgrp, mem_groupChs.1 hch]
    simp [List.getD_eq_getElem?_getD, hgrps, hg])
  exact ⟨driven_of_canTurnOn hoff, hoff, by cases hd : s.driven ch <;> simp [hcut ch, hch, hd, Fio.cut]⟩

/-- Settles O29. OC_TRIP and THERM end in the same trip of a channel, and GRP_OC trips a group; each is followed by the turn-off of
what was driven. -/
theorem fieldProtectionTurnsOff : Obligations.FieldProtectionTurnsOff := by
  unfold Obligations.FieldProtectionTurnsOff
  refine ⟨fun s ch hch => ?_, fun s ch bit code c hch hsized hc => ?_, fun s ch => ⟨fun hoff => ?_, fun hno => ?_⟩,
    fun s g hg hsized => grpOc_turnsOff hg hsized⟩
  · cases htest : (s.fioCh ch).test with
    | true =>
      obtain ⟨t, ht, hopen, hpend, honly⟩ := fioOpen_test hch htest
      exact ⟨t, ht, fun _ => ⟨hopen, hpend, honly⟩, nofun⟩
    | false =>
      obtain ⟨t, ht, hsame⟩ := done_begin s
      exact ⟨t, (exec_fioOpen_noTest htest).trans ht, nofun, fun _ => hsame⟩
  · obtain ⟨hfio, -⟩ := sized_field hsized
    rcases hc with ⟨rfl, rfl, rfl, hdriven⟩ | ⟨rfl, rfl, rfl, houtput⟩
    · rw [exec_ocTrip, if_pos (by simp [hch, hdriven])]
      exact done_trip hch (by norm_num) (by norm_num) hfio
    · rw [exec_therm, if_pos (by simp [hch, houtput])]
      exact done_trip hch (by norm_num) (by norm_num) hfio
  · rw [exec_ocTrip, if_neg (by simp [hoff])]
    exact done_begin s
  · rw [exec_therm, if_neg (by simp [hno])]
    exact done_begin s

end Sys2Proof.Machine

/-! PROOFS. Timestamps of PTP event messages (O47).

Whether the port takes the message, and whether its FIFO has room, decide what the command does: a timestamp enters one FIFO, or
the drop counter counts, or nothing changes. -/

namespace Sys2Proof.Machine

/-! ## One PTP FIFO with one entry more (R837) -/

/-- `e` enters FIFO `dir` of `port` behind the others. -/
def State.pushPtp (s : State) (port dir : Nat) (e : PtpEntry) : State :=
  { s with ptp := modAt s.ptp (2 * port + dir) fun q => q ++ [e] }

theorem ptpFifo_pushPtp_same {s : State} {port dir : Nat} (e : PtpEntry) (h : 2 * port + dir < s.ptp.length) :
    (s.pushPtp port dir e).ptpFifo port dir = s.ptpFifo port dir ++ [e] := by
  simp [State.ptpFifo, State.pushPtp, modAt, List.getD_eq_getElem?_getD, h]

theorem ptpFifo_pushPtp_ne (s : State) {port dir p d : Nat} (e : PtpEntry) (h : 2 * port + dir ≠ 2 * p + d) :
    (s.pushPtp port dir e).ptpFifo p d = s.ptpFifo p d := by
  simp [State.ptpFifo, State.pushPtp, modAt, List.getD_eq_getElem?_getD, h]

theorem sized_ptp {s : State} (h : s.sized = true) : s.ptp.length = 4 := by
  simp only [State.sized, Bool.and_eq_true, beq_iff_eq] at h
  simp [h]

/-! ## The command's cases (R835 to R838) -/

theorem exec_ptpEventMessage (s : State) (port dir msg dom seq : Nat) (udp : Bool) :
    exec (.ptpEventMessage port dir msg dom seq udp) s = done s
      (if s.ethOn port = true ∧ s.flag (Reg.ethPtpCtrl port) (b2n udp) = true ∧ msg < 4 then
        if (s.ptpFifo port dir).length < (if dir = 0 then 64 else 16) then
          raise (475 + port) (s.begin_.pushPtp port dir ⟨s.tb.lt, msg, dom, seq⟩)
        else bump (Reg.ethPtpDrop port) s.begin_
      else s.begin_) := by
  change done s (if (s.ethOn port && s.flag (Reg.ethPtpCtrl port) (b2n udp) && decide (msg < 4)) = true then
    if (s.ptpFifo port dir).length < (if (dir == 0) = true then 64 else 16) then _ else _ else _) = _
  simp only [Bool.and_eq_true, and_assoc, decide_eq_true_eq, beq_iff_eq]
  rfl

/-- A timestamp that finds room. -/
theorem done_pushPtp {s : State} {port dir : Nat} (e : PtpEntry) (hport : port < 2) (hdir : dir < 2) (hsized : s.sized = true) :
    ∃ t, done s (raise (475 + port) (s.begin_.pushPtp port dir e)) = .next t ∧
      t.ptpFifo port dir = s.ptpFifo port dir ++ [e] ∧
      (∀ p d, p < 2 → d < 2 → (p, d) ≠ (port, dir) → t.ptpFifo p d = s.ptpFifo p d) ∧
      t.pendingEvent (475 + port) = true ∧ State.onlyRegs [] s { t with ptp := s.ptp } := by
  have hlen := sized_ptp hsized
  have hpend := pendingEvent_raise_self (475 + port) (s.begin_.pushPtp port dir e) (by omega)
  have hraised := regsOnly_raise (· ∈ []) (475 + port) (s.begin_.pushPtp port dir e) (by omega)
  have hkept := kept_of_regsOnly hraised
  obtain ⟨⟨f, q, hshape⟩, -⟩ := hraised
  rw [hshape] at hpend hkept ⊢
  refine ⟨_, rfl, ?_, fun p d _ hd hne => ?_, hpend, rfl, hkept⟩
  · exact ptpFifo_pushPtp_same (s := s) e (by omega)
  · refine ptpFifo_pushPtp_ne s e fun heq => hne ?_
    rw [Prod.mk.injEq]
    omega

/-- A timestamp that finds its FIFO full (R838). -/
theorem done_ptpDrop (s : State) (port : Nat) :
    ∃ t, done s (bump (Reg.ethPtpDrop port) s.begin_) = .next t ∧
      t.reg (Reg.ethPtpDrop port) = BitVec.ofNat 32 (satWord 24 (s.reg (Reg.ethPtpDrop port)).toNat).1 ∧
      State.onlyRegs [Reg.ethPtpDrop port] s t := by
  have hdrop : ¬ eventReg (Reg.ethPtpDrop port) := not_eventReg (.inr (by rw [Reg.ethPtpDrop]; omega))
  obtain ⟨t, ht, hregs, -, honly⟩ :=
    done_onlyRegs ((RegsOnly.refl (· ∈ [Reg.ethPtpDrop port]) s.begin_).bump (List.mem_singleton_self _))
  exact ⟨t, ht, (reg_congr hregs _).trans (bump_reg s.begin_ hdrop), honly⟩

/-- Settles O47. A message that the port takes ends in `pushPtp` or, without room, in the drop counter; any other leaves the state
in which the command starts. -/
theorem eventMessagesAreTimestamped : Obligations.EventMessagesAreTimestamped := by
  unfold Obligations.EventMessagesAreTimestamped
  intro s port dir msg dom seq udp hport hdir hsized on room
  rw [exec_ptpEventMessage]
  by_cases hon : on
  · rw [if_pos hon]
    by_cases hroom : room
    · rw [if_pos hroom]
      obtain ⟨t, ht, hpushed⟩ := done_pushPtp ⟨s.tb.lt, msg, dom, seq⟩ hport hdir hsized
      exact ⟨t, ht, fun _ _ => hpushed, fun _ hfull => absurd hroom hfull, fun hoff => absurd hon hoff⟩
    · rw [if_neg hroom]
      obtain ⟨t, ht, hdropped⟩ := done_ptpDrop s port
      exact ⟨t, ht, fun _ hfree => absurd hfree hroom, fun _ _ => hdropped, fun hoff => absurd hon hoff⟩
  · rw [if_neg hon]
    obtain ⟨t, ht, hsame⟩ := done_begin s
    exact ⟨t, ht, fun h => absurd h hon, fun h => absurd h hon, fun _ => hsame⟩

end Sys2Proof.Machine

/-! PROOFS. The steward's flash commands, its signed commands, RESET and BOOT_HOLD (O53).

A command of the port ends in `serve`: what its own function replies decides the state, and the answer changes nothing but the
port's traffic (`serve_leaves`). One lemma for each case of that function says what it replies. The two commands that write the
directory of boot flash write a CRC over the very bytes that they leave there (`dirCrc_fits`). -/

namespace Sys2Proof.Machine

/-! ## Bytes and CRC -/

theorem length_leBytes (n v : Nat) : (leBytes n v).length = n := by
  induction n generalizing v with
  | zero => rfl
  | succ n ih => rw [leBytes, List.length_cons, ih]

theorem leN_leBytes (n v : Nat) : leN (leBytes n v) = v % 256 ^ n := by
  induction n generalizing v with
  | zero => rw [leBytes, leN, pow_zero, Nat.mod_one]
  | succ n ih => rw [leBytes, leN, ih, BitVec.toNat_ofNat, pow_succ' 256 n, Nat.mod_mul]

theorem crcByte_lt {poly c : Nat} (hpoly : poly < 2 ^ 32) (hc : c < 2 ^ 32) (k : Nat) : Crypto.crcByte poly k c < 2 ^ 32 := by
  induction k generalizing c with
  | zero => exact hc
  | succ k ih =>
    have hhalf : c / 2 < 2 ^ 32 := by omega
    rw [Crypto.crcByte]
    split
    · exact ih (Nat.xor_lt_two_pow hhalf hpoly)
    · exact ih hhalf

/-- A CRC-32C fits the four bytes that hold it. -/
theorem crc32c_lt (bs : List Byte) : Crypto.crc32c bs < 2 ^ 32 := by
  have hrun : Crypto.crcRefl 0x82f63b78 (2 ^ 32 - 1) bs < 2 ^ 32 :=
    List.foldlRecOn bs _ (motive := (· < 2 ^ 32)) (by norm_num) fun c hc b _ =>
      crcByte_lt (by norm_num) (Nat.xor_lt_two_pow hc (by have := b.isLt; omega)) 8
  exact Nat.xor_lt_two_pow hrun (by norm_num)

/-! ## How a command of the port ends (R960, R973) -/

/-- `t` with the request, the answer kept and the traffic of `s`: `State.portOnly s t` says that this is `s`. -/
def State.portBack (s t : State) : State :=
  { t with
    out := s.out
    phy := s.phy.still t.phy
    sport := { t.sport with running := s.sport.running, last := s.sport.last, tx := s.sport.tx } }

/-- What a reply leaves beside the port's traffic: its state, with its writes to flash, and with its OTP if it may write that. -/
def Reply.leaves (otp : Bool) (s : State) (r : Reply) : State :=
  { r.st with
    pending := s.pending
    tb := s.tb
    otp := if otp then r.st.otp else s.otp
    dram := s.dram
    flash := applyWrites flashByte s.flash r.flash
    sram := s.sram
    out := s.out
    phy := s.phy
    sport := { r.st.sport with running := s.sport.running, last := s.sport.last, tx := s.sport.tx } }

/-- The reply writes no DRAM, and leaves the port's traffic to the answer. -/
def Reply.quiet (s : State) (r : Reply) : Prop := r.dram = [] ∧ r.st.sport.tx = s.sport.tx ∧ r.st.phy.pcs = s.phy.pcs

theorem sized_tx {s : State} (h : s.sized = true) : s.sport.tx.length = 4 := by
  simp only [State.sized, Bool.and_eq_true, beq_iff_eq] at h
  exact h.2

/-- The answer has gone out and is kept, and nothing beside the port's traffic has changed. -/
theorem respond_answers {q : Request} (status : Nat) (payload : List Byte) {u : State} (htx : u.sport.tx.length = 4) :
    State.answered q status payload (respond q status payload u) ∧
      ∃ last tx out phy, phy.pcs = u.phy.pcs ∧ respond q status payload u =
        { u with out := out, phy := phy, sport := { u.sport with running := none, last := last, tx := tx } } := by
  by_cases h3 : q.t = 3
  · simp only [respond, sendFrame, h3, beq_self_eq_true, if_true]
    refine ⟨⟨rfl, rfl, fun hlt => absurd hlt (by omega), fun _ => ⟨u.sport.tx.getD 3 [], ?_⟩⟩, _, _, _, _, rfl, rfl⟩
    simp [modAt, List.getD_eq_getElem?_getD, htx]
  · simp only [respond, sendFrame, beq_iff_eq, h3, if_false]
    refine ⟨⟨rfl, rfl, fun _ => List.mem_append_right _ (List.mem_singleton_self _), fun h => absurd h h3⟩, _, _, _, _, ?_, rfl⟩
    split <;> rfl

/-- The command of the request in progress, which the port serves, ends with the answer to it. -/
theorem serve_own {s : State} {q : Request} (sc : Scope) {f : List Byte → State → Reply} {r : Reply} (hq : s.sport.running = some q)
    (hserved : s.portServes q.cmd = true) (hr : f q.payload s.begin_ = r) :
    serve sc q.cmd f s = finish sc s (respond q r.status r.payload r.st) r.dram r.flash [] [] := by
  have hrun : s.begin_.sport.running = some q := hq
  have hon : s.begin_.portServes q.cmd = true := hserved
  simp only [serve, hrun, beq_self_eq_true, if_true, hon, hr]

/-- That command leaves what its reply leaves, and answers. -/
theorem exec_leaves {s : State} {q : Request} {c : Instr} {otp : Bool} {cmd : Nat} {f : List Byte → State → Reply} {r : Reply}
    (hexec : exec c s = serve { otp := otp } cmd f s) (hcmd : q.cmd = cmd) (hq : s.sport.running = some q)
    (hserved : s.portServes q.cmd = true) (hsized : s.sized = true) (hr : f q.payload s.begin_ = r) (hquiet : r.quiet s) :
    ∃ t, exec c s = .next t ∧ State.answered q r.status r.payload t ∧ s.portBack t = r.leaves otp s := by
  obtain ⟨hdram, htx, hpcs⟩ := hquiet
  obtain ⟨hans, last, tx, out, phy, hphy, hshape⟩ :=
    respond_answers (q := q) r.status r.payload ((congrArg List.length htx).trans (sized_tx hsized))
  have hstill : s.phy.still phy = s.phy := by rw [Phy.still, hphy, hpcs]
  rw [hexec, ← hcmd, serve_own _ hq hserved hr, hdram]
  refine ⟨_, rfl, hans, ?_⟩
  rw [hshape]
  simp only [State.portBack, Reply.leaves, hstill]
  rfl

theorem sized_of_length {n : Nat} {p : List Byte} (f : State → Reply) (s : State) (h : p.length = n) : sized n f p s = f s :=
  if_pos (beq_iff_eq.2 h)

theorem exec_flashBegin (s : State) : exec .flashBegin s = serve {} 0x10 (fun p => sized 5 (flashStart p) p) s := rfl
theorem exec_flashData (s : State) : exec .flashData s = serve {} 0x11 flashBytes s := rfl
theorem exec_flashEnd (s : State) : exec .flashEnd s = serve {} 0x12 (sized 0 flashStop) s := rfl
theorem exec_approveRow (s : State) : exec .approveRow s = serve {} 0x20 (fun p => sized 130 (approveRow p) p) s := rfl
theorem exec_revokeSlot (s : State) : exec .revokeSlot s = serve { otp := true } 0x21 (fun p => sized 130 (revokeSlot p) p) s := rfl
theorem exec_reset (s : State) : exec .reset s = serve {} 0x30 (sized 0 portReset) s := rfl
theorem exec_bootHold (s : State) :
    exec .bootHold s = serve {} 0x31 (sized 0 fun t => { st := { t with boot := { t.boot with hold := true } } }) s := rfl

theorem refuse_quiet (status : Nat) (s : State) : (refuse status s.begin_).quiet s := ⟨rfl, rfl, rfl⟩

/-- A refusal changes nothing. -/
theorem refuse_leaves (otp : Bool) (status : Nat) (s : State) : (refuse status s.begin_).leaves otp s = s := by
  cases otp <;> rfl

/-- The parts of the state that the answer leaves to the reply. -/
theorem parts_of_leaves {otp : Bool} {s t : State} {r : Reply} (h : s.portBack t = r.leaves otp s) :
    t.flash = applyWrites flashByte s.flash r.flash ∧ t.sport.flash = r.st.sport.flash ∧ t.fmap = r.st.fmap ∧ t.boot = r.st.boot ∧
      t.otp = if otp then r.st.otp else s.otp :=
  ⟨(congrArg State.flash h :), (congrArg (fun u => u.sport.flash) h :), (congrArg State.fmap h :), (congrArg State.boot h :),
    (congrArg State.otp h :)⟩

/-- A refused command answers why and changes nothing. -/
theorem unchanged_of_refused {otp : Bool} {q : Request} {status : Nat} {s t : State} {r : Reply} (hr : r = refuse status s.begin_)
    (hans : State.answered q r.status r.payload t) (hback : s.portBack t = r.leaves otp s) :
    State.answered q status [] t ∧ State.portOnly s t := by
  subst hr
  exact ⟨hans, hback.trans (refuse_leaves otp status s)⟩

/-- A reply that changes the session alone leaves flash and the session to its writes, and the rest as it was. -/
theorem flashOnly_of_leaves {x : Option FlashSession} {s t : State} {r : Reply}
    (hst : r.st = { s.begin_ with sport := { s.begin_.sport with flash := x } }) (hback : s.portBack t = r.leaves false s) :
    State.portOnly s { t with flash := s.flash, sport := { t.sport with flash := s.sport.flash } } := by
  rw [Reply.leaves, hst] at hback
  exact congrArg (fun u : State => { u with flash := s.flash, sport := { u.sport with flash := s.sport.flash } }) hback

/-! ## The directory of boot flash (R943) -/

theorem dir_idx_lt {s : State} {d : DirEntry} (h : d ∈ s.dir) : d.idx < 14 := by
  unfold State.dir at h
  split at h
  · obtain ⟨hentry, -⟩ := List.mem_filter.1 h
    obtain ⟨i, hi, rfl⟩ := List.mem_map.1 hentry
    exact List.mem_range.1 hi
  · cases h

theorem length_flashAt (s : State) (a n : Nat) : (s.flashAt a n).length = n := by
  rw [State.flashAt, Memory.reads, List.length_map, List.length_range]

theorem getD_flashAt (s : State) (a : Nat) {n k : Nat} (h : k < n) : (s.flashAt a n).getD k 0 = s.flashByteAt (a + k) := by
  simp [State.flashAt, State.flashByteAt, Memory.reads, List.getD_eq_getElem?_getD, h]

theorem flashAt_of_bytes {t : State} {a n : Nat} {bs : List Byte} (hlen : bs.length = n)
    (h : ∀ k < n, t.flashByteAt (a + k) = bs.getD k 0) : t.flashAt a n = bs := by
  refine List.ext_getElem ((length_flashAt t a n).trans hlen.symm) fun k hk hk' => ?_
  rw [← List.getD_eq_getElem _ 0 hk, ← List.getD_eq_getElem _ 0 hk', getD_flashAt t a (hlen ▸ hk'), h k (hlen ▸ hk')]

/-- A directory written as `bs` with the CRC of `bs` after it has a CRC that fits. -/
theorem dirCrc_fits {t : State} {bs : List Byte} (hlen : bs.length = 252) (hdir : ∀ k < 252, t.flashByteAt (0 + k) = bs.getD k 0)
    (hcrc : ∀ k < 4, t.flashByteAt (252 + k) = (leBytes 4 (Crypto.crc32c bs)).getD k 0) :
    leN (t.flashAt 252 4) = Crypto.crc32c (t.flashAt 0 252) := by
  rw [flashAt_of_bytes hlen hdir, flashAt_of_bytes (length_leBytes 4 _) hcrc, leN_leBytes]
  exact Nat.mod_eq_of_lt (crc32c_lt bs)

theorem memOk_flash {s : State} (h : s.memOk = true) : Memory.wf flashByte s.flash = true := by
  simp only [State.memOk, Bool.and_eq_true] at h
  exact h.1.2

/-- The directory with VALID `v` in entry `i`. -/
def State.dirValid (s : State) (i : Nat) (v : Byte) : List Byte := (s.flashAt 0 252).set (dirAt i + 1) v

/-- Flash after the writes that set the VALID byte of an entry. -/
theorem flashByteAt_setValid {s t : State} {i : Nat} {v : Byte} (hmem : s.memOk = true)
    (ht : t.flash = applyWrites flashByte s.flash (s.setValid i v)) (a : Nat) :
    t.flashByteAt a = if 252 ≤ a ∧ a < 252 + 4 then (leBytes 4 (Crypto.crc32c (s.dirValid i v))).getD (a - 252) 0
      else if a = dirAt i + 1 then v else s.flashByteAt a := by
  have hwf := memOk_flash hmem
  rw [State.flashByteAt, ht]
  change Memory.read flashByte (Memory.writes flashByte (Memory.write flashByte s.flash (dirAt i + 1) v) 252 _) a = _
  rw [Memory.read_writes _ _ _ _ _ (Memory.wf_write _ _ _ _ hwf), length_leBytes, Memory.read_write _ _ _ _ _ hwf]
  rfl

theorem setValid_writes {s t : State} {i : Nat} {v : Byte} (hi : i < 14) (hmem : s.memOk = true)
    (ht : t.flash = applyWrites flashByte s.flash (s.setValid i v)) :
    t.flashByteAt (dirAt i + 1) = v ∧ leN (t.flashAt 252 4) = Crypto.crc32c (t.flashAt 0 252) ∧
      ∀ a, a ≠ dirAt i + 1 → a < 252 ∨ 256 ≤ a → t.flashByteAt a = s.flashByteAt a := by
  have hbyte := flashByteAt_setValid hmem ht
  have hat : dirAt i + 1 < 252 := by unfold dirAt; omega
  refine ⟨?_, dirCrc_fits (bs := s.dirValid i v) ?_ (fun k hk => ?_) (fun k hk => ?_), fun a hne ha => ?_⟩
  · rw [hbyte, if_neg (by omega), if_pos rfl]
  · rw [State.dirValid, List.length_set, length_flashAt]
  · rw [hbyte, if_neg (by omega), State.dirValid, List.getD_eq_getElem?_getD, List.getElem?_set, length_flashAt, if_pos hat]
    by_cases hk' : dirAt i + 1 = k
    · rw [if_pos (by omega), if_pos hk']
      rfl
    · rw [if_neg (by omega), if_neg hk', ← List.getD_eq_getElem?_getD, getD_flashAt s 0 hk]
  · rw [hbyte, if_pos (by omega), Nat.add_sub_cancel_left]
  · rw [hbyte, if_neg (by omega), if_neg hne]

/-- `bs` with `x` in it from offset `o`. -/
def putAt (bs : List Byte) (o : Nat) (x : List Byte) : List Byte := bs.take o ++ x ++ bs.drop (o + x.length)

theorem length_putAt {bs x : List Byte} {o : Nat} (h : o + x.length ≤ bs.length) : (putAt bs o x).length = bs.length := by
  simp only [putAt, List.length_append, List.length_take, List.length_drop]
  omega

theorem getD_putAt {bs x : List Byte} {o : Nat} (h : o + x.length ≤ bs.length) (k : Nat) :
    (putAt bs o x).getD k 0 = if o ≤ k ∧ k < o + x.length then x.getD (k - o) 0 else bs.getD k 0 := by
  have htake : (bs.take o).length = o := by rw [List.length_take]; omega
  have hhead : (bs.take o ++ x).length = o + x.length := by rw [List.length_append, htake]
  simp only [List.getD_eq_getElem?_getD, putAt]
  rcases Nat.lt_or_ge k o with hlow | hlow
  · rw [List.getElem?_append_left (by omega), List.getElem?_append_left (by omega), List.getElem?_take_of_lt hlow, if_neg (by omega)]
  rcases Nat.lt_or_ge k (o + x.length) with hmid | hhigh
  · rw [List.getElem?_append_left (by omega), List.getElem?_append_right (by omega), htake, if_pos ⟨hlow, hmid⟩]
  · rw [List.getElem?_append_right (by omega), hhead, List.getElem?_drop, Nat.add_sub_of_le hhigh, if_neg (by omega)]

/-- The directory with VALID and LENGTH of a written image in entry `i`. -/
def State.dirImage (s : State) (i len : Nat) : List Byte :=
  putAt (putAt (s.flashAt 0 252) (dirAt i + 1) [1]) (dirAt i + 8) (leBytes 4 len)

theorem setImage_eq (s : State) (i len : Nat) :
    s.setImage i len = [(0, s.dirImage i len ++ leBytes 4 (Crypto.crc32c (s.dirImage i len)))] := rfl

theorem dirImage_bytes (s : State) {i : Nat} (hi : i < 14) (len : Nat) :
    (s.dirImage i len).length = 252 ∧ (s.dirImage i len).getD (dirAt i + 1) 0 = 1 ∧
      ∀ k < 4, (s.dirImage i len).getD (dirAt i + 8 + k) 0 = (leBytes 4 len).getD k 0 := by
  have hat : dirAt i + 16 ≤ 252 := by unfold dirAt; omega
  have hlen := length_flashAt s 0 252
  have hvalid : dirAt i + 1 + ([1] : List Byte).length ≤ (s.flashAt 0 252).length := by rw [hlen, List.length_singleton]; omega
  have hfirst := (length_putAt hvalid).trans hlen
  have hlength : dirAt i + 8 + (leBytes 4 len).length ≤ (putAt (s.flashAt 0 252) (dirAt i + 1) [1]).length := by
    rw [hfirst, length_leBytes]; omega
  refine ⟨(length_putAt hlength).trans hfirst, ?_, fun k hk => ?_⟩
  · rw [State.dirImage, getD_putAt hlength, if_neg (by omega), getD_putAt hvalid, if_pos (by simp), Nat.sub_self]
    rfl
  · rw [State.dirImage, getD_putAt hlength, length_leBytes, if_pos (by omega), Nat.add_sub_cancel_left]

theorem setImage_writes {s t : State} {i len : Nat} (hi : i < 14) (hmem : s.memOk = true)
    (ht : t.flash = applyWrites flashByte s.flash (s.setImage i len)) :
    t.flashByteAt (dirAt i + 1) = 1 ∧ leN (t.flashAt (dirAt i + 8) 4) = len % 2 ^ 32 ∧
      leN (t.flashAt 252 4) = Crypto.crc32c (t.flashAt 0 252) ∧ ∀ a, 256 ≤ a → t.flashByteAt a = s.flashByteAt a := by
  obtain ⟨hlen, hvalid, hlength⟩ := dirImage_bytes s hi len
  have hat : dirAt i + 16 ≤ 252 := by unfold dirAt; omega
  have hwhole : ∀ a, t.flashByteAt a = if a < 256
      then (s.dirImage i len ++ leBytes 4 (Crypto.crc32c (s.dirImage i len))).getD a 0 else s.flashByteAt a := by
    intro a
    rw [State.flashByteAt, ht, setImage_eq]
    change Memory.read flashByte (Memory.writes flashByte s.flash 0 _) a = _
    rw [Memory.read_writes _ _ _ _ _ (memOk_flash hmem), List.length_append, hlen, length_leBytes]
    simp only [Nat.zero_le, true_and, Nat.zero_add, Nat.sub_zero, Nat.reduceAdd]
    rfl
  have hdir : ∀ a < 252, t.flashByteAt a = (s.dirImage i len).getD a 0 := fun a ha => by
    rw [hwhole, if_pos (by omega), List.getD_append _ _ _ _ (by omega)]
  refine ⟨?_, ?_, dirCrc_fits hlen (fun k hk => ?_) (fun k hk => ?_), fun a ha => ?_⟩
  · rw [hdir _ (by omega), hvalid]
  · rw [flashAt_of_bytes (length_leBytes 4 len) fun k hk => (hdir _ (by omega)).trans (hlength k hk), leN_leBytes]
    rfl
  · rw [Nat.zero_add, hdir k hk]
  · rw [hwhole, if_pos (by omega), List.getD_append_right _ _ _ _ (by omega), hlen, Nat.add_sub_cancel_left]
  · rw [hwhole, if_neg (by omega)]

/-! ## FLASH_BEGIN (R958, R967, R968) -/

theorem flashStart_barred {p : List Byte} {s : State} (h : leAt p 0 1 = 5 ∨ leAt p 0 1 = 6 ∨ s.runningSlot = some (leAt p 0 1)) :
    flashStart p s = refuse stBadState s :=
  if_pos (by simp only [Bool.or_eq_true, beq_iff_eq]; tauto)

theorem flashStart_starts {p : List Byte} {s : State} {d : DirEntry}
    (hbar : ¬ (leAt p 0 1 = 5 ∨ leAt p 0 1 = 6 ∨ s.runningSlot = some (leAt p 0 1))) (hzero : leAt p 0 1 ≠ 0)
    (hrom : s.boot.rom = true → leAt p 0 1 = 1 ∨ leAt p 0 1 = 2) (hd : s.dirType? (leAt p 0 1) = some d)
    (hlen : 0 < leAt p 1 4) (hroom : d.off + leAt p 1 4 ≤ s.regionEnd d) :
    flashStart p s = { st := { s with sport := { s.sport with flash := some ⟨leAt p 0 1, d.idx, leAt p 1 4⟩ } },
                       flash := s.setValid d.idx 0 } := by
  unfold flashStart
  dsimp only
  rw [if_neg (by simp only [Bool.or_eq_true, Bool.and_eq_true, beq_iff_eq, bne_iff_ne]; tauto)]
  simp only [beq_eq_false_iff_ne.2 hzero, Bool.false_eq_true, if_false, hd]
  rw [if_neg (by simp only [Bool.or_eq_true, beq_iff_eq, decide_eq_true_eq]; omega)]

theorem flashStart_quiet (p : List Byte) (s : State) : (flashStart p s.begin_).quiet s := by
  unfold flashStart
  dsimp only
  split
  · exact refuse_quiet _ s
  · split
    · exact refuse_quiet _ s
    · split
      · exact refuse_quiet _ s
      · exact ⟨rfl, rfl, rfl⟩

/-! ## FLASH_DATA (R965) -/

theorem flashBytes_noSession {s : State} (p : List Byte) (h : s.sport.flash = none) : flashBytes p s = refuse stBadState s := by
  simp only [flashBytes, h]

theorem flashBytes_session {p : List Byte} {s : State} {f : FlashSession} {d : DirEntry} (hf : s.sport.flash = some f)
    (hd : s.sessionEntry? f = some d) (hp : p.drop 4 ≠ []) :
    flashBytes p s = if f.len < leAt p 0 4 + (p.drop 4).length then refuse stBadArg s
      else { st := s, flash := [(d.off + leAt p 0 4, p.drop 4)] } := by
  simp only [flashBytes, hf, hd, List.isEmpty_eq_false_iff.2 hp, Bool.false_eq_true, if_false]

theorem flashBytes_quiet (p : List Byte) (s : State) : (flashBytes p s.begin_).quiet s := by
  unfold flashBytes
  dsimp only
  split
  · exact refuse_quiet _ s
  · split
    · exact refuse_quiet _ s
    · split
      · exact refuse_quiet _ s
      · split
        · exact refuse_quiet _ s
        · exact ⟨rfl, rfl, rfl⟩

/-! ## FLASH_END (R967) -/

/-- The session is over. -/
def State.noSession (s : State) : State := { s with sport := { s.sport with flash := none } }

theorem flashStop_noSession {s : State} (h : s.sport.flash = none) : flashStop s = refuse stBadState s := by
  simp only [flashStop, h]

theorem flashStop_session {s : State} {f : FlashSession} {d : DirEntry} (hf : s.sport.flash = some f)
    (hd : s.sessionEntry? f = some d) :
    flashStop s =
      { st := s.noSession, status := s.imageStatus f.type (s.flashAt d.off f.len)
        flash := if s.imageStatus f.type (s.flashAt d.off f.len) = stOk then s.setImage d.idx f.len else [] } := by
  have hd' : s.noSession.sessionEntry? f = some d := hd
  have hst : s.noSession.imageStatus f.type (s.noSession.flashAt d.off f.len) = s.imageStatus f.type (s.flashAt d.off f.len) := rfl
  rw [State.noSession] at hd' hst
  simp only [flashStop, hf, hd', hst, beq_iff_eq]
  rfl

/-- FLASH_END ends the session, whatever it answers. -/
theorem flashStop_st (s : State) : (flashStop s).st = s.noSession ∧ (flashStop s).dram = [] := by
  unfold flashStop
  split
  next h => exact ⟨by rw [State.noSession, ← h]; rfl, rfl⟩
  next =>
    dsimp only
    split <;> exact ⟨rfl, rfl⟩

theorem flashStop_quiet (s : State) : (flashStop s.begin_).quiet s := by
  obtain ⟨hst, hdram⟩ := flashStop_st s.begin_
  exact ⟨hdram, by rw [hst]; rfl, by rw [hst]; rfl⟩

/-! ## APPROVE_ROW (R210, R969) -/

/-- A field entry that finds room waits to be written behind the others. -/
theorem fieldEntry_fmap {kind target cause : Nat} {s : State} (hroom : s.fmap.entries.length + s.fmap.writing.length < 64) :
    (fieldEntry kind target cause s).fmap = { s.fmap with writing := s.fmap.writing ++ [s.newEntry kind target cause] } := by
  rw [fieldEntry, if_pos hroom]
  obtain ⟨⟨f, q, hshape⟩, -⟩ := showFmap_regsOnly
    { s with fmap := { s.fmap with writing := s.fmap.writing ++ [s.newEntry kind target cause] } }
  rw [hshape]

/-- What the signature of APPROVE_ROW covers (R969). -/
def State.approval (s : State) (row : Nat) : List Byte :=
  [0x48, 0x44, 0x52, 0x41] ++ leBytes 8 s.otp.serial ++ leBytes 1 row ++ leBytes 4 s.fmap.seq.toNat

theorem approveRow_unsigned {p : List Byte} {s : State} (hrow : leAt p 0 1 < 8) (hslot : leAt p 1 1 < 4)
    (hst : s.signedBy (leAt p 1 1) p (s.approval (leAt p 0 1)) ≠ stOk) :
    approveRow p s = refuse (s.signedBy (leAt p 1 1) p (s.approval (leAt p 0 1))) s := by
  unfold approveRow
  dsimp only
  rw [if_neg (by simp only [Bool.or_eq_true, decide_eq_true_eq]; omega)]
  exact if_pos (bne_iff_ne.2 hst)

theorem approveRow_signed {p : List Byte} {s : State} (hrow : leAt p 0 1 < 8) (hslot : leAt p 1 1 < 4)
    (hst : s.signedBy (leAt p 1 1) p (s.approval (leAt p 0 1)) = stOk) (hroom : s.fmap.entries.length + s.fmap.writing.length < 64) :
    approveRow p s = { st := fieldEntry 1 (leAt p 0 1) 0 s } := by
  rw [State.approval] at hst
  unfold approveRow
  dsimp only
  rw [if_neg (by simp only [Bool.or_eq_true, decide_eq_true_eq]; omega), hst, if_neg (by decide), if_pos hroom]
  rfl

theorem fieldEntry_quiet (kind target cause status : Nat) (s : State) :
    Reply.quiet s { st := fieldEntry kind target cause s.begin_, status := status } := by
  obtain ⟨f, q, k, m, b, p, hshape⟩ := fieldEntry_testTouches kind target cause s.begin_
  rw [hshape]
  exact ⟨rfl, rfl, rfl⟩

theorem approveRow_quiet (p : List Byte) (s : State) : (approveRow p s.begin_).quiet s := by
  unfold approveRow
  dsimp only
  split
  · exact refuse_quiet _ s
  · split
    · exact refuse_quiet _ s
    · exact fieldEntry_quiet _ _ _ _ s

/-! ## REVOKE_SLOT (R970) -/

/-- What the signature of REVOKE_SLOT covers (R970). -/
def State.revocation (s : State) (slot : Nat) : List Byte :=
  [0x48, 0x52, 0x56, 0x4B] ++ leBytes 8 s.otp.serial ++ leBytes 1 slot

theorem revokeSlot_barred {p : List Byte} {s : State}
    (h : leAt p 0 1 = leAt p 1 1 ∨ (s.otp.revoked.set (leAt p 0 1) true).all id = true) : revokeSlot p s = refuse stBadArg s :=
  if_pos (by simp only [Bool.or_eq_true, beq_iff_eq]; tauto)

theorem revokeSlot_unsigned {p : List Byte} {s : State} (hslot : leAt p 0 1 < 4) (hby : leAt p 1 1 < 4) (hne : leAt p 0 1 ≠ leAt p 1 1)
    (hleft : (s.otp.revoked.set (leAt p 0 1) true).all id = false)
    (hst : s.signedBy (leAt p 1 1) p (s.revocation (leAt p 0 1)) ≠ stOk) :
    revokeSlot p s = refuse (s.signedBy (leAt p 1 1) p (s.revocation (leAt p 0 1))) s := by
  unfold revokeSlot
  dsimp only
  rw [if_neg (by simp only [Bool.or_eq_true, decide_eq_true_eq, beq_iff_eq, hleft, Bool.false_eq_true, or_false]; omega)]
  exact if_pos (bne_iff_ne.2 hst)

theorem revokeSlot_signed {p : List Byte} {s : State} (hslot : leAt p 0 1 < 4) (hby : leAt p 1 1 < 4) (hne : leAt p 0 1 ≠ leAt p 1 1)
    (hleft : (s.otp.revoked.set (leAt p 0 1) true).all id = false)
    (hst : s.signedBy (leAt p 1 1) p (s.revocation (leAt p 0 1)) = stOk) :
    revokeSlot p s = { st := { s with otp := { s.otp with revoked := s.otp.revoked.set (leAt p 0 1) true } } } := by
  rw [State.revocation] at hst
  unfold revokeSlot
  dsimp only
  rw [if_neg (by simp only [Bool.or_eq_true, decide_eq_true_eq, beq_iff_eq, hleft, Bool.false_eq_true, or_false]; omega), hst,
    if_neg (by decide)]

theorem revokeSlot_quiet (p : List Byte) (s : State) : (revokeSlot p s.begin_).quiet s := by
  unfold revokeSlot
  dsimp only
  split
  · exact refuse_quiet _ s
  · split
    · exact refuse_quiet _ s
    · exact ⟨rfl, rfl, rfl⟩

/-! ## RESET (R942) -/

theorem portReset_armed {s : State} (h : s.anyArmed = true) : portReset s = refuse stArmed s := if_pos h

/-- Settles O53. Each clause takes the reply of its command from the lemma on that case; what follows for the state is what the reply
leaves. -/
theorem stewardFlashesSignsAndHolds : Obligations.StewardFlashesSignsAndHolds := by
  unfold Obligations.StewardFlashesSignsAndHolds
  intro good flashOnly s q hq hserved hsized _ hmem
  refine ⟨fun hcmd hlen => ?_, fun hcmd => ?_, fun hcmd hlen => ?_, fun hcmd hlen => ?_, fun hcmd hlen => ?_, fun hcmd hlen harmed => ?_,
    fun hcmd hlen => ?_⟩
  · -- FLASH_BEGIN
    intro ty len barred
    obtain ⟨t, ht, hans, hback⟩ := exec_leaves (exec_flashBegin s) hcmd hq hserved hsized
      (sized_of_length (flashStart q.payload) _ hlen) (flashStart_quiet _ s)
    refine ⟨t, ht, fun hbar => unchanged_of_refused (flashStart_barred (s := s.begin_) hbar) hans hback,
      fun d hbar hzero hrom hd hpos hroom => ?_⟩
    have hreply : flashStart q.payload s.begin_ = _ := flashStart_starts hbar hzero hrom hd hpos hroom
    rw [hreply] at hans hback
    have hdir : d.idx < 14 := dir_idx_lt (List.mem_of_find?_eq_some hd)
    obtain ⟨hflash, hsession, -⟩ := parts_of_leaves hback
    obtain ⟨hvalid, hgood, hrest⟩ := setValid_writes hdir hmem hflash
    exact ⟨hans, hsession, hvalid, hgood, hrest, flashOnly_of_leaves rfl hback⟩
  · -- FLASH_DATA
    obtain ⟨t, ht, hans, hback⟩ := exec_leaves (exec_flashData s) hcmd hq hserved hsized rfl (flashBytes_quiet _ s)
    refine ⟨t, ht, fun hnone => unchanged_of_refused (flashBytes_noSession (s := s.begin_) _ hnone) hans hback,
      fun f d hf hd hbytes => ?_⟩
    intro o bs
    have hreply : flashBytes q.payload s.begin_ = _ := flashBytes_session hf hd hbytes
    refine ⟨fun hfits => ?_, fun hbeyond => unchanged_of_refused (hreply.trans (if_pos hbeyond)) hans hback⟩
    rw [hreply, if_neg (Nat.not_lt.2 hfits)] at hans hback
    obtain ⟨hflash, hsession, -⟩ := parts_of_leaves hback
    refine ⟨hans, hsession.trans hf, flashOnly_of_leaves rfl hback, fun a => ?_⟩
    rw [State.flashByteAt, hflash]
    exact Memory.read_writes _ _ _ _ _ (memOk_flash hmem)
  · -- FLASH_END
    obtain ⟨t, ht, hans, hback⟩ := exec_leaves (exec_flashEnd s) hcmd hq hserved hsized
      (sized_of_length flashStop _ (congrArg List.length hlen)) (flashStop_quiet s)
    have hst := (flashStop_st s.begin_).1
    obtain ⟨hflash, hsession, -⟩ := parts_of_leaves hback
    rw [hst] at hsession
    refine ⟨t, ht, hsession, flashOnly_of_leaves hst hback, fun hnone => ?_, fun f d hf hd => ?_⟩
    · rw [flashStop_noSession (s := s.begin_) hnone] at hans hflash
      exact ⟨hans, hflash⟩
    · intro st
      have hreply : flashStop s.begin_ = _ := flashStop_session hf hd
      rw [hreply] at hans hflash
      have hwrites : t.flash = applyWrites flashByte s.flash (if st = stOk then s.setImage d.idx f.len else []) := hflash
      refine ⟨hans, fun hbad => ?_, fun hok => ?_⟩
      · rw [hwrites, if_neg hbad]
        rfl
      · rw [if_pos hok] at hwrites
        exact setImage_writes (dir_idx_lt (List.mem_of_find?_eq_some hd)) hmem hwrites
  · -- APPROVE_ROW
    intro row slot st hrow hslot
    obtain ⟨t, ht, hans, hback⟩ := exec_leaves (exec_approveRow s) hcmd hq hserved hsized
      (sized_of_length (approveRow q.payload) _ hlen) (approveRow_quiet _ s)
    refine ⟨t, ht, fun hbad => unchanged_of_refused (approveRow_unsigned (s := s.begin_) hrow hslot hbad) hans hback,
      fun hok hroom => ?_⟩
    have hreply : approveRow q.payload s.begin_ = _ := approveRow_signed hrow hslot hok hroom
    rw [hreply] at hans hback
    obtain ⟨-, -, hfmap, -⟩ := parts_of_leaves hback
    exact ⟨hans, _, hfmap.trans (fieldEntry_fmap hroom), rfl, rfl⟩
  · -- REVOKE_SLOT
    intro slot by_ st hslot hby
    obtain ⟨t, ht, hans, hback⟩ := exec_leaves (exec_revokeSlot s) hcmd hq hserved hsized
      (sized_of_length (revokeSlot q.payload) _ hlen) (revokeSlot_quiet _ s)
    refine ⟨t, ht, fun hbarred => unchanged_of_refused (revokeSlot_barred (s := s.begin_) hbarred) hans hback,
      fun hne hleft hbad => ?_, fun hne hleft hok => ?_⟩
    · exact unchanged_of_refused (revokeSlot_unsigned (s := s.begin_) hslot hby hne hleft hbad) hans hback
    · have hreply : revokeSlot q.payload s.begin_ = _ := revokeSlot_signed hslot hby hne hleft hok
      rw [hreply] at hans hback
      obtain ⟨-, -, -, -, hotp⟩ := parts_of_leaves hback
      have hrest := congrArg (fun u : State => { u with otp := s.otp }) hback
      exact ⟨hans, hotp, hrest⟩
  · -- RESET
    obtain ⟨t, ht, hans, hback⟩ := exec_leaves (exec_reset s) hcmd hq hserved hsized
      ((sized_of_length portReset _ (congrArg List.length hlen)).trans (portReset_armed harmed)) (refuse_quiet _ s)
    exact ⟨t, ht, unchanged_of_refused rfl hans hback⟩
  · -- BOOT_HOLD
    obtain ⟨t, ht, hans, hback⟩ := exec_leaves (exec_bootHold s) hcmd hq hserved hsized
      (sized_of_length _ _ (congrArg List.length hlen)) ⟨rfl, rfl, rfl⟩
    obtain ⟨-, -, -, hboot, -⟩ := parts_of_leaves hback
    have hrest := congrArg (fun u : State => { u with boot := s.boot }) hback
    exact ⟨t, ht, hans, hrest, hboot⟩

end Sys2Proof.Machine

/-! PROOFS. Bus errors and event routes (O12, O14).

BUS_ERR ends in `busError`, a write to SYS.EVT_ROUTE in `routeWrite`. One lemma gives each register that the operation writes,
and one how the command ends. -/

namespace Sys2Proof.Machine

/-! ## An access to an unmapped address (R1018) -/

/-- The registers that hold the last unmapped access. -/
def busErrRegs : List Nat := [Reg.sysBusErrAddrLo, Reg.sysBusErrAddrHi, Reg.sysBusErrSrc]

theorem busError_regsOnly (ini addr : Nat) (wr : Bool) (s : State) : RegsOnly (· ∈ busErrRegs) s (busError ini addr wr s) :=
  ((((RegsOnly.refl _ s).setN _ (by simp [busErrRegs])).setN _ (by simp [busErrRegs])).setN _ (by simp [busErrRegs])).raise 474
    (by norm_num)

theorem busError_rdata (ini addr : Nat) (wr : Bool) (s : State) : (busError ini addr wr s).rdata = s.rdata := by
  obtain ⟨⟨f, q, h⟩, -⟩ := busError_regsOnly ini addr wr s
  rw [h]

theorem busError_pendingEvent (ini addr : Nat) (wr : Bool) (s : State) : (busError ini addr wr s).pendingEvent 474 = true :=
  pendingEvent_raise_self 474 _ (by norm_num)

theorem not_eventReg_busErrRegs : ∀ b ∈ busErrRegs, ¬ eventReg b := by
  have hbelow : ∀ b ∈ busErrRegs, b < 0x2000001800 := by decide
  exact fun b hb => not_eventReg (.inl (hbelow b hb))

theorem busError_addrLo (ini addr : Nat) (wr : Bool) (s : State) :
    ((busError ini addr wr s).reg Reg.sysBusErrAddrLo).toNat = addr % 2 ^ 32 := by
  rw [busError, raise_reg 474 _ (by norm_num) (not_eventReg_busErrRegs _ (by simp [busErrRegs])),
    State.reg_setN_ne _ _ (by decide), State.reg_setN_ne _ _ (by decide), State.reg_setN, BitVec.toNat_ofNat, Nat.mod_mod]

theorem busError_addrHi (ini : Nat) {addr : Nat} (wr : Bool) (s : State) (haddr : addr < 2 ^ 40) :
    ((busError ini addr wr s).reg Reg.sysBusErrAddrHi).toNat = addr / 2 ^ 32 := by
  rw [busError, raise_reg 474 _ (by norm_num) (not_eventReg_busErrRegs _ (by simp [busErrRegs])),
    State.reg_setN_ne _ _ (by decide), State.reg_setN, BitVec.toNat_ofNat]
  omega

theorem busError_src {ini : Nat} (addr : Nat) (wr : Bool) (s : State) (hini : ini < 16) :
    ((busError ini addr wr s).reg Reg.sysBusErrSrc).toNat = (if wr then 256 else 0) + ini := by
  rw [busError, raise_reg 474 _ (by norm_num) (not_eventReg_busErrRegs _ (by simp [busErrRegs])), State.reg_setN,
    BitVec.toNat_ofNat]
  cases wr <;> simp only [Bool.false_eq_true, if_false, if_true] <;> omega

/-- BUS_ERR ends as a read does: a read of an unmapped address returns 0, and a write leaves the word last read. -/
theorem exec_busErr (ini addr : Nat) (wr : Bool) (s : State) :
    exec (.busErr ini addr wr) s = doneRead s (if wr then s.rdata else 0, busError ini addr wr s.begin_) := by
  cases wr with
  | false => rfl
  | true =>
    have hsame : { busError ini addr true s.begin_ with rdata := s.rdata } = busError ini addr true s.begin_ := by
      rw [← show (busError ini addr true s.begin_).rdata = s.rdata from busError_rdata ini addr true s.begin_]
    exact (congrArg (done s) hsame).symm

/-- Settles O12. `busError` writes the three registers and raises event 474; the direction decides what the word last read
becomes. -/
theorem busErrorsAreRecorded : Obligations.BusErrorsAreRecorded := by
  unfold Obligations.BusErrorsAreRecorded
  intro s ini addr wr hini haddr
  rw [exec_busErr]
  obtain ⟨t, ht, hdata, hregs, honly⟩ :=
    doneRead_onlyRegs (if wr then s.rdata else 0) (busError_regsOnly ini addr wr s.begin_)
  refine ⟨t, ht, fun hread => ?_, fun hwrite => ?_, ?_, ?_, ?_, ?_, honly⟩
  · rw [hdata, hread]
    rfl
  · rw [hdata, hwrite]
    rfl
  · rw [reg_congr hregs, busError_addrLo]
  · rw [reg_congr hregs, busError_addrHi ini wr _ haddr]
  · rw [reg_congr hregs, busError_src addr wr _ hini]
  · rw [State.pendingEvent, flag_congr hregs]
    exact busError_pendingEvent ini addr wr s.begin_

/-! ## A word written under a mask -/

theorem bitAt_eq_testBit (v i : Nat) : bitAt v i = v.testBit i := by
  rw [bitAt, Nat.testBit_eq_decide_div_mod_eq, beq_eq_decide]

/-- A masked write: the bits of the mask come from the written word, the others stay. -/
theorem bitAt_mergeBits (mask cur val i : Nat) :
    bitAt (mergeBits mask cur val) i = if mask.testBit i then bitAt val i else bitAt cur i := by
  simp only [bitAt_eq_testBit, mergeBits, Nat.testBit_or, Nat.testBit_xor, Nat.testBit_and]
  cases mask.testBit i <;> simp

/-- A register holds the low 32 bits of the number written to it. -/
theorem State.flag_setN (s : State) (a x : Nat) {i : Nat} (hi : i < 32) : (s.setN a x).flag a i = bitAt x i := by
  rw [State.flag, State.reg_setN, BitVec.toNat_ofNat, bitAt_eq_testBit, bitAt_eq_testBit, Nat.testBit_mod_two_pow,
    decide_eq_true hi, Bool.true_and]

/-! ## A write to SYS.EVT_ROUTE (R1026) -/

/-- The mask of a route write leaves bits 4 to 12 to the steward. -/
theorem testBit_routeMask (ini : Nat) {i : Nat} (hi : i < 32) :
    (if ini == iniSteward then 0xFFFF else 0xE00F : Nat).testBit i = true ↔
      i < 16 ∧ ¬ (ini ≠ iniSteward ∧ 4 ≤ i ∧ i ≤ 12) := by
  have hown : ∀ i < 32, (0xFFFF : Nat).testBit i = true ↔ i < 16 := by decide
  have hother : ∀ i < 32, (0xE00F : Nat).testBit i = true ↔ i < 16 ∧ ¬ (4 ≤ i ∧ i ≤ 12) := by decide
  by_cases h : ini = iniSteward
  · simp [h, hown i hi]
  · simp only [beq_iff_eq, h, if_false, hother i hi, ne_eq, not_false_eq_true, true_and]

theorem routeWrite_flag (ini src val : Nat) (s : State) {i : Nat} (hi : i < 32) :
    (routeWrite ini src val s).flag (Reg.sysEvtRoute src) i =
      if i < 16 ∧ ¬ (ini ≠ iniSteward ∧ 4 ≤ i ∧ i ≤ 12) then bitAt val i else s.flag (Reg.sysEvtRoute src) i := by
  rw [routeWrite, State.flag_setN _ _ _ hi, bitAt_mergeBits, State.flag]
  simp only [testBit_routeMask ini hi]

theorem done_routeWrite (ini src val : Nat) (s : State) :
    ∃ t, done s (routeWrite ini src val s.begin_) = .next t ∧ t.regs = (routeWrite ini src val s).regs ∧
      { t with regs := s.regs, out := s.out, phy := s.phy.still t.phy } = s := ⟨_, rfl, rfl, rfl⟩

/-! ## Rows of the register table -/

/-- A distance is the whole copies of a spacing and the rest; a spacing of 0 has one copy and leaves all as the rest. -/
theorem le_copies_add_rest {n s d : Nat} (h : (if s = 0 then 0 else d / s) < n) :
    d ≤ n * s + if s = 0 then d else d % s := by
  by_cases hs : s = 0
  · simp [hs]
  · rw [if_neg hs] at h ⊢
    calc d = d / s * s + d % s := (Nat.div_add_mod' d s).symm
      _ ≤ n * s + d % s := Nat.add_le_add_right (Nat.mul_le_mul_right s h.le) _

/-- A row has no copy above its end. -/
theorem RegInfo.indexOf?_eq_none {r : RegInfo} {a : Nat} (h : r.base + r.n1 * r.s1 + r.n2 * r.s2 < a) :
    r.indexOf? a = none := by
  unfold RegInfo.indexOf?
  rw [if_neg (by omega)]
  dsimp only
  refine if_neg fun hin => ?_
  simp only [Bool.and_eq_true, decide_eq_true_eq, beq_iff_eq] at hin
  obtain ⟨⟨hrest, hi⟩, hj⟩ := hin
  have hfirst := le_copies_add_rest hi
  have hsecond := le_copies_add_rest hj
  omega

/-- The copies of a row with one index lie at its spacing. -/
theorem RegInfo.indexOf?_copy {r : RegInfo} {i : Nat} (hs1 : 0 < r.s1) (hs2 : r.s2 = 0) (hn2 : 0 < r.n2) (hi : i < r.n1) :
    r.indexOf? (r.base + r.s1 * i) = some (i, 0) := by
  simp [RegInfo.indexOf?, hs1.ne', hs2, hn2, hi, Nat.mul_div_cancel_left i hs1]

/-- Rows that end below an address do not hold it. -/
theorem findReg_append {a : Nat} {l t : List RegInfo} (h : ∀ r ∈ l, r.base + r.n1 * r.s1 + r.n2 * r.s2 < a) :
    findReg a (l ++ t) = findReg a t := by
  induction l with
  | nil => rfl
  | cons r l ih =>
    rw [List.cons_append, findReg, RegInfo.indexOf?_eq_none (h r List.mem_cons_self)]
    exact ih fun x hx => h x (List.mem_cons_of_mem r hx)

/-! ## The commands that write SYS.EVT_ROUTE -/

theorem regAt_sysEvtRoute {src : Nat} (hsrc : src < 512) :
    ∃ r, regAt (Reg.sysEvtRoute src) = some (r, src, 0) ∧ r.base = Reg.sysEvtRoute 0 := by
  obtain ⟨r, l, hrow, hbase, hn1, hs1, hn2, hs2⟩ : ∃ r l, regTable.drop 20 = r :: l ∧ r.base = Reg.sysEvtRoute 0 ∧
      r.n1 = 512 ∧ r.s1 = 4 ∧ r.n2 = 1 ∧ r.s2 = 0 := ⟨_, _, rfl, rfl, rfl, rfl, rfl, rfl⟩
  have hbelow : ∀ x ∈ regTable.take 20, x.base + x.n1 * x.s1 + x.n2 * x.s2 < Reg.sysEvtRoute 0 := by decide +kernel
  have hcopy : r.indexOf? (Reg.sysEvtRoute src) = some (src, 0) := by
    have haddr : Reg.sysEvtRoute src = r.base + r.s1 * src := by rw [hbase, hs1]; rfl
    rw [haddr]
    exact RegInfo.indexOf?_copy (by omega) hs2 (by omega) (by omega)
  have hfind : regAt (Reg.sysEvtRoute src) = findReg (Reg.sysEvtRoute src) (regTable.drop 20) := by
    rw [regAt, ← List.take_append_drop 20 regTable]
    exact findReg_append fun x hx => (hbelow x hx).trans_le (Nat.le_add_right _ (4 * src))
  exact ⟨r, by rw [hfind, hrow, findReg, hcopy], hbase⟩

theorem isCommit_sysEvtRoute {src : Nat} (hsrc : src < 512) : isCommit (Reg.sysEvtRoute src) = false :=
  isCommit_of_offset (by rw [Reg.sysEvtRoute]; omega)

/-- The registers of SYS are in PD_AON (log 15). -/
theorem domainOf_sys {a : Nat} (ha : a < 0x2000010000) : domainOf a = 0 := by
  have hblock : (a - 0x2000000000) / 0x10000 = 0 := by omega
  unfold domainOf
  rw [hblock]
  rfl

theorem writeLow_sysEvtRoute (ini : Nat) {r : RegInfo} (i a v : Nat) (s : State) (hb : r.base = Reg.sysEvtRoute 0) :
    writeLow ini r i a v s = { st := routeWrite ini i v s } := by
  unfold writeLow
  rw [hb]
  rfl

theorem busWrite_sysEvtRoute (ini : Nat) {src : Nat} (val : Word) {s : State} (hsrc : src < 512) (hon : s.domOn 0 = true) :
    busWrite ini (Reg.sysEvtRoute src) val s = { st := routeWrite ini src val.toNat s } := by
  obtain ⟨r, hreg, hbase⟩ := regAt_sysEvtRoute hsrc
  have hsys : Reg.sysEvtRoute src < 0x2000010000 := by
    rw [Reg.sysEvtRoute]
    omega
  have halign : (Reg.sysEvtRoute src % 4 == 0) = true := by
    rw [beq_iff_eq, Reg.sysEvtRoute]
    omega
  have hlow : Reg.sysEvtRoute src < Reg.khanCtrl := hsys.trans (by decide)
  simp only [busWrite, halign, if_true, hreg, domainOf_sys hsys, hon, isCommit_sysEvtRoute hsrc, hlow,
    writeLow_sysEvtRoute ini src _ val.toNat s hbase, Bool.not_true, Bool.false_and, Bool.false_eq_true, if_false]

theorem exec_evtRouteWrite (ini : Nat) {src : Nat} (val : Word) (s : State) (hsrc : src < 512) :
    exec (.evtRouteWrite ini src val) s = done s (routeWrite ini src val.toNat s.begin_) := by
  change done s (if src < 512 then routeWrite ini src val.toNat s.begin_ else s.begin_) = _
  rw [if_pos hsrc]

theorem exec_registerWrite_sysEvtRoute (ini : Nat) {src : Nat} (val : Word) {s : State} (hsrc : src < 512)
    (hon : s.domOn 0 = true) :
    exec (.registerWrite ini (Reg.sysEvtRoute src) val) s = done s (routeWrite ini src val.toNat s.begin_) :=
  congrArg (doneBus s) (busWrite_sysEvtRoute (s := s.begin_) ini val hsrc hon)

/-- Settles O14. Both commands end in `routeWrite`, which writes the one register under the mask of R1026. -/
theorem eventRoutesOfCoresAreTheStewards : Obligations.EventRoutesOfCoresAreTheStewards := by
  unfold Obligations.EventRoutesOfCoresAreTheStewards
  intro s ini src val c hsrc hon hc
  have hexec : exec c s = done s (routeWrite ini src val.toNat s.begin_) := by
    rcases hc with rfl | rfl
    · exact exec_evtRouteWrite ini val s hsrc
    · exact exec_registerWrite_sysEvtRoute ini val hsrc hon
  obtain ⟨t, ht, hregs, hrest⟩ := done_routeWrite ini src val.toNat s
  refine ⟨t, hexec.trans ht, fun i hi => ?_, fun i hlow hi => ?_, fun b hb => ?_, hrest⟩
  · rw [flag_congr hregs, routeWrite_flag _ _ _ _ (hi.trans (by norm_num))]
    by_cases hkept : ini ≠ iniSteward ∧ 4 ≤ i ∧ i ≤ 12
    · rw [if_pos hkept, if_neg fun h => h.2 hkept]
    · rw [if_neg hkept, if_pos ⟨hi, hkept⟩]
  · rw [flag_congr hregs, routeWrite_flag _ _ _ _ hi, if_neg fun h => absurd h.1 (Nat.not_lt.2 hlow)]
  · rw [reg_congr hregs]
    exact State.reg_setN_ne _ _ hb

end Sys2Proof.Machine

/-! PROOFS. The step, the empty queue, reset, and what every command may store (O1 to O5).

`exec_ends` gives every command's end as a `finish`; what a command may store follows from the shape of `finish`. -/

namespace Sys2Proof.Machine

-- One theorem after the other: many at once ask for too many threads.
set_option Elab.async false

/-! ## The queue -/

/-- Settles O1. A step takes the front of the queue by definition, and the opcode table spells nothing. -/
theorem stepRunsFrontCommand : Obligations.StepRunsFrontCommand := by
  unfold Obligations.StepRunsFrontCommand
  refine ⟨fun _ _ => rfl, fun s c rest h => ?_, fun _ _ _ => ⟨rfl, rfl⟩⟩
  rw [step, h]

/-! ## One tick of the timebase (R826) -/

/-- LT and its fraction grow by the increment in force. -/
theorem tickLt_value (lt : Pos) (frac : BitVec 24) (incr : Word) :
    (tickLt lt frac incr).1.toNat * 2 ^ 24 + (tickLt lt frac incr).2.toNat =
      (lt.toNat * 2 ^ 24 + frac.toNat + incr.toNat) % 2 ^ 72 := by
  simp only [tickLt, BitVec.toNat_ofNat]
  omega

/-- One tick moves LT forward by at most 256 ns, so a change of LT_HI is a rise. -/
theorem before_tickLt (lt : Pos) (frac : BitVec 24) (incr : Word) (h : lt ≠ (tickLt lt frac incr).1) :
    before 48 lt.toNat (tickLt lt frac incr).1.toNat = true := by
  have hne : lt.toNat ≠ (tickLt lt frac incr).1.toNat := fun e => h (BitVec.eq_of_toNat_eq e)
  have hlt := lt.isLt
  have hfrac := frac.isLt
  have hincr := incr.isLt
  simp only [tickLt, BitVec.toNat_ofNat] at hne ⊢
  simp only [before, Bool.and_eq_true, bne_iff_ne, decide_eq_true_eq]
  omega

theorem ofInt_add_zero {w : Nat} (x : BitVec w) : BitVec.ofInt w ((x.toNat : Int) + 0) = x := by simp

/-- The timebase after one tick without a step. -/
def State.ticked (s : State) : State :=
  { s with tb := { lt := (tickLt s.tb.lt s.tb.frac s.tb.incr).1, frac := (tickLt s.tb.lt s.tb.frac s.tb.incr).2,
                   cycles := s.tb.cycles + 1, incr := s.reg Reg.timeTbIncr } }

/-- The timebase is no part of the registers and the event queues. (For every timebase: the kernel need not compute this one.) -/
theorem State.regs_withTb (s : State) (tb : Timebase) : { s with tb := tb }.regs = s.regs := rfl
theorem State.evq_withTb (s : State) (tb : Timebase) : { s with tb := tb }.evq = s.evq := rfl

theorem tick_zero (s : State) : tick 0 s = wrapEvents s.tb.lt (tickLt s.tb.lt s.tb.frac s.tb.incr).1 s.ticked := by
  simp only [tick, State.ticked, ofInt_add_zero]

theorem wrapEvents_eventOnly (old new : Pos) (s : State) : EventOnly s (wrapEvents old new s) := by
  unfold wrapEvents
  split
  · exact EventOnly.refl s
  · split
    · exact raise_eventOnly 451 s (by norm_num)
    · exact raise_eventOnly 452 s (by norm_num)

theorem wrapEvents_same {old new : Pos} (s : State) (h : new.toNat / 2 ^ 32 = old.toNat / 2 ^ 32) :
    wrapEvents old new s = s := if_pos (beq_iff_eq.2 h.symm)

theorem wrapEvents_rise {old new : Pos} (s : State) (h : new.toNat / 2 ^ 32 ≠ old.toNat / 2 ^ 32)
    (hb : before 48 old.toNat new.toNat = true) : wrapEvents old new s = raise 451 s := by
  rw [wrapEvents, if_neg (fun e => h (beq_iff_eq.1 e).symm), if_pos hb]

theorem EventOnly.tb {s t : State} (h : EventOnly s t) : t.tb = s.tb := by
  obtain ⟨⟨f, q, rfl⟩, -⟩ := h
  rfl

theorem EventOnly.kept {s t : State} (h : EventOnly s t) : RegFile.kept [] s.regs t.regs :=
  kept_of_regsOnly (h.regsOnly _)

theorem tick_zero_eventOnly (s : State) : EventOnly s.ticked (tick 0 s) := tick_zero s ▸ wrapEvents_eventOnly _ _ _

/-- The tick of the empty queue takes the timebase, the registers and the event queues of `tick 0`, and nothing else. -/
theorem idleTick_tb (s : State) : (idleTick s).tb =
    { lt := (tickLt s.tb.lt s.tb.frac s.tb.incr).1, frac := (tickLt s.tb.lt s.tb.frac s.tb.incr).2,
      cycles := s.tb.cycles + 1, incr := s.reg Reg.timeTbIncr } := (tick_zero_eventOnly s).tb
theorem idleTick_lt (s : State) : (idleTick s).tb.lt = (tickLt s.tb.lt s.tb.frac s.tb.incr).1 := by rw [idleTick_tb]
theorem idleTick_frac (s : State) : (idleTick s).tb.frac = (tickLt s.tb.lt s.tb.frac s.tb.incr).2 := by rw [idleTick_tb]
theorem idleTick_regs (s : State) : (idleTick s).regs = (tick 0 s).regs := rfl
theorem idleTick_evq (s : State) : (idleTick s).evq = (tick 0 s).evq := rfl
theorem idleTick_rest (s : State) :
    { idleTick s with tb := s.tb, regs := s.regs, evq := s.evq, out := s.out, phy := s.phy.still (idleTick s).phy } = s := rfl

theorem State.ticked_regs (s : State) : s.ticked.regs = s.regs := State.regs_withTb s _
theorem State.ticked_evq (s : State) : s.ticked.evq = s.evq := State.evq_withTb s _

theorem idleTick_kept (s : State) : RegFile.kept [] s.regs (idleTick s).regs := by
  rw [idleTick_regs, ← State.ticked_regs s]
  exact (tick_zero_eventOnly s).kept

/-- While LT_HI stays, a tick raises nothing (R829). -/
theorem idleTick_quiet {s : State} (h : (tickLt s.tb.lt s.tb.frac s.tb.incr).1.toNat / 2 ^ 32 = s.tb.lt.toNat / 2 ^ 32) :
    (idleTick s).regs = s.regs ∧ (idleTick s).evq = s.evq := by
  rw [idleTick_regs, idleTick_evq, tick_zero, wrapEvents_same _ h]
  exact ⟨State.ticked_regs s, State.ticked_evq s⟩

/-- Settles O2. The tick of the empty queue is `tick 0`; the registers follow from `wrapEvents`, which raises TB_WRAP or does
nothing. -/
theorem emptyQueueTicksTimebase : Obligations.EmptyQueueTicksTimebase := by
  unfold Obligations.EmptyQueueTicksTimebase
  intro s hs
  refine ⟨idleTick s, by rw [step, hs], ?_, ?_, ?_, fun hsame => ?_, fun hrise => ?_, idleTick_rest s, ?_⟩
  · rw [idleTick_lt, idleTick_frac]
    exact tickLt_value _ _ _
  · rw [idleTick_tb]
  · rw [idleTick_tb]
  · rw [idleTick_lt] at hsame
    exact idleTick_quiet hsame
  · rw [idleTick_lt] at hrise
    rw [State.pendingEvent, flag_congr (idleTick_regs s), tick_zero,
      wrapEvents_rise _ hrise (before_tickLt _ _ _ fun e => hrise (by rw [← e]))]
    exact pendingEvent_raise_self 451 _ (by norm_num)
  · exact idleTick_kept s

/-! ## Reset -/

/-- Nothing is driven in the safe state (R713). -/
theorem driven_of_fieldSafe {s : State} (h : s.fieldSafe = true) (ch : Nat) : s.driven ch = false := by
  simp [State.driven, State.canTurnOn, h]

/-- Settles O3. Each value is what `State.reset` holds; an output is not driven because the field die is in the safe state. -/
theorem resetLeavesTheStatedValues : Obligations.ResetLeavesTheStatedValues := by
  unfold Obligations.ResetLeavesTheStatedValues
  exact ⟨rfl, fun _ => rfl, rfl, rfl, by decide +kernel, by decide, by decide, by decide, fun _ => rfl, rfl,
    driven_of_fieldSafe rfl, rfl, rfl, rfl, rfl, rfl, rfl, rfl⟩

/-! ## What a command may store -/

/-- Settles O4. Every command ends by `finish`, whose writes are those that the command's kind may make. -/
theorem everyCommandAnswersAndStoresOnlyWhatItMay : Obligations.EveryCommandAnswersAndStoresOnlyWhatItMay := by
  unfold Obligations.EveryCommandAnswersAndStoresOnlyWhatItMay
  intro c s
  obtain ⟨sc, u, d, f, r, z, hend, hd, hf, hr, ho, ht⟩ := exec_ends c s
  refine ⟨_, hend, rfl, fun h a => ?_, fun h a => ?_, fun h a => ?_, fun h => ?_, fun h => ?_⟩
  · rw [hd h]
    rfl
  · rw [hf h]
    rfl
  · rw [(hr h).1, (hr h).2]
    rfl
  · rw [ho h]
    rfl
  · rw [ht h]
    rfl

/-- The end of a command keeps the memories in canonical form. -/
theorem finish_memOk {sc : Scope} {s u t : State} {d f r : Writes} {z : List (Nat × Nat)}
    (h : finish sc s u d f r z = .next t) (hm : s.memOk = true) : t.memOk = true := by
  cases h
  simp only [State.memOk, Bool.and_eq_true] at hm ⊢
  obtain ⟨⟨hdram, hflash⟩, hsram⟩ := hm
  exact ⟨⟨Memory.wf_applyWrites _ _ _ hdram, Memory.wf_applyWrites _ _ _ hflash⟩,
    Memory.wf_applyWrites _ _ _ (Memory.wf_clears _ _ _ hsram)⟩

theorem Otp.later_refl (a : Otp) : Otp.later a a := ⟨⟨a.revoked, rfl⟩, fun _ h => h⟩

theorem Otp.later_trans {a b c : Otp} (h : Otp.later a b) (g : Otp.later b c) : Otp.later a c := by
  obtain ⟨⟨x, rfl⟩, h2⟩ := h
  obtain ⟨⟨y, rfl⟩, g2⟩ := g
  exact ⟨⟨y, rfl⟩, fun k hk => g2 k (h2 k hk)⟩

/-- One more revoke bit (R970). -/
theorem Otp.later_revoke (a : Otp) (slot : Nat) : Otp.later a { a with revoked := a.revoked.set slot true } := by
  refine ⟨⟨_, rfl⟩, fun k hk => ?_⟩
  rw [List.getD_eq_getElem?_getD] at hk ⊢
  rw [List.getElem?_set]
  split
  · split
    · rfl
    · rename_i hlen
      rw [List.getElem?_eq_none (by omega)] at hk
      exact absurd hk (by simp)
  · exact hk

theorem revokeSlot_later (p : List Byte) (s : State) : Otp.later s.otp (revokeSlot p s).st.otp := by
  unfold revokeSlot
  dsimp only
  split
  · exact Otp.later_refl _
  · split
    · exact Otp.later_refl _
    · exact Otp.later_revoke _ _

theorem sized_later {n : Nat} {f : State → Reply} {p : List Byte} {s : State} (h : Otp.later s.otp (f s).st.otp) :
    Otp.later s.otp (sized n f p s).st.otp := by
  unfold sized
  split
  · exact h
  · exact Otp.later_refl _

theorem respond_otp (q : Request) (status : Nat) (payload : List Byte) (s : State) :
    (respond q status payload s).otp = s.otp := by
  unfold respond sendFrame
  dsimp only
  split <;> rfl

theorem exec_revokeSlot_later {s t : State} (h : exec .revokeSlot s = .next t) : Otp.later s.otp t.otp := by
  rw [exec_revokeSlot, serve] at h
  dsimp only at h
  split at h
  · split at h
    · cases h
      change Otp.later s.otp (respond _ _ _ _).otp
      rw [respond_otp]
      split
      · exact sized_later (revokeSlot_later _ _)
      · exact Otp.later_refl _
    · cases h
      exact Otp.later_refl _
  · cases h
    exact Otp.later_refl _

theorem exec_later {c : Instr} {s t : State} (h : exec c s = .next t) : Otp.later s.otp t.otp := by
  obtain ⟨sc, u, d, f, r, z, hend, -, -, -, ho, -⟩ := exec_ends c s
  by_cases hc : writesOtp c = true
  · cases c with
    | revokeSlot => exact exec_revokeSlot_later h
    | _ => cases hc
  · rw [hend] at h
    cases h
    rw [ho (Bool.eq_false_of_not_eq_true hc)]
    exact Otp.later_refl _

/-- A step is a command's, or a tick of the timebase. -/
theorem step_cases {s t : State} (h : step s = .next t) :
    (∃ c rest, s.pending = c :: rest ∧ exec c { s with pending := rest } = .next t) ∨ (s.pending = [] ∧ t = idleTick s) := by
  unfold step at h
  split at h
  · next c rest hp => exact .inl ⟨c, rest, hp, h⟩
  · next hp =>
    cases h
    exact .inr ⟨hp, rfl⟩

theorem step_later {s t : State} (h : step s = .next t) : Otp.later s.otp t.otp := by
  obtain ⟨c, rest, -, h⟩ | ⟨-, rfl⟩ := step_cases h
  · exact exec_later (s := { s with pending := rest }) h
  · exact Otp.later_refl _

theorem step_memOk {s t : State} (hm : s.memOk = true) (h : step s = .next t) : t.memOk = true := by
  obtain ⟨c, rest, -, h⟩ | ⟨-, rfl⟩ := step_cases h
  · obtain ⟨sc, u, d, f, r, z, hend, -⟩ := exec_ends c { s with pending := rest }
    exact finish_memOk (hend.symm.trans h) hm
  · exact hm

/-- Settles O5. The memories keep their form because every command ends by `finish`; OTP changes by REVOKE_SLOT alone, which
sets one more revoke bit, and `Otp.later` is transitive. -/
theorem everyStepKeepsMemoriesAndOtp : Obligations.EveryStepKeepsMemoriesAndOtp := by
  unfold Obligations.EveryStepKeepsMemoriesAndOtp
  refine ⟨fun s t => step_memOk, fun s t => step_later, fun s t h => ?_⟩
  induction h with
  | refl => exact Otp.later_refl _
  | tail _ hstep ih => exact Otp.later_trans ih (step_later hstep)

end Sys2Proof.Machine

/-! PROOFS. What raising an event does (O7).

`raise` sets the pending bit and offers the event to the 13 core targets one after another. Where no drop counter sets its
overflow flag, each offer touches its own target's queue and drop counter alone. -/

namespace Sys2Proof.Machine

-- One theorem after the other: many at once ask for too many threads.
set_option Elab.async false

/-- The event is offered to core target `t`, as `raiseFuel` does with `fuel` levels of nested overflow events. -/
def offer (fuel src mask : Nat) (s : State) (t : Nat) : State :=
  if bitAt mask t then
    if (pushEvent s src t).2 then raiseFuel fuel (pushEvent s src t).1 473 else (pushEvent s src t).1
  else s

/-- Raising is setting the pending bit and offering the event to every target. -/
theorem raise_eq_offers (src : Nat) (s : State) :
    raise src s = (List.range 13).foldl
      (offer 13 src ((s.setFlag (Reg.sysEvtPend (src / 32)) (src % 32) true).reg (Reg.sysEvtRoute src)).toNat)
      (s.setFlag (Reg.sysEvtPend (src / 32)) (src % 32) true) := rfl

theorem offer_miss {mask t : Nat} (fuel src : Nat) (s : State) (h : bitAt mask t = false) : offer fuel src mask s t = s :=
  if_neg (by simp [h])

/-- A queue with room takes the event (R88). -/
theorem offer_room {mask t : Nat} (fuel src : Nat) {s : State} (h : bitAt mask t = true) (hroom : (s.evq.getD t []).length < 64) :
    offer fuel src mask s t = { s with evq := modAt s.evq t fun q => q ++ [(s.tbNs, src)] } := by
  simp only [offer, pushEvent, h, if_pos hroom, if_true, Bool.false_eq_true, if_false]

/-- A full queue drops it and counts, where that sets no overflow flag (R89). -/
theorem offer_full {mask t : Nat} (fuel src : Nat) {s : State} (h : bitAt mask t = true) (hfull : 64 ≤ (s.evq.getD t []).length)
    (hovf : (satWord 24 (s.reg (Reg.sysEvqDrops t)).toNat).2 = false) :
    offer fuel src mask s t = s.setN (Reg.sysEvqDrops t) (satWord 24 (s.reg (Reg.sysEvqDrops t)).toNat).1 := by
  simp only [offer, pushEvent, h, if_neg (Nat.not_lt.2 hfull), if_true, hovf, Bool.false_eq_true, if_false]

/-- What `u` is after the first `n` targets of `mask` were offered event `src` in `s`, one after another. -/
structure Offered (src mask n : Nat) (s u : State) : Prop where
  /-- Queues with room have taken it. -/
  queues : ∀ t, u.evq.getD t [] =
    if t < n ∧ bitAt mask t = true ∧ (s.evq.getD t []).length < 64 then s.evq.getD t [] ++ [(s.tbNs, src)] else s.evq.getD t []
  /-- Full queues have counted a drop. -/
  drops : ∀ t, u.reg (Reg.sysEvqDrops t) =
    if t < n ∧ bitAt mask t = true ∧ 64 ≤ (s.evq.getD t []).length
    then BitVec.ofNat 32 (satWord 24 (s.reg (Reg.sysEvqDrops t)).toNat).1 else s.reg (Reg.sysEvqDrops t)
  /-- Other registers stay. -/
  regs : ∀ b, (∀ t < 13, b ≠ Reg.sysEvqDrops t) → u.reg b = s.reg b
  /-- The rest stays. -/
  rest : { u with regs := s.regs, evq := s.evq } = s
  /-- There is a queue for every target. -/
  length : u.evq.length = s.evq.length

theorem getD_modAt_same {α : Type} {xs : List α} {i : Nat} (f : α → α) (d : α) (h : i < xs.length) :
    (modAt xs i f).getD i d = f (xs.getD i d) := by
  simp [modAt, List.getD_eq_getElem?_getD, h]

theorem getD_modAt_ne {α : Type} (xs : List α) {i k : Nat} (f : α → α) (d : α) (h : k ≠ i) :
    (modAt xs i f).getD k d = xs.getD k d := by
  simp [modAt, List.getD_eq_getElem?_getD, h.symm]

theorem sysEvqDrops_inj {i j : Nat} : Reg.sysEvqDrops i = Reg.sysEvqDrops j ↔ i = j := by
  unfold Reg.sysEvqDrops
  omega

theorem Offered.zero (src mask : Nat) (s : State) : Offered src mask 0 s s :=
  ⟨fun _ => by simp, fun _ => by simp, fun _ _ => rfl, rfl, rfl⟩

/-- Of a target other than `n`, the first `n` and the first `n + 1` say the same. -/
theorem ite_lt_succ_of_ne {α : Type} {n t : Nat} {p : Prop} [Decidable p] (a b : α) (h : t ≠ n) :
    (if t < n + 1 ∧ p then a else b) = if t < n ∧ p then a else b :=
  if_congr (and_congr_left' (by omega)) rfl rfl

/-- The next target is offered the event. -/
theorem Offered.succ {src mask n : Nat} {s u : State} (fuel : Nat) (h : Offered src mask n s u) (hn : n < 13)
    (hlen : s.evq.length = 13)
    (hovf : bitAt mask n = true → 64 ≤ (s.evq.getD n []).length → (satWord 24 (s.reg (Reg.sysEvqDrops n)).toNat).2 = false) :
    Offered src mask (n + 1) s (offer fuel src mask u n) := by
  have hq : u.evq.getD n [] = s.evq.getD n [] := by rw [h.queues, if_neg (by simp)]
  have hd : u.reg (Reg.sysEvqDrops n) = s.reg (Reg.sysEvqDrops n) := by rw [h.drops, if_neg (by simp)]
  have htime : u.tbNs = s.tbNs := by rw [← h.rest]; rfl
  by_cases hbit : bitAt mask n = true
  · by_cases hroom : (s.evq.getD n []).length < 64
    · rw [offer_room fuel src hbit (hq ▸ hroom)]
      refine ⟨fun t => ?_, fun t => ?_, h.regs, h.rest, (List.length_modify _ _ _).trans h.length⟩
      · by_cases ht : t = n
        · subst ht
          rw [if_pos ⟨Nat.lt_succ_self t, hbit, hroom⟩, ← hq, ← htime]
          exact getD_modAt_same _ _ (by rw [h.length, hlen]; exact hn)
        · rw [ite_lt_succ_of_ne _ _ ht, ← h.queues]
          exact getD_modAt_ne _ _ _ ht
      · by_cases ht : t = n
        · subst ht
          rw [if_neg (by omega)]
          exact hd
        · rw [ite_lt_succ_of_ne _ _ ht]
          exact h.drops t
    · have hfull := Nat.not_lt.1 hroom
      rw [offer_full fuel src hbit (hq ▸ hfull) (by rw [hd]; exact hovf hbit hfull), hd]
      refine ⟨fun t => ?_, fun t => ?_, fun b hb => ?_, h.rest, h.length⟩
      · by_cases ht : t = n
        · subst ht
          rw [if_neg (by omega)]
          exact hq
        · rw [ite_lt_succ_of_ne _ _ ht]
          exact h.queues t
      · by_cases ht : t = n
        · subst ht
          rw [if_pos ⟨Nat.lt_succ_self t, hbit, hfull⟩, State.reg_setN]
        · rw [ite_lt_succ_of_ne _ _ ht, State.reg_setN_ne _ _ (fun e => ht (sysEvqDrops_inj.1 e)), h.drops]
      · rw [State.reg_setN_ne _ _ (hb n hn), h.regs b hb]
  · rw [offer_miss fuel src u (Bool.eq_false_of_not_eq_true hbit)]
    refine ⟨fun t => ?_, fun t => ?_, h.regs, h.rest, h.length⟩
    · by_cases ht : t = n
      · subst ht
        rw [if_neg fun e => hbit e.2.1, hq]
      · rw [ite_lt_succ_of_ne _ _ ht, h.queues]
    · by_cases ht : t = n
      · subst ht
        rw [if_neg fun e => hbit e.2.1, hd]
      · rw [ite_lt_succ_of_ne _ _ ht, h.drops]

theorem offered_range {src mask : Nat} {s : State} (fuel : Nat) (hlen : s.evq.length = 13)
    (hovf : ∀ t < 13, bitAt mask t = true → 64 ≤ (s.evq.getD t []).length →
      (satWord 24 (s.reg (Reg.sysEvqDrops t)).toNat).2 = false) :
    ∀ n ≤ 13, Offered src mask n s ((List.range n).foldl (offer fuel src mask) s)
  | 0, _ => Offered.zero src mask s
  | n + 1, hn => by
    rw [List.range_succ, List.foldl_append]
    exact (offered_range fuel hlen hovf n (by omega)).succ fuel hn hlen (hovf n hn)

/-- Settles O7. The pending bit is in no register that routes or counts, so the offers see the mask and the counters of `s`. -/
theorem raisedEventReachesItsTargets : Obligations.RaisedEventReachesItsTargets := by
  unfold Obligations.RaisedEventReachesItsTargets
  intro s src hsrc hlen hovf u hit
  have hmask : (s.setFlag (Reg.sysEvtPend (src / 32)) (src % 32) true).reg (Reg.sysEvtRoute src) = s.reg (Reg.sysEvtRoute src) :=
    State.reg_setFlag_ne _ _ _ (by unfold Reg.sysEvtRoute Reg.sysEvtPend; omega)
  have hdrop : ∀ t, (s.setFlag (Reg.sysEvtPend (src / 32)) (src % 32) true).reg (Reg.sysEvqDrops t) = s.reg (Reg.sysEvqDrops t) :=
    fun t => State.reg_setFlag_ne _ _ _ (by unfold Reg.sysEvqDrops Reg.sysEvtPend; omega)
  have hu : u = (List.range 13).foldl (offer 13 src (s.reg (Reg.sysEvtRoute src)).toNat)
      (s.setFlag (Reg.sysEvtPend (src / 32)) (src % 32) true) := by
    rw [← hmask]
    exact raise_eq_offers src s
  have h : Offered src (s.reg (Reg.sysEvtRoute src)).toNat 13 (s.setFlag (Reg.sysEvtPend (src / 32)) (src % 32) true) u :=
    by
    rw [hu]
    refine offered_range (s := s.setFlag (Reg.sysEvtPend (src / 32)) (src % 32) true) 13 hlen (fun t ht hbit hfull => by rw [hdrop]; exact hovf t ht hbit hfull) 13 le_rfl
  refine ⟨?_, fun t ht => ?_, fun t ht => ?_, fun b hpend hb => ?_, ?_⟩
  · rw [h.regs _ fun t ht => evtPend_ne_evqDrops _ _ (by omega) ht]
    exact State.reg_setReg _ _ _
  · rw [h.queues t]
    simp only [ht, true_and]
    rfl
  · rw [h.drops t, hdrop]
    simp only [ht, true_and]
    rfl
  · rw [h.regs b hb, State.reg_setFlag_ne _ _ _ hpend]
  · exact congrArg (fun v : State => { v with regs := s.regs }) h.rest

end Sys2Proof.Machine

/-! PROOFS. Reads that latch other words for their initiator (O11).

Each command ends in one shared read; the snapshot of the reading initiator is the one that `setSnap` changes. -/

namespace Sys2Proof.Machine

-- One theorem after the other: many at once ask for too many threads.
set_option Elab.async false

theorem snap_setSnap_same {s : State} {ini : Nat} (f : Snap → Snap) (h : ini < s.snaps.length) :
    (s.setSnap ini f).snap ini = f (s.snap ini) := getD_modAt_same f Snap.none h

theorem snap_setSnap_ne (s : State) {ini k : Nat} (f : Snap → Snap) (h : k ≠ ini) : (s.setSnap ini f).snap k = s.snap k :=
  getD_modAt_ne s.snaps f Snap.none h

/-- A read that latches words of the reading initiator's snapshot and changes nothing else. -/
theorem doneRead_setSnap {s : State} {ini : Nat} (w : Word) (f : Snap → Snap) (h : ini < s.snaps.length) :
    ∃ t, doneRead s (w, s.begin_.setSnap ini f) = .next t ∧ t.rdata = w ∧ t.snap ini = f (s.snap ini) ∧
      (∀ k, k ≠ ini → t.snap k = s.snap k) ∧
      { t with rdata := s.rdata, snaps := s.snaps, out := s.out, phy := s.phy.still t.phy } = s :=
  ⟨_, rfl, rfl, snap_setSnap_same (s := s.begin_) f h, fun _ hk => snap_setSnap_ne s.begin_ f hk, rfl⟩

/-! ## The commands -/

/-- What a register shows does not depend on the traffic of the last command. -/
theorem viewAt_begin (s : State) (w : Word) (a : Nat) : s.begin_.viewAt w a = s.viewAt w a := rfl

/-- A read of a wide counter's low word has no other effect than latching the high word (R75). -/
theorem regRead_wideLow (ini : Nat) {r : RegInfo} (i j a : Nat) (s : State) (h : r.base ∈ wideLows) :
    regRead ini r i j a s = wideRead ini a s := by
  have hlow : ∀ b ∈ wideLows, b ≠ Reg.sysSportData ∧ b ≠ Reg.uartData 0 ∧ b ≠ Reg.i2cRx 0 ∧ b ≠ Reg.sysEvqHi 0 ∧
      b ≠ Reg.mboxDataHi 0 ∧ b ≠ Reg.ethPtpTsLo 0 0 ∧ b ≠ Reg.ethPtpTsHi 0 0 ∧ b ≠ Reg.ethPtpTsId 0 0 ∧
      b ≠ Reg.mileEntBale 0 ∧ ¬ (Reg.mileEntDeadLo 0 ≤ b ∧ b ≤ Reg.mileEntCtl 0) ∧ b ≠ Reg.faultLogW0 0 ∧
      ¬ (Reg.faultLogW1 0 ≤ b ∧ b ≤ Reg.faultLogW3 0) := by decide
  obtain ⟨h1, h2, h3, h4, h5, h6, h7, h8, h9, h10, h11, h12⟩ := hlow r.base h
  simp only [regRead, beq_iff_eq, Bool.and_eq_true, decide_eq_true_eq, h1, h2, h3, h4, h5, h6, h7, h8, h9, h10, h11, h12, if_false,
    List.contains_iff_mem, h, if_true]

/-- The register region lies outside DRAM, tile SRAM and flash (R1014). -/
theorem busRead_register (ini : Nat) {a i j : Nat} {r : RegInfo} {s : State} (hlo : 0x2000000000 ≤ a) (hhi : a < 0x3000000000)
    (halign : a % 4 = 0) (hreg : regAt a = some (r, i, j)) (hon : s.domOn (domainOf a) = true) :
    busRead ini a s = regRead ini r i j a s := by
  have hdram : ¬ a + 4 ≤ dramEnd := by unfold dramEnd; omega
  have hsram : ¬ a + 4 ≤ sramBase + sramLen := by unfold sramBase sramLen; omega
  have hflash : ¬ flashBase ≤ a := by unfold flashBase; omega
  simp only [busRead, hdram, hsram, hflash, decide_false, Bool.false_and, Bool.and_false, Bool.false_eq_true, if_false, halign,
    beq_self_eq_true, if_true, hreg, hon]

theorem exec_wideLowRead (ini : Nat) {a i j : Nat} {r : RegInfo} {s : State} (hlo : 0x2000000000 ≤ a) (hhi : a < 0x3000000000)
    (halign : a % 4 = 0) (hreg : regAt a = some (r, i, j)) (hbase : r.base ∈ wideLows) (hon : s.domOn (domainOf a) = true) :
    exec (.wideLowRead ini a) s = doneRead s (wideRead ini a s.begin_) := by
  change doneRead s (busRead ini a s.begin_) = _
  rw [busRead_register (s := s.begin_) ini hlo hhi halign hreg hon, regRead_wideLow ini i j a _ hbase]

theorem exec_mileEntryRead (ini : Nat) {e : Nat} {s : State} (he : e < 4096) (hon : s.domOn domVerdict = true) :
    exec (.mileEntryRead ini e) s = doneRead s (entryRead ini e s.begin_) := by
  have hon' : s.begin_.domOn domVerdict = true := hon
  change doneRead s (if s.begin_.domOn domVerdict && e < 4096 then entryRead ini e s.begin_ else (0, s.begin_)) = _
  rw [hon', decide_eq_true he, Bool.and_self, if_pos rfl]

theorem entryWords_some {s : State} {e : Nat} {m : Mile} (h : s.mile? e = some m) :
    s.entryWords e = [m.bale % 2 ^ 32, m.pDead % 2 ^ 32, m.pulse % 2 ^ 16 * 2 ^ 16 + m.pDead / 2 ^ 32 % 2 ^ 16,
      m.pFire.getD 0 % 2 ^ 32, (m.outcome.getD 0xFF) % 256 * 2 ^ 16 + m.pFire.getD 0 / 2 ^ 32 % 2 ^ 16,
      m.stn % 16 * 2 ^ 28 + m.st % 8 * 2 ^ 24 + b2n m.remote * 2 ^ 23 + b2n m.defaulted * 2 ^ 22 + b2n m.late * 2 ^ 21 +
        m.link % 16 * 2 ^ 16 + m.ch % 64 * 2 ^ 8 + m.rch % 256] := by
  rw [State.entryWords, h]

theorem toNat_word {n : Nat} (h : n < 2 ^ 32) : (word n).toNat = n := by
  rw [word, BitVec.toNat_ofNat, Nat.mod_eq_of_lt h]

theorem b2n_le_one (b : Bool) : b2n b ≤ 1 := by cases b <;> decide

/-- The words of an entry fit in registers. -/
theorem map_word_entry (m : Mile) :
    [word (m.pDead % 2 ^ 32), word (m.pulse % 2 ^ 16 * 2 ^ 16 + m.pDead / 2 ^ 32 % 2 ^ 16), word (m.pFire.getD 0 % 2 ^ 32),
      word (m.outcome.getD 0xFF % 256 * 2 ^ 16 + m.pFire.getD 0 / 2 ^ 32 % 2 ^ 16),
      word (m.stn % 16 * 2 ^ 28 + m.st % 8 * 2 ^ 24 + b2n m.remote * 2 ^ 23 + b2n m.defaulted * 2 ^ 22 + b2n m.late * 2 ^ 21 +
        m.link % 16 * 2 ^ 16 + m.ch % 64 * 2 ^ 8 + m.rch % 256)].map BitVec.toNat =
    [m.pDead % 2 ^ 32, m.pulse % 2 ^ 16 * 2 ^ 16 + m.pDead / 2 ^ 32 % 2 ^ 16, m.pFire.getD 0 % 2 ^ 32,
      m.outcome.getD 0xFF % 256 * 2 ^ 16 + m.pFire.getD 0 / 2 ^ 32 % 2 ^ 16,
      m.stn % 16 * 2 ^ 28 + m.st % 8 * 2 ^ 24 + b2n m.remote * 2 ^ 23 + b2n m.defaulted * 2 ^ 22 + b2n m.late * 2 ^ 21 +
        m.link % 16 * 2 ^ 16 + m.ch % 64 * 2 ^ 8 + m.rch % 256] := by
  have hr := b2n_le_one m.remote
  have hd := b2n_le_one m.defaulted
  have hl := b2n_le_one m.late
  simp only [List.map_cons, List.map_nil]
  rw [toNat_word (by omega), toNat_word (by omega), toNat_word (by omega), toNat_word (by omega), toNat_word (by omega)]

theorem exec_faultEntryRead (ini : Nat) {i : Nat} (s : State) (hi : i < 64) :
    exec (.faultEntryRead ini i) s = doneRead s (faultRead ini i s.begin_) := by
  change doneRead s (if i < 64 then faultRead ini i s.begin_ else (0, s.begin_)) = _
  rw [if_pos hi]

theorem exec_ptpTsLoRead (ini : Nat) {port dir : Nat} (s : State) (hport : port < 2) (hdir : dir < 2) :
    exec (.ptpTsLoRead ini port dir) s = doneRead s (ptpRead ini port dir s.begin_) := by
  change doneRead s (if port < 2 && dir < 2 then ptpRead ini port dir s.begin_ else (0, s.begin_)) = _
  rw [decide_eq_true hport, decide_eq_true hdir, Bool.and_self, if_pos rfl]

theorem exec_ptpTsIdRead (ini : Nat) {port dir : Nat} (s : State) (hport : port < 2) (hdir : dir < 2) :
    exec (.ptpTsIdRead ini port dir) s = doneRead s (ptpIdRead ini port dir s.begin_) := by
  change doneRead s (if port < 2 && dir < 2 then ptpIdRead ini port dir s.begin_ else (0, s.begin_)) = _
  rw [decide_eq_true hport, decide_eq_true hdir, Bool.and_self, if_pos rfl]

theorem ptpRead_cons (ini : Nat) {port dir : Nat} {s : State} {e : PtpEntry} {q : List PtpEntry} (h : s.ptpFifo port dir = e :: q) :
    ptpRead ini port dir s = (word (e.lt.toNat % 2 ^ 32), s.setSnap ini fun p =>
      { p with ptp := [word (e.lt.toNat / 2 ^ 32), word (e.seq % 2 ^ 16 * 2 ^ 16 + e.domain % 256 * 2 ^ 8 + e.msg % 16)] }) := by
  rw [ptpRead, h, List.head?_cons]

/-- Settles O11. Each read changes the snapshot of its own initiator by `setSnap`; the words fit in registers. -/
theorem readsLatchForTheReadingInitiator : Obligations.ReadsLatchForTheReadingInitiator := by
  unfold Obligations.ReadsLatchForTheReadingInitiator
  refine ⟨fun s ini a r i j hini hlo hhi halign hreg hbase hon => ?_, fun s ini e m hini he hon hm => ?_,
    fun s ini i hini hi => ?_, fun s ini port dir e q hini hport hdir hq => ?_, fun s ini port dir hport hdir => ?_⟩
  · rw [exec_wideLowRead ini hlo hhi halign hreg hbase hon]
    obtain ⟨t, ht, hdata, hsnap, hrest⟩ :=
      doneRead_setSnap (word (s.viewAt 0 a)) (fun p => { p with wide := word (s.viewAt 0 (a + 4)) }) hini
    exact ⟨t, ht, hdata, congrArg Snap.wide hsnap, hrest⟩
  · rw [exec_mileEntryRead ini he hon, entryRead, entryWords_some (s := s.begin_) hm]
    obtain ⟨t, ht, hdata, hsnap, hrest⟩ := doneRead_setSnap (word (m.bale % 2 ^ 32)) _ hini
    refine ⟨t, ht, ?_, (congrArg (fun p => p.mile.map BitVec.toNat) hsnap).trans (map_word_entry m), hrest⟩
    rw [hdata, toNat_word (Nat.mod_lt _ (by norm_num))]
  · rw [exec_faultEntryRead ini s hi]
    obtain ⟨t, ht, hdata, hsnap, hrest⟩ := doneRead_setSnap (s.reg (Reg.faultLogW0 i)) (fun p =>
      { p with fault := [s.reg (Reg.faultLogW1 i), s.reg (Reg.faultLogW2 i), s.reg (Reg.faultLogW3 i)] }) hini
    exact ⟨t, ht, hdata, congrArg Snap.fault hsnap, hrest⟩
  · rw [exec_ptpTsLoRead ini s hport hdir, ptpRead_cons (s := s.begin_) ini hq]
    obtain ⟨t, ht, hdata, hsnap, hrest⟩ := doneRead_setSnap (word (e.lt.toNat % 2 ^ 32)) _ hini
    have hlt := e.lt.isLt
    refine ⟨t, ht, ?_, (congrArg (fun p => p.ptp.map BitVec.toNat) hsnap).trans ?_, hrest⟩
    · rw [hdata, toNat_word (Nat.mod_lt _ (by norm_num))]
    · simp only [List.map_cons, List.map_nil]
      rw [toNat_word (by omega), toNat_word (by omega)]
  · rw [exec_ptpTsIdRead ini s hport hdir]
    exact ⟨_, rfl, rfl, rfl, rfl⟩

end Sys2Proof.Machine

/-! PROOFS. Stores of an application core (O13).

`store` has three ends for a core: the store is blocked, takes place, or is ignored. A blocked store is one entry of the fault
log, behind the count and the event of the station whose memory it touched. -/

namespace Sys2Proof.Machine

-- One theorem after the other: many at once ask for too many threads.
set_option Elab.async false

/-! ## How a write through the bus ends -/

/-- A write that has changed registers of `A` alone. -/
theorem doneBus_onlyRegs {A : List Nat} {s u : State} (h : RegsOnly (· ∈ A) s.begin_ u) :
    ∃ t, doneBus s { st := u } = .next t ∧ t.regs = u.regs ∧ State.onlyRegs A s t ∧ State.storesNothing s t := by
  have hkept := kept_of_regsOnly h
  obtain ⟨⟨f, q, rfl⟩, -⟩ := h
  exact ⟨_, rfl, rfl, ⟨rfl, hkept⟩, fun _ => rfl, fun _ => rfl, fun _ => rfl, rfl, rfl⟩

/-! ## A blocked store (R1022, R1023) -/

/-- The entry that a blocked store logs. -/
def blockedRec (ini : Nat) (o : Option Nat) : FaultRec := { action := 0, stn := o, code := 0x14, unit := 5, index := ini }

/-- A blocked store counts for the station, if there is one. -/
def countIso (o : Option Nat) (s : State) : State :=
  match o with
  | some n => raise (evStn n 11) (bump (Reg.khanStnIso n) s)
  | none => s

theorem blockedWrite_eq (ini : Nat) (o : Option Nat) (s : State) :
    blockedWrite ini o s = logFault (blockedRec ini o) (countIso o s) := by
  cases o <;> rfl

/-- The counter of a blocked store. -/
def isoRegs (o : Option Nat) : List Nat := match o with | some n => [Reg.khanStnIso n] | none => []

theorem evStn_lt {n k : Nat} (hn : n < 16) (hk : k < 16) : evStn n k < 512 := by
  unfold evStn
  omega

theorem countIso_regsOnly {o : Option Nat} (s : State) (ho : ∀ n, o = some n → n < 16) :
    RegsOnly (· ∈ isoRegs o) s (countIso o s) := by
  cases o with
  | none => exact RegsOnly.refl _ s
  | some n =>
    exact ((RegsOnly.refl _ s).bump (List.mem_singleton_self _)).raise _ (evStn_lt (ho n rfl) (by norm_num))

theorem not_eventReg_khanStnIso (n : Nat) : ¬ eventReg (Reg.khanStnIso n) :=
  not_eventReg (.inr (by unfold Reg.khanStnIso; omega))

theorem blockedWrite_regsOnly {ini : Nat} {o : Option Nat} (s : State) (ho : ∀ n, o = some n → n < 16) :
    RegsOnly (· ∈ faultRegs ++ isoRegs o) s (blockedWrite ini o s) := by
  rw [blockedWrite_eq]
  exact ((countIso_regsOnly s ho).mono fun b hb => List.mem_append_right _ hb).logFault _ fun a ha =>
    List.mem_append_left _ (mem_faultRegs ha)

theorem countIso_head {o : Option Nat} (s : State) (ho : ∀ n, o = some n → n < 16) :
    (countIso o s).fget Reg.faultHead 5 0 = s.fget Reg.faultHead 5 0 := by
  have hnot : Reg.faultHead ∉ isoRegs o := by
    cases o with
    | none => exact List.not_mem_nil
    | some n =>
      have := ho n rfl
      simp only [isoRegs, List.mem_singleton, Reg.faultHead, Reg.khanStnIso]
      omega
  rw [State.fget, (countIso_regsOnly s ho).2 _ hnot (not_eventReg (.inr (by decide))), State.fget]

/-- What a blocked store leaves in the fault log and in the station's counter. -/
theorem blockedWrite_logs {ini : Nat} {o : Option Nat} (s : State) (hini : ini < 4) (ho : ∀ n, o = some n → n < 16) :
    let i := s.fget Reg.faultHead 5 0
    let u := blockedWrite ini o s
    (u.reg (Reg.faultLogW1 i)).toNat / 2 ^ 16 % 256 = 0x14 ∧ (u.reg (Reg.faultLogW2 i)).toNat % 2 ^ 16 = ini * 256 + 5 ∧
      u.reg (Reg.faultLogW3 i) = 0 ∧ u.pendingEvent 454 = true ∧
      ∀ n, o = some n → u.pendingEvent (evStn n 11) = true ∧
        u.reg (Reg.khanStnIso n) = BitVec.ofNat 32 (satWord 24 (s.reg (Reg.khanStnIso n)).toNat).1 := by
  intro i u
  have hu : u = logFault (blockedRec ini o) (countIso o s) := blockedWrite_eq ini o s
  obtain ⟨-, hw1, hw2, hw3, hpend⟩ := logFault_words (blockedRec ini o) (countIso o s)
  rw [countIso_head s ho, ← hu] at hw1 hw2 hw3
  rw [← hu] at hpend
  have hcode : u.fget (Reg.faultLogW1 i) 23 16 = 0x14 := by
    rw [State.fget, hw1, BitVec.toNat_ofNat, (faultWord1_fields _ _).2.2.2]
    rfl
  refine ⟨hcode, ?_, hw3, hpend, fun n hn => ?_⟩
  · rw [hw2, BitVec.toNat_ofNat]
    simp only [blockedRec]
    omega
  · subst hn
    have hn16 := ho n rfl
    rw [hu]
    refine ⟨pendingEvent_logFault _ _ (evStn_lt hn16 (by norm_num)) (pendingEvent_raise_self _ _ (evStn_lt hn16 (by norm_num))), ?_⟩
    rw [logFault_reg_ne _ _ (.inl (by unfold Reg.khanStnIso; omega)) (not_eventReg_khanStnIso n), countIso,
      raise_reg _ _ (evStn_lt hn16 (by norm_num)) (not_eventReg_khanStnIso n), bump_reg _ (not_eventReg_khanStnIso n)]

/-! ## The three ends of a core's store -/

theorem isCore_of_lt {core : Nat} (h : core < 4) : isCore core = true := decide_eq_true h

theorem store_dram_protected {core a n : Nat} {bs : List Byte} {s : State} (hcore : core < 4) (ha : a + bs.length ≤ dramEnd)
    (hprot : s.protectedBy a bs.length = some n) : store core a bs s = { st := blockedWrite core (some n) s } := by
  simp only [store, ha, show core < 13 by omega, decide_true, Bool.and_self, if_true, isCore_of_lt hcore, hprot]

theorem store_dram {core a : Nat} {bs : List Byte} {s : State} (hcore : core < 4) (ha : a + bs.length ≤ dramEnd)
    (hprot : s.protectedBy a bs.length = none) : store core a bs s = { st := s, dram := [(a, bs)] } := by
  simp only [store, ha, show core < 13 by omega, decide_true, Bool.and_self, if_true, isCore_of_lt hcore, hprot,
    State.droverBlocked, decide_eq_false (show ¬ 4 ≤ core by omega), Bool.false_and, Bool.false_eq_true, if_false]

/-- Tile SRAM lies above DRAM. -/
theorem not_dram_of_sram {a n : Nat} (h : sramBase ≤ a) : ¬ a + n ≤ dramEnd := by
  unfold sramBase at h
  unfold dramEnd
  omega

theorem store_sram {core a : Nat} (bs : List Byte) (s : State) (hcore : core < 4) (hlo : sramBase ≤ a) (hhi : a < sramBase + sramLen)
    (hheld : (a - sramBase) % 0x200000 < 0x1A0000) :
    store core a bs s = { st := blockedWrite core (s.tile ((a - sramBase) / 0x200000)).owner s } := by
  simp only [store, not_dram_of_sram hlo, hlo, hhi, Nat.not_le.2 hheld, decide_true, decide_false, Bool.false_and, Bool.and_false,
    Bool.and_self, Bool.false_eq_true, if_false, isCore_of_lt hcore, if_true]

theorem store_reserved {core a : Nat} (bs : List Byte) (s : State) (hcore : core < 4) (hlo : sramBase ≤ a)
    (hhi : a < sramBase + sramLen) (hres : 0x1A0000 ≤ (a - sramBase) % 0x200000) : store core a bs s = { st := s } := by
  simp only [store, not_dram_of_sram hlo, hlo, hhi, hres, show core < 13 by omega, decide_true, decide_false, Bool.false_and,
    Bool.and_self, Bool.false_eq_true, if_false, if_true]

/-- A blocked store of a core. -/
theorem store_blocked {core addr : Nat} {data : List Byte} {o : Option Nat} {s : State} (hcore : core < 4)
    (h : addr + data.length ≤ dramEnd ∧ o.isSome = true ∧ s.protectedBy addr data.length = o ∨
      sramBase ≤ addr ∧ addr < sramBase + sramLen ∧ (addr - sramBase) % 0x200000 < 0x1A0000 ∧
        o = (s.tile ((addr - sramBase) / 0x200000)).owner) :
    store core addr data s = { st := blockedWrite core o s } := by
  rcases h with ⟨hdram, hsome, hprot⟩ | ⟨hlo, hhi, hheld, rfl⟩
  · obtain ⟨n, rfl⟩ := Option.isSome_iff_exists.1 hsome
    exact store_dram_protected hcore hdram hprot
  · exact store_sram data s hcore hlo hhi hheld

theorem exec_coreBlockedWrite (core addr : Nat) (data : List Byte) (s : State) :
    exec (.coreBlockedWrite core addr data) s = doneBus s (store core addr data s.begin_) := rfl

theorem memOk_dram {s : State} (h : s.memOk = true) : Memory.wf dramByte s.dram = true := by
  simp only [State.memOk, Bool.and_eq_true] at h
  exact h.1.1

/-- Settles O13. Each clause names the end of `store` that its hypotheses select. -/
theorem coreStoresAreProtected : Obligations.CoreStoresAreProtected := by
  unfold Obligations.CoreStoresAreProtected
  refine ⟨fun s core addr data o hcore hwhere ho => ?_, fun s core addr data hcore ha hmem hprot => ?_,
    fun s core addr data hcore hlo hhi hres => ?_⟩
  · intro i
    rw [exec_coreBlockedWrite, store_blocked (s := s.begin_) hcore hwhere]
    obtain ⟨t, ht, hregs, honly, hstores⟩ := doneBus_onlyRegs (blockedWrite_regsOnly (ini := core) s.begin_ ho)
    obtain ⟨hcode, hunit, hbale, hpend, hiso⟩ := blockedWrite_logs s.begin_ hcore ho
    refine ⟨t, ht, hstores, ?_, ?_, ?_, ?_, fun n hn => ?_, honly⟩
    · rw [reg_congr hregs]
      exact hcode
    · rw [reg_congr hregs]
      exact hunit
    · rw [reg_congr hregs]
      exact hbale
    · rw [State.pendingEvent, flag_congr hregs]
      exact hpend
    · rw [State.pendingEvent, flag_congr hregs, reg_congr hregs]
      exact hiso n hn
  · rw [exec_coreBlockedWrite, store_dram (s := s.begin_) hcore ha hprot]
    exact ⟨_, rfl, fun a => Memory.read_writes _ _ _ _ _ (memOk_dram hmem), rfl⟩
  · rw [exec_coreBlockedWrite, store_reserved data s.begin_ hcore hlo hhi hres]
    exact ⟨_, rfl, rfl⟩

end Sys2Proof.Machine

/-! PROOFS. Register writes follow the access codes (O15).

`writeFields` is the one operation behind every write to a field. Each clause names the row of the register table, the masks
of its access codes, and which branch of `writeFields` they select. -/

namespace Sys2Proof.Machine

-- One theorem after the other: many at once ask for too many threads.
set_option Elab.async false

/-! ## Masked words -/

theorem testBit_mergeBits (mask cur val i : Nat) :
    (mergeBits mask cur val).testBit i = if mask.testBit i then val.testBit i else cur.testBit i := by
  rw [← bitAt_eq_testBit, bitAt_mergeBits, bitAt_eq_testBit, bitAt_eq_testBit]

/-- The low bits come from the written word where the mask covers them. -/
theorem mergeBits_mod {mask n : Nat} (cur val : Nat) (h : ∀ i < n, mask.testBit i = true) :
    mergeBits mask cur val % 2 ^ n = val % 2 ^ n := by
  refine Nat.eq_of_testBit_eq fun i => ?_
  rw [Nat.testBit_mod_two_pow, Nat.testBit_mod_two_pow, testBit_mergeBits]
  by_cases hi : i < n
  · rw [h i hi, if_pos rfl]
  · simp [hi]

/-- A word under a mask whose bits the written word agrees with stays. -/
theorem mergeBits_eq_self {mask cur val : Nat} (h : ∀ i, mask.testBit i = true → val.testBit i = cur.testBit i) :
    mergeBits mask cur val = cur := by
  refine Nat.eq_of_testBit_eq fun i => ?_
  rw [testBit_mergeBits]
  split
  · exact h i ‹_›
  · rfl

theorem mergeBits_zero (cur val : Nat) : mergeBits 0 cur val = cur := mergeBits_eq_self (by simp)

theorem testBit_mask16 : ∀ i < 16, (0xFFFF : Nat).testBit i = true := by decide
theorem testBit_mask2 : ∀ i < 2, (3 : Nat).testBit i = true := by decide

/-- The low field of a register after a masked write. -/
theorem fget_setN_low (s : State) (a x : Nat) {n : Nat} (hn : n < 32) : (s.setN a x).fget a n 0 = x % 2 ^ (n + 1) := by
  rw [State.fget, State.reg_setN, BitVec.toNat_ofNat, fld, pow_zero, Nat.div_one, Nat.sub_zero]
  exact Nat.mod_mod_of_dvd x (Nat.pow_dvd_pow 2 (by omega))

/-- A register that is written with its own word stays. -/
theorem reg_setN_self (s : State) (a b : Nat) : (s.setN a (s.reg a).toNat).reg b = s.reg b := by
  by_cases h : b = a
  · rw [h, State.reg_setN, BitVec.ofNat_toNat, BitVec.setWidth_eq]
  · exact State.reg_setN_ne _ _ h

/-! ## Rows -/

/-- GPIO.OUT. -/
def gpioOutRow : RegInfo := ⟨"GPIO.OUT", 0x2000060404, 1, 0, 1, 0, .device, [⟨15, 0, "OUT", .rw, 0⟩]⟩
/-- MILE.STN_POLICY. -/
def stnPolicyRow : RegInfo :=
  ⟨"MILE.STN_POLICY", 0x2000710104, 16, 64, 1, 0, .station, [⟨1, 1, "REV_STOP", .rf, 0⟩, ⟨0, 0, "RB_STOP", .rf, 0⟩]⟩
/-- MILE.REMOTE_CFG. -/
def remoteCfgRow : RegInfo := ⟨"MILE.REMOTE_CFG", 0x2000710000, 1, 0, 1, 0, .device, [⟨15, 0, "AHEAD_US", .rs, 500⟩]⟩
/-- MBOX.SEALCFG. -/
def sealcfgRow : RegInfo := ⟨"MBOX.SEALCFG", 0x2000B00018, 16, 32, 1, 0, .station, [⟨1, 0, "REPORT", .rs, 0⟩]⟩
/-- MILE.COMMIT. -/
def mileCommitRow : RegInfo :=
  ⟨"MILE.COMMIT", 0x2000710FFC, 1, 0, 1, 0, .device, [⟨1, 1, "PEND", .ro, 0⟩, ⟨0, 0, "GO", .wo, 0⟩]⟩

theorem regAt_gpioOut : regAt Reg.gpioOut = some (gpioOutRow, 0, 0) := by decide +kernel
theorem regAt_stnPolicy : ∀ n < 16, regAt (Reg.mileStnPolicy n) = some (stnPolicyRow, n, 0) := by decide +kernel
theorem regAt_remoteCfg : regAt Reg.mileRemoteCfg = some (remoteCfgRow, 0, 0) := by decide +kernel
theorem regAt_sealcfg : ∀ n < 16, regAt (Reg.mboxSealcfg n) = some (sealcfgRow, n, 0) := by decide +kernel
theorem regAt_mileCommit : regAt Reg.mileCommit = some (mileCommitRow, 0, 0) := by decide +kernel

/-! ## The way of a write to its register -/

/-- A write to a register of PERI or below whose domain is on, other than a COMMIT register. -/
theorem busWrite_low (ini : Nat) {a i j : Nat} {r : RegInfo} (val : Word) {s : State} (halign : a % 4 = 0)
    (hreg : regAt a = some (r, i, j)) (hon : s.domOn (domainOf a) = true) (hcommit : isCommit a = false) (hlow : a < Reg.khanCtrl) :
    busWrite ini a val s = writeLow ini r i a val.toNat s := by
  simp only [busWrite, halign, beq_self_eq_true, if_true, hreg, hon, hcommit, hlow, Bool.not_true, Bool.false_and,
    Bool.false_eq_true, if_false]

/-- A write to a register above PERI whose domain is on, other than a COMMIT register. -/
theorem busWrite_high (ini : Nat) {a i j : Nat} {r : RegInfo} (val : Word) {s : State} (halign : a % 4 = 0)
    (hreg : regAt a = some (r, i, j)) (hon : s.domOn (domainOf a) = true) (hcommit : isCommit a = false) (hhigh : ¬ a < Reg.khanCtrl) :
    busWrite ini a val s = { st := writeHigh ini r i a val.toNat s } := by
  simp only [busWrite, halign, beq_self_eq_true, if_true, hreg, hon, hcommit, hhigh, Bool.not_true, Bool.false_and,
    Bool.false_eq_true, if_false]

/-- Bases of the registers below KHAN whose write does more than its fields say. -/
def specialLow : List Nat :=
  [Reg.sysEvtRoute 0, Reg.sysResetCmd, Reg.sysAppStart, Reg.sysWdogKick, Reg.sysMtimecmpLo 0, Reg.sysSportData, Reg.meshRetireCmd,
   Reg.timeTbIncr, Reg.timeTbStep, Reg.logMirror, Reg.logCalCtrl, Reg.uartData 0, Reg.i2cCmd 0]

/-- Bases of the registers from KHAN on whose write does more than its fields say. -/
def specialHigh : List Nat :=
  [Reg.mflCmd, Reg.intakeCapture, Reg.ispReplay, Reg.mileStnCtrl 0, Reg.fioCtrl 0, Reg.fioTest 0, Reg.fioGrp 0, Reg.odoCtrl 0,
   Reg.odoCfg 0, Reg.odoStat 0, Reg.odoHealthCfg 0, Reg.convoyGrpCfg 0, Reg.laneRxeq 0, Reg.mboxCmd 0]

theorem writeLow_plain (ini : Nat) {r : RegInfo} (i a v : Nat) (s : State) (h : r.base ∉ specialLow) :
    writeLow ini r i a v s = { st := clearCount r a v (writeFields r i ini a v s) } := by
  simp only [specialLow, List.mem_cons, List.not_mem_nil, or_false, not_or] at h
  obtain ⟨h1, h2, h3, h4, h5, h6, h7, h8, h9, h10, h11, h12, h13⟩ := h
  simp only [writeLow, beq_iff_eq, h1, h2, h3, h4, h5, h6, h7, h8, h9, h10, h11, h12, h13, if_false]

theorem writeHigh_plain (ini : Nat) {r : RegInfo} (i a v : Nat) (s : State) (h : r.base ∉ specialHigh) :
    writeHigh ini r i a v s = clearCount r a v (writeFields r i ini a v s) := by
  simp only [specialHigh, List.mem_cons, List.not_mem_nil, or_false, not_or] at h
  obtain ⟨h1, h2, h3, h4, h5, h6, h7, h8, h9, h10, h11, h12, h13, h14⟩ := h
  simp only [writeHigh, beq_iff_eq, Bool.or_eq_true, h1, h2, h3, h4, h5, h6, h7, h8, h9, h10, h11, h12, h13, h14, or_self,
    if_false]

/-- A register without a CLR field has no counter to clear. -/
theorem clearCount_none {r : RegInfo} (a v : Nat) (s : State) (h : (r.fields.find? fun f => f.acc == .wo && f.lo == 30) = none) :
    clearCount r a v s = s := by
  rw [clearCount, h]

/-! ## The branches of `writeFields` -/

/-- The word after the RW and W1C fields, and after the RF fields that `refused` leaves. -/
def writtenWord (fs : List Field) (refused cur val : Nat) : Nat :=
  mergeBits (accMask .rw fs + (accMask .rf fs ^^^ refused)) cur val ^^^
    (mergeBits (accMask .rw fs + (accMask .rf fs ^^^ refused)) cur val &&& (val &&& accMask .w1c fs))

theorem writtenWord_of_w1c {fs : List Field} (refused cur val : Nat) (h : accMask .w1c fs = 0) :
    writtenWord fs refused cur val = mergeBits (accMask .rw fs + (accMask .rf fs ^^^ refused)) cur val := by
  simp [writtenWord, h]

/-- A register without RS and RF fields takes its word at once (R10). -/
theorem writeFields_now {r : RegInfo} (i ini a v : Nat) {s : State} (hrs : accMask .rs r.fields = 0)
    (hrf : ∀ cur, rfChanged r.fields cur v = 0) :
    writeFields r i ini a v s = s.setN a (writtenWord r.fields 0 (s.reg a).toNat v) := by
  simp only [writeFields, hrs, hrf, ite_self, beq_self_eq_true, if_true, writtenWord]

/-- RF fields of a disarmed owner take their word at once (R63). -/
theorem writeFields_disarmed {r : RegInfo} {i a v : Nat} (ini : Nat) {s : State} (hrs : accMask .rs r.fields = 0)
    (h : s.ownerArmed (s.ownerOf r.owner i) = false) :
    writeFields r i ini a v s = s.setN a (writtenWord r.fields 0 (s.reg a).toNat v) := by
  simp only [writeFields, hrs, h, Bool.false_eq_true, if_false, ite_self, beq_self_eq_true, if_true, writtenWord]

/-- RF fields of an armed owner keep what they hold where the write would change them, and the write is recorded (R64). -/
theorem writeFields_armed {r : RegInfo} {i a v : Nat} (ini : Nat) {s : State} (hrs : accMask .rs r.fields = 0)
    (h : s.ownerArmed (s.ownerOf r.owner i) = true) :
    writeFields r i ini a v s =
      if rfChanged r.fields (s.reg a).toNat v = 0 then s.setN a (writtenWord r.fields (rfChanged r.fields (s.reg a).toNat v) (s.reg a).toNat v)
      else dropWrite ini a (s.ownerOf r.owner i)
        (s.setN a (writtenWord r.fields (rfChanged r.fields (s.reg a).toNat v) (s.reg a).toNat v)) := by
  simp only [writeFields, hrs, h, ite_self, beq_iff_eq, if_true, writtenWord]

theorem writtenWord_rsOnly {fs : List Field} (cur val : Nat) (hrw : accMask .rw fs = 0) (hrf : accMask .rf fs = 0)
    (hw1c : accMask .w1c fs = 0) : writtenWord fs 0 cur val = cur := by
  rw [writtenWord_of_w1c _ _ _ hw1c, hrw, hrf]
  exact mergeBits_zero cur val

/-! ## RW: GPIO.OUT -/

theorem exec_registerWrite_gpioOut (ini : Nat) (val : Word) {s : State} (hon : s.domOn 0 = true) :
    exec (.registerWrite ini Reg.gpioOut val) s =
      doneBus s { st := s.begin_.setN Reg.gpioOut (mergeBits 0xFFFF (s.reg Reg.gpioOut).toNat val.toNat) } := by
  have hwrite : writeFields gpioOutRow 0 ini Reg.gpioOut val.toNat s.begin_ =
      s.begin_.setN Reg.gpioOut (mergeBits 0xFFFF (s.reg Reg.gpioOut).toNat val.toNat) :=
    (writeFields_now 0 ini Reg.gpioOut val.toNat (by decide) fun _ => rfl).trans
      (congrArg (s.begin_.setN Reg.gpioOut) (writtenWord_of_w1c 0 _ _ (by decide)))
  change doneBus s (busWrite ini Reg.gpioOut val s.begin_) = _
  rw [busWrite_low (s := s.begin_) ini val (by decide) regAt_gpioOut hon (isCommit_of_offset (by decide)) (by decide),
    writeLow_plain ini _ _ _ _ (by decide), hwrite, clearCount_none _ _ _ (by decide)]

/-! ## RF: MILE.STN_POLICY -/

/-- The RF fields that a write of the policy would change: REV_STOP and RB_STOP. -/
theorem rfChanged_stnPolicy (cur val : Nat) :
    rfChanged stnPolicyRow.fields cur val =
      (if cur / 2 % 2 = val / 2 % 2 then 0 else 2) + if cur % 2 = val % 2 then 0 else 1 := by
  have hfold : rfChanged stnPolicyRow.fields cur val =
      if fld cur 0 0 != fld val 0 0 then (if fld cur 1 1 != fld val 1 1 then 2 else 0) + 1
      else if fld cur 1 1 != fld val 1 1 then 2 else 0 := rfl
  have h1 : ∀ v, fld v 1 1 = v / 2 % 2 := fun v => by simp [fld]
  have h0 : ∀ v, fld v 0 0 = v % 2 := fun v => by simp [fld]
  rw [hfold]
  simp only [h0, h1, bne_iff_ne, ne_eq, ite_not]
  split <;> split <;> rfl

theorem rfChanged_stnPolicy_eq_zero {cur val : Nat} : rfChanged stnPolicyRow.fields cur val = 0 ↔ cur % 4 = val % 4 := by
  rw [rfChanged_stnPolicy]
  split <;> split <;> omega

/-- What a write would change is masked out of it, so the policy of an armed station stays (R63). -/
theorem writtenWord_stnPolicy_armed (cur val : Nat) :
    writtenWord stnPolicyRow.fields (rfChanged stnPolicyRow.fields cur val) cur val = cur := by
  rw [writtenWord_of_w1c _ _ _ (by decide), rfChanged_stnPolicy]
  refine mergeBits_eq_self fun i hi => ?_
  have hmask : accMask .rw stnPolicyRow.fields = 0 ∧ accMask .rf stnPolicyRow.fields = 3 := by decide
  rw [hmask.1, hmask.2] at hi
  match i with
  | 0 =>
    rw [Nat.testBit_zero, Nat.testBit_zero]
    split at hi <;> split at hi <;> simp_all
  | 1 =>
    have hzero : Nat.testBit 1 1 = false := by decide
    rw [Nat.testBit_succ, Nat.testBit_succ, Nat.testBit_zero, Nat.testBit_zero]
    split at hi <;> split at hi <;> simp_all
  | i + 2 =>
    rw [Nat.testBit_succ, Nat.testBit_succ] at hi
    split at hi <;> split at hi <;> simp_all

theorem domainOf_stnPolicy : ∀ n < 16, domainOf (Reg.mileStnPolicy n) = domVerdict := by decide

theorem exec_registerWrite_stnPolicy (ini : Nat) {n : Nat} (val : Word) {s : State} (hn : n < 16) (hon : s.domOn domVerdict = true) :
    exec (.registerWrite ini (Reg.mileStnPolicy n) val) s =
      doneBus s { st := writeFields stnPolicyRow n ini (Reg.mileStnPolicy n) val.toNat s.begin_ } := by
  have hon' : s.begin_.domOn (domainOf (Reg.mileStnPolicy n)) = true := (domainOf_stnPolicy n hn).symm ▸ hon
  have hcommit : isCommit (Reg.mileStnPolicy n) = false := isCommit_of_offset (by unfold Reg.mileStnPolicy; omega)
  change doneBus s (busWrite ini (Reg.mileStnPolicy n) val s.begin_) = _
  rw [busWrite_high ini val (by unfold Reg.mileStnPolicy; omega) (regAt_stnPolicy n hn) hon' hcommit
      (by unfold Reg.mileStnPolicy Reg.khanCtrl; omega),
    writeHigh_plain ini _ _ _ _ (by decide), clearCount_none _ _ _ (by decide)]

theorem not_eventReg_stnPolicy (n : Nat) : ¬ eventReg (Reg.mileStnPolicy n) :=
  not_eventReg (.inr (by unfold Reg.mileStnPolicy; omega))

/-- The registers that record a dropped write (R64 to R66). -/
def wdropRegs : List Nat := [Reg.sysWdropCnt, Reg.sysWdropAddr, Reg.sysWdropSrc]

theorem stnPolicy_not_mem_wdropRegs (n : Nat) : Reg.mileStnPolicy n ∉ wdropRegs := by
  simp only [wdropRegs, List.mem_cons, List.not_mem_nil, or_false, Reg.mileStnPolicy, Reg.sysWdropCnt, Reg.sysWdropAddr,
    Reg.sysWdropSrc]
  omega

theorem dropWrite_regsOnly (ini a : Nat) (own : Owner) (s : State) : RegsOnly (· ∈ wdropRegs) s (dropWrite ini a own s) :=
  ((((RegsOnly.refl _ s).bump (by simp [wdropRegs])).setN _ (by simp [wdropRegs])).setN _ (by simp [wdropRegs])).raise 448
    (by norm_num)

theorem not_eventReg_wdrop {b : Nat} (h : b ∈ wdropRegs) : ¬ eventReg b :=
  not_eventReg (.inl ((by decide : ∀ x ∈ wdropRegs, x < 0x2000001800) b h))

/-- What a dropped write to a station's register records. -/
theorem dropWrite_records {ini n : Nat} (a : Nat) (s : State) (hn : n < 16) (hini : ini < 16) :
    let u := dropWrite ini a (.station n) s
    u.reg Reg.sysWdropCnt = BitVec.ofNat 32 (satWord 24 (s.reg Reg.sysWdropCnt).toNat).1 ∧
      (u.reg Reg.sysWdropAddr).toNat = a % 2 ^ 32 ∧ (u.reg Reg.sysWdropSrc).toNat = n * 16 + ini ∧ u.pendingEvent 448 = true := by
  refine ⟨?_, ?_, ?_, pendingEvent_raise_self 448 _ (by norm_num)⟩
  · rw [dropWrite, raise_reg 448 _ (by norm_num) (not_eventReg_wdrop (by simp [wdropRegs])), State.reg_setN_ne _ _ (by decide),
      State.reg_setN_ne _ _ (by decide), bump_reg _ (not_eventReg_wdrop (by simp [wdropRegs]))]
  · rw [dropWrite, raise_reg 448 _ (by norm_num) (not_eventReg_wdrop (by simp [wdropRegs])), State.reg_setN_ne _ _ (by decide),
      State.reg_setN, BitVec.toNat_ofNat, Nat.mod_mod]
  · rw [dropWrite, raise_reg 448 _ (by norm_num) (not_eventReg_wdrop (by simp [wdropRegs])), State.reg_setN, BitVec.toNat_ofNat]
    omega

/-- Registers that were given their own word are registers that did not change. -/
theorem RegsOnly.setN_self {A : Nat → Prop} {s t : State} (a : Nat) (h : RegsOnly A (s.setN a (s.reg a).toNat) t) : RegsOnly A s t :=
  RegsOnly.trans ⟨⟨_, _, rfl⟩, fun b _ _ => reg_setN_self s a b⟩ h

/-- RF as the statement has it: a disarmed station's policy takes the word, an armed one's keeps its own and records the write. -/
theorem stnPolicy_write (ini n : Nat) (val : Word) (s : State) (hn : n < 16) (hini : ini < 16) (hon : s.domOn domVerdict = true) :
    ∃ t, exec (.registerWrite ini (Reg.mileStnPolicy n) val) s = .next t ∧
      (s.armed n = false → t.fget (Reg.mileStnPolicy n) 1 0 = val.toNat % 4 ∧ State.onlyRegs [Reg.mileStnPolicy n] s t) ∧
      (s.armed n = true → t.reg (Reg.mileStnPolicy n) = s.reg (Reg.mileStnPolicy n) ∧
        (s.fget (Reg.mileStnPolicy n) 1 0 = val.toNat % 4 → State.onlyRegs [] s t) ∧
        (s.fget (Reg.mileStnPolicy n) 1 0 ≠ val.toNat % 4 →
          t.reg Reg.sysWdropCnt = BitVec.ofNat 32 (satWord 24 (s.reg Reg.sysWdropCnt).toNat).1 ∧
          (t.reg Reg.sysWdropAddr).toNat = Reg.mileStnPolicy n % 2 ^ 32 ∧ (t.reg Reg.sysWdropSrc).toNat = n * 16 + ini ∧
          t.pendingEvent 448 = true ∧ State.onlyRegs wdropRegs s t)) := by
  rw [exec_registerWrite_stnPolicy ini val hn hon]
  by_cases harmed : s.armed n = true
  · have hown : s.begin_.ownerArmed (s.begin_.ownerOf stnPolicyRow.owner n) = true := harmed
    have hword : writtenWord stnPolicyRow.fields (rfChanged stnPolicyRow.fields (s.begin_.reg (Reg.mileStnPolicy n)).toNat val.toNat)
        (s.begin_.reg (Reg.mileStnPolicy n)).toNat val.toNat = (s.begin_.reg (Reg.mileStnPolicy n)).toNat :=
      writtenWord_stnPolicy_armed _ _
    rw [writeFields_armed ini (by decide) hown, hword]
    have hget : s.fget (Reg.mileStnPolicy n) 1 0 = (s.reg (Reg.mileStnPolicy n)).toNat % 4 := by simp [State.fget, fld]
    by_cases hsame : rfChanged stnPolicyRow.fields (s.begin_.reg (Reg.mileStnPolicy n)).toNat val.toNat = 0
    · rw [if_pos hsame]
      obtain ⟨t, ht, hregs, honly, -⟩ := doneBus_onlyRegs (A := []) ((RegsOnly.refl _ _).setN_self (Reg.mileStnPolicy n))
      refine ⟨t, ht, fun h => absurd harmed (by simp [h]), fun _ => ⟨?_, fun _ => honly, fun h => ?_⟩⟩
      · rw [reg_congr hregs]
        exact reg_setN_self _ _ _
      · exact absurd (hget.trans (rfChanged_stnPolicy_eq_zero.1 hsame)) h
    · rw [if_neg hsame]
      obtain ⟨t, ht, hregs, honly, -⟩ := doneBus_onlyRegs
        ((dropWrite_regsOnly ini (Reg.mileStnPolicy n) (.station n) _).setN_self (Reg.mileStnPolicy n))
      refine ⟨t, ht, fun h => absurd harmed (by simp [h]), fun _ => ⟨?_, fun h => ?_, fun _ => ?_⟩⟩
      · rw [reg_congr hregs, (dropWrite_regsOnly _ _ _ _).2 _ (stnPolicy_not_mem_wdropRegs n) (not_eventReg_stnPolicy n)]
        exact reg_setN_self _ _ _
      · exact absurd (rfChanged_stnPolicy_eq_zero.2 (hget.symm.trans h)) hsame
      · obtain ⟨hcnt, haddr, hsrc, hpend⟩ := dropWrite_records (Reg.mileStnPolicy n)
          (s.begin_.setN (Reg.mileStnPolicy n) (s.begin_.reg (Reg.mileStnPolicy n)).toNat) hn hini
        rw [reg_setN_self] at hcnt
        rw [reg_congr hregs, reg_congr hregs, reg_congr hregs, State.pendingEvent, flag_congr hregs]
        exact ⟨hcnt, haddr, hsrc, hpend, honly⟩
  · have hown : s.begin_.ownerArmed (s.begin_.ownerOf stnPolicyRow.owner n) = false := Bool.eq_false_of_not_eq_true harmed
    rw [writeFields_disarmed ini (by decide) hown, writtenWord_of_w1c _ _ _ (by decide)]
    obtain ⟨t, ht, hregs, honly, -⟩ := doneBus_onlyRegs (A := [Reg.mileStnPolicy n]) (s := s)
      ((RegsOnly.refl _ _).setN (a := Reg.mileStnPolicy n) _ (List.mem_singleton_self _))
    refine ⟨t, ht, fun _ => ⟨?_, honly⟩, fun h => absurd h harmed⟩
    rw [fget_congr hregs, fget_setN_low _ _ _ (by norm_num)]
    exact mergeBits_mod _ _ testBit_mask2

/-! ## RS: the shadow copy (R53 to R56) -/

theorem shadowAt_filter_ne {l : List ShadowWrite} {a b : Nat} (h : a ≠ b) :
    (l.filter fun w => w.addr != b).find? (fun w => w.addr == a) = l.find? fun w => w.addr == a := by
  rw [List.find?_filter]
  congr 1
  funext w
  by_cases hw : w.addr = a
  · simp [hw, h]
  · simp [hw]

theorem find?_filter_same (l : List ShadowWrite) (a : Nat) :
    (l.filter fun w => w.addr != a).find? (fun w => w.addr == a) = none := by
  rw [List.find?_eq_none]
  intro w hw
  simpa using (List.mem_filter.1 hw).2

/-- The pending word of a register after a write to its shadow copy. -/
theorem shadowAt_putShadow_same (own : Option Nat) (a mask val : Nat) (s : State) :
    (putShadow own a mask val s).shadowAt a = some (mergeBits mask ((s.shadowAt a).getD (s.reg a).toNat) val % 2 ^ 32) := by
  simp only [putShadow, State.shadowAt, List.find?_append, find?_filter_same, Option.none_or, List.find?_cons, beq_self_eq_true,
    Option.map_some, BitVec.toNat_ofNat]

theorem shadowAt_putShadow_ne (own : Option Nat) {a b : Nat} (mask val : Nat) (s : State) (h : a ≠ b) :
    (putShadow own b mask val s).shadowAt a = s.shadowAt a := by
  have hb : (b == a) = false := beq_eq_false_iff_ne.2 h.symm
  simp only [putShadow, State.shadowAt, List.find?_append, shadowAt_filter_ne h, List.find?_cons, hb, List.find?_nil, Option.or_none]

theorem shadowAt_dropShadow_same (a : Nat) (s : State) : (dropShadow a s).shadowAt a = none := by
  simp only [dropShadow, State.shadowAt, find?_filter_same, Option.map_none]

theorem shadowAt_dropShadow_ne {a b : Nat} (s : State) (h : a ≠ b) : (dropShadow b s).shadowAt a = s.shadowAt a := by
  simp only [dropShadow, State.shadowAt, shadowAt_filter_ne h]

theorem putShadow_reg (own : Option Nat) (a mask val : Nat) (s : State) (b : Nat) : (putShadow own a mask val s).reg b = s.reg b := rfl
theorem dropShadow_reg (a : Nat) (s : State) (b : Nat) : (dropShadow a s).reg b = s.reg b := rfl
theorem shadowAt_setN (s : State) (a x b : Nat) : (s.setN a x).shadowAt b = s.shadowAt b := rfl

/-- A write of a register whose fields are RS alone: its word stays, and the written one goes where its owner says (R53, R54). -/
theorem writeFields_rs {r : RegInfo} (i ini : Nat) {a v : Nat} {s : State} (hrw : accMask .rw r.fields = 0)
    (hrf : accMask .rf r.fields = 0) (hw1c : accMask .w1c r.fields = 0) (hrs : accMask .rs r.fields ≠ 0)
    (hnone : ∀ cur, rfChanged r.fields cur v = 0) (hseal : sealWriteIgnored a v = false) :
    writeFields r i ini a v s =
      match s.ownerOf r.owner i with
      | .device => putShadow none a (accMask .rs r.fields) v (s.setN a (s.reg a).toNat)
      | .station n =>
        if s.ownerArmed (s.ownerOf r.owner i) then putShadow (some n) a (accMask .rs r.fields) v (s.setN a (s.reg a).toNat)
        else dropShadow a ((s.setN a (s.reg a).toNat).setN a (mergeBits (accMask .rs r.fields) (s.reg a).toNat v))
      | .nobody => dropShadow a ((s.setN a (s.reg a).toNat).setN a (mergeBits (accMask .rs r.fields) (s.reg a).toNat v)) := by
  have hnow : mergeBits (accMask .rw r.fields + (accMask .rf r.fields ^^^ 0)) (s.reg a).toNat v ^^^
      (mergeBits (accMask .rw r.fields + (accMask .rf r.fields ^^^ 0)) (s.reg a).toNat v &&& (v &&& accMask .w1c r.fields)) =
      (s.reg a).toNat := writtenWord_rsOnly _ _ hrw hrf hw1c
  simp only [writeFields, hnone, ite_self, hseal, Bool.false_eq_true, if_false, beq_iff_eq, hrs, beq_self_eq_true, if_true, hnow]
    <;> rfl

/-- MILE.REMOTE_CFG belongs to the device: the written word waits (R53). -/
theorem remoteCfg_write (ini : Nat) (val : Word) (s : State) (hon : s.domOn domVerdict = true) :
    ∃ t, exec (.registerWrite ini Reg.mileRemoteCfg val) s = .next t ∧
      ((t.shadowAt Reg.mileRemoteCfg).map fun w => w % 65536) = some (val.toNat % 65536) ∧
      (∀ a, a ≠ Reg.mileRemoteCfg → t.shadowAt a = s.shadowAt a) ∧ (∀ b, t.reg b = s.reg b) ∧
      { t with regs := s.regs, shadow := s.shadow, out := s.out, phy := s.phy.still t.phy } = s := by
  have hfields : writeFields remoteCfgRow 0 ini Reg.mileRemoteCfg val.toNat s.begin_ =
      putShadow none Reg.mileRemoteCfg 0xFFFF val.toNat (s.begin_.setN Reg.mileRemoteCfg (s.reg Reg.mileRemoteCfg).toNat) :=
    writeFields_rs 0 ini (by decide) (by decide) (by decide) (by decide) (fun _ => rfl) rfl
  have hexec : exec (.registerWrite ini Reg.mileRemoteCfg val) s = doneBus s
      ⟨putShadow none Reg.mileRemoteCfg 0xFFFF val.toNat (s.begin_.setN Reg.mileRemoteCfg (s.reg Reg.mileRemoteCfg).toNat), [], []⟩ := by
    change doneBus s (busWrite ini Reg.mileRemoteCfg val s.begin_) = _
    rw [busWrite_high (s := s.begin_) ini val (by decide) regAt_remoteCfg hon (isCommit_of_offset (by decide)) (by decide),
      writeHigh_plain ini _ _ _ _ (by decide), hfields, clearCount_none _ _ _ (by decide)]
  refine ⟨_, hexec, ?_, fun a ha => shadowAt_putShadow_ne none _ _ _ ha, fun b => reg_setN_self _ _ b, rfl⟩
  have hmod := mergeBits_mod ((s.shadowAt Reg.mileRemoteCfg).getD
    ((s.begin_.setN Reg.mileRemoteCfg (s.reg Reg.mileRemoteCfg).toNat).reg Reg.mileRemoteCfg).toNat) val.toNat testBit_mask16
  refine (congrArg (Option.map fun w => w % 65536) (shadowAt_putShadow_same none Reg.mileRemoteCfg 0xFFFF val.toNat _)).trans ?_
  rw [Option.map_some, Nat.mod_mod_of_dvd _ (by norm_num)]
  exact congrArg some hmod

theorem domainOf_sealcfg : ∀ n < 16, domainOf (Reg.mboxSealcfg n) = 0 := by decide

theorem exec_registerWrite_sealcfg (ini : Nat) {n : Nat} (val : Word) {s : State} (hn : n < 16) (hon : s.domOn 0 = true) :
    exec (.registerWrite ini (Reg.mboxSealcfg n) val) s =
      doneBus s { st := writeFields sealcfgRow n ini (Reg.mboxSealcfg n) val.toNat s.begin_ } := by
  have hon' : s.begin_.domOn (domainOf (Reg.mboxSealcfg n)) = true := (domainOf_sealcfg n hn).symm ▸ hon
  have hcommit : isCommit (Reg.mboxSealcfg n) = false := isCommit_of_offset (by unfold Reg.mboxSealcfg; omega)
  change doneBus s (busWrite ini (Reg.mboxSealcfg n) val s.begin_) = _
  rw [busWrite_high ini val (by unfold Reg.mboxSealcfg; omega) (regAt_sealcfg n hn) hon' hcommit
      (by unfold Reg.mboxSealcfg Reg.khanCtrl; omega),
    writeHigh_plain ini _ _ _ _ (by decide), clearCount_none _ _ _ (by decide)]

/-- MBOX.SEALCFG belongs to its station: while it is armed the written word waits, else it takes effect (R53, R54). -/
theorem sealcfg_write (ini n : Nat) (val : Word) (s : State) (hn : n < 16) (hval : val.toNat % 4 ≠ 3) (hon : s.domOn 0 = true) :
    ∃ t, exec (.registerWrite ini (Reg.mboxSealcfg n) val) s = .next t ∧
      (s.armed n = true → (t.shadowAt (Reg.mboxSealcfg n)).map (fun w => w % 4) = some (val.toNat % 4) ∧
        t.reg (Reg.mboxSealcfg n) = s.reg (Reg.mboxSealcfg n)) ∧
      (s.armed n = false → t.shadowAt (Reg.mboxSealcfg n) = none ∧ t.fget (Reg.mboxSealcfg n) 1 0 = val.toNat % 4) ∧
      (∀ a, a ≠ Reg.mboxSealcfg n → t.shadowAt a = s.shadowAt a ∧ t.reg a = s.reg a) ∧
      { t with regs := s.regs, shadow := s.shadow, out := s.out, phy := s.phy.still t.phy } = s := by
  have hseal : sealWriteIgnored (Reg.mboxSealcfg n) val.toNat = false := by
    simp only [sealWriteIgnored, beq_eq_false_iff_ne.2 hval, Bool.and_false]
  have hfields := writeFields_rs (r := sealcfgRow) n ini (s := s.begin_) (by decide) (by decide) (by decide) (by decide)
    (fun _ => rfl) hseal
  have hown : s.begin_.ownerOf sealcfgRow.owner n = .station n := rfl
  have hmask : accMask .rs sealcfgRow.fields = 3 := by decide
  rw [exec_registerWrite_sealcfg ini val hn hon, hfields, hown, hmask]
  dsimp only
  by_cases harmed : s.armed n = true
  · have hcond : s.begin_.ownerArmed (.station n) = true := harmed
    rw [if_pos hcond]
    refine ⟨_, rfl, fun _ => ⟨?_, reg_setN_self _ _ _⟩, fun h => absurd harmed (by simp [h]),
      fun a ha => ⟨shadowAt_putShadow_ne (some n) _ _ _ ha, reg_setN_self _ _ _⟩, rfl⟩
    refine (congrArg (Option.map fun w => w % 4) (shadowAt_putShadow_same (some n) (Reg.mboxSealcfg n) 3 val.toNat _)).trans ?_
    rw [Option.map_some, Nat.mod_mod_of_dvd _ (by norm_num)]
    exact congrArg some (mergeBits_mod _ _ testBit_mask2)
  · have hcond : ¬ s.begin_.ownerArmed (.station n) = true := harmed
    rw [if_neg hcond]
    refine ⟨_, rfl, fun h => absurd h harmed, fun _ => ⟨shadowAt_dropShadow_same _ _, ?_⟩,
      fun a ha => ⟨shadowAt_dropShadow_ne _ ha, ?_⟩, rfl⟩
    · exact (fget_setN_low _ _ _ (by norm_num)).trans (mergeBits_mod _ _ testBit_mask2)
    · exact (State.reg_setN_ne _ _ ha).trans (reg_setN_self _ _ _)

/-! ## COMMIT.GO (R60) -/

theorem isCommit_mileCommit : isCommit Reg.mileCommit = true := by decide +kernel

theorem rsMask_remoteCfg : rsMask Reg.mileRemoteCfg = 0xFFFF := by
  rw [rsMask, regAt_remoteCfg]
  decide

/-- COMMIT.GO of MILE applies the one word that waits for it. -/
theorem commitGo_mile {s : State} {w : ShadowWrite} (h : s.commitWords Reg.mileCommit = [w]) :
    commitGo Reg.mileCommit s = applyShadow w { s with shadow := s.shadow.filter fun x => !([w].contains x) } := by
  have hlane : ¬ Reg.mileCommit < Reg.slinkStat 0 := by decide
  have hpwr : (Reg.mileCommit == Reg.pwrCommit) = false := by decide
  simp only [commitGo, h, List.foldl_cons, List.foldl_nil, hlane, decide_false, Bool.and_false, hpwr, Bool.false_and,
    Bool.false_eq_true, if_false]

theorem mile_commit (ini : Nat) (w : ShadowWrite) (s : State) (hon : s.domOn domVerdict = true)
    (hw : s.commitWords Reg.mileCommit = [w]) (haddr : w.addr = Reg.mileRemoteCfg) :
    ∃ t, exec (.commitGo ini Reg.mileCommit) s = .next t ∧
      t.fget Reg.mileRemoteCfg 15 0 = w.val.toNat % 65536 ∧ t.shadow = s.shadow.filter (fun x => x ≠ w) ∧
      (∀ b, b ≠ Reg.mileRemoteCfg → t.reg b = s.reg b) ∧
      { t with regs := s.regs, shadow := s.shadow, out := s.out, phy := s.phy.still t.phy } = s := by
  have hgo : busWrite ini Reg.mileCommit 1 s.begin_ = { st := commitGo Reg.mileCommit s.begin_ } := by
    have hon' : s.begin_.domOn (domainOf Reg.mileCommit) = true := hon
    have halign : (Reg.mileCommit % 4 == 0) = true := by decide
    have hbit : bitAt (1 : Word).toNat 0 = true := by decide
    simp only [busWrite, halign, if_true, regAt_mileCommit, hon', isCommit_mileCommit, hbit, Bool.not_true, Bool.false_and,
      Bool.false_eq_true, if_false]
  have hexec : exec (.commitGo ini Reg.mileCommit) s = doneBus s
      ⟨applyShadow w { s.begin_ with shadow := s.shadow.filter fun x => !([w].contains x) }, [], []⟩ := by
    change doneBus s (busWrite ini Reg.mileCommit 1 s.begin_) = _
    rw [hgo, commitGo_mile (s := s.begin_) hw]
    rfl
  rw [hexec, applyShadow, haddr, rsMask_remoteCfg]
  refine ⟨_, rfl, ?_, List.filter_congr fun x _ => by simp, fun b hb => State.reg_setN_ne _ _ hb, rfl⟩
  exact (fget_setN_low _ _ _ (by norm_num)).trans (mergeBits_mod _ _ testBit_mask16)

/-! ## CLR of a saturating counter (R72) -/

theorem findReg_mem {a i j : Nat} {r : RegInfo} {l : List RegInfo} (h : findReg a l = some (r, i, j)) : r ∈ l := by
  induction l with
  | nil => cases h
  | cons x l ih =>
    rw [findReg] at h
    split at h
    · cases h
      exact List.mem_cons_self
    · exact List.mem_cons_of_mem _ (ih h)

/-- No counter is a register whose write does more than its fields say, or a COMMIT register. -/
theorem counter_base : ∀ r ∈ regTable, r.fields = cntFields → r.base ∉ specialLow ∧ r.base ∉ specialHigh ∧
    [Reg.pwrCommit, Reg.khanCommit, Reg.laneCommit 0, Reg.slinkCommit 0, Reg.mileCommit].contains r.base = false := by
  decide +kernel

theorem isCommit_of_row {a i j : Nat} {r : RegInfo} (hreg : regAt a = some (r, i, j))
    (h : [Reg.pwrCommit, Reg.khanCommit, Reg.laneCommit 0, Reg.slinkCommit 0, Reg.mileCommit].contains r.base = false) :
    isCommit a = false := by
  rw [isCommit, hreg]
  dsimp only
  rw [h, Bool.and_false]

/-- CLR returns COUNT to 0. -/
theorem clearCount_counter {r : RegInfo} (a : Nat) (s : State) (h : r.fields = cntFields) :
    clearCount r a 0x40000000 s = s.fset a 23 0 0 := by
  rw [clearCount, h]
  rfl

/-- The CLR bit changes no field of its own. -/
theorem writeFields_counter {r : RegInfo} (i ini a : Nat) (s : State) (h : r.fields = cntFields) :
    writeFields r i ini a 0x40000000 s = s.setN a (s.reg a).toNat := by
  have hnone : ∀ cur, rfChanged r.fields cur 0x40000000 = 0 := fun cur => by rw [h]; rfl
  have hword : writtenWord cntFields 0 (s.reg a).toNat 0x40000000 = (s.reg a).toNat := by
    have hmasks : accMask .rw cntFields = 0 ∧ accMask .rf cntFields = 0 ∧ 0x40000000 &&& accMask .w1c cntFields = 0 := by decide
    obtain ⟨hrw, hrf, hw1c⟩ := hmasks
    rw [writtenWord, hw1c, hrw, hrf, Nat.and_zero, Nat.xor_zero]
    exact mergeBits_zero _ _
  rw [writeFields_now i ini a _ (by rw [h]; decide) hnone, h, hword]

theorem counter_clear (ini a : Nat) (r : RegInfo) (i j : Nat) (s : State) (halign : a % 4 = 0) (hreg : regAt a = some (r, i, j))
    (hfields : r.fields = cntFields) (hon : s.domOn (domainOf a) = true) :
    ∃ t, exec (.counterClr ini a) s = .next t ∧ t.fget a 23 0 = 0 ∧ t.flag a 31 = s.flag a 31 ∧
      (∀ b, b ≠ a → t.reg b = s.reg b) ∧ { t with regs := s.regs, out := s.out, phy := s.phy.still t.phy } = s := by
  obtain ⟨hlow, hhigh, hcommit⟩ := counter_base r (findReg_mem hreg) hfields
  have hcommit := isCommit_of_row hreg hcommit
  have hbus : busWrite ini a 0x40000000 s.begin_ = { st := (s.begin_.setN a (s.begin_.reg a).toNat).fset a 23 0 0 } := by
    have hon' : s.begin_.domOn (domainOf a) = true := hon
    have hval : (0x40000000 : Word).toNat = 0x40000000 := rfl
    by_cases hkhan : a < Reg.khanCtrl
    · rw [busWrite_low ini _ halign hreg hon' hcommit hkhan, hval, writeLow_plain ini _ _ _ _ hlow,
        writeFields_counter _ _ _ _ hfields, clearCount_counter _ _ hfields]
    · rw [busWrite_high ini _ halign hreg hon' hcommit hkhan, hval, writeHigh_plain ini _ _ _ _ hhigh,
        writeFields_counter _ _ _ _ hfields, clearCount_counter _ _ hfields]
  have hexec : exec (.counterClr ini a) s = doneBus s { st := (s.begin_.setN a (s.begin_.reg a).toNat).fset a 23 0 0 } := by
    rw [← hbus]
    rfl
  refine ⟨_, hexec, ?_, ?_, fun b hb => ?_, rfl⟩
  · exact (State.fget_fset _ _ _ (by norm_num) (by norm_num)).trans rfl
  · change bitAt (((s.begin_.setN a (s.begin_.reg a).toNat).fset a 23 0 0).reg a).toNat 31 = _
    rw [bitAt_eq, ← State.fget, State.fget_fset_ne _ _ (by norm_num) (by norm_num) le_rfl (.inr (.inr (by norm_num))), State.fget,
      reg_setN_self, ← bitAt_eq]
    rfl
  · exact (State.reg_fset_ne _ _ _ _ hb).trans (reg_setN_self _ _ _)

/-- Settles O15. One theorem for each access code. -/
theorem writesFollowTheAccessCodes : Obligations.WritesFollowTheAccessCodes := by
  unfold Obligations.WritesFollowTheAccessCodes
  refine ⟨fun s ini val hon => ?_, fun s ini n val hn hini hon => stnPolicy_write ini n val s hn hini hon,
    fun s ini val hon => remoteCfg_write ini val s hon, fun s ini n val hn hval hon => sealcfg_write ini n val s hn hval hon,
    fun s ini w hon hw haddr => mile_commit ini w s hon hw haddr,
    fun s ini a r i j halign hreg hfields hon => counter_clear ini a r i j s halign hreg hfields hon⟩
  rw [exec_registerWrite_gpioOut ini val hon]
  obtain ⟨t, ht, hregs, honly, -⟩ := doneBus_onlyRegs (A := [Reg.gpioOut]) (s := s)
    ((RegsOnly.refl _ _).setN (a := Reg.gpioOut) _ (List.mem_singleton_self _))
  refine ⟨t, ht, ?_, honly⟩
  rw [fget_congr hregs, fget_setN_low _ _ _ (by norm_num)]
  exact mergeBits_mod _ _ testBit_mask16

end Sys2Proof.Machine

/-! PROOFS. Loads start or are refused (O16).

Both commands end in `startLoad`, whose branches are step 1 of R116. -/

namespace Sys2Proof.Machine

-- One theorem after the other: many at once ask for too many threads.
set_option Elab.async false

/-- A load starts (R116). -/
def beginLoad (full : Bool) (s : State) : State :=
  ({ s with load := some ⟨full, ((s.reg Reg.mflSrcLo).toNat + s.fget Reg.mflSrcHi 7 0 * 2 ^ 32) / 8 * 8, (s.reg Reg.mflLen).toNat⟩
    }.setN Reg.mflStatus (2 ^ 31)).setN Reg.mflErrOffset 0

theorem startLoad_starts {full : Bool} {s : State} (hway : s.flag Reg.sysBootStat 31 = false)
    (harmed : full = true → s.anyArmed = false) (hload : s.load = none) : startLoad full s = beginLoad full s := by
  have hcond : (full && s.anyArmed) = false := by
    cases full with
    | false => rfl
    | true => exact harmed rfl
  simp only [startLoad, hway, hcond, hload, Option.isSome_none, Bool.false_eq_true, if_false, beginLoad]

theorem startLoad_refused {full : Bool} {s : State} (hway : s.flag Reg.sysBootStat 31 = false)
    (h : full = true ∧ s.anyArmed = true ∨ s.load.isSome = true) :
    startLoad full s = loadRefused (if full = true ∧ s.anyArmed = true then resArmed else resBusy) s := by
  simp only [startLoad, hway, Bool.false_eq_true, if_false, Bool.and_eq_true]
  split
  · rfl
  · rw [if_pos (h.resolve_left ‹_›)]

/-- The registers that show the result of a load (R144). -/
def loadRegs : List Nat := [Reg.mflStatus, Reg.mflErrOffset]

theorem not_eventReg_loadRegs {b : Nat} (h : b ∈ loadRegs) : ¬ eventReg b :=
  not_eventReg (.inr ((by decide : ∀ x ∈ loadRegs, 0x2000002000 ≤ x) b h))

theorem beginLoad_kept (full : Bool) (s : State) : RegFile.kept loadRegs s.regs (beginLoad full s).regs := by
  unfold beginLoad
  generalize some (Load.mk full _ _) = l
  have h : RegsOnly (· ∈ loadRegs) { s with load := l } (({ s with load := l }.setN Reg.mflStatus (2 ^ 31)).setN Reg.mflErrOffset 0) :=
    ((RegsOnly.refl _ _).setN _ (by simp [loadRegs])).setN _ (by simp [loadRegs])
  exact (kept_of_regsOnly h :)

theorem loadRefused_regsOnly (code : Nat) (s : State) : RegsOnly (· ∈ loadRegs) s (loadRefused code s) :=
  (((RegsOnly.refl _ s).setN _ (by simp [loadRegs])).setN _ (by simp [loadRegs])).raise 450 (by norm_num)

theorem loadRefused_status (code : Nat) (s : State) :
    (loadRefused code s).reg Reg.mflStatus = BitVec.ofNat 32 (b2n s.load.isSome * 2 ^ 31 + 0xff * 2 ^ 16 + code) := by
  rw [loadRefused, raise_reg 450 _ (by norm_num) (not_eventReg_loadRegs (by simp [loadRegs])), State.reg_setN_ne _ _ (by decide),
    State.reg_setN]

theorem loadRefused_fields {code : Nat} (s : State) (h : code < 256) :
    (loadRefused code s).fget Reg.mflStatus 7 0 = code ∧ (loadRefused code s).flag Reg.mflStatus 31 = s.load.isSome := by
  rw [State.fget, State.flag, loadRefused_status, BitVec.toNat_ofNat, fld, bitAt]
  cases s.load.isSome with
  | false =>
    simp only [b2n, Bool.false_eq_true, if_false, beq_eq_false_iff_ne]
    omega
  | true =>
    simp only [b2n, if_true, beq_iff_eq]
    omega

theorem loadRefused_pendingEvent (code : Nat) (s : State) : (loadRefused code s).pendingEvent 450 = true :=
  pendingEvent_raise_self 450 _ (by norm_num)

/-- Settles O16. The branches of `startLoad` are the cases of the statement. -/
theorem loadsStartOnlyWhereTheyMay : Obligations.LoadsStartOnlyWhereTheyMay := by
  unfold Obligations.LoadsStartOnlyWhereTheyMay
  intro s ini c full hway hc
  have hexec : exec c s = done s (startLoad full s.begin_) := by
    rcases hc with ⟨rfl, rfl⟩ | ⟨rfl, rfl⟩ <;> rfl
  rw [hexec]
  refine ⟨fun harmed hload => ?_, fun hrefused => ?_⟩
  · rw [startLoad_starts (s := s.begin_) hway harmed hload]
    have hkept := beginLoad_kept full s.begin_
    refine ⟨_, rfl, rfl, ?_, ?_, rfl, hkept⟩
    · exact congrArg BitVec.toNat ((State.reg_setN_ne _ _ (by decide)).trans (State.reg_setN _ _ _))
    · exact congrArg BitVec.toNat (State.reg_setN _ _ _)
  · rw [startLoad_refused (s := s.begin_) hway hrefused]
    have hcode : (if full = true ∧ s.begin_.anyArmed = true then resArmed else resBusy) < 256 := by split <;> decide
    obtain ⟨hresult, hbusy⟩ := loadRefused_fields s.begin_ hcode
    obtain ⟨t, ht, hregs, -, honly⟩ := done_onlyRegs (loadRefused_regsOnly
      (if full = true ∧ s.begin_.anyArmed = true then resArmed else resBusy) s.begin_)
    refine ⟨t, ht, (congrArg State.load honly.1 :), ?_, ?_, ?_, honly⟩
    · rw [fget_congr hregs, hresult]
      rfl
    · rw [flag_congr hregs, hbusy]
      rfl
    · rw [State.pendingEvent, flag_congr hregs]
      exact loadRefused_pendingEvent _ _

end Sys2Proof.Machine

/-! PROOFS. Which parts of the state an operation may touch.

`Touches m s t` says that `t` differs from `s` in the parts `m` alone, and that every list of numbered units has kept its
length. An operation has one such lemma; what it leaves as it was, and what it does not resize, follow from it. -/

namespace Sys2Proof.Machine

-- One theorem after the other: many at once ask for too many threads.
set_option Elab.async false

/-- Parts of the state: those that are `true`. The Ethernet ports are a part of their own, `phy` is the rest of theirs. -/
structure Parts where
  (pending : Bool := false) (regs : Bool := false) (shadow : Bool := false) (snaps : Bool := false) (rdata : Bool := false)
  (tb : Bool := false) (otp : Bool := false) (dram : Bool := false) (flash : Bool := false) (sram : Bool := false)
  (evq : Bool := false) (mbox : Bool := false) (load : Bool := false) (dev : Bool := false) (blocks : Bool := false)
  (nextUid : Bool := false) (stations : Bool := false) (tiles : Bool := false) (gridHoles : Bool := false)
  (retiring : Bool := false) (fmap : Bool := false) (jobs : Bool := false) (bales : Bool := false) (nextBale : Bool := false)
  (miles : Bool := false) (odo : Bool := false) (refs : Bool := false) (fio : Bool := false) (fieldSafe : Bool := false)
  (grpTrip : Bool := false) (cams : Bool := false) (rings : Bool := false) (capture : Bool := false) (isp : Bool := false)
  (treePass : Bool := false) (decs : Bool := false) (lanes : Bool := false) (lref : Bool := false) (links : Bool := false)
  (eps : Bool := false) (timeTag : Bool := false) (groups : Bool := false) (ptp : Bool := false) (pwr : Bool := false)
  (refclk : Bool := false) (phy : Bool := false) (pcs : Bool := false) (lenders : Bool := false) (boot : Bool := false) (sport : Bool := false)
  (log : Bool := false) (cores : Bool := false) (uart : Bool := false) (i2c : Bool := false) (gpio : Bool := false)
  (out : Bool := false) (tap : Bool := false) (scan : Bool := false) (free : Bool := false)

/-- The parts of either. -/
def Parts.or (a b : Parts) : Parts where
  pending := a.pending || b.pending
  regs := a.regs || b.regs
  shadow := a.shadow || b.shadow
  snaps := a.snaps || b.snaps
  rdata := a.rdata || b.rdata
  tb := a.tb || b.tb
  otp := a.otp || b.otp
  dram := a.dram || b.dram
  flash := a.flash || b.flash
  sram := a.sram || b.sram
  evq := a.evq || b.evq
  mbox := a.mbox || b.mbox
  load := a.load || b.load
  dev := a.dev || b.dev
  blocks := a.blocks || b.blocks
  nextUid := a.nextUid || b.nextUid
  stations := a.stations || b.stations
  tiles := a.tiles || b.tiles
  gridHoles := a.gridHoles || b.gridHoles
  retiring := a.retiring || b.retiring
  fmap := a.fmap || b.fmap
  jobs := a.jobs || b.jobs
  bales := a.bales || b.bales
  nextBale := a.nextBale || b.nextBale
  miles := a.miles || b.miles
  odo := a.odo || b.odo
  refs := a.refs || b.refs
  fio := a.fio || b.fio
  fieldSafe := a.fieldSafe || b.fieldSafe
  grpTrip := a.grpTrip || b.grpTrip
  cams := a.cams || b.cams
  rings := a.rings || b.rings
  capture := a.capture || b.capture
  isp := a.isp || b.isp
  treePass := a.treePass || b.treePass
  decs := a.decs || b.decs
  lanes := a.lanes || b.lanes
  lref := a.lref || b.lref
  links := a.links || b.links
  eps := a.eps || b.eps
  timeTag := a.timeTag || b.timeTag
  groups := a.groups || b.groups
  ptp := a.ptp || b.ptp
  pwr := a.pwr || b.pwr
  refclk := a.refclk || b.refclk
  phy := a.phy || b.phy
  pcs := a.pcs || b.pcs
  lenders := a.lenders || b.lenders
  boot := a.boot || b.boot
  sport := a.sport || b.sport
  log := a.log || b.log
  cores := a.cores || b.cores
  uart := a.uart || b.uart
  i2c := a.i2c || b.i2c
  gpio := a.gpio || b.gpio
  out := a.out || b.out
  tap := a.tap || b.tap
  scan := a.scan || b.scan
  free := a.free || b.free

/-- `s` with the Ethernet ports of `t`, with the rest of `t`, or with both. -/
def Phy.take (rest pcs : Bool) (t s : Phy) : Phy :=
  { (bif rest then t else s) with pcs := bif pcs then t.pcs else s.pcs }

theorem Phy.take_self (a b : Bool) (p : Phy) : Phy.take a b p p = p := by
  cases a <;> cases b <;> rfl

theorem Phy.take_take (a b a' b' : Bool) (p q r : Phy) :
    Phy.take (b || a) (b' || a') (Phy.take a a' r q) p = Phy.take a a' r (Phy.take b b' q p) := by
  cases a <;> cases b <;> cases a' <;> cases b' <;> rfl

/-- `s` with the parts `m` of `t`. -/
def State.take (m : Parts) (t s : State) : State where
  pending := bif m.pending then t.pending else s.pending
  regs := bif m.regs then t.regs else s.regs
  shadow := bif m.shadow then t.shadow else s.shadow
  snaps := bif m.snaps then t.snaps else s.snaps
  rdata := bif m.rdata then t.rdata else s.rdata
  tb := bif m.tb then t.tb else s.tb
  otp := bif m.otp then t.otp else s.otp
  dram := bif m.dram then t.dram else s.dram
  flash := bif m.flash then t.flash else s.flash
  sram := bif m.sram then t.sram else s.sram
  evq := bif m.evq then t.evq else s.evq
  mbox := bif m.mbox then t.mbox else s.mbox
  load := bif m.load then t.load else s.load
  dev := bif m.dev then t.dev else s.dev
  blocks := bif m.blocks then t.blocks else s.blocks
  nextUid := bif m.nextUid then t.nextUid else s.nextUid
  stations := bif m.stations then t.stations else s.stations
  tiles := bif m.tiles then t.tiles else s.tiles
  gridHoles := bif m.gridHoles then t.gridHoles else s.gridHoles
  retiring := bif m.retiring then t.retiring else s.retiring
  fmap := bif m.fmap then t.fmap else s.fmap
  jobs := bif m.jobs then t.jobs else s.jobs
  bales := bif m.bales then t.bales else s.bales
  nextBale := bif m.nextBale then t.nextBale else s.nextBale
  miles := bif m.miles then t.miles else s.miles
  odo := bif m.odo then t.odo else s.odo
  refs := bif m.refs then t.refs else s.refs
  fio := bif m.fio then t.fio else s.fio
  fieldSafe := bif m.fieldSafe then t.fieldSafe else s.fieldSafe
  grpTrip := bif m.grpTrip then t.grpTrip else s.grpTrip
  cams := bif m.cams then t.cams else s.cams
  rings := bif m.rings then t.rings else s.rings
  capture := bif m.capture then t.capture else s.capture
  isp := bif m.isp then t.isp else s.isp
  treePass := bif m.treePass then t.treePass else s.treePass
  decs := bif m.decs then t.decs else s.decs
  lanes := bif m.lanes then t.lanes else s.lanes
  lref := bif m.lref then t.lref else s.lref
  links := bif m.links then t.links else s.links
  eps := bif m.eps then t.eps else s.eps
  timeTag := bif m.timeTag then t.timeTag else s.timeTag
  groups := bif m.groups then t.groups else s.groups
  ptp := bif m.ptp then t.ptp else s.ptp
  pwr := bif m.pwr then t.pwr else s.pwr
  refclk := bif m.refclk then t.refclk else s.refclk
  phy := Phy.take m.phy m.pcs t.phy s.phy
  lenders := bif m.lenders then t.lenders else s.lenders
  boot := bif m.boot then t.boot else s.boot
  sport := bif m.sport then t.sport else s.sport
  log := bif m.log then t.log else s.log
  cores := bif m.cores then t.cores else s.cores
  uart := bif m.uart then t.uart else s.uart
  i2c := bif m.i2c then t.i2c else s.i2c
  gpio := bif m.gpio then t.gpio else s.gpio
  out := bif m.out then t.out else s.out
  tap := bif m.tap then t.tap else s.tap
  scan := bif m.scan then t.scan else s.scan
  free := bif m.free then t.free else s.free

/-- The lengths of the lists of numbered units. -/
def State.lens (s : State) : List Nat :=
  [s.stations.length, s.tiles.length, s.odo.length, s.refs.length, s.fio.length, s.grpTrip.length, s.cams.length,
   s.lanes.length, s.links.length, s.groups.length, s.mbox.length, s.evq.length, s.snaps.length, s.ptp.length,
   s.cores.length, s.uart.length, s.i2c.length, s.gpio.length, s.lref.length, s.sport.rx.length, s.sport.tx.length]

/-- What they are on the device. -/
def unitCounts : List Nat := [16, 72, 16, 16, 32, 4, 32, 24, 16, 32, 16, 13, 15, 4, 4, 2, 2, 16, 2, 4, 4]

theorem sized_iff_lens (s : State) : s.sized = true ↔ s.lens = unitCounts := by
  simp only [State.sized, Bool.and_eq_true, beq_iff_eq, State.lens, unitCounts, List.cons.injEq, and_true, and_assoc]

/-- `t` differs from `s` in the parts `m` alone, and no list of numbered units has changed its length. -/
structure Touches (m : Parts) (s t : State) : Prop where
  /-- `t` is `s` with its own parts `m`. -/
  same : State.take m t s = t
  /-- The lengths. -/
  lens : t.lens = s.lens

theorem Parts.or_self (m : Parts) : m.or m = m := by
  cases m
  simp only [Parts.or, Bool.or_self]

theorem State.take_self (m : Parts) (s : State) : State.take m s s = s := by
  simp only [State.take, Bool.cond_self, Phy.take_self]

theorem cond_or_cond {α : Type} (a b : Bool) (x y z : α) :
    (bif b || a then (bif a then x else y) else z) = bif a then x else bif b then y else z := by
  cases a <;> cases b <;> rfl

theorem cond_cond_self {α : Type} (a : Bool) (x y : α) : (bif a then x else (bif a then y else x)) = x := by
  cases a <;> rfl

theorem Phy.take_back (a b : Bool) (p q : Phy) : Phy.take a b p (Phy.take a b q p) = p := by
  cases a <;> cases b <;> rfl

theorem State.take_take (m n : Parts) (s t u : State) :
    State.take (m.or n) (State.take n u t) s = State.take n u (State.take m t s) := by
  simp only [State.take, Parts.or, cond_or_cond, Phy.take_take]

theorem Touches.refl {m : Parts} {s : State} : Touches m s s := ⟨State.take_self m s, rfl⟩

/-- One operation after another touches what either touches. -/
theorem Touches.trans {m n : Parts} {s t u : State} (h : Touches m s t) (g : Touches n t u) : Touches (m.or n) s u := by
  refine ⟨?_, g.lens.trans h.lens⟩
  calc State.take (m.or n) u s = State.take (m.or n) (State.take n u t) s := by rw [g.same]
    _ = State.take n u (State.take m t s) := State.take_take m n s t u
    _ = u := by rw [h.same, g.same]

theorem Touches.mono {m n : Parts} {s t : State} (h : Touches n s t) (hn : n.or m = m := by rfl) : Touches m s t :=
  hn ▸ h.trans (Touches.refl (m := m))

/-- An operation that touches no more than `m`, after operations that touch `m`. -/
theorem Touches.then {m n : Parts} {s t u : State} (h : Touches m s t) (g : Touches n t u) (hn : n.or m = m := by rfl) :
    Touches m s u :=
  m.or_self ▸ h.trans (g.mono hn)

theorem Touches.ite {m : Parts} {s t u : State} {c : Prop} [Decidable c] (h : c → Touches m s t) (g : ¬ c → Touches m s u) :
    Touches m s (if c then t else u) := by
  split
  · exact h ‹_›
  · exact g ‹_›

/-- An operation repeated over a list touches what it touches once. -/
theorem Touches.foldl {α : Type} {m : Parts} {op : State → α → State} (hop : ∀ u x, Touches m u (op u x)) (xs : List α) (s : State) :
    Touches m s (xs.foldl op s) := by
  induction xs generalizing s with
  | nil => exact Touches.refl
  | cons x xs ih => exact (hop s x).then (ih _) m.or_self

theorem Touches.sized {m : Parts} {s t : State} (h : Touches m s t) (hs : s.sized = true) : t.sized = true :=
  (sized_iff_lens t).2 (h.lens.trans ((sized_iff_lens s).1 hs))

/-- What hangs on none of the parts touched is as before. -/
theorem Touches.keeps {α : Type} {m : Parts} {s t : State} (h : Touches m s t) (g : State → α)
    (hg : ∀ u v : State, g (State.take m u v) = g v := by exact fun _ _ => rfl) : g t = g s := by
  rw [← h.same, hg]

/-- The parts of `s` put back into what an operation has made of it. -/
theorem Touches.back {m : Parts} {s t : State} (h : Touches m s t) : State.take m s t = s := by
  rw [← h.same]
  simp only [State.take, cond_cond_self, Phy.take_back]

/-- A command that has touched the parts `m` and has sent what it sent: those parts and what is sent put back. -/
theorem Touches.back_begin {m : Parts} {s t : State} (h : Touches m s.begin_ t) (hp : m.pcs = false := by rfl) :
    { State.take m s t with out := s.out, phy := s.phy.still t.phy } = s := by
  have e : t.phy.pcs = s.phy.pcs := by
    rw [← h.same]
    simp only [State.take, Phy.take, hp, cond_false]
    rfl
  have g := congrArg (fun x : State => { x with out := s.out, phy := s.phy }) h.back
  rw [Phy.still, e]
  exact g

/-- The state in which a command ends where it has changed neither a memory, nor OTP, nor the timebase, nor the queue. -/
theorem Touches.done_eq {m : Parts} {s t : State} (h : Touches m s.begin_ t)
    (hm : (m.pending || m.tb || m.otp || m.dram || m.flash || m.sram) = false := by rfl) : done s t = .next t := by
  simp only [Bool.or_eq_false_iff] at hm
  obtain ⟨⟨⟨⟨⟨h1, h2⟩, h3⟩, h4⟩, h5⟩, h6⟩ := hm
  have e : t = State.take m t s.begin_ := h.same.symm
  rw [e]
  simp only [done, finish, State.take, h1, h2, h3, h4, h5, h6, cond_false]
  rfl

end Sys2Proof.Machine

/-! PROOFS. What the shared operations touch. -/

namespace Sys2Proof.Machine

-- One theorem after the other: many at once ask for too many threads.
set_option Elab.async false

/-- The registers and the event queues. -/
abbrev Parts.events : Parts := { regs := true, evq := true }

/-! ## Registers that an operation keeps -/

/-- Every register outside `A` and the event machinery reads in `t` as in `s`. -/
def KeepsRegs (A : Nat → Prop) (s t : State) : Prop := ∀ b, ¬ A b → ¬ eventReg b → t.reg b = s.reg b

theorem KeepsRegs.of_regs {A : Nat → Prop} {s t : State} (h : t.regs = s.regs) : KeepsRegs A s t := fun b _ _ => reg_congr h b

theorem KeepsRegs.trans {A : Nat → Prop} {s t u : State} (h : KeepsRegs A s t) (g : KeepsRegs A t u) : KeepsRegs A s u :=
  fun b ha he => (g b ha he).trans (h b ha he)

theorem KeepsRegs.mono {A B : Nat → Prop} {s t : State} (h : KeepsRegs A s t) (hAB : ∀ b, A b → B b) : KeepsRegs B s t :=
  fun b hb he => h b (fun ha => hb (hAB b ha)) he

theorem KeepsRegs.ite {A : Nat → Prop} {s t u : State} {c : Prop} [Decidable c] (h : c → KeepsRegs A s t)
    (g : ¬ c → KeepsRegs A s u) : KeepsRegs A s (if c then t else u) := by
  split
  · exact h ‹_›
  · exact g ‹_›

theorem KeepsRegs.foldl {α : Type} {A : Nat → Prop} {op : State → α → State} (hop : ∀ u x, KeepsRegs A u (op u x))
    (xs : List α) (s : State) : KeepsRegs A s (xs.foldl op s) := by
  induction xs generalizing s with
  | nil => exact KeepsRegs.of_regs rfl
  | cons x xs ih => exact (hop s x).trans (ih _)

theorem RegsOnly.keepsRegs {A : Nat → Prop} {s t : State} (h : RegsOnly A s t) : KeepsRegs A s t := h.2

theorem KeepsRegs.kept {A : List Nat} {s t : State} (h : KeepsRegs (· ∈ A) s t) : RegFile.kept A s.regs t.regs :=
  fun b hb h1 h2 => h b hb (by rintro (⟨i, hi, e⟩ | ⟨i, hi, e⟩); exacts [h1 i hi e, h2 i hi e])

theorem raise_keepsRegs (A : Nat → Prop) (src : Nat) (s : State) (h : src < 512) : KeepsRegs A s (raise src s) :=
  (regsOnly_raise A src s h).keepsRegs

/-! ## Registers and events -/

theorem State.setReg_touches (s : State) (a : Nat) (w : Word) : Touches { regs := true } s (s.setReg a w) := ⟨rfl, rfl⟩
theorem State.setN_touches (s : State) (a x : Nat) : Touches { regs := true } s (s.setN a x) := ⟨rfl, rfl⟩
theorem State.fset_touches (s : State) (a hi lo x : Nat) : Touches { regs := true } s (s.fset a hi lo x) := ⟨rfl, rfl⟩
theorem State.setFlag_touches (s : State) (a i : Nat) (b : Bool) : Touches { regs := true } s (s.setFlag a i b) := ⟨rfl, rfl⟩
theorem stick_touches (a i : Nat) (s : State) : Touches { regs := true } s (stick a i s) := ⟨rfl, rfl⟩

theorem pushEvent_touches (s : State) (src t : Nat) : Touches .events s (pushEvent s src t).1 := by
  unfold pushEvent
  dsimp only
  split
  · exact ⟨rfl, by simp only [State.lens, modAt, List.length_modify]⟩
  · exact (State.setN_touches s _ _).mono

theorem raiseFuel_touches (fuel : Nat) (s : State) (src : Nat) : Touches .events s (raiseFuel fuel s src) := by
  induction fuel generalizing s src with
  | zero => exact Touches.refl
  | succ fuel ih =>
    refine ((State.setFlag_touches s _ _ _).mono).then (n := .events) (Touches.foldl (fun u t => ?_) _ _)
    refine Touches.ite (fun _ => ?_) fun _ => Touches.refl
    exact Touches.ite (fun _ => (pushEvent_touches u src t).then (ih _ _)) fun _ => pushEvent_touches u src t

theorem raise_touches (src : Nat) (s : State) : Touches .events s (raise src s) := raiseFuel_touches 14 s src

theorem bumpW_touches (w a : Nat) (s : State) : Touches .events s (bumpW w a s) :=
  Touches.ite (fun _ => ((State.setN_touches s _ _).mono).then (raise_touches _ _)) fun _ => (State.setN_touches s _ _).mono

theorem bump_touches (a : Nat) (s : State) : Touches .events s (bump a s) := bumpW_touches 24 a s

theorem logFull_touches (cls : Nat) (s : State) : Touches .events s (logFull cls s) :=
  Touches.ite (fun _ => Touches.refl) fun _ => ((State.setFlag_touches s _ _ _).mono).then (raise_touches _ _)

theorem logBump_touches (w a cls : Nat) (s : State) : Touches .events s (logBump w a cls s) :=
  Touches.ite (fun _ => logFull_touches cls s) fun _ =>
    Touches.ite (fun _ => ((State.setN_touches s _ _).mono).then (logFull_touches cls _)) fun _ => (State.setN_touches s _ _).mono

theorem logBump40_touches (lo hi cls : Nat) (s : State) : Touches .events s (logBump40 lo hi cls s) := by
  have key : ∀ x y, Touches .events s ((s.setN lo x).fset hi 7 0 y) := fun x y =>
    ((State.setN_touches s lo x).mono).then (State.fset_touches _ hi 7 0 y)
  exact Touches.ite (fun _ => logFull_touches cls s) fun _ =>
    Touches.ite (fun _ => (key _ _).then (logFull_touches cls _)) fun _ => key _ _

theorem logFault_touches (f : FaultRec) (s : State) : Touches .events s (logFault f s) := by
  have key : ∀ i x1 x2 x3 x4 : Nat, Touches .events s (((((s.setReg (Reg.faultLogW0 i) s.tbNs).setN (Reg.faultLogW1 i) x1).setN
      (Reg.faultLogW2 i) x2).setN (Reg.faultLogW3 i) x3).fset Reg.faultHead 5 0 x4) := fun i x1 x2 x3 x4 =>
    ⟨rfl, rfl⟩
  exact (Touches.ite (fun _ => (key _ _ _ _ _).then (bump_touches _ _)) fun _ =>
    (key _ _ _ _ _).then (State.fset_touches _ _ _ _ _)).then (raise_touches _ _)

/-! ## Units and what is declared -/

theorem State.setStn_touches (s : State) (n : Nat) (f : Stn → Stn) : Touches { stations := true } s (s.setStn n f) :=
  ⟨rfl, by simp only [State.lens, State.setStn, modAt, List.length_modify]⟩
theorem State.setTile_touches (s : State) (k : Nat) (f : Tile → Tile) : Touches { tiles := true } s (s.setTile k f) :=
  ⟨rfl, by simp only [State.lens, State.setTile, modAt, List.length_modify]⟩
theorem State.setOdo_touches (s : State) (c : Nat) (f : Odo → Odo) : Touches { odo := true } s (s.setOdo c f) :=
  ⟨rfl, by simp only [State.lens, State.setOdo, modAt, List.length_modify]⟩
theorem State.setRef_touches (s : State) (n : Nat) (f : Ref → Ref) : Touches { refs := true } s (s.setRef n f) :=
  ⟨rfl, by simp only [State.lens, State.setRef, modAt, List.length_modify]⟩
theorem State.setFio_touches (s : State) (c : Nat) (f : Fio → Fio) : Touches { fio := true } s (s.setFio c f) :=
  ⟨rfl, by simp only [State.lens, State.setFio, modAt, List.length_modify]⟩
theorem State.setCam_touches (s : State) (c : Nat) (f : Cam → Cam) : Touches { cams := true } s (s.setCam c f) :=
  ⟨rfl, by simp only [State.lens, State.setCam, modAt, List.length_modify]⟩
theorem State.setLane_touches (s : State) (k : Nat) (f : Lane → Lane) : Touches { lanes := true } s (s.setLane k f) :=
  ⟨rfl, by simp only [State.lens, State.setLane, modAt, List.length_modify]⟩
theorem State.setLink_touches (s : State) (l : Nat) (f : Link → Link) : Touches { links := true } s (s.setLink l f) :=
  ⟨rfl, by simp only [State.lens, State.setLink, modAt, List.length_modify]⟩
theorem State.setGroup_touches (s : State) (g : Nat) (f : Group → Group) : Touches { groups := true } s (s.setGroup g f) :=
  ⟨rfl, by simp only [State.lens, State.setGroup, modAt, List.length_modify]⟩
theorem State.setBale_touches (s : State) (id : Nat) (f : Bale → Bale) : Touches { bales := true } s (s.setBale id f) := ⟨rfl, rfl⟩
theorem State.setMile_touches (s : State) (e : Nat) (f : Mile → Mile) : Touches { miles := true } s (s.setMile e f) := ⟨rfl, rfl⟩
theorem State.setEp_touches (s : State) (l a : Nat) (f : Ep → Ep) : Touches { eps := true } s (s.setEp l a f) := ⟨rfl, rfl⟩
theorem State.setSnap_touches (s : State) (ini : Nat) (f : Snap → Snap) : Touches { snaps := true } s (s.setSnap ini f) :=
  ⟨rfl, by simp only [State.lens, State.setSnap, modAt, List.length_modify]⟩
theorem State.setCore_touches (s : State) (c : Nat) (f : AppCore → AppCore) : Touches { cores := true } s (s.setCore c f) :=
  ⟨rfl, by simp only [State.lens, State.setCore, modAt, List.length_modify]⟩
theorem State.setUart_touches (s : State) (u : Nat) (f : Uart → Uart) : Touches { uart := true } s (s.setUart u f) :=
  ⟨rfl, by simp only [State.lens, State.setUart, modAt, List.length_modify]⟩
theorem State.setI2c_touches (s : State) (i : Nat) (f : I2c → I2c) : Touches { i2c := true } s (s.setI2c i f) :=
  ⟨rfl, by simp only [State.lens, State.setI2c, modAt, List.length_modify]⟩
theorem takeFree_touches (s : State) : Touches { free := true } s (takeFree s).2 := ⟨rfl, rfl⟩

theorem mbPut_touches (n type : Nat) (payload : List Dword) (s : State) :
    Touches { regs := true, evq := true, mbox := true } s (mbPut n type payload s) := by
  have key : ∀ f, Touches { regs := true, evq := true, mbox := true } s { s with mbox := modAt s.mbox n f } := fun f =>
    ⟨rfl, by simp only [State.lens, modAt, List.length_modify]⟩
  exact Touches.ite (fun _ => (key _).then (raise_touches _ _)) fun _ => (key _).then (bump_touches _ _)

/-! ## Field outputs -/

/-- The field channels, their valve-cycle counters and the events of a full counter. -/
abbrev Parts.outputs : Parts := { regs := true, evq := true, fio := true }

theorem countCycle_touches (ch : Nat) (s : State) : Touches .events s (countCycle ch s) := logBump40_touches _ _ _ s

theorem turnOn_touches (ch : Nat) (s : State) : Touches .outputs s (turnOn ch s) :=
  Touches.ite (fun _ => ((State.setFio_touches s _ _).mono).then (countCycle_touches ch _)) fun _ => (State.setFio_touches s _ _).mono

theorem turnOff_touches (ch : Nat) (s : State) : Touches { fio := true } s (turnOff ch s) := State.setFio_touches s _ _

theorem driveStopLine_touches (s : State) : Touches .outputs s (driveStopLine s) :=
  Touches.foldl (fun u f => Touches.ite (fun _ => turnOn_touches f.ch u) fun _ =>
    Touches.ite (fun _ => (turnOff_touches f.ch u).mono) fun _ => Touches.refl) _ s

theorem assertStop_touches (n cause : Nat) (s : State) :
    Touches { regs := true, evq := true, fio := true, stations := true } s (assertStop n cause s) :=
  ((State.setStn_touches s _ _).mono).then (driveStopLine_touches _)

/-! ## Lanes and packets -/

theorem emitBlock_touches (k : Nat) (ctl : Bool) (sent : Nat) (s : State) : Touches { phy := true } s (emitBlock k ctl sent s) := by
  refine ⟨?_, rfl⟩
  unfold emitBlock
  split
  · rfl
  · split <;> rfl

theorem laneBlock_touches (k : Nat) (b : Block) (s : State) : Touches { phy := true } s (laneBlock k b s) :=
  (⟨rfl, rfl⟩ : Touches { phy := true } s { s with phy := { s.phy with
    scr := modAt s.phy.scr k fun _ => some (scramble 64 ((s.phy.scr.getD k none).getD (Config.scrambler k s.phy.starts).toNat) b.2).2
    starts := s.phy.starts + 1 } }).then (emitBlock_touches k b.1 _ _)

theorem laneSkip_touches (k : Nat) (s : State) : Touches { phy := true } s (laneSkip k s) := emitBlock_touches k _ _ s

theorem streamBlock_touches (l : Nat) (s : State) (b : Block) : Touches { phy := true } s (streamBlock l s b) := by
  unfold streamBlock
  dsimp only
  refine Touches.ite (fun _ => Touches.refl) fun _ => Touches.then ?_ (laneBlock_touches _ b _)
  exact ⟨rfl, rfl⟩

theorem streamBlocks_touches (l : Nat) (bs : List Block) (s : State) : Touches { phy := true } s (streamBlocks l bs s) :=
  Touches.foldl (fun u b => streamBlock_touches l u b) bs s

theorem showReplay_touches (l : Nat) (s : State) : Touches { regs := true } s (showReplay l s) := State.fset_touches s _ _ _ _

theorem stampRequest_touches (l type dest : Nat) (payload : List Dword) (s : State) :
    Touches { eps := true } s (stampRequest l type dest payload s) :=
  Touches.ite (fun _ => State.setEp_touches s _ _ _) fun _ => Touches.refl

/-- What a packet changes as it leaves or waits: the link, its replay count, its lanes, what was sent, and a time exchange. -/
abbrev Parts.packets : Parts := { regs := true, eps := true, links := true, phy := true, out := true }

theorem startPacket_touches (l vc type dest : Nat) (payload : List Dword) (s : State) :
    Touches .packets s (startPacket l vc type dest payload s) := by
  unfold startPacket
  dsimp only
  refine Touches.then ?_ (streamBlocks_touches l _ _)
  refine Touches.then ?_ (showReplay_touches l _)
  refine Touches.then (n := { out := true }) ?_ ⟨rfl, rfl⟩
  exact ((stampRequest_touches l type dest _ s).mono).then (State.setLink_touches _ l _)

theorem serveLink_touches (l fuel : Nat) (s : State) : Touches .packets s (serveLink l fuel s) := by
  induction fuel generalizing s with
  | zero => exact Touches.refl
  | succ fuel ih =>
    unfold serveLink
    split
    · exact Touches.refl
    · exact ((((State.setLink_touches s l _).mono).then (State.setLink_touches _ l _)).then
        (startPacket_touches l _ _ _ _ _)).then (ih _)

theorem sendFor_touches (stn group : Option Nat) (l vc type dest : Nat) (payload : List Dword) (s : State) :
    Touches .packets s (sendFor stn group l vc type dest payload s) :=
  Touches.ite (fun _ => Touches.refl) fun _ =>
    Touches.ite (fun _ => startPacket_touches l vc type dest payload s) fun _ => (State.setLink_touches s l _).mono

theorem sendPacket_touches (l vc type dest : Nat) (payload : List Dword) (s : State) :
    Touches .packets s (sendPacket l vc type dest payload s) := sendFor_touches none none l vc type dest payload s

theorem drain_touches (l : Nat) (s : State) : Touches .packets s (drain l s) :=
  Touches.ite (fun _ => Touches.refl) fun _ => serveLink_touches l _ s

theorem deliver_touches (l type addr : Nat) (ws : List Nat) (s : State) : Touches { out := true } s (deliver l type addr ws s) :=
  ⟨rfl, rfl⟩

end Sys2Proof.Machine

/-! PROOFS. The application cores, the UARTs, the I2C controllers, GPIO and the boundary-scan port (O49, O50). -/

namespace Sys2Proof.Machine

-- One theorem after the other: many at once ask for too many threads.
set_option Elab.async false

/-! ## What each command's operation touches -/

theorem kickCores_touches (mask : Nat) (s : State) : Touches { cores := true } s (kickCores mask s) :=
  ⟨rfl, by simp [State.lens, kickCores, indexed]⟩

theorem appStart_touches (ini mask : Nat) (s : State) : Touches { cores := true } s (appStart ini mask s) :=
  Touches.ite (fun _ => ⟨rfl, by simp [State.lens, indexed]⟩) fun _ => Touches.refl

theorem wdogKick_touches (key mask : Nat) (s : State) : Touches { cores := true } s (wdogKick key mask s) :=
  Touches.ite (fun _ => kickCores_touches mask s) fun _ => Touches.refl

theorem mtimecmpWrite_touches (c : Nat) (v : Word) (s : State) :
    Touches { regs := true, cores := true } s (mtimecmpWrite c v s) :=
  ((State.setReg_touches s _ _).mono).then (State.setCore_touches _ _ _)

theorem uartRead_touches (u : Nat) (s : State) : Touches { uart := true } s (uartRead u s).2 := by
  unfold uartRead
  split
  · exact State.setUart_touches s _ _
  · exact Touches.refl

theorem uartWrite_touches (u : Nat) (b : Byte) (s : State) : Touches { uart := true } s (uartWrite u b s) :=
  Touches.ite (fun _ => State.setUart_touches s _ _) fun _ => Touches.refl

theorem i2cPush_touches (i : Nat) (c : I2cOp) (s : State) : Touches { i2c := true } s (i2cPush i c s) :=
  Touches.ite (fun _ => State.setI2c_touches s _ _) fun _ => Touches.refl

theorem i2cRead_touches (i : Nat) (s : State) : Touches { i2c := true } s (i2cRead i s).2 := by
  unfold i2cRead
  split
  · exact State.setI2c_touches s _ _
  · exact Touches.refl

theorem scanChain_touches (shift : List Bool) (s : State) : Touches { scan := true, free := true } s (scanChain shift s) :=
  ⟨rfl, rfl⟩

/-! ## Cores -/

theorem getD_map_indexed {α β : Type} (xs : List α) (f : Nat × α → β) {i : Nat} (d : α) (e : β) (h : i < xs.length) :
    ((indexed xs).map f).getD i e = f (i, xs.getD i d) := by
  rw [List.getD_eq_getElem _ _ (by simpa [indexed] using h), List.getD_eq_getElem _ _ h]
  simp [indexed]

theorem core_appStart {s : State} (mask : Nat) {c : Nat} (hr : s.running = true) (h0 : (s.core 0).run = true)
    (hc : c < s.cores.length) : (appStart 0 mask s).core c =
      if 1 ≤ c ∧ mask.testBit c = true ∧ (s.core c).run = false then { s.core c with run := true, kick := s.now }
      else s.core c := by
  unfold appStart
  rw [if_pos (by simp [hr, h0]), State.core, getD_map_indexed _ _ ⟨false, 0, 0, 0, 0xFFFFFFFFFFFFFFFF⟩ _ hc]
  refine if_congr ?_ rfl rfl
  simp only [State.core, bitAt_eq_testBit, Bool.and_eq_true, decide_eq_true_eq, Bool.not_eq_true', and_assoc]

theorem core_wdogKick {s : State} (key mask : Nat) {c : Nat} (hc : c < s.cores.length) : (wdogKick key mask s).core c =
    if key % 256 = 0x4B ∧ mask.testBit c = true ∧ (s.core c).run = true then { s.core c with kick := s.now }
    else s.core c := by
  unfold wdogKick
  by_cases hk : key % 256 = 0x4B
  · rw [if_pos (by simpa using hk), State.core, kickCores, getD_map_indexed _ _ ⟨false, 0, 0, 0, 0xFFFFFFFFFFFFFFFF⟩ _ hc]
    simp only [State.core, bitAt_eq_testBit, Bool.and_eq_true, hk, true_and]
  · rw [if_neg (by simpa using hk), if_neg fun h => hk h.1]

theorem State.sized_cores {s : State} (h : s.sized = true) : s.cores.length = 4 := by
  simp only [State.sized, Bool.and_eq_true, beq_iff_eq] at h
  omega

theorem core_setCore_same {s : State} {c : Nat} (f : AppCore → AppCore) (h : c < s.cores.length) :
    (s.setCore c f).core c = f (s.core c) := getD_modAt_same f _ h

theorem core_setCore_ne (s : State) {c k : Nat} (f : AppCore → AppCore) (h : k ≠ c) : (s.setCore c f).core k = s.core k :=
  getD_modAt_ne s.cores f _ h

theorem ofNat_two_words (a b : Word) : BitVec.ofNat 64 (a.toNat * 2 ^ 32 + b.toNat) = a ++ b := by
  apply BitVec.eq_of_toNat_eq
  rw [BitVec.toNat_append, BitVec.toNat_ofNat, Nat.shiftLeft_eq, Nat.mul_comm, ← Nat.two_pow_add_eq_or_of_lt b.isLt]
  have := a.isLt
  have := b.isLt
  omega

/-- A command that does nothing. -/
theorem done_unchanged (s : State) : ∃ t, done s s.begin_ = .next t ∧ State.unchanged s t :=
  ⟨s.begin_, (Touches.refl (m := {})).done_eq, (Touches.refl (m := {})).back_begin⟩

/-- Settles O49: the mask is applied to each core in turn, a compare value is its two words, and the interrupt is a message. -/
theorem coresAreReleasedTimedAndWatched : Obligations.CoresAreReleasedTimedAndWatched := by
  refine ⟨fun s mask hr h0 hs => ?_, fun s ini mask h => ?_, fun s ini key mask hs => ?_, fun s ini c v hc hs => ?_, fun s c => ?_⟩
  · have hl := State.sized_cores hs
    have hT := appStart_touches 0 mask s.begin_
    refine ⟨_, hT.done_eq, hT.back_begin, ?_, fun c h1 h4 => ?_⟩
    · exact (core_appStart (s := s.begin_) mask hr h0 (by rw [State.begin__cores]; omega)).trans (if_neg fun h => by omega)
    · rw [core_appStart (s := s.begin_) mask hr h0 (by rw [State.begin__cores]; omega)]
      simp only [h1, true_and]
      rfl
  · have e : appStart ini mask s.begin_ = s.begin_ := by
      refine if_neg fun hc => ?_
      simp only [Bool.and_eq_true, beq_iff_eq] at hc
      obtain ⟨⟨hi, hr⟩, h0⟩ := hc
      rcases h with h | h | h
      · exact h hi
      · exact absurd (hr.symm.trans h) (by decide)
      · exact absurd (h0.symm.trans h) (by decide)
    obtain ⟨t, ht, hu⟩ := done_unchanged s
    exact ⟨t, (congrArg (done s) e).trans ht, hu⟩
  · have hT := wdogKick_touches key mask s.begin_
    refine ⟨_, hT.done_eq, hT.back_begin, fun c hc => ?_⟩
    exact core_wdogKick (s := s.begin_) key mask (by rw [State.begin__cores, State.sized_cores hs]; exact hc)
  · have hT := mtimecmpWrite_touches c v s.begin_
    have hl : c < (s.begin_.setReg (Reg.sysMtimecmpLo c) v).cores.length := by
      rw [State.sized_cores (s := s.begin_.setReg _ v) hs]; exact hc
    refine ⟨_, hT.done_eq, ?_, State.reg_setReg _ _ _, fun k hk => core_setCore_ne _ _ hk, ?_⟩
    · rw [mtimecmpWrite, core_setCore_same _ hl, ofNat_two_words]
      rfl
    · refine ⟨(hT.mono (m := { regs := true, evq := true, cores := true })).back_begin, KeepsRegs.kept fun b hb _ => ?_⟩
      exact State.reg_setReg_ne _ _ fun h => hb (by simp [h])
  · have key : ∀ o, Touches { out := true } s.begin_ { s.begin_ with out := o } := fun o => ⟨rfl, rfl⟩
    have hcond : (((s.begin_.core c).run && s.begin_.timerPending c) = true) ↔
        ((s.core c).run = true ∧ (s.core c).cmp.toNat ≤ s.tb.cycles.toNat) := by
      simp only [Bool.and_eq_true, State.timerPending, decide_eq_true_eq]
      rfl
    by_cases h : (s.core c).run = true ∧ (s.core c).cmp.toNat ≤ s.tb.cycles.toNat
    · refine ⟨_, (congrArg (done s) (if_pos (hcond.2 h))).trans (key _).done_eq, (key _).back_begin, (if_pos h).symm⟩
    · refine ⟨_, (congrArg (done s) (if_neg fun g => h (hcond.1 g))).trans (key []).done_eq, (key []).back_begin, (if_neg h).symm⟩

end Sys2Proof.Machine

/-! PROOFS. The UARTs, the I2C controllers, GPIO and the boundary-scan port (O50). -/

namespace Sys2Proof.Machine

-- One theorem after the other: many at once ask for too many threads.
set_option Elab.async false

theorem State.sized_uart {s : State} (h : s.sized = true) : s.uart.length = 2 := by
  simp only [State.sized, Bool.and_eq_true, beq_iff_eq] at h
  omega

theorem State.sized_i2c {s : State} (h : s.sized = true) : s.i2c.length = 2 := by
  simp only [State.sized, Bool.and_eq_true, beq_iff_eq] at h
  omega

theorem uartOf_setUart_same {s : State} {u : Nat} (f : Uart → Uart) (h : u < s.uart.length) :
    (s.setUart u f).uartOf u = f (s.uartOf u) := getD_modAt_same f _ h

theorem uartOf_setUart_ne (s : State) {u k : Nat} (f : Uart → Uart) (h : k ≠ u) : (s.setUart u f).uartOf k = s.uartOf k :=
  getD_modAt_ne s.uart f _ h

theorem i2cOf_setI2c_same {s : State} {i : Nat} (f : I2c → I2c) (h : i < s.i2c.length) :
    (s.setI2c i f).i2cOf i = f (s.i2cOf i) := getD_modAt_same f _ h

theorem i2cOf_setI2c_ne (s : State) {i k : Nat} (f : I2c → I2c) (h : k ≠ i) : (s.setI2c i f).i2cOf k = s.i2cOf k :=
  getD_modAt_ne s.i2c f _ h

theorem raise_uartOf (src : Nat) (s : State) (u : Nat) : (raise src s).uartOf u = s.uartOf u := (raise_touches src s).keeps fun x => x.uartOf u

theorem raise_i2cOf (src : Nat) (s : State) (i : Nat) : (raise src s).i2cOf i = s.i2cOf i := (raise_touches src s).keeps fun x => x.i2cOf i

theorem not_eventReg_uartStat (u : Nat) : ¬ eventReg (Reg.uartStat u) := not_eventReg (.inr (by rw [Reg.uartStat]; omega))
theorem not_eventReg_i2cStat (i : Nat) : ¬ eventReg (Reg.i2cStat i) := not_eventReg (.inr (by rw [Reg.i2cStat]; omega))

/-- The event `e` of a serial port is raised where `c` holds. -/
def raiseIf (c : Bool) (e : Nat) (s : State) : State := if c then raise e s else s

theorem raiseIf_touches (c : Bool) (e : Nat) (s : State) : Touches .events s (raiseIf c e s) :=
  Touches.ite (fun _ => raise_touches e s) fun _ => Touches.refl

theorem raiseIf_keepsRegs (A : Nat → Prop) (c : Bool) {e : Nat} (s : State) (h : e < 512) : KeepsRegs A s (raiseIf c e s) :=
  KeepsRegs.ite (fun _ => raise_keepsRegs A e s h) fun _ => KeepsRegs.of_regs rfl

theorem raiseIf_pending {c : Bool} {e : Nat} (s : State) (h : e < 512) (hc : c = true) : (raiseIf c e s).pendingEvent e = true := by
  rw [raiseIf, if_pos hc]
  exact pendingEvent_raise_self e s h

theorem raiseIf_false {c : Bool} (e : Nat) (s : State) (hc : c = false) : raiseIf c e s = s := by
  rw [raiseIf, if_neg (by simp [hc])]

theorem raiseIf_uartOf (c : Bool) (e : Nat) (s : State) (u : Nat) : (raiseIf c e s).uartOf u = s.uartOf u := (raiseIf_touches c e s).keeps fun x => x.uartOf u

theorem raiseIf_i2cOf (c : Bool) (e : Nat) (s : State) (i : Nat) : (raiseIf c e s).i2cOf i = s.i2cOf i := (raiseIf_touches c e s).keeps fun x => x.i2cOf i

/-- A sticky flag sets where `c` holds. -/
def stickIf (c : Bool) (a i : Nat) (s : State) : State := if c then stick a i s else s

theorem stickIf_touches (c : Bool) (a i : Nat) (s : State) : Touches { regs := true } s (stickIf c a i s) :=
  Touches.ite (fun _ => stick_touches a i s) fun _ => Touches.refl

theorem stickIf_keepsRegs {A : Nat → Prop} (c : Bool) {a : Nat} (i : Nat) (s : State) (h : A a) :
    KeepsRegs A s (stickIf c a i s) :=
  KeepsRegs.ite (fun _ => ((RegsOnly.refl _ s).stick i h).keepsRegs) fun _ => KeepsRegs.of_regs rfl

theorem stickIf_flag (c : Bool) (a : Nat) {i : Nat} (s : State) (h : i < 32) : (stickIf c a i s).flag a i = (s.flag a i || c) := by
  cases c
  · exact (Bool.or_false _).symm
  · exact (State.flag_setFlag _ _ _ h).trans (Bool.or_true _).symm

theorem stickIf_flag_ne (c : Bool) (a : Nat) {i j : Nat} (s : State) (h : i < 32) (hj : j ≠ i) :
    (stickIf c a i s).flag a j = s.flag a j := by
  cases c
  · rfl
  · exact State.flag_setFlag_ne _ _ h (.inr hj)

/-! ## UARTs -/

/-- A received byte in its FIFO, or the flag of the overflow; and the flag of a frame error (R1030). -/
def uartTaken (u : Nat) (b : Byte) (err : Bool) (s : State) : State :=
  let t := stickIf err (Reg.uartStat u) 1 s
  if decide (64 ≤ (s.uartOf u).rx.length) then stickIf true (Reg.uartStat u) 0 t
  else t.setUart u fun x => { x with rx := x.rx ++ [b] }

theorem exec_uartRxByte (u : Nat) (b : Byte) (err : Bool) (s : State) : exec (.uartRxByte u b err) s =
    done s (raiseIf ((s.uartOf u).rx.length == 0 || decide (64 ≤ (s.uartOf u).rx.length) || err) (477 + u)
      (uartTaken u b err s.begin_)) := rfl

theorem uartTaken_full (u : Nat) (b : Byte) (err : Bool) {s : State} (h : 64 ≤ (s.uartOf u).rx.length) :
    uartTaken u b err s = stickIf true (Reg.uartStat u) 0 (stickIf err (Reg.uartStat u) 1 s) := if_pos (by simpa using h)

theorem uartTaken_room (u : Nat) (b : Byte) (err : Bool) {s : State} (h : (s.uartOf u).rx.length < 64) :
    uartTaken u b err s = (stickIf err (Reg.uartStat u) 1 s).setUart u fun x => { x with rx := x.rx ++ [b] } :=
  if_neg (by simpa using h)

theorem uartTaken_touches (u : Nat) (b : Byte) (err : Bool) (s : State) :
    Touches { regs := true, evq := true, uart := true } s (uartTaken u b err s) :=
  Touches.ite (fun _ => ((stickIf_touches _ _ _ s).mono).then (stickIf_touches _ _ _ _)) fun _ =>
    ((stickIf_touches _ _ _ s).mono).then (State.setUart_touches _ _ _)

theorem uartTaken_keepsRegs (u : Nat) (b : Byte) (err : Bool) (s : State) :
    KeepsRegs (· ∈ [Reg.uartStat u]) s (uartTaken u b err s) :=
  KeepsRegs.ite (fun _ => (stickIf_keepsRegs _ _ _ List.mem_cons_self).trans (stickIf_keepsRegs _ _ _ List.mem_cons_self))
    fun _ => (stickIf_keepsRegs _ _ _ List.mem_cons_self).trans (KeepsRegs.of_regs rfl)

theorem uartTaken_flags (u : Nat) (b : Byte) (err : Bool) (s : State) :
    (uartTaken u b err s).flag (Reg.uartStat u) 0 = (s.flag (Reg.uartStat u) 0 || decide (64 ≤ (s.uartOf u).rx.length)) ∧
    (uartTaken u b err s).flag (Reg.uartStat u) 1 = (s.flag (Reg.uartStat u) 1 || err) := by
  have h0 : (stickIf err (Reg.uartStat u) 1 s).flag (Reg.uartStat u) 0 = s.flag (Reg.uartStat u) 0 :=
    stickIf_flag_ne _ _ _ (by norm_num) (by norm_num)
  have h1 : (stickIf err (Reg.uartStat u) 1 s).flag (Reg.uartStat u) 1 = (s.flag (Reg.uartStat u) 1 || err) :=
    stickIf_flag _ _ _ (by norm_num)
  by_cases hf : 64 ≤ (s.uartOf u).rx.length
  · rw [uartTaken_full u b err hf, stickIf_flag _ _ _ (by norm_num), h0, stickIf_flag_ne _ _ _ (by norm_num) (by norm_num), h1,
      decide_eq_true hf]
    exact ⟨rfl, rfl⟩
  · rw [uartTaken_room u b err (by omega), decide_eq_false hf, Bool.or_false]
    exact ⟨h0, h1⟩

theorem uartTaken_uartOf {u : Nat} (b : Byte) (err : Bool) {s : State} (h : u < s.uart.length) :
    (uartTaken u b err s).uartOf u =
      { s.uartOf u with rx := if (s.uartOf u).rx.length < 64 then (s.uartOf u).rx ++ [b] else (s.uartOf u).rx } := by
  have e : (stickIf err (Reg.uartStat u) 1 s).uart = s.uart := by rw [stickIf]; split <;> rfl
  have e' : (stickIf err (Reg.uartStat u) 1 s).uartOf u = s.uartOf u := by rw [State.uartOf, e, State.uartOf]
  by_cases hf : (s.uartOf u).rx.length < 64
  · rw [uartTaken_room u b err hf, uartOf_setUart_same _ (e ▸ h), e', if_pos hf]
  · rw [uartTaken_full u b err (by omega), if_neg hf]
    exact e'

theorem uartTaken_uartOf_ne {u k : Nat} (b : Byte) (err : Bool) (s : State) (h : k ≠ u) :
    (uartTaken u b err s).uartOf k = s.uartOf k := by
  have e : (stickIf err (Reg.uartStat u) 1 s).uartOf k = s.uartOf k := by rw [stickIf]; split <;> rfl
  unfold uartTaken
  dsimp only
  split
  · exact e
  · rw [uartOf_setUart_ne _ _ h, e]

theorem uartRead_nil {u : Nat} {s : State} (h : (s.uartOf u).rx = []) : uartRead u s = (0, s) := by
  rw [uartRead, h]

theorem uartRead_cons {u : Nat} {s : State} {b : Byte} {r : List Byte} (h : (s.uartOf u).rx = b :: r) :
    uartRead u s = (BitVec.ofNat 32 (256 + b.toNat), s.setUart u fun x => { x with rx := r }) := by
  rw [uartRead, h]

theorem toNat_validByte (b : Byte) : (BitVec.ofNat 32 (256 + b.toNat)).toNat = 256 + b.toNat := by
  have := b.isLt
  rw [BitVec.toNat_ofNat]
  omega

theorem uartRead_data (u : Nat) (s : State) :
    (uartRead u s).1.toNat = match (s.uartOf u).rx with | b :: _ => 256 + b.toNat | [] => 0 := by
  rcases h : (s.uartOf u).rx with _ | ⟨b, r⟩
  · rw [uartRead_nil h]
    rfl
  · rw [uartRead_cons h]
    exact toNat_validByte b

theorem uartRead_uartOf {u : Nat} {s : State} (h : u < s.uart.length) :
    (uartRead u s).2.uartOf u = { s.uartOf u with rx := (s.uartOf u).rx.tail } := by
  rcases hr : (s.uartOf u).rx with _ | ⟨b, r⟩
  · rw [uartRead_nil hr, List.tail_nil, ← hr]
  · rw [uartRead_cons hr, uartOf_setUart_same _ h, List.tail_cons]

theorem uartRead_uartOf_ne {u k : Nat} (s : State) (h : k ≠ u) : (uartRead u s).2.uartOf k = s.uartOf k := by
  unfold uartRead
  split
  · exact uartOf_setUart_ne s _ h
  · rfl

theorem uartWrite_uartOf {u : Nat} (b : Byte) {s : State} (h : u < s.uart.length) : (uartWrite u b s).uartOf u =
    { s.uartOf u with tx := if (s.uartOf u).tx.length < 64 then (s.uartOf u).tx ++ [b] else (s.uartOf u).tx } := by
  unfold uartWrite
  split
  · rw [uartOf_setUart_same _ h]
  · rfl

theorem uartWrite_uartOf_ne {u k : Nat} (b : Byte) (s : State) (h : k ≠ u) : (uartWrite u b s).uartOf k = s.uartOf k := by
  unfold uartWrite
  split
  · exact uartOf_setUart_ne s _ h
  · rfl

theorem exec_uartTxByte_nil {u : Nat} {s : State} (h : (s.uartOf u).tx = []) : exec (.uartTxByte u) s = done s s.begin_ := by
  show execUartTxByte u s = _
  unfold execUartTxByte
  simp only [show (s.begin_.uartOf u).tx = [] from h]

theorem exec_uartTxByte_cons {u : Nat} {s : State} {b : Byte} {r : List Byte} (h : (s.uartOf u).tx = b :: r) :
    exec (.uartTxByte u) s =
      done s (raiseIf (r.length == 16) (477 + u) (s.begin_.setUart u fun x => { x with tx := r })) := by
  show execUartTxByte u s = _
  unfold execUartTxByte
  simp only [show (s.begin_.uartOf u).tx = b :: r from h]
  rfl

/-! ## I2C -/

/-- What the command `op` does as it completes, and the NACK flag of a write that is not acknowledged (R1031). -/
def i2cCompleted (i : Nat) (rx : Byte) (nack : Bool) (op : I2cOp) (s : State) : State :=
  match op with
  | .start => s.setI2c i fun x => { x with busy := true }
  | .stop => s.setI2c i fun x => { x with busy := false }
  | .write _ => stickIf nack (Reg.i2cStat i) 3 s
  | _ => s.setI2c i fun x => { x with rx := x.rx ++ [rx] }

/-- The command is a write that was not acknowledged. -/
def I2cOp.failed (nack : Bool) : I2cOp → Bool
  | .write _ => nack
  | _ => false

theorem I2cOp.failed_iff (nack : Bool) (op : I2cOp) : op.failed nack = true ↔ (nack = true ∧ ∃ b, op = .write b) := by
  cases op <;> simp [I2cOp.failed]

theorem exec_i2cCmdDone_nil {i : Nat} (rx : Byte) (nack : Bool) {s : State} (h : (s.i2cOf i).cmds = []) :
    exec (.i2cCmdDone i rx nack) s = done s s.begin_ := by
  show execI2cCmdDone i rx nack s = _
  unfold execI2cCmdDone
  simp only [show (s.begin_.i2cOf i).cmds = [] from h]

theorem exec_i2cCmdDone_cons {i : Nat} (rx : Byte) (nack : Bool) {s : State} {op : I2cOp} {rest : List I2cOp}
    (h : (s.i2cOf i).cmds = op :: rest) : exec (.i2cCmdDone i rx nack) s =
      done s (raiseIf (rest.isEmpty || op.failed nack) (479 + i)
        (i2cCompleted i rx nack op (s.begin_.setI2c i fun x => { x with cmds := rest }))) := by
  show execI2cCmdDone i rx nack s = _
  unfold execI2cCmdDone
  simp only [show (s.begin_.i2cOf i).cmds = op :: rest from h]
  cases op <;> rfl

theorem i2cCompleted_touches (i : Nat) (rx : Byte) (nack : Bool) (op : I2cOp) (s : State) :
    Touches { regs := true, evq := true, i2c := true } s (i2cCompleted i rx nack op s) := by
  unfold i2cCompleted
  split
  · exact (State.setI2c_touches s _ _).mono
  · exact (State.setI2c_touches s _ _).mono
  · exact (stickIf_touches _ _ _ s).mono
  · exact (State.setI2c_touches s _ _).mono

theorem i2cCompleted_keepsRegs (i : Nat) (rx : Byte) (nack : Bool) (op : I2cOp) (s : State) :
    KeepsRegs (· ∈ [Reg.i2cStat i]) s (i2cCompleted i rx nack op s) := by
  unfold i2cCompleted
  split
  · exact KeepsRegs.of_regs rfl
  · exact KeepsRegs.of_regs rfl
  · exact stickIf_keepsRegs _ _ _ List.mem_cons_self
  · exact KeepsRegs.of_regs rfl

theorem i2cCompleted_plain {nack : Bool} {op : I2cOp} (i : Nat) (rx : Byte) (s : State) (h : op.failed nack = false) :
    (i2cCompleted i rx nack op s).regs = s.regs ∧ (i2cCompleted i rx nack op s).evq = s.evq := by
  unfold i2cCompleted
  split
  · exact ⟨rfl, rfl⟩
  · exact ⟨rfl, rfl⟩
  · rw [show nack = false from h]
    exact ⟨rfl, rfl⟩
  · exact ⟨rfl, rfl⟩

theorem i2cCompleted_nack {nack : Bool} {op : I2cOp} (i : Nat) (rx : Byte) (s : State) (h : op.failed nack = true) :
    (i2cCompleted i rx nack op s).flag (Reg.i2cStat i) 3 = true := by
  obtain ⟨hn, b, rfl⟩ := (I2cOp.failed_iff nack op).1 h
  exact (stickIf_flag nack _ s (by norm_num)).trans (by rw [hn, Bool.or_true])

theorem i2cCompleted_i2cOf {i : Nat} (rx : Byte) (nack : Bool) (op : I2cOp) {s : State} (h : i < s.i2c.length) :
    (i2cCompleted i rx nack op s).i2cOf i = { s.i2cOf i with
      rx := if op = .readAck ∨ op = .readNack then (s.i2cOf i).rx ++ [rx] else (s.i2cOf i).rx
      busy := if op = .start then true else if op = .stop then false else (s.i2cOf i).busy } := by
  have e : ∀ s : State, (stickIf nack (Reg.i2cStat i) 3 s).i2cOf i = s.i2cOf i := fun s => by rw [stickIf]; split <;> rfl
  cases op <;> simp [i2cCompleted, i2cOf_setI2c_same _ h, e]

theorem i2cCompleted_i2cOf_ne {i k : Nat} (rx : Byte) (nack : Bool) (op : I2cOp) (s : State) (h : k ≠ i) :
    (i2cCompleted i rx nack op s).i2cOf k = s.i2cOf k := by
  have e : (stickIf nack (Reg.i2cStat i) 3 s).i2cOf k = s.i2cOf k := by rw [stickIf]; split <;> rfl
  unfold i2cCompleted
  split
  · exact i2cOf_setI2c_ne s _ h
  · exact i2cOf_setI2c_ne s _ h
  · exact e
  · exact i2cOf_setI2c_ne s _ h

theorem i2cPush_i2cOf {i : Nat} (op : I2cOp) {s : State} (h : i < s.i2c.length) : (i2cPush i op s).i2cOf i =
    { s.i2cOf i with cmds := if (s.i2cOf i).cmds.length < 16 then (s.i2cOf i).cmds ++ [op] else (s.i2cOf i).cmds } := by
  unfold i2cPush
  split
  · rw [i2cOf_setI2c_same _ h]
  · rfl

theorem i2cPush_i2cOf_ne {i k : Nat} (op : I2cOp) (s : State) (h : k ≠ i) : (i2cPush i op s).i2cOf k = s.i2cOf k := by
  unfold i2cPush
  split
  · exact i2cOf_setI2c_ne s _ h
  · rfl

theorem i2cRead_nil {i : Nat} {s : State} (h : (s.i2cOf i).rx = []) : i2cRead i s = (0, s) := by
  rw [i2cRead, h]

theorem i2cRead_cons {i : Nat} {s : State} {b : Byte} {r : List Byte} (h : (s.i2cOf i).rx = b :: r) :
    i2cRead i s = (BitVec.ofNat 32 (256 + b.toNat), s.setI2c i fun x => { x with rx := r }) := by
  rw [i2cRead, h]

theorem i2cRead_data (i : Nat) (s : State) :
    (i2cRead i s).1.toNat = match (s.i2cOf i).rx with | b :: _ => 256 + b.toNat | [] => 0 := by
  rcases h : (s.i2cOf i).rx with _ | ⟨b, r⟩
  · rw [i2cRead_nil h]
    rfl
  · rw [i2cRead_cons h]
    exact toNat_validByte b

theorem i2cRead_i2cOf {i : Nat} {s : State} (h : i < s.i2c.length) :
    (i2cRead i s).2.i2cOf i = { s.i2cOf i with rx := (s.i2cOf i).rx.tail } := by
  rcases hr : (s.i2cOf i).rx with _ | ⟨b, r⟩
  · rw [i2cRead_nil hr, List.tail_nil, ← hr]
  · rw [i2cRead_cons hr, i2cOf_setI2c_same _ h, List.tail_cons]

theorem i2cRead_i2cOf_ne {i k : Nat} (s : State) (h : k ≠ i) : (i2cRead i s).2.i2cOf k = s.i2cOf k := by
  unfold i2cRead
  split
  · exact i2cOf_setI2c_ne s _ h
  · rfl

/-! ## The boundary-scan chain -/

theorem scanBalls_sysRstN : scanBalls.zipIdx[39]? = some (.sysRstN, 39) := by decide

theorem scanBalls_gpio : ∀ p < 16, scanBalls.zipIdx[20 + p]? = some (.gpio p, 20 + p) := by decide

theorem scanChain_length (shift : List Bool) (s : State) : (scanChain shift s).scan.cells.length = 53 := by
  unfold scanChain
  simp only [List.length_map]
  decide

/-- Where EXTEST drives no ball, a cell captures its ball's level. -/
theorem scanChain_cell (shift : List Bool) {s : State} {i : Nat} {q : Ball × Nat} (ht : s.tap ≠ 3)
    (hq : scanBalls.zipIdx[i]? = some q) : (scanChain shift s).scan.cells.getD i false = s.ballLevel q.2 q.1 := by
  have hd : s.scanDrives = [] := if_neg (by simpa using ht)
  unfold scanChain
  simp only [List.getD_eq_getElem?_getD, List.getElem?_map, hq, hd, List.find?_nil, Option.map_none, Option.getD_none,
    Option.map_some, Option.getD_some]

/-- The chain as BOUNDARY_SCAN_INSTRUCTION leaves it. -/
def scanned (scan i : Nat) (s : State) : State :=
  if i == 2 || i == 3 then scanChain ((List.range 53).map (bitAt (scan / 4))) s else s

/-- The instruction that is selected. -/
def scanIns (scan : Nat) (s : State) : Nat := if scan % 4 == 3 && !s.boot.rstLow then 0 else scan % 4

theorem exec_boundaryScan (scan : Nat) (s : State) : exec (.boundaryScanInstruction scan) s =
    done s { scanned scan (scanIns scan s) s.begin_ with
      tap := scanIns scan s
      rdata := if scanIns scan s == 1 then idcode else if scanIns scan s == 0 then 0
        else (scanned scan (scanIns scan s) s.begin_).rdata } := rfl

theorem scanned_touches (scan i : Nat) (s : State) : Touches { scan := true, free := true } s (scanned scan i s) :=
  Touches.ite (fun _ => scanChain_touches _ s) fun _ => Touches.refl

/-! ## The statement, a command at a time -/

theorem uartRxByte_done (s : State) (u : Nat) (b : Byte) (err : Bool) (hu : u < 2) (hs : s.sized = true) :
    ∃ t, exec (.uartRxByte u b err) s = .next t ∧
      t.uartOf u = { s.uartOf u with rx := if (s.uartOf u).rx.length < 64 then (s.uartOf u).rx ++ [b] else (s.uartOf u).rx } ∧
      t.flag (Reg.uartStat u) 0 = (s.flag (Reg.uartStat u) 0 || decide (64 ≤ (s.uartOf u).rx.length)) ∧
      t.flag (Reg.uartStat u) 1 = (s.flag (Reg.uartStat u) 1 || err) ∧
      ((s.uartOf u).rx.length = 0 ∨ 64 ≤ (s.uartOf u).rx.length ∨ err = true → t.pendingEvent (477 + u) = true) ∧
      (0 < (s.uartOf u).rx.length → (s.uartOf u).rx.length < 64 → err = false → t.regs = s.regs ∧ t.evq = s.evq) ∧
      (∀ k, k ≠ u → t.uartOf k = s.uartOf k) ∧ State.onlyRegs [Reg.uartStat u] s { t with uart := s.uart } := by
  have he : 477 + u < 512 := by omega
  have hl : u < s.begin_.uart.length := by rw [State.begin__uart, State.sized_uart hs]; exact hu
  have hT := (uartTaken_touches u b err s.begin_).then
    (raiseIf_touches ((s.uartOf u).rx.length == 0 || decide (64 ≤ (s.uartOf u).rx.length) || err) (477 + u) _)
  have hK : ∀ c, KeepsRegs (· ∈ [Reg.uartStat u]) s.begin_ (raiseIf c (477 + u) (uartTaken u b err s.begin_)) := fun c =>
    (uartTaken_keepsRegs u b err s.begin_).trans (raiseIf_keepsRegs _ c _ he)
  have hflag : ∀ c i, (raiseIf c (477 + u) (uartTaken u b err s.begin_)).flag (Reg.uartStat u) i =
      (uartTaken u b err s.begin_).flag (Reg.uartStat u) i := fun c i => by
    rw [State.flag, raiseIf_keepsRegs (fun _ => False) c _ he _ id (not_eventReg_uartStat u), State.flag]
  refine ⟨_, (exec_uartRxByte u b err s).trans hT.done_eq, ?_, ?_, ?_, fun h => ?_, fun h0 h64 hn => ?_, fun k hk => ?_,
    hT.back_begin, (hK _).kept⟩
  · rw [raiseIf_uartOf, uartTaken_uartOf b err hl]
    rfl
  · rw [hflag, (uartTaken_flags u b err s.begin_).1]
    rfl
  · rw [hflag, (uartTaken_flags u b err s.begin_).2]
    rfl
  · exact raiseIf_pending _ he (by simpa [or_assoc] using h)
  · subst hn
    rw [raiseIf_false _ _ (by rw [beq_eq_false_iff_ne.2 (by omega), decide_eq_false (by omega)]; rfl),
      uartTaken_room (s := s.begin_) u b false h64]
    exact ⟨rfl, rfl⟩
  · rw [raiseIf_uartOf, uartTaken_uartOf_ne b err _ hk]
    rfl

theorem uartTxByte_done (s : State) (u : Nat) (hu : u < 2) (hs : s.sized = true) : ∃ t, exec (.uartTxByte u) s = .next t ∧
    t.uartOf u = { s.uartOf u with tx := (s.uartOf u).tx.tail } ∧ (∀ k, k ≠ u → t.uartOf k = s.uartOf k) ∧
    ((s.uartOf u).tx.length = 17 → t.pendingEvent (477 + u) = true) ∧
    ((s.uartOf u).tx.length ≠ 17 → t.regs = s.regs ∧ t.evq = s.evq) ∧ State.onlyRegs [] s { t with uart := s.uart } := by
  have he : 477 + u < 512 := by omega
  have hl : u < s.begin_.uart.length := by rw [State.begin__uart, State.sized_uart hs]; exact hu
  rcases htx : (s.uartOf u).tx with _ | ⟨b, r⟩
  · have hT : Touches { regs := true, evq := true, uart := true } s.begin_ s.begin_ := Touches.refl
    refine ⟨_, (exec_uartTxByte_nil htx).trans hT.done_eq, ?_, fun k _ => rfl, fun h => ?_, fun _ => ⟨rfl, rfl⟩,
      hT.back_begin, KeepsRegs.kept (KeepsRegs.of_regs rfl)⟩
    · rw [List.tail_nil, ← htx]
      rfl
    · exact absurd h (by simp)
  · have hT : Touches { regs := true, evq := true, uart := true } s.begin_
        (raiseIf (r.length == 16) (477 + u) (s.begin_.setUart u fun x => { x with tx := r })) :=
      ((State.setUart_touches s.begin_ _ _).mono).then (raiseIf_touches _ _ _)
    refine ⟨_, (exec_uartTxByte_cons htx).trans hT.done_eq, ?_, fun k hk => ?_, fun h => ?_, fun h => ?_, hT.back_begin,
      KeepsRegs.kept ((KeepsRegs.of_regs rfl).trans (raiseIf_keepsRegs _ _ _ he))⟩
    · rw [raiseIf_uartOf, uartOf_setUart_same _ hl]
      rfl
    · rw [raiseIf_uartOf, uartOf_setUart_ne _ _ hk]
      rfl
    · exact raiseIf_pending _ he (by simpa using h)
    · rw [raiseIf_false _ _ (by simpa using h)]
      exact ⟨rfl, rfl⟩

theorem i2cOp_done (s : State) (ini i : Nat) (c : Instr) (op : I2cOp) (hi : i < 2) (hs : s.sized = true)
    (h : (c = .start ini i ∧ op = .start) ∨ (∃ b, c = .write ini i b ∧ op = .write b) ∨ (c = .readAck ini i ∧ op = .readAck) ∨
      (c = .readNack ini i ∧ op = .readNack) ∨ (c = .stop ini i ∧ op = .stop)) :
    ∃ t, exec c s = .next t ∧ t.i2cOf i = { s.i2cOf i with
        cmds := if (s.i2cOf i).cmds.length < 16 then (s.i2cOf i).cmds ++ [op] else (s.i2cOf i).cmds } ∧
      (∀ k, k ≠ i → t.i2cOf k = s.i2cOf k) ∧ { t with i2c := s.i2c, out := s.out, phy := s.phy.still t.phy } = s := by
  have hl : i < s.begin_.i2c.length := by rw [State.begin__i2c, State.sized_i2c hs]; exact hi
  have hT := i2cPush_touches i op s.begin_
  have e : exec c s = done s (i2cPush i op s.begin_) := by
    rcases h with ⟨rfl, rfl⟩ | ⟨b, rfl, rfl⟩ | ⟨rfl, rfl⟩ | ⟨rfl, rfl⟩ | ⟨rfl, rfl⟩ <;> rfl
  exact ⟨_, e.trans hT.done_eq, i2cPush_i2cOf op hl, fun k hk => i2cPush_i2cOf_ne op _ hk, hT.back_begin⟩

theorem i2cCmdDone_done (s : State) (i : Nat) (rx : Byte) (nack : Bool) (op : I2cOp) (rest : List I2cOp) (hi : i < 2)
    (hs : s.sized = true) (h : (s.i2cOf i).cmds = op :: rest) :
    let bad := nack = true ∧ ∃ b, op = .write b
    ∃ t, exec (.i2cCmdDone i rx nack) s = .next t ∧
      t.i2cOf i = { cmds := rest
                    rx := if op = .readAck ∨ op = .readNack then (s.i2cOf i).rx ++ [rx] else (s.i2cOf i).rx
                    busy := if op = .start then true else if op = .stop then false else (s.i2cOf i).busy } ∧
      (bad → t.flag (Reg.i2cStat i) 3 = true) ∧ (rest = [] ∨ bad → t.pendingEvent (479 + i) = true) ∧
      (rest ≠ [] → ¬ bad → t.regs = s.regs ∧ t.evq = s.evq) ∧ (∀ k, k ≠ i → t.i2cOf k = s.i2cOf k) ∧
      (¬ bad → t.reg (Reg.i2cStat i) = s.reg (Reg.i2cStat i)) ∧ State.onlyRegs [Reg.i2cStat i] s { t with i2c := s.i2c } := by
  intro bad
  have hbad : op.failed nack = true ↔ bad := I2cOp.failed_iff nack op
  have he : 479 + i < 512 := by omega
  have hl : i < s.begin_.i2c.length := by rw [State.begin__i2c, State.sized_i2c hs]; exact hi
  have hl' : i < (s.begin_.setI2c i fun x => { x with cmds := rest }).i2c.length := by
    rw [State.setI2c, modAt, List.length_modify]; exact hl
  have hT := (((State.setI2c_touches s.begin_ i fun x => { x with cmds := rest }).mono
    (m := { regs := true, evq := true, i2c := true })).then
    (i2cCompleted_touches i rx nack op _)).then (raiseIf_touches (rest.isEmpty || op.failed nack) (479 + i) _)
  have hK : KeepsRegs (· ∈ [Reg.i2cStat i]) s _ := ((KeepsRegs.of_regs rfl).trans
    (i2cCompleted_keepsRegs i rx nack op (s.begin_.setI2c i fun x => { x with cmds := rest }))).trans
    (raiseIf_keepsRegs _ (rest.isEmpty || op.failed nack)
      (i2cCompleted i rx nack op (s.begin_.setI2c i fun x => { x with cmds := rest })) he)
  have hR := fun c => raiseIf_keepsRegs (fun _ => False) c
    (i2cCompleted i rx nack op (s.begin_.setI2c i fun x => { x with cmds := rest })) he _ id (not_eventReg_i2cStat i)
  refine ⟨_, (exec_i2cCmdDone_cons rx nack h).trans hT.done_eq, ?_, fun hb => ?_, fun hb => ?_, fun hr hb => ?_, fun k hk => ?_,
    fun hb => ?_, hT.back_begin, hK.kept⟩
  · rw [raiseIf_i2cOf, i2cCompleted_i2cOf rx nack op hl', i2cOf_setI2c_same _ hl]
    rfl
  · rw [State.flag, hR, ← State.flag]
    exact i2cCompleted_nack i rx _ (hbad.2 hb)
  · refine raiseIf_pending _ he ?_
    rw [Bool.or_eq_true, List.isEmpty_iff, hbad]
    exact hb
  · have hf : op.failed nack = false := Bool.eq_false_iff.2 fun hf => hb (hbad.1 hf)
    rw [raiseIf_false _ _ (by simp [hr, hf])]
    exact i2cCompleted_plain i rx _ hf
  · rw [raiseIf_i2cOf, i2cCompleted_i2cOf_ne rx nack op _ hk, i2cOf_setI2c_ne _ _ hk]
    rfl
  · rw [hR, reg_congr (i2cCompleted_plain i rx _ (Bool.eq_false_iff.2 fun hf => hb (hbad.1 hf))).1]
    rfl

theorem modify_const_eq_set {α : Type} (xs : List α) (i : Nat) (x : α) : xs.modify i (fun _ => x) = xs.set i x := by
  refine List.ext_getElem (by simp) fun k h1 h2 => ?_
  rw [List.getElem_modify, List.getElem_set]

theorem gpioEdge_done (s : State) (pin : Nat) (lvl : Bool) (hp : pin < 16) :
    let hit := s.gpio.getD pin false ≠ lvl ∧ s.flag Reg.gpioDir pin = false ∧
      s.flag Reg.gpioEdge (if lvl = true then pin else 16 + pin) = true
    ∃ t, exec (.gpioEdge pin lvl) s = .next t ∧ t.gpio = s.gpio.set pin lvl ∧ (hit → t.pendingEvent (481 + pin) = true) ∧
      (¬ hit → t.regs = s.regs ∧ t.evq = s.evq) ∧ State.onlyRegs [] s { t with gpio := s.gpio } := by
  intro hit
  have he : 481 + pin < 512 := by omega
  let c := s.gpio.getD pin false != lvl && !s.flag Reg.gpioDir pin && s.flag Reg.gpioEdge (if lvl then pin else 16 + pin)
  have hc : c = true ↔ hit := by
    simp only [c, hit, Bool.and_eq_true, bne_iff_ne, Bool.not_eq_true', and_assoc]
  have hg : Touches { regs := true, evq := true, gpio := true } s.begin_ { s.begin_ with gpio := modAt s.gpio pin fun _ => lvl } :=
    ⟨rfl, by simp only [State.lens, modAt, List.length_modify]; rfl⟩
  have hT := hg.then (raiseIf_touches c (481 + pin) _)
  have hgpio : ∀ u : State, (raiseIf c (481 + pin) u).gpio = u.gpio := fun u => (raiseIf_touches c (481 + pin) u).keeps State.gpio
  refine ⟨_, (show exec (.gpioEdge pin lvl) s = done s (raiseIf c (481 + pin) _) from rfl).trans hT.done_eq, ?_, fun h => ?_,
    fun h => ?_, hT.back_begin, KeepsRegs.kept ((KeepsRegs.of_regs rfl).trans (raiseIf_keepsRegs _ _ _ he))⟩
  · rw [hgpio]
    exact modify_const_eq_set _ _ _
  · exact raiseIf_pending _ he (hc.2 h)
  · rw [raiseIf_false _ _ (Bool.eq_false_iff.2 fun g => h (hc.1 g))]
    exact ⟨rfl, rfl⟩

theorem boundaryScan_done (s : State) (scan : Nat) :
    let ins := scan % 4
    let shift := (List.range 53).map fun p => (scan / 4).testBit p
    ∃ t, exec (.boundaryScanInstruction scan) s = .next t ∧
    t.tap = (if ins = 3 ∧ s.boot.rstLow = false then 0 else ins) ∧ (ins = 1 → t.rdata = 0xB007256B) ∧
    (t.tap < 2 → t.scan = s.scan) ∧ (t.tap = 2 ∨ t.tap = 3 → t.scan.latch = shift ∧ t.scan.cells.length = 53 ∧
      (s.tap ≠ 3 → t.scan.cells.getD 39 false = !s.boot.rstLow ∧
        ∀ p, p < 16 → t.scan.cells.getD (20 + p) false = s.ballLevel (20 + p) (.gpio p))) ∧
    State.onlyRegs [] s { t with tap := s.tap, rdata := s.rdata, scan := s.scan, free := s.free } := by
  intro ins shift
  have hT : Touches { regs := true, evq := true, tap := true, rdata := true, scan := true, free := true } s.begin_
      { scanned scan (scanIns scan s) s.begin_ with
        tap := scanIns scan s
        rdata := if scanIns scan s == 1 then idcode else if scanIns scan s == 0 then 0
          else (scanned scan (scanIns scan s) s.begin_).rdata } :=
    ((scanned_touches scan _ s.begin_).mono).then (n := { tap := true, rdata := true }) ⟨rfl, rfl⟩
  have hregs : (scanned scan (scanIns scan s) s.begin_).regs = s.regs := by
    rw [scanned]; split <;> rfl
  have hi : scanIns scan s = if ins = 3 ∧ s.boot.rstLow = false then 0 else ins := by
    rw [scanIns]
    exact if_congr (by simp [ins]) rfl rfl
  have hshift : (List.range 53).map (bitAt (scan / 4)) = shift :=
    List.map_congr_left fun p _ => bitAt_eq_testBit _ _
  refine ⟨_, (exec_boundaryScan scan s).trans hT.done_eq, hi, fun h => ?_, fun h => ?_, fun h => ?_, hT.back_begin,
    KeepsRegs.kept (KeepsRegs.of_regs hregs)⟩
  · have h1 : scanIns scan s = 1 := by rw [hi, if_neg (by omega), h]
    exact if_pos (by rw [h1]; rfl)
  · have h2 : scanIns scan s < 2 := h
    show (scanned scan (scanIns scan s) s.begin_).scan = s.scan
    rw [scanned, if_neg (by simp; omega)]
    rfl
  · have h2 : scanned scan (scanIns scan s) s.begin_ = scanChain shift s.begin_ := by
      rw [scanned, hshift]
      exact if_pos (by simpa using h)
    refine ⟨(congrArg (fun u : State => u.scan.latch) h2 :), ?_, fun ht => ⟨?_, fun p hp => ?_⟩⟩
    · exact (congrArg (fun u : State => u.scan.cells.length) h2 :).trans (scanChain_length _ _)
    · exact (congrArg (fun u : State => u.scan.cells.getD 39 false) h2 :).trans (scanChain_cell shift ht scanBalls_sysRstN)
    · exact (congrArg (fun u : State => u.scan.cells.getD (20 + p) false) h2 :).trans
        (scanChain_cell shift ht (scanBalls_gpio p hp))

/-- Settles O50: each command of a port is an operation on that port's FIFOs, with its flag and its event. -/
theorem serialPortsGpioAndBoundaryScan : Obligations.SerialPortsGpioAndBoundaryScan := by
  refine ⟨fun s u b err hu hs => uartRxByte_done s u b err hu hs, fun s ini u hu hs => ?_, fun s ini u b hu hs => ?_,
    fun s u hu hs => uartTxByte_done s u hu hs, fun s ini i c op hi hs h => i2cOp_done s ini i c op hi hs h,
    fun s i rx nack op rest hi hs h => i2cCmdDone_done s i rx nack op rest hi hs h, fun s i rx nack h => ?_,
    fun s ini i hi hs => ?_, fun s pin lvl hp _ => gpioEdge_done s pin lvl hp, boundaryScan_done⟩
  · have hl : u < s.begin_.uart.length := by rw [State.begin__uart, State.sized_uart hs]; exact hu
    have hT : Touches { uart := true, rdata := true } s.begin_ { (uartRead u s.begin_).2 with rdata := (uartRead u s.begin_).1 } :=
      ((uartRead_touches u s.begin_).mono).then (n := { rdata := true }) ⟨rfl, rfl⟩
    exact ⟨_, hT.done_eq, uartRead_data u s.begin_, uartRead_uartOf hl, fun k hk => uartRead_uartOf_ne _ hk, hT.back_begin⟩
  · have hl : u < s.begin_.uart.length := by rw [State.begin__uart, State.sized_uart hs]; exact hu
    have hT := uartWrite_touches u b s.begin_
    exact ⟨_, hT.done_eq, uartWrite_uartOf b hl, fun k hk => uartWrite_uartOf_ne b _ hk, hT.back_begin⟩
  · obtain ⟨t, ht, hu⟩ := done_unchanged s
    exact ⟨t, (exec_i2cCmdDone_nil rx nack h).trans ht, hu⟩
  · have hl : i < s.begin_.i2c.length := by rw [State.begin__i2c, State.sized_i2c hs]; exact hi
    have hT : Touches { i2c := true, rdata := true } s.begin_ { (i2cRead i s.begin_).2 with rdata := (i2cRead i s.begin_).1 } :=
      ((i2cRead_touches i s.begin_).mono).then (n := { rdata := true }) ⟨rfl, rfl⟩
    exact ⟨_, hT.done_eq, i2cRead_data i s.begin_, i2cRead_i2cOf hl, fun k hk => i2cRead_i2cOf_ne _ hk, hT.back_begin⟩

end Sys2Proof.Machine

/-! PROOFS. How an output turns on and off, and STOP_LINE (O23). -/

namespace Sys2Proof.Machine

-- One theorem after the other: many at once ask for too many threads.
set_option Elab.async false

/-! ## A logbook counter of 40 bits -/

/-- What a 40-bit counter of the logbook shows (R981). -/
def count40 (s : State) (lo hi : Nat) : Nat := (s.reg lo).toNat + s.fget hi 7 0 * 2 ^ 32

theorem count40_le (s : State) (lo hi : Nat) : count40 s lo hi ≤ 2 ^ 40 - 1 := by
  have h1 := (s.reg lo).isLt
  have h2 : s.fget hi 7 0 < 2 ^ 8 := fld_lt _ 7 0
  unfold count40
  omega

theorem logFull_keepsRegs (cls : Nat) (s : State) : KeepsRegs (· = Reg.logOvf) s (logFull cls s) :=
  ((RegsOnly.refl (· = Reg.logOvf) s).logFull cls rfl).keepsRegs

theorem count40_congr {s t : State} {lo hi : Nat} (h1 : t.reg lo = s.reg lo) (h2 : t.reg hi = s.reg hi) :
    count40 t lo hi = count40 s lo hi := by
  rw [count40, count40, State.fget, State.fget, h1, h2]

theorem count40_logFull (cls : Nat) (s : State) {lo hi : Nat} (hl : ¬ eventReg lo ∧ lo ≠ Reg.logOvf)
    (hh : ¬ eventReg hi ∧ hi ≠ Reg.logOvf) : count40 (logFull cls s) lo hi = count40 s lo hi :=
  count40_congr (logFull_keepsRegs cls s _ hl.2 hl.1) (logFull_keepsRegs cls s _ hh.2 hh.1)

/-- One more event on a 40-bit counter, which stays at its maximum (R981, R985). -/
theorem count40_logBump40 (cls : Nat) (s : State) {lo hi : Nat} (hne : lo ≠ hi) (hl : ¬ eventReg lo ∧ lo ≠ Reg.logOvf)
    (hh : ¬ eventReg hi ∧ hi ≠ Reg.logOvf) :
    count40 (logBump40 lo hi cls s) lo hi = min (count40 s lo hi + 1) (2 ^ 40 - 1) := by
  have hle := count40_le s lo hi
  have hstep : count40 s lo hi ≠ 2 ^ 40 - 1 → count40 ((s.setN lo ((count40 s lo hi + 1) % 2 ^ 32)).fset hi 7 0
      ((count40 s lo hi + 1) / 2 ^ 32)) lo hi = count40 s lo hi + 1 := fun h => by
    rw [count40, State.reg_fset_ne _ _ _ _ hne, State.reg_setN, BitVec.toNat_ofNat,
      State.fget_fset _ _ _ (by norm_num) (by norm_num)]
    omega
  unfold logBump40
  dsimp only
  by_cases h : count40 s lo hi = 2 ^ 40 - 1
  · rw [if_pos (by simpa [count40] using h), count40_logFull cls s hl hh]
    omega
  · rw [if_neg (by simpa [count40] using h)]
    split
    · rw [count40_logFull cls _ hl hh]
      exact (hstep h).trans (by omega)
    · exact (hstep h).trans (by omega)

/-! ## Valve cycles (R698) -/

theorem logFio_plain (ch : Nat) : (¬ eventReg (Reg.logFioLo ch) ∧ Reg.logFioLo ch ≠ Reg.logOvf) ∧
    (¬ eventReg (Reg.logFioHi ch) ∧ Reg.logFioHi ch ≠ Reg.logOvf) := by
  refine ⟨⟨not_eventReg (.inr ?_), ?_⟩, not_eventReg (.inr ?_), ?_⟩ <;> simp only [Reg.logFioLo, Reg.logFioHi, Reg.logOvf] <;> omega

theorem mem_cycleRegs {ch : Nat} (h : ch < 32) : Reg.logFioLo ch ∈ cycleRegs ∧ Reg.logFioHi ch ∈ cycleRegs ∧ Reg.logOvf ∈ cycleRegs := by
  refine ⟨?_, ?_, List.mem_cons_self⟩
  · exact List.mem_cons_of_mem _ (List.mem_flatMap.2 ⟨ch, List.mem_range.2 h, List.mem_cons_self⟩)
  · exact List.mem_cons_of_mem _ (List.mem_flatMap.2 ⟨ch, List.mem_range.2 h, by simp⟩)

theorem countCycle_keepsRegs {ch : Nat} (s : State) (h : ch < 32) : KeepsRegs (· ∈ cycleRegs) s (countCycle ch s) :=
  ((RegsOnly.refl _ s).logBump40 4 (mem_cycleRegs h).1 (mem_cycleRegs h).2.1 (mem_cycleRegs h).2.2).keepsRegs

theorem valveCycles_eq (s : State) (ch : Nat) : s.valveCycles ch = count40 s (Reg.logFioLo ch) (Reg.logFioHi ch) := rfl

theorem valveCycles_countCycle (ch : Nat) (s : State) :
    (countCycle ch s).valveCycles ch = min (s.valveCycles ch + 1) (2 ^ 40 - 1) := by
  rw [valveCycles_eq, valveCycles_eq, countCycle,
    count40_logBump40 4 s (by simp only [Reg.logFioLo, Reg.logFioHi]; omega) (logFio_plain ch).1 (logFio_plain ch).2]

theorem valveCycles_countCycle_ne {ch k : Nat} (s : State) (h : k ≠ ch) : (countCycle ch s).valveCycles k = s.valveCycles k := by
  have hk := ((RegsOnly.refl (fun a => a = Reg.logFioLo ch ∨ a = Reg.logFioHi ch ∨ a = Reg.logOvf) s).logBump40 4
    (.inl rfl) (.inr (.inl rfl)) (.inr (.inr rfl))).keepsRegs
  refine count40_congr (hk _ ?_ (logFio_plain k).1.1) (hk _ ?_ (logFio_plain k).2.1) <;>
    · simp only [Reg.logFioLo, Reg.logFioHi, Reg.logOvf]
      omega

theorem valveCycles_congr {s t : State} (h : t.regs = s.regs) (ch : Nat) : t.valveCycles ch = s.valveCycles ch := by
  rw [State.valveCycles, reg_congr h, fget_congr h, State.valveCycles]

/-! ## An output that is commanded on or off (R698, R702, R703, R706) -/

/-- A channel whose output has been commanded on; `on` says that it drives it. -/
def Fio.turnedOn (on : Bool) (c : Fio) : Fio :=
  { c with out := true, onCheck := true, offCheck := false, hold := c.hold && !on, test := c.test && !on }

/-- A channel whose output has been commanded off; `was` says that it drove it. -/
def Fio.turnedOff (was : Bool) (c : Fio) : Fio :=
  { c with out := false, hold := false, pulse := false, offCheck := was || c.offCheck }

theorem turnOn_eq (ch : Nat) (s : State) : turnOn ch s =
    if s.canTurnOn ch then countCycle ch (s.setFio ch (Fio.turnedOn (s.canTurnOn ch)))
    else s.setFio ch (Fio.turnedOn (s.canTurnOn ch)) := rfl

theorem turnOff_eq (ch : Nat) (s : State) : turnOff ch s = s.setFio ch (Fio.turnedOff (s.driven ch)) := rfl

theorem countCycle_fio (ch : Nat) (s : State) : (countCycle ch s).fio = s.fio := (countCycle_touches ch s).keeps State.fio

theorem turnOn_fio (ch : Nat) (s : State) : (turnOn ch s).fio = (s.setFio ch (Fio.turnedOn (s.canTurnOn ch))).fio := by
  rw [turnOn_eq]
  split
  · exact countCycle_fio ch _
  · rfl

theorem turnOn_fioCh_same {ch : Nat} {s : State} (h : ch < s.fio.length) :
    (turnOn ch s).fioCh ch = (s.fioCh ch).turnedOn (s.canTurnOn ch) := by
  rw [fioCh_congr (turnOn_fio ch s), fioCh_setFio_same _ h]

theorem turnOn_fioCh_ne {ch k : Nat} (s : State) (h : k ≠ ch) : (turnOn ch s).fioCh k = s.fioCh k := by
  rw [fioCh_congr (turnOn_fio ch s), fioCh_setFio_ne _ _ h]

theorem turnOn_keepsRegs {ch : Nat} (s : State) (h : ch < 32) : KeepsRegs (· ∈ cycleRegs) s (turnOn ch s) :=
  KeepsRegs.ite (fun _ => KeepsRegs.trans (t := s.setFio ch _) (KeepsRegs.of_regs rfl) (countCycle_keepsRegs _ h))
    fun _ => KeepsRegs.of_regs rfl

theorem turnOn_valveCycles {ch : Nat} {s : State} (h : s.canTurnOn ch = true) :
    (turnOn ch s).valveCycles ch = min (s.valveCycles ch + 1) (2 ^ 40 - 1) := by
  rw [turnOn_eq, if_pos h, valveCycles_countCycle]
  rfl

theorem turnOn_valveCycles_ne {ch k : Nat} (s : State) (h : k ≠ ch) : (turnOn ch s).valveCycles k = s.valveCycles k := by
  rw [turnOn_eq]
  split
  · rw [valveCycles_countCycle_ne _ h]
    rfl
  · rfl

theorem length_fio_turnOn (ch : Nat) (s : State) : (turnOn ch s).fio.length = s.fio.length := by
  rw [turnOn_fio, length_fio_setFio]

/-- Whether a channel can drive its output hangs on its trip, its group's and the safe state. -/
theorem canTurnOn_congr {s t : State} {k : Nat} (h1 : (t.fioCh k).trip = (s.fioCh k).trip)
    (h2 : t.grpTrip = s.grpTrip) (h3 : t.fieldSafe = s.fieldSafe) : t.canTurnOn k = s.canTurnOn k := by
  rw [State.canTurnOn, h1, h2, h3, State.canTurnOn]

theorem trip_setFio {s : State} {ch k : Nat} {f : Fio → Fio} (hf : ∀ c, (f c).trip = c.trip) :
    ((s.setFio ch f).fioCh k).trip = (s.fioCh k).trip := by
  by_cases hk : k = ch
  · subst hk
    by_cases hl : k < s.fio.length
    · rw [fioCh_setFio_same f hl, hf]
    · rw [State.fioCh, State.fioCh, List.getD_eq_default _ _ (by rw [length_fio_setFio]; omega), List.getD_eq_default _ _ (by omega)]
  · rw [fioCh_setFio_ne _ _ hk]

theorem turnOn_trip (ch k : Nat) (s : State) : ((turnOn ch s).fioCh k).trip = (s.fioCh k).trip := by
  rw [fioCh_congr (turnOn_fio ch s), trip_setFio (f := Fio.turnedOn (s.canTurnOn ch)) fun _ => rfl]

theorem canTurnOn_turnOn (ch k : Nat) (s : State) : (turnOn ch s).canTurnOn k = s.canTurnOn k := by
  exact canTurnOn_congr (turnOn_trip ch k s) ((turnOn_touches ch s).keeps State.grpTrip) ((turnOn_touches ch s).keeps State.fieldSafe)

/-! ## STOP_LINE (R699, R700) -/

/-- A STOP_LINE output is brought to a level. -/
def followLine (on : Bool) (s : State) (ch : Nat) : State :=
  if on && !(s.fioCh ch).out then turnOn ch s else if !on && (s.fioCh ch).out then turnOff ch s else s

/-- The level that the STOP_LINE outputs follow. -/
def State.lineOn (s : State) : Bool := s.running && !s.fieldSafe && !s.stopLine

theorem driveStopLine_eq (s : State) : driveStopLine s = s.stopChannels.foldl (followLine s.lineOn) s := by
  rw [State.stopChannels, List.foldl_map]
  rfl

theorem followLine_touches (on : Bool) (s : State) (ch : Nat) : Touches .outputs s (followLine on s ch) :=
  Touches.ite (fun _ => turnOn_touches ch s) fun _ => Touches.ite (fun _ => (turnOff_touches ch s).mono) fun _ => Touches.refl

theorem followLine_off_touches (s : State) (ch : Nat) : Touches { fio := true } s (followLine false s ch) :=
  Touches.ite (fun h => nomatch h) fun _ => Touches.ite (fun _ => turnOff_touches ch s) fun _ => Touches.refl

theorem followLine_keepsRegs (on : Bool) {ch : Nat} (s : State) (h : ch < 32) : KeepsRegs (· ∈ cycleRegs) s (followLine on s ch) :=
  KeepsRegs.ite (fun _ => turnOn_keepsRegs s h) fun _ => KeepsRegs.ite (fun _ => KeepsRegs.of_regs rfl) fun _ => KeepsRegs.of_regs rfl

theorem length_fio_followLine (on : Bool) (s : State) (ch : Nat) : (followLine on s ch).fio.length = s.fio.length := by
  unfold followLine
  split
  · exact length_fio_turnOn ch s
  · split
    · exact length_fio_setFio s ch _
    · rfl

theorem followLine_fioCh_ne (on : Bool) {ch k : Nat} (s : State) (h : k ≠ ch) : (followLine on s ch).fioCh k = s.fioCh k := by
  unfold followLine
  split
  · exact turnOn_fioCh_ne s h
  · split
    · exact fioCh_setFio_ne s _ h
    · rfl

theorem out_default {s : State} {ch : Nat} (h : ¬ ch < s.fio.length) : (s.fioCh ch).out = false := by
  rw [State.fioCh, List.getD_eq_default _ _ (by omega)]
  rfl

theorem followLine_out {on : Bool} {ch : Nat} {s : State} (h : on = true → ch < s.fio.length) :
    ((followLine on s ch).fioCh ch).out = on := by
  unfold followLine
  cases on
  · rw [if_neg (by simp)]
    by_cases ho : (s.fioCh ch).out = true
    · have hl : ch < s.fio.length := by
        by_contra hl
        exact absurd ho (by rw [out_default hl]; decide)
      rw [if_pos (by simpa using ho), turnOff_eq, fioCh_setFio_same _ hl]
      rfl
    · rw [if_neg (by simpa using ho)]
      simpa using ho
  · by_cases ho : (s.fioCh ch).out = true
    · rw [if_neg (by simp [ho]), if_neg (by simp)]
      exact ho
    · rw [if_pos (by simpa using ho), turnOn_fioCh_same (h rfl)]
      rfl

theorem foldl_followLine_fioCh_ne (on : Bool) {k : Nat} (chs : List Nat) (s : State) (h : k ∉ chs) :
    (chs.foldl (followLine on) s).fioCh k = s.fioCh k := by
  induction chs generalizing s with
  | nil => rfl
  | cons ch r ih =>
    rw [List.foldl_cons, ih _ fun hm => h (List.mem_cons_of_mem _ hm),
      followLine_fioCh_ne on s (List.ne_of_not_mem_cons h)]

theorem foldl_followLine_out {on : Bool} {k : Nat} (chs : List Nat) (s : State) (hk : k ∈ chs)
    (h : on = true → ∀ ch ∈ chs, ch < s.fio.length) : ((chs.foldl (followLine on) s).fioCh k).out = on := by
  induction chs generalizing s with
  | nil => exact absurd hk List.not_mem_nil
  | cons ch r ih =>
    have hr : on = true → ∀ x ∈ r, x < (followLine on s ch).fio.length := fun ho x hx => by
      rw [length_fio_followLine]
      exact h ho x (List.mem_cons_of_mem ch hx)
    rw [List.foldl_cons]
    by_cases hkr : k ∈ r
    · exact ih _ hkr hr
    · obtain rfl : k = ch := (List.mem_cons.1 hk).resolve_right hkr
      rw [foldl_followLine_fioCh_ne on r _ hkr]
      exact followLine_out fun ho => h ho k List.mem_cons_self

theorem driveStopLine_fioCh_ne {k : Nat} (s : State) (h : k ∉ s.stopChannels) : (driveStopLine s).fioCh k = s.fioCh k := by
  rw [driveStopLine_eq]
  exact foldl_followLine_fioCh_ne _ _ s h

theorem driveStopLine_out {k : Nat} {s : State} (hk : k ∈ s.stopChannels)
    (h : s.lineOn = true → ∀ ch ∈ s.stopChannels, ch < s.fio.length) : ((driveStopLine s).fioCh k).out = s.lineOn := by
  rw [driveStopLine_eq]
  exact foldl_followLine_out _ s hk h

/-- Where a station asserts STOP_LINE, its outputs turn off, and no register changes. -/
theorem driveStopLine_off_touches {s : State} (h : s.lineOn = false) : Touches { fio := true } s (driveStopLine s) := by
  rw [driveStopLine_eq, h]
  exact Touches.foldl followLine_off_touches _ s

theorem driveStopLine_keepsRegs {s : State} (h : ∀ ch ∈ s.stopChannels, ch < 32) :
    KeepsRegs (· ∈ cycleRegs) s (driveStopLine s) := by
  rw [driveStopLine_eq]
  generalize s.lineOn = on
  generalize s.stopChannels = chs at h
  induction chs generalizing s with
  | nil => exact KeepsRegs.of_regs rfl
  | cons ch r ih =>
    exact (followLine_keepsRegs on s (h ch List.mem_cons_self)).trans (ih fun x hx => h x (List.mem_cons_of_mem _ hx))

/-! ## A station's causes -/

theorem stn_setStn_same {s : State} {n : Nat} (f : Stn → Stn) (h : n < s.stations.length) : (s.setStn n f).stn n = f (s.stn n) :=
  getD_modAt_same f _ h

theorem stn_setStn_ne (s : State) {n k : Nat} (f : Stn → Stn) (h : k ≠ n) : (s.setStn n f).stn k = s.stn k :=
  getD_modAt_ne s.stations f _ h

theorem State.sized_stations {s : State} (h : s.sized = true) : s.stations.length = 16 := by
  simp only [State.sized, Bool.and_eq_true, beq_iff_eq] at h
  omega

theorem driveStopLine_stn (s : State) (n : Nat) : (driveStopLine s).stn n = s.stn n := (driveStopLine_touches s).keeps fun u => u.stn n

theorem driveStopLine_stopLine (s : State) : (driveStopLine s).stopLine = s.stopLine := (driveStopLine_touches s).keeps State.stopLine

theorem setBitTo_ne_zero (v i : Nat) : setBitTo v i true ≠ 0 := by
  intro h
  have hb : bitAt (setBitTo v i true) i = true := by
    rw [setBitTo, bitAt_eq, fld_setFld_same]
    simp
  rw [h] at hb
  exact absurd hb (by simp [bitAt])

/-- A station with a cause asserts STOP_LINE. -/
theorem stopLine_of_stops {s : State} {n : Nat} (hn : n < s.stations.length) (h : (s.stn n).stops ≠ 0) : s.stopLine = true := by
  rw [State.stopLine, List.any_eq_true]
  refine ⟨s.stn n, ?_, by simpa using h⟩
  rw [State.stn, List.getD_eq_getElem _ _ hn]
  exact List.getElem_mem hn

theorem exec_stopSet {ini n : Nat} {s : State} (hn : n < 16) (hon : s.domOn domVerdict = true) :
    exec (.stopSet ini n) s = done s (assertStop n causeSoftware s.begin_) :=
  congrArg (done s) (if_pos (by rw [show s.begin_.domOn domVerdict = true from hon, decide_eq_true hn]; rfl))

theorem exec_stopClr {ini n : Nat} {s : State} (hn : n < 16) (hon : s.domOn domVerdict = true) :
    exec (.stopClr ini n) s = done s (stopClr n s.begin_) :=
  congrArg (done s) (if_pos (by rw [show s.begin_.domOn domVerdict = true from hon, decide_eq_true hn]; rfl))

theorem assertStop_eq (n cause : Nat) (s : State) :
    assertStop n cause s = driveStopLine (s.setStn n fun t => { t with stops := setBitTo t.stops cause true }) := rfl

/-- While a station asserts STOP_LINE its outputs are not driven to on (R756). -/
theorem lineOn_asserted {s : State} {n : Nat} (cause : Nat) (hn : n < s.stations.length) :
    (s.setStn n fun t => { t with stops := setBitTo t.stops cause true }).lineOn = false := by
  have h : (s.setStn n fun t => { t with stops := setBitTo t.stops cause true }).stopLine = true :=
    stopLine_of_stops (n := n) (by rw [State.setStn, modAt, List.length_modify]; exact hn)
      (by rw [stn_setStn_same _ hn]; exact setBitTo_ne_zero _ _)
  rw [State.lineOn, h, Bool.not_true, Bool.and_false]

theorem assertStop_stn_same {s : State} {n : Nat} (cause : Nat) (hn : n < s.stations.length) :
    (assertStop n cause s).stn n = { s.stn n with stops := setBitTo (s.stn n).stops cause true } := by
  rw [assertStop_eq, driveStopLine_stn, stn_setStn_same _ hn]

theorem assertStop_stn_ne (s : State) {n k : Nat} (cause : Nat) (h : k ≠ n) : (assertStop n cause s).stn k = s.stn k := by
  rw [assertStop_eq, driveStopLine_stn, stn_setStn_ne _ _ h]

theorem assertStop_off_touches {s : State} {n : Nat} (cause : Nat) (hn : n < s.stations.length) :
    Touches { fio := true, stations := true } s (assertStop n cause s) :=
  ((State.setStn_touches s _ _).mono).then (driveStopLine_off_touches (lineOn_asserted cause hn))

theorem ifOn_off {d : Nat} {s : State} (ok : Bool) (f : State → State) (h : s.domOn d = false) : ifOn d ok f s = s :=
  if_neg (by simp [h])

/-- Settles O23. A station with a cause turns the STOP_LINE outputs off; without one they follow the device's own state. -/
theorem stopLineIsHeldAndCleared : Obligations.StopLineIsHeldAndCleared := by
  refine ⟨fun s ini n hn hs hon => ?_, fun s ini n hn hs hon hch => ?_, fun s ini n c hoff hc => ?_⟩
  · have hl : n < s.begin_.stations.length := by rw [State.begin__stations, State.sized_stations hs]; exact hn
    have hT := assertStop_off_touches causeSoftware hl
    have hoff := lineOn_asserted causeSoftware hl
    refine ⟨_, (exec_stopSet hn hon).trans hT.done_eq, assertStop_stn_same causeSoftware hl,
      fun k hk => assertStop_stn_ne _ causeSoftware hk, fun ch hch => ?_, fun ch hch => ?_, hT.back_begin⟩
    · rw [assertStop_eq]
      refine (driveStopLine_out (s := s.begin_.setStn n _) hch fun h => ?_).trans hoff
      exact absurd (h.symm.trans hoff) (by decide)
    · exact driveStopLine_fioCh_ne (s.begin_.setStn n _) hch
  · have hl : n < s.begin_.stations.length := by rw [State.begin__stations, State.sized_stations hs]; exact hn
    have hfio : s.begin_.fio.length = 32 := (sized_field hs).1
    have hT : Touches { regs := true, evq := true, fio := true, stations := true } s.begin_ (stopClr n s.begin_) :=
      ((State.setStn_touches s.begin_ n _).mono).then (driveStopLine_touches _)
    have hK : KeepsRegs (· ∈ cycleRegs) s (stopClr n s.begin_) :=
      KeepsRegs.trans (t := s.begin_.setStn n _) (KeepsRegs.of_regs rfl) (driveStopLine_keepsRegs hch)
    refine ⟨_, (exec_stopClr hn hon).trans hT.done_eq, ?_, fun k hk => ?_, fun ch hc => ?_, fun ch hc => ?_, hT.back_begin, hK.kept⟩
    · rw [stopClr, driveStopLine_stn, stn_setStn_same _ hl]
      rfl
    · rw [stopClr, driveStopLine_stn, stn_setStn_ne _ _ hk]
      rfl
    · rw [stopClr, driveStopLine_stopLine]
      exact driveStopLine_out hc fun _ x hx => (hch x hx).trans_eq hfio.symm
    · exact driveStopLine_fioCh_ne (s.begin_.setStn n _) hc
  · have e : exec c s = done s s.begin_ := by
      have hoff' : s.begin_.domOn domVerdict = false := hoff
      simp only [List.mem_cons, List.not_mem_nil, or_false] at hc
      rcases hc with rfl | rfl | rfl | rfl <;> exact congrArg (done s) (ifOn_off _ _ hoff')
    rw [e]
    exact done_unchanged s

end Sys2Proof.Machine

/-! PROOFS. The commands on one field channel or group (O26). -/

namespace Sys2Proof.Machine

-- One theorem after the other: many at once ask for too many threads.
set_option Elab.async false

/-- The state in which a command that writes through the bus ends where it has written no memory. -/
theorem Touches.doneBus_eq {m : Parts} {s t : State} (h : Touches m s.begin_ t)
    (hm : (m.pending || m.otp || m.dram || m.flash || m.sram) = false := by rfl) : doneBus s { st := t } = .next t := by
  simp only [Bool.or_eq_false_iff] at hm
  obtain ⟨⟨⟨⟨h1, h3⟩, h4⟩, h5⟩, h6⟩ := hm
  have e : t = State.take m t s.begin_ := h.same.symm
  rw [e]
  simp only [doneBus, finish, State.take, h1, h3, h4, h5, h6, cond_false]
  rfl

/-! ## Outputs that come back after a trip (R710, R711, R720) -/

/-- A commanded output turns on again where its channel can drive it. -/
def reviveOutput (s : State) (ch : Nat) : State := if s.canTurnOn ch then turnOn ch s else s

/-- The outputs of `chs` that are commanded but not driven. -/
def State.heldOff (s : State) (chs : List Nat) : List Nat := chs.filter fun ch => (s.fioCh ch).out && !s.canTurnOn ch

theorem restoreOutputs_eq (chs : List Nat) (f : State → State) (s : State) :
    restoreOutputs chs f s = (s.heldOff chs).foldl reviveOutput (f s) := rfl

theorem reviveOutput_touches (s : State) (ch : Nat) : Touches .outputs s (reviveOutput s ch) :=
  Touches.ite (fun _ => turnOn_touches ch s) fun _ => Touches.refl

theorem canTurnOn_revive (s : State) (ch k : Nat) : (reviveOutput s ch).canTurnOn k = s.canTurnOn k := by
  unfold reviveOutput
  split
  · exact canTurnOn_turnOn ch k s
  · rfl

theorem revive_fioCh_same {s : State} {ch : Nat} (h : ch < s.fio.length) :
    (reviveOutput s ch).fioCh ch = if s.canTurnOn ch then (s.fioCh ch).turnedOn true else s.fioCh ch := by
  unfold reviveOutput
  split
  next hc => rw [turnOn_fioCh_same h, hc]
  next => rfl

theorem revive_fioCh_ne (s : State) {ch k : Nat} (h : k ≠ ch) : (reviveOutput s ch).fioCh k = s.fioCh k := by
  unfold reviveOutput
  split
  · exact turnOn_fioCh_ne s h
  · rfl

theorem length_fio_revive (s : State) (ch : Nat) : (reviveOutput s ch).fio.length = s.fio.length := by
  unfold reviveOutput
  split
  · exact length_fio_turnOn ch s
  · rfl

theorem revive_valveCycles_same (s : State) (ch : Nat) : (reviveOutput s ch).valveCycles ch =
    if s.canTurnOn ch then min (s.valveCycles ch + 1) (2 ^ 40 - 1) else s.valveCycles ch := by
  unfold reviveOutput
  split
  next hc => exact turnOn_valveCycles hc
  next => rfl

theorem revive_valveCycles_ne (s : State) {ch k : Nat} (h : k ≠ ch) : (reviveOutput s ch).valveCycles k = s.valveCycles k := by
  unfold reviveOutput
  split
  · exact turnOn_valveCycles_ne s h
  · rfl

theorem revive_keepsRegs (s : State) {ch : Nat} (h : ch < 32) : KeepsRegs (· ∈ cycleRegs) s (reviveOutput s ch) :=
  KeepsRegs.ite (fun _ => turnOn_keepsRegs s h) fun _ => KeepsRegs.of_regs rfl

theorem foldl_revive_canTurnOn (k : Nat) (chs : List Nat) (s : State) :
    (chs.foldl reviveOutput s).canTurnOn k = s.canTurnOn k := by
  induction chs generalizing s with
  | nil => rfl
  | cons ch r ih => rw [List.foldl_cons, ih, canTurnOn_revive]

theorem foldl_revive_other {k : Nat} (chs : List Nat) (s : State) (h : k ∉ chs) :
    (chs.foldl reviveOutput s).fioCh k = s.fioCh k ∧ (chs.foldl reviveOutput s).valveCycles k = s.valveCycles k := by
  induction chs generalizing s with
  | nil => exact ⟨rfl, rfl⟩
  | cons ch r ih =>
    have hne := List.ne_of_not_mem_cons h
    obtain ⟨h1, h2⟩ := ih (reviveOutput s ch) fun hm => h (List.mem_cons_of_mem _ hm)
    exact ⟨h1.trans (revive_fioCh_ne s hne), h2.trans (revive_valveCycles_ne s hne)⟩

theorem foldl_revive_self {k : Nat} (chs : List Nat) (s : State) (hk : k ∈ chs) (hn : chs.Nodup) (hl : k < s.fio.length) :
    (chs.foldl reviveOutput s).fioCh k = (if s.canTurnOn k then (s.fioCh k).turnedOn true else s.fioCh k) ∧
    (chs.foldl reviveOutput s).valveCycles k =
      if s.canTurnOn k then min (s.valveCycles k + 1) (2 ^ 40 - 1) else s.valveCycles k := by
  induction chs generalizing s with
  | nil => exact absurd hk List.not_mem_nil
  | cons ch r ih =>
    obtain ⟨hch, hr⟩ := List.nodup_cons.1 hn
    rw [List.foldl_cons]
    by_cases hkc : k = ch
    · subst hkc
      obtain ⟨h1, h2⟩ := foldl_revive_other r (reviveOutput s k) hch
      exact ⟨h1.trans (revive_fioCh_same hl), h2.trans (revive_valveCycles_same s k)⟩
    · obtain ⟨h1, h2⟩ := ih (reviveOutput s ch) ((List.mem_cons.1 hk).resolve_left hkc) hr (by rwa [length_fio_revive])
      rw [h1, h2, canTurnOn_revive, revive_fioCh_ne s hkc, revive_valveCycles_ne s hkc]
      exact ⟨rfl, rfl⟩

theorem foldl_revive_keepsRegs (chs : List Nat) (s : State) (h : ∀ ch ∈ chs, ch < 32) :
    KeepsRegs (· ∈ cycleRegs) s (chs.foldl reviveOutput s) := by
  induction chs generalizing s with
  | nil => exact KeepsRegs.of_regs rfl
  | cons ch r ih =>
    exact (revive_keepsRegs s (h ch List.mem_cons_self)).trans (ih _ fun x hx => h x (List.mem_cons_of_mem _ hx))

/-- What clearing a trip as `f` says does to an output of `chs`: `c` is the channel and `on` whether it can drive its output once the
trip is cleared. -/
theorem restoreOutputs_channel {chs : List Nat} {f : State → State} {s : State} {k : Nat} (hk : k ∈ chs) (hn : chs.Nodup)
    (hl : k < (f s).fio.length) (hout : ((f s).fioCh k).out = (s.fioCh k).out) (hregs : (f s).regs = s.regs) :
    ((restoreOutputs chs f s).fioCh k).out = (s.fioCh k).out ∧
    (restoreOutputs chs f s).driven k = ((s.fioCh k).out && (f s).canTurnOn k) ∧
    ((restoreOutputs chs f s).fioCh k).trip = ((f s).fioCh k).trip ∧
    ((restoreOutputs chs f s).driven k = true → s.driven k = false →
      ((restoreOutputs chs f s).fioCh k).onCheck = true ∧
      (restoreOutputs chs f s).valveCycles k = min (s.valveCycles k + 1) (2 ^ 40 - 1)) := by
  have hcan : (restoreOutputs chs f s).canTurnOn k = (f s).canTurnOn k := foldl_revive_canTurnOn k _ _
  by_cases hoff : k ∈ s.heldOff chs
  · have hc := (List.mem_filter.1 hoff).2
    rw [Bool.and_eq_true] at hc
    obtain ⟨h1, h2⟩ := foldl_revive_self _ (f s) hoff (hn.filter _) hl
    rw [State.driven, restoreOutputs_eq] at *
    rw [h1, h2, hcan, valveCycles_congr hregs, hc.1]
    by_cases hon : (f s).canTurnOn k = true
    · rw [if_pos hon, if_pos hon, hon]
      exact ⟨rfl, rfl, rfl, fun _ _ => ⟨rfl, rfl⟩⟩
    · rw [if_neg hon, hout, hc.1, Bool.eq_false_iff.2 hon]
      exact ⟨rfl, rfl, rfl, fun h => nomatch h⟩
  · obtain ⟨h1, h2⟩ := foldl_revive_other _ (f s) hoff
    rw [State.driven, restoreOutputs_eq] at *
    rw [h1, hcan, hout]
    refine ⟨rfl, rfl, rfl, fun hd hs => absurd hoff (not_not.2 ?_)⟩
    rw [Bool.and_eq_true] at hd
    rw [State.driven, hd.1, Bool.true_and] at hs
    exact List.mem_filter.2 ⟨hk, by rw [hd.1, hs]; rfl⟩

theorem restoreOutputs_fioCh_ne {chs : List Nat} (f : State → State) (s : State) {k : Nat} (hk : k ∉ chs) :
    (restoreOutputs chs f s).fioCh k = (f s).fioCh k :=
  (foldl_revive_other _ _ fun h => hk (List.mem_of_mem_filter h)).1

theorem restoreOutputs_keepsRegs {chs : List Nat} {f : State → State} {s : State} (h : ∀ ch ∈ chs, ch < 32)
    (hregs : (f s).regs = s.regs) : KeepsRegs (· ∈ cycleRegs) s (restoreOutputs chs f s) :=
  (KeepsRegs.of_regs hregs).trans (foldl_revive_keepsRegs _ _ fun ch hch => h ch (List.mem_of_mem_filter hch))

theorem restoreOutputs_touches {m : Parts} {chs : List Nat} {f : State → State} {s : State} (h : Touches m s (f s))
    (hm : Parts.outputs.or m = m := by rfl) : Touches m s (restoreOutputs chs f s) :=
  h.then (Touches.foldl reviveOutput_touches _ _) hm

/-! ## REARM and GRP_REARM -/

theorem ifOn_on {d : Nat} {s : State} {ok : Bool} (f : State → State) (h : s.domOn d = true) (hok : ok = true) :
    ifOn d ok f s = f s := if_pos (by rw [h, hok]; rfl)

/-- A channel without its trip. -/
def clearTrip (ch : Nat) (s : State) : State := s.setFio ch fun c => { c with trip := false }

theorem rearm_eq (ch : Nat) (s : State) : rearm ch s = restoreOutputs [ch] (clearTrip ch) s := rfl

theorem rearm_touches (ch : Nat) (s : State) : Touches .outputs s (rearm ch s) :=
  restoreOutputs_touches (f := clearTrip ch) (State.setFio_touches s _ _).mono

/-- A group without its trip. -/
def clearGrpTrip (g : Nat) (s : State) : State := { s with grpTrip := modAt s.grpTrip g fun _ => false }

theorem grpRearm_eq (g : Nat) (s : State) : grpRearm g s = restoreOutputs (groupChs g) (clearGrpTrip g) s := rfl

theorem grpRearm_touches (g : Nat) (s : State) :
    Touches { regs := true, evq := true, fio := true, grpTrip := true } s (grpRearm g s) :=
  restoreOutputs_touches (f := clearGrpTrip g) ⟨rfl, by simp only [State.lens, clearGrpTrip, modAt, List.length_modify]⟩

theorem groupChs_nodup (g : Nat) : (groupChs g).Nodup :=
  List.nodup_range.map fun a b h => by simpa using h

theorem rearm_done (s : State) (ini ch : Nat) (hch : ch < 32) (hs : s.sized = true) (hon : s.domOn domField = true) :
    ∃ t, exec (.rearm ini ch) s = .next t ∧ (t.fioCh ch).trip = false ∧ (t.fioCh ch).out = (s.fioCh ch).out ∧
      t.driven ch = ((s.fioCh ch).out && !s.grpTrip.getD (ch / 8) false && !s.fieldSafe) ∧
      (t.driven ch = true → s.driven ch = false →
        (t.fioCh ch).onCheck = true ∧ t.valveCycles ch = min (s.valveCycles ch + 1) (2 ^ 40 - 1)) ∧
      (∀ k, k ≠ ch → t.fioCh k = s.fioCh k) ∧ State.onlyRegs cycleRegs s { t with fio := s.fio } := by
  have hl : ch < s.begin_.fio.length := hch.trans_eq (sized_field hs).1.symm
  have e : exec (.rearm ini ch) s = done s (rearm ch s.begin_) :=
    congrArg (done s) (ifOn_on (s := s.begin_) _ hon (decide_eq_true hch))
  have hself : (clearTrip ch s.begin_).fioCh ch = { s.fioCh ch with trip := false } := fioCh_setFio_same _ hl
  obtain ⟨hout, hdrv, htrip, hnew⟩ := restoreOutputs_channel (chs := [ch]) (f := clearTrip ch) (s := s.begin_) (k := ch)
    List.mem_cons_self (List.nodup_singleton _) (by rw [clearTrip, length_fio_setFio]; exact hl) (by rw [hself]; rfl) rfl
  have hT := rearm_touches ch s.begin_
  have hK : KeepsRegs (· ∈ cycleRegs) s (rearm ch s.begin_) :=
    restoreOutputs_keepsRegs (f := clearTrip ch) (s := s.begin_) (by simpa using hch) rfl
  refine ⟨_, e.trans hT.done_eq, ?_, hout, ?_, hnew, fun k hk => ?_, hT.back_begin, hK.kept⟩
  · exact htrip.trans (by rw [hself])
  · refine hdrv.trans ?_
    rw [State.canTurnOn, hself, Bool.not_false, Bool.true_and, ← Bool.and_assoc]
    rfl
  · exact (restoreOutputs_fioCh_ne (clearTrip ch) s.begin_ (by simpa using hk)).trans (fioCh_setFio_ne _ _ hk)

theorem grpRearm_done (s : State) (ini g : Nat) (hg : g < 4) (hs : s.sized = true) (hon : s.domOn domField = true) :
    ∃ t, exec (.grpRearm ini g) s = .next t ∧ t.grpTrip = s.grpTrip.set g false ∧
      (∀ ch ∈ groupChs g, (t.fioCh ch).out = (s.fioCh ch).out ∧
        t.driven ch = ((s.fioCh ch).out && !(s.fioCh ch).trip && !s.fieldSafe) ∧
        (t.driven ch = true → s.driven ch = false →
          (t.fioCh ch).onCheck = true ∧ t.valveCycles ch = min (s.valveCycles ch + 1) (2 ^ 40 - 1))) ∧
      (∀ k, k ∉ groupChs g → t.fioCh k = s.fioCh k) ∧
      State.onlyRegs cycleRegs s { t with fio := s.fio, grpTrip := s.grpTrip } := by
  have hlt : ∀ ch ∈ groupChs g, ch < 32 := fun ch h => by
    rw [mem_groupChs] at h
    omega
  have e : exec (.grpRearm ini g) s = done s (grpRearm g s.begin_) :=
    congrArg (done s) (ifOn_on (s := s.begin_) _ hon (decide_eq_true hg))
  have hset : (clearGrpTrip g s.begin_).grpTrip = s.grpTrip.set g false := modify_const_eq_set _ _ _
  have hgrp : (grpRearm g s.begin_).grpTrip = s.grpTrip.set g false :=
    ((Touches.foldl reviveOutput_touches _ (clearGrpTrip g s.begin_)).keeps State.grpTrip).trans hset
  have hT := grpRearm_touches g s.begin_
  have hK : KeepsRegs (· ∈ cycleRegs) s (grpRearm g s.begin_) :=
    restoreOutputs_keepsRegs (f := clearGrpTrip g) (s := s.begin_) hlt rfl
  refine ⟨_, e.trans hT.done_eq, hgrp, fun ch hch => ?_, fun k hk => ?_, hT.back_begin, hK.kept⟩
  · obtain ⟨hout, hdrv, -, hnew⟩ := restoreOutputs_channel (chs := groupChs g) (f := clearGrpTrip g) (s := s.begin_) (k := ch)
      hch (groupChs_nodup g) ((hlt ch hch).trans_eq (sized_field hs).1.symm) rfl rfl
    refine ⟨hout, hdrv.trans ?_, hnew⟩
    have hoff : (s.grpTrip.set g false).getD (ch / 8) false = false := by
      rw [mem_groupChs.1 hch, List.getD_eq_getElem?_getD, List.getElem?_set_self (by rw [(sized_field hs).2]; exact hg)]
      rfl
    rw [State.canTurnOn, hset, hoff, Bool.not_false, Bool.and_true, ← Bool.and_assoc]
    rfl
  · exact restoreOutputs_fioCh_ne (clearGrpTrip g) s.begin_ hk

/-! ## CNT_CLR and ARM -/

theorem cntClr_done (s : State) (ini ch : Nat) (hch : ch < 32) (hon : s.domOn domField = true) :
    ∃ t, exec (.cntClr ini ch) s = .next t ∧ t.reg (Reg.fioCnt ch) = 0 ∧ State.onlyRegs [Reg.fioCnt ch] s t := by
  have e : exec (.cntClr ini ch) s = done s (cntClr ch s.begin_) :=
    congrArg (done s) (ifOn_on (s := s.begin_) _ hon (decide_eq_true hch))
  obtain ⟨t, ht, hregs, -, honly⟩ := done_onlyRegs (A := [Reg.fioCnt ch]) (s := s)
    ((RegsOnly.refl _ _).setReg (a := Reg.fioCnt ch) 0 List.mem_cons_self)
  exact ⟨t, e.trans ht, (reg_congr hregs _).trans (State.reg_setReg _ _ _), honly⟩

theorem odoArm_touches (c : Nat) (s : State) : Touches { regs := true, odo := true } s (odoArm c s) :=
  ((State.setFlag_touches s _ _ _).mono).then (State.setOdo_touches _ _ _)

theorem State.sized_odo {s : State} (h : s.sized = true) : s.odo.length = 16 := by
  simp only [State.sized, Bool.and_eq_true, beq_iff_eq] at h
  omega

theorem odoCh_setOdo_same {s : State} {c : Nat} (f : Odo → Odo) (h : c < s.odo.length) : (s.setOdo c f).odoCh c = f (s.odoCh c) :=
  getD_modAt_same f _ h

theorem odoCh_setOdo_ne (s : State) {c k : Nat} (f : Odo → Odo) (h : k ≠ c) : (s.setOdo c f).odoCh k = s.odoCh k :=
  getD_modAt_ne s.odo f _ h

theorem arm_done (s : State) (ini ch : Nat) (hch : ch < 16) (hs : s.sized = true) (hon : s.domOn domField = true) :
    ∃ t, exec (.arm ini ch) s = .next t ∧ t.flag (Reg.odoStat ch) 5 = true ∧ t.odoCh ch = { s.odoCh ch with turn := none } ∧
      (∀ k, k ≠ ch → t.odoCh k = s.odoCh k) ∧ State.onlyRegs [Reg.odoStat ch] s { t with odo := s.odo } := by
  have e : exec (.arm ini ch) s = done s (odoArm ch s.begin_) :=
    congrArg (done s) (ifOn_on (s := s.begin_) _ hon (decide_eq_true hch))
  have hl : ch < (s.begin_.setFlag (Reg.odoStat ch) 5 true).odo.length := hch.trans_eq (State.sized_odo hs).symm
  have hT : Touches { regs := true, evq := true, odo := true } s.begin_ (odoArm ch s.begin_) := (odoArm_touches ch s.begin_).mono
  have hK : KeepsRegs (· ∈ [Reg.odoStat ch]) s (odoArm ch s.begin_) := fun b hb _ =>
    State.reg_setFlag_ne _ _ _ fun h => hb (by simp [h])
  exact ⟨_, e.trans hT.done_eq, State.flag_setFlag _ _ _ (by norm_num), odoCh_setOdo_same _ hl,
    fun k hk => odoCh_setOdo_ne _ _ hk, hT.back_begin, hK.kept⟩

/-! ## ON -/

/-- FIO.CTRL. -/
def fioCtrlRow : RegInfo :=
  ⟨"FIO.CTRL", 0x200080000C, 32, 32, 1, 0, .fio,
    [⟨5, 5, "REARM", .wo, 0⟩, ⟨4, 4, "CNT_CLR", .wo, 0⟩, ⟨1, 1, "WB_EN", .rf, 0⟩, ⟨0, 0, "ON", .rw, 0⟩]⟩
/-- FIO.TEST. -/
def fioTestRow : RegInfo :=
  ⟨"FIO.TEST", 0x2000800010, 32, 32, 1, 0, .fio, [⟨31, 31, "GO", .rf, 0⟩, ⟨15, 0, "PULSE_US", .rf, 0⟩]⟩

theorem regAt_fioCtrl : ∀ ch < 32, regAt (Reg.fioCtrl ch) = some (fioCtrlRow, ch, 0) := by decide +kernel
theorem regAt_fioTest : ∀ ch < 32, regAt (Reg.fioTest ch) = some (fioTestRow, ch, 0) := by decide +kernel
theorem domainOf_fioCtrl : ∀ ch < 32, domainOf (Reg.fioCtrl ch) = domField := by decide
theorem domainOf_fioTest : ∀ ch < 32, domainOf (Reg.fioTest ch) = domField := by decide

theorem writeHigh_fioCtrl (ini i a v : Nat) (s : State) : writeHigh ini fioCtrlRow i a v s =
    followTest i (followOn i (if bitAt v 4 then cntClr i (if bitAt v 5 then rearm i (writeFields fioCtrlRow i ini a v s)
      else writeFields fioCtrlRow i ini a v s) else (if bitAt v 5 then rearm i (writeFields fioCtrlRow i ini a v s)
      else writeFields fioCtrlRow i ini a v s))) := rfl

theorem writeHigh_fioTest (ini i a v : Nat) (s : State) : writeHigh ini fioTestRow i a v s =
    testGo i (bitAt v 31 && !s.ownerArmed (s.ownerOf .fio i)) (writeFields fioTestRow i ini a v s) := rfl

/-- A register without RS fields takes its word at once where the write would change no RF field of an armed owner (R63). -/
theorem writeFields_unrefused {r : RegInfo} {a v : Nat} (i ini : Nat) {s : State} (hrs : accMask .rs r.fields = 0)
    (h : rfChanged r.fields (s.reg a).toNat v = 0) :
    writeFields r i ini a v s = s.setN a (writtenWord r.fields 0 (s.reg a).toNat v) := by
  simp only [writeFields, hrs, h, ite_self, beq_self_eq_true, if_true, writtenWord]

end Sys2Proof.Machine

/-! PROOFS. ON and FIO_TEST, which write a register of the channel, and all the field controls together (O26). -/

namespace Sys2Proof.Machine

-- One theorem after the other: many at once ask for too many threads.
set_option Elab.async false

/-! ## What FIO.CTRL.ON and WB_EN lead to (R697, R706) -/

theorem followTest_touches (ch : Nat) (s : State) : Touches { fio := true } s (followTest ch s) :=
  Touches.ite (fun _ => State.setFio_touches s _ _) fun _ => Touches.refl

theorem followOn_touches (ch : Nat) (s : State) : Touches .outputs s (followOn ch s) :=
  Touches.ite (fun _ => Touches.ite (fun _ => turnOn_touches ch s) fun _ =>
    Touches.ite (fun _ => (turnOff_touches ch s).mono) fun _ => Touches.refl) fun _ => Touches.refl

theorem followOn_keepsRegs {ch : Nat} (s : State) (h : ch < 32) : KeepsRegs (· ∈ cycleRegs) s (followOn ch s) :=
  KeepsRegs.ite (fun _ => KeepsRegs.ite (fun _ => turnOn_keepsRegs s h) fun _ =>
    KeepsRegs.ite (fun _ => KeepsRegs.of_regs rfl) fun _ => KeepsRegs.of_regs rfl) fun _ => KeepsRegs.of_regs rfl

/-- Only the test current follows WB_EN. -/
theorem followTest_fioCh {ch : Nat} {s : State} (h : ch < s.fio.length) :
    ∃ b, (followTest ch s).fioCh ch = { s.fioCh ch with test := b } := by
  unfold followTest
  split
  · exact ⟨_, fioCh_setFio_same _ h⟩
  · exact ⟨(s.fioCh ch).test, rfl⟩

theorem followTest_fioCh_ne {ch k : Nat} (s : State) (h : k ≠ ch) : (followTest ch s).fioCh k = s.fioCh k := by
  unfold followTest
  split
  · exact fioCh_setFio_ne s _ h
  · rfl

theorem followTest_driven {ch : Nat} {s : State} (h : ch < s.fio.length) : (followTest ch s).driven ch = s.driven ch := by
  obtain ⟨b, hb⟩ := followTest_fioCh h
  rw [State.driven, State.driven, canTurnOn_congr (t := followTest ch s) (s := s) (k := ch) (by rw [hb])
    ((followTest_touches ch s).keeps State.grpTrip) ((followTest_touches ch s).keeps State.fieldSafe), hb]

theorem followOn_fioCh_ne {ch k : Nat} (s : State) (h : k ≠ ch) : (followOn ch s).fioCh k = s.fioCh k := by
  unfold followOn
  dsimp only
  split
  · split
    · exact turnOn_fioCh_ne s h
    · split
      · exact fioCh_setFio_ne s _ h
      · rfl
  · rfl

theorem length_fio_followOn (ch : Nat) (s : State) : (followOn ch s).fio.length = s.fio.length := by
  unfold followOn
  dsimp only
  split
  · split
    · exact length_fio_turnOn ch s
    · split
      · exact length_fio_setFio s ch _
      · rfl
  · rfl

theorem canTurnOn_turnOff (ch k : Nat) (s : State) : (turnOff ch s).canTurnOn k = s.canTurnOn k :=
  canTurnOn_congr (trip_setFio (f := Fio.turnedOff (s.driven ch)) fun _ => rfl) rfl rfl

/-- An output that is turned on and then drives, where it did not before. -/
theorem turnOn_starts {ch : Nat} {s : State} (h : ch < s.fio.length) (hd : (turnOn ch s).driven ch = true) :
    ((turnOn ch s).fioCh ch).onCheck = true ∧ (turnOn ch s).valveCycles ch = min (s.valveCycles ch + 1) (2 ^ 40 - 1) := by
  rw [State.driven, canTurnOn_turnOn, Bool.and_eq_true] at hd
  exact ⟨by rw [turnOn_fioCh_same h]; rfl, turnOn_valveCycles hd.2⟩

/-- The output of a channel as FIO.CTRL.ON leaves it. -/
theorem followOn_channel {ch : Nat} {s : State} (h : ch < s.fio.length) :
    ((followOn ch s).fioCh ch).out =
      (if s.followsOn ch = true ∧ (s.flag (Reg.fioCtrl ch) 0 = true ∨ (s.fioCh ch).pulse = false) then s.flag (Reg.fioCtrl ch) 0
        else (s.fioCh ch).out) ∧
    ((followOn ch s).driven ch = true → s.driven ch = false →
      ((followOn ch s).fioCh ch).onCheck = true ∧ (followOn ch s).valveCycles ch = min (s.valveCycles ch + 1) (2 ^ 40 - 1)) ∧
    ((followOn ch s).driven ch = false → s.driven ch = true → ((followOn ch s).fioCh ch).offCheck = true) := by
  unfold followOn
  dsimp only
  by_cases hf : s.followsOn ch = true
  · rw [if_pos hf]
    by_cases hon : (s.flag (Reg.fioCtrl ch) 0 && !(s.fioCh ch).out) = true
    · rw [if_pos hon]
      rw [Bool.and_eq_true, Bool.not_eq_true'] at hon
      refine ⟨?_, fun hd _ => turnOn_starts h hd, fun _ hs => ?_⟩
      · rw [if_pos ⟨hf, .inl hon.1⟩, turnOn_fioCh_same h, hon.1]
        rfl
      · rw [State.driven, hon.2] at hs
        exact nomatch hs
    · rw [if_neg hon]
      by_cases hoff : (!s.flag (Reg.fioCtrl ch) 0 && (s.fioCh ch).out && !(s.fioCh ch).pulse) = true
      · rw [if_pos hoff, turnOff_eq]
        rw [Bool.and_eq_true, Bool.and_eq_true, Bool.not_eq_true', Bool.not_eq_true'] at hoff
        obtain ⟨⟨hlow, hout⟩, hpulse⟩ := hoff
        rw [fioCh_setFio_same _ h, if_pos ⟨hf, .inr hpulse⟩, hlow]
        refine ⟨rfl, fun hd => ?_, fun _ hs => ?_⟩
        · rw [State.driven, fioCh_setFio_same _ h] at hd
          exact nomatch hd
        · rw [hs]
          rfl
      · rw [if_neg hoff]
        refine ⟨?_, fun hd hs => absurd (hd.symm.trans hs) (by decide), fun hd hs => absurd (hs.symm.trans hd) (by decide)⟩
        split
        next hc =>
          revert hon hoff
          obtain ⟨-, hc⟩ := hc
          revert hc
          cases s.flag (Reg.fioCtrl ch) 0 <;> cases (s.fioCh ch).out <;> cases (s.fioCh ch).pulse <;> simp
        next => rfl
  · rw [if_neg hf, if_neg fun hc => hf hc.1]
    exact ⟨rfl, fun hd hs => absurd (hd.symm.trans hs) (by decide), fun hd hs => absurd (hs.symm.trans hd) (by decide)⟩

/-! ## The word that ON writes -/

theorem fioCtrl_written (cur : Nat) (lvl : Bool) :
    (word (setBitTo (cur % 4) 0 lvl)).toNat = cur / 2 % 2 * 2 + b2n lvl := by
  have h : setBitTo (cur % 4) 0 lvl = cur / 2 % 2 * 2 + b2n lvl := by
    cases lvl <;> simp [setBitTo, setFld, fld, b2n] <;> omega
  rw [h, word, BitVec.toNat_ofNat]
  have := b2n_le_one lvl
  omega

theorem rfChanged_fioCtrl (cur : Nat) (lvl : Bool) : rfChanged fioCtrlRow.fields cur (cur / 2 % 2 * 2 + b2n lvl) = 0 := by
  have h : fld cur 1 1 = fld (cur / 2 % 2 * 2 + b2n lvl) 1 1 := by
    have := b2n_le_one lvl
    simp only [fld]
    omega
  have hfold : ∀ v, rfChanged fioCtrlRow.fields cur v = if fld cur 1 1 != fld v 1 1 then 2 else 0 := fun _ => rfl
  rw [hfold, h, bne_self_eq_false]
  rfl

/-- FIO.CTRL as ON leaves it. -/
def ctrlWord (cur : Nat) (lvl : Bool) : Nat := mergeBits 3 cur (cur / 2 % 2 * 2 + b2n lvl)

theorem bitAt_ctrlWord (cur : Nat) (lvl : Bool) : bitAt (ctrlWord cur lvl) 0 = lvl ∧ bitAt (ctrlWord cur lvl) 1 = bitAt cur 1 := by
  have h0 : (3 : Nat).testBit 0 = true := by decide
  have h1 : (3 : Nat).testBit 1 = true := by decide
  rw [ctrlWord, bitAt_mergeBits, bitAt_mergeBits, h0, h1, if_pos rfl, if_pos rfl]
  constructor
  · cases lvl <;> simp [bitAt, b2n]
  · have := b2n_le_one lvl
    simp only [bitAt]
    congr 1
    omega

theorem exec_on {ini ch : Nat} (lvl : Bool) {s : State} (hch : ch < 32) (hon : s.domOn domField = true) :
    exec (.on ini ch lvl) s = doneBus s { st := followTest ch (followOn ch
      (s.begin_.setN (Reg.fioCtrl ch) (ctrlWord (s.reg (Reg.fioCtrl ch)).toNat lvl))) } := by
  have hon' : s.begin_.domOn (domainOf (Reg.fioCtrl ch)) = true := (domainOf_fioCtrl ch hch).symm ▸ hon
  have hcommit : isCommit (Reg.fioCtrl ch) = false := isCommit_of_offset (by unfold Reg.fioCtrl; omega)
  have hw : writeFields fioCtrlRow ch ini (Reg.fioCtrl ch) ((s.reg (Reg.fioCtrl ch)).toNat / 2 % 2 * 2 + b2n lvl) s.begin_ =
      s.begin_.setN (Reg.fioCtrl ch) (ctrlWord (s.reg (Reg.fioCtrl ch)).toNat lvl) :=
    (writeFields_unrefused (s := s.begin_) ch ini (by decide) (rfChanged_fioCtrl _ _)).trans
      (congrArg (s.begin_.setN (Reg.fioCtrl ch)) (writtenWord_of_w1c 0 _ _ (by decide)))
  have h4 : ∀ x, bitAt (x / 2 % 2 * 2 + b2n lvl) 4 = false ∧ bitAt (x / 2 % 2 * 2 + b2n lvl) 5 = false := fun x => by
    have := b2n_le_one lvl
    simp only [bitAt, beq_eq_false_iff_ne]
    omega
  change doneBus s (busWrite ini (Reg.fioCtrl ch) _ s.begin_) = _
  rw [busWrite_high ini _ (by unfold Reg.fioCtrl; omega) (regAt_fioCtrl ch hch) hon' hcommit
      (by unfold Reg.fioCtrl Reg.khanCtrl; omega), writeHigh_fioCtrl, fioCtrl_written, (h4 _).1, (h4 _).2, hw]
  rfl

theorem fioCtrl_plain (ch : Nat) : ¬ eventReg (Reg.fioCtrl ch) ∧ Reg.fioCtrl ch ∉ cycleRegs := by
  refine ⟨not_eventReg (.inr (by unfold Reg.fioCtrl; omega)), fun h => ?_⟩
  simp only [cycleRegs, List.mem_cons, List.mem_flatMap, List.mem_range, List.not_mem_nil, or_false, Reg.fioCtrl, Reg.logOvf,
    Reg.logFioLo, Reg.logFioHi] at h
  rcases h with h | ⟨i, hi, h | h⟩ <;> omega

theorem on_done (s : State) (ini ch : Nat) (lvl : Bool) (hch : ch < 32) (hs : s.sized = true) (hon : s.domOn domField = true) :
    ∃ t, exec (.on ini ch lvl) s = .next t ∧ t.flag (Reg.fioCtrl ch) 0 = lvl ∧ t.flag (Reg.fioCtrl ch) 1 = s.flag (Reg.fioCtrl ch) 1 ∧
      (t.fioCh ch).out = (if s.followsOn ch = true ∧ (lvl = true ∨ (s.fioCh ch).pulse = false) then lvl else (s.fioCh ch).out) ∧
      (t.driven ch = true → s.driven ch = false →
        (t.fioCh ch).onCheck = true ∧ t.valveCycles ch = min (s.valveCycles ch + 1) (2 ^ 40 - 1)) ∧
      (t.driven ch = false → s.driven ch = true → (t.fioCh ch).offCheck = true) ∧
      (∀ k, k ≠ ch → t.fioCh k = s.fioCh k) ∧ State.onlyRegs (Reg.fioCtrl ch :: cycleRegs) s { t with fio := s.fio } := by
  let u := s.begin_.setN (Reg.fioCtrl ch) (ctrlWord (s.reg (Reg.fioCtrl ch)).toNat lvl)
  have hl : ch < u.fio.length := hch.trans_eq (sized_field hs).1.symm
  have hl' : ch < (followOn ch u).fio.length := by rw [length_fio_followOn]; exact hl
  have hreg : ∀ b, b ≠ Reg.fioCtrl ch → u.reg b = s.reg b := fun b hb => State.reg_setN_ne _ _ hb
  have hflag : u.flag (Reg.fioCtrl ch) 0 = lvl ∧ u.flag (Reg.fioCtrl ch) 1 = s.flag (Reg.fioCtrl ch) 1 := by
    rw [State.flag_setN _ _ _ (by norm_num), State.flag_setN _ _ _ (by norm_num)]
    exact bitAt_ctrlWord _ _
  have hkeep : ∀ i, (followTest ch (followOn ch u)).flag (Reg.fioCtrl ch) i = u.flag (Reg.fioCtrl ch) i := fun i => by
    rw [(followTest_touches ch _).keeps fun x => x.flag (Reg.fioCtrl ch) i, State.flag,
      followOn_keepsRegs u hch _ (fioCtrl_plain ch).2 (fioCtrl_plain ch).1, State.flag]
  have hvalve : u.valveCycles ch = s.valveCycles ch :=
    count40_congr (hreg _ (by simp only [Reg.logFioLo, Reg.fioCtrl]; omega)) (hreg _ (by simp only [Reg.logFioHi, Reg.fioCtrl]; omega))
  have hfollows : u.followsOn ch = s.followsOn ch := by
    have hcfg : u.fioFunc ch = s.fioFunc ch := by
      rw [State.fioFunc, State.fget, hreg _ (by simp only [Reg.fioCfg, Reg.fioCtrl]; omega), State.fioFunc, State.fget]
    rw [State.followsOn, hcfg]
    rfl
  have hdriven : u.driven ch = s.driven ch := rfl
  obtain ⟨hout, hup, hdown⟩ := followOn_channel hl
  obtain ⟨b, hb⟩ := followTest_fioCh hl'
  have hT : Touches .outputs s.begin_ (followTest ch (followOn ch u)) :=
    (((State.setN_touches s.begin_ _ _).mono).then (followOn_touches ch u)).then (followTest_touches ch _)
  have hK : KeepsRegs (· ∈ Reg.fioCtrl ch :: cycleRegs) s (followTest ch (followOn ch u)) := fun c hc he => by
    rw [(followTest_touches ch _).keeps fun x => x.reg c,
      followOn_keepsRegs u hch _ (fun h => hc (List.mem_cons_of_mem _ h)) he, hreg _ fun h => hc (by simp [h])]
  rw [hdriven, hvalve] at hup
  rw [hdriven] at hdown
  refine ⟨_, (exec_on lvl hch hon).trans hT.doneBus_eq, (hkeep 0).trans hflag.1, (hkeep 1).trans hflag.2, ?_, ?_, ?_, fun k hk => ?_,
    hT.back_begin, hK.kept⟩
  · rw [hb]
    exact hout.trans (by rw [hflag.1, hfollows]; rfl)
  · rw [followTest_driven hl', hb, (followTest_touches ch _).keeps fun x => x.valveCycles ch]
    exact hup
  · rw [followTest_driven hl', hb]
    exact hdown
  · rw [followTest_fioCh_ne _ hk, followOn_fioCh_ne _ hk]
    rfl

/-! ## A pulse (R701, R717, R718) -/

/-- The output of a channel before a pulse starts: driven already, or turned on. -/
def State.pulsed (s : State) (ch : Nat) : State := if s.driven ch then s else turnOn ch s

theorem startPulse_eq (ch us : Nat) (e : Option Nat) (s : State) : startPulse ch us e s =
    if (s.fioCh ch).pulse then
      ((s.pulsed ch).setFio ch fun c => { c with until_ := max c.until_ (s.now + us * 250) }, true)
    else ((s.pulsed ch).setFio ch fun c => { c with pulse := true, until_ := s.now + us * 250, entry := e }, false) := rfl

theorem State.pulsed_touches (s : State) (ch : Nat) : Touches .outputs s (s.pulsed ch) :=
  Touches.ite (fun _ => Touches.refl) fun _ => turnOn_touches ch s

theorem State.pulsed_keepsRegs (s : State) {ch : Nat} (h : ch < 32) : KeepsRegs (· ∈ cycleRegs) s (s.pulsed ch) :=
  KeepsRegs.ite (fun _ => KeepsRegs.of_regs rfl) fun _ => turnOn_keepsRegs s h

theorem State.pulsed_fioCh_ne (s : State) {ch k : Nat} (h : k ≠ ch) : (s.pulsed ch).fioCh k = s.fioCh k := by
  unfold State.pulsed
  split
  · rfl
  · exact turnOn_fioCh_ne s h

theorem State.length_fio_pulsed (s : State) (ch : Nat) : (s.pulsed ch).fio.length = s.fio.length := by
  unfold State.pulsed
  split
  · rfl
  · exact length_fio_turnOn ch s

theorem State.canTurnOn_pulsed (s : State) (ch k : Nat) : (s.pulsed ch).canTurnOn k = s.canTurnOn k := by
  unfold State.pulsed
  split
  · rfl
  · exact canTurnOn_turnOn ch k s

/-- The output is commanded on before its pulse starts; where it was not driven, its on-check is due. -/
theorem State.pulsed_fioCh {s : State} {ch : Nat} (h : ch < s.fio.length) :
    (s.pulsed ch).fioCh ch = if s.driven ch then s.fioCh ch else (s.fioCh ch).turnedOn (s.canTurnOn ch) := by
  unfold State.pulsed
  split
  · rfl
  · exact turnOn_fioCh_same h

theorem State.pulsed_out {s : State} {ch : Nat} (h : ch < s.fio.length) : ((s.pulsed ch).fioCh ch).out = true := by
  rw [State.pulsed_fioCh h]
  split
  next hd => exact (Bool.and_eq_true _ _ ▸ hd).1
  next => rfl

theorem State.pulsed_onCheck {s : State} {ch : Nat} (h : ch < s.fio.length) (hd : s.driven ch = false) :
    ((s.pulsed ch).fioCh ch).onCheck = true := by
  rw [State.pulsed_fioCh h, if_neg (by rw [hd]; decide)]
  rfl

theorem State.pulsed_valveCycles {s : State} {ch : Nat} (hd : s.driven ch = false) (hc : s.canTurnOn ch = true) :
    (s.pulsed ch).valveCycles ch = min (s.valveCycles ch + 1) (2 ^ 40 - 1) := by
  rw [State.pulsed, if_neg (by rw [hd]; decide), turnOn_valveCycles hc]

theorem startPulse_touches (ch us : Nat) (e : Option Nat) (s : State) : Touches .outputs s (startPulse ch us e s).1 := by
  rw [startPulse_eq]
  split
  · exact (s.pulsed_touches ch).then (State.setFio_touches _ _ _)
  · exact (s.pulsed_touches ch).then (State.setFio_touches _ _ _)

theorem startPulse_regs (ch us : Nat) (e : Option Nat) (s : State) : (startPulse ch us e s).1.regs = (s.pulsed ch).regs := by
  rw [startPulse_eq]
  split <;> rfl

theorem startPulse_fioCh_ne {ch k : Nat} (us : Nat) (e : Option Nat) (s : State) (h : k ≠ ch) :
    (startPulse ch us e s).1.fioCh k = s.fioCh k := by
  rw [startPulse_eq]
  split
  · exact (fioCh_setFio_ne _ _ h).trans (s.pulsed_fioCh_ne h)
  · exact (fioCh_setFio_ne _ _ h).trans (s.pulsed_fioCh_ne h)

theorem startPulse_fioCh {ch : Nat} (us : Nat) (e : Option Nat) {s : State} (h : ch < s.fio.length) :
    (startPulse ch us e s).1.fioCh ch =
      if (s.fioCh ch).pulse then { (s.pulsed ch).fioCh ch with until_ := max ((s.pulsed ch).fioCh ch).until_ (s.now + us * 250) }
      else { (s.pulsed ch).fioCh ch with pulse := true, until_ := s.now + us * 250, entry := e } := by
  have hl : ch < (s.pulsed ch).fio.length := by rwa [State.length_fio_pulsed]
  rw [startPulse_eq]
  split
  · exact fioCh_setFio_same _ hl
  · exact fioCh_setFio_same _ hl

theorem startPulse_canTurnOn {ch : Nat} (us : Nat) (e : Option Nat) (s : State) :
    (startPulse ch us e s).1.canTurnOn ch = s.canTurnOn ch := by
  rw [← State.canTurnOn_pulsed s ch ch, startPulse_eq]
  split <;> exact canTurnOn_congr (trip_setFio fun _ => rfl) rfl rfl

/-- A pulse of a channel. -/
theorem startPulse_channel {ch : Nat} (us : Nat) (e : Option Nat) {s : State} (h : ch < s.fio.length) :
    ((startPulse ch us e s).1.fioCh ch).pulse = true ∧
    ((startPulse ch us e s).1.fioCh ch).until_ =
      (if (s.fioCh ch).pulse then max (s.fioCh ch).until_ (s.now + us * 250) else s.now + us * 250) ∧
    ((startPulse ch us e s).1.fioCh ch).out = true ∧
    (s.canTurnOn ch = false → ((startPulse ch us e s).1.fioCh ch).onCheck = true) ∧
    ((startPulse ch us e s).1.driven ch = true → s.driven ch = false →
      ((startPulse ch us e s).1.fioCh ch).onCheck = true ∧
      (startPulse ch us e s).1.valveCycles ch = min (s.valveCycles ch + 1) (2 ^ 40 - 1)) := by
  have hcheck : s.driven ch = false → ((startPulse ch us e s).1.fioCh ch).onCheck = true := fun hd => by
    rw [startPulse_fioCh us e h]
    split
    · exact State.pulsed_onCheck h hd
    · exact State.pulsed_onCheck h hd
  have hpulse : ((s.pulsed ch).fioCh ch).pulse = (s.fioCh ch).pulse ∧ ((s.pulsed ch).fioCh ch).until_ = (s.fioCh ch).until_ := by
    rw [State.pulsed_fioCh h]
    split <;> exact ⟨rfl, rfl⟩
  refine ⟨?_, ?_, ?_, fun hc => hcheck (driven_of_canTurnOn hc), fun hd hs => ⟨hcheck hs, ?_⟩⟩
  · rw [startPulse_fioCh us e h]
    split
    next hp => exact hpulse.1.trans hp
    next => rfl
  · rw [startPulse_fioCh us e h]
    split
    · rw [hpulse.2]
    · rfl
  · rw [startPulse_fioCh us e h]
    split
    · exact State.pulsed_out h
    · exact State.pulsed_out h
  · rw [State.driven, startPulse_canTurnOn, Bool.and_eq_true] at hd
    rw [valveCycles_congr (startPulse_regs ch us e s), State.pulsed_valveCycles hs hd.2]

/-! ## FIO_TEST -/

theorem toNat_testWord (us : Nat) : (word (2 ^ 31 + us % 65536)).toNat = 2 ^ 31 + us % 65536 := by
  rw [word, BitVec.toNat_ofNat]
  omega

theorem bitAt_testWord {us : Nat} (h : us < 65536) : bitAt (2 ^ 31 + us) 31 = true := by
  simp only [bitAt, beq_iff_eq]
  omega

theorem fioTest_plain (ch : Nat) : ¬ eventReg (Reg.fioTest ch) ∧ Reg.fioTest ch ∉ cycleRegs ∧ Reg.fioTest ch ∉ wdropRegs := by
  refine ⟨not_eventReg (.inr (by unfold Reg.fioTest; omega)), fun h => ?_, fun h => ?_⟩
  · simp only [cycleRegs, List.mem_cons, List.mem_flatMap, List.mem_range, List.not_mem_nil, or_false, Reg.fioTest, Reg.logOvf,
      Reg.logFioLo, Reg.logFioHi] at h
    rcases h with h | ⟨i, hi, h | h⟩ <;> omega
  · simp only [wdropRegs, List.mem_cons, List.not_mem_nil, or_false, Reg.fioTest, Reg.sysWdropCnt, Reg.sysWdropAddr,
      Reg.sysWdropSrc] at h
    omega

theorem exec_fioTest {ini ch : Nat} (us : Nat) {s : State} (hch : ch < 32) (hon : s.domOn domField = true) :
    exec (.fioTest ini ch us) s = doneBus s ⟨testGo ch (!s.ownerArmed (s.ownerOf .fio ch))
      (writeFields fioTestRow ch ini (Reg.fioTest ch) (2 ^ 31 + us % 65536) s.begin_), [], []⟩ := by
  have hon' : s.begin_.domOn (domainOf (Reg.fioTest ch)) = true := (domainOf_fioTest ch hch).symm ▸ hon
  have hcommit : isCommit (Reg.fioTest ch) = false := isCommit_of_offset (by unfold Reg.fioTest; omega)
  change doneBus s (busWrite ini (Reg.fioTest ch) _ s.begin_) = _
  rw [busWrite_high ini _ (by unfold Reg.fioTest; omega) (regAt_fioTest ch hch) hon' hcommit
      (by unfold Reg.fioTest Reg.khanCtrl; omega), writeHigh_fioTest, toNat_testWord, bitAt_testWord (Nat.mod_lt _ (by norm_num)),
    Bool.true_and]
  rfl

theorem testBit_mask16_fioTest : ∀ i < 16, (0x8000FFFF : Nat).testBit i = true := by decide

/-- FIO.TEST after GO has been taken from it. -/
def goTaken (ch : Nat) (s : State) : State := s.setFlag (Reg.fioTest ch) 31 false

theorem testGo_pulse {ch : Nat} {s : State} (h : s.fioFunc ch = 0x10 ∨ s.fioFunc ch = 0x11) :
    testGo ch true s = (startPulse ch ((goTaken ch s).fget (Reg.fioTest ch) 15 0) none (goTaken ch s)).1 := by
  have hf : (goTaken ch s).fioFunc ch = s.fioFunc ch := by
    rw [State.fioFunc, State.fget, goTaken, State.reg_setFlag_ne _ _ _ (by simp only [Reg.fioCfg, Reg.fioTest]; omega),
      State.fioFunc, State.fget]
  unfold testGo
  exact if_pos (by
    rw [show (s.setFlag (Reg.fioTest ch) 31 false).fioFunc ch = s.fioFunc ch from hf]
    simpa using h)

theorem testGo_refused (ch : Nat) (s : State) : testGo ch false s = goTaken ch s := rfl

theorem fioTest_done (s : State) (ini ch us : Nat) (hch : ch < 32) (hus : us < 65536) (hs : s.sized = true)
    (hon : s.domOn domField = true) (harm : s.ownerArmed (s.ownerOf .fio ch) = false)
    (hfunc : s.fioFunc ch = 0x10 ∨ s.fioFunc ch = 0x11) :
    ∃ t, exec (.fioTest ini ch us) s = .next t ∧ t.fget (Reg.fioTest ch) 15 0 = us ∧ t.flag (Reg.fioTest ch) 31 = false ∧
      (t.fioCh ch).pulse = true ∧
      (t.fioCh ch).until_ = (if (s.fioCh ch).pulse then max (s.fioCh ch).until_ (s.now + us * 250) else s.now + us * 250) ∧
      (t.fioCh ch).out = true ∧ (s.canTurnOn ch = false → (t.fioCh ch).onCheck = true) ∧
      (t.driven ch = true → s.driven ch = false →
        (t.fioCh ch).onCheck = true ∧ t.valveCycles ch = min (s.valveCycles ch + 1) (2 ^ 40 - 1)) ∧
      (∀ k, k ≠ ch → t.fioCh k = s.fioCh k) ∧ State.onlyRegs (Reg.fioTest ch :: cycleRegs) s { t with fio := s.fio } := by
  let w := mergeBits 0x8000FFFF (s.reg (Reg.fioTest ch)).toNat (2 ^ 31 + us)
  let u := s.begin_.setN (Reg.fioTest ch) w
  let v := goTaken ch u
  have hw : writeFields fioTestRow ch ini (Reg.fioTest ch) (2 ^ 31 + us) s.begin_ = u :=
    (writeFields_disarmed (r := fioTestRow) (i := ch) (s := s.begin_) ini (by decide) harm).trans
      (congrArg (s.begin_.setN (Reg.fioTest ch)) (writtenWord_of_w1c 0 _ _ (by decide)))
  have hreg : ∀ b, b ≠ Reg.fioTest ch → v.reg b = s.reg b := fun b hb =>
    (State.reg_setFlag_ne _ _ _ hb).trans (State.reg_setN_ne _ _ hb)
  have hus' : v.fget (Reg.fioTest ch) 15 0 = us := by
    have hlow : w % 2 ^ 16 = us := (mergeBits_mod _ _ testBit_mask16_fioTest).trans (by omega)
    exact (State.fget_fset_ne _ _ (by norm_num) (by norm_num) (by norm_num) (.inr (.inl (by norm_num)))).trans
      ((fget_setN_low _ _ w (by norm_num)).trans hlow)
  have hgo : v.flag (Reg.fioTest ch) 31 = false := State.flag_setFlag _ _ _ (by norm_num)
  have hfu : u.fioFunc ch = s.fioFunc ch := by
    rw [State.fioFunc, State.fget, State.reg_setN_ne _ _ (by simp only [Reg.fioCfg, Reg.fioTest]; omega), State.fioFunc, State.fget]
    rfl
  have he : exec (.fioTest ini ch us) s = doneBus s { st := (startPulse ch us none v).1 } := by
    rw [exec_fioTest us hch hon, Nat.mod_eq_of_lt hus, harm, hw, Bool.not_false, testGo_pulse (by rwa [hfu]), hus']
  have hl : ch < v.fio.length := hch.trans_eq (sized_field hs).1.symm
  obtain ⟨hpulse, huntil, hout, hcheck, hnew⟩ := startPulse_channel us none hl
  have hvalve : v.valveCycles ch = s.valveCycles ch :=
    count40_congr (hreg _ (by simp only [Reg.logFioLo, Reg.fioTest]; omega)) (hreg _ (by simp only [Reg.logFioHi, Reg.fioTest]; omega))
  have hkeep : KeepsRegs (· ∈ cycleRegs) v (startPulse ch us none v).1 :=
    (v.pulsed_keepsRegs hch).trans (KeepsRegs.of_regs (startPulse_regs _ _ _ _))
  have hself := hkeep _ (fioTest_plain ch).2.1 (fioTest_plain ch).1
  have hT : Touches .outputs s.begin_ (startPulse ch us none v).1 :=
    ((⟨rfl, rfl⟩ : Touches { regs := true } s.begin_ v).mono).then (startPulse_touches ch us none v)
  have hK : KeepsRegs (· ∈ Reg.fioTest ch :: cycleRegs) s (startPulse ch us none v).1 := fun b hb hev =>
    (hkeep b (fun h => hb (List.mem_cons_of_mem _ h)) hev).trans (hreg b fun h => hb (by simp [h]))
  rw [hvalve] at hnew
  exact ⟨_, he.trans hT.doneBus_eq, by rw [State.fget, hself]; exact hus', by rw [State.flag, hself]; exact hgo, hpulse, huntil,
    hout, hcheck, hnew, fun k hk => startPulse_fioCh_ne us none v hk, hT.back_begin, hK.kept⟩

/-- GO is an RF field, so a write of FIO.TEST with GO of an armed owner is always refused (R63). -/
theorem rfChanged_fioTest {cur us : Nat} (hus : us < 65536) (h : bitAt cur 31 = false) :
    rfChanged fioTestRow.fields cur (2 ^ 31 + us) = if fld cur 15 0 = us then 2 ^ 31 else 2 ^ 31 + 65535 := by
  have hgo : fld (2 ^ 31 + us) 31 31 = 1 := by
    simp only [fld]
    omega
  have hlow : fld (2 ^ 31 + us) 15 0 = us := by
    simp only [fld]
    omega
  have hcur : fld cur 31 31 ≠ 1 := by simpa [bitAt_eq] using h
  have hfold : rfChanged fioTestRow.fields cur (2 ^ 31 + us) = if fld cur 15 0 != fld (2 ^ 31 + us) 15 0 then
      (if fld cur 31 31 != fld (2 ^ 31 + us) 31 31 then 2 ^ 31 else 0) + 65535
      else if fld cur 31 31 != fld (2 ^ 31 + us) 31 31 then 2 ^ 31 else 0 := rfl
  rw [hfold, hgo, hlow]
  simp only [bne_iff_ne, ne_eq, hcur, not_false_eq_true, if_true, ite_not]

theorem writtenWord_fioTest_armed {cur us : Nat} (hus : us < 65536) (h : bitAt cur 31 = false) :
    writtenWord fioTestRow.fields (rfChanged fioTestRow.fields cur (2 ^ 31 + us)) cur (2 ^ 31 + us) = cur := by
  have hmask : accMask .rw fioTestRow.fields + (accMask .rf fioTestRow.fields ^^^ 2 ^ 31) = 65535 ∧
      accMask .rw fioTestRow.fields + (accMask .rf fioTestRow.fields ^^^ (2 ^ 31 + 65535)) = 0 := by decide
  rw [writtenWord_of_w1c _ _ _ (by decide), rfChanged_fioTest hus h]
  split
  next hsame =>
    rw [hmask.1]
    refine mergeBits_eq_self fun i hi => ?_
    have hi16 : i < 16 := by
      by_contra hge
      rw [Nat.testBit_eq_false_of_lt (lt_of_lt_of_le (by norm_num : 65535 < 2 ^ 16) (Nat.pow_le_pow_right (by norm_num) (by omega)))] at hi
      exact nomatch hi
    have hmod : (2 ^ 31 + us) % 2 ^ 16 = cur % 2 ^ 16 := by
      simp only [fld] at hsame
      omega
    have hbit := congrArg (fun x => x.testBit i) hmod
    simp only [Nat.testBit_mod_two_pow, hi16, decide_true, Bool.true_and] at hbit
    exact hbit
  next =>
    rw [hmask.2]
    exact mergeBits_zero _ _

theorem setFld_self (v hi lo : Nat) : setFld v hi lo (fld v hi lo) = v := by
  have hle : fld v hi lo * 2 ^ lo ≤ v := (Nat.mul_le_mul_right _ (Nat.mod_le _ _)).trans (Nat.div_mul_le_self v _)
  rw [setFld, Nat.mod_eq_of_lt (fld_lt v hi lo), Nat.sub_add_cancel hle]

/-- A flag that is given the value that it has leaves its register. -/
theorem reg_setFlag_self {s : State} {a i : Nat} {v : Bool} (h : s.flag a i = v) (b : Nat) : (s.setFlag a i v).reg b = s.reg b := by
  by_cases hb : b = a
  · subst hb
    have hv : b2n v = fld (s.reg b).toNat i i := by
      have hlt := fld_lt (s.reg b).toNat i i
      rw [← h, State.flag, bitAt_eq, b2n]
      rw [Nat.sub_self] at hlt
      split
      next h1 => exact (beq_iff_eq.1 h1).symm
      next h1 =>
        have h0 : fld (s.reg b).toNat i i ≠ 1 := fun e => h1 (beq_iff_eq.2 e)
        omega
    rw [State.setFlag, State.fset, State.reg_setReg, hv, setFld_self, BitVec.ofNat_toNat, BitVec.setWidth_eq]
  · exact State.reg_setFlag_ne _ _ _ hb

theorem dropWrite_addr (ini a : Nat) (own : Owner) (s : State) :
    ((dropWrite ini a own s).reg Reg.sysWdropAddr).toNat = a % 2 ^ 32 := by
  unfold dropWrite
  dsimp only
  rw [raise_reg 448 _ (by norm_num) (not_eventReg_wdrop (by simp [wdropRegs])), State.reg_setN_ne _ _ (by decide),
    State.reg_setN, BitVec.toNat_ofNat, Nat.mod_mod]

theorem fioTest_refused (s : State) (ini ch us : Nat) (hch : ch < 32) (hon : s.domOn domField = true)
    (harm : s.ownerArmed (s.ownerOf .fio ch) = true) (hgo : s.flag (Reg.fioTest ch) 31 = false) :
    ∃ t, exec (.fioTest ini ch us) s = .next t ∧ t.pendingEvent 448 = true ∧
      (t.reg Reg.sysWdropAddr).toNat = Reg.fioTest ch % 2 ^ 32 ∧ t.reg (Reg.fioTest ch) = s.reg (Reg.fioTest ch) ∧
      State.onlyRegs [Reg.sysWdropCnt, Reg.sysWdropAddr, Reg.sysWdropSrc] s t := by
  have hus : us % 65536 < 65536 := Nat.mod_lt _ (by norm_num)
  let own := s.ownerOf .fio ch
  let u := s.begin_.setN (Reg.fioTest ch) (s.reg (Reg.fioTest ch)).toNat
  let v := dropWrite ini (Reg.fioTest ch) own u
  have hw : writeFields fioTestRow ch ini (Reg.fioTest ch) (2 ^ 31 + us % 65536) s.begin_ = v := by
    refine (writeFields_armed (r := fioTestRow) (i := ch) (s := s.begin_) ini (by decide) harm).trans ((if_neg ?_).trans ?_)
    · rw [rfChanged_fioTest (cur := (s.begin_.reg (Reg.fioTest ch)).toNat) hus hgo]
      split <;> norm_num
    · rw [writtenWord_fioTest_armed (cur := (s.begin_.reg (Reg.fioTest ch)).toNat) hus hgo]
      rfl
  have hdrop : RegsOnly (· ∈ wdropRegs) s.begin_ v := (dropWrite_regsOnly ini (Reg.fioTest ch) own u).setN_self _
  have hvreg : v.reg (Reg.fioTest ch) = s.reg (Reg.fioTest ch) := hdrop.2 _ (fioTest_plain ch).2.2 (fioTest_plain ch).1
  have hself : ∀ b, (goTaken ch v).reg b = v.reg b :=
    reg_setFlag_self (by rw [State.flag, hvreg]; exact hgo)
  have hR : RegsOnly (· ∈ wdropRegs) s.begin_ (goTaken ch v) := hdrop.trans ⟨⟨_, _, rfl⟩, fun b _ _ => hself b⟩
  have he : exec (.fioTest ini ch us) s = doneBus s { st := goTaken ch v } := by
    rw [exec_fioTest us hch hon, harm, hw, Bool.not_true, testGo_refused]
  obtain ⟨t, ht, hregs, honly, -⟩ := doneBus_onlyRegs hR
  refine ⟨t, he.trans ht, ?_, ?_, ?_, honly⟩
  · rw [State.pendingEvent, flag_congr hregs, ← State.pendingEvent, goTaken, pendingEvent_setFlag _ _ _ _ (fioTest_plain ch).1 (by norm_num)]
    exact pendingEvent_raise_self 448 _ (by norm_num)
  · rw [reg_congr hregs, hself, dropWrite_addr]
  · rw [reg_congr hregs, hself, hvreg]

/-! ## All of them -/

/-- A write to a field register while its domain is off does nothing (R1020). -/
theorem busWrite_off (ini : Nat) {a i j : Nat} {r : RegInfo} (val : Word) {s : State} (halign : a % 4 = 0)
    (hreg : regAt a = some (r, i, j)) (hoff : s.domOn (domainOf a) = false) (hwakes : wakes r.base val.toNat = false) :
    busWrite ini a val s = { st := s } := by
  simp only [busWrite, halign, beq_self_eq_true, if_true, hreg, hoff, hwakes, Bool.not_false, Bool.and_self]

theorem fieldControl_off (s : State) (ini ch us : Nat) (lvl : Bool) (c : Instr) (hoff : s.domOn domField = false) (hch : ch < 32)
    (hc : c ∈ [.cntClr ini ch, .arm ini ch, .rearm ini ch, .grpRearm ini ch, .on ini ch lvl, .fioTest ini ch us]) :
    ∃ t, exec c s = .next t ∧ State.unchanged s t := by
  have hoff' : s.begin_.domOn domField = false := hoff
  have hbus : ∃ t, doneBus s { st := s.begin_ } = .next t ∧ State.unchanged s t :=
    ⟨s.begin_, (Touches.refl (m := {})).doneBus_eq, (Touches.refl (m := {})).back_begin⟩
  obtain ⟨t, ht, hu⟩ := done_unchanged s
  simp only [List.mem_cons, List.not_mem_nil, or_false] at hc
  rcases hc with rfl | rfl | rfl | rfl | rfl | rfl
  · exact ⟨t, (congrArg (done s) (ifOn_off _ _ hoff')).trans ht, hu⟩
  · exact ⟨t, (congrArg (done s) (ifOn_off _ _ hoff')).trans ht, hu⟩
  · exact ⟨t, (congrArg (done s) (ifOn_off _ _ hoff')).trans ht, hu⟩
  · exact ⟨t, (congrArg (done s) (ifOn_off _ _ hoff')).trans ht, hu⟩
  · have h : exec (.on ini ch lvl) s = doneBus s { st := s.begin_ } :=
      congrArg (doneBus s) (busWrite_off ini _ (by unfold Reg.fioCtrl; omega) (regAt_fioCtrl ch hch)
        ((domainOf_fioCtrl ch hch).symm ▸ hoff') rfl)
    rw [h]
    exact hbus
  · have h : exec (.fioTest ini ch us) s = doneBus s { st := s.begin_ } :=
      congrArg (doneBus s) (busWrite_off ini _ (by unfold Reg.fioTest; omega) (regAt_fioTest ch hch)
        ((domainOf_fioTest ch hch).symm ▸ hoff') rfl)
    rw [h]
    exact hbus

/-- Settles O26, a command at a time. -/
theorem fieldControlsActOnTheirChannel : Obligations.FieldControlsActOnTheirChannel :=
  ⟨cntClr_done, arm_done, rearm_done, grpRearm_done, on_done, fioTest_done,
    fun s ini ch us hch _ hon harm hgo => fioTest_refused s ini ch us hch hon harm hgo, fieldControl_off⟩

end Sys2Proof.Machine

/-! PROOFS. Field inputs: accepted changes, frequency gates and timeouts (O27). -/

namespace Sys2Proof.Machine

-- One theorem after the other: many at once ask for too many threads.
set_option Elab.async false

/-! ## An accepted change -/

/-- A field channel with the level, the time and the reference position of an accepted change (R687). -/
def Fio.accepted (lvl : Bool) (ns : Word) (pos : Pos) (c : Fio) : Fio := { c with level := lvl, atNs := ns, atPos := pos }

/-- A frequency input with one more rising edge (R690). -/
def Fio.edge (now : Nat) (c : Fio) : Fio :=
  { c with edges := c.edges + 1, t0 := if c.edges == 0 then now else c.t0, t1 := now }

theorem Fio.edge_accepted (lvl : Bool) (ns : Word) (pos : Pos) (now : Nat) (c : Fio) :
    (c.accepted lvl ns pos).edge now = { c with
      level := lvl, atNs := ns, atPos := pos, edges := c.edges + 1, t0 := if c.edges = 0 then now else c.t0, t1 := now } := by
  simp only [Fio.edge, Fio.accepted, beq_iff_eq]

/-- The position that an accepted change records. -/
def acceptedPos (s : State) (ch : Nat) (back : Int) : Pos := BitVec.ofNat 48 (posAdd (s.fioPos ch).toNat (-back))

theorem acceptedPos_eq (s : State) (ch : Nat) (back : Int) : acceptedPos s ch back = BitVec.ofInt 48 ((s.fioPos ch).toNat - back) := by
  apply BitVec.eq_of_toNat_eq
  rw [acceptedPos, posAdd, BitVec.toNat_ofNat, BitVec.toNat_ofInt]
  omega

/-- The channel with its accepted change, before its function acts on it. -/
def accepted (ch : Nat) (lvl : Bool) (back : Int) (backNs : Nat) (s : State) : State :=
  s.setFio ch (Fio.accepted lvl (s.tbNs - BitVec.ofNat 32 backNs) (acceptedPos s ch back))

/-- What an accepted change of a channel that triggers no station leads to. -/
theorem acceptInput_eq {ch : Nat} {lvl : Bool} (back : Int) (backNs : Nat) {s : State}
    (h : s.fioFunc ch = 2 → s.triggeredBy ch lvl = []) : acceptInput ch lvl back backNs s =
      if s.fioFunc ch = 1 then raise (evFio ch) (accepted ch lvl back backNs s)
      else if s.fioFunc ch = 3 ∧ lvl = true then countEdge ch (accepted ch lvl back backNs s)
      else if s.fioFunc ch = 4 ∧ lvl = true then (accepted ch lvl back backNs s).setFio ch (Fio.edge s.now)
      else accepted ch lvl back backNs s := by
  have hf : (s.setFio ch (Fio.accepted lvl (s.tbNs - BitVec.ofNat 32 backNs) (acceptedPos s ch back))).fioFunc ch = s.fioFunc ch := rfl
  unfold acceptInput accepted
  dsimp only
  unfold Fio.accepted acceptedPos at hf ⊢
  rw [hf]
  by_cases h1 : s.fioFunc ch = 1
  · rw [if_pos (beq_iff_eq.2 h1), if_pos h1]
  rw [if_neg (by simpa using h1), if_neg h1]
  by_cases h2 : s.fioFunc ch = 2
  · have ht := h h2
    rw [if_pos (beq_iff_eq.2 h2), if_neg (by omega), if_neg (by omega)]
    exact congrArg (List.foldl _ _) ht
  rw [if_neg (by simpa using h2)]
  by_cases h3 : s.fioFunc ch = 3
  · rw [if_pos (beq_iff_eq.2 h3)]
    cases lvl
    · rw [if_neg (by decide), if_neg (by simp), if_neg (by simp)]
    · rw [if_pos rfl, if_pos ⟨h3, rfl⟩]
  rw [if_neg (by simpa using h3), if_neg (c := s.fioFunc ch = 3 ∧ lvl = true) fun hc => h3 hc.1]
  by_cases h4 : s.fioFunc ch = 4
  · rw [if_pos (beq_iff_eq.2 h4)]
    cases lvl
    · rw [if_neg (by decide), if_neg (by simp)]
    · rw [if_pos rfl, if_pos ⟨h4, rfl⟩]
      rfl
  rw [if_neg (by simpa using h4), if_neg fun hc => h4 hc.1]

/-! ## A rising edge of a counter input (R689) -/

theorem not_eventReg_fioCnt (ch : Nat) : ¬ eventReg (Reg.fioCnt ch) := not_eventReg (.inr (by rw [Reg.fioCnt]; omega))

theorem fioCnt_ne_fioStat (a b : Nat) : Reg.fioCnt a ≠ Reg.fioStat b := by
  simp only [Reg.fioCnt, Reg.fioStat]
  omega

theorem countEdge_touches (ch : Nat) (s : State) : Touches .events s (countEdge ch s) :=
  Touches.ite (fun _ => (((State.setReg_touches s _ _).mono (m := .events)).then (stick_touches _ _ _)).then (raise_touches _ _))
    fun _ => (State.setReg_touches s _ _).mono

theorem countEdge_keepsRegs {ch : Nat} (s : State) (h : ch < 32) :
    KeepsRegs (· ∈ [Reg.fioCnt ch, Reg.fioStat ch]) s (countEdge ch s) :=
  (RegsOnly.ite (fun _ => ((((RegsOnly.refl (· ∈ [Reg.fioCnt ch, Reg.fioStat ch]) s).setReg (a := Reg.fioCnt ch) _ (by simp)).stick 6
    (by simp)).raise _ (evFio_lt h))) fun _ => (RegsOnly.refl _ s).setReg _ (by simp)).keepsRegs

theorem countEdge_cnt {ch : Nat} (s : State) (h : ch < 32) : (countEdge ch s).reg (Reg.fioCnt ch) = s.reg (Reg.fioCnt ch) + 1 := by
  unfold countEdge
  dsimp only
  split
  · rw [raise_reg _ _ (evFio_lt h) (not_eventReg_fioCnt ch), stick, State.reg_setFlag_ne _ _ _ (fioCnt_ne_fioStat ch ch),
      State.reg_setReg]
  · rw [State.reg_setReg]

theorem countEdge_wraps {ch : Nat} (s : State) (h : ch < 32) (hw : s.reg (Reg.fioCnt ch) = 0xFFFFFFFF) :
    (countEdge ch s).flag (Reg.fioStat ch) 6 = true ∧ (countEdge ch s).pendingEvent (evFio ch) = true := by
  have e : countEdge ch s = raise (evFio ch) (stick (Reg.fioStat ch) 6 (s.setReg (Reg.fioCnt ch) (s.reg (Reg.fioCnt ch) + 1))) :=
    if_pos (by rw [hw]; rfl)
  rw [e]
  refine ⟨?_, pendingEvent_raise_self _ _ (evFio_lt h)⟩
  rw [State.flag, raise_reg _ _ (evFio_lt h) (not_eventReg_fioStat ch)]
  exact State.flag_setFlag _ _ true (by norm_num)

/-! ## The command -/

theorem exec_fioInputAccept_new {ch : Nat} {lvl : Bool} (back : Int) (backNs : Nat) {s : State} (hch : ch < 32)
    (h : (s.fioCh ch).level ≠ lvl) :
    exec (.fioInputAccept ch lvl back backNs) s = done s (acceptInput ch lvl back backNs s.begin_) :=
  congrArg (done s) (if_pos (by
    rw [decide_eq_true hch, Bool.true_and, bne_iff_ne]
    exact h))

theorem acceptInput_touches_plain {ch : Nat} {lvl : Bool} (back : Int) (backNs : Nat) {s : State}
    (h : s.fioFunc ch = 2 → s.triggeredBy ch lvl = []) : Touches .outputs s (acceptInput ch lvl back backNs s) := by
  have hacc : Touches .outputs s (accepted ch lvl back backNs s) := (State.setFio_touches s _ _).mono
  rw [acceptInput_eq back backNs h]
  exact Touches.ite (fun _ => hacc.then (raise_touches _ _)) fun _ => Touches.ite (fun _ => hacc.then (countEdge_touches _ _)) fun _ =>
    Touches.ite (fun _ => hacc.then (State.setFio_touches _ _ _)) fun _ => hacc

theorem acceptInput_keepsRegs {ch : Nat} {lvl : Bool} (back : Int) (backNs : Nat) {s : State} (hch : ch < 32)
    (h : s.fioFunc ch = 2 → s.triggeredBy ch lvl = []) :
    KeepsRegs (· ∈ [Reg.fioCnt ch, Reg.fioStat ch]) s (acceptInput ch lvl back backNs s) := by
  have hacc : KeepsRegs (· ∈ [Reg.fioCnt ch, Reg.fioStat ch]) s (accepted ch lvl back backNs s) := KeepsRegs.of_regs rfl
  rw [acceptInput_eq back backNs h]
  exact KeepsRegs.ite (fun _ => hacc.trans (raise_keepsRegs _ _ _ (evFio_lt hch))) fun _ =>
    KeepsRegs.ite (fun _ => hacc.trans (countEdge_keepsRegs _ hch)) fun _ =>
      KeepsRegs.ite (fun _ => hacc.trans (KeepsRegs.of_regs rfl)) fun _ => hacc

theorem acceptInput_fioCh_ne {ch k : Nat} {lvl : Bool} (back : Int) (backNs : Nat) {s : State}
    (h : s.fioFunc ch = 2 → s.triggeredBy ch lvl = []) (hk : k ≠ ch) : (acceptInput ch lvl back backNs s).fioCh k = s.fioCh k := by
  have hacc : (accepted ch lvl back backNs s).fioCh k = s.fioCh k := fioCh_setFio_ne s _ hk
  rw [acceptInput_eq back backNs h]
  split
  · exact ((raise_touches _ _).keeps fun x => x.fioCh k).trans hacc
  · split
    · exact ((countEdge_touches _ _).keeps fun x => x.fioCh k).trans hacc
    · split
      · exact (fioCh_setFio_ne _ _ hk).trans hacc
      · exact hacc

/-- The channel after an accepted change. -/
theorem acceptInput_fioCh {ch : Nat} {lvl : Bool} (back : Int) (backNs : Nat) {s : State} (hl : ch < s.fio.length)
    (h : s.fioFunc ch = 2 → s.triggeredBy ch lvl = []) : (acceptInput ch lvl back backNs s).fioCh ch =
      if s.fioFunc ch = 4 ∧ lvl = true then
        ((s.fioCh ch).accepted lvl (s.tbNs - BitVec.ofNat 32 backNs) (acceptedPos s ch back)).edge s.now
      else (s.fioCh ch).accepted lvl (s.tbNs - BitVec.ofNat 32 backNs) (acceptedPos s ch back) := by
  have hacc : (accepted ch lvl back backNs s).fioCh ch =
      (s.fioCh ch).accepted lvl (s.tbNs - BitVec.ofNat 32 backNs) (acceptedPos s ch back) := fioCh_setFio_same _ hl
  rw [acceptInput_eq back backNs h]
  by_cases h1 : s.fioFunc ch = 1
  · rw [if_pos h1, if_neg (by omega)]
    exact ((raise_touches _ _).keeps fun x => x.fioCh ch).trans hacc
  by_cases h3 : s.fioFunc ch = 3 ∧ lvl = true
  · rw [if_neg h1, if_pos h3, if_neg (by omega)]
    exact ((countEdge_touches _ _).keeps fun x => x.fioCh ch).trans hacc
  rw [if_neg h1, if_neg h3]
  split
  · rw [fioCh_setFio_same _ (by rw [accepted, length_fio_setFio]; exact hl), hacc]
  · exact hacc

theorem acceptInput_cnt {ch : Nat} {lvl : Bool} (back : Int) (backNs : Nat) {s : State} (hch : ch < 32)
    (h : s.fioFunc ch = 2 → s.triggeredBy ch lvl = []) : (acceptInput ch lvl back backNs s).reg (Reg.fioCnt ch) =
      if s.fioFunc ch = 3 ∧ lvl = true then s.reg (Reg.fioCnt ch) + 1 else s.reg (Reg.fioCnt ch) := by
  rw [acceptInput_eq back backNs h]
  by_cases h1 : s.fioFunc ch = 1
  · rw [if_pos h1, if_neg (by omega), raise_reg _ _ (evFio_lt hch) (not_eventReg_fioCnt ch)]
    rfl
  by_cases h3 : s.fioFunc ch = 3 ∧ lvl = true
  · rw [if_neg h1, if_pos h3, if_pos h3, countEdge_cnt _ hch]
    rfl
  rw [if_neg h1, if_neg h3, if_neg h3]
  split <;> rfl

theorem fioInputAccept_done (s : State) (ch : Nat) (lvl : Bool) (back : Int) (backNs : Nat) (hch : ch < 32) (hs : s.sized = true)
    (hnew : (s.fioCh ch).level ≠ lvl) (htrig : s.fioFunc ch = 2 → s.triggeredBy ch lvl = []) :
    let c := s.fioCh ch
    let up := s.fioFunc ch = 4 ∧ lvl = true
    ∃ t, exec (.fioInputAccept ch lvl back backNs) s = .next t ∧
      t.fioCh ch = { c with
        level := lvl, atNs := s.tbNs - BitVec.ofNat 32 backNs
        atPos := BitVec.ofInt 48 ((s.fioPos ch).toNat - back)
        edges := if up then c.edges + 1 else c.edges
        t0 := if up ∧ c.edges = 0 then s.now else c.t0, t1 := if up then s.now else c.t1 } ∧
      (s.fioFunc ch = 1 → t.pendingEvent (evFio ch) = true) ∧
      t.reg (Reg.fioCnt ch) = (if s.fioFunc ch = 3 ∧ lvl = true then s.reg (Reg.fioCnt ch) + 1 else s.reg (Reg.fioCnt ch)) ∧
      (s.fioFunc ch = 3 → lvl = true → s.reg (Reg.fioCnt ch) = 0xFFFFFFFF →
        t.flag (Reg.fioStat ch) 6 = true ∧ t.pendingEvent (evFio ch) = true) ∧
      (∀ k, k ≠ ch → t.fioCh k = s.fioCh k) ∧ State.onlyRegs [Reg.fioCnt ch, Reg.fioStat ch] s { t with fio := s.fio } := by
  intro c up
  have hl : ch < s.begin_.fio.length := hch.trans_eq (sized_field hs).1.symm
  have htrig' : s.begin_.fioFunc ch = 2 → s.begin_.triggeredBy ch lvl = [] := htrig
  have hT := acceptInput_touches_plain back backNs htrig'
  refine ⟨_, (exec_fioInputAccept_new back backNs hch hnew).trans hT.done_eq, ?_, fun h1 => ?_,
    acceptInput_cnt back backNs hch htrig', fun h3 hup hw => ?_, fun k hk => acceptInput_fioCh_ne back backNs htrig' hk, hT.back_begin,
    (acceptInput_keepsRegs back backNs hch htrig').kept⟩
  · rw [acceptInput_fioCh back backNs hl htrig', acceptedPos_eq]
    by_cases hu : s.fioFunc ch = 4 ∧ lvl = true
    · rw [if_pos (show s.begin_.fioFunc ch = 4 ∧ lvl = true from hu), Fio.edge_accepted]
      simp only [show up from hu, if_true, true_and]
      rfl
    · rw [if_neg (show ¬ (s.begin_.fioFunc ch = 4 ∧ lvl = true) from hu)]
      simp only [show ¬ up from hu, if_false, false_and]
      rfl
  · rw [acceptInput_eq back backNs htrig', if_pos (show s.begin_.fioFunc ch = 1 from h1)]
    exact pendingEvent_raise_self _ _ (evFio_lt hch)
  · have h1 : s.begin_.fioFunc ch ≠ 1 := fun h => absurd (h3.symm.trans h) (by decide)
    rw [acceptInput_eq back backNs htrig', if_neg h1, if_pos ⟨h3, hup⟩]
    exact countEdge_wraps _ hch hw

theorem fioInputAccept_same (s : State) (ch : Nat) (lvl : Bool) (back : Int) (backNs : Nat) (h : (s.fioCh ch).level = lvl) :
    ∃ t, exec (.fioInputAccept ch lvl back backNs) s = .next t ∧ State.unchanged s t := by
  obtain ⟨t, ht, hu⟩ := done_unchanged s
  refine ⟨t, (congrArg (done s) (if_neg ?_)).trans ht, hu⟩
  rw [Bool.and_eq_true, bne_iff_ne]
  exact fun hc => hc.2 h

/-! ## Frequency gates (R690, R691) -/

/-- The end of a gate with edges enough to measure. -/
def gateEnd (ch : Nat) (s : State) : State :=
  let c := s.fioCh ch
  let t := s.setFio ch fun c => { c with edges := 0 }
  if c.t1 - c.t0 == 0 then (takeFree t).2.setReg (Reg.fioFreq ch) (takeFree t).1
  else (takeFree t).2.setN (Reg.fioFreq ch) (freqOf c.edges (c.t1 - c.t0) (Config.freeBit t.free))

theorem exec_freqGateEnd_measured {ch : Nat} {s : State} (hch : ch < 32) (hf : s.fioFunc ch = 4) (he : 2 ≤ (s.fioCh ch).edges) :
    exec (.freqGateEnd ch) s = done s (gateEnd ch s.begin_) :=
  congrArg (done s) (if_pos (by
    rw [decide_eq_true hch, Bool.true_and, Bool.and_eq_true, beq_iff_eq, decide_eq_true_eq]
    exact ⟨hf, he⟩))

theorem gateEnd_touches (ch : Nat) (s : State) :
    Touches { regs := true, evq := true, fio := true, free := true } s (gateEnd ch s) := by
  have key : Touches { regs := true, evq := true, fio := true, free := true } s
      (takeFree (s.setFio ch fun c => { c with edges := 0 })).2 :=
    ((State.setFio_touches s _ _).mono).then (takeFree_touches _)
  exact Touches.ite (fun _ => key.then (State.setReg_touches _ _ _)) fun _ => key.then (State.setN_touches _ _ _)

theorem gateEnd_keepsRegs (ch : Nat) (s : State) : KeepsRegs (· ∈ [Reg.fioFreq ch]) s (gateEnd ch s) := by
  have key : ∀ (u : State) (w : Word), u.regs = s.regs → KeepsRegs (· ∈ [Reg.fioFreq ch]) s (u.setReg (Reg.fioFreq ch) w) :=
    fun u w hu b hb _ => (State.reg_setReg_ne _ _ fun h => hb (by simp [h])).trans (reg_congr hu b)
  exact KeepsRegs.ite (fun _ => key _ _ rfl) fun _ => key _ _ rfl

theorem gateEnd_fio (ch : Nat) (s : State) : (gateEnd ch s).fio = (s.setFio ch fun c => { c with edges := 0 }).fio ∧
    (gateEnd ch s).free = s.free + 1 := by
  unfold gateEnd
  dsimp only
  split <;> exact ⟨rfl, rfl⟩

theorem gateEnd_noTime {ch : Nat} {s : State} (h : (s.fioCh ch).t1 ≤ (s.fioCh ch).t0) :
    (gateEnd ch s).reg (Reg.fioFreq ch) = Config.freeWord s.free := by
  have e : gateEnd ch s = (takeFree (s.setFio ch fun c => { c with edges := 0 })).2.setReg (Reg.fioFreq ch)
      (takeFree (s.setFio ch fun c => { c with edges := 0 })).1 := if_pos (beq_iff_eq.2 (Nat.sub_eq_zero_of_le h))
  rw [e, State.reg_setReg]
  rfl

theorem gateEnd_freq {ch : Nat} {s : State} (h : (s.fioCh ch).t0 < (s.fioCh ch).t1) :
    (gateEnd ch s).reg (Reg.fioFreq ch) =
      BitVec.ofNat 32 (freqOf (s.fioCh ch).edges ((s.fioCh ch).t1 - (s.fioCh ch).t0) (Config.freeBit s.free)) := by
  have e : gateEnd ch s = (takeFree (s.setFio ch fun c => { c with edges := 0 })).2.setN (Reg.fioFreq ch)
      (freqOf (s.fioCh ch).edges ((s.fioCh ch).t1 - (s.fioCh ch).t0) (Config.freeBit s.free)) :=
    if_neg fun hc => by
      have := beq_iff_eq.1 hc
      omega
  rw [e, State.reg_setN]

/-- Settles O27: an accepted change acts by the channel's function, and a gate's end measures what the edges gave. -/
theorem fieldInputsAreTimedAndCounted : Obligations.FieldInputsAreTimedAndCounted := by
  refine ⟨fioInputAccept_done, fioInputAccept_same, fun s ch hch hs hf he ht => ?_, fun s ch hch hs hf he ht => ?_,
    fun s ch h => ?_, fun s ch hch => ?_⟩
  · have hl : ch < s.begin_.fio.length := hch.trans_eq (sized_field hs).1.symm
    have hT := gateEnd_touches ch s.begin_
    refine ⟨_, _, (exec_freqGateEnd_measured hch hf he).trans hT.done_eq, rfl, ?_, ?_, fun k hk => ?_, (gateEnd_fio ch s.begin_).2,
      hT.back_begin, (gateEnd_keepsRegs ch s.begin_).kept⟩
    · rw [gateEnd_freq (s := s.begin_) ht, freqOf]
      refine congrArg (fun x => BitVec.ofNat 32 (_ + x)) (if_congr ?_ rfl rfl)
      rw [Bool.and_eq_true, bne_iff_ne]
      rfl
    · rw [fioCh_congr (gateEnd_fio ch s.begin_).1, fioCh_setFio_same _ hl]
      rfl
    · rw [fioCh_congr (gateEnd_fio ch s.begin_).1, fioCh_setFio_ne _ _ hk]
      rfl
  · have hl : ch < s.begin_.fio.length := hch.trans_eq (sized_field hs).1.symm
    have hT := gateEnd_touches ch s.begin_
    refine ⟨_, (exec_freqGateEnd_measured hch hf he).trans hT.done_eq, gateEnd_noTime (s := s.begin_) ht, (gateEnd_fio ch s.begin_).2,
      ?_, hT.back_begin, (gateEnd_keepsRegs ch s.begin_).kept⟩
    rw [fioCh_congr (gateEnd_fio ch s.begin_).1, fioCh_setFio_same _ hl]
  · obtain ⟨t, ht, hu⟩ := done_unchanged s
    refine ⟨t, (congrArg (done s) (if_neg fun hc => ?_)).trans ht, hu⟩
    rw [Bool.and_eq_true, Bool.and_eq_true, beq_iff_eq, decide_eq_true_eq, decide_eq_true_eq] at hc
    obtain ⟨⟨-, hf⟩, he⟩ := hc
    rcases h with h | h
    · exact h hf
    · exact absurd he (by exact not_le.2 h)
  · by_cases hf : s.fioFunc ch = 4
    · obtain ⟨t, ht, hregs, -, honly⟩ := done_onlyRegs (A := [Reg.fioFreq ch]) (s := s)
        ((RegsOnly.refl _ _).setReg (a := Reg.fioFreq ch) 0 List.mem_cons_self)
      refine ⟨t, (congrArg (done s) (if_pos ?_)).trans ht, fun _ => ⟨(reg_congr hregs _).trans (State.reg_setReg _ _ _), honly⟩,
        fun h => absurd hf h⟩
      rw [decide_eq_true hch, Bool.true_and, beq_iff_eq]
      exact hf
    · obtain ⟨t, ht, hu⟩ := done_unchanged s
      refine ⟨t, (congrArg (done s) (if_neg fun hc => ?_)).trans ht, fun h => absurd h hf, fun _ => hu⟩
      rw [Bool.and_eq_true, beq_iff_eq] at hc
      exact hf hc.2

end Sys2Proof.Machine

/-! PROOFS. What the operations on tiles, regions and bales touch. -/

namespace Sys2Proof.Machine

-- One theorem after the other: many at once ask for too many threads.
set_option Elab.async false

/-! ## Tiles, retirement and sparing -/

/-- What follows when tiles change their holder or their work: tiles, stations, retirements, borrowed clocks, and the places of bales. -/
abbrev Parts.regions : Parts :=
  { regs := true, evq := true, tiles := true, stations := true, retiring := true, lenders := true, bales := true }

theorem mapStations_touches (f : Stn → Stn) (s : State) :
    Touches { stations := true } s { s with stations := s.stations.map f } :=
  ⟨rfl, by simp only [State.lens, List.length_map]⟩

theorem setRetiring_touches (rs : List Retire) (s : State) : Touches { retiring := true } s { s with retiring := rs } := ⟨rfl, rfl⟩

theorem stopBorrow_touches (k : Nat) (s : State) : Touches { regs := true, tiles := true, lenders := true } s (stopBorrow k s) := by
  unfold stopBorrow
  dsimp only
  refine Touches.ite (fun _ => ?_) fun _ => Touches.refl
  refine Touches.then ?_ (State.setTile_touches _ _ _)
  refine Touches.then ?_ (State.setFlag_touches _ _ _ _)
  exact ⟨rfl, rfl⟩

theorem freeTile_touches (k : Nat) (s : State) : Touches { regs := true, tiles := true, lenders := true } s (freeTile k s) := by
  unfold freeTile
  dsimp only
  refine Touches.then ?_ (State.setTile_touches _ _ _)
  exact Touches.ite (fun _ => stopBorrow_touches k s) fun _ => Touches.refl

theorem grantTile_touches (n slot k : Nat) (s : State) : Touches { tiles := true } s (grantTile n slot k s) :=
  State.setTile_touches s _ _

theorem settleUnbacked_touches (k : Nat) (s : State) :
    Touches { regs := true, tiles := true, lenders := true } s (settleUnbacked k s) :=
  Touches.ite (fun _ => ((State.setTile_touches s _ _).mono).then (stopBorrow_touches k _)) fun _ => Touches.refl

/-- What the steps of a retirement touch. -/
abbrev Parts.sparing : Parts := { regs := true, evq := true, tiles := true, lenders := true, retiring := true }

theorem unback_touches (k : Nat) (s : State) : Touches .sparing s (unback k s) := by
  unfold unback
  dsimp only
  refine Touches.then ?_ (raise_touches _ _)
  refine Touches.then ?_ (settleUnbacked_touches k _)
  refine Touches.then ?_ (State.setTile_touches _ _ _)
  exact ⟨rfl, rfl⟩

theorem seekSpare_touches (k : Nat) (from_ : Option Nat) (s : State) : Touches .sparing s (seekSpare k from_ s) := by
  have key : Touches .sparing s { s with retiring := s.retiring.filter fun r => r.tile != k } := ⟨rfl, rfl⟩
  unfold seekSpare
  dsimp only
  split
  · exact ⟨rfl, rfl⟩
  · exact key.then (unback_touches k _)

theorem showFmap_touches (s : State) : Touches { regs := true } s (showFmap s) := by
  unfold showFmap
  dsimp only
  refine Touches.then ?_ (State.fset_touches _ _ _ _ _)
  refine Touches.then ?_ (State.fset_touches _ _ _ _ _)
  exact Touches.ite (fun _ => State.setFlag_touches s _ _ _) fun _ => Touches.refl

theorem fieldEntry_touches (kind target cause : Nat) (s : State) :
    Touches { regs := true, evq := true, fmap := true } s (fieldEntry kind target cause s) := by
  have key : ∀ f, Touches { regs := true, evq := true, fmap := true } s { s with fmap := f } := fun _ => ⟨rfl, rfl⟩
  exact Touches.ite (fun _ => (key _).then (showFmap_touches _)) fun _ =>
    ((State.setFlag_touches s _ _ _).mono).then (raise_touches _ _)

/-- What the retirement of a tile touches. -/
abbrev Parts.retirement : Parts :=
  { regs := true, evq := true, fmap := true, tiles := true, stations := true, retiring := true, lenders := true }

theorem retireSpare_touches (k cause : Nat) (s : State) : Touches .retirement s (retireSpare k cause s) := by
  have key : Touches .retirement s (stopBorrow k ((fieldEntry 0 k cause s).setTile k fun t =>
      { idleTile t with st := tileRetired, lx := 15 })) :=
    (((fieldEntry_touches 0 k cause s).mono).then (State.setTile_touches _ _ _)).then (stopBorrow_touches k _)
  unfold retireSpare
  dsimp only
  split
  · exact Touches.ite (fun _ => key.then (seekSpare_touches _ _ _)) fun _ => key.then (unback_touches _ _)
  · exact key

theorem retire_touches (k cause : Nat) (s : State) : Touches .retirement s (retire k cause s) := by
  unfold retire
  dsimp only
  refine Touches.ite (fun _ => retireSpare_touches k cause s) fun _ => Touches.ite (fun _ => ?_) fun _ => Touches.refl
  refine Touches.then ?_ (seekSpare_touches k none _)
  refine Touches.then ?_ (fieldEntry_touches 0 k cause _)
  refine Touches.then ?_ (raise_touches _ _)
  refine Touches.then ?_ (State.setTile_touches _ _ _)
  split
  · exact (State.setStn_touches s _ _).mono
  · exact Touches.refl

theorem switchSpare_touches (r : Retire) (s : State) : Touches .regions s (switchSpare r s) := by
  unfold switchSpare
  split
  · exact Touches.refl
  · dsimp only
    refine Touches.then ?_ (raise_touches _ _)
    refine Touches.then (n := { stations := true, bales := true }) ?_ ⟨rfl, by simp only [State.lens, List.length_map]⟩
    refine Touches.then ?_ (stopBorrow_touches _ _)
    refine Touches.then ?_ (State.setTile_touches _ _ _)
    refine Touches.then ?_ (State.setTile_touches _ _ _)
    exact ⟨rfl, rfl⟩

theorem spareReady_touches (r : Retire) (s : State) : Touches .regions s (spareReady r s) := by
  have key : ∀ x, Touches .regions s { s with retiring := x } := fun _ => ⟨rfl, rfl⟩
  unfold spareReady
  dsimp only
  split
  · exact (key _).then (State.setTile_touches _ _ _)
  · exact (key _).then (switchSpare_touches _ _)

theorem windowEvent_touches (reg w thr cause k : Nat) (s : State) : Touches .retirement s (windowEvent reg w thr cause k s) :=
  Touches.ite (fun _ => ((bumpW_touches w reg s).mono).then (retire_touches k cause _)) fun _ => (bumpW_touches w reg s).mono

theorem residueEvent_touches (k : Nat) (s : State) : Touches .retirement s (residueEvent k s) := windowEvent_touches _ _ _ _ k s
theorem eccEvent_touches (k : Nat) (s : State) : Touches .retirement s (eccEvent k s) := windowEvent_touches _ _ _ _ k s
theorem routerEvent_touches (k : Nat) (s : State) : Touches .retirement s (routerEvent k s) := windowEvent_touches _ _ _ _ k s

theorem clearWindows_touches (s : State) : Touches { regs := true } s (clearWindows s) :=
  Touches.foldl (fun u _ => ((State.fset_touches u _ _ _ _).then (State.fset_touches _ _ _ _ _)).then
    (State.fset_touches _ _ _ _ _)) _ s

/-! ## Regions -/

theorem khanMoved_touches (dst src : Option Nat) (k : Nat) (s : State) : Touches .events s (khanMoved dst src k s) :=
  ((State.setN_touches s _ _).mono).then (raise_touches _ _)

theorem sweepTiles_touches (n : Nat) (s : State) : Touches .regions s (sweepTiles n s) := by
  unfold sweepTiles
  refine Touches.foldl (fun u k => ?_) _ s
  dsimp only
  have h1 : Touches .regions u (if (u.tile k).owner == some n then settleUnbacked k u else u) :=
    Touches.ite (fun _ => (settleUnbacked_touches k u).mono) fun _ => Touches.refl
  generalize (if (u.tile k).owner == some n then settleUnbacked k u else u) = v at h1 ⊢
  refine Touches.ite (fun _ => ?_) fun _ => h1
  have h2 : Touches .regions u (freeTile k v) := h1.then (freeTile_touches k v)
  have last : ∀ w, Touches .regions u w → Touches .regions u
      (if (w.stn n).leaving.contains k then
        if (v.tile k).to_.isNone then khanMoved none (some n) k (w.setStn n fun x => { x with leaving := x.leaving.filter (· != k) })
        else (w.setStn n fun x => { x with leaving := x.leaving.filter (· != k) }).setTile k fun t => { t with src := some n }
      else w) := fun w hw => by
    have h4 := hw.then (State.setStn_touches w n fun x => { x with leaving := x.leaving.filter (· != k) })
    exact Touches.ite (fun _ => Touches.ite (fun _ => h4.then (khanMoved_touches _ _ _ _)) fun _ =>
      h4.then (State.setTile_touches _ _ _)) fun _ => hw
  split
  · exact last _ (h2.then (switchSpare_touches _ _))
  · exact last _ h2

theorem gateSurplus_touches (n : Nat) (s : State) : Touches { tiles := true } s (gateSurplus n s) :=
  Touches.foldl (fun u p => Touches.ite (fun _ => State.setTile_touches u _ _) fun _ => Touches.refl) _ s

theorem reshape_touches (n : Nat) (s : State) : Touches { tiles := true, stations := true } s (reshape n s) :=
  ((State.setStn_touches s _ _).mono).then (gateSurplus_touches n _)

theorem regionChange_touches (n : Nat) (boundary : Bool) (s : State) : Touches .regions s (regionChange n boundary s) := by
  unfold regionChange
  dsimp only
  refine Touches.then ?_ (sweepTiles_touches n _)
  refine Touches.then ?_ (reshape_touches n _)
  refine Touches.then (n := .regions) ?_ (Touches.foldl (fun u k => ?_) _ _)
  · exact (State.setStn_touches s _ _).mono
  · exact ((khanMoved_touches _ _ k u).mono).then (State.setTile_touches _ _ _)

theorem regionBoundary_touches (n : Nat) (s : State) : Touches .regions s (regionBoundary n s) := regionChange_touches n true s

theorem regionSettle_touches (n : Nat) (s : State) : Touches .regions s (regionSettle n s) :=
  Touches.ite (fun _ => Touches.refl) fun _ => regionChange_touches n false s

theorem giveTile_touches (n : Nat) (dest : Option Nat) (s : State) : Touches .regions s (giveTile n dest s) := by
  have h1 : Touches .regions s (s.setStn n fun t => { t with moved := true }) := (State.setStn_touches s _ _).mono
  unfold giveTile
  dsimp only
  generalize (s.setStn n fun t => { t with moved := true }) = u at h1 ⊢
  split
  · exact ((h1.then (State.setStn_touches u n _)).then (freeTile_touches _ _)).then (State.setTile_touches _ _ _)
  · split
    · exact ((h1.then (State.setTile_touches u _ _)).then (State.setStn_touches _ n _)).then (regionSettle_touches n _)
    · exact h1

theorem secure_touches (n fuel want : Nat) (s : State) : Touches .regions s (secure n fuel want s).2 := by
  induction fuel generalizing want s with
  | zero => exact Touches.refl
  | succ fuel ih =>
    unfold secure
    split
    · exact Touches.refl
    · split
      · exact (giveTile_touches _ _ s).then (ih _ _)
      · dsimp only
        generalize (if s.tileLoss then s.floorStn n else n) = v
        split
        · exact ih _ _
        · exact (giveTile_touches _ _ s).then (ih _ _)

theorem dropTaken_touches (n : Nat) (s : State) : Touches { regs := true, evq := true, tiles := true } s (dropTaken n s) := by
  unfold dropTaken
  refine Touches.foldl (fun u k => ?_) _ s
  have h : Touches { regs := true, evq := true, tiles := true } u (u.setTile k fun t => { t with to_ := none, src := none }) :=
    (State.setTile_touches u _ _).mono
  exact Touches.ite (fun _ => Touches.ite (fun _ => h.then (khanMoved_touches _ _ _ _)) fun _ => h) fun _ => Touches.refl

theorem grantJoin_touches (n : Nat) (ks : List Nat) (s : State) : Touches .regions s (grantJoin n ks s) := by
  unfold grantJoin
  dsimp only
  refine Touches.then ?_ (regionSettle_touches n _)
  refine Touches.then ?_ (State.setStn_touches _ n _)
  refine Touches.then ?_ (dropTaken_touches n _)
  exact (Touches.foldl (fun u p => grantTile_touches n _ _ u) _ s).mono

theorem grantRegion_touches (n k : Nat) (s : State) : Touches .regions s (grantRegion n k s) := by
  unfold grantRegion
  dsimp only
  refine Touches.then ?_ (reshape_touches n _)
  refine Touches.then ?_ (State.setStn_touches _ n _)
  refine Touches.then ?_ (dropTaken_touches n _)
  refine (Touches.foldl (m := { regs := true, evq := true, tiles := true }) (fun u p => ?_) _ s).mono
  have h := ((grantTile_touches n p.1 p.2 u).mono (m := { regs := true, evq := true, tiles := true })).then
    (State.setTile_touches _ p.2 fun t => { t with src := none })
  exact Touches.ite (fun _ => h.then (khanMoved_touches _ _ _ _)) fun _ => h

theorem grantTiles_touches (n k : Nat) (s : State) : Touches .regions s (grantTiles n k s) :=
  Touches.ite (fun _ => Touches.refl) fun _ => Touches.ite (fun _ => grantRegion_touches n k s) fun _ => grantJoin_touches n _ s

theorem restore_touches (n : Nat) (s : State) : Touches .regions s (restore n s) :=
  Touches.ite (fun _ => Touches.refl) fun _ =>
    Touches.ite (fun _ => (secure_touches _ _ _ s).then (grantTiles_touches _ _ _)) fun _ => secure_touches _ _ _ s

theorem restoreAll_touches (s : State) : Touches .regions s (restoreAll s) :=
  Touches.foldl (fun u n => Touches.ite (fun _ => restore_touches n u) fun _ => Touches.refl) _ s

theorem settleTiles_touches (n : Nat) (s : State) : Touches .regions s (settleTiles n s) :=
  (sweepTiles_touches n s).then (restoreAll_touches _)

theorem cancelGrants_touches (n : Nat) (s : State) : Touches .regions s (cancelGrants n s) := by
  unfold cancelGrants
  dsimp only
  refine Touches.then ?_ (dropTaken_touches n _)
  refine Touches.then (n := .regions) ((State.setStn_touches s _ _).mono) (Touches.foldl (fun u k => ?_) _ _)
  exact ((freeTile_touches k u).mono).then (State.setTile_touches _ _ _)

theorem releaseRegion_touches (n : Nat) (s : State) : Touches .regions s (releaseRegion n s) :=
  Touches.ite (fun _ => Touches.refl) fun _ => ((State.setStn_touches s _ _).mono).then (sweepTiles_touches n _)

theorem obtainRegion_touches (n : Nat) (s : State) : Touches .regions s (obtainRegion n s).1 := by
  unfold obtainRegion
  dsimp only
  split
  · exact Touches.refl
  · split
    · exact (secure_touches _ _ _ s).then (grantTiles_touches _ _ _)
    · exact secure_touches _ _ _ s

theorem workRegion_touches (n : Nat) (s : State) : Touches .regions s (workRegion n s).1 := by
  unfold workRegion
  split
  · exact Touches.refl
  · split
    · exact Touches.refl
    · exact grantRegion_touches n _ s

theorem becomeArmed_touches (n : Nat) (s : State) :
    Touches { regs := true, refs := true, stations := true, groups := true } s (becomeArmed n s) := by
  unfold becomeArmed
  dsimp only
  refine Touches.then (n := { groups := true }) ?_ (Touches.foldl (fun u d => State.setGroup_touches u _ _) _ _)
  refine Touches.then ?_ (State.setStn_touches _ n _)
  refine Touches.then ?_ (State.setReg_touches _ _ _)
  exact Touches.ite (fun _ => Touches.refl) fun _ => ((State.setRef_touches s _ _).mono).then (State.setStn_touches _ _ _)

/-- What a grant for arming touches. -/
abbrev Parts.arming : Parts :=
  { regs := true, evq := true, tiles := true, stations := true, retiring := true, lenders := true, bales := true, refs := true,
    groups := true }

theorem armGrant_touches (n : Nat) (s : State) : Touches .arming s (armGrant n s) :=
  Touches.ite (fun _ => Touches.ite (fun _ => ((obtainRegion_touches n s).mono).then (becomeArmed_touches n _)) fun _ =>
    (obtainRegion_touches n s).mono) fun _ => Touches.refl

theorem serveGrowth_touches (n k : Nat) (s : State) : Touches .regions s (serveGrowth n k s) :=
  Touches.ite (fun _ => (Touches.ite (fun _ => Touches.refl) fun _ => grantJoin_touches n _ s).then (State.setStn_touches _ _ _))
    fun _ => Touches.refl

theorem placeWindow_touches (busy bw : List Nat) (s : State) : Touches .regions s (placeWindow busy bw s) := by
  unfold placeWindow
  dsimp only
  refine Touches.then ?_ (mapStations_touches _ _)
  refine Touches.then (n := .regions) ?_ (Touches.foldl (fun u p => Touches.foldl (fun v _ => giveTile_touches _ _ v) _ u) _ _)
  refine Touches.then (n := .regions) ?_ (Touches.foldl (fun u p => serveGrowth_touches _ _ u) _ _)
  refine Touches.then ?_ (restoreAll_touches _)
  exact Touches.foldl (fun u n => Touches.ite (fun _ => ((State.setN_touches u _ _).mono).then (State.setStn_touches _ _ _))
    fun _ => Touches.refl) _ s

/-! ## Bales -/

theorem enqueue_touches (j : Job) (s : State) : Touches { jobs := true } s (enqueue j s) := ⟨rfl, rfl⟩

theorem putShadow_touches (own : Option Nat) (a mask val : Nat) (s : State) :
    Touches { shadow := true } s (putShadow own a mask val s) := ⟨rfl, rfl⟩
theorem dropShadow_touches (a : Nat) (s : State) : Touches { shadow := true } s (dropShadow a s) := ⟨rfl, rfl⟩
theorem applyShadow_touches (w : ShadowWrite) (s : State) : Touches { regs := true } s (applyShadow w s) := ⟨rfl, rfl⟩

theorem applyShadows_touches (n : Nat) (s : State) : Touches { regs := true, shadow := true } s (applyShadows n s) := by
  unfold applyShadows
  dsimp only
  refine Touches.then (n := { regs := true }) ?_ (Touches.foldl (fun u w => applyShadow_touches w u) _ _)
  exact ⟨rfl, rfl⟩

theorem discardShadows_touches (n : Nat) (s : State) :
    Touches { regs := true, evq := true, shadow := true } s (discardShadows n s) := by
  have key : Touches { regs := true, evq := true, shadow := true } s { s with shadow := s.shadow.filter fun w => w.own != some n } :=
    ⟨rfl, rfl⟩
  exact Touches.ite (fun _ => key.then (raise_touches _ _)) fun _ => key

theorem dropWrite_touches (ini a : Nat) (own : Owner) (s : State) : Touches .events s (dropWrite ini a own s) := by
  unfold dropWrite
  dsimp only
  refine Touches.then ?_ (raise_touches _ _)
  refine Touches.then ?_ (State.setN_touches _ _ _)
  exact (bump_touches _ s).then (State.setN_touches _ _ _)

theorem busError_touches (ini a : Nat) (wr : Bool) (s : State) : Touches .events s (busError ini a wr s) :=
  (⟨rfl, rfl⟩ : Touches .events s (((s.setN Reg.sysBusErrAddrLo (a % 2 ^ 32)).setN Reg.sysBusErrAddrHi (a / 2 ^ 32 % 256)).setN
    Reg.sysBusErrSrc ((if wr then 256 else 0) + ini))).then (raise_touches _ _)

theorem refuseBale_touches (n : Nat) (s : State) : Touches .events s (refuseBale n s) := (bump_touches _ s).then (raise_touches _ _)

theorem copyShadow_touches (b : Bale) (n : Nat) (s : State) :
    Touches { regs := true, evq := true, bales := true, nextUid := true } s (copyShadow b n s) := by
  unfold copyShadow
  split
  · exact Touches.refl
  · exact Touches.ite (fun _ => ⟨rfl, rfl⟩) fun _ => (refuseBale_touches n s).mono

/-- What the admission of a bale touches. -/
abbrev Parts.admission : Parts := { regs := true, evq := true, bales := true, nextUid := true, capture := true }

theorem admitBale_touches (n uid id e pTrig pDead tseq : Nat) (s : State) :
    Touches .admission s (admitBale n uid id e pTrig pDead tseq s) := by
  unfold admitBale
  dsimp only
  refine Touches.then (n := { regs := true, evq := true, bales := true, nextUid := true }) ?_
    (Touches.foldl (fun u k => copyShadow_touches _ k u) _ _)
  split
  · split <;> exact ⟨rfl, rfl⟩
  · exact ⟨rfl, rfl⟩

theorem tryAdmit_touches (n id e pTrig pDead tseq : Nat) (s : State) :
    Touches .admission s (tryAdmit n id e pTrig pDead tseq s) := by
  unfold tryAdmit
  split
  · exact (refuseBale_touches n s).mono
  · dsimp only
    refine Touches.ite (fun _ => ?_) fun _ => Touches.ite (fun _ => (refuseBale_touches n s).mono) fun _ =>
      admitBale_touches n _ id e pTrig pDead tseq s
    exact ((Touches.foldl (fun u c => bump_touches _ u) _ s).mono).then (refuseBale_touches n _)

theorem sweepBlocks_touches (s : State) : Touches { blocks := true } s (sweepBlocks s) := ⟨rfl, rfl⟩

theorem showDec_touches (n k st pos : Nat) (s : State) : Touches { regs := true } s (showDec n k st pos s) := ⟨rfl, rfl⟩

theorem refreshDec_touches (n k : Nat) (s : State) : Touches { regs := true } s (refreshDec n k s) := by
  unfold refreshDec
  split <;> exact showDec_touches _ _ _ _ s

theorem passTurn_touches (n : Nat) (s : State) : Touches { regs := true, stations := true } s (passTurn n s) := by
  unfold passTurn
  dsimp only
  refine Touches.then ?_ (refreshDec_touches n 1 _)
  refine Touches.then ?_ (refreshDec_touches n 0 _)
  refine Touches.then ?_ (State.setStn_touches _ n _)
  exact (State.setStn_touches s n _).mono

theorem settleTurn_touches (n : Nat) (s : State) : Touches { regs := true, stations := true } s (settleTurn n s) :=
  Touches.ite (fun _ => ((refreshDec_touches n 0 s).mono).then (refreshDec_touches n 1 _)) fun _ => passTurn_touches n s

theorem dropWork_touches (id : Nat) (s : State) :
    Touches { regs := true, stations := true, jobs := true, decs := true } s (dropWork id s) := by
  unfold dropWork
  dsimp only
  refine Touches.then (n := { regs := true, stations := true }) ?_ (Touches.foldl (fun u d => settleTurn_touches _ u) _ _)
  exact ⟨rfl, rfl⟩

/-- What the end of a bale touches: its place, its jobs and sequences, its station's region and blocks. -/
abbrev Parts.release : Parts :=
  { regs := true, evq := true, tiles := true, stations := true, retiring := true, lenders := true, bales := true, jobs := true,
    decs := true, cams := true, capture := true, blocks := true }

theorem releaseOne_touches (id : Nat) (s : State) : Touches .release s (releaseOne id s) := by
  unfold releaseOne
  split
  · exact Touches.refl
  · dsimp only
    refine Touches.then ?_ (restoreAll_touches _)
    refine Touches.then ?_ (releaseRegion_touches _ _)
    refine Touches.then ?_ (sweepTiles_touches _ _)
    refine Touches.then ?_ (regionSettle_touches _ _)
    refine Touches.then ?_ (sweepBlocks_touches _)
    have key : ∀ id, Touches .release s (dropWork id { s with
        bales := s.bales.filter fun x => x.id != id
        cams := s.cams.map fun (c : Cam) => { c with delayed := c.delayed.filter fun p => p.1 != id } }) := fun id =>
      Touches.then (t := { s with
        bales := s.bales.filter fun x => x.id != id
        cams := s.cams.map fun (c : Cam) => { c with delayed := c.delayed.filter fun p => p.1 != id } })
        ⟨rfl, by simp only [State.lens, List.length_map]⟩ (dropWork_touches id _)
    split
    · exact Touches.ite (fun _ => (key id).then (n := { capture := true }) ⟨rfl, rfl⟩) fun _ => key id
    · exact key id

theorem releaseBale_touches (id : Nat) (s : State) : Touches .release s (releaseBale id s) := by
  unfold releaseBale
  dsimp only
  refine Touches.then (n := .release) (releaseOne_touches id s) (Touches.foldl (fun u x => ?_) _ _)
  exact (releaseOne_touches _ u).then (refuseBale_touches _ _)

/-- What the switch of a station block touches. -/
abbrev Parts.switching : Parts :=
  { regs := true, evq := true, tiles := true, stations := true, retiring := true, lenders := true, bales := true, jobs := true,
    decs := true, blocks := true, mbox := true, shadow := true }

theorem stopExplain_touches (n k : Nat) (d : Dec) (s : State) :
    Touches { regs := true, evq := true, stations := true, jobs := true, decs := true, mbox := true } s (stopExplain n k d s) := by
  unfold stopExplain
  dsimp only
  refine Touches.then ?_ (settleTurn_touches n _)
  refine Touches.then ?_ (bump_touches _ _)
  refine Touches.then ?_ (mbPut_touches _ _ _ _)
  exact ⟨rfl, rfl⟩

theorem stopExplains_touches (n : Nat) (s : State) :
    Touches { regs := true, evq := true, stations := true, jobs := true, decs := true, mbox := true } s (stopExplains n s) :=
  Touches.foldl (fun u d => stopExplain_touches n _ _ u) _ s

theorem switchBlock_touches (n uid : Nat) (s : State) : Touches .switching s (switchBlock n uid s) := by
  unfold switchBlock
  split
  · exact Touches.refl
  · dsimp only
    refine Touches.then ?_ (raise_touches _ _)
    refine Touches.then ?_ (sweepBlocks_touches _)
    refine Touches.then ?_ (reshape_touches n _)
    refine Touches.then ?_ (State.setN_touches _ _ _)
    refine Touches.then ?_ (State.setStn_touches _ n _)
    exact ((discardShadows_touches n s).mono).then (stopExplains_touches n _)

theorem readySwaps_touches (n : Nat) (s : State) : Touches .regions s (readySwaps n s) :=
  Touches.foldl (fun u r => switchSpare_touches r u) _ s

theorem baleBoundary_touches (id : Nat) (s : State) : Touches .switching s (baleBoundary id s) := by
  unfold baleBoundary
  split
  · exact Touches.refl
  next b _ =>
    refine Touches.ite (fun _ => Touches.refl) fun _ => ?_
    dsimp only
    refine Touches.then ?_ (State.setBale_touches _ id _)
    refine Touches.then ?_ (setRetiring_touches _ _)
    refine Touches.then ?_ (restoreAll_touches _)
    refine Touches.then ?_ (regionBoundary_touches _ _)
    exact Touches.ite (fun _ => (applyShadows_touches _ s).mono) fun _ =>
      (switchBlock_touches _ _ s).then (readySwaps_touches _ _)

theorem repoint_touches (id : Nat) (b : StnBlock) (s : State) : Touches .release s (repoint id b s) :=
  Touches.ite (fun _ => (State.setBale_touches s id _).mono) fun _ => ((refuseBale_touches _ s).mono).then (releaseBale_touches id _)

theorem repointAll_touches (o : Nat) (b : StnBlock) (s : State) : Touches .release s (repointAll o b s) :=
  Touches.foldl (fun u x => repoint_touches _ b u) _ s

/-- What a change of a station's blocks touches. -/
abbrev Parts.reblock : Parts :=
  { regs := true, evq := true, tiles := true, stations := true, retiring := true, lenders := true, bales := true, jobs := true,
    decs := true, blocks := true, mbox := true, shadow := true, cams := true, capture := true }

theorem installBlock_touches (b : StnBlock) (s : State) : Touches .reblock s (installBlock b s) := by
  unfold installBlock
  dsimp only
  refine Touches.then ?_ (sweepBlocks_touches _)
  have key : Touches .reblock s (({ s with blocks := s.blocks ++ [b] } : State).setStn b.stn fun t => { t with pend := some b.uid }) :=
    Touches.then (t := { s with blocks := s.blocks ++ [b] }) ⟨rfl, rfl⟩ (State.setStn_touches _ _ _)
  have last : ∀ u, Touches .reblock s u → Touches .reblock s (if u.armed b.stn then u else switchBlock b.stn b.uid u) := fun u hu =>
    Touches.ite (fun _ => hu) fun _ => hu.then (switchBlock_touches _ _ u)
  split
  · exact last _ ((key.then (raise_touches _ _)).then (repointAll_touches _ b _))
  · exact last _ key

theorem cancelPending_touches (n : Nat) (s : State) : Touches .reblock s (cancelPending n s) := by
  have key : Touches .reblock s (s.setStn n fun t => { t with pend := none }) := (State.setStn_touches s _ _).mono
  unfold cancelPending
  split
  · exact Touches.refl
  · dsimp only
    refine Touches.then ?_ (sweepBlocks_touches _)
    split
    · exact key.then (repointAll_touches _ _ _)
    · refine key.then (n := .release) (Touches.foldl (fun u x => ?_) _ _)
      exact ((refuseBale_touches n u).mono).then (releaseBale_touches _ _)

theorem disarmed_touches (n : Nat) (s : State) : Touches .switching s (disarmed n s) := by
  unfold disarmed
  dsimp only
  refine Touches.then ?_ (releaseRegion_touches n _)
  refine Touches.then ?_ (cancelGrants_touches n _)
  split
  · exact switchBlock_touches n _ s
  · exact (applyShadows_touches n s).mono

theorem settleArm_touches (n : Nat) (was : Bool) (s : State) : Touches .switching s (settleArm n was s) :=
  Touches.ite (fun _ => disarmed_touches n s) fun _ => Touches.refl

end Sys2Proof.Machine

/-! PROOFS. O28 fails (PEAK_END, PULSE_END, ON_CHECK and OFF_CHECK).

The clause on read-back failures asks for no sized state and does not bound the declared STOP_LINE outputs. Where the list of
stations is empty, the cause of R755 is recorded nowhere, so STOP_LINE reads released and its declared outputs turn on. A
declared output with a number that no channel has then counts its valve cycle at the address of the fault entry that the
failure has just written. -/

namespace Sys2Proof.Machine

-- One theorem after the other: many at once ask for too many threads.
set_option Elab.async false

/-- A command has one outcome. -/
theorem next_unique {o : Host.Outcome State Fault Refusal} {t u : State} (ht : o = .next t) (hu : o = .next u) : t = u := by
  rw [hu] at ht
  injection ht with h
  exact h.symm

/-- A STOP_LINE output with a number that no channel has. -/
def strayOutput : FioDecl where
  stn := 255
  ch := 0x138000
  func := 0x12
  intype := 0
  gate := 0
  filterUs := 0
  peakUs := 0
  holdDuty := 0
  settleUs := 0

/-- Its cycle counter is word 0 of fault entry 0. -/
theorem logFioLo_strayOutput : Reg.logFioLo strayOutput.ch = Reg.faultLogW0 0 := rfl

/-- A device block with the stray output, in which station 0 names channel 0 as its ejector. -/
def strayLineDevice : DevBlock :=
  { strayDevice with
    cams := []
    fields := [strayOutput]
    policies := [⟨0, 0, false, 0, false, 0, 0, 0, [⟨1, false, 0, 0, 0, 255, 0, 0, 0⟩]⟩] }

/-- A running device without stations, whose channel 0 awaits its on-check, and whose policy for station 0 stops the line. -/
def stationlessState : State :=
  { State.reset with
    regs := [(Reg.sysBootStat, 0x40000000), (Reg.mileStnPolicy 0, 1)]
    dev := some strayLineDevice
    stations := []
    fieldSafe := false
    fio := State.reset.fio.set 0 { Fio.none with onCheck := true } }

theorem stationlessState_meets_hypotheses :
    (∀ n ∈ stationlessState.ejectors 0, n < 16) ∧ (stationlessState.fioCh 0).onCheck = true ∧
      stationlessState.fget Reg.faultHead 5 0 = 0 ∧ stationlessState.tbNs = 0 := by decide +kernel

/-- The entry that the failed on-check logs at time 0 reads time 1 at once. -/
theorem readback_entry_overwritten :
    ∃ t, exec (.onCheck 0 false) stationlessState = .next t ∧ t.reg (Reg.faultLogW0 0) = 1 :=
  ⟨_, rfl, by decide +kernel⟩

/-- Refutes O28: the clause on read-back failures holds for sized states alone. On a state without stations the failure
releases STOP_LINE, and a declared output beyond the 32 channels counts its cycle in the fault entry just logged. -/
theorem not_outputsHoldEndAndAreChecked : ¬ Obligations.OutputsHoldEndAndAreChecked := by
  unfold Obligations.OutputsHoldEndAndAreChecked
  intro h
  obtain ⟨-, -, -, -, -, -, -, hfail⟩ := h
  obtain ⟨hej, hon, hhead, htime⟩ := stationlessState_meets_hypotheses
  obtain ⟨t, ht, -, -, -, hadded, -⟩ := hfail stationlessState 0 (.onCheck 0 false) (by decide) hej (.inl ⟨rfl, hon⟩)
  obtain ⟨u, hu, hone⟩ := readback_entry_overwritten
  have hut : u = t := next_unique hu ht
  have hw0 : t.reg (Reg.faultLogW0 0) = 0 := by
    have hw := hadded.1
    rwa [hhead, htime] at hw
  rw [← hut, hone] at hw0
  exact absurd hw0 (by decide)

end Sys2Proof.Machine

/-! PROOFS. O30 fails (FIO_UV, V24_B_LOSS, V24_RETURN, DIE_LINK_TIMEOUT and DIE_LINK_RETURN).

The clause on V24_B_LOSS bounds neither the stations of the declared references nor the declared STOP_LINE outputs. The loss of a
reference whose station does not exist (R668) records no cause, so STOP_LINE reads released and its declared outputs turn on. An
output with a number that no channel has counts its valve cycle in ODO.STAT of the channel whose LOS has just been set. -/

namespace Sys2Proof.Machine

-- One theorem after the other: many at once ask for too many threads.
set_option Elab.async false

/-- The reference of a station that does not exist, on channel 0. -/
def strayReference : OdoDecl where
  stn := 16
  primary := 0
  secondary := 255
  synth := false
  handover := 0
  requal := 0
  c1 := ⟨0, 0, 0, 0, 0⟩
  c2 := ⟨0, 0, 0, 0, 0⟩

/-- A STOP_LINE output whose cycle counter lies in the registers of odometer channel 0. -/
def odometerOutput : FioDecl := { strayOutput with ch := 0xF8061 }

/-- Its high word is ODO.STAT, its low word ODO.CTRL. -/
theorem logFio_odometerOutput :
    Reg.logFioHi odometerOutput.ch = Reg.odoStat 0 ∧ Reg.logFioLo odometerOutput.ch = Reg.odoCtrl 0 := ⟨rfl, rfl⟩

/-- A device block with both. -/
def strayReferenceDevice : DevBlock :=
  { strayDevice with cams := [], policies := [], odos := [strayReference], fields := [odometerOutput] }

/-- A running device whose channel 0 is healthy and has the reversed direction, with ODO.CTRL about to overflow as a counter. -/
def strayReferenceState : State :=
  { State.reset with
    regs := [(Reg.sysBootStat, 0x40000000), (Reg.odoStat 0, 0x41), (Reg.odoCtrl 0, 0xFFFFFFFF)]
    dev := some strayReferenceDevice
    fieldSafe := false }

/-- After V24_B_LOSS channel 0 shows no LOS. -/
theorem supplyLos_cleared :
    strayReferenceState.sized = true ∧
      ∃ t, exec .v24BLoss strayReferenceState = .next t ∧ t.flag (Reg.odoStat 0) 1 = false :=
  ⟨by decide +kernel, _, rfl, by decide +kernel⟩

/-- Refutes O30: where a station beyond the 16 loses its reference, no station holds STOP_LINE, and an output beyond the 32
channels counts the cycle of its turn-on in ODO.STAT, which takes LOS of channel 0 away again. -/
theorem not_fieldSuppliesAndDieLink : ¬ Obligations.FieldSuppliesAndDieLink := by
  unfold Obligations.FieldSuppliesAndDieLink
  intro h
  obtain ⟨-, hloss, -⟩ := h
  obtain ⟨hsized, u, hu, hclear⟩ := supplyLos_cleared
  obtain ⟨t, ht, hset⟩ := hloss strayReferenceState hsized
  obtain ⟨hlos, -⟩ := hset 0 (by decide)
  rw [next_unique ht hu, hclear] at hlos
  exact absurd hlos (by decide)

end Sys2Proof.Machine

/-! PROOFS. O32 and O33 fail (commands to remote ejectors, and missed milestones).

Both say what FIRE_REPORT of a remote entry's own command does, and neither asks for the endpoint that sends it. A message of an
endpoint that is not up is discarded (R601), so such a report changes nothing. -/

namespace Sys2Proof.Machine

-- One theorem after the other: many at once ask for too many threads.
set_option Elab.async false

/-- A DECIDED entry of station 0 for an ejector at endpoint 0 of link 0. -/
def remoteEntry : Mile :=
  { newMile 0 0 1 0 0 0 [] with st := 2, remote := true, pFire := some 100 }

/-- The entry stands in the table of a device that declares no endpoint. -/
def unheardState : State := { State.reset with miles := [remoteEntry] }

theorem unheardState_meets_hypotheses :
    unheardState.sized = true ∧ unheardState.mile? 0 = some remoteEntry ∧ unheardState.epUp 0 0 = false := by decide +kernel

/-- A report of an endpoint that is not up is discarded. -/
theorem exec_fireReport_down {l a : Nat} (time rch result cmd bale : Nat) {s : State} (h : s.epUp l a = false) :
    exec (.fireReport l a time rch result cmd bale) s = done s s.begin_ :=
  congrArg (done s) (if_neg (by rw [show s.begin_.epUp l a = false from h]; decide))

/-- The report leaves the entry and the counters as they are. -/
theorem report_unheard (result : Nat) :
    ∃ t, exec (.fireReport 0 0 0 0 result 0 1) unheardState = .next t ∧ t.mile? 0 = some remoteEntry ∧
      t.reg (Reg.mileStnMissed remoteEntry.stn) = 0 := by
  obtain ⟨-, hmile, hdown⟩ := unheardState_meets_hypotheses
  obtain ⟨t, ht, hsame⟩ := done_unchanged unheardState
  rw [State.unchanged] at hsame
  have hmiles := congrArg State.miles hsame
  have hregs := congrArg State.regs hsame
  refine ⟨t, (exec_fireReport_down 0 0 result 0 1 hdown).trans ht, ?_, (reg_congr hregs _).trans (by decide +kernel)⟩
  rw [State.mile?, hmiles]
  exact hmile

/-- Refutes O32: a report with RESULT 0 of an endpoint that is not up is discarded, and the entry stays DECIDED. -/
theorem not_remoteCommandsFollowThePrediction : ¬ Obligations.RemoteCommandsFollowThePrediction := by
  unfold Obligations.RemoteCommandsFollowThePrediction
  intro h
  obtain ⟨-, -, hreport, -⟩ := h
  obtain ⟨hsized, hmile, -⟩ := unheardState_meets_hypotheses
  obtain ⟨t, ht, hfired, -⟩ := hreport unheardState 0 0 0 0 remoteEntry hmile rfl (.inl rfl) rfl (by decide) hsized
  obtain ⟨u, hu, hstays, -⟩ := report_unheard 0
  rw [next_unique ht hu, hstays] at hfired
  exact absurd (hfired rfl) (by decide)

/-- Refutes O33: a report with RESULT 1 of an endpoint that is not up is discarded, and STN_MISSED does not count. -/
theorem not_missedMilestonesAreCountedAndBackedUp : ¬ Obligations.MissedMilestonesAreCountedAndBackedUp := by
  unfold Obligations.MissedMilestonesAreCountedAndBackedUp
  intro h
  obtain ⟨hmiss, -⟩ := h
  obtain ⟨hsized, hmile, -⟩ := unheardState_meets_hypotheses
  obtain ⟨t, ht, hcount, -⟩ := hmiss unheardState (.fireReport 0 0 0 0 1 0 1) 0 0 0 1 remoteEntry hsized (by decide) hmile
    (.inl ⟨rfl, .inl rfl, rfl, .inl rfl, rfl⟩)
  obtain ⟨u, hu, -, hzero⟩ := report_unheard 1
  rw [next_unique ht hu, hzero] at hcount
  exact absurd hcount (by decide +kernel)

end Sys2Proof.Machine

/-! PROOFS. O34 and O35 fail (odometer samples, and the health of odometer channels).

Neither statement bounds the stations of the declared references or the declared STOP_LINE outputs. As in the refutation of O30,
the loss of a reference whose station does not exist leaves STOP_LINE released, and a declared output with a number that no
channel has then counts its valve cycle among the registers of odometer channel 0. -/

namespace Sys2Proof.Machine

-- One theorem after the other: many at once ask for too many threads.
set_option Elab.async false

/-- A STOP_LINE output whose cycle counter lies at ODO.ERR_CNT of odometer channel 0. -/
def errorCountOutput : FioDecl := { strayOutput with ch := 0xF8065 }

theorem logFioLo_errorCountOutput : Reg.logFioLo errorCountOutput.ch = Reg.odoErrCnt 0 := rfl

/-- A running device with the stray reference, that output, and a healthy channel 0 that one fault makes unhealthy. -/
def countedErrorState : State :=
  { State.reset with
    regs := [(Reg.sysBootStat, 0x40000000), (Reg.odoStat 0, 0x40), (Reg.odoHealthCfg 0, 1)]
    dev := some { strayReferenceDevice with fields := [errorCountOutput] }
    fieldSafe := false }

/-- The sample changes both inputs in a quadrature mode. -/
theorem countedErrorState_meets_hypotheses :
    countedErrorState.sized = true ∧ countedErrorState.fget (Reg.odoCfg 0) 2 0 = 0 ∧ (countedErrorState.odoCh 0).a = false ∧
      (countedErrorState.odoCh 0).b = false ∧ countedErrorState.reg (Reg.odoErrCnt 0) = 0 := by decide +kernel

/-- ERR_CNT counts the change, and the output's cycle on top of it. -/
theorem illegal_change_counted_twice :
    ∃ t, exec (.odoInputAccept 0 true true false false) countedErrorState = .next t ∧ t.reg (Reg.odoErrCnt 0) = 2 :=
  ⟨_, rfl, by decide +kernel⟩

/-- Refutes O34: an illegal change that loses the reference of a station beyond the 16 counts 2 in ERR_CNT, where an output
beyond the 32 channels has its cycle counter there. -/
theorem not_odometerSamplesMoveTheCount : ¬ Obligations.OdometerSamplesMoveTheCount := by
  unfold Obligations.OdometerSamplesMoveTheCount
  intro h
  obtain ⟨hsample, -⟩ := h
  obtain ⟨hsized, hmode, ha, hb, hzero⟩ := countedErrorState_meets_hypotheses
  obtain ⟨t, ht, -, -, -, -, hillegal, -⟩ :=
    hsample countedErrorState 0 true true false false (by decide) hsized (.inr (.inl rfl))
  obtain ⟨⟨-, hcount⟩, -⟩ := hillegal (by rw [hmode]; decide) (by rw [ha]; decide) (by rw [hb]; decide)
  obtain ⟨u, hu, htwo⟩ := illegal_change_counted_twice
  rw [next_unique ht hu, htwo, hzero] at hcount
  exact absurd hcount (by decide)

/-- The state of the refutation of O30, with RS-422 inputs on channel 0. -/
def strayPairState : State := { strayReferenceState with regs := (Reg.odoCfg 0, 8) :: strayReferenceState.regs }

theorem strayPairState_meets_hypotheses :
    strayPairState.sized = true ∧ strayPairState.rs422 0 = true ∧ strayPairState.flag (Reg.odoStat 0) 1 = false := by
  decide +kernel

/-- After LOS_SET the channel shows no LOS. -/
theorem pairLos_cleared : ∃ t, exec (.losSet 0) strayPairState = .next t ∧ t.flag (Reg.odoStat 0) 1 = false :=
  ⟨_, rfl, by decide +kernel⟩

/-- Refutes O35: where LOS_SET loses the reference of a station beyond the 16, an output beyond the 32 channels counts the
cycle of its turn-on in ODO.STAT, which takes LOS away again. -/
theorem not_odometerHealthMovesTheReference : ¬ Obligations.OdometerHealthMovesTheReference := by
  unfold Obligations.OdometerHealthMovesTheReference
  intro h
  obtain ⟨hlos, -⟩ := h
  obtain ⟨hsized, hpair, hclear⟩ := strayPairState_meets_hypotheses
  obtain ⟨t, ht, hset, -⟩ := hlos strayPairState 0 (by decide) hsized hpair hclear
  obtain ⟨u, hu, hunset⟩ := pairLos_cleared
  rw [next_unique ht hu, hunset] at hset
  exact absurd hset (by decide)

end Sys2Proof.Machine

/-! PROOFS. O38, O39, O40 and O45 fail (lines, image passes, stripe jobs, and device faults).

None of the four bounds the numbers that stand in bales, passes and copies. An abort shows the end of the bale's pass in the status
register of its context, and a dropped copy counts in the counters of its station. A context and a station with numbers that the
device does not have are given here for which these registers are those of the fault log. -/

namespace Sys2Proof.Machine

-- One theorem after the other: many at once ask for too many threads.
set_option Elab.async false

/-- A context that the image pipeline does not have. -/
def strayContext : Nat := 0x13BFC

/-- Its status register is FAULT.HEAD. -/
theorem ispCtxStat_strayContext : Reg.ispCtxStat strayContext = Reg.faultHead := rfl

/-- A pass of the stray context runs for a bale of station 0, five faults have been logged, and drovers and bands have power. -/
def strayPassState : State :=
  { State.reset with
    regs := [(Reg.faultHead, 5), (Reg.pwrDomOn, 0xFFFF)]
    bales := [newBale 1 0 0 0 1 none 0 0 0]
    isp := some (strayContext, 1, 0) }

/-- Word 1 of entry 5 of the fault log, where the next fault belongs. -/
def faultCodeFive (t : State) : Nat := t.fget (Reg.faultLogW1 5) 23 16

/-- A fault entry added after five others has its code there. -/
theorem faultCodeFive_of_added {s t : State} {action code unit index bale : Nat} {stn : Option Nat}
    (h : State.faultAdded s t action stn code unit index bale) (hhead : s.fget Reg.faultHead 5 0 = 5) : faultCodeFive t = code := by
  obtain ⟨-, -, -, -, hcode, -⟩ := h
  rwa [hhead] at hcode

theorem strayPassState_meets_hypotheses :
    strayPassState.bale? 1 = some (newBale 1 0 0 0 1 none 0 0 0) ∧ 0 < strayPassState.fget Reg.faultCfg 3 0 ∧
      strayPassState.memOk = true ∧ strayPassState.droverOn 0 = true ∧ strayPassState.fget Reg.faultHead 5 0 = 5 := by
  decide +kernel

/-- The end of the pass with a mismatch logs its fault in entry 0. -/
theorem mismatch_logged_elsewhere :
    ∃ t, exec (.ispPassEnd strayContext true) strayPassState = .next t ∧ faultCodeFive t = 0 :=
  ⟨_, rfl, by decide +kernel⟩

/-- Refutes O39: where the pass that fails is one of a context beyond the 16, the context's status is FAULT.HEAD, which the
command clears, so that the fault overwrites entry 0 and none is added behind the others. -/
theorem not_imagePassesTakeTurns : ¬ Obligations.ImagePassesTakeTurns := by
  unfold Obligations.ImagePassesTakeTurns
  intro h
  obtain ⟨-, -, -, -, hfail⟩ := h
  obtain ⟨hbale, hretry, hmem, -, hhead⟩ := strayPassState_meets_hypotheses
  obtain ⟨t, u, ht, -, -, -, -, -, -, hadded, -⟩ :=
    hfail strayPassState strayContext 1 0 _ rfl hbale (by decide) rfl hretry hmem
  obtain ⟨v, hv, hnone⟩ := mismatch_logged_elsewhere
  have hcode := faultCodeFive_of_added hadded hhead
  rw [next_unique ht hv, hnone] at hcode
  exact absurd hcode (by decide)

/-- The watchdog of drover 0 logs its fault in entry 0. -/
theorem watchdog_logged_elsewhere :
    ∃ t, exec (.droverWatchdog 0 [1]) strayPassState = .next t ∧ faultCodeFive t = 0 :=
  ⟨_, rfl, by decide +kernel⟩

/-- Refutes O45: where the bale that a drover's watchdog aborts is in a pass of a context beyond the 16, stopping that pass
clears FAULT.HEAD, so that the fault overwrites entry 0 and none is added behind the others. -/
theorem not_deviceFaultsAreContained : ¬ Obligations.DeviceFaultsAreContained := by
  unfold Obligations.DeviceFaultsAreContained
  intro h
  obtain ⟨-, -, -, -, -, -, hdrover, -⟩ := h
  obtain ⟨hbale, hretry, -, hon, hhead⟩ := strayPassState_meets_hypotheses
  obtain ⟨t, u, ht, -, -, -, -, hadded⟩ := hdrover strayPassState 0 (newBale 1 0 0 0 1 none 0 0 0) (by decide) hon hbale (by decide) rfl hretry
  obtain ⟨v, hv, hnone⟩ := watchdog_logged_elsewhere
  have hcode := faultCodeFive_of_added hadded hhead
  rw [next_unique ht hv, hnone] at hcode
  exact absurd hcode (by decide)

/-! ## A job on tile 0 -/

/-- The bale, placed on tile 0. -/
def placedBale : Bale := { newBale 1 0 0 0 1 none 0 0 0 with inst := some 0, tiles := [0] }

/-- The state of the stray pass, in which station 0 holds tile 0 and a stripe job of the bale waits, placed on that tile. -/
def placedPassState : State :=
  { strayPassState with
    tiles := strayPassState.tiles.set 0 { Tile.off 0 with st := tileActive, owner := some 0, lx := 0 }
    stations := strayPassState.stations.set 0 { Stn.none with tiles := [0] }
    jobs := [⟨0, 1, .stripe, 0, false⟩]
    bales := [placedBale] }

theorem placedPassState_meets_hypotheses :
    placedPassState.sized = true ∧ placedPassState.boot.rebuilding = false ∧
      placedPassState.queued 0 = [⟨0, 1, .stripe, 0, false⟩] ∧ placedPassState.bale? 1 = some placedBale ∧
      (placedPassState.jobs.any fun x => x.bale == 1 && x.running) = false ∧ (placedPassState.stn 0).tiles = [0] ∧
      placedPassState.placeLost placedBale = false ∧ [0].all (placedPassState.tileReady placedBale) = true ∧
      0 < placedPassState.fget Reg.faultCfg 3 0 ∧ placedPassState.fget Reg.faultHead 5 0 = 5 := by
  decide +kernel

/-- The refusal of the job by its tile is logged in entry 0. -/
theorem refusal_logged_elsewhere :
    ∃ t, exec (.jobDispatch 0 (some 0)) placedPassState = .next t ∧ faultCodeFive t = 0 :=
  ⟨_, rfl, by decide +kernel⟩

/-- Refutes O40: where the bale whose job a tile refuses is in a pass of a context beyond the 16, stopping that pass clears
FAULT.HEAD, so that the fault overwrites entry 0 and none is added behind the others. -/
theorem not_stripeJobsRunOnTheirTiles : ¬ Obligations.StripeJobsRunOnTheirTiles := by
  unfold Obligations.StripeJobsRunOnTheirTiles
  intro h
  obtain ⟨-, hdispatch, -⟩ := h
  obtain ⟨hsized, hbuild, hqueued, hbale, hruns, htiles, hplace, hready, hretry, hhead⟩ := placedPassState_meets_hypotheses
  obtain ⟨t, u, ht, -, -, hrefused⟩ := hdispatch placedPassState ⟨0, 1, .stripe, 0, false⟩ placedBale [0] 0 (some 0) hsized
    (by decide) hbuild hqueued rfl hbale rfl rfl rfl hruns (by decide) (by decide) (htiles ▸ by decide)
    (.inl ⟨rfl, hplace, rfl, hready⟩)
  obtain ⟨-, -, -, -, hadded⟩ := hrefused 0 rfl (by decide) hretry
  obtain ⟨v, hv, hnone⟩ := refusal_logged_elsewhere
  have hcode := faultCodeFive_of_added hadded hhead
  rw [next_unique ht hv, hnone] at hcode
  exact absurd hcode (by decide)

/-! ## A copy for a station that does not exist -/

/-- A station whose drop counter is the abandon counter of station 1. -/
def strayStation : Nat := 0x2401C

theorem khanStnDrop_strayStation : Reg.khanStnDrop strayStation = Reg.faultStnAbandon 1 := rfl

/-- A camera of station 1, and one of the stray station. -/
def pairedCameras : List CamDecl := [{ strayCamera with stn := 1, cam := 0 }, { strayCamera with stn := strayStation, cam := 1 }]

/-- A bale of station 1 whose first line has been triggered. -/
def triggeredBale : Bale := { newBale 1 1 0 0 1 none 0 0 0 with trig := [(0, 1)] }

/-- The bale waits for its line, and so does a copy of it for the stray station. -/
def strayCopyState : State :=
  { State.reset with
    dev := some { strayDevice with cams := pairedCameras }
    bales := [triggeredBale, newBale (2 ^ 32) strayStation 0 1 1 none 0 0 0] }

theorem strayCopyState_meets_hypotheses :
    strayCopyState.bale? 1 = some triggeredBale ∧ strayCopyState.camDecl? 0 = some { strayCamera with stn := 1, cam := 0 } ∧
      (1, 0) ∉ (strayCopyState.cam 0).delayed ∧ triggeredBale.lineDone { strayCamera with stn := 1, cam := 0 } 0 = false := by
  decide +kernel

/-- STN_ABANDON counts the bale, and the dropped copy on top of it. -/
theorem abandon_counted_twice :
    ∃ t, exec (.lineMissing 0 1 0) strayCopyState = .next t ∧ t.reg (Reg.faultStnAbandon 1) = 2 :=
  ⟨_, rfl, by decide +kernel⟩

/-- Refutes O38: a missing line also drops the copies that wait for it, and where a copy belongs to a station beyond the 16, its
drop counter is STN_ABANDON of station 1, which then counts 2. -/
theorem not_linesArriveOrAreMissed : ¬ Obligations.LinesArriveOrAreMissed := by
  unfold Obligations.LinesArriveOrAreMissed
  intro h
  obtain ⟨-, -, -, -, hmissing⟩ := h
  obtain ⟨hbale, hcam, hsent, hwaits⟩ := strayCopyState_meets_hypotheses
  obtain ⟨t, ht, habort, -⟩ := hmissing strayCopyState 0 1 0 triggeredBale _ hbale hcam (by decide) (by decide)
  obtain ⟨-, -, -, hcount, -⟩ := habort ⟨(0, 1), List.mem_singleton_self _, rfl, by decide⟩ hsent hwaits
  obtain ⟨u, hu, htwo⟩ := abandon_counted_twice
  rw [next_unique ht hu] at hcount
  have hone : u.reg (Reg.faultStnAbandon 1) = 1 := by
    rw [show Reg.faultStnAbandon 1 = Reg.faultStnAbandon triggeredBale.stn from rfl, hcount]
    decide +kernel
  rw [htwo] at hone
  exact absurd hone (by decide)

end Sys2Proof.Machine

/-! PROOFS. O57 fails (power domains and operating points).

DOMAIN_ON of the field domain leaves the safe state, and the declared STOP_LINE outputs then follow the stations (R699, R715). The
statement does not bound their numbers: one with a number that no channel has counts its valve cycle among the registers of the
domain that has just been reset. -/

namespace Sys2Proof.Machine

-- One theorem after the other: many at once ask for too many threads.
set_option Elab.async false

/-- A running device with the field domain off, and the output whose cycle counter is ODO.ERR_CNT of channel 0. -/
def darkFieldState : State :=
  { State.reset with
    regs := [(Reg.sysBootStat, 0x40000000), (Reg.pwrDomOn, 1)]
    dev := some { strayDevice with cams := [], policies := [], fields := [errorCountOutput] }
    boot := { State.reset.boot with rstLow := false } }

theorem darkFieldState_meets_hypotheses :
    darkFieldState.inWay = false ∧ darkFieldState.domOn domField = false ∧ domField < domBand0 ∧ domField < 16 ∧ domField ≠ 0 ∧
      domainOf (Reg.odoErrCnt 0) = domField ∧ regReset (Reg.odoErrCnt 0) = 0 := by decide +kernel

/-- ERR_CNT reads 1 once the domain is on. -/
theorem domainOn_counts_cycle :
    ∃ t, exec (.domainOn domField) darkFieldState = .next t ∧ t.reg (Reg.odoErrCnt 0) = 1 :=
  ⟨_, rfl, by decide +kernel⟩

/-- Refutes O57: after DOMAIN_ON of the field domain a register of it does not read its reset value, where a STOP_LINE output
beyond the 32 channels counts the cycle of its turn-on there. -/
theorem not_powerFollowsItsLimits : ¬ Obligations.PowerFollowsItsLimits := by
  unfold Obligations.PowerFollowsItsLimits
  intro h
  obtain ⟨-, hon, -⟩ := h
  obtain ⟨hway, hoff, hband, hlt, hne, hdom, hreset⟩ := darkFieldState_meets_hypotheses
  obtain ⟨t, ht, -, hmay⟩ := hon darkFieldState domField hlt hne
  obtain ⟨-, -, hregs, -⟩ := hmay ⟨hway, hoff, .inl hband⟩
  obtain ⟨u, hu, hone⟩ := domainOn_counts_cycle
  have hzero := hregs _ hdom
  rw [next_unique ht hu, hone, hreset] at hzero
  exact absurd hzero (by decide)

end Sys2Proof.Machine

/-! PROOFS. O44 fails (convoy steps).

A bale that ends takes its waiting decoder sequences with it, and TREE.DEC_STAT of their decoder shows that. The statement does
not bound the station of a sequence: for one that the device does not have, this register is GRP_FAIL of group 0, whose POS bits
the command clears after it has counted the failure. -/

namespace Sys2Proof.Machine

-- One theorem after the other: many at once ask for too many threads.
set_option Elab.async false

/-- A station whose decoder status is the failure counter of group 0. -/
def strayDecoderStation : Nat := 0x17FC8

theorem treeDecStat_strayDecoderStation : Reg.treeDecStat strayDecoderStation 1 = Reg.convoyGrpFail 0 := rfl

/-- Group 0 of station 0, with this device as its one member. -/
def loneGroup : GroupDecl := ⟨0, 0, 1, 100, [0x8000]⟩

/-- A sequence of bale 1 that waits at the stray station's decoder 0. -/
def strayDecoder : (Nat × Nat) × Dec := ((strayDecoderStation, 0), ⟨1, 0, false, false, 0, 0, 0, [], [], [], 0, false, []⟩)

/-- A bale in the step of group 0. -/
def steppingBale : Bale := { newBale 1 0 0 0 1 none 0 0 0 with step := some 0 }

/-- Group 0 has failed 65,536 times, and its step runs for a bale that has the stray sequence. -/
def strayDecoderState : State :=
  { State.reset with
    regs := [(Reg.convoyGrpFail 0, 0x10000)]
    dev := some { strayDevice with cams := [], groups := [loneGroup] }
    bales := [steppingBale]
    decs := [strayDecoder] }

theorem strayDecoderState_meets_hypotheses :
    strayDecoderState.sized = true ∧ strayDecoderState.groupDecl? 0 = some loneGroup ∧
      strayDecoderState.bale? 1 = some steppingBale ∧
      satWord 24 (strayDecoderState.reg (Reg.convoyGrpFail 0)).toNat = (0x10001, false) := by
  decide +kernel

/-- After the timeout GRP_FAIL reads 1. -/
theorem failure_count_cleared :
    ∃ t, exec (.convoyTimeout 0 1) strayDecoderState = .next t ∧ t.reg (Reg.convoyGrpFail 0) = 1 :=
  ⟨_, rfl, by decide +kernel⟩

/-- Refutes O44: a bale that fails takes its decoder sequences with it, and where one of them is noted for a station beyond the
16, its decoder status is GRP_FAIL, of which the command clears bits after counting. -/
theorem not_convoyMessagesAndTimeouts : ¬ Obligations.ConvoyMessagesAndTimeouts := by
  unfold Obligations.ConvoyMessagesAndTimeouts
  intro h
  obtain ⟨-, -, -, -, -, htimeout, -⟩ := h
  obtain ⟨hsized, hgroup, hbale, hcount⟩ := strayDecoderState_meets_hypotheses
  obtain ⟨t, ht, ⟨-, -, -, hfail, -⟩, -⟩ := htimeout strayDecoderState 0 1 loneGroup steppingBale (by decide) hsized hgroup hbale rfl
  obtain ⟨u, hu, hone⟩ := failure_count_cleared
  rw [next_unique ht hu, hone, hcount] at hfail
  exact absurd hfail (by decide)

end Sys2Proof.Machine

/-! PROOFS. O56, O58 and O59 fail (lanes and segments that go down).

A segment that goes down has every running convoy step judged again (R814). None of the three statements bounds the group of a
running step. The event of a group beyond the 32 has a number beyond the 512 sources, whose place in SYS.EVT_PEND is another
register: for the group given here it is bit 31 of SLINK.STAT of link 0, which the failing step sets after the segment has
cleared it. -/

namespace Sys2Proof.Machine

-- One theorem after the other: many at once ask for too many threads.
set_option Elab.async false

/-- A group whose event is shown in bit 31 of SLINK.STAT of link 0. -/
def strayGroup : Nat := 0x17F3EC7

theorem evGroup_strayGroup :
    Reg.sysEvtPend (evGroup strayGroup / 32) = Reg.slinkStat 0 ∧ evGroup strayGroup % 32 = 31 := by decide

/-- The stray group has one member, an endpoint of link 1 that is DOWN. -/
def strayGroupDecl : GroupDecl := ⟨0, strayGroup, 1, 100, [0x40]⟩

/-- Lane 0 belongs to link 0. -/
def laneZeroEndpoint : EpDecl := ⟨0, 0, 0, 0, 1, 0, 0, 0, 0, 0⟩

/-- A segment that is up and has sent its one unacknowledged packet 15 times again. -/
def wornLink : Link := { Link.none with up := true, normal := { Stream.none with replay := [(0, [])], resends := 15 } }

/-- A bale waits in the step of the stray group while link 0 is up on lane 0. -/
def strayGroupState : State :=
  { State.reset with
    regs := [(Reg.laneStat 0, 1)]
    dev := some { strayDevice with cams := [], eps := [laneZeroEndpoint], groups := [strayGroupDecl] }
    bales := [{ newBale 1 0 0 0 1 none 0 0 0 with step := some strayGroup }]
    links := State.reset.links.set 0 wornLink }

theorem strayGroupState_meets_hypotheses :
    strayGroupState.sized = true ∧ strayGroupState.epsOk = true ∧ strayGroupState.linkLanes 0 = [0] ∧
      strayGroupState.laneLink 0 = some 0 ∧ strayGroupState.laneLock 0 = true ∧ strayGroupState.lref.getD 0 false = true ∧
      strayGroupState.lanePower 0 ≠ 3 ∧ strayGroupState.link 0 = wornLink := by
  decide +kernel

/-- Each of the three commands takes the segment down and leaves it shown as up. -/
theorem segment_shown_up :
    (∃ t, exec (.laneLockLoss 0) strayGroupState = .next t ∧ t.flag (Reg.slinkStat 0) 31 = true) ∧
      (∃ t, exec (.lrefLoss 0) strayGroupState = .next t ∧ t.flag (Reg.slinkStat 0) 31 = true) ∧
      (∃ t, exec (.nak 0 false 0) strayGroupState = .next t ∧ t.flag (Reg.slinkStat 0) 31 = true) :=
  ⟨⟨_, rfl, by decide +kernel⟩, ⟨_, rfl, by decide +kernel⟩, ⟨_, rfl, by decide +kernel⟩⟩

/-- Refutes O58: where the loss of lock fails the step of a group beyond the 32, the group's event sets bit 31 of SLINK.STAT. -/
theorem not_lanesTrainSkipAndCount : ¬ Obligations.LanesTrainSkipAndCount := by
  unfold Obligations.LanesTrainSkipAndCount
  intro h
  obtain ⟨-, -, -, -, -, -, hloss, -⟩ := h
  obtain ⟨hsized, heps, hlanes, hlink, hlock, -, -, -⟩ := strayGroupState_meets_hypotheses
  obtain ⟨t, ht, -, hdown⟩ := hloss strayGroupState 0 (by decide)
  obtain ⟨-, -, hbelongs⟩ := hdown hlock
  obtain ⟨-, hflag, -, -⟩ := hbelongs 0 hlink hsized heps (by simp [hlanes])
  obtain ⟨⟨u, hu, hup⟩, -, -⟩ := segment_shown_up
  rw [next_unique ht hu, hup] at hflag
  exact absurd hflag (by decide)

/-- Refutes O56: where the loss of the lane reference fails the step of a group beyond the 32, the group's event sets bit 31 of
SLINK.STAT. -/
theorem not_clocksHandOverAndBorrow : ¬ Obligations.ClocksHandOverAndBorrow := by
  unfold Obligations.ClocksHandOverAndBorrow
  intro h
  obtain ⟨-, -, -, -, hloss, -⟩ := h
  obtain ⟨hsized, heps, hlanes, -, -, hlref, hpower, -⟩ := strayGroupState_meets_hypotheses
  obtain ⟨t, ht, -, -, -, -, -, hdown⟩ := hloss strayGroupState 0 (by decide) hsized heps hlref
  obtain ⟨-, hflag, -⟩ := hdown 0 (by decide) ⟨0, hlanes ▸ List.mem_singleton_self 0, by decide, hpower⟩
  obtain ⟨-, ⟨u, hu, hup⟩, -⟩ := segment_shown_up
  rw [next_unique ht hu, hup] at hflag
  exact absurd hflag (by decide)

/-- Refutes O59: where the sixteenth resend fails the step of a group beyond the 32, the group's event sets bit 31 of
SLINK.STAT. -/
theorem not_segmentsDeliverRetryAndGrant : ¬ Obligations.SegmentsDeliverRetryAndGrant := by
  unfold Obligations.SegmentsDeliverRetryAndGrant
  intro h
  obtain ⟨-, -, -, hnak, -⟩ := h
  obtain ⟨hsized, -, -, -, -, -, -, hworn⟩ := strayGroupState_meets_hypotheses
  obtain ⟨t, ht, -, -, -, hdown⟩ := hnak strayGroupState 0 0 false (by decide) hsized
  rw [hworn] at hdown
  obtain ⟨-, hflag, -⟩ := hdown (by decide) (by decide)
  obtain ⟨-, -, ⟨u, hu, hup⟩⟩ := segment_shown_up
  rw [next_unique ht hu, hup] at hflag
  exact absurd hflag (by decide)

end Sys2Proof.Machine

/-! PROOFS. O20: a retirement starts one field entry. -/

namespace Sys2Proof.Machine

-- One theorem after the other: many at once ask for too many threads.
set_option Elab.async false

/-! ## What follows the loss of a decode tile -/

theorem State.setDec_touches (s : State) (n k id : Nat) (f : Dec → Dec) : Touches { decs := true } s (s.setDec n k id f) := ⟨rfl, rfl⟩

theorem restartDec_touches (n k : Nat) (d : Dec) (s : State) :
    Touches { regs := true, stations := true, decs := true, jobs := true } s (restartDec n k d s) := by
  unfold restartDec
  split
  · exact Touches.refl
  · dsimp only
    refine Touches.then ?_ (settleTurn_touches n _)
    refine Touches.then ?_ (refreshDec_touches n k _)
    refine Touches.then (n := { jobs := true }) ?_ ⟨rfl, rfl⟩
    exact (State.setDec_touches s _ _ _ _).mono

/-- What the end of explanations touches, and what a sequence that starts again does. -/
abbrev Parts.sequences : Parts := { regs := true, evq := true, mbox := true, stations := true, jobs := true, decs := true }

theorem decodeTileLost_touches (n : Nat) (s : State) : Touches .sequences s (decodeTileLost n s) := by
  unfold decodeTileLost
  exact Touches.foldl (fun u d => Touches.ite (fun _ => (stopExplain_touches _ _ _ u).mono) fun _ => (restartDec_touches _ _ _ u).mono) _ s

/-! ## The entry -/

/-- From `s` to `t` one KIND 0 entry has joined those that the steward writes. -/
def StartsEntry (target cause : Nat) (s t : State) : Prop :=
  ∃ e : MapEntry, t.fmap = { s.fmap with writing := s.fmap.writing ++ [e] } ∧ e.kind = 0 ∧ e.target = target ∧ e.cause = cause

theorem StartsEntry.congr {target cause : Nat} {r s t u : State} (h : StartsEntry target cause s t) (hs : s.fmap = r.fmap)
    (hu : u.fmap = t.fmap) : StartsEntry target cause r u := by
  obtain ⟨e, he, hkind⟩ := h
  exact ⟨e, by rw [hu, he, hs], hkind⟩

theorem StartsEntry.done {target cause : Nat} {s u : State} (h : StartsEntry target cause s.begin_ u) :
    ∃ t e, done s u = .next t ∧ t.fmap = { s.fmap with writing := s.fmap.writing ++ [e] } ∧ e.kind = 0 ∧ e.target = target ∧
      e.cause = cause := by
  obtain ⟨e, he⟩ := h
  exact ⟨_, e, rfl, he⟩

theorem fieldEntry_starts (target cause : Nat) {s : State} (h : s.fmap.entries.length + s.fmap.writing.length < 64) :
    StartsEntry target cause s (fieldEntry 0 target cause s) := by
  refine ⟨s.newEntry 0 target cause, ?_, rfl, rfl, rfl⟩
  unfold fieldEntry
  rw [if_pos h]
  exact (showFmap_touches _).keeps State.fmap

theorem retireSpare_starts (k cause : Nat) {s : State} (h : s.fmap.entries.length + s.fmap.writing.length < 64) :
    StartsEntry k cause s (retireSpare k cause s) := by
  refine (fieldEntry_starts k cause h).congr rfl ?_
  have key : Touches .sparing (fieldEntry 0 k cause s) (stopBorrow k ((fieldEntry 0 k cause s).setTile k fun t =>
      { idleTile t with st := tileRetired, lx := 15 })) :=
    ((State.setTile_touches _ _ _).mono).then (stopBorrow_touches k _)
  unfold retireSpare
  dsimp only
  split
  · split
    · exact (key.then (seekSpare_touches _ _ _)).keeps State.fmap
    · exact (key.then (unback_touches _ _)).keeps State.fmap
  · exact key.keeps State.fmap

theorem retire_starts (k cause : Nat) {s : State} (h : s.fmap.entries.length + s.fmap.writing.length < 64)
    (hst : (s.tile k).st = tileActive ∨ (s.tile k).st = tileSpare) : StartsEntry k cause s (retire k cause s) := by
  unfold retire
  dsimp only
  split
  · exact retireSpare_starts k cause h
  · next hspare =>
    have hact : (s.tile k).st = tileActive := hst.resolve_right fun hs => hspare (by rw [hs]; rfl)
    rw [if_pos (by rw [hact]; rfl)]
    generalize hu : raise (evTile k) _ = u
    have hkept : u.fmap = s.fmap := by
      rw [← hu]
      refine Touches.keeps (m := { regs := true, evq := true, tiles := true, stations := true }) ?_ State.fmap
      refine Touches.then ?_ (raise_touches _ _)
      refine Touches.then ?_ (State.setTile_touches _ _ _)
      split
      · exact (State.setStn_touches s _ _).mono
      · exact Touches.refl
    exact (fieldEntry_starts k cause (hkept ▸ h)).congr hkept ((seekSpare_touches k none _).keeps State.fmap)

theorem retireTile_starts (k cause : Nat) {s : State} (h : s.fmap.entries.length + s.fmap.writing.length < 64)
    (hst : (s.tile k).st = tileActive ∨ (s.tile k).st = tileSpare) : StartsEntry k cause s (retireTile k cause s) := by
  have hretire := (retire_starts k cause h hst).congr rfl ((restoreAll_touches _).keeps State.fmap)
  have hmay : ¬ ((s.tile k).st != tileActive && (s.tile k).st != tileSpare) = true := by
    rcases hst with hst | hst <;> rw [hst] <;> decide
  unfold retireTile
  rw [if_neg hmay]
  dsimp only
  split
  · exact hretire.congr rfl ((decodeTileLost_touches _ _).keeps State.fmap)
  · exact hretire

theorem retireTile_of_other (k cause : Nat) {s : State} (ha : (s.tile k).st ≠ tileActive) (hs : (s.tile k).st ≠ tileSpare) :
    retireTile k cause s = s :=
  if_pos (by simp [ha, hs])

theorem spareBistEnd_failed {s : State} {k j step : Nat} {fr : Option Nat}
    (h : s.retiring.find? (fun r => r.tile == k && r.step < 3) = some ⟨k, some j, step, fr⟩) :
    exec (.spareBistEnd k false) s = done s (restoreAll (retireSpare j 0x0A s.begin_)) := by
  have hbegin : s.begin_.retiring.find? (fun r => r.tile == k && r.step < 3) = some ⟨k, some j, step, fr⟩ := h
  show execSpareBistEnd k false s = _
  unfold execSpareBistEnd
  simp only [hbegin, Bool.false_eq_true, if_false]

/-- Settles O20: a tile that is retired, and a spare that fails, each start their one entry before anything else follows. -/
theorem retirementWritesAFieldEntry : Obligations.RetirementWritesAFieldEntry := by
  unfold Obligations.RetirementWritesAFieldEntry
  refine ⟨fun s ini key k hkey hk hst hroom => ?_, fun s ini key k hno => ?_, fun s ini k hk ha hs => ?_,
    fun s k j step fr _ hfind hroom => ?_⟩
  · have hcmd : retireCmd key k s.begin_ = retireTile k 0x09 s.begin_ := if_pos (by simp [hkey, hk])
    rw [show exec (.retireCmd ini key k) s = done s (retireCmd key k s.begin_) from rfl, hcmd]
    exact (retireTile_starts (s := s.begin_) k 0x09 hroom hst).done
  · have hskip : retireCmd key k s.begin_ = s.begin_ := if_neg (by simp; omega)
    exact ⟨_, congrArg (done s) hskip, rfl, fun _ _ _ _ => rfl⟩
  · have hskip : retireCmd 0xA5 k s.begin_ = s.begin_ :=
      (if_pos (by simp [hk])).trans (retireTile_of_other (s := s.begin_) k 0x09 ha hs)
    exact ⟨_, congrArg (done s) hskip, rfl⟩
  · have hstart : StartsEntry j 0x0A s.begin_ (restoreAll (retireSpare j 0x0A s.begin_)) :=
      (retireSpare_starts (s := s.begin_) j 0x0A hroom).congr rfl ((restoreAll_touches _).keeps State.fmap)
    rw [spareBistEnd_failed hfind]
    exact hstart.done

end Sys2Proof.Machine

/-! PROOFS. O21: a spare is powered, tested and takes the column of a tile that nobody owns, and a tile is zeroed. -/

namespace Sys2Proof.Machine

-- One theorem after the other: many at once ask for too many threads.
set_option Elab.async false

theorem tile_setTile (s : State) (j i : Nat) (f : Tile → Tile) :
    (s.setTile j f).tile i = if i = j ∧ j < s.tiles.length then f (s.tile i) else s.tile i := by
  by_cases hij : i = j
  · subst hij
    by_cases hlen : i < s.tiles.length
    · rw [if_pos ⟨rfl, hlen⟩]
      exact getD_modAt_same f _ hlen
    · rw [if_neg fun h => hlen h.2]
      simp [State.tile, State.setTile, modAt, List.getD_eq_getElem?_getD, hlen]
  · rw [if_neg fun h => hij h.1]
    exact getD_modAt_ne _ f _ hij

/-! ## Power -/

/-- The retirements after the spare of one has got its power. -/
def powered (k : Nat) (x : Retire) : Retire := if x.tile == k && x.step == 1 then { x with step := 2 } else x

/-- The spare of a retirement, if it has one, changed. -/
def setSpare (spare : Option Nat) (f : Tile → Tile) (s : State) : State :=
  match spare with
  | some j => s.setTile j f
  | none => s

theorem setSpare_touches (spare : Option Nat) (f : Tile → Tile) (s : State) : Touches { tiles := true } s (setSpare spare f s) := by
  cases spare with
  | none => exact Touches.refl
  | some j => exact State.setTile_touches s j f

theorem setSpare_tile (spare : Option Nat) (f : Tile → Tile) (s : State) (i : Nat) :
    (setSpare spare f s).tile i = if spare = some i ∧ i < s.tiles.length then f (s.tile i) else s.tile i := by
  cases spare with
  | none => simp [setSpare]
  | some j =>
    unfold setSpare
    rw [tile_setTile]
    by_cases hij : i = j
    · subst hij
      simp
    · simp [hij, Ne.symm hij]

/-- The tile is no longer gated. -/
def Tile.ungated (t : Tile) : Tile := { t with gated := false }

theorem exec_sparePowered {s : State} {k : Nat} {r : Retire} (h : s.retiring.find? (fun r => r.tile == k && r.step == 1) = some r) :
    exec (.sparePowered k) s =
      done s (setSpare r.spare Tile.ungated { s.begin_ with retiring := s.retiring.map (powered k) }) := by
  have hbegin : s.begin_.retiring.find? (fun r => r.tile == k && r.step == 1) = some r := h
  show execSparePowered k s = _
  unfold execSparePowered
  simp only [hbegin]
  rfl

theorem exec_sparePowered_none {s : State} {k : Nat} (h : s.retiring.find? (fun r => r.tile == k && r.step == 1) = none) :
    exec (.sparePowered k) s = done s s.begin_ := by
  have hbegin : s.begin_.retiring.find? (fun r => r.tile == k && r.step == 1) = none := h
  show execSparePowered k s = _
  unfold execSparePowered
  simp only [hbegin]

theorem powered_eq (k : Nat) (r : Retire) : powered k r = if r.tile = k ∧ r.step = 1 then { r with step := 2 } else r := by
  unfold powered
  simp

theorem sparePowered_done (s : State) (k : Nat) : ∃ t, exec (.sparePowered k) s = .next t ∧ t.retiring.length = s.retiring.length ∧
    (∀ (i : Nat) (r : Retire), s.retiring[i]? = some r →
      t.retiring[i]? = some (if r.tile = k ∧ r.step = 1 then { r with step := 2 } else r)) ∧
    (∀ (r : Retire) (j : Nat), s.retiring.find? (fun r => r.tile == k && r.step == 1) = some r → r.spare = some j →
      j < s.tiles.length → (t.tile j).gated = false) ∧
    (∀ i, { t.tile i with gated := (s.tile i).gated } = s.tile i) ∧
    (∀ i, (∀ r ∈ s.retiring, r.tile = k → r.step = 1 → r.spare ≠ some i) → t.tile i = s.tile i) ∧
    { t with retiring := s.retiring, tiles := s.tiles, out := s.out, phy := s.phy.still t.phy } = s := by
  cases hfind : s.retiring.find? (fun r => r.tile == k && r.step == 1) with
  | none =>
    have hnone : ∀ r ∈ s.retiring, ¬ (r.tile = k ∧ r.step = 1) := fun r hr => by
      simpa using List.find?_eq_none.mp hfind r hr
    refine ⟨s.begin_, exec_sparePowered_none hfind, rfl, fun i r hr => ?_, fun _ _ h => absurd h (by simp), fun _ => rfl, fun _ _ => rfl, rfl⟩
    rw [if_neg (hnone r (List.mem_of_getElem? hr))]
    exact hr
  | some r =>
    have hmem := List.mem_of_find?_eq_some hfind
    have hr : r.tile = k ∧ r.step = 1 := by simpa using List.find?_some hfind
    have htouch : Touches { retiring := true, tiles := true } s.begin_
        (setSpare r.spare Tile.ungated { s.begin_ with retiring := s.retiring.map (powered k) }) :=
      ((setRetiring_touches _ s.begin_).mono).then (setSpare_touches _ _ _)
    have htile := setSpare_tile r.spare Tile.ungated { s.begin_ with retiring := s.retiring.map (powered k) }
    have hret := (setSpare_touches r.spare Tile.ungated { s.begin_ with retiring := s.retiring.map (powered k) }).keeps State.retiring
    refine ⟨_, (exec_sparePowered hfind).trans htouch.done_eq, ?_, fun i x hx => ?_, fun x j hx hj hlen => ?_, fun i => ?_,
      fun i hi => ?_, htouch.back_begin⟩
    · rw [hret]
      exact List.length_map _
    · rw [hret, ← powered_eq]
      show (s.retiring.map (powered k))[i]? = _
      rw [List.getElem?_map, hx]
      rfl
    · cases hx
      rw [htile j, if_pos ⟨hj, hlen⟩]
      rfl
    · rw [htile i]
      split <;> rfl
    · rw [htile i, if_neg fun h => hi r hmem hr.1 hr.2 h.1]
      rfl

/-! ## The end of the quick BIST -/

theorem exec_spareBistEnd {s : State} {k : Nat} {r : Retire} (h : s.retiring.find? (fun r => r.tile == k && r.step < 3) = some r) :
    exec (.spareBistEnd k true) s = done s (spareReady r s.begin_) := by
  have hbegin : s.begin_.retiring.find? (fun r => r.tile == k && r.step < 3) = some r := h
  show execSpareBistEnd k true s = _
  unfold execSpareBistEnd
  simp only [hbegin, if_true]

/-- The retirements after the quick BIST of the spare of `r`. -/
def tested (r x : Retire) : Retire := if x.tile == r.tile then { r with step := 3 } else x

theorem spareReady_owned {s : State} {r : Retire} {n : Nat} (h : (s.tile r.tile).owner = some n) :
    spareReady r s = setSpare r.spare (fun t => { t with scrub := t.last != some n }) { s with retiring := s.retiring.map (tested r) } := by
  obtain ⟨k, spare, step, from_⟩ := r
  have htile : ∀ x, ({ s with retiring := x } : State).tile k = s.tile k := fun _ => rfl
  unfold spareReady
  simp only [htile, h]
  cases spare with
  | none => rfl
  | some j => rfl

theorem spareReady_unowned {s : State} {r : Retire} (h : (s.tile r.tile).owner = none) :
    spareReady r s = switchSpare { r with step := 3 } { s with retiring := s.retiring.map (tested r) } := by
  have htile : ∀ x, ({ s with retiring := x } : State).tile r.tile = s.tile r.tile := fun _ => rfl
  unfold spareReady
  simp only [htile, h]
  rfl

theorem bistOwned_done (s : State) (k : Nat) (r : Retire) (hfind : s.retiring.find? (fun r => r.tile == k && r.step < 3) = some r)
    (howner : (s.tile k).owner ≠ none) :
    ∃ t, exec (.spareBistEnd k true) s = .next t ∧ (∀ x ∈ t.retiring, x.tile = k → x = { r with step := 3 }) ∧
      (∀ i, t.tile i = if r.spare = some i ∧ i < s.tiles.length then
        { s.tile i with scrub := (s.tile i).last != (s.tile k).owner } else s.tile i) ∧
      { t with retiring := s.retiring, tiles := s.tiles, out := s.out, phy := s.phy.still t.phy } = s := by
  obtain ⟨n, hn⟩ := Option.ne_none_iff_exists'.mp howner
  obtain ⟨hrk, -⟩ : r.tile = k ∧ r.step < 3 := by simpa using List.find?_some hfind
  have hready := spareReady_owned (s := s.begin_) (r := r) (n := n) (hrk ▸ hn)
  have htouch : Touches { retiring := true, tiles := true } s.begin_ (spareReady r s.begin_) := by
    rw [hready]
    exact ((setRetiring_touches _ s.begin_).mono).then (setSpare_touches _ _ _)
  refine ⟨_, (exec_spareBistEnd hfind).trans htouch.done_eq, fun x hx hxk => ?_, fun i => ?_, htouch.back_begin⟩
  · rw [hready] at hx
    have hmap : x ∈ s.retiring.map (tested r) := by rwa [(setSpare_touches _ _ _).keeps State.retiring] at hx
    obtain ⟨y, -, rfl⟩ := List.mem_map.mp hmap
    unfold tested at hxk ⊢
    split at hxk
    · next hy => rw [if_pos hy]
    · next hy => exact absurd (hxk.trans hrk.symm) (by simpa using hy)
  · rw [hready, setSpare_tile, hn]
    rfl

/-! ## The switch to a spare -/

theorem stopBorrow_tile_ne (k i : Nat) (s : State) (h : i ≠ k) : (stopBorrow k s).tile i = s.tile i := by
  unfold stopBorrow
  split
  · exact (tile_setTile _ k i _).trans (if_neg fun e => h e.1)
  · rfl

theorem stopBorrow_tile_same (k : Nat) (s : State) : ∃ b, (stopBorrow k s).tile k = { s.tile k with borrowed := b } := by
  unfold stopBorrow
  split
  · dsimp only
    rw [tile_setTile]
    split
    · exact ⟨false, rfl⟩
    · exact ⟨_, rfl⟩
  · exact ⟨_, rfl⟩

/-- The spare once it has taken the column of a tile that nobody owns, in perfect-grid mode. -/
def Tile.inColumn (old : Tile) (j : Nat) (t : Tile) : Tile :=
  { t with st := tileActive, owner := none, lx := old.lx, ly := j / 9, gated := true, scrub := false, work := none }

/-- The tile that a spare has replaced. -/
def Tile.replaced (k : Nat) (t : Tile) : Tile := { idleTile t with st := tileRetired, lx := 15, ly := k / 9, last := t.holder }

/-- The tiles of a switch: what the bypass does before stations and bales take the new name. -/
def switchTiles (k j : Nat) (old : Tile) (s : State) : State :=
  stopBorrow k ((s.setTile j (Tile.inColumn old j)).setTile k (Tile.replaced k))

theorem switchTiles_touches (k j : Nat) (old : Tile) (s : State) :
    Touches { regs := true, tiles := true, lenders := true } s (switchTiles k j old s) :=
  (((State.setTile_touches _ _ _).then (State.setTile_touches _ _ _)).mono).then (stopBorrow_touches _ _)

theorem switchTiles_tile_other (k : Nat) {i j : Nat} (old : Tile) (s : State) (hij : i ≠ j) (hik : i ≠ k) :
    (switchTiles k j old s).tile i = s.tile i := by
  rw [switchTiles, stopBorrow_tile_ne k i _ hik, tile_setTile, if_neg fun h => hik h.1, tile_setTile, if_neg fun h => hij h.1]

theorem switchTiles_tile_spare {k j : Nat} (old : Tile) {s : State} (hkj : k ≠ j) (hj : j < s.tiles.length) :
    (switchTiles k j old s).tile j = Tile.inColumn old j (s.tile j) := by
  rw [switchTiles, stopBorrow_tile_ne k j _ hkj.symm, tile_setTile, if_neg fun h => hkj h.1.symm, tile_setTile, if_pos ⟨rfl, hj⟩]

theorem switchTiles_tile_old {k j : Nat} (old : Tile) {s : State} (hkj : k ≠ j) (hk : k < s.tiles.length) :
    ∃ b, (switchTiles k j old s).tile k = { Tile.replaced k (s.tile k) with borrowed := b } := by
  obtain ⟨b, hb⟩ := stopBorrow_tile_same k ((s.setTile j (Tile.inColumn old j)).setTile k (Tile.replaced k))
  refine ⟨b, hb.trans ?_⟩
  have hlen : k < (s.setTile j (Tile.inColumn old j)).tiles.length := by
    simpa [State.setTile, modAt] using hk
  rw [tile_setTile, if_pos ⟨rfl, hlen⟩, tile_setTile, if_neg fun h => hkj h.1]

/-- What the bypass does for retirement `r` with spare `j`, but for the new name in stations and bales and for the event. -/
def switched (r : Retire) (j : Nat) (s : State) : State :=
  switchTiles r.tile j (s.tile r.tile) { s with retiring := s.retiring.filter fun x => x.tile != r.tile }

theorem switchSpare_unowned {s : State} {r : Retire} {j : Nat} (hj : r.spare = some j) (howner : (s.tile r.tile).owner = none)
    (hgrid : s.holes = false) :
    ∃ ns bs, switchSpare r s = raise (evTile j) { switched r j s with stations := ns, bales := bs } := by
  unfold switchSpare
  simp only [hj, hgrid, howner, Option.isNone_none, Bool.and_false, Bool.false_eq_true, if_false, Bool.true_or]
  exact ⟨_, _, rfl⟩

theorem switchSpare_unowned_facts {s : State} {r : Retire} {j : Nat} (hspare : r.spare = some j)
    (howner : (s.tile r.tile).owner = none) (hgrid : s.holes = false) (hkj : r.tile ≠ j) (hk : r.tile < s.tiles.length)
    (hj : j < s.tiles.length) (hevent : j < 72) :
    let t := switchSpare r s
    (t.tile j).st = tileActive ∧ (t.tile j).lx = (s.tile r.tile).lx ∧ (t.tile j).ly = j / 9 ∧ (t.tile r.tile).st = tileRetired ∧
      (t.tile r.tile).gated = true ∧ (∀ x ∈ t.retiring, x.tile ≠ r.tile) ∧ t.pendingEvent (evTile j) = true ∧
      (∀ i, i ≠ j → i ≠ r.tile → t.tile i = s.tile i) := by
  dsimp only
  obtain ⟨ns, bs, hswitch⟩ := switchSpare_unowned hspare howner hgrid
  have hret : (switched r j s).retiring = s.retiring.filter fun x => x.tile != r.tile :=
    (switchTiles_touches _ _ _ _).keeps State.retiring
  have htile : ∀ i, (switchSpare r s).tile i = (switched r j s).tile i := fun i => by
    rw [hswitch]
    exact (raise_touches _ _).keeps fun u => u.tile i
  have hnew : (switched r j s).tile j = Tile.inColumn (s.tile r.tile) j (s.tile j) := switchTiles_tile_spare _ hkj hj
  obtain ⟨b, hold⟩ : ∃ b, (switched r j s).tile r.tile = { Tile.replaced r.tile (s.tile r.tile) with borrowed := b } :=
    switchTiles_tile_old _ hkj hk
  refine ⟨?_, ?_, ?_, ?_, ?_, fun x hx => ?_, ?_, fun i hij hik => ?_⟩
  · rw [htile, hnew]; rfl
  · rw [htile, hnew]; rfl
  · rw [htile, hnew]; rfl
  · rw [htile, hold]; rfl
  · rw [htile, hold]; rfl
  · have hraise : (switchSpare r s).retiring = (switched r j s).retiring := by
      rw [hswitch]
      exact (raise_touches _ _).keeps State.retiring
    rw [hraise, hret] at hx
    simpa using (List.mem_filter.mp hx).2
  · rw [hswitch]
    exact pendingEvent_raise_self _ _ (by unfold evTile; omega)
  · rw [htile]
    exact switchTiles_tile_other _ _ _ hij hik

theorem bistUnowned_done (s : State) (k j : Nat) (r : Retire)
    (hfind : s.retiring.find? (fun r => r.tile == k && r.step < 3) = some r) (hspare : r.spare = some j)
    (howner : (s.tile k).owner = none) (hgrid : s.holes = false) (hkj : k ≠ j) (hk : k < s.tiles.length) (hj : j < s.tiles.length)
    (hevent : j < 72) : ∃ t, exec (.spareBistEnd k true) s = .next t ∧ (t.tile j).st = tileActive ∧ (t.tile j).lx = (s.tile k).lx ∧
      (t.tile j).ly = j / 9 ∧ (t.tile k).st = tileRetired ∧ (t.tile k).gated = true ∧
      (∀ x ∈ t.retiring, x.tile ≠ k) ∧ t.pendingEvent (evTile j) = true ∧
      (∀ i, i ≠ j → i ≠ k → t.tile i = s.tile i) := by
  obtain ⟨hrk, -⟩ : r.tile = k ∧ r.step < 3 := by simpa using List.find?_some hfind
  subst hrk
  have hready := spareReady_unowned (s := s.begin_) (r := r) howner
  refine ⟨_, (exec_spareBistEnd hfind).trans (spareReady_touches r s.begin_).done_eq, ?_⟩
  rw [hready]
  exact switchSpare_unowned_facts (r := { r with step := 3 }) hspare howner hgrid hkj hk hj hevent

/-! ## Zeroing -/

/-- Dropping the entries of some addresses makes these read as unlisted ones. -/
theorem Memory.read_filter (d : Byte) (q : Nat → Bool) (m : Memory) (lo b : Nat) (hm : Memory.wfFrom d lo m = true) :
    Memory.read d (m.filter fun c => q c.1) b = if q b then Memory.read d m b else d := by
  induction m generalizing lo with
  | nil => simp [Memory.read]
  | cons c m ih =>
    obtain ⟨k, w⟩ := c
    simp only [Memory.wfFrom, Bool.and_eq_true, decide_eq_true_eq] at hm
    obtain ⟨-, hrest⟩ := hm
    have hbelow : b < k + 1 → Memory.read d m b = d := fun h => Memory.read_below d m h hrest
    rcases Nat.lt_trichotomy b k with hb | hb | hb
    · have hne : b ≠ k := by omega
      cases hq : q k <;> simp [hq, Memory.read, hne, hb, ih (k + 1) hrest, hbelow (by omega)]
    · subst hb
      cases hq : q b <;> simp [hq, Memory.read, ih (b + 1) hrest]
    · have hne : b ≠ k := by omega
      have hnlt : ¬ b < k := by omega
      cases hq : q k <;> simp [hq, Memory.read, hne, hnlt, ih (k + 1) hrest]

theorem Memory.read_clear (d : Byte) (m : Memory) (a n b : Nat) (hm : Memory.wf d m = true) :
    Memory.read d (Memory.clear m a n) b = if a ≤ b ∧ b < a + n then d else Memory.read d m b := by
  refine (Memory.read_filter d (fun c => decide (c < a) || decide (a + n ≤ c)) m 0 b hm).trans ?_
  by_cases h : a ≤ b ∧ b < a + n
  · rw [if_pos h, if_neg (by simp; omega)]
  · rw [if_neg h, if_pos (by simp; omega)]

theorem exec_tileScrubEnd {s : State} {k : Nat} (h : (s.tile k).scrub = true) :
    exec (.tileScrubEnd k) s =
      finish {} s (s.begin_.setTile k fun t => { t with scrub := false }) [] [] [] [(k * 0x200000, 0x1A0000)] :=
  if_pos h

theorem tileScrubEnd_done (s : State) (k : Nat) (hscrub : (s.tile k).scrub = true) (hmem : s.memOk = true) :
    ∃ t, exec (.tileScrubEnd k) s = .next t ∧ (t.tile k).scrub = false ∧ (∀ i, i ≠ k → t.tile i = s.tile i) ∧
      (∀ a, t.sramByteAt a = if k * 0x200000 ≤ a ∧ a < k * 0x200000 + 0x1A0000 then 0 else s.sramByteAt a) ∧
      { t with tiles := s.tiles, sram := s.sram, out := s.out, phy := s.phy.still t.phy } = s := by
  have hwf : Memory.wf sramByte s.sram = true := by
    simp only [State.memOk, Bool.and_eq_true] at hmem
    exact hmem.2
  refine ⟨_, exec_tileScrubEnd hscrub, ?_, fun i hi => ?_, fun a => Memory.read_clear _ _ _ _ _ hwf, rfl⟩
  · show ((s.begin_.setTile k fun t => { t with scrub := false }).tile k).scrub = false
    rw [tile_setTile]
    split
    · rfl
    · next hlen =>
      have hnone : s.tile k = Tile.off k := by
        have : s.tiles.length ≤ k := by simpa [State.begin_] using hlen
        simp [State.tile, List.getD_eq_getElem?_getD, this]
      rw [hnone] at hscrub
      cases hscrub
  · exact (tile_setTile s.begin_ k i _).trans (if_neg fun h => hi h.1)

/-- Settles O21. -/
theorem sparesTakeOverInSteps : Obligations.SparesTakeOverInSteps := by
  unfold Obligations.SparesTakeOverInSteps
  exact ⟨sparePowered_done, bistOwned_done, bistUnowned_done, tileScrubEnd_done⟩

end Sys2Proof.Machine

/-! PROOFS. O22: the oldest entry becomes part of the field region. -/

namespace Sys2Proof.Machine

-- One theorem after the other: many at once ask for too many threads.
set_option Elab.async false

theorem mirrorFail_touches (s : State) : Touches .events s (mirrorFail s) :=
  ((State.setFlag_touches s _ _ _).mono).then (raise_touches _ _)

/-- What a snapshot of the logbook touches. -/
abbrev Parts.record : Parts := { regs := true, evq := true, log := true }

theorem setLog_touches (l : Logbook) (s : State) : Touches { log := true } s { s with log := l } := ⟨rfl, rfl⟩

theorem snapshot_touches (s : State) : Touches .record s (snapshot s) := by
  unfold snapshot
  split
  · exact (mirrorFail_touches s).mono
  · exact ((setLog_touches _ s).mono).then (State.setFlag_touches _ _ _ _)

/-- The field region after its oldest entry `e` has been written. -/
def FieldMap.written (f : FieldMap) (e : MapEntry) (rest : List MapEntry) : FieldMap :=
  { f with seq := f.seq + 1, entries := f.entries ++ [e], writing := rest }

/-- The flash write of a field region. -/
def State.fmapWrites (s : State) (f : FieldMap) : Writes :=
  match s.dirType? 5 with
  | some d => [(d.off, f.image)]
  | none => []

/-- The state after a field region has been written: the logbook counts it and takes a snapshot. -/
def noteFmap (f : FieldMap) (s : State) : State := snapshot (logBump 16 Reg.logDefects 3 (showFmap { s with fmap := f }))

theorem fmapWritten_eq {s : State} {e : MapEntry} {rest : List MapEntry} (h : s.fmap.writing = e :: rest) :
    fmapWritten s = (noteFmap (s.fmap.written e rest) s, s.fmapWrites (s.fmap.written e rest)) := by
  unfold fmapWritten
  simp only [h]
  rfl

theorem noteFmap_touches (f : FieldMap) (s : State) :
    Touches { regs := true, evq := true, log := true, fmap := true } s (noteFmap f s) := by
  refine Touches.then ?_ (snapshot_touches _)
  refine Touches.then ?_ (logBump_touches _ _ _ _)
  refine Touches.then (n := { regs := true }) ?_ (showFmap_touches _)
  exact ⟨rfl, rfl⟩

theorem noteFmap_fmap (f : FieldMap) (s : State) : (noteFmap f s).fmap = f := by
  have htouch : Touches .record { s with fmap := f } (noteFmap f s) :=
    (((showFmap_touches _).mono).then (logBump_touches _ _ _ _)).then (snapshot_touches _)
  exact htouch.keeps State.fmap

theorem exec_fmapWriteEnd {s : State} {e : MapEntry} {rest : List MapEntry} (h : s.fmap.writing = e :: rest) :
    exec .fmapWriteEnd s =
      doneFlash s (noteFmap (s.fmap.written e rest) s.begin_) (s.begin_.fmapWrites (s.fmap.written e rest)) := by
  show execFmapWriteEnd s = _
  unfold execFmapWriteEnd
  rw [fmapWritten_eq (s := s.begin_) h]
  rfl

/-- The region as flash holds it after the write. -/
theorem flash_fmapWrites {s : State} {f : FieldMap} {d : DirEntry} {i : Nat} (hd : s.dirType? 5 = some d) (hmem : s.memOk = true)
    (hi : i < f.image.length) :
    Memory.read flashByte (applyWrites flashByte s.flash (s.begin_.fmapWrites f)) (d.off + i) = f.image.getD i 0 := by
  have hwf : Memory.wf flashByte s.flash = true := by
    simp only [State.memOk, Bool.and_eq_true] at hmem
    exact hmem.1.2
  have hwrites : s.begin_.fmapWrites f = [(d.off, f.image)] := by
    unfold State.fmapWrites
    rw [show s.begin_.dirType? 5 = some d from hd]
  rw [hwrites]
  generalize f.image = l at hi ⊢
  show Memory.read flashByte (Memory.writes flashByte s.flash d.off l) (d.off + i) = _
  rw [Memory.read_writes flashByte s.flash _ _ _ hwf, if_pos (by omega), Nat.add_sub_cancel_left]

/-- What a written field region leaves, for any state `u` in which the logbook has counted it. -/
theorem doneFlash_fmapWrites {s u : State} {f : FieldMap} (hfmap : u.fmap = f)
    (htouch : Touches { regs := true, evq := true, log := true, fmap := true } s.begin_ u) :
    ∃ t, doneFlash s u (s.begin_.fmapWrites f) = .next t ∧ t.fmap = f ∧
      (∀ d, s.dirType? 5 = some d → s.memOk = true →
        ∀ i < f.image.length, t.flashByteAt (d.off + i) = f.image.getD i 0) ∧
      t.tiles = s.tiles ∧ t.stations = s.stations ∧ t.dram = s.dram ∧ t.sram = s.sram :=
  ⟨_, rfl, hfmap, fun _ hd hmem _ hi => flash_fmapWrites hd hmem hi, htouch.keeps State.tiles,
    htouch.keeps State.stations, rfl, rfl⟩

/-- Settles O22. -/
theorem fieldEntryIsWrittenAndCounted : Obligations.FieldEntryIsWrittenAndCounted := by
  unfold Obligations.FieldEntryIsWrittenAndCounted
  intro s e rest hwriting
  rw [exec_fmapWriteEnd hwriting]
  obtain ⟨t, hdone, hfmap, hflash, hkept⟩ := doneFlash_fmapWrites (noteFmap_fmap (s.fmap.written e rest) s.begin_)
    (noteFmap_touches _ _)
  exact ⟨t, hdone, hfmap, hfmap ▸ hflash, hkept⟩

end Sys2Proof.Machine

/-! PROOFS. O55: what a reset and the loss of power keep. -/

namespace Sys2Proof.Machine

-- One theorem after the other: many at once ask for too many threads.
set_option Elab.async false

/-! ## Registers of a filtered register file -/

/-- A register file without some registers has them at their reset words. -/
theorem RegFile.get_filter (k : Nat → Bool) (f : RegFile) (a : Nat) :
    RegFile.get (f.filter fun p => k p.1) a = if k a then f.get a else BitVec.ofNat 32 (regReset a) := by
  induction f with
  | nil => simp [RegFile.get]
  | cons p r ih =>
    obtain ⟨b, w⟩ := p
    by_cases hab : a = b
    · subst hab
      cases hk : k a <;> simp_all [RegFile.get]
    · cases hk : k b <;> simp_all [RegFile.get]

/-- A flag outside a written field stays. -/
theorem State.flag_fset_ne (s : State) (x : Nat) {a c i hi lo : Nat} (hl : lo ≤ hi) (hh : hi < 32)
    (hd : c ≠ a ∨ i < lo ∨ hi < i) : (s.fset a hi lo x).flag c i = s.flag c i := by
  have hfld := s.fget_fset_ne x hl hh (le_refl i) hd
  unfold State.fget at hfld
  rw [State.flag, State.flag, bitAt_eq, bitAt_eq, hfld]

/-! ## What the parts of a reset keep -/

/-- Every output off, as the safe state has it (R713). -/
def outputsOff (s : State) : State :=
  { s with
    fieldSafe := true
    fio := s.fio.map fun c =>
      { c with out := false, pulse := false, hold := false, onCheck := false, offCheck := false, test := false, entry := none } }

theorem outputsOff_touches (s : State) : Touches { fieldSafe := true, fio := true } s (outputsOff s) :=
  ⟨rfl, by simp [State.lens, outputsOff]⟩

/-- The pulses that the safe state cuts are logged. -/
def logCut (s : State) : State :=
  ((List.range 32).filter fun ch => s.driven ch && (s.fioCh ch).pulse).foldl
    (fun s ch => fieldFault 0x12 ch (((s.fioCh ch).entry.bind fun e => (s.mile? e).map Mile.bale).getD 0) s) s

theorem logCut_touches (s : State) : Touches .events s (logCut s) :=
  Touches.foldl (fun _ _ => logFault_touches _ _) _ s

theorem safeState_eq (s : State) : (safeState s).1 = outputsOff (logCut s) := rfl

theorem safeState_touches (s : State) : Touches { regs := true, evq := true, fieldSafe := true, fio := true } s (safeState s).1 :=
  ((logCut_touches s).mono).then (outputsOff_touches _)

theorem safeState_reg (s : State) {a : Nat} (h : a < 0x2000A00000) (he : ¬ eventReg a) : (safeState s).1.reg a = s.reg a := by
  suffices hfold : ∀ (chs : List Nat) (bale : State → Nat → Nat) (u : State),
      (chs.foldl (fun s ch => fieldFault 0x12 ch (bale s ch) s) u).reg a = u.reg a from
    hfold _ (fun s ch => ((s.fioCh ch).entry.bind fun e => (s.mile? e).map Mile.bale).getD 0) s
  intro chs bale
  induction chs with
  | nil => intro u; rfl
  | cons ch r ih => intro u; exact (ih _).trans (logFault_reg_ne _ _ (.inl h) he)

theorem setEpState_touches (l a st : Nat) (s : State) : Touches { regs := true } s (setEpState l a st s) :=
  (State.fset_touches _ _ _ _ _).trans (State.fset_touches _ _ _ _ _)

/-- No link holds traffic, and no endpoint an exchange. -/
def linksDown (s : State) : State :=
  { s with links := List.replicate 16 Link.none, eps := s.eps.map fun (e : Ep) =>
      { e with exch := none, resync := 0, retry := false, asked := 0 } }

theorem allDown_eq (s : State) : allDown s = linksDown (s.eps.foldl (fun s e => setEpState e.link e.addr 0 s) s) := rfl

theorem epsDown_touches (es : List Ep) (s : State) :
    Touches { regs := true } s (es.foldl (fun s e => setEpState e.link e.addr 0 s) s) :=
  Touches.foldl (fun _ _ => setEpState_touches _ _ _ _) es s

theorem allDown_reg (s : State) {a : Nat} (h : a < 0x2000300000) : (allDown s).reg a = s.reg a := by
  suffices hfold : ∀ (es : List Ep) (u : State), (es.foldl (fun s e => setEpState e.link e.addr 0 s) u).reg a = u.reg a from
    hfold s.eps s
  intro es
  induction es with
  | nil => intro u; rfl
  | cons e r ih =>
    intro u
    refine (ih _).trans ((State.reg_fset_ne _ _ _ _ ?_).trans (State.reg_fset_ne _ _ _ _ ?_))
    · unfold Reg.slinkStat; omega
    · unfold Reg.slinkEpStat; omega

/-- What of the registers a reset keeps (R942, R965). -/
def resetKeeps (a : Nat) : Bool :=
  aonBlock a && !(0x2000110000 ≤ a && a < 0x2000120000) && a != Reg.pwrDomOn && !(Reg.pwrBandOp 0 ≤ a && a ≤ Reg.pwrTreeOp)

theorem resetDomains_reg (s : State) (a : Nat) :
    (resetDomains s).reg a =
      if resetKeeps a then (allDown (safeState s).1).reg a else BitVec.ofNat 32 (regReset a) :=
  RegFile.get_filter resetKeeps _ a


/-- A reset keeps what no part of it writes. -/
theorem resetDomains_boot_sport (s : State) : (resetDomains s).boot = s.boot ∧ (resetDomains s).sport = s.sport := by
  have hdown := epsDown_touches (safeState s).1.eps (safeState s).1
  have hsafe := safeState_touches s
  exact ⟨(hdown.keeps State.boot).trans (hsafe.keeps State.boot), (hdown.keeps State.sport).trans (hsafe.keeps State.sport)⟩

/-- A kept register below the fault log. -/
theorem resetDomains_reg_kept (s : State) {a : Nat} (hkeep : resetKeeps a = true) (ha : a < 0x2000300000) (he : ¬ eventReg a) :
    (resetDomains s).reg a = s.reg a := by
  rw [resetDomains_reg, if_pos hkeep, allDown_reg _ ha, safeState_reg s (by omega) he]

/-! ## Muster -/

/-- The register SYS.BOOT_STAT when muster starts. -/
def showStart (s : State) : State :=
  (((s.setFlag Reg.sysBootStat 31 false).setFlag Reg.sysBootStat 30 false).fset Reg.sysBootStat 7 0 0).fset Reg.sysBootStat 27 24 0

theorem State.fset_withBoot (s : State) (b : Boot) (a hi lo x : Nat) :
    ({ s with boot := b } : State).fset a hi lo x = { s.fset a hi lo x with boot := b } := rfl

theorem startPhase_zero (s : State) (b : Boot) :
    startPhase 0 { s with boot := b } =
      { s.fset Reg.sysBootStat 27 24 0 with
        boot := { b with phase := some 0, phaseStart := s.now } } := by
  unfold startPhase
  rw [show ({ s with boot := b } : State).phaseDomains 0 = [] from rfl, State.fset_withBoot]
  rfl

theorem startMuster_eq (s : State) : ∃ b : Boot, startMuster s = { showStart s with boot := b } ∧ b.phase = some 0 ∧ b.hold = s.boot.hold := by
  unfold startMuster
  rw [startPhase_zero]
  exact ⟨_, rfl, rfl, rfl⟩

theorem showStart_touches (s : State) : Touches { regs := true } s (showStart s) :=
  (((State.setFlag_touches _ _ _ _).trans (State.setFlag_touches _ _ _ _)).trans (State.fset_touches _ _ _ _ _)).trans
    (State.fset_touches _ _ _ _ _)

theorem showStart_reg_ne (s : State) {a : Nat} (h : a ≠ Reg.sysBootStat) : (showStart s).reg a = s.reg a := by
  unfold showStart
  rw [State.reg_fset_ne _ _ _ _ h, State.reg_fset_ne _ _ _ _ h, State.reg_setFlag_ne _ _ _ h, State.reg_setFlag_ne _ _ _ h]

theorem showStart_flags (s : State) :
    (showStart s).flag Reg.sysBootStat 31 = false ∧ (showStart s).flag Reg.sysBootStat 30 = false ∧
      (showStart s).fget Reg.sysBootStat 27 24 = 0 := by
  unfold showStart
  refine ⟨?_, ?_, ?_⟩
  · rw [State.flag_fset_ne _ _ (by omega) (by omega) (.inr (.inr (by omega))),
      State.flag_fset_ne _ _ (by omega) (by omega) (.inr (.inr (by omega))),
      State.flag_setFlag_ne _ _ (by omega) (.inr (by omega)), State.flag_setFlag _ _ _ (by omega)]
  · rw [State.flag_fset_ne _ _ (by omega) (by omega) (.inr (.inr (by omega))),
      State.flag_fset_ne _ _ (by omega) (by omega) (.inr (.inr (by omega))), State.flag_setFlag _ _ _ (by omega)]
  · rw [State.fget_fset _ _ _ (by omega) (by omega)]
    decide

/-- No station of a state without work is armed. -/
theorem anyArmed_of_idle {s : State} (hmiles : s.miles = []) (hstations : s.stations = List.replicate 16 Stn.none) :
    s.anyArmed = false := by
  refine List.any_eq_false.2 fun n hn => ?_
  have hstn : s.stn n = Stn.none := by
    unfold State.stn
    rw [hstations, List.getD_eq_getElem?_getD, List.getElem?_replicate]
    split <;> rfl
  simp [State.armed, hmiles, hstn, Stn.none]

/-- No work, no manifest and no output driven: the device after a reset. -/
structure State.Blank (s : State) : Prop where
  dev : s.dev = none
  blocks : s.blocks = []
  bales : s.bales = []
  miles : s.miles = []
  stations : s.stations = List.replicate 16 Stn.none
  fieldSafe : s.fieldSafe = true

theorem resetDomains_blank (s : State) : (resetDomains s).Blank := ⟨rfl, rfl, rfl, rfl, rfl, rfl⟩

theorem State.Blank.of_touches {s t : State} (h : s.Blank) (htouch : Touches { regs := true } s t) : t.Blank :=
  ⟨(htouch.keeps State.dev).trans h.dev, (htouch.keeps State.blocks).trans h.blocks, (htouch.keeps State.bales).trans h.bales,
    (htouch.keeps State.miles).trans h.miles, (htouch.keeps State.stations).trans h.stations,
    (htouch.keeps State.fieldSafe).trans h.fieldSafe⟩

/-- A blank device whose SYS.BOOT_STAT shows M0, in phase 0. -/
theorem mustering_of_blank {t : State} (h : t.Blank) (hphase : t.boot.phase = some 0)
    (hway : t.flag Reg.sysBootStat 31 = false) (hrun : t.flag Reg.sysBootStat 30 = false)
    (hshown : t.fget Reg.sysBootStat 27 24 = 0) : State.mustering t :=
  ⟨hphase, hway, by rw [State.running, hrun, Bool.false_and], hshown, h.dev, h.blocks, h.bales, h.miles,
    anyArmed_of_idle h.miles h.stations, h.fieldSafe, fun ch => driven_of_fieldSafe h.fieldSafe ch⟩

theorem State.Blank.withBoot {s : State} (h : s.Blank) (b : Boot) : ({ s with boot := b } : State).Blank :=
  ⟨h.dev, h.blocks, h.bales, h.miles, h.stations, h.fieldSafe⟩

/-- The steward's own notes change, the register stays. -/
theorem mustering_withBoot {u : State} {b : Boot} (h : u.Blank) (hphase : b.phase = some 0)
    (hway : u.flag Reg.sysBootStat 31 = false) (hrun : u.flag Reg.sysBootStat 30 = false)
    (hshown : u.fget Reg.sysBootStat 27 24 = 0) : State.mustering { u with boot := b } :=
  mustering_of_blank (h.withBoot b) hphase ((flag_congr rfl _ _).trans hway) ((flag_congr rfl _ _).trans hrun)
    ((fget_congr rfl _ _ _).trans hshown)

/-- Muster runs from M0 on a blank device. -/
theorem startMuster_mustering {s : State} (h : s.Blank) : State.mustering (startMuster s) := by
  obtain ⟨b, heq, hphase, -⟩ := startMuster_eq s
  obtain ⟨hway, hrun, hshown⟩ := showStart_flags s
  have hmuster := mustering_withBoot (b := b) (h.of_touches (showStart_touches s)) hphase hway hrun hshown
  exact heq ▸ hmuster

/-! ## The record written before a reset -/

theorem mirrorWritten_touches (s : State) : Touches .record s (mirrorWritten s).1 := by
  unfold mirrorWritten
  split
  · exact (((State.setReg_touches s _ _).trans (State.setFlag_touches _ _ _ _)).mono).then (setLog_touches _ _)
  · exact (Touches.refl (m := {})).mono

theorem mirrorRegs_touches (r : State × Writes) (l : List (List Byte)) :
    Touches .record r.1 (l.foldl (fun r _ => ((mirrorWritten r.1).1, r.2 ++ (mirrorWritten r.1).2)) r).1 := by
  induction l generalizing r with
  | nil => exact (Touches.refl (m := {})).mono
  | cons _ l ih => exact Touches.then (n := .record) (mirrorWritten_touches r.1) (ih ((mirrorWritten r.1).1, r.2 ++ (mirrorWritten r.1).2))

theorem mirrorNow_touches (s : State) : Touches .record s (mirrorNow s).1 :=
  (snapshot_touches s).trans (mirrorRegs_touches (snapshot s, []) _)

/-- A register outside the mirror's. -/
theorem snapshot_reg (s : State) {a : Nat} (h : a ≠ Reg.logMirror) (he : ¬ eventReg a) : (snapshot s).reg a = s.reg a := by
  unfold snapshot
  split
  · exact (raise_reg _ _ (by omega) he).trans (State.reg_setFlag_ne _ _ _ h)
  · exact State.reg_setFlag_ne _ _ _ h

theorem State.reg_withLog (s : State) (l : Logbook) (a : Nat) : ({ s with log := l } : State).reg a = s.reg a := rfl

theorem mirrorWritten_reg (s : State) {a : Nat} (h : a ≠ Reg.logMirror) (hseq : a ≠ Reg.logMirrorSeq) :
    (mirrorWritten s).1.reg a = s.reg a := by
  unfold mirrorWritten
  split
  · exact (State.reg_withLog _ _ _).trans ((State.reg_setFlag_ne _ _ _ h).trans (State.reg_setReg_ne _ _ hseq))
  · rfl

theorem mirrorNow_reg (s : State) {a : Nat} (h : a ≠ Reg.logMirror) (hseq : a ≠ Reg.logMirrorSeq) (he : ¬ eventReg a) :
    (mirrorNow s).1.reg a = s.reg a := by
  suffices hfold : ∀ (l : List (List Byte)) (r : State × Writes),
      (l.foldl (fun r _ => ((mirrorWritten r.1).1, r.2 ++ (mirrorWritten r.1).2)) r).1.reg a = r.1.reg a from
    (hfold _ (snapshot s, [])).trans (snapshot_reg s h he)
  intro l
  induction l with
  | nil => intro r; rfl
  | cons _ l ih => intro r; exact (ih _).trans (mirrorWritten_reg _ h hseq)

/-! ## The reset -/

theorem State.reg_withBoot (s : State) (b : Boot) (a : Nat) : ({ s with boot := b } : State).reg a = s.reg a := rfl

theorem startMuster_reg (s : State) {a : Nat} (h : a ≠ Reg.sysBootStat) : (startMuster s).reg a = s.reg a := by
  obtain ⟨b, heq, -, -⟩ := startMuster_eq s
  rw [heq, State.reg_withBoot, showStart_reg_ne s h]

/-- The registers that the statement names: kept by every part of a reset. -/
def keptOverReset : List Nat := [Reg.timeTbIncr, Reg.logPoh, Reg.logCalLo, Reg.logCalHi]

theorem resetDevice_reg (s : State) {a : Nat} (h : a ∈ keptOverReset) : (resetDevice s).1.reg a = s.reg a := by
  have hplain : resetKeeps a = true ∧ a < 0x2000300000 ∧ 0x2000002000 ≤ a ∧ a ≠ Reg.logMirror ∧ a ≠ Reg.logMirrorSeq ∧
      a ≠ Reg.sysBootStat := by
    revert h a
    decide
  obtain ⟨hkeep, hlow, hhigh, hmirror, hseq, hboot⟩ := hplain
  exact (startMuster_reg _ hboot).trans ((resetDomains_reg_kept _ hkeep hlow (not_eventReg (.inr hhigh))).trans
    (mirrorNow_reg s hmirror hseq (not_eventReg (.inr hhigh))))

theorem startMuster_keeps (s : State) :
    (startMuster s).boot.hold = s.boot.hold ∧ (startMuster s).sport = s.sport ∧ (startMuster s).cores = s.cores := by
  obtain ⟨b, heq, -, hhold⟩ := startMuster_eq s
  have htouch := showStart_touches s
  rw [heq]
  exact ⟨hhold, htouch.keeps State.sport, htouch.keeps State.cores⟩

/-- No core of a reset device runs. -/
theorem resetDomains_core (s : State) (c : Nat) : ((resetDomains s).core c).run = false := by
  have hcores : (resetDomains s).cores = (discardWork (allDown (safeState s).1)).cores.map
      fun (c : AppCore) => ⟨false, 0, 0, 0, c.cmp⟩ := rfl
  rw [State.core, hcores, List.getD_eq_getElem?_getD, List.getElem?_map]
  cases (discardWork (allDown (safeState s).1)).cores[c]? <;> rfl

/-- What a reset leaves. -/
theorem resetDevice_facts (s : State) :
    State.mustering (resetDevice s).1 ∧ (resetDevice s).1.boot.hold = s.boot.hold ∧ (resetDevice s).1.sport = s.sport ∧
      ∀ c, ((resetDevice s).1.core c).run = false := by
  obtain ⟨hhold, hsport, hcores⟩ := startMuster_keeps (resetDomains (mirrorNow s).1)
  obtain ⟨hboot', hsport'⟩ := resetDomains_boot_sport (mirrorNow s).1
  have htouch := mirrorNow_touches s
  refine ⟨startMuster_mustering (resetDomains_blank _), hhold.trans ?_, hsport.trans (hsport'.trans (htouch.keeps State.sport)),
    fun c => ?_⟩
  · rw [hboot', htouch.keeps State.boot]
  · have hcore : (resetDevice s).1.core c = (resetDomains (mirrorNow s).1).core c := congrArg (fun l => List.getD l c _) hcores
    rw [hcore, resetDomains_core]

/-! ## The commands -/

/-- What muster has begun with stands in the answer. -/
structure EndsMustering (s u t : State) : Prop where
  mustering : State.mustering t
  otp : t.otp = s.otp
  tb : t.tb = s.tb
  dram : t.dram = s.dram
  sram : t.sram = s.sram
  reg : ∀ a, t.reg a = u.reg a
  boot : t.boot = u.boot
  core : ∀ c, t.core c = u.core c

theorem doneFlash_mustering (s : State) {u : State} (w : Writes) (h : State.mustering u) :
    ∃ t, doneFlash s u w = .next t ∧ EndsMustering s u t :=
  ⟨_, rfl, h, rfl, rfl, rfl, rfl, fun _ => rfl, rfl, fun _ => rfl⟩

theorem mustering_withAnswer {u : State} (out : List (Nat × Nat × Nat × List Nat)) (phy : Phy) (sport : Sport) (h : State.mustering u) :
    State.mustering { u with out := out, phy := phy, sport := sport } := h

theorem finish_mustering {s u : State} {q : Request} {w : Writes} (h : State.mustering u) (htx : u.sport.tx.length = 4) :
    ∃ t, finish {} s (respond q stOk [] u) [] w [] [] = .next t ∧ State.answered q stOk [] t ∧ EndsMustering s u t := by
  obtain ⟨hans, last, tx, out, phy, -, hshape⟩ := respond_answers (q := q) stOk [] htx
  rw [hshape] at hans ⊢
  generalize ({ u.sport with running := none, last := last, tx := tx } : Sport) = sport at hans ⊢
  exact ⟨_, rfl, hans, h, rfl, rfl, rfl, rfl, fun _ => rfl, rfl, fun _ => rfl⟩

theorem anyArmed_begin (s : State) : s.begin_.anyArmed = s.anyArmed := rfl

theorem exec_resetCmdWrite (ini key : Nat) (s : State) :
    exec (.resetCmdWrite ini key) s = doneFlash s (resetCmd ini key s.begin_).1 (resetCmd ini key s.begin_).2 := rfl

theorem resetCmd_key {ini key : Nat} {s : State} (harmed : s.anyArmed = false) (hkey : key % 256 = 0x5A) :
    resetCmd ini key s = resetDevice s := by
  simp [resetCmd, harmed, hkey]

theorem resetCmd_zero {ini key : Nat} {s : State} (hkey : key % 256 = 0) : resetCmd ini key s = (s, []) := by
  simp [resetCmd, hkey]

theorem resetCmd_other {ini key : Nat} {s : State} (harmed : s.anyArmed = false) (hkey : key % 256 ≠ 0x5A) :
    resetCmd ini key s = (s, []) := by
  simp [resetCmd, harmed, hkey]

theorem resetCmd_armed {ini key : Nat} {s : State} (harmed : s.anyArmed = true) (hkey : key % 256 ≠ 0) :
    resetCmd ini key s = (dropWrite ini Reg.sysResetCmd .device s, []) := by
  simp [resetCmd, harmed, hkey]

theorem reset_done {s : State} (ini : Nat) {key : Nat} (harmed : s.anyArmed = false) (hkey : key % 256 = 0x5A) :
    ∃ t, exec (.resetCmdWrite ini key) s = .next t ∧ EndsMustering s (resetDevice s.begin_).1 t := by
  rw [exec_resetCmdWrite, resetCmd_key (s := s.begin_) harmed hkey]
  exact doneFlash_mustering s _ (resetDevice_facts s.begin_).1

theorem portReset_done {s : State} {q : Request} (harmed : s.anyArmed = false) (hsized : s.sized = true)
    (hq : s.sport.running = some q) (hcmd : q.cmd = 0x30) (hpayload : q.payload = []) (hserved : s.portServes 0x30 = true) :
    ∃ t, exec .reset s = .next t ∧ State.answered q stOk [] t ∧ EndsMustering s (resetDevice s.begin_).1 t := by
  obtain ⟨hmuster, -, hsport, -⟩ := resetDevice_facts s.begin_
  have hreply : sized 0 portReset q.payload s.begin_ =
      { st := (resetDevice s.begin_).1, flash := (resetDevice s.begin_).2 } := by
    rw [hpayload, sized_of_length (n := 0) _ _ rfl, portReset, anyArmed_begin, harmed]
    rfl
  rw [exec_reset, ← hcmd, serve_own {} hq (hcmd ▸ hserved) hreply]
  exact finish_mustering hmuster (by rw [hsport]; exact sized_tx hsized)

theorem resetCmd_dropped {s : State} (ini : Nat) {key : Nat} (harmed : s.anyArmed = true) (hkey : key % 256 ≠ 0) :
    ∃ t, exec (.resetCmdWrite ini key) s = .next t ∧
      t.reg Reg.sysWdropCnt = BitVec.ofNat 32 (satWord 24 (s.reg Reg.sysWdropCnt).toNat).1 ∧ t.pendingEvent 448 = true ∧
      State.onlyRegs wdropRegs s t := by
  obtain ⟨t, hdone, hregs, -, honly⟩ := done_onlyRegs (dropWrite_regsOnly ini Reg.sysResetCmd .device s.begin_)
  rw [exec_resetCmdWrite, resetCmd_armed (s := s.begin_) harmed hkey]
  refine ⟨t, hdone, ?_, ?_, honly⟩
  · have hdrop : dropWrite ini Reg.sysResetCmd .device s.begin_ = raise 448 (((bump Reg.sysWdropCnt s.begin_).setN Reg.sysWdropAddr
      (Reg.sysResetCmd % 2 ^ 32)).setN Reg.sysWdropSrc (256 + ini)) := rfl
    rw [reg_congr hregs, hdrop, raise_reg 448 _ (by norm_num) (not_eventReg_wdrop (by simp [wdropRegs])),
      State.reg_setN_ne _ _ (by decide), State.reg_setN_ne _ _ (by decide), bump_reg _ (not_eventReg_wdrop (by simp [wdropRegs]))]
    rfl
  · rw [State.pendingEvent, flag_congr hregs]
    exact pendingEvent_raise_self 448 _ (by norm_num)

theorem resetCmd_nothing {s : State} (ini : Nat) {key : Nat} (h : key % 256 = 0 ∨ (s.anyArmed = false ∧ key % 256 ≠ 0x5A)) :
    ∃ t, exec (.resetCmdWrite ini key) s = .next t ∧ State.unchanged s t := by
  have hnothing : resetCmd ini key s.begin_ = (s.begin_, []) := by
    rcases h with hkey | ⟨harmed, hkey⟩
    · exact resetCmd_zero hkey
    · exact resetCmd_other (s := s.begin_) harmed hkey
  rw [exec_resetCmdWrite, hnothing]
  exact done_begin s

/-! ## The reset pin and main power -/

/-- The registers after a whole-device reset: those of the logbook. -/
theorem afterReset_reg (s : State) (a : Nat) :
    s.afterReset.reg a = if logReg a then s.reg a else BitVec.ofNat 32 (regReset a) := RegFile.get_filter logReg s.regs a

/-- SYS_RST_N has been low for long enough. -/
def rstState (s : State) : State := { s.afterReset with free := s.free + 1 }.setFlag Reg.logMirror 30 false

theorem rstState_reg (s : State) {a : Nat} (h : a ≠ Reg.logMirror) :
    (rstState s).reg a = if logReg a then s.reg a else BitVec.ofNat 32 (regReset a) :=
  (State.reg_setFlag_ne _ _ _ h).trans (afterReset_reg s a)

theorem logMirror_logReg : logReg Reg.logMirror = true := by decide

theorem cutRecord_nil {s : State} (h : s.log.writing = []) : cutRecord s = [] := by
  unfold cutRecord
  split
  · simp_all
  · rfl

/-- What SYS_RST_N leaves (R998, R1048). -/
def WholeReset (s t : State) : Prop :=
  t.boot.rstLow = true ∧ t.boot.phase = none ∧ t.tb = State.reset.tb ∧ t.otp = s.otp ∧
    t.dram = s.dram ∧ t.sram = s.sram ∧ (s.log.writing = [] → t.flash = s.flash) ∧ t.fieldSafe = true ∧
    (∀ ch, t.driven ch = false) ∧ t.anyArmed = false ∧ t.dev = none ∧ t.bales = [] ∧ t.boot.hold = s.boot.hold ∧
    (∀ a, logReg a = false → t.reg a = BitVec.ofNat 32 (regReset a)) ∧
    (∀ a, logReg a = true → a ≠ Reg.logMirror → t.reg a = s.reg a)

theorem sysRst_acts (s : State) :
    ∃ t, finish { tb := true } s (rstState s) [] (cutRecord s) [] [] = .next t ∧ t.free = s.free + 1 ∧ WholeReset s t := by
  have htouch : Touches { regs := true } { s.afterReset with free := s.free + 1 } (rstState s) := State.setFlag_touches _ _ _ _
  have hreg := fun a (h : a ≠ Reg.logMirror) => rstState_reg s h
  have hsafe : (rstState s).fieldSafe = true := htouch.keeps State.fieldSafe
  generalize rstState s = u at htouch hreg hsafe ⊢
  refine ⟨_, rfl, htouch.keeps State.free, (congrArg Boot.rstLow (htouch.keeps State.boot) :),
    (congrArg Boot.phase (htouch.keeps State.boot) :), htouch.keeps State.tb, rfl, rfl, rfl, fun h => ?_, hsafe,
    fun ch => driven_of_fieldSafe hsafe ch, anyArmed_of_idle (htouch.keeps State.miles) (htouch.keeps State.stations),
    htouch.keeps State.dev, htouch.keeps State.bales, (congrArg Boot.hold (htouch.keeps State.boot) :), fun a h => ?_, fun a h hne => ?_⟩
  · rw [cutRecord_nil h]; rfl
  · exact (hreg a (fun he => by rw [he, logMirror_logReg] at h; cases h)).trans (by rw [h]; rfl)
  · exact (hreg a hne).trans (by rw [h]; rfl)

theorem exec_sysRstNLow (ns : Nat) (s : State) :
    exec (.sysRstNLow ns) s =
      if (decide (10000 ≤ ns) || (decide (1000 ≤ ns) && Config.freeBit s.free)) = true then
        finish { tb := true } s (rstState s) [] (cutRecord s) [] []
      else finish {} s { s.begin_ with free := s.free + 1 } [] [] [] [] := rfl

theorem sysRst_ignored (s : State) :
    ∃ t, finish {} s { s.begin_ with free := s.free + 1 } [] [] [] [] = .next t ∧ t.free = s.free + 1 ∧
      State.unchanged { s with free := s.free + 1 } t :=
  ⟨_, rfl, rfl, rfl⟩

theorem sysRstNLow_done (s : State) (ns : Nat) :
    ∃ t, exec (.sysRstNLow ns) s = .next t ∧ t.free = s.free + 1 ∧ (10000 ≤ ns → WholeReset s t) ∧
      (ns < 1000 → State.unchanged { s with free := s.free + 1 } t) ∧
      (WholeReset s t ∨ State.unchanged { s with free := s.free + 1 } t) := by
  rw [exec_sysRstNLow]
  split
  next hacts =>
    obtain ⟨t, ht, hfree, hwhole⟩ := sysRst_acts s
    refine ⟨t, ht, hfree, fun _ => hwhole, fun hns => ?_, .inl hwhole⟩
    simp only [Bool.or_eq_true, Bool.and_eq_true, decide_eq_true_eq] at hacts
    omega
  next hacts =>
    obtain ⟨t, ht, hfree, hsame⟩ := sysRst_ignored s
    refine ⟨t, ht, hfree, fun hns => ?_, fun _ => hsame, .inr hsame⟩
    simp [hns] at hacts

/-- The registers that the calendar's battery keeps (R998). -/
def vbatReg (a : Nat) : Bool := a == Reg.logCalLo || a == Reg.logCalHi || a == Reg.logCalCtrl

/-- Main power is lost. -/
def darkState (s : State) : State :=
  { s.afterReset with
    tap := 0
    scan := Scan.none
    regs := s.afterReset.regs.filter fun p => vbatReg p.1
    log := ⟨0, [], none, false, false, false, true⟩
    boot := State.reset.boot }

theorem darkState_reg (s : State) (a : Nat) :
    (darkState s).reg a = if vbatReg a then s.reg a else BitVec.ofNat 32 (regReset a) := by
  have hcal : vbatReg a = true → logReg a = true := by
    simp only [vbatReg, Bool.or_eq_true, beq_iff_eq]
    rintro ((rfl | rfl) | rfl) <;> decide
  refine (RegFile.get_filter vbatReg s.afterReset.regs a).trans ?_
  split
  next h => exact (afterReset_reg s a).trans (if_pos (hcal h))
  next => rfl

theorem exec_mainPowerLoss (s : State) :
    exec .mainPowerLoss s =
      if s.log.power then finish { tb := true } s (darkState s) [] (cutRecord s) [] [] else done s s.begin_ := rfl

theorem powerLoss_done (s : State) :
    ∃ t, finish { tb := true } s (darkState s) [] (cutRecord s) [] [] = .next t ∧
      t.log.power = false ∧ t.log.fresh = true ∧ t.otp = s.otp ∧ t.calendar = s.calendar ∧
      t.reg Reg.logCalCtrl = s.reg Reg.logCalCtrl ∧ (s.log.writing = [] → t.flash = s.flash) ∧
      (∀ a, a ≠ Reg.logCalLo → a ≠ Reg.logCalHi → a ≠ Reg.logCalCtrl → a ≠ Reg.logMirror → t.reg a = BitVec.ofNat 32 (regReset a)) ∧
      t.boot = State.reset.boot ∧ (∀ ch, t.driven ch = false) ∧ t.anyArmed = false := by
  have hreg := darkState_reg s
  have hlo : (darkState s).reg Reg.logCalLo = s.reg Reg.logCalLo := (hreg _).trans (if_pos (by decide))
  have hhi : (darkState s).reg Reg.logCalHi = s.reg Reg.logCalHi := (hreg _).trans (if_pos (by decide))
  have hcalendar : (darkState s).calendar = s.calendar := by rw [State.calendar, State.calendar, hlo, hhi]
  have hctrl : (darkState s).reg Reg.logCalCtrl = s.reg Reg.logCalCtrl := (hreg _).trans (if_pos (by decide))
  refine ⟨_, rfl, rfl, rfl, rfl, hcalendar, hctrl, fun h => ?_, fun a hlo hhi hctrl _ => ?_, rfl,
    fun ch => driven_of_fieldSafe rfl ch, anyArmed_of_idle rfl rfl⟩
  · rw [cutRecord_nil h]; rfl
  · exact (hreg a).trans (if_neg (by simp [vbatReg, hlo, hhi, hctrl]))

theorem exec_mainPowerReturn (s : State) :
    exec .mainPowerReturn s =
      if s.log.power then done s s.begin_
      else doneTb s { s.begin_ with tb := State.reset.tb, log := { s.log with power := true } } := rfl

theorem exec_vbatLow (s : State) :
    exec .vbatLow s = done s (if s.log.power then s.begin_ else { s.begin_ with log := { s.log with vbatLost := true } }) := rfl

/-- Settles O55: a reset is the record, the reset of the domains and the start of muster; the pin and main power leave what the
filter of their registers keeps. -/
theorem resetsAndPowerKeepWhatTheyMust : Obligations.ResetsAndPowerKeepWhatTheyMust := by
  refine ⟨fun s ini key harmed hkey hsized => ?_, fun s q harmed hsized hq hcmd hpayload hserved _ => ?_,
    fun s ini key h => resetCmd_nothing ini h, fun s ini key harmed hkey => resetCmd_dropped ini harmed hkey,
    fun s ns => sysRstNLow_done s ns, fun s => ?_, fun s => ?_, fun s => ?_⟩
  · obtain ⟨t, ht, h⟩ := reset_done ini harmed hkey
    obtain ⟨-, hhold, -, hcore⟩ := resetDevice_facts s.begin_
    have hreg := fun a (ha : a ∈ keptOverReset) => (h.reg a).trans (resetDevice_reg s.begin_ ha)
    refine ⟨t, ht, h.mustering, h.otp, h.tb, h.dram, h.sram, hreg _ (by simp [keptOverReset]), hreg _ (by simp [keptOverReset]),
      ?_, by rw [h.boot, hhold]; rfl, fun c => by rw [h.core, hcore]⟩
    rw [State.calendar, hreg _ (by simp [keptOverReset]), hreg Reg.logCalHi (by simp [keptOverReset])]
    rfl
  · obtain ⟨t, ht, hans, h⟩ := portReset_done harmed hsized hq hcmd hpayload hserved
    obtain ⟨-, hhold, -, -⟩ := resetDevice_facts s.begin_
    exact ⟨t, ht, h.mustering, hans, h.otp, h.tb, h.dram, h.sram,
      (h.reg _).trans (resetDevice_reg s.begin_ (by simp [keptOverReset])), by rw [h.boot, hhold]; rfl⟩
  · rw [exec_mainPowerLoss]
    cases hpower : s.log.power with
    | true =>
      obtain ⟨t, ht, h⟩ := powerLoss_done s
      exact ⟨t, ht, fun h => absurd h (by simp), fun _ => h⟩
    | false =>
      obtain ⟨t, ht, h⟩ := done_begin s
      exact ⟨t, ht, fun _ => h, fun h => absurd h (by simp)⟩
  · rw [exec_mainPowerReturn]
    cases hpower : s.log.power with
    | true =>
      obtain ⟨t, ht, h⟩ := done_begin s
      exact ⟨t, ht, fun _ => h, fun h => absurd h (by simp)⟩
    | false => exact ⟨_, rfl, fun h => absurd h (by simp), fun _ => rfl⟩
  · rw [exec_vbatLow]
    cases hpower : s.log.power with
    | true =>
      obtain ⟨t, ht, h⟩ := done_begin s
      exact ⟨t, ht, fun _ => h, fun h => absurd h (by simp)⟩
    | false => exact ⟨_, rfl, fun h => absurd h (by simp), fun _ => rfl⟩

end Sys2Proof.Machine

/-! PROOFS. O48: the logbook, its mirror and the calendar. -/

namespace Sys2Proof.Machine

-- One theorem after the other: many at once ask for too many threads.
set_option Elab.async false

/-! ## Numbers inside a string of bytes -/

theorem slice_append {pre mid post : List Byte} : slice (pre ++ (mid ++ post)) pre.length mid.length = mid := by
  simp [slice]

/-- A number stands at the place where its bytes were put. -/
theorem leAt_leBytes (pre post : List Byte) (n v o : Nat) (ho : o = pre.length) :
    leAt (pre ++ (leBytes n v ++ post)) o n = v % 256 ^ n := by
  have hslice := slice_append (pre := pre) (mid := leBytes n v) (post := post)
  rw [length_leBytes] at hslice
  rw [leAt, ho, hslice, leN_leBytes]

theorem length_flatMap_const {α : Type} (f : α → List Byte) {n : Nat} (hf : ∀ k, (f k).length = n) (l : List α) :
    (l.flatMap f).length = n * l.length := by
  induction l with
  | nil => rfl
  | cons a r ih => rw [List.flatMap_cons, List.length_append, ih, hf, List.length_cons, Nat.mul_succ, Nat.add_comm]

/-- A row of blocks of one size splits at each of them. -/
theorem flatMap_range_split (f : Nat → List Byte) {k m : Nat} (hk : k < m) :
    ∃ post, (List.range m).flatMap f = (List.range k).flatMap f ++ (f k ++ post) := by
  obtain ⟨d, rfl⟩ := Nat.exists_eq_add_of_lt hk
  refine ⟨((List.range d).map (k + 1 + ·)).flatMap f, ?_⟩
  rw [Nat.add_right_comm, List.range_add, List.flatMap_append, List.range_succ, List.flatMap_append]
  simp

/-! ## The record (R986) -/

/-- What stands before the calendar in a record. -/
def State.recordHead (s : State) (seq : Nat) : List Byte :=
  [0x48, 0x4C, 0x47, 0x42, 0x01, 0x00, 0x00, 0x00] ++ leBytes 4 seq ++ leBytes 4 0 ++ leBytes 8 s.otp.serial

/-- The counters between the calendar and the tiles' rows. -/
def State.recordCounters (s : State) : List Byte :=
  leBytes 4 (s.reg Reg.logPoh).toNat ++ leBytes 2 (s.reg Reg.logPohSec).toNat ++ leBytes 2 0 ++ leBytes 4 (s.reg Reg.logThermal).toNat ++
    leBytes 4 (s.reg Reg.logMflLoads).toNat ++ leBytes 2 (s.reg Reg.logDefects).toNat ++ leBytes 2 (s.reg Reg.logRemoteUsed).toNat ++
    leBytes 4 (s.reg Reg.logUnslotted).toNat ++ leBytes 8 0 ++
    (List.range 32).flatMap fun i => leBytes 4 (s.reg (Reg.logFioLo i)).toNat ++ leBytes 1 (s.reg (Reg.logFioHi i)).toNat ++ leBytes 3 0

/-- The tiles' counters. -/
def State.recordTiles (s : State) : List Byte := (List.range 72).flatMap fun k => leBytes 4 (s.reg (Reg.logTileEcc k)).toNat

/-- The remote slots, and what fills the record up. -/
def State.recordTail (s : State) : List Byte :=
  leBytes 160 0 ++
    ((List.range 256).flatMap fun i =>
      leBytes 8 (s.remSerial i) ++ leBytes 1 (s.fget (Reg.logRemHi i) 15 8) ++ leBytes 2 0 ++ leBytes 4 (s.reg (Reg.logRemLo i)).toNat ++
        leBytes 1 (s.reg (Reg.logRemHi i)).toNat) ++
    leBytes 3324 0

theorem logBody_eq (s : State) (seq : Nat) :
    s.logBody seq = s.recordHead seq ++ (leBytes 8 s.calendar ++ (s.recordCounters ++ (s.recordTiles ++ s.recordTail))) := by
  simp only [State.logBody, State.recordHead, State.recordCounters, State.recordTiles, State.recordTail, List.append_assoc]

theorem length_recordHead (s : State) (seq : Nat) : (s.recordHead seq).length = 0x18 := by
  simp [State.recordHead, length_leBytes]

theorem length_recordCounters (s : State) : s.recordCounters.length = 0x120 := by
  unfold State.recordCounters
  rw [List.length_append, length_flatMap_const _ (n := 8) (fun i => by simp [length_leBytes])]
  simp [length_leBytes]

theorem length_recordTiles (s : State) : s.recordTiles.length = 0x120 := by
  unfold State.recordTiles
  rw [length_flatMap_const _ (n := 4) (fun k => length_leBytes _ _), List.length_range]

theorem length_recordTail (s : State) : s.recordTail.length = 0x1D9C := by
  unfold State.recordTail
  rw [List.length_append, List.length_append, length_flatMap_const _ (n := 16) (fun i => by simp [length_leBytes]), length_leBytes,
    length_leBytes, List.length_range]

theorem length_logBody (s : State) (seq : Nat) : (s.logBody seq).length = 0x1FFC := by
  rw [logBody_eq]
  simp only [List.length_append, length_recordHead, length_leBytes, length_recordCounters, length_recordTiles, length_recordTail]

/-- What stands behind the calendar in a record. -/
def State.recordRest (s : State) (seq : Nat) : List Byte :=
  s.recordCounters ++ (s.recordTiles ++ (s.recordTail ++ leBytes 4 (Crypto.crc32c (s.logBody seq))))

theorem logImage_eq (s : State) (seq : Nat) :
    s.logImage seq = s.recordHead seq ++ (leBytes 8 s.calendar ++ s.recordRest seq) := by
  simp only [State.logImage, State.recordRest, logBody_eq, List.append_assoc]

theorem length_logImage (s : State) (seq : Nat) : (s.logImage seq).length = 8192 := by
  rw [State.logImage, List.length_append, length_logBody, length_leBytes]

theorem logImage_magic (s : State) (seq : Nat) : (s.logImage seq).take 4 = [0x48, 0x4C, 0x47, 0x42] := by
  rw [logImage_eq]; rfl

theorem logImage_seq (s : State) (seq : Nat) : leAt (s.logImage seq) 8 4 = seq % 2 ^ 32 := by
  have hat := leAt_leBytes [0x48, 0x4C, 0x47, 0x42, 0x01, 0x00, 0x00, 0x00]
    (leBytes 4 0 ++ (leBytes 8 s.otp.serial ++ (leBytes 8 s.calendar ++ s.recordRest seq))) 4 seq 8 rfl
  rw [logImage_eq, State.recordHead, show (2 : Nat) ^ 32 = 256 ^ 4 by norm_num]
  simpa only [List.append_assoc] using hat

theorem calendar_lt (s : State) : s.calendar < 2 ^ 64 := by
  have hlo := (s.reg Reg.logCalLo).isLt
  have hhi := (s.reg Reg.logCalHi).isLt
  unfold State.calendar
  omega

theorem logImage_calendar (s : State) (seq : Nat) : leAt (s.logImage seq) 0x18 8 = s.calendar := by
  rw [logImage_eq, leAt_leBytes _ _ 8 _ _ (length_recordHead s seq).symm]
  exact Nat.mod_eq_of_lt (calendar_lt s)

theorem logImage_poh (s : State) (seq : Nat) : leAt (s.logImage seq) 0x20 4 = (s.reg Reg.logPoh).toNat := by
  have hlen : (s.recordHead seq ++ leBytes 8 s.calendar).length = 0x20 := by
    rw [List.length_append, length_recordHead, length_leBytes]
  have himage : ∃ post, s.logImage seq =
      (s.recordHead seq ++ leBytes 8 s.calendar) ++ (leBytes 4 (s.reg Reg.logPoh).toNat ++ post) := by
    rw [logImage_eq, State.recordRest, State.recordCounters]
    exact ⟨_, by simp only [List.append_assoc]; rfl⟩
  obtain ⟨post, himage⟩ := himage
  rw [himage, leAt_leBytes _ _ 4 _ _ hlen.symm]
  exact Nat.mod_eq_of_lt (s.reg Reg.logPoh).isLt

theorem logImage_tile (s : State) (seq : Nat) {k : Nat} (hk : k < 72) :
    leAt (s.logImage seq) (0x140 + 4 * k) 4 = (s.reg (Reg.logTileEcc k)).toNat := by
  obtain ⟨post, hsplit⟩ := flatMap_range_split (fun k => leBytes 4 (s.reg (Reg.logTileEcc k)).toNat) hk
  have himage : s.logImage seq =
      (s.recordHead seq ++ leBytes 8 s.calendar ++ s.recordCounters ++
        (List.range k).flatMap fun k => leBytes 4 (s.reg (Reg.logTileEcc k)).toNat) ++
      (leBytes 4 (s.reg (Reg.logTileEcc k)).toNat ++ (post ++ (s.recordTail ++ leBytes 4 (Crypto.crc32c (s.logBody seq))))) := by
    rw [logImage_eq, State.recordRest, State.recordTiles, hsplit]
    simp only [List.append_assoc]
  rw [himage, leAt_leBytes _ _ 4 _ _ ?_]
  · exact Nat.mod_eq_of_lt (s.reg (Reg.logTileEcc k)).isLt
  · rw [List.length_append, List.length_append, List.length_append, length_recordHead, length_leBytes, length_recordCounters,
      length_flatMap_const _ (n := 4) (fun k => length_leBytes _ _), List.length_range]

theorem logImage_crc (s : State) (seq : Nat) :
    leAt (s.logImage seq) 0x1FFC 4 = Crypto.crc32c ((s.logImage seq).take 0x1FFC) := by
  have htake : (s.logImage seq).take 0x1FFC = s.logBody seq := List.take_left' (length_logBody s seq)
  have hat := leAt_leBytes (s.logBody seq) [] 4 (Crypto.crc32c (s.logBody seq)) 0x1FFC (length_logBody s seq).symm
  rw [htake, State.logImage]
  rw [List.append_nil] at hat
  exact hat.trans (Nat.mod_eq_of_lt (crc32c_lt _))

/-! ## Snapshots (R988) -/

/-- The record that a snapshot takes. -/
def State.nextRecord (s : State) : List Byte :=
  s.logImage (((s.reg Reg.logMirrorSeq).toNat + 1 + s.log.writing.length) % 2 ^ 32)

theorem snapshot_some {s : State} {base : Nat} (h : s.mirrorBase? = some base) :
    snapshot s = { s with log := { s.log with writing := s.log.writing ++ [s.nextRecord] } }.setFlag Reg.logMirror 30 true := by
  unfold snapshot
  rw [h]
  rfl

theorem snapshot_none {s : State} (h : s.mirrorBase? = none) : snapshot s = mirrorFail s := by
  unfold snapshot
  rw [h]

theorem not_eventReg_logMirror : ¬ eventReg Reg.logMirror := not_eventReg (.inr (by decide))

/-- A command that ends with the notes `l` in the logbook and registers of `A` changed. -/
theorem done_logged {A : List Nat} {s u : State} (l : Logbook) (h : RegsOnly (· ∈ A) { s.begin_ with log := l } u) :
    ∃ t, done s u = .next t ∧ t.regs = u.regs ∧ t.log = l ∧ State.onlyRegs A s { t with log := s.log } := by
  have hk := kept_of_regsOnly h
  obtain ⟨⟨f, q, rfl⟩, h2⟩ := h
  exact ⟨_, rfl, rfl, rfl, rfl, hk⟩

theorem snapshot_done {s : State} {base : Nat} (h : s.mirrorBase? = some base) :
    ∃ t, done s (snapshot s.begin_) = .next t ∧ t.log = { s.log with writing := s.log.writing ++ [s.nextRecord] } ∧
      t.flag Reg.logMirror 30 = true ∧ State.onlyRegs [Reg.logMirror] s { t with log := s.log } := by
  rw [snapshot_some (s := s.begin_) h]
  obtain ⟨t, hdone, hregs, hlog, honly⟩ := done_logged (A := [Reg.logMirror]) (s := s)
    { s.log with writing := s.log.writing ++ [s.nextRecord] } ((RegsOnly.refl _ _).setFlag (a := Reg.logMirror) 30 true (by simp))
  exact ⟨t, hdone, hlog, (flag_congr hregs _ _).trans (State.flag_setFlag _ _ _ (by omega)), honly⟩

theorem mirrorFail_done (s : State) :
    ∃ t, done s (mirrorFail s.begin_) = .next t ∧ t.flag Reg.logMirror 29 = true ∧ t.pendingEvent 471 = true ∧
      State.onlyRegs [Reg.logMirror] s t := by
  obtain ⟨t, hdone, hregs, -, honly⟩ := done_onlyRegs (A := [Reg.logMirror]) (s := s) (u := mirrorFail s.begin_)
    (((RegsOnly.refl _ _).setFlag 29 true (by simp)).raise 471 (by omega))
  refine ⟨t, hdone, ?_, ?_, honly⟩
  · refine (flag_congr hregs _ _).trans (((raise_eventOnly 471 _ (by omega)).flag not_eventReg_logMirror _).trans
      (State.flag_setFlag _ _ _ (by omega)))
  · exact (flag_congr hregs _ _).trans (pendingEvent_raise_self 471 _ (by omega))

theorem exec_snapshot {s : State} {c : Instr} (hc : (∃ ini, c = .sync ini) ∨ c = .mirrorInterval) :
    exec c s = done s (snapshot s.begin_) := by
  rcases hc with ⟨ini, rfl⟩ | rfl <;> rfl

/-! ## The writes of the mirror (R987, R991) -/

theorem State.withLog_setReg_setFlag (s : State) (l : Logbook) (a b i : Nat) (w : Word) (v : Bool) :
    ({ (s.setReg a w).setFlag b i v with log := l } : State) = (({ s with log := l } : State).setReg a w).setFlag b i v := rfl

/-- The record written to the slot behind the last, and the flag of what still waits. -/
theorem mirrorWritten_cons {s : State} {base : Nat} {r : List Byte} {rest : List (List Byte)} (hbase : s.mirrorBase? = some base)
    (hwriting : s.log.writing = r :: rest) :
    mirrorWritten s =
      ((({ s with log := { s.log with slot := (s.log.slot + 1) % 32, writing := rest } } : State).setReg Reg.logMirrorSeq
          (BitVec.ofNat 32 (leAt r 8 4))).setFlag Reg.logMirror 30 (!rest.isEmpty),
        [(base + (s.log.slot + 1) % 32 * 8192, r)]) := by
  unfold mirrorWritten
  rw [hbase, hwriting, ← State.withLog_setReg_setFlag]
  rfl

theorem mirrorMissed_cons {s : State} {base : Nat} {r : List Byte} {rest : List (List Byte)} (hbase : s.mirrorBase? = some base)
    (hwriting : s.log.writing = r :: rest) :
    mirrorMissed s =
      (mirrorFail { s with log := { s.log with slot := (s.log.slot + 1) % 32 } },
        [(base + (s.log.slot + 1) % 32 * 8192, List.replicate 8192 0xFF)]) := by
  unfold mirrorMissed
  rw [hbase, hwriting]

theorem mirror_nothing {s : State} (h : s.mirrorBase? = none ∨ s.log.writing = []) :
    mirrorWritten s = (s, []) ∧ mirrorMissed s = (s, []) := by
  unfold mirrorWritten mirrorMissed
  rcases h with h | h <;> rw [h] <;> constructor <;> cases s.mirrorBase? <;> rfl

theorem exec_mirrorWriteEnd (ok : Bool) (s : State) :
    exec (.mirrorWriteEnd ok) s =
      doneFlash s (if ok then mirrorWritten s.begin_ else mirrorMissed s.begin_).1
        (if ok then mirrorWritten s.begin_ else mirrorMissed s.begin_).2 := rfl

/-- A command that ends with the notes `l` and the bytes `bs` written to flash at `at_`. -/
theorem doneFlash_logged {A : List Nat} {s u : State} (l : Logbook) (at_ : Nat) (bs : List Byte) (hmem : s.memOk = true)
    (h : RegsOnly (· ∈ A) { s.begin_ with log := l } u) :
    ∃ t, doneFlash s u [(at_, bs)] = .next t ∧ t.regs = u.regs ∧ t.log = l ∧
      (∀ a, t.flashByteAt a = if at_ ≤ a ∧ a < at_ + bs.length then bs.getD (a - at_) 0 else s.flashByteAt a) ∧
      State.onlyRegs A s { t with log := s.log, flash := s.flash } := by
  have hwf : Memory.wf flashByte s.flash = true := by
    simp only [State.memOk, Bool.and_eq_true] at hmem
    exact hmem.1.2
  have hk := kept_of_regsOnly h
  obtain ⟨⟨f, q, rfl⟩, h2⟩ := h
  exact ⟨_, rfl, rfl, rfl, fun a => Memory.read_writes flashByte s.flash at_ a bs hwf, rfl, hk⟩

theorem leN_lt (bs : List Byte) : leN bs < 256 ^ bs.length := by
  induction bs with
  | nil => simp [leN]
  | cons b r ih =>
    have hb := b.isLt
    rw [leN, List.length_cons, pow_succ]
    omega

theorem length_slice (bs : List Byte) (o n : Nat) : (slice bs o n).length = n := by
  simp [slice]

theorem leAt_lt (bs : List Byte) (o n : Nat) : leAt bs o n < 256 ^ n :=
  (leN_lt _).trans_eq (by rw [length_slice])

theorem mirrorWriteEnd_passes {s : State} {base : Nat} {r : List Byte} {rest : List (List Byte)} (hbase : s.mirrorBase? = some base)
    (hwriting : s.log.writing = r :: rest) (hmem : s.memOk = true) :
    let at_ := base + (s.log.slot + 1) % 32 * 8192
    ∃ t, exec (.mirrorWriteEnd true) s = .next t ∧ t.log = { s.log with slot := (s.log.slot + 1) % 32, writing := rest } ∧
      (∀ a, t.flashByteAt a = if at_ ≤ a ∧ a < at_ + r.length then r.getD (a - at_) 0 else s.flashByteAt a) ∧
      (t.reg Reg.logMirrorSeq).toNat = leAt r 8 4 ∧ t.flag Reg.logMirror 30 = !rest.isEmpty ∧
      State.onlyRegs [Reg.logMirror, Reg.logMirrorSeq] s { t with log := s.log, flash := s.flash } := by
  intro at_
  obtain ⟨t, hdone, hregs, hlog, hflash, honly⟩ := doneFlash_logged (A := [Reg.logMirror, Reg.logMirrorSeq]) (s := s)
    (u := ({ s.begin_ with log := { s.log with slot := (s.log.slot + 1) % 32, writing := rest } } : State).setReg Reg.logMirrorSeq
      (BitVec.ofNat 32 (leAt r 8 4)) |>.setFlag Reg.logMirror 30 (!rest.isEmpty))
    { s.log with slot := (s.log.slot + 1) % 32, writing := rest } at_ r hmem
    (((RegsOnly.refl _ _).setReg _ (by simp)).setFlag 30 _ (by simp))
  refine ⟨t, ?_, hlog, hflash, ?_, (flag_congr hregs _ _).trans (State.flag_setFlag _ _ _ (by omega)), honly⟩
  · rw [exec_mirrorWriteEnd, if_pos rfl, mirrorWritten_cons (s := s.begin_) hbase hwriting]
    exact hdone
  · rw [reg_congr hregs, State.reg_setFlag_ne _ _ _ (by decide), State.reg_setReg, BitVec.toNat_ofNat]
    exact Nat.mod_eq_of_lt (leAt_lt r 8 4)

theorem mirrorWriteEnd_fails {s : State} {base : Nat} {r : List Byte} {rest : List (List Byte)} (hbase : s.mirrorBase? = some base)
    (hwriting : s.log.writing = r :: rest) (hmem : s.memOk = true) :
    let at_ := base + (s.log.slot + 1) % 32 * 8192
    ∃ t, exec (.mirrorWriteEnd false) s = .next t ∧ t.log = { s.log with slot := (s.log.slot + 1) % 32 } ∧
      (∀ a, t.flashByteAt a = if at_ ≤ a ∧ a < at_ + 8192 then 0xFF else s.flashByteAt a) ∧
      t.flag Reg.logMirror 29 = true ∧ t.pendingEvent 471 = true ∧
      State.onlyRegs [Reg.logMirror] s { t with log := s.log, flash := s.flash } := by
  intro at_
  obtain ⟨t, hdone, hregs, hlog, hflash, honly⟩ := doneFlash_logged (A := [Reg.logMirror]) (s := s)
    (u := mirrorFail { s.begin_ with log := { s.log with slot := (s.log.slot + 1) % 32 } })
    { s.log with slot := (s.log.slot + 1) % 32 } at_ (List.replicate 8192 0xFF) hmem
    (((RegsOnly.refl _ _).setFlag 29 true (by simp)).raise 471 (by omega))
  refine ⟨t, ?_, hlog, fun a => ?_, ?_, ?_, honly⟩
  · rw [exec_mirrorWriteEnd, if_neg (by simp), mirrorMissed_cons (s := s.begin_) hbase hwriting]
    exact hdone
  · rw [hflash a, List.length_replicate]
    split
    next h => rw [List.getD_eq_getElem _ _ (by rw [List.length_replicate]; omega), List.getElem_replicate]
    next => rfl
  · refine (flag_congr hregs _ _).trans (((raise_eventOnly 471 _ (by omega)).flag not_eventReg_logMirror _).trans
      (State.flag_setFlag _ _ _ (by omega)))
  · exact (flag_congr hregs _ _).trans (pendingEvent_raise_self 471 _ (by omega))

/-! ## The tile windows -/

/-- The windows of one tile are cleared. -/
def clearWindow (k : Nat) (s : State) : State :=
  ((s.fset (Reg.tileEccWin k) 15 0 0).fset (Reg.tileResWin k) 7 0 0).fset (Reg.tileRtrWin k) 7 0 0

/-- The windows of a tile read 0. -/
def State.windowClear (s : State) (k : Nat) : Prop :=
  s.fget (Reg.tileEccWin k) 15 0 = 0 ∧ s.fget (Reg.tileResWin k) 7 0 = 0 ∧ s.fget (Reg.tileRtrWin k) 7 0 = 0

/-- The registers of the windows. -/
def windowRegs : List Nat := (List.range 72).flatMap fun k => [Reg.tileEccWin k, Reg.tileResWin k, Reg.tileRtrWin k]

theorem mem_windowRegs {k : Nat} (hk : k < 72) :
    Reg.tileEccWin k ∈ windowRegs ∧ Reg.tileResWin k ∈ windowRegs ∧ Reg.tileRtrWin k ∈ windowRegs := by
  have hmem : ∀ a ∈ [Reg.tileEccWin k, Reg.tileResWin k, Reg.tileRtrWin k], a ∈ windowRegs := fun a ha =>
    List.mem_flatMap.2 ⟨k, List.mem_range.2 hk, ha⟩
  exact ⟨hmem _ (by simp), hmem _ (by simp), hmem _ (by simp)⟩

theorem clearWindow_same (k : Nat) (s : State) : (clearWindow k s).windowClear k := by
  have hres : Reg.tileEccWin k ≠ Reg.tileResWin k := by unfold Reg.tileEccWin Reg.tileResWin; omega
  have hrtr : Reg.tileEccWin k ≠ Reg.tileRtrWin k := by unfold Reg.tileEccWin Reg.tileRtrWin; omega
  have hrr : Reg.tileResWin k ≠ Reg.tileRtrWin k := by unfold Reg.tileResWin Reg.tileRtrWin; omega
  unfold State.windowClear clearWindow
  refine ⟨?_, ?_, ?_⟩
  · rw [State.fget_fset_ne _ _ (by omega) (by omega) (by omega) (.inl hrtr), State.fget_fset_ne _ _ (by omega) (by omega) (by omega)
      (.inl hres), State.fget_fset _ _ _ (by omega) (by omega)]
    rfl
  · rw [State.fget_fset_ne _ _ (by omega) (by omega) (by omega) (.inl hrr), State.fget_fset _ _ _ (by omega) (by omega)]
    rfl
  · rw [State.fget_fset _ _ _ (by omega) (by omega)]
    rfl

theorem clearWindow_other {j k : Nat} (s : State) (h : s.windowClear k) (hjk : k ≠ j) : (clearWindow j s).windowClear k := by
  obtain ⟨hecc, hres, hrtr⟩ := h
  unfold State.windowClear clearWindow
  have hstay : ∀ (b hi : Nat), b ≠ Reg.tileEccWin j → b ≠ Reg.tileResWin j → b ≠ Reg.tileRtrWin j →
      (((s.fset (Reg.tileEccWin j) 15 0 0).fset (Reg.tileResWin j) 7 0 0).fset (Reg.tileRtrWin j) 7 0 0).fget b hi 0 = s.fget b hi 0 := by
    intro b hi h1 h2 h3
    rw [State.fget_fset_ne _ _ (by omega) (by omega) (by omega) (.inl h3), State.fget_fset_ne _ _ (by omega) (by omega) (by omega)
      (.inl h2), State.fget_fset_ne _ _ (by omega) (by omega) (by omega) (.inl h1)]
  refine ⟨(hstay _ _ ?_ ?_ ?_).trans hecc, (hstay _ _ ?_ ?_ ?_).trans hres, (hstay _ _ ?_ ?_ ?_).trans hrtr⟩ <;>
    simp only [Reg.tileEccWin, Reg.tileResWin, Reg.tileRtrWin] <;> omega

theorem clearWindows_clear {k : Nat} (s : State) (hk : k < 72) : (clearWindows s).windowClear k := by
  suffices hfold : ∀ n, k < n → ((List.range n).foldl (fun s k => clearWindow k s) s).windowClear k from hfold 72 hk
  intro n
  induction n with
  | zero => intro h; omega
  | succ n ih =>
    intro h
    rw [List.range_succ, List.foldl_append, List.foldl_cons, List.foldl_nil]
    rcases Nat.lt_succ_iff_lt_or_eq.1 h with hlt | rfl
    · exact clearWindow_other _ (ih hlt) (by omega)
    · exact clearWindow_same _ _

theorem clearWindows_regsOnly (s : State) : RegsOnly (· ∈ windowRegs) s (clearWindows s) := by
  suffices hfold : ∀ l : List Nat, (∀ k ∈ l, k < 72) → ∀ u, RegsOnly (· ∈ windowRegs) s u →
      RegsOnly (· ∈ windowRegs) s (l.foldl (fun s k => clearWindow k s) u) from
    hfold (List.range 72) (fun k hk => List.mem_range.1 hk) s (RegsOnly.refl _ s)
  intro l
  induction l with
  | nil => exact fun _ u hu => hu
  | cons k r ih =>
    intro hl u hu
    obtain ⟨hecc, hres, hrtr⟩ := mem_windowRegs (hl k (by simp))
    exact ih (fun j hj => hl j (by simp [hj])) _ (((hu.fset _ _ _ hecc).fset _ _ _ hres).fset _ _ _ hrtr)

/-! ## A second of the calendar (R992 to R994) -/

theorem calendar_setCalendar (v : Nat) (s : State) : (setCalendar v s).calendar = v % 2 ^ 64 := by
  unfold State.calendar setCalendar
  rw [State.reg_setN_ne _ _ (by decide), State.reg_setN, State.reg_setN, BitVec.toNat_ofNat, BitVec.toNat_ofNat]
  omega

/-- The registers of the calendar. -/
def calendarRegs : List Nat := [Reg.logCalLo, Reg.logCalHi, Reg.logCalCtrl]

/-- The value that waits to be set. -/
def State.calSetValue (s : State) : Nat := (s.reg Reg.logCalSetLo).toNat + (s.reg Reg.logCalSetHi).toNat * 2 ^ 32

theorem calSetValue_lt (s : State) : s.calSetValue < 2 ^ 64 := by
  have hlo := (s.reg Reg.logCalSetLo).isLt
  have hhi := (s.reg Reg.logCalSetHi).isLt
  unfold State.calSetValue
  omega

/-- The calendar after a second. -/
def stepCalendar (s : State) : State :=
  if s.log.setPend then
    { (setCalendar s.calSetValue s).setFlag Reg.logCalCtrl 8 true with log := { s.log with setPend := false } }
  else setCalendar (s.calendar + 1) s

/-- With main power the second counts, and a new hour clears the windows; `old` is the calendar before it. -/
def countSecond (old : Nat) (s : State) : State :=
  let t := s.fset Reg.logPohSec 11 0 (min 3599 (s.fget Reg.logPohSec 11 0 + 1))
  if t.calendar / 3600 != old / 3600 then clearWindows t else t

theorem State.withLog_setCalendar_setFlag (s : State) (l : Logbook) (v a i : Nat) (b : Bool) :
    ({ (setCalendar v s).setFlag a i b with log := l } : State) = (setCalendar v { s with log := l }).setFlag a i b := rfl

theorem stepCalendar_set {s : State} (h : s.log.setPend = true) :
    stepCalendar s = (setCalendar s.calSetValue { s with log := { s.log with setPend := false } }).setFlag Reg.logCalCtrl 8 true :=
  (if_pos h).trans (State.withLog_setCalendar_setFlag _ _ _ _ _ _)

theorem exec_calendarSecond (s : State) :
    exec .calendarSecond s =
      done s (if s.begin_.log.vbatLost && !s.begin_.log.power then s.begin_
        else if (stepCalendar s.begin_).log.power then countSecond s.begin_.calendar (stepCalendar s.begin_) else stepCalendar s.begin_) := rfl

/-- The registers that a second may change. -/
def secondRegs : List Nat := [Reg.logCalLo, Reg.logCalHi, Reg.logCalCtrl, Reg.logPohSec] ++ windowRegs

theorem secondRegs_high : ∀ a ∈ secondRegs, 0x2000002000 ≤ a := by
  intro a ha
  rcases List.mem_append.1 ha with ha | ha
  · exact (by decide : ∀ x ∈ [Reg.logCalLo, Reg.logCalHi, Reg.logCalCtrl, Reg.logPohSec], 0x2000002000 ≤ x) a ha
  · obtain ⟨k, -, hk⟩ := List.mem_flatMap.1 ha
    simp only [List.mem_cons, List.not_mem_nil, or_false, Reg.tileEccWin, Reg.tileResWin, Reg.tileRtrWin] at hk
    omega

theorem windowRegs_high : ∀ a ∈ windowRegs, 0x2001000000 ≤ a := by
  intro a ha
  obtain ⟨k, -, hk⟩ := List.mem_flatMap.1 ha
  simp only [List.mem_cons, List.not_mem_nil, or_false, Reg.tileEccWin, Reg.tileResWin, Reg.tileRtrWin] at hk
  omega

theorem clearWindows_reg (s : State) {a : Nat} (hlow : 0x2000002000 ≤ a) (ha : a < 0x2001000000) : (clearWindows s).reg a = s.reg a :=
  (clearWindows_regsOnly s).2 a (fun hmem => by have := windowRegs_high a hmem; omega) (not_eventReg (.inr hlow))

/-- The fields of a tile's windows. -/
def State.windows (s : State) (k : Nat) : Nat × Nat × Nat :=
  (s.fget (Reg.tileEccWin k) 15 0, s.fget (Reg.tileResWin k) 7 0, s.fget (Reg.tileRtrWin k) 7 0)

theorem windows_congr {s t : State} {k : Nat} (h : ∀ a, 0x2001000000 ≤ a → t.reg a = s.reg a) : t.windows k = s.windows k := by
  unfold State.windows State.fget
  rw [h _ (by unfold Reg.tileEccWin; omega), h _ (by unfold Reg.tileResWin; omega), h _ (by unfold Reg.tileRtrWin; omega)]

theorem windows_of_clear {s : State} {k : Nat} (h : s.windowClear k) : s.windows k = (0, 0, 0) := by
  obtain ⟨hecc, hres, hrtr⟩ := h
  unfold State.windows
  rw [hecc, hres, hrtr]

/-- The second before the windows are looked at. -/
def countPohSec (s : State) : State := s.fset Reg.logPohSec 11 0 (min 3599 (s.fget Reg.logPohSec 11 0 + 1))

theorem countPohSec_calendar (s : State) : (countPohSec s).calendar = s.calendar := by
  unfold State.calendar countPohSec
  rw [State.reg_fset_ne _ _ _ _ (by decide), State.reg_fset_ne _ _ _ _ (by decide)]

theorem countSecond_eq (old : Nat) (s : State) :
    countSecond old s = if s.calendar / 3600 ≠ old / 3600 then clearWindows (countPohSec s) else countPohSec s := by
  rw [← countPohSec_calendar s]
  unfold countSecond
  simp only [bne_iff_ne]
  rfl

/-- What a second with main power does. -/
structure SecondCounted (old : Nat) (s t : State) : Prop where
  only : RegsOnly (· ∈ secondRegs) s t
  calendar : t.calendar = s.calendar
  ctrl : t.reg Reg.logCalCtrl = s.reg Reg.logCalCtrl
  sec : t.fget Reg.logPohSec 11 0 = min 3599 (s.fget Reg.logPohSec 11 0 + 1)
  windows : ∀ k < 72, t.windows k = if s.calendar / 3600 ≠ old / 3600 then (0, 0, 0) else s.windows k

theorem countPohSec_counted (s : State) :
    RegsOnly (· ∈ secondRegs) s (countPohSec s) ∧ (countPohSec s).reg Reg.logCalCtrl = s.reg Reg.logCalCtrl ∧
      (countPohSec s).fget Reg.logPohSec 11 0 = min 3599 (s.fget Reg.logPohSec 11 0 + 1) ∧
      ∀ k, (countPohSec s).windows k = s.windows k := by
  refine ⟨(RegsOnly.refl _ s).fset _ _ _ (by simp [secondRegs]), State.reg_fset_ne _ _ _ _ (by decide), ?_, fun k => ?_⟩
  · rw [countPohSec, State.fget_fset _ _ _ (by omega) (by omega)]
    exact Nat.mod_eq_of_lt (by omega)
  · refine windows_congr fun a ha => State.reg_fset_ne _ _ _ _ ?_
    rintro rfl
    exact absurd ha (by decide)

theorem countSecond_counted (old : Nat) (s : State) : SecondCounted old s (countSecond old s) := by
  obtain ⟨honly, hctrl, hsec, hwindows⟩ := countPohSec_counted s
  have hcal := countPohSec_calendar s
  rw [countSecond_eq]
  generalize countPohSec s = u at honly hctrl hsec hwindows hcal
  split
  next hnew =>
    have hreg := fun a => clearWindows_reg u (a := a)
    refine ⟨honly.trans ((clearWindows_regsOnly u).mono fun a ha => List.mem_append_right _ ha), ?_, ?_, ?_, fun k hk => ?_⟩
    · rw [← hcal, State.calendar, State.calendar, hreg _ (by decide) (by decide), hreg _ (by decide) (by decide)]
    · rw [hreg _ (by decide) (by decide), hctrl]
    · rw [State.fget, hreg _ (by decide) (by decide), ← hsec, State.fget]
    · rw [if_pos hnew, windows_of_clear (clearWindows_clear u hk)]
  next hsame => exact ⟨honly, hcal, hctrl, hsec, fun k _ => by rw [if_neg hsame, hwindows]⟩

/-- What the calendar's step leaves: the notes `l`, and the calendar `v`. -/
structure Stepped (l : Logbook) (v : Nat) (s t : State) : Prop where
  only : RegsOnly (· ∈ calendarRegs) { s with log := l } t
  calendar : t.calendar = v

theorem stepCalendar_set_stepped {s : State} (h : s.log.setPend = true) :
    Stepped { s.log with setPend := false } s.calSetValue s (stepCalendar s) ∧ (stepCalendar s).flag Reg.logCalCtrl 8 = true := by
  rw [stepCalendar_set h]
  refine ⟨⟨?_, ?_⟩, State.flag_setFlag _ _ _ (by omega)⟩
  · exact (((RegsOnly.refl _ _).setN _ (by simp [calendarRegs])).setN _ (by simp [calendarRegs])).setFlag _ _ (by simp [calendarRegs])
  · have hcal := calendar_setCalendar s.calSetValue { s with log := { s.log with setPend := false } }
    rw [State.calendar] at hcal ⊢
    rw [State.reg_setFlag_ne _ _ _ (by decide), State.reg_setFlag_ne _ _ _ (by decide), hcal]
    exact Nat.mod_eq_of_lt (calSetValue_lt s)

theorem stepCalendar_count_stepped {s : State} (h : s.log.setPend = false) :
    Stepped s.log ((s.calendar + 1) % 2 ^ 64) s (stepCalendar s) ∧ (stepCalendar s).reg Reg.logCalCtrl = s.reg Reg.logCalCtrl := by
  have hstep : stepCalendar s = setCalendar (s.calendar + 1) s := if_neg (by rw [h]; simp)
  rw [hstep]
  refine ⟨⟨?_, calendar_setCalendar _ _⟩, ?_⟩
  · exact ((RegsOnly.refl _ s).setN _ (by simp [calendarRegs])).setN _ (by simp [calendarRegs])
  · exact (State.reg_setN_ne _ _ (by decide)).trans (State.reg_setN_ne _ _ (by decide))

theorem windows_of_calendarRegs {s t : State} (h : RegsOnly (· ∈ calendarRegs) s t) (k : Nat) : t.windows k = s.windows k :=
  windows_congr fun a ha => h.2 a
    (fun hmem => by have := (by decide : ∀ x ∈ calendarRegs, x < 0x2001000000) a hmem; omega) (not_eventReg (.inr (by omega)))

theorem pohSec_of_calendarRegs {s t : State} (h : RegsOnly (· ∈ calendarRegs) s t) : t.reg Reg.logPohSec = s.reg Reg.logPohSec :=
  h.2 _ (by decide) (not_eventReg (.inr (by decide)))

/-- What a second leaves beside the notes in the logbook: `l` and `v` are the notes and the calendar after it. -/
structure SecondPassed (l : Logbook) (v : Nat) (ctrl : Word) (s t : State) : Prop where
  log : t.log = l
  calendar : t.calendar = v
  ctrl : t.reg Reg.logCalCtrl = ctrl
  sec : s.log.power = true → t.fget Reg.logPohSec 11 0 = min 3599 (s.fget Reg.logPohSec 11 0 + 1)
  noSec : s.log.power = false → t.reg Reg.logPohSec = s.reg Reg.logPohSec
  windows : ∀ k < 72, t.windows k = if t.calendar / 3600 ≠ s.calendar / 3600 ∧ s.log.power = true then (0, 0, 0) else s.windows k
  only : State.onlyRegs secondRegs s { t with log := s.log }

theorem calendar_begin (s : State) : s.begin_.calendar = s.calendar := rfl

theorem stepped_passes {s u : State} {l : Logbook} {v : Nat} (h : Stepped l v s.begin_ u) (hpower : l.power = s.log.power) :
    ∃ t, done s (if u.log.power then countSecond s.begin_.calendar u else u) = .next t ∧
      SecondPassed l v (u.reg Reg.logCalCtrl) s t := by
  obtain ⟨honly, hcal⟩ := h
  have hlog : u.log = l := by
    obtain ⟨⟨f, q, rfl⟩, -⟩ := honly
    rfl
  have hwindows : ∀ k, u.windows k = s.windows k := fun k =>
    (windows_of_calendarRegs honly k).trans (windows_congr fun a _ => reg_congr rfl a)
  have hsec : u.reg Reg.logPohSec = s.reg Reg.logPohSec := (pohSec_of_calendarRegs honly).trans (reg_congr rfl _)
  have hmono := honly.mono (B := (· ∈ secondRegs)) fun b hb => by
    simp only [calendarRegs, List.mem_cons, List.not_mem_nil, or_false] at hb
    rcases hb with rfl | rfl | rfl <;> simp [secondRegs]
  rw [hlog, hpower, calendar_begin]
  cases hp : s.log.power with
  | true =>
    rw [if_pos rfl]
    obtain ⟨hcounted, hcal', hctrl, hsec', hwin⟩ := countSecond_counted s.calendar u
    obtain ⟨t, hdone, hregs, htlog, hlast⟩ := done_logged l (hmono.trans hcounted)
    have htcal : t.calendar = u.calendar := by
      rw [← hcal', State.calendar, State.calendar, reg_congr hregs, reg_congr hregs]
    refine ⟨t, hdone, htlog, htcal.trans hcal, (reg_congr hregs _).trans hctrl, fun _ => ?_, fun h => absurd (hp.symm.trans h) (by simp),
      fun k hk => ?_, hlast⟩
    · rw [fget_congr hregs, hsec', State.fget, hsec, State.fget]
    · rw [windows_congr (fun a _ => reg_congr hregs a), hwin k hk, hwindows, htcal, hp]
      simp only [and_true]
  | false =>
    rw [if_neg (by simp)]
    obtain ⟨t, hdone, hregs, htlog, hlast⟩ := done_logged l hmono
    have htcal : t.calendar = u.calendar := by
      rw [State.calendar, State.calendar, reg_congr hregs, reg_congr hregs]
    refine ⟨t, hdone, htlog, htcal.trans hcal, reg_congr hregs _, fun h => absurd (hp.symm.trans h) (by simp),
      fun _ => (reg_congr hregs _).trans hsec, fun k hk => ?_, hlast⟩
    rw [windows_congr (fun a _ => reg_congr hregs a), hwindows, hp, if_neg (by simp)]

/-! ## Hours and temperature (R981, R982) -/

theorem logFull_reg (cls : Nat) (s : State) {a : Nat} (h : a ≠ Reg.logOvf) (he : ¬ eventReg a) : (logFull cls s).reg a = s.reg a :=
  ((RegsOnly.refl _ s).logFull (A := (· = Reg.logOvf)) cls rfl).2 a h he

theorem not_eventReg_logOvf : ¬ eventReg Reg.logOvf := not_eventReg (.inr (by decide))

theorem logFull_flag {cls : Nat} (s : State) (hcls : cls < 32) :
    (logFull cls s).flag Reg.logOvf cls = true ∧ (s.flag Reg.logOvf cls = false → (logFull cls s).pendingEvent 469 = true) := by
  unfold logFull
  split
  next h => exact ⟨h, fun hn => absurd h (by rw [hn]; simp)⟩
  next h =>
    exact ⟨((raise_eventOnly 469 _ (by omega)).flag not_eventReg_logOvf _).trans (State.flag_setFlag _ _ _ hcls),
      fun _ => pendingEvent_raise_self 469 _ (by omega)⟩

/-- A counter of 32 bits: one more, up to its maximum, which the class bit shows. -/
theorem logBump32_counts {a cls : Nat} (s : State) (hcls : cls < 32) (ha : a ≠ Reg.logOvf) (he : ¬ eventReg a) :
    ((logBump 32 a cls s).reg a).toNat = min (2 ^ 32 - 1) ((s.reg a).toNat + 1) ∧
      (((logBump 32 a cls s).reg a).toNat = 2 ^ 32 - 1 → (logBump 32 a cls s).flag Reg.logOvf cls = true ∧
        (s.flag Reg.logOvf cls = false → (logBump 32 a cls s).pendingEvent 469 = true)) := by
  have hlt := (s.reg a).isLt
  have hmod : (s.reg a).toNat % 2 ^ 32 = (s.reg a).toNat := Nat.mod_eq_of_lt hlt
  have hset : ((s.setN a ((s.reg a).toNat + 1)).reg a).toNat = ((s.reg a).toNat + 1) % 2 ^ 32 := by
    rw [State.reg_setN, BitVec.toNat_ofNat]
  have hflag : (s.setN a ((s.reg a).toNat + 1)).flag Reg.logOvf cls = s.flag Reg.logOvf cls := by
    rw [State.flag, State.reg_setN_ne _ _ (Ne.symm ha), State.flag]
  simp only [logBump, hmod, beq_iff_eq]
  split
  next htop =>
    rw [logFull_reg _ _ ha he]
    exact ⟨by omega, fun _ => logFull_flag s hcls⟩
  next htop =>
    split
    next hnext =>
      rw [logFull_reg _ _ ha he, hset]
      exact ⟨by omega, fun _ => hflag ▸ logFull_flag _ hcls⟩
    next hnext =>
      rw [hset]
      exact ⟨by omega, fun h => absurd h (by omega)⟩

theorem exec_powerOnHour (s : State) :
    exec .powerOnHour s = done s (logBump 32 Reg.logPoh 0 (s.begin_.fset Reg.logPohSec 11 0 0)) := rfl

theorem powerOnHour_done (s : State) : ∃ t, exec .powerOnHour s = .next t ∧
    (t.reg Reg.logPoh).toNat = min (2 ^ 32 - 1) ((s.reg Reg.logPoh).toNat + 1) ∧ t.fget Reg.logPohSec 11 0 = 0 ∧
    ((t.reg Reg.logPoh).toNat = 2 ^ 32 - 1 → t.flag Reg.logOvf 0 = true ∧ (s.flag Reg.logOvf 0 = false → t.pendingEvent 469 = true)) ∧
    State.onlyRegs [Reg.logPoh, Reg.logPohSec, Reg.logOvf] s t := by
  have hpoh : (s.begin_.fset Reg.logPohSec 11 0 0).reg Reg.logPoh = s.reg Reg.logPoh := State.reg_fset_ne _ _ _ _ (by decide)
  have hovf : (s.begin_.fset Reg.logPohSec 11 0 0).flag Reg.logOvf 0 = s.flag Reg.logOvf 0 :=
    State.flag_fset_ne _ _ (by omega) (by omega) (.inl (by decide))
  have hsec : (s.begin_.fset Reg.logPohSec 11 0 0).fget Reg.logPohSec 11 0 = 0 :=
    State.fget_fset _ _ _ (by omega) (by omega)
  have hset : RegsOnly (· ∈ [Reg.logPoh, Reg.logPohSec, Reg.logOvf]) s.begin_ (s.begin_.fset Reg.logPohSec 11 0 0) :=
    (RegsOnly.refl _ _).fset _ _ _ (by simp)
  rw [exec_powerOnHour]
  generalize s.begin_.fset Reg.logPohSec 11 0 0 = u at hpoh hovf hsec hset
  obtain ⟨hcount, hfull⟩ := logBump32_counts (a := Reg.logPoh) (cls := 0) u (by omega) (by decide) (not_eventReg (.inr (by decide)))
  obtain ⟨t, hdone, hregs, -, honly⟩ := done_onlyRegs (hset.logBump (a := Reg.logPoh) 32 0 (by simp) (by simp))
  have hstay : (logBump 32 Reg.logPoh 0 u).fget Reg.logPohSec 11 0 = 0 := by
    have hreg := ((RegsOnly.refl (· ∈ [Reg.logPoh, Reg.logOvf]) u).logBump (a := Reg.logPoh) 32 0 (by simp) (by simp)).2 Reg.logPohSec
      (by decide) (not_eventReg (.inr (by decide)))
    rw [State.fget, hreg, ← State.fget, hsec]
  refine ⟨t, hdone, ?_, (fget_congr hregs _ _ _).trans hstay, fun htop => ?_, honly⟩
  · rw [reg_congr hregs, hcount, hpoh]
  · rw [reg_congr hregs] at htop
    rw [flag_congr hregs, State.pendingEvent, flag_congr hregs, ← hovf]
    exact hfull htop

/-- The notes in the logbook with another lowest reading. -/
def Logbook.withLow (l : Logbook) (temp : Int) : Logbook := { l with low := some temp }

theorem exec_thermalCycle_none {s : State} (temp : Int) (h : s.log.low = none) :
    exec (.thermalCycle temp) s = done s { s.begin_ with log := s.log.withLow temp } := by
  show execThermalCycle temp s = _
  unfold execThermalCycle
  simp only [State.begin__log, h]
  rfl

theorem exec_thermalCycle_some {s : State} (temp : Int) {x : Int} (h : s.log.low = some x) :
    exec (.thermalCycle temp) s =
      done s (if x + 640 ≤ temp then logBump 32 Reg.logThermal 1 { s.begin_ with log := s.log.withLow temp }
        else { s.begin_ with log := s.log.withLow (min x temp) }) := by
  show execThermalCycle temp s = _
  unfold execThermalCycle
  simp only [State.begin__log, h]
  rfl

theorem notes_done (s : State) (l : Logbook) : ∃ t, done s { s.begin_ with log := l } = .next t ∧ State.unchanged { s with log := l } t :=
  ⟨_, rfl, rfl⟩

theorem thermalCounted_done (s : State) (l : Logbook) :
    ∃ t, done s (logBump 32 Reg.logThermal 1 { s.begin_ with log := l }) = .next t ∧ t.log = l ∧
      (t.reg Reg.logThermal).toNat = min (2 ^ 32 - 1) ((s.reg Reg.logThermal).toNat + 1) ∧
      State.onlyRegs [Reg.logThermal, Reg.logOvf] s { t with log := s.log } := by
  obtain ⟨hcount, -⟩ := logBump32_counts (a := Reg.logThermal) (cls := 1) { s.begin_ with log := l } (by omega) (by decide)
    (not_eventReg (.inr (by decide)))
  obtain ⟨t, hdone, hregs, hlog, honly⟩ := done_logged (A := [Reg.logThermal, Reg.logOvf]) l
    ((RegsOnly.refl _ { s.begin_ with log := l }).logBump (a := Reg.logThermal) 32 1 (by simp) (by simp))
  exact ⟨t, hdone, hlog, (congrArg BitVec.toNat (reg_congr hregs _)).trans hcount, honly⟩

/-- The windows after a second, field by field. -/
theorem windows_fields {s t : State} {k : Nat} {hours : Prop} [Decidable hours]
    (h : t.windows k = if hours then (0, 0, 0) else s.windows k) :
    t.fget (Reg.tileEccWin k) 15 0 = (if hours then 0 else s.fget (Reg.tileEccWin k) 15 0) ∧
      t.fget (Reg.tileResWin k) 7 0 = (if hours then 0 else s.fget (Reg.tileResWin k) 7 0) ∧
      t.fget (Reg.tileRtrWin k) 7 0 = (if hours then 0 else s.fget (Reg.tileRtrWin k) 7 0) := by
  simp only [State.windows] at h
  split at h <;> simp_all

theorem calendarSecond_done (s : State) : ∃ t, exec .calendarSecond s = .next t ∧
    let hours := t.calendar / 3600 ≠ s.calendar / 3600 ∧ s.log.power = true
    let lost := s.log.vbatLost = true ∧ s.log.power = false
    (lost → State.unchanged s t) ∧
    (¬ lost → s.log.setPend = true → t.log = { s.log with setPend := false } ∧ t.flag Reg.logCalCtrl 8 = true ∧
      t.calendar = s.calSetValue) ∧
    (¬ lost → s.log.setPend = false → t.log = s.log ∧ t.reg Reg.logCalCtrl = s.reg Reg.logCalCtrl ∧
      t.calendar = (s.calendar + 1) % 2 ^ 64) ∧
    (s.log.power = true → t.fget Reg.logPohSec 11 0 = min 3599 (s.fget Reg.logPohSec 11 0 + 1)) ∧
    (s.log.power = false → t.reg Reg.logPohSec = s.reg Reg.logPohSec) ∧
    (∀ k < 72, t.fget (Reg.tileEccWin k) 15 0 = (if hours then 0 else s.fget (Reg.tileEccWin k) 15 0) ∧
      t.fget (Reg.tileResWin k) 7 0 = (if hours then 0 else s.fget (Reg.tileResWin k) 7 0) ∧
      t.fget (Reg.tileRtrWin k) 7 0 = (if hours then 0 else s.fget (Reg.tileRtrWin k) 7 0)) ∧
    State.onlyRegs secondRegs s { t with log := s.log } := by
  rw [exec_calendarSecond]
  split
  next hlost =>
    have hlost' : s.log.vbatLost = true ∧ s.log.power = false := by simpa using hlost
    refine ⟨s.begin_, rfl, fun _ => rfl, fun h => absurd hlost' h, fun h => absurd hlost' h,
      fun h => absurd (hlost'.2.symm.trans h) (by simp), fun _ => rfl, fun k _ => windows_fields ?_, rfl, fun _ _ _ _ => rfl⟩
    rw [if_neg fun h => absurd (hlost'.2.symm.trans h.2) (by simp)]
    exact windows_congr fun a _ => rfl
  next hlost =>
    have hlost' : ¬(s.log.vbatLost = true ∧ s.log.power = false) := by simpa using hlost
    cases hset : s.log.setPend with
    | true =>
      obtain ⟨hstepped, hvalid⟩ := stepCalendar_set_stepped (s := s.begin_) hset
      obtain ⟨t, hdone, h⟩ := stepped_passes hstepped rfl
      refine ⟨t, hdone, fun h => absurd h hlost', fun _ _ => ⟨h.log, ?_, h.calendar⟩, fun _ h => absurd h (by simp), h.sec, h.noSec,
        fun k hk => windows_fields (h.windows k hk), h.only⟩
      rw [State.flag, h.ctrl]
      exact hvalid
    | false =>
      obtain ⟨hstepped, hctrl⟩ := stepCalendar_count_stepped (s := s.begin_) hset
      obtain ⟨t, hdone, h⟩ := stepped_passes hstepped rfl
      exact ⟨t, hdone, fun h => absurd h hlost', fun _ h => absurd h (by simp), fun _ _ => ⟨h.log, h.ctrl.trans hctrl, h.calendar⟩,
        h.sec, h.noSec, fun k hk => windows_fields (h.windows k hk), h.only⟩

/-- Settles O48. -/
theorem logbookIsKeptAndMirrored : Obligations.LogbookIsKeptAndMirrored := by
  refine ⟨fun s c base hc hbase => ?_, fun s c hc hbase => ?_, fun s base r rest hbase hwriting hmem =>
    ⟨mirrorWriteEnd_passes hbase hwriting hmem, mirrorWriteEnd_fails hbase hwriting hmem⟩, fun s ok h => ?_,
    fun s ini => notes_done s _, fun s => ?_, powerOnHour_done, fun s temp => ?_⟩
  · obtain ⟨t, hdone, hlog, hflag, honly⟩ := snapshot_done hbase
    rw [exec_snapshot hc]
    exact ⟨t, s.nextRecord, hdone, hlog, hflag, length_logImage _ _, logImage_magic _ _, (logImage_seq _ _).trans (Nat.mod_mod _ _),
      logImage_calendar _ _, logImage_poh _ _, fun k hk => logImage_tile _ _ hk, logImage_crc _ _, honly⟩
  · rw [exec_snapshot hc, snapshot_none (s := s.begin_) hbase]
    exact mirrorFail_done s
  · obtain ⟨hwritten, hmissed⟩ := mirror_nothing (s := s.begin_) h
    rw [exec_mirrorWriteEnd, hwritten, hmissed]
    cases ok <;> exact done_begin s
  · exact calendarSecond_done s
  · cases hlow : s.log.low with
    | none =>
      obtain ⟨t, hdone, hsame⟩ := notes_done s (s.log.withLow temp)
      rw [exec_thermalCycle_none temp hlow]
      exact ⟨t, hdone, fun _ => hsame, fun x h => absurd h (by simp), fun x h => absurd h (by simp)⟩
    | some x =>
      rw [exec_thermalCycle_some temp hlow]
      by_cases hswing : x + 640 ≤ temp
      · obtain ⟨t, hdone, hlog, hcount, honly⟩ := thermalCounted_done s (s.log.withLow temp)
        rw [if_pos hswing]
        refine ⟨t, hdone, fun h => absurd h (by simp), fun y h hlt => ?_, fun y h _ => ⟨hlog, hcount, honly⟩⟩
        obtain rfl := Option.some.inj h
        omega
      · obtain ⟨t, hdone, hsame⟩ := notes_done s (s.log.withLow (min x temp))
        rw [if_neg hswing]
        refine ⟨t, hdone, fun h => absurd h (by simp), fun y h _ => ?_, fun y h hge => ?_⟩
        · obtain rfl := Option.some.inj h
          exact hsame
        · obtain rfl := Option.some.inj h
          exact absurd hge hswing

end Sys2Proof.Machine

/-! PROOFS. O51: frames of the steward port. -/

namespace Sys2Proof.Machine

-- One theorem after the other: many at once ask for too many threads.
set_option Elab.async false

/-! ## Slices -/

theorem slice_cons_cons (x y : Byte) (bs : List Byte) (o n : Nat) : slice (x :: y :: bs) (o + 2) n = slice bs o n := rfl

theorem slice_append_left {l : List Byte} (r : List Byte) {o n : Nat} (h : o + n ≤ l.length) : slice (l ++ r) o n = slice l o n := by
  have htake : ((l ++ r).drop o).take n = (l.drop o).take n := by
    rw [List.drop_append_of_le_length (by omega), List.take_append_of_le_length (by rw [List.length_drop]; omega)]
  rw [slice, slice, htake]

theorem slice_take (l : List Byte) {n o k : Nat} (h : o + k ≤ n) : slice (l.take n) o k = slice l o k := by
  have htake : ((l.take n).drop o).take k = (l.drop o).take k := by
    rw [List.drop_take, List.take_take, Nat.min_eq_left (by omega)]
  rw [slice, slice, htake]

theorem slice_append_right (l r : List Byte) {o n : Nat} (ho : o = l.length) (hn : n = r.length) : slice (l ++ r) o n = r := by
  subst ho hn
  simp [slice]

theorem slice_all (l : List Byte) {n : Nat} (hn : n = l.length) : slice l 0 n = l := by
  subst hn
  simp [slice]

/-! ## CRC-16 (R960) -/

theorem crcMsbBit_lt {poly c : Nat} (hpoly : poly < 2 ^ 16) (hc : c < 2 ^ 16) (k : Nat) : Crypto.crcMsbBit 16 poly k c < 2 ^ 16 := by
  induction k generalizing c with
  | zero => exact hc
  | succ k ih =>
    refine ih ?_
    split
    · exact Nat.xor_lt_two_pow (Nat.mod_lt _ (by norm_num)) hpoly
    · exact Nat.mod_lt _ (by norm_num)

theorem crc16_lt (bs : List Byte) : crc16 bs < 2 ^ 16 :=
  List.foldlRecOn bs _ (motive := (· < 2 ^ 16)) (by norm_num) fun c hc b _ =>
    crcMsbBit_lt (by norm_num) (Nat.xor_lt_two_pow hc (by have := b.isLt; omega)) 8

theorem beN_beBytes_two {v : Nat} (h : v < 2 ^ 16) : beN (beBytes 2 v) = v := by
  simp only [beN, beBytes, leBytes, List.reverse_cons, List.reverse_nil, List.nil_append, List.cons_append, List.foldl_cons,
    List.foldl_nil, BitVec.toNat_ofNat]
  omega

/-! ## Reading frames (R960 to R962) -/

theorem parseFrames_nil (t fuel : Nat) (s : State) : parseFrames t fuel [] s = ([], s) := by
  cases fuel <;> rfl

/-- A whole frame behind nothing: its request is taken, or it is discarded. -/
theorem parseFrames_frame {t fuel n : Nat} {body crc : List Byte} (s : State) (hn : leAt body 2 2 = n) (hlen : body.length = 6 + n)
    (hmax : n ≤ 1024) (hcrc : crc.length = 2) :
    parseFrames t (fuel + 1) ([0xA5, 0x5A] ++ body ++ crc) s =
      ([], if beN crc = crc16 body then takeRequest t (leAt body 0 1) (leAt body 1 1) (slice body 6 n) s else portError s) := by
  have hlength : (0xA5 :: 0x5A :: (body ++ crc) : List Byte).length = 10 + n := by
    simp only [List.length_cons, List.length_append, hlen, hcrc]
    omega
  have hnum : ∀ o k, o + k ≤ body.length → leAt (0xA5 :: 0x5A :: (body ++ crc)) (o + 2) k = leAt body o k := fun o k h => by
    rw [leAt, slice_cons_cons, slice_append_left _ h, leAt]
  have hpay : slice (0xA5 :: 0x5A :: (body ++ crc)) 8 n = slice body 6 n :=
    (slice_cons_cons _ _ _ 6 n).trans (slice_append_left _ (by omega))
  have hbody : slice (0xA5 :: 0x5A :: (body ++ crc)) 2 (6 + n) = body :=
    (slice_cons_cons _ _ _ 0 _).trans ((slice_append_left _ (by omega)).trans (slice_all _ hlen.symm))
  have hsum : slice (0xA5 :: 0x5A :: (body ++ crc)) (8 + n) 2 = crc := by
    rw [show 8 + n = (6 + n) + 2 by omega, slice_cons_cons, slice_append_right _ _ hlen.symm hcrc.symm]
  have hrest : (0xA5 :: 0x5A :: (body ++ crc) : List Byte).drop (10 + n) = [] := List.drop_eq_nil_of_le (by omega)
  show parseFrames t (fuel + 1) (0xA5 :: 0x5A :: (body ++ crc)) s = _
  rw [parseFrames]
  dsimp only
  rw [hnum 2 2 (by omega), hnum 0 1 (by omega), hnum 1 1 (by omega), hn, hpay, hbody, hsum, hrest, hlength]
  rw [if_neg (by decide), if_neg (by omega), if_neg (by omega), if_neg (by omega), parseFrames_nil, parseFrames_nil]
  simp only [beq_iff_eq]
  split <;> rfl

/-! ## A request frame (R960) -/

/-- A frame without SYNC and CRC. -/
def frameBody (seq cmd status : Nat) (payload : List Byte) : List Byte :=
  leBytes 1 seq ++ leBytes 1 cmd ++ leBytes 2 payload.length ++ leBytes 1 status ++ [0] ++ payload

theorem frame_eq (seq cmd status : Nat) (payload : List Byte) :
    frame seq cmd status payload =
      [0xA5, 0x5A] ++ frameBody seq cmd status payload ++ beBytes 2 (crc16 (frameBody seq cmd status payload)) := rfl

theorem length_frameBody (seq cmd status : Nat) (payload : List Byte) : (frameBody seq cmd status payload).length = 6 + payload.length := by
  simp [frameBody, length_leBytes]
  omega

/-- The fields of a frame. -/
theorem frameBody_fields {seq cmd : Nat} (status : Nat) {payload : List Byte} (hseq : seq < 256) (hcmd : cmd < 256)
    (hlen : payload.length ≤ 1024) :
    leAt (frameBody seq cmd status payload) 0 1 = seq ∧ leAt (frameBody seq cmd status payload) 1 1 = cmd ∧
      leAt (frameBody seq cmd status payload) 2 2 = payload.length ∧ slice (frameBody seq cmd status payload) 6 payload.length = payload := by
  have h0 := leAt_leBytes [] (leBytes 1 cmd ++ leBytes 2 payload.length ++ leBytes 1 status ++ [0] ++ payload) 1 seq 0 rfl
  have h1 := leAt_leBytes (leBytes 1 seq) (leBytes 2 payload.length ++ leBytes 1 status ++ [0] ++ payload) 1 cmd 1 rfl
  have h2 := leAt_leBytes (leBytes 1 seq ++ leBytes 1 cmd) (leBytes 1 status ++ [0] ++ payload) 2 payload.length 2 rfl
  have hpay := slice_append_right (leBytes 1 seq ++ leBytes 1 cmd ++ leBytes 2 payload.length ++ leBytes 1 status ++ [0]) payload
    (o := 6) (by simp [length_leBytes]) rfl
  simp only [List.nil_append, List.append_assoc] at h0 h1 h2 hpay
  simp only [frameBody, List.append_assoc]
  exact ⟨h0.trans (by omega), h1.trans (by omega), h2.trans (by omega), hpay⟩

theorem length_beBytes (n v : Nat) : (beBytes n v).length = n := by rw [beBytes, List.length_reverse, length_leBytes]

theorem length_frame (seq cmd status : Nat) (payload : List Byte) : (frame seq cmd status payload).length = 10 + payload.length := by
  rw [frame_eq, List.length_append, List.length_append, length_frameBody, length_beBytes]
  simp only [List.length_cons, List.length_nil]
  omega

/-- A good request frame behind nothing is taken. -/
theorem parseFrames_request {t fuel seq cmd : Nat} (status : Nat) {payload : List Byte} (s : State) (hseq : seq < 256) (hcmd : cmd < 256)
    (hlen : payload.length ≤ 1024) :
    parseFrames t (fuel + 1) (frame seq cmd status payload) s = ([], takeRequest t seq cmd payload s) := by
  obtain ⟨h0, h1, h2, hpay⟩ := frameBody_fields status (payload := payload) hseq hcmd hlen
  have hparse := parseFrames_frame (t := t) (fuel := fuel) (crc := beBytes 2 (crc16 (frameBody seq cmd status payload))) s h2
    (length_frameBody _ _ _ _) hlen (length_beBytes _ _)
  rw [frame_eq, hparse, if_pos (beN_beBytes_two (crc16_lt _)), h0, h1, hpay]

/-- The start of a frame waits. -/
theorem parseFrames_part {t fuel seq cmd status n : Nat} {payload : List Byte} (s : State) (hlen : payload.length ≤ 1024)
    (hseq : seq < 256) (hcmd : cmd < 256) (hn : n < 10 + payload.length) :
    parseFrames t fuel ((frame seq cmd status payload).take n) s = ((frame seq cmd status payload).take n, s) := by
  obtain ⟨-, -, h2, -⟩ := frameBody_fields status (payload := payload) hseq hcmd hlen
  have hlength : ((frame seq cmd status payload).take n).length = n := by
    rw [List.length_take, length_frame]
    omega
  cases fuel with
  | zero => rfl
  | succ fuel =>
    match n with
    | 0 => rfl
    | 1 => rfl
    | n + 2 =>
      have htake : (frame seq cmd status payload).take (n + 2) = 0xA5 :: 0x5A :: (frameBody seq cmd status payload ++
        beBytes 2 (crc16 (frameBody seq cmd status payload))).take n := rfl
      rw [htake] at hlength ⊢
      rw [parseFrames]
      dsimp only
      rw [if_neg (by decide), hlength]
      split
      · rfl
      next h8 =>
        have hnum : leAt (0xA5 :: 0x5A :: (frameBody seq cmd status payload ++
            beBytes 2 (crc16 (frameBody seq cmd status payload))).take n) 4 2 = payload.length := by
          have hslice := (slice_cons_cons 0xA5 0x5A ((frameBody seq cmd status payload ++
            beBytes 2 (crc16 (frameBody seq cmd status payload))).take n) 2 2).trans ((slice_take _ (by omega)).trans
              (slice_append_left _ (by rw [length_frameBody]; omega)))
          rw [leAt, hslice, ← leAt, h2]
        rw [hnum, if_neg (by omega), if_pos hn]

/-! ## What a request does -/

theorem sendFrame_touches (t : Nat) (f : List Byte) (s : State) : Touches { sport := true, out := true, phy := true } s (sendFrame t f s) := by
  unfold sendFrame
  split
  · exact ⟨rfl, by simp [State.lens, modAt]⟩
  · split
    · exact ⟨rfl, by simp [State.lens, modAt]⟩
    · exact ⟨rfl, by simp [State.lens, modAt]⟩

/-- What sending a frame changes of the port, and what it sends. -/
theorem sendFrame_sport (t : Nat) (f : List Byte) (s : State) :
    (sendFrame t f s).sport = { s.sport with tx := (sendFrame t f s).sport.tx } := by
  unfold sendFrame
  split <;> rfl

theorem sendFrame_internal {f : List Byte} {s : State} (hsized : s.sized = true) :
    (sendFrame 3 f s).sport.tx.getD 3 [] = s.sport.tx.getD 3 [] ++ f ∧ (sendFrame 3 f s).out = s.out := by
  have hlen := sized_tx hsized
  exact ⟨getD_modAt_same _ _ (by rw [hlen]; omega), rfl⟩

theorem sendFrame_out {t : Nat} {f : List Byte} {s : State} (ht : t ≠ 3) :
    (sendFrame t f s).out = s.out ++ [(t, portType, 0, f.map BitVec.toNat)] := by
  unfold sendFrame
  rw [if_neg (by simpa using ht)]

/-- The stored answer to a request that repeats the last one (R973). -/
def State.stored (s : State) (seq cmd : Nat) : Option (List Byte) :=
  s.sport.last.bind fun l => if l.1 == seq && l.2.1 == cmd then some l.2.2 else none

theorem stored_eq_some {s : State} {seq cmd : Nat} {f : List Byte} : s.stored seq cmd = some f ↔ s.sport.last = some (seq, cmd, f) := by
  unfold State.stored
  constructor
  · intro h
    obtain ⟨⟨a, b, c⟩, hlast, hf⟩ := Option.bind_eq_some_iff.1 h
    simp only [Bool.and_eq_true, beq_iff_eq, Option.ite_none_right_eq_some, Option.some.injEq] at hf
    obtain ⟨⟨rfl, rfl⟩, rfl⟩ := hf
    exact hlast
  · intro h
    simp [h]

theorem stored_eq_none {s : State} {seq cmd : Nat} : s.stored seq cmd = none ↔ ¬ ∃ f, s.sport.last = some (seq, cmd, f) := by
  simp only [← stored_eq_some, Option.eq_none_iff_forall_ne_some, not_exists, ne_eq]

/-- The answer that is due at once, if any. -/
def State.replyNow (s : State) (seq cmd : Nat) : Option (List Byte) :=
  if s.sport.running.isSome then some (frame seq (cmd ||| 0x80) stBusy [])
  else (s.stored seq cmd).or (if portCmds.contains cmd then none else some (frame seq (cmd ||| 0x80) stUnknown []))

/-- The request in progress. -/
def State.withRequest (s : State) (q : Request) : State := { s with sport := { s.sport with running := some q } }

theorem takeRequest_eq (t seq cmd : Nat) (payload : List Byte) (s : State) :
    takeRequest t seq cmd payload s = ((s.replyNow seq cmd).map fun a => sendFrame t a s).getD (s.withRequest ⟨t, seq, cmd, payload⟩) := by
  show (if s.sport.running.isSome then _ else match s.stored seq cmd with
    | some f => sendFrame t f s
    | none => if portCmds.contains cmd then s.withRequest ⟨t, seq, cmd, payload⟩ else sendFrame t (frame seq (cmd ||| 0x80) stUnknown []) s) = _
  unfold State.replyNow
  split
  · rfl
  · cases s.stored seq cmd with
    | some f => rfl
    | none => cases portCmds.contains cmd <;> rfl

theorem replyNow_none {s : State} {seq cmd : Nat} (hrun : s.sport.running = none)
    (hlast : ¬ ∃ f, s.sport.last = some (seq, cmd, f)) (hcmd : cmd ∈ portCmds) : s.replyNow seq cmd = none := by
  simp [State.replyNow, hrun, stored_eq_none.2 hlast, hcmd]

theorem replyNow_some {s : State} {seq cmd : Nat} {a : List Byte}
    (h : (s.sport.running ≠ none ∧ a = frame seq (cmd ||| 0x80) stBusy []) ∨
      (s.sport.running = none ∧ s.sport.last = some (seq, cmd, a)) ∨
      (s.sport.running = none ∧ (¬ ∃ f, s.sport.last = some (seq, cmd, f)) ∧ cmd ∉ portCmds ∧
        a = frame seq (cmd ||| 0x80) stUnknown [])) : s.replyNow seq cmd = some a := by
  rcases h with ⟨hrun, rfl⟩ | ⟨hrun, hlast⟩ | ⟨hrun, hlast, hcmd, rfl⟩
  · simp [State.replyNow, Option.isSome_iff_ne_none.2 hrun]
  · simp [State.replyNow, hrun, stored_eq_some.2 hlast]
  · simp [State.replyNow, hrun, stored_eq_none.2 hlast, hcmd]

/-! ## Bytes on a transport -/

/-- Nothing of a frame is left: the bytes kept of a transport that had none are as before. -/
theorem modAt_getD_self {α : Type} (xs : List α) (i : Nat) {d x : α} (h : xs.getD i d = x) (hi : i < xs.length) :
    modAt xs i (fun _ => x) = xs := by
  rw [modAt, modify_const_eq_set]
  rw [List.getD_eq_getElem _ _ hi] at h
  rw [← h, List.set_getElem_self]

/-- The bytes that a transport has kept. -/
def State.withRx (s : State) (t : Nat) (bs : List Byte) : State :=
  { s with sport := { s.sport with rx := s.sport.rx.set t bs } }

theorem receive_on {s : State} {t : Nat} {bytes : List Byte} (hon : s.portOn t = true) (hrx : s.sport.rx.getD t [] = []) :
    receive t bytes s =
      ((parseFrames t (bytes.length + 1) bytes s).2).withRx t (parseFrames t (bytes.length + 1) bytes s).1 := by
  unfold receive
  rw [if_pos hon]
  dsimp only
  rw [hrx, List.nil_append, modAt, modify_const_eq_set]
  rfl

theorem withRx_nil {s : State} {t : Nat} (hrx : s.sport.rx.getD t [] = []) (hlen : t < s.sport.rx.length) : s.withRx t [] = s := by
  have hset : s.sport.rx.set t [] = s.sport.rx := by
    rw [← modify_const_eq_set]
    exact modAt_getD_self _ _ hrx hlen
  unfold State.withRx
  rw [hset]

theorem sized_rx {s : State} (h : s.sized = true) : s.sport.rx.length = 4 := by
  simp only [State.sized, Bool.and_eq_true, beq_iff_eq] at h
  exact h.1.2

theorem exec_stewardFrame (t : Nat) (bytes : List Byte) (s : State) :
    exec (.stewardFrame t bytes) s = done s (receive t bytes s.begin_) := rfl

/-- What a taken request leaves alone. -/
theorem takeRequest_touches (t seq cmd : Nat) (payload : List Byte) (s : State) :
    Touches { sport := true, out := true, phy := true } s (takeRequest t seq cmd payload s) := by
  rw [takeRequest_eq]
  cases s.replyNow seq cmd with
  | none => exact ⟨rfl, rfl⟩
  | some a => exact sendFrame_touches t a s

theorem takeRequest_rx (t seq cmd : Nat) (payload : List Byte) (s : State) :
    (takeRequest t seq cmd payload s).sport.rx = s.sport.rx := by
  rw [takeRequest_eq]
  cases s.replyNow seq cmd with
  | none => rfl
  | some a => exact (congrArg Sport.rx (sendFrame_sport t a s) :)

/-- A good frame behind nothing: its request is taken, and nothing of the frame is kept. -/
theorem receive_request {s : State} {t seq cmd : Nat} (status : Nat) {payload : List Byte} (ht : t < 4) (hsized : s.sized = true)
    (hon : s.portOn t = true) (hrx : s.sport.rx.getD t [] = []) (hseq : seq < 256) (hcmd : cmd < 256) (hlen : payload.length ≤ 1024) :
    receive t (frame seq cmd status payload) s = takeRequest t seq cmd payload s := by
  rw [receive_on hon hrx, parseFrames_request status s hseq hcmd hlen]
  refine withRx_nil ?_ ?_
  · rw [takeRequest_rx, hrx]
  · rw [takeRequest_rx, sized_rx hsized]
    exact ht

theorem stewardFrame_request {s : State} {t seq cmd : Nat} (status : Nat) {payload : List Byte} (ht : t < 4) (hsized : s.sized = true)
    (hon : s.portOn t = true) (hrx : s.sport.rx.getD t [] = []) (hseq : seq < 256) (hcmd : cmd < 256) (hlen : payload.length ≤ 1024) :
    exec (.stewardFrame t (frame seq cmd status payload)) s = .next (takeRequest t seq cmd payload s.begin_) := by
  rw [exec_stewardFrame, receive_request (s := s.begin_) status ht hsized hon hrx hseq hcmd hlen]
  exact (takeRequest_touches t seq cmd payload s.begin_).done_eq

/-- A frame whose CRC is wrong is discarded and counted. -/
theorem stewardFrame_discarded {s : State} {t : Nat} {body crc : List Byte} (ht : t < 4) (hsized : s.sized = true)
    (hon : s.portOn t = true) (hrx : s.sport.rx.getD t [] = []) (hbody : body.length = 6 + leAt body 2 2) (hmax : leAt body 2 2 ≤ 1024)
    (hcrc : crc.length = 2) (hwrong : beN crc ≠ crc16 body) :
    exec (.stewardFrame t ([0xA5, 0x5A] ++ body ++ crc)) s = done s (portError s.begin_) := by
  have hsport : (portError s.begin_).sport = s.sport := (bump_touches Reg.sysSportErr s.begin_).keeps State.sport
  rw [exec_stewardFrame, receive_on (s := s.begin_) hon hrx, parseFrames_frame s.begin_ rfl hbody hmax hcrc, if_neg hwrong]
  refine congrArg (done s) (withRx_nil ?_ ?_)
  · rw [hsport, hrx]
  · rw [hsport, sized_rx hsized]
    exact ht

theorem portError_done (s : State) (p : Sport) :
    ∃ u, done s (portError { s.begin_ with sport := p }) = .next u ∧ u.sport = p ∧
      u.reg Reg.sysSportErr = BitVec.ofNat 32 (satWord 24 (s.reg Reg.sysSportErr).toNat).1 ∧
      State.onlyRegs [Reg.sysSportErr] s { u with sport := s.sport } := by
  have hreg := bump_reg (a := Reg.sysSportErr) { s.begin_ with sport := p } (not_eventReg (.inl (by decide)))
  have honly : RegsOnly (· ∈ [Reg.sysSportErr]) { s.begin_ with sport := p } (portError { s.begin_ with sport := p }) :=
    (RegsOnly.refl _ _).bump (by simp)
  generalize hu : portError { s.begin_ with sport := p } = u at honly
  have hk := kept_of_regsOnly honly
  have hcount : u.reg Reg.sysSportErr = BitVec.ofNat 32 (satWord 24 (s.reg Reg.sysSportErr).toNat).1 := hu ▸ hreg
  obtain ⟨⟨f, q, rfl⟩, -⟩ := honly
  exact ⟨_, rfl, rfl, hcount, rfl, hk⟩

theorem sptCsRise_eq (s : State) :
    exec .sptCsRise s = done s (if (s.sport.rx.getD 1 []).isEmpty then s.begin_
      else portError { s.begin_ with sport := { s.sport with rx := s.sport.rx.set 1 [] } }) := by
  rw [← modify_const_eq_set]
  rfl

/-! ## The internal transport (R1028, R1037) -/

/-- What an application core reads next. -/
def State.sportBytes (s : State) : List Byte :=
  if s.sport.busy then
    (match s.sport.running with
      | some r => frame r.seq (r.cmd ||| 0x80) stBusy []
      | none => match s.sport.last with
        | some l => frame l.1 (l.2.1 ||| 0x80) stBusy []
        | none => frame 0 0x80 stBusy []) ++ s.sport.tx.getD 3 []
  else s.sport.tx.getD 3 []

theorem sportRead_nil {s : State} (h : s.sportBytes = []) : sportRead s = (0, s) := by
  show (match s.sportBytes with
    | [] => _
    | _ :: _ => _) = _
  rw [h]

theorem sportRead_cons {s : State} {b : Byte} {r : List Byte} (h : s.sportBytes = b :: r) :
    sportRead s = (BitVec.ofNat 32 (256 + b.toNat), { s with sport := { s.sport with busy := false, tx := s.sport.tx.set 3 r } }) := by
  rw [← modify_const_eq_set]
  show (match s.sportBytes with
    | [] => _
    | _ :: _ => _) = _
  rw [h]
  rfl

theorem exec_sportDataRead (ini : Nat) (s : State) :
    exec (.sportDataRead ini) s = done s { (sportRead s.begin_).2 with rdata := (sportRead s.begin_).1 } := rfl

/-- A read of the internal transport: the next byte, and what of the port it changes. -/
theorem sportDataRead_nil {s : State} (ini : Nat) (h : s.sportBytes = []) :
    ∃ u, exec (.sportDataRead ini) s = .next u ∧ { u with sport := s.sport, rdata := s.rdata, out := s.out, phy := s.phy.still u.phy } = s ∧
      u.rdata = 0 ∧ u.sport = s.sport := by
  rw [exec_sportDataRead, sportRead_nil (s := s.begin_) h]
  exact ⟨_, rfl, rfl, rfl, rfl⟩

theorem sportDataRead_cons {s : State} (ini : Nat) {b : Byte} {r : List Byte} (h : s.sportBytes = b :: r) :
    ∃ u, exec (.sportDataRead ini) s = .next u ∧ { u with sport := s.sport, rdata := s.rdata, out := s.out, phy := s.phy.still u.phy } = s ∧
      u.rdata = BitVec.ofNat 32 (256 + b.toNat) ∧ u.sport = { s.sport with busy := false, tx := s.sport.tx.set 3 r } := by
  rw [exec_sportDataRead, sportRead_cons (s := s.begin_) h]
  exact ⟨_, rfl, rfl, rfl, rfl⟩

theorem sportBytes_idle {s : State} (h : s.sport.busy = false) : s.sportBytes = s.sport.tx.getD 3 [] := by
  rw [State.sportBytes, h]
  rfl

/-- While a request of the transport runs, the BUSY answer to it stands before what waits. -/
theorem sportBytes_busy {s : State} {q : Request} (h : s.sport.busy = true) (hq : s.sport.running = some q) :
    s.sportBytes = 0xA5 :: ((frame q.seq (q.cmd ||| 0x80) stBusy []).tail ++ s.sport.tx.getD 3 []) := by
  rw [State.sportBytes, h, hq]
  rfl

/-! ## The obligation -/

theorem stewardFrame_unserved {s : State} {t : Nat} (bs : List Byte) (h : s.portOn t = false) :
    ∃ u, exec (.stewardFrame t bs) s = .next u ∧ State.unchanged s u := by
  have hreceive : receive t bs s.begin_ = s.begin_ := if_neg (by rw [show s.begin_.portOn t = false from h]; simp)
  rw [exec_stewardFrame, hreceive]
  exact done_begin s

theorem stewardFrame_part {s : State} {t seq cmd n : Nat} (status : Nat) {payload : List Byte} (hon : s.portOn t = true)
    (hrx : s.sport.rx.getD t [] = []) (hseq : seq < 256) (hcmd : cmd < 256) (hlen : payload.length ≤ 1024)
    (hn : n < 10 + payload.length) :
    exec (.stewardFrame t ((frame seq cmd status payload).take n)) s =
      done s (s.begin_.withRx t ((frame seq cmd status payload).take n)) := by
  rw [exec_stewardFrame, receive_on (s := s.begin_) hon hrx, parseFrames_part s.begin_ hlen hseq hcmd hn]

theorem sportWrite_done (s : State) (ini : Nat) (b : Byte) :
    ∃ u, exec (.sportDataWrite ini b) s = .next u ∧
      (s.portOn 3 = false → State.unchanged s u) ∧
      (s.portOn 3 = true → (∃ q, s.sport.running = some q ∧ q.t = 3) →
        State.unchanged { s with sport := { s.sport with busy := true } } u) ∧
      (s.portOn 3 = true → (∀ q, s.sport.running = some q → q.t ≠ 3) → exec (.stewardFrame 3 [b]) s = .next u) := by
  have hexec : exec (.sportDataWrite ini b) s = done s (if !s.portOn 3 then s.begin_
    else if (s.sport.running.map Request.t) == some 3 then { s.begin_ with sport := { s.sport with busy := true } }
    else receive 3 [b] s.begin_) := rfl
  rw [hexec]
  cases hon : s.portOn 3 with
  | false =>
    obtain ⟨u, hdone, hsame⟩ := done_begin s
    exact ⟨u, hdone, fun _ => hsame, fun h => absurd h (by simp), fun h => absurd h (by simp)⟩
  | true =>
    rw [if_neg (by simp)]
    by_cases hrun : (s.sport.running.map Request.t) = some 3
    · obtain ⟨q, hq, ht⟩ := Option.map_eq_some_iff.1 hrun
      rw [if_pos (by simpa using hrun)]
      exact ⟨_, rfl, fun h => absurd h (by simp), fun _ _ => rfl, fun _ h => absurd ht (h q hq)⟩
    · rw [if_neg (by simpa using hrun), exec_stewardFrame]
      refine ⟨_, rfl, fun h => absurd h (by simp), fun _ ⟨q, hq, ht⟩ => absurd ?_ hrun, fun _ _ => rfl⟩
      rw [hq, Option.map_some, ht]

/-- Settles O51. -/
theorem stewardPortTakesFrames : Obligations.StewardPortTakesFrames := by
  refine ⟨fun s t seq cmd status payload ht hsized hon hrx hseq hcmd _ hlen => ?_,
    fun s t body crc ht hsized hon hrx hbody hmax hcrc hwrong => ?_,
    fun s t seq cmd status n payload ht hsized hon hrx hseq hcmd hlen hn => ?_, fun s t bs h => stewardFrame_unserved bs h,
    fun s => ?_, fun s hsized => ?_, sportWrite_done, fun s ini hsized => ?_⟩
  · rw [stewardFrame_request status ht hsized hon hrx hseq hcmd hlen]
    refine ⟨_, rfl, (takeRequest_touches t seq cmd payload s.begin_).back_begin, fun hrun hlast hlisted => ?_, fun a ha => ?_⟩
    · rw [takeRequest_eq, replyNow_none (s := s.begin_) hrun hlast hlisted]
      exact ⟨rfl, rfl⟩
    · rw [takeRequest_eq, replyNow_some (s := s.begin_) ha]
      refine ⟨sendFrame_sport t a s.begin_, ?_, fun hne => (sendFrame_out hne).trans (List.nil_append _)⟩
      rintro rfl
      exact sendFrame_internal (s := s.begin_) hsized
  · obtain ⟨u, hdone, hsport, hcount, honly⟩ := portError_done s s.sport
    rw [stewardFrame_discarded ht hsized hon hrx hbody hmax hcrc hwrong]
    refine ⟨u, hdone, hcount, ?_⟩
    rw [← hsport] at honly
    exact honly
  · intro part
    rw [stewardFrame_part status hon hrx hseq hcmd hlen hn]
    exact ⟨_, rfl, rfl, rfl⟩
  · have hexec : exec .uartGapTimeout s = done s (s.begin_.withRx 0 []) := by
      rw [State.withRx, ← modify_const_eq_set]
      rfl
    rw [hexec]
    exact ⟨_, rfl, rfl⟩
  · rw [sptCsRise_eq]
    cases hrx : s.sport.rx.getD 1 [] with
    | nil =>
      obtain ⟨u, hdone, hsame⟩ := done_begin s
      exact ⟨u, hdone, fun _ => hsame, fun h => absurd rfl h⟩
    | cons b r =>
      obtain ⟨u, hdone, hsport, hcount, honly⟩ := portError_done s { s.sport with rx := s.sport.rx.set 1 [] }
      exact ⟨u, hdone, fun h => absurd h (by simp), fun _ => ⟨hsport, hcount, honly⟩⟩
  · cases hbytes : s.sportBytes with
    | nil =>
      obtain ⟨u, hdone, hsame, hdata, hsport⟩ := sportDataRead_nil ini hbytes
      refine ⟨u, hdone, hsame, fun b r hidle htx => ?_, fun _ _ => ⟨hdata, hsport⟩, fun q hbusy hq => ?_⟩
      · exact absurd ((sportBytes_idle hidle).symm.trans hbytes) (by rw [htx]; simp)
      · exact absurd ((sportBytes_busy hbusy hq).symm.trans hbytes) (by simp)
    | cons b r =>
      obtain ⟨u, hdone, hsame, hdata, hsport⟩ := sportDataRead_cons ini hbytes
      refine ⟨u, hdone, hsame, fun b' r' hidle htx => ?_, fun hidle htx => ?_, fun q hbusy hq => ?_⟩
      · obtain ⟨rfl, rfl⟩ := List.cons.inj (htx.symm.trans ((sportBytes_idle hidle).symm.trans hbytes))
        refine ⟨?_, ?_⟩
        · rw [hdata, BitVec.toNat_ofNat]
          exact Nat.mod_eq_of_lt (by have := b'.isLt; omega)
        · rw [hsport, ← hidle]
      · exact absurd (htx.symm.trans ((sportBytes_idle hidle).symm.trans hbytes)) (by simp)
      · obtain ⟨rfl, rfl⟩ := List.cons.inj ((sportBytes_busy hbusy hq).symm.trans hbytes)
        exact ⟨hdata, hsport⟩

end Sys2Proof.Machine

/-! PROOFS. Packets to endpoints: what a packet that leaves or waits changes of the endpoints and the registers. -/

namespace Sys2Proof.Machine

-- One theorem after the other: many at once ask for too many threads.
set_option Elab.async false

/-! ## Endpoints -/

/-- An endpoint changed under its own address. -/
theorem ep?_setEp (s : State) (l a : Nat) {f : Ep → Ep} (hf : ∀ e, (f e).link = e.link ∧ (f e).addr = e.addr) (l' a' : Nat) :
    (s.setEp l a f).ep? l' a' = if l' = l ∧ a' = a then (s.ep? l a).map f else s.ep? l' a' := by
  have hkey : ((fun e : Ep => e.link == l' && e.addr == a') ∘ fun e => if e.link == l && e.addr == a then f e else e) =
      fun e => e.link == l' && e.addr == a' := by
    funext e
    simp only [Function.comp]
    split
    · rw [(hf e).1, (hf e).2]
    · rfl
  unfold State.setEp State.ep?
  rw [List.find?_map, hkey]
  cases hfind : s.eps.find? fun e => e.link == l' && e.addr == a' with
  | none =>
    split
    next h => obtain ⟨rfl, rfl⟩ := h; rw [hfind]; rfl
    next => rfl
  | some e =>
    obtain ⟨hl, ha⟩ : e.link = l' ∧ e.addr = a' := by simpa using List.find?_some hfind
    split
    next h => obtain ⟨rfl, rfl⟩ := h; rw [hfind]; simp [hl, ha]
    next h => simp [hl, ha, h]

/-- T1 of an exchange whose TIME_REQ leaves now. -/
def Ep.stamped (tag lt : Nat) (e : Ep) : Ep := { e with exch := e.exch.map fun x => (x.1, if x.1 == tag then lt else x.2) }

theorem stampRequest_other {type : Nat} (l dest : Nat) (payload : List Dword) (s : State) (h : type ≠ 0x20) :
    stampRequest l type dest payload s = s := if_neg (by simpa using h)

theorem stampRequest_req (l dest : Nat) (payload : List Dword) (s : State) :
    stampRequest l 0x20 dest payload s = s.setEp l dest (Ep.stamped (payload.headD 0).toNat s.tb.lt.toNat) := rfl

/-! ## A packet that leaves -/

/-- The words of a packet that leaves now. -/
def State.wordsOf (s : State) (l vc type dest : Nat) (payload : List Dword) : List Dword :=
  packetWords dest vc type ((s.link l).stream (vc == 2)).next (stampPayload type s.tb.lt payload)

/-- The packet is noted in the replay buffer of its segment, and among what was sent. -/
def notePacket (l vc type dest : Nat) (payload : List Dword) (s : State) : State :=
  let ws := s.wordsOf l vc type dest payload
  let t := (stampRequest l type dest (stampPayload type s.tb.lt payload) s).setLink l fun k =>
    { k.setStream (vc == 2) (fun t => { t with next := (t.next + 1) % 4096, replay := t.replay ++ [(t.next, ws)] }) with
      used := modAt k.used vc fun u => (u + creditUnits ws.length) % 65536 }
  { t with out := t.out ++ [(l, type, dest, (stampPayload type s.tb.lt payload).map BitVec.toNat)] }

theorem startPacket_eq (l vc type dest : Nat) (payload : List Dword) (s : State) :
    startPacket l vc type dest payload s =
      streamBlocks l (packetBlocks (vc == 2) (s.wordsOf l vc type dest payload)) (showReplay l (notePacket l vc type dest payload s)) := rfl

theorem notePacket_touches (l vc type dest : Nat) (payload : List Dword) (s : State) :
    Touches { eps := true, links := true, out := true } s (notePacket l vc type dest payload s) := by
  unfold notePacket
  dsimp only
  refine Touches.then (n := { out := true }) ?_ ⟨rfl, rfl⟩
  exact ((stampRequest_touches l type dest _ s).mono).then (State.setLink_touches _ l _)

theorem startPacket_eps (l vc type dest : Nat) (payload : List Dword) (s : State) :
    (startPacket l vc type dest payload s).eps = (stampRequest l type dest (stampPayload type s.tb.lt payload) s).eps := by
  rw [startPacket_eq]
  exact ((streamBlocks_touches l _ _).keeps State.eps).trans ((showReplay_touches l _).keeps State.eps)

theorem startPacket_out (l vc type dest : Nat) (payload : List Dword) (s : State) :
    (startPacket l vc type dest payload s).out = s.out ++ [(l, type, dest, (stampPayload type s.tb.lt payload).map BitVec.toNat)] := by
  have hstamp := stampRequest_touches l type dest (stampPayload type s.tb.lt payload) s
  rw [startPacket_eq]
  refine ((streamBlocks_touches l _ _).keeps State.out).trans (((showReplay_touches l _).keeps State.out).trans ?_)
  exact congrArg (· ++ _) (hstamp.keeps State.out)

theorem startPacket_reg (l vc type dest : Nat) (payload : List Dword) (s : State) {b : Nat} (hb : b ≠ Reg.slinkStat l) :
    (startPacket l vc type dest payload s).reg b = s.reg b := by
  rw [startPacket_eq]
  refine (reg_congr ((streamBlocks_touches l _ _).keeps State.regs) b).trans ?_
  exact (State.reg_fset_ne _ _ _ _ hb).trans (reg_congr ((notePacket_touches l vc type dest payload s).keeps State.regs) b)

/-! ## A packet that leaves, waits or is lost -/

/-- A packet changes no register but the count of its link's replay buffers. -/
theorem sendFor_reg (stn group : Option Nat) (l vc type dest : Nat) (payload : List Dword) (s : State) {b : Nat}
    (hb : b ≠ Reg.slinkStat l) : (sendFor stn group l vc type dest payload s).reg b = s.reg b := by
  unfold sendFor
  split
  · rfl
  · split
    · exact startPacket_reg l vc type dest payload s hb
    · rfl

theorem sendFor_keepsRegs (stn group : Option Nat) (l vc type dest : Nat) (payload : List Dword) (s : State) :
    KeepsRegs (· = Reg.slinkStat l) s (sendFor stn group l vc type dest payload s) :=
  fun _ hb _ => sendFor_reg stn group l vc type dest payload s hb

/-- Only a TIME_REQ changes an endpoint. -/
theorem sendFor_eps (stn group : Option Nat) (l vc dest : Nat) {type : Nat} (payload : List Dword) (s : State) (h : type ≠ 0x20) :
    (sendFor stn group l vc type dest payload s).eps = s.eps := by
  unfold sendFor
  split
  · rfl
  · split
    · rw [startPacket_eps, stampRequest_other _ _ _ _ h]
    · rfl

/-- A TIME_REQ changes at most T1 of its own endpoint's exchange. -/
theorem sendFor_req_ep? (stn group : Option Nat) (l vc dest : Nat) (payload : List Dword) (s : State) :
    (∀ l' a', (sendFor stn group l vc 0x20 dest payload s).ep? l' a' = s.ep? l' a') ∨
      ∃ tag lt, ∀ l' a', (sendFor stn group l vc 0x20 dest payload s).ep? l' a' =
        if l' = l ∧ a' = dest then (s.ep? l dest).map (Ep.stamped tag lt) else s.ep? l' a' := by
  unfold sendFor
  split
  · exact .inl fun _ _ => rfl
  · split
    · refine .inr ⟨((stampPayload 0x20 s.tb.lt payload).headD 0).toNat, s.tb.lt.toNat, fun l' a' => ?_⟩
      have heps := startPacket_eps l vc 0x20 dest payload s
      rw [stampRequest_req] at heps
      rw [State.ep?, heps]
      exact ep?_setEp s l dest (f := Ep.stamped _ _) (fun _ => ⟨rfl, rfl⟩) l' a'
    · exact .inl fun _ _ => rfl

/-- A packet of a segment that is awake, has room and holds nothing back on its VC leaves at once. -/
theorem sendFor_now {stn group : Option Nat} {l vc type dest : Nat} {payload : List Dword} {s : State} (hawake : s.asleep l = false)
    (hqueue : ((s.link l).queue.any fun p => p.vc == vc) = false) (hroom : (s.link l).canSend vc (payload.length + 2) = true) :
    sendFor stn group l vc type dest payload s = startPacket l vc type dest payload s := by
  have hup : (s.link l).up = true := by
    simp only [Link.canSend, Bool.and_eq_true] at hroom
    exact hroom.1.1.1
  rw [sendFor, if_neg (by simp [hup]), if_pos (by simp [hawake, hqueue, hroom])]

/-! ## Time exchanges (R605 to R607) -/

/-- What an exchange changes. -/
abbrev Parts.exchange : Parts := { regs := true, eps := true, links := true, timeTag := true, phy := true, out := true }

/-- An exchange with a fresh TAG is in progress, from now. -/
def Ep.exchanging (tag lt : Nat) (e : Ep) : Ep := { e with exch := some (tag, lt) }

/-- The next TAG is taken. -/
def State.tagTaken (s : State) : State := { s with timeTag := (s.timeTag % 65536 + 1) % 65536 }

theorem tagTaken_touches (s : State) : Touches { timeTag := true } s s.tagTaken := ⟨rfl, rfl⟩

theorem startExchange_eq (l a : Nat) (s : State) :
    startExchange l a s = (sendPacket l 2 0x20 a [BitVec.ofNat 64 (s.timeTag % 65536)] s.tagTaken).setEp l a
      (Ep.exchanging (s.timeTag % 65536) s.tb.lt.toNat) := rfl

theorem startExchange_touches (l a : Nat) (s : State) : Touches .exchange s (startExchange l a s) := by
  rw [startExchange_eq]
  refine Touches.then ?_ (State.setEp_touches _ _ _ _)
  exact ((tagTaken_touches s).mono).then (sendPacket_touches l 2 0x20 a _ _)

theorem startExchange_reg (l a : Nat) (s : State) {b : Nat} (hb : b ≠ Reg.slinkStat l) : (startExchange l a s).reg b = s.reg b := by
  rw [startExchange_eq]
  refine (reg_congr ((State.setEp_touches _ _ _ _).keeps State.regs) b).trans ?_
  exact (sendFor_reg none none l 2 0x20 a _ _ hb).trans (reg_congr ((tagTaken_touches s).keeps State.regs) b)

theorem startExchange_ep? (l a : Nat) (s : State) (l' a' : Nat) :
    (startExchange l a s).ep? l' a' =
      if l' = l ∧ a' = a then (s.ep? l a).map (Ep.exchanging (s.timeTag % 65536) s.tb.lt.toNat) else s.ep? l' a' := by
  have htag : ∀ l a, s.tagTaken.ep? l a = s.ep? l a := fun _ _ => rfl
  rw [startExchange_eq, ep?_setEp _ l a (f := Ep.exchanging _ _) (fun _ => ⟨rfl, rfl⟩), sendPacket]
  rcases sendFor_req_ep? none none l 2 a [BitVec.ofNat 64 (s.timeTag % 65536)] s.tagTaken with h | ⟨tag, lt, h⟩
  · rw [h, h, htag, htag]
  · rw [h, h, if_pos (And.intro rfl rfl), htag, htag, Option.map_map]
    split <;> rfl

end Sys2Proof.Machine

/-! PROOFS. O46: the timebase is corrected, and endpoints follow it. -/

namespace Sys2Proof.Machine

-- One theorem after the other: many at once ask for too many threads.
set_option Elab.async false

/-! ## Exchanges repeated (R850) -/

/-- One endpoint's exchange is repeated, where one is in progress. -/
def restartOne (s : State) (e : Ep) : State := if e.exch.isSome then startExchange e.link e.addr s else s

theorem restartExchanges_eq (s : State) : restartExchanges s = s.eps.foldl restartOne s := rfl

theorem restartOne_touches (s : State) (e : Ep) : Touches .exchange s (restartOne s e) :=
  Touches.ite (fun _ => startExchange_touches e.link e.addr s) fun _ => Touches.refl

theorem restartExchanges_touches (s : State) : Touches .exchange s (restartExchanges s) := Touches.foldl restartOne_touches s.eps s

theorem epsOk_iff {s : State} : s.epsOk = true ↔
    (s.eps.map fun e => (e.link, e.addr)).Nodup ∧ ∀ e ∈ s.eps, e.link < 16 ∧ e.addr < 64 := by
  simp [State.epsOk]

theorem slinkStat_mem {l : Nat} (hl : l < 16) : Reg.slinkStat l ∈ linkStatRegs := List.mem_map_of_mem (List.mem_range.2 hl)

theorem foldl_reg {α : Type} {op : State → α → State} {xs : List α} {b : Nat} (h : ∀ x ∈ xs, ∀ u, (op u x).reg b = u.reg b) (s : State) :
    (xs.foldl op s).reg b = s.reg b := by
  induction xs generalizing s with
  | nil => rfl
  | cons x xs ih => exact (ih (fun y hy => h y (by simp [hy])) _).trans (h x (by simp) s)

theorem restartExchanges_reg {s : State} (hok : s.epsOk = true) {b : Nat} (hb : b ∉ linkStatRegs) :
    (restartExchanges s).reg b = s.reg b := by
  obtain ⟨-, hbound⟩ := epsOk_iff.1 hok
  refine foldl_reg (op := restartOne) (fun e he u => ?_) s
  unfold restartOne
  split
  · exact startExchange_reg _ _ u fun h => hb (h ▸ slinkStat_mem (hbound e he).1)
  · rfl

/-- Endpoints whose exchange is not repeated stay. -/
theorem foldl_restart_stay {l a : Nat} (es : List Ep) (s : State) (h : ∀ e ∈ es, e.link = l → e.addr = a → e.exch = none) :
    (es.foldl restartOne s).ep? l a = s.ep? l a := by
  induction es generalizing s with
  | nil => rfl
  | cons e r ih =>
    refine (ih _ fun x hx => h x (by simp [hx])).trans ?_
    unfold restartOne
    split
    next hexch =>
      rw [startExchange_ep?, if_neg]
      rintro ⟨rfl, rfl⟩
      rw [h e (by simp) rfl rfl] at hexch
      cases hexch
    next => rfl

/-- What one endpoint's turn does to an endpoint. -/
theorem restartOne_ep? (s : State) (e : Ep) (l a : Nat) :
    (restartOne s e).ep? l a =
      if e.exch.isSome ∧ l = e.link ∧ a = e.addr then (s.ep? l a).map (Ep.exchanging (s.timeTag % 65536) s.tb.lt.toNat) else s.ep? l a := by
  unfold restartOne
  split
  next hexch =>
    rw [startExchange_ep?]
    split
    next h => obtain ⟨rfl, rfl⟩ := h; rw [if_pos ⟨hexch, rfl, rfl⟩]
    next h => rw [if_neg fun hk => h hk.2]
  next hexch => rw [if_neg fun hk => hexch hk.1]

/-- An endpoint with an exchange gets a fresh one, from now. -/
theorem foldl_restart_repeats {l a : Nat} (es : List Ep) (s : State) (h : ∃ e ∈ es, e.link = l ∧ e.addr = a ∧ e.exch ≠ none) :
    ∃ g, (es.foldl restartOne s).ep? l a = (s.ep? l a).map (Ep.exchanging g s.tb.lt.toNat) := by
  induction es generalizing s with
  | nil => obtain ⟨e, he, -⟩ := h; cases he
  | cons e r ih =>
    have htb : (restartOne s e).tb = s.tb := (restartOne_touches s e).keeps State.tb
    have hfirst := restartOne_ep? s e l a
    rw [List.foldl_cons]
    by_cases hrest : ∃ e ∈ r, e.link = l ∧ e.addr = a ∧ e.exch ≠ none
    · obtain ⟨g, hg⟩ := ih (restartOne s e) hrest
      refine ⟨g, ?_⟩
      rw [hg, hfirst, htb]
      split
      · rw [Option.map_map]; rfl
      · rfl
    · obtain ⟨x, hx, rfl, rfl, hexch⟩ := h
      obtain rfl : x = e := (List.mem_cons.1 hx).resolve_right fun hr => hrest ⟨x, hr, rfl, rfl, hexch⟩
      refine ⟨s.timeTag % 65536, ?_⟩
      rw [foldl_restart_stay r _ fun y hy hl ha => by_contra fun hne => hrest ⟨y, hy, hl, ha, hne⟩, hfirst,
        if_pos ⟨Option.isSome_iff_ne_none.2 hexch, rfl, rfl⟩]

/-- Endpoints of one list are told apart by their addresses. -/
theorem ep?_mem {s : State} {l a : Nat} {e : Ep} (h : s.ep? l a = some e) : e ∈ s.eps ∧ e.link = l ∧ e.addr = a :=
  ⟨List.mem_of_find?_eq_some h, by simpa using List.find?_some h⟩

theorem ep_unique {s : State} {l a : Nat} {e x : Ep} (hok : s.epsOk = true) (h : s.ep? l a = some e) (hx : x ∈ s.eps) (hl : x.link = l)
    (ha : x.addr = a) : x = e := by
  obtain ⟨he, hl', ha'⟩ := ep?_mem h
  exact List.inj_on_of_nodup_map (epsOk_iff.1 hok).1 hx he (by rw [hl, ha, hl', ha'])

/-- Every exchange in progress is repeated from now, and no other endpoint changes. -/
theorem restartExchanges_redone {s : State} (hok : s.epsOk = true) {l a : Nat} {e : Ep} (he : s.ep? l a = some e) :
    (e.exch = none → (restartExchanges s).ep? l a = some e) ∧
      (e.exch ≠ none → ∃ g, (restartExchanges s).ep? l a = some { e with exch := some (g, s.tb.lt.toNat) }) := by
  obtain ⟨hmem, hl, ha⟩ := ep?_mem he
  refine ⟨fun hexch => ?_, fun hexch => ?_⟩
  · rw [restartExchanges_eq, foldl_restart_stay s.eps s fun x hx hl ha => (ep_unique hok he hx hl ha) ▸ hexch, he]
  · obtain ⟨g, hg⟩ := foldl_restart_repeats s.eps s ⟨e, hmem, hl, ha, hexch⟩
    refine ⟨g, ?_⟩
    rw [restartExchanges_eq, hg, he]
    rfl

/-! ## TIME.TB_INCR (R831, R850) -/

/-- What repeating the exchanges leaves, behind a change of registers alone. -/
abbrev Parts.timing : Parts :=
  { regs := true, evq := true, eps := true, links := true, timeTag := true, phy := true, out := true }

/-- The exchanges of `s` are repeated in `t`. -/
def Redone (s t : State) : Prop := ∀ l a e, s.ep? l a = some e →
  (e.exch = none → t.ep? l a = some e) ∧ (e.exch ≠ none → ∃ g, t.ep? l a = some { e with exch := some (g, t.tb.lt.toNat) })

theorem restartExchanges_redone_of {s u : State} (hok : s.epsOk = true) (heps : u.eps = s.eps) : Redone s (restartExchanges u) := by
  intro l a e he
  have htb : (restartExchanges u).tb = u.tb := (restartExchanges_touches u).keeps State.tb
  have hok' : u.epsOk = true := by rw [State.epsOk, heps]; exact hok
  have he' : u.ep? l a = some e := by rw [State.ep?, heps]; exact he
  rw [htb]
  exact restartExchanges_redone hok' he'

theorem kept_of_reg {A : List Nat} {s t : State} (h : ∀ b, b ∉ A → ¬ eventReg b → t.reg b = s.reg b) : RegFile.kept A s.regs t.regs :=
  KeepsRegs.kept (fun b hb he => h b hb he)

theorem timeTbIncr_plain : Reg.timeTbIncr ∉ linkStatRegs ∧ ¬ eventReg Reg.timeTbIncr :=
  ⟨by decide, not_eventReg (.inr (by decide))⟩

theorem exec_tbIncr (ini : Nat) (v : Word) (s : State) : exec (.tbIncr ini v) s = done s (writeIncr v s.begin_) := rfl

theorem writeIncr_in_range {v : Word} (s : State) (hlo : 0x03FEF9DC ≤ v.toNat) (hhi : v.toNat ≤ 0x04010624) :
    writeIncr v s = if v = s.reg Reg.timeTbIncr then s.setReg Reg.timeTbIncr v else restartExchanges (s.setReg Reg.timeTbIncr v) := by
  unfold writeIncr
  rw [if_pos (by simp [hlo, hhi])]
  simp only [beq_iff_eq, eq_comm (a := v)]

theorem tbIncr_same {s : State} (ini : Nat) {v : Word} (hlo : 0x03FEF9DC ≤ v.toNat) (hhi : v.toNat ≤ 0x04010624)
    (hv : v = s.reg Reg.timeTbIncr) :
    ∃ t, exec (.tbIncr ini v) s = .next t ∧ t.reg Reg.timeTbIncr = v ∧ State.onlyRegs [Reg.timeTbIncr] s t := by
  obtain ⟨t, hdone, hregs, -, honly⟩ := done_onlyRegs (A := [Reg.timeTbIncr]) (s := s) (u := s.begin_.setReg Reg.timeTbIncr v)
    ((RegsOnly.refl _ _).setReg v (by simp))
  rw [exec_tbIncr, writeIncr_in_range _ hlo hhi, if_pos (show v = s.begin_.reg Reg.timeTbIncr from hv)]
  exact ⟨t, hdone, (reg_congr hregs _).trans (State.reg_setReg _ _ _), honly⟩

theorem restart_done {A : List Nat} {s u : State} (hok : s.epsOk = true) (htouch : Touches .events s.begin_ u)
    (hregs : ∀ b, b ∉ A → ¬ eventReg b → u.reg b = s.reg b) :
    done s (restartExchanges u) = .next (restartExchanges u) ∧ Redone s (restartExchanges u) ∧
      State.onlyRegs (A ++ linkStatRegs) s
        { restartExchanges u with eps := s.eps, links := s.links, timeTag := s.timeTag } := by
  have heps : u.eps = s.eps := htouch.keeps State.eps
  have hall : Touches .timing s.begin_ (restartExchanges u) := (htouch.mono).then (restartExchanges_touches u)
  have hok' : u.epsOk = true := by rw [State.epsOk, heps]; exact hok
  refine ⟨hall.done_eq, restartExchanges_redone_of hok heps, hall.back_begin, kept_of_reg fun b hb he => ?_⟩
  rw [List.mem_append, not_or] at hb
  exact (restartExchanges_reg hok' hb.2).trans (hregs b hb.1 he)

theorem tbIncr_changes {s : State} (ini : Nat) {v : Word} (hok : s.epsOk = true) (hlo : 0x03FEF9DC ≤ v.toNat)
    (hhi : v.toNat ≤ 0x04010624) (hv : v ≠ s.reg Reg.timeTbIncr) :
    ∃ t, exec (.tbIncr ini v) s = .next t ∧ t.reg Reg.timeTbIncr = v ∧ Redone s t ∧
      State.onlyRegs ([Reg.timeTbIncr] ++ linkStatRegs) s { t with eps := s.eps, links := s.links, timeTag := s.timeTag } := by
  have htouch : Touches .events s.begin_ (s.begin_.setReg Reg.timeTbIncr v) := (State.setReg_touches _ _ _).mono
  obtain ⟨hdone, hredone, honly⟩ := restart_done (A := [Reg.timeTbIncr]) hok htouch
    fun b hb _ => State.reg_setReg_ne s.begin_ v (by simpa using hb)
  have heps : (s.begin_.setReg Reg.timeTbIncr v).epsOk = true := hok
  have hreg := (restartExchanges_reg heps timeTbIncr_plain.1).trans (State.reg_setReg s.begin_ _ v)
  rw [exec_tbIncr, writeIncr_in_range _ hlo hhi, if_neg (show ¬ v = s.begin_.reg Reg.timeTbIncr from hv)]
  exact ⟨_, hdone, hreg, hredone, honly⟩

theorem tbIncr_refused {s : State} (ini : Nat) {v : Word} (h : v.toNat < 0x03FEF9DC ∨ 0x04010624 < v.toNat) :
    ∃ t, exec (.tbIncr ini v) s = .next t ∧ t.flag Reg.timeStat 1 = true ∧ State.onlyRegs [Reg.timeStat] s t := by
  obtain ⟨t, hdone, hregs, -, honly⟩ := done_onlyRegs (A := [Reg.timeStat]) (s := s) (u := s.begin_.setFlag Reg.timeStat 1 true)
    ((RegsOnly.refl _ _).setFlag 1 true (by simp))
  have hwrite : writeIncr v s.begin_ = s.begin_.setFlag Reg.timeStat 1 true := by
    unfold writeIncr
    rw [if_neg]
    simp only [Bool.and_eq_true, decide_eq_true_eq]
    omega
  rw [exec_tbIncr, hwrite]
  exact ⟨t, hdone, (flag_congr hregs _ _).trans (State.flag_setFlag _ _ _ (by omega)), honly⟩

/-! ## TIME.TB_STEP (R832, R848, R849) -/

theorem exec_tbStep (ini : Nat) (v : Word) (s : State) : exec (.tbStep ini v) s = doneTb s (writeStep ini v s.begin_) := rfl

theorem doneTb_onlyRegs {A : List Nat} {s u : State} (h : RegsOnly (· ∈ A) s.begin_ u) :
    ∃ t, doneTb s u = .next t ∧ t.regs = u.regs ∧ State.onlyRegs A s t := by
  have hk := kept_of_regsOnly h
  obtain ⟨⟨f, q, rfl⟩, h2⟩ := h
  exact ⟨_, rfl, rfl, rfl, hk⟩

theorem Touches.doneTb_eq {m : Parts} {s t : State} (h : Touches m s.begin_ t)
    (hm : (m.pending || m.otp || m.dram || m.flash || m.sram) = false := by rfl) : doneTb s t = .next t := h.doneBus_eq hm

/-- A dropped write to a register of the device. -/
theorem dropWrite_device_eq (ini a : Nat) (s : State) : dropWrite ini a .device s =
    raise 448 (((bump Reg.sysWdropCnt s).setN Reg.sysWdropAddr (a % 2 ^ 32)).setN Reg.sysWdropSrc (256 + ini)) := rfl

theorem dropWrite_device_facts (ini a : Nat) (s : State) :
    (dropWrite ini a .device s).reg Reg.sysWdropCnt = BitVec.ofNat 32 (satWord 24 (s.reg Reg.sysWdropCnt).toNat).1 ∧
      (dropWrite ini a .device s).pendingEvent 448 = true := by
  rw [dropWrite_device_eq]
  refine ⟨?_, pendingEvent_raise_self 448 _ (by norm_num)⟩
  rw [raise_reg 448 _ (by norm_num) (not_eventReg_wdrop (by simp [wdropRegs])), State.reg_setN_ne _ _ (by decide),
    State.reg_setN_ne _ _ (by decide), bump_reg _ (not_eventReg_wdrop (by simp [wdropRegs]))]

theorem tbStep_dropped {s : State} (ini : Nat) {v : Word} (harmed : s.anyArmed = true) (hv : v ≠ s.reg Reg.timeTbStep) :
    ∃ t, exec (.tbStep ini v) s = .next t ∧
      t.reg Reg.sysWdropCnt = BitVec.ofNat 32 (satWord 24 (s.reg Reg.sysWdropCnt).toNat).1 ∧ t.pendingEvent 448 = true ∧
      State.onlyRegs [Reg.sysWdropCnt, Reg.sysWdropAddr, Reg.sysWdropSrc] s t := by
  obtain ⟨t, hdone, hregs, honly⟩ := doneTb_onlyRegs (dropWrite_regsOnly ini Reg.timeTbStep .device s.begin_)
  obtain ⟨hcount, hpend⟩ := dropWrite_device_facts ini Reg.timeTbStep s.begin_
  have hwrite : writeStep ini v s.begin_ = dropWrite ini Reg.timeTbStep .device s.begin_ :=
    if_pos (by rw [anyArmed_begin, harmed]; simpa using (show v ≠ s.begin_.reg Reg.timeTbStep from hv))
  rw [exec_tbStep, hwrite]
  exact ⟨t, hdone, (reg_congr hregs _).trans hcount, (flag_congr hregs _ _).trans hpend, honly⟩

/-- LT after a tick that adds a step. -/
def State.ltAfter (s : State) (step : Int) : Pos := BitVec.ofInt 48 (((tickLt s.tb.lt s.tb.frac s.tb.incr).1.toNat : Int) + step)

/-- The timebase after a tick that adds a step. -/
def State.tbAfter (s : State) (step : Int) : Timebase :=
  { lt := s.ltAfter step, frac := (tickLt s.tb.lt s.tb.frac s.tb.incr).2, cycles := s.tb.cycles + 1, incr := s.reg Reg.timeTbIncr }

theorem tick_eq (step : Int) (s : State) : tick step s = wrapEvents s.tb.lt (s.ltAfter step) { s with tb := s.tbAfter step } := rfl

theorem ltAfter_value (s : State) (step : Int) : ((s.ltAfter step).toNat : Int) =
    (((s.tb.lt.toNat * 2 ^ 24 + s.tb.frac.toNat + s.tb.incr.toNat) / 2 ^ 24 : Nat) + step) % 2 ^ 48 := by
  have hlt : (tickLt s.tb.lt s.tb.frac s.tb.incr).1.toNat =
      (s.tb.lt.toNat * 2 ^ 24 + s.tb.frac.toNat + s.tb.incr.toNat) / 2 ^ 24 % 2 ^ 48 := by
    simp only [tickLt, BitVec.toNat_ofNat]
  rw [State.ltAfter, BitVec.toNat_ofInt, hlt]
  generalize (s.tb.lt.toNat * 2 ^ 24 + s.tb.frac.toNat + s.tb.incr.toNat) / 2 ^ 24 = x
  omega

/-- A change of LT_HI by a tick with a step that is not negative is a rise. -/
theorem before_ltAfter_rise {s : State} {v : Word} (hincr : s.tb.incr.toNat ≤ 0x04010624) (hv : 0 ≤ v.toInt)
    (hhi : (s.ltAfter v.toInt).toNat / 2 ^ 32 ≠ s.tb.lt.toNat / 2 ^ 32) :
    before 48 s.tb.lt.toNat (s.ltAfter v.toInt).toNat = true := by
  have hval := ltAfter_value s v.toInt
  have hlt := s.tb.lt.isLt
  have hnew := (s.ltAfter v.toInt).isLt
  have hfrac := s.tb.frac.isLt
  have hmax : v.toInt < 2 ^ 31 := BitVec.toInt_lt
  generalize (s.ltAfter v.toInt).toNat = new at *
  generalize s.tb.lt.toNat = old at *
  simp only [before, Bool.and_eq_true, bne_iff_ne, decide_eq_true_eq]
  omega

/-- A change of LT_HI by a tick with a step below what a tick adds is a fall. -/
theorem before_ltAfter_fall {s : State} {v : Word} (hincr : s.tb.incr.toNat ≤ 0x04010624) (hv : v.toInt < -10) :
    before 48 s.tb.lt.toNat (s.ltAfter v.toInt).toNat = false := by
  have hval := ltAfter_value s v.toInt
  have hlt := s.tb.lt.isLt
  have hnew := (s.ltAfter v.toInt).isLt
  have hfrac := s.tb.frac.isLt
  have hmin : -2 ^ 31 ≤ v.toInt := BitVec.le_toInt v
  generalize (s.ltAfter v.toInt).toNat = new at *
  generalize s.tb.lt.toNat = old at *
  simp only [before, Bool.and_eq_false_iff, bne_eq_false_iff_eq, decide_eq_false_iff_not]
  omega

theorem wrapEvents_fall {old new : Pos} (s : State) (h : new.toNat / 2 ^ 32 ≠ old.toNat / 2 ^ 32)
    (hb : before 48 old.toNat new.toNat = false) : wrapEvents old new s = raise 452 s := by
  rw [wrapEvents, if_neg (fun e => h (beq_iff_eq.1 e).symm), if_neg (by rw [hb]; simp)]

theorem setTb_touches (tb : Timebase) (s : State) : Touches { tb := true } s { s with tb := tb } := ⟨rfl, rfl⟩

theorem wrapEvents_touches (old new : Pos) (s : State) : Touches .events s (wrapEvents old new s) :=
  Touches.ite (fun _ => Touches.refl) fun _ => Touches.ite (fun _ => raise_touches _ _) fun _ => raise_touches _ _

/-- What a tick changes. -/
abbrev Parts.ticking : Parts := { regs := true, evq := true, tb := true }

theorem tick_touches (step : Int) (s : State) : Touches .ticking s (tick step s) := by
  rw [tick_eq]
  exact ((setTb_touches _ s).mono).then (wrapEvents_touches _ _ _)

theorem tick_tb (step : Int) (s : State) : (tick step s).tb = s.tbAfter step := by
  rw [tick_eq]
  exact (wrapEvents_touches _ _ _).keeps State.tb

theorem wrapEvents_reg (old new : Pos) (s : State) {b : Nat} (hb : ¬ eventReg b) : (wrapEvents old new s).reg b = s.reg b :=
  (wrapEvents_eventOnly old new s).2.1 b hb

theorem tick_reg (step : Int) (s : State) {b : Nat} (hb : ¬ eventReg b) : (tick step s).reg b = s.reg b := by
  rw [tick_eq, wrapEvents_reg _ _ _ hb]
  exact reg_congr (State.regs_withTb s _) b

/-- The events of a tick with a step. -/
theorem tick_pending {s : State} {v : Word} (hincr : s.tb.incr.toNat ≤ 0x04010624)
    (hhi : (s.ltAfter v.toInt).toNat / 2 ^ 32 ≠ s.tb.lt.toNat / 2 ^ 32) :
    (0 ≤ v.toInt → (tick v.toInt s).pendingEvent 451 = true) ∧ (v.toInt < -10 → (tick v.toInt s).pendingEvent 452 = true) := by
  rw [tick_eq]
  refine ⟨fun hv => ?_, fun hv => ?_⟩
  · rw [wrapEvents_rise _ hhi (before_ltAfter_rise hincr hv hhi)]
    exact pendingEvent_raise_self 451 _ (by norm_num)
  · rw [wrapEvents_fall _ hhi (before_ltAfter_fall hincr hv)]
    exact pendingEvent_raise_self 452 _ (by norm_num)

/-- The timebase has taken the step: TIME.TB_STEP, the tick, and TB_STEPPED. -/
def steppedTb (v : Word) (s : State) : State := raise 453 (tick v.toInt (s.setReg Reg.timeTbStep v))

theorem steppedTb_touches (v : Word) (s : State) : Touches .ticking s (steppedTb v s) :=
  (((State.setReg_touches s _ _).mono).then (tick_touches _ _)).then (raise_touches _ _)

theorem steppedTb_tb (v : Word) (s : State) : (steppedTb v s).tb = s.tbAfter v.toInt := by
  have hincr : (s.setReg Reg.timeTbStep v).reg Reg.timeTbIncr = s.reg Reg.timeTbIncr := State.reg_setReg_ne _ _ (by decide)
  have htb : (s.setReg Reg.timeTbStep v).tb = s.tb := (State.setReg_touches s _ _).keeps State.tb
  rw [steppedTb, (raise_touches 453 _).keeps State.tb, tick_tb, State.tbAfter, State.tbAfter, State.ltAfter, State.ltAfter, hincr, htb]

theorem timeTbStep_plain : Reg.timeTbStep ∉ linkStatRegs ∧ ¬ eventReg Reg.timeTbStep :=
  ⟨by decide, not_eventReg (.inr (by decide))⟩

theorem steppedTb_reg (v : Word) (s : State) :
    (steppedTb v s).reg Reg.timeTbStep = v ∧ ∀ b, b ∉ [Reg.timeTbStep] → ¬ eventReg b → (steppedTb v s).reg b = s.reg b := by
  refine ⟨?_, fun b hb he => ?_⟩
  · rw [steppedTb, raise_reg 453 _ (by norm_num) timeTbStep_plain.2, tick_reg _ _ timeTbStep_plain.2, State.reg_setReg]
  · rw [steppedTb, raise_reg 453 _ (by norm_num) he, tick_reg _ _ he, State.reg_setReg_ne _ _ (by simpa using hb)]

theorem steppedTb_pending {s : State} {v : Word} (hincr : s.tb.incr.toNat ≤ 0x04010624) :
    (steppedTb v s).pendingEvent 453 = true ∧ ((s.ltAfter v.toInt).toNat / 2 ^ 32 ≠ s.tb.lt.toNat / 2 ^ 32 →
      (0 ≤ v.toInt → (steppedTb v s).pendingEvent 451 = true) ∧ (v.toInt < -10 → (steppedTb v s).pendingEvent 452 = true)) := by
  have htb : (s.setReg Reg.timeTbStep v).tb = s.tb := (State.setReg_touches s _ _).keeps State.tb
  have hafter : (s.setReg Reg.timeTbStep v).ltAfter v.toInt = s.ltAfter v.toInt := by rw [State.ltAfter, State.ltAfter, htb]
  refine ⟨pendingEvent_raise_self 453 _ (by norm_num), fun hhi => ?_⟩
  obtain ⟨hrise, hfall⟩ := tick_pending (s := s.setReg Reg.timeTbStep v) (v := v) (by rw [htb]; exact hincr) (by rw [hafter, htb]; exact hhi)
  exact ⟨fun hv => pendingEvent_raise 453 451 (by norm_num) (by norm_num) (hrise hv),
    fun hv => pendingEvent_raise 453 452 (by norm_num) (by norm_num) (hfall hv)⟩

theorem evtPend_not_linkStat (src : Nat) (h : src < 512) : Reg.sysEvtPend (src / 32) ∉ linkStatRegs := by
  intro hmem
  obtain ⟨l, -, hl⟩ := List.mem_map.1 hmem
  unfold Reg.slinkStat Reg.sysEvtPend at hl
  omega

theorem restartExchanges_pending {s : State} (hok : s.epsOk = true) {src : Nat} (h : src < 512) (hp : s.pendingEvent src = true) :
    (restartExchanges s).pendingEvent src = true := by
  rw [State.pendingEvent, State.flag, restartExchanges_reg hok (evtPend_not_linkStat src h)]
  exact hp

theorem tbStep_done {s : State} (ini : Nat) {v : Word} (hfree : s.anyArmed = false ∨ v = s.reg Reg.timeTbStep) (hok : s.epsOk = true)
    (hincr : s.tb.incr.toNat ≤ 0x04010624) :
    ∃ t, exec (.tbStep ini v) s = .next t ∧ t.reg Reg.timeTbStep = v ∧ t.pendingEvent 453 = true ∧
      (t.tb.lt.toNat : Int) =
        (((s.tb.lt.toNat * 2 ^ 24 + s.tb.frac.toNat + s.tb.incr.toNat) / 2 ^ 24 : Nat) + v.toInt) % 2 ^ 48 ∧
      t.tb.cycles = s.tb.cycles + 1 ∧
      (t.tb.lt.toNat / 2 ^ 32 ≠ s.tb.lt.toNat / 2 ^ 32 →
        (0 ≤ v.toInt → t.pendingEvent 451 = true) ∧ (v.toInt < -10 → t.pendingEvent 452 = true)) ∧
      Redone s t ∧ State.onlyRegs ([Reg.timeTbStep] ++ linkStatRegs) s
        { t with tb := s.tb, eps := s.eps, links := s.links, timeTag := s.timeTag } := by
  have hsame : s.anyArmed = true → v = s.begin_.reg Reg.timeTbStep := fun h => hfree.resolve_left (by rw [h]; simp)
  have hwrite : writeStep ini v s.begin_ = restartExchanges (steppedTb v s.begin_) :=
    if_neg (by rw [anyArmed_begin]; simpa using hsame)
  have hstep := steppedTb_touches v s.begin_
  have htb := steppedTb_tb v s.begin_
  obtain ⟨hval, hregs⟩ := steppedTb_reg v s.begin_
  obtain ⟨hstepped, hwrap⟩ := steppedTb_pending (s := s.begin_) (v := v) hincr
  rw [exec_tbStep, hwrite]
  generalize steppedTb v s.begin_ = u at hstep htb hval hregs hstepped hwrap
  have heps : u.eps = s.eps := hstep.keeps State.eps
  have hok' : u.epsOk = true := by rw [State.epsOk, heps]; exact hok
  have hall : Touches { regs := true, evq := true, tb := true, eps := true, links := true, timeTag := true, phy := true, out := true }
      s.begin_ (restartExchanges u) := (hstep.mono).then (restartExchanges_touches u)
  have htb' : (restartExchanges u).tb = s.begin_.tbAfter v.toInt := ((restartExchanges_touches u).keeps State.tb).trans htb
  have hlt : (restartExchanges u).tb.lt = s.ltAfter v.toInt := congrArg Timebase.lt htb'
  have hredone := restartExchanges_redone_of hok heps
  have hreg := fun b hb => restartExchanges_reg (b := b) hok' hb
  have hpend := fun src h hp => restartExchanges_pending (src := src) hok' h hp
  generalize restartExchanges u = t at hall htb' hlt hredone hreg hpend
  refine ⟨t, hall.doneTb_eq, (hreg _ timeTbStep_plain.1).trans hval, hpend _ (by norm_num) hstepped, ?_,
    congrArg Timebase.cycles htb', fun hhi => ?_, hredone, hall.back_begin, kept_of_reg fun b hb he => ?_⟩
  · rw [hlt]
    exact ltAfter_value s v.toInt
  · rw [hlt] at hhi
    obtain ⟨hrise, hfall⟩ := hwrap hhi
    exact ⟨fun hv => hpend _ (by norm_num) (hrise hv), fun hv => hpend _ (by norm_num) (hfall hv)⟩
  · rw [List.mem_append, not_or] at hb
    exact (hreg b hb.2).trans (hregs b hb.1 he)

/-! ## The next change of LT_HI (R829) -/

/-- LT with its fraction. -/
def Timebase.value (t : Timebase) : Nat := t.lt.toNat * 2 ^ 24 + t.frac.toNat

/-- The timebase whose LT and fraction are `v`. -/
def Timebase.at (v : Nat) (cycles : Dword) (incr : Word) : Timebase :=
  { lt := BitVec.ofNat 48 (v / 2 ^ 24), frac := BitVec.ofNat 24 v, cycles := cycles, incr := incr }

theorem idleTick_tb_value (s : State) : (idleTick s).tb =
    Timebase.at (s.tb.value + s.tb.incr.toNat) (s.tb.cycles + 1) (s.reg Reg.timeTbIncr) := by
  rw [idleTick_tb]
  rfl

theorem tickLt_at (v : Nat) (c : Dword) (i : Word) (k : Nat) :
    Timebase.at ((Timebase.at v c i).value + k) c i = Timebase.at (v + k) c i := by
  have hlt : ((Timebase.at v c i).value + k) % 2 ^ 72 = (v + k) % 2 ^ 72 := by
    simp only [Timebase.value, Timebase.at, BitVec.toNat_ofNat]
    omega
  generalize (Timebase.at v c i).value + k = x at hlt
  have hint : BitVec.ofNat 48 (x / 2 ^ 24) = BitVec.ofNat 48 ((v + k) / 2 ^ 24) := by
    refine BitVec.eq_of_toNat_eq ?_
    rw [BitVec.toNat_ofNat, BitVec.toNat_ofNat]
    omega
  have hfrac : BitVec.ofNat 24 x = BitVec.ofNat 24 (v + k) := by
    refine BitVec.eq_of_toNat_eq ?_
    rw [BitVec.toNat_ofNat, BitVec.toNat_ofNat]
    omega
  rw [Timebase.at, Timebase.at, hint, hfrac]

theorem idleTick_incr (s : State) : (idleTick s).reg Reg.timeTbIncr = s.reg Reg.timeTbIncr := by
  rw [reg_congr (idleTick_regs s), tick_reg 0 s timeTbIncr_plain.2]

/-- The timebase after one tick of the empty queue, and any number more. -/
theorem iterate_idleTick_tb (s : State) (n : Nat) :
    (idleTick^[n + 1] s).tb = Timebase.at (s.tb.value + s.tb.incr.toNat + n * (s.reg Reg.timeTbIncr).toNat)
      (s.tb.cycles + BitVec.ofNat 64 (n + 1)) (s.reg Reg.timeTbIncr) ∧
      (idleTick^[n + 1] s).reg Reg.timeTbIncr = s.reg Reg.timeTbIncr := by
  induction n with
  | zero =>
    rw [Function.iterate_one, idleTick_tb_value, Nat.zero_mul, Nat.add_zero]
    exact ⟨rfl, idleTick_incr s⟩
  | succ n ih =>
    obtain ⟨htb, hreg⟩ := ih
    rw [Function.iterate_succ_apply']
    refine ⟨?_, (idleTick_incr _).trans hreg⟩
    have hcycles : s.tb.cycles + BitVec.ofNat 64 (n + 1) + 1 = s.tb.cycles + BitVec.ofNat 64 (n + 1 + 1) := by
      rw [BitVec.add_assoc, BitVec.ofNat_add (n + 1) 1]
      rfl
    rw [idleTick_tb_value, hreg, htb]
    have hat := tickLt_at (s.tb.value + s.tb.incr.toNat + n * (s.reg Reg.timeTbIncr).toNat) (s.tb.cycles + BitVec.ofNat 64 (n + 1))
      (s.reg Reg.timeTbIncr) (s.reg Reg.timeTbIncr).toNat
    rw [Nat.add_assoc _ (n * _), ← Nat.succ_mul] at hat
    rw [← hcycles]
    exact congrArg (fun tb : Timebase => { tb with cycles := s.tb.cycles + BitVec.ofNat 64 (n + 1) + 1 }) hat

/-- The ticks after the first that bring the change. -/
def Timebase.ticksToWrap (t : Timebase) (incr : Word) : Nat :=
  if (t.lt.toNat / 2 ^ 32 + 1) * 2 ^ 56 ≤ t.value + t.incr.toNat || incr == 0 then 0
  else ceilDiv ((t.lt.toNat / 2 ^ 32 + 1) * 2 ^ 56 - (t.value + t.incr.toNat)) incr.toNat

theorem toWrap_eq (t : Timebase) (incr : Word) : t.toWrap incr =
    Timebase.at (t.value + t.incr.toNat + t.ticksToWrap incr * incr.toNat) (t.cycles + BitVec.ofNat 64 (t.ticksToWrap incr + 1)) incr := rfl

theorem ceilDiv_bounds {a b : Nat} (hb : 0 < b) : a ≤ ceilDiv a b * b ∧ ceilDiv a b * b < a + b := by
  unfold ceilDiv
  have hdiv := Nat.div_add_mod (a + b - 1) b
  have hmod := Nat.mod_lt (a + b - 1) hb
  rw [Nat.mul_comm] at hdiv
  omega

/-- The value at the change, between the goal and one tick above it. -/
theorem toWrap_bounds {t : Timebase} {incr : Word} (hnow : t.incr.toNat ≤ 0x04010624) (hpos : 0 < incr.toNat)
    (hmax : incr.toNat ≤ 0x04010624) :
    (t.lt.toNat / 2 ^ 32 + 1) * 2 ^ 56 ≤ t.value + t.incr.toNat + t.ticksToWrap incr * incr.toNat ∧
      t.value + t.incr.toNat + t.ticksToWrap incr * incr.toNat < (t.lt.toNat / 2 ^ 32 + 1) * 2 ^ 56 + 5 * 2 ^ 24 := by
  have hvalue : t.value < (t.lt.toNat / 2 ^ 32 + 1) * 2 ^ 56 := by
    have hfrac := t.frac.isLt
    unfold Timebase.value
    omega
  have hne : (incr == 0) = false := by
    simp only [beq_eq_false_iff_ne, ne_eq]
    rintro rfl
    simp at hpos
  obtain ⟨hlo, hhi⟩ := ceilDiv_bounds (a := (t.lt.toNat / 2 ^ 32 + 1) * 2 ^ 56 - (t.value + t.incr.toNat)) hpos
  unfold Timebase.ticksToWrap
  rw [hne, Bool.or_false]
  by_cases hgoal : (t.lt.toNat / 2 ^ 32 + 1) * 2 ^ 56 ≤ t.value + t.incr.toNat
  · rw [if_pos (by simpa using hgoal)]
    omega
  · rw [if_neg (by simpa using hgoal)]
    omega

theorem toWrap_lt {t : Timebase} {incr : Word} (hnow : t.incr.toNat ≤ 0x04010624) (hpos : 0 < incr.toNat)
    (hmax : incr.toNat ≤ 0x04010624) :
    (t.toWrap incr).lt.toNat / 2 ^ 32 = (t.lt.toNat / 2 ^ 32 + 1) % 2 ^ 16 ∧ (t.toWrap incr).lt.toNat % 2 ^ 32 < 5 := by
  obtain ⟨hlo, hhi⟩ := toWrap_bounds hnow hpos hmax
  rw [toWrap_eq, Timebase.at, BitVec.toNat_ofNat]
  generalize t.value + t.incr.toNat + t.ticksToWrap incr * incr.toNat = v at hlo hhi
  omega

theorem exec_tbWrap (s : State) :
    exec .tbWrap s = doneTb s (raise 451 { s.begin_ with tb := s.tb.toWrap (s.reg Reg.timeTbIncr) }) := rfl

theorem tbWrap_done {s : State} (hnow : s.tb.incr.toNat ≤ 0x04010624) (hpos : 0 < (s.reg Reg.timeTbIncr).toNat)
    (hmax : (s.reg Reg.timeTbIncr).toNat ≤ 0x04010624) :
    ∃ t, exec .tbWrap s = .next t ∧ t.pendingEvent 451 = true ∧ State.onlyRegs [] s { t with tb := s.tb } ∧
      t.tb.lt.toNat / 2 ^ 32 = (s.tb.lt.toNat / 2 ^ 32 + 1) % 2 ^ 16 ∧ t.tb.lt.toNat % 2 ^ 32 < 5 ∧
      ∃ n, t.tb = ((idleTick^[n + 1]) s).tb := by
  obtain ⟨hhi, hlo⟩ := toWrap_lt hnow hpos hmax
  have hticks := (iterate_idleTick_tb s (s.tb.ticksToWrap (s.reg Reg.timeTbIncr))).1
  rw [← toWrap_eq] at hticks
  rw [exec_tbWrap]
  generalize s.tb.toWrap (s.reg Reg.timeTbIncr) = tb at hhi hlo hticks
  have htouch : Touches .ticking s.begin_ (raise 451 { s.begin_ with tb := tb }) := ((setTb_touches tb s.begin_).mono).then (raise_touches _ _)
  have htb : (raise 451 { s.begin_ with tb := tb }).tb = tb := (raise_touches 451 { s.begin_ with tb := tb }).keeps State.tb
  have hreg : ∀ b, ¬ eventReg b → (raise 451 { s.begin_ with tb := tb }).reg b = s.reg b := fun b hb =>
    (raise_reg 451 _ (by norm_num) hb).trans (reg_congr (State.regs_withTb s.begin_ tb) b)
  have hpend := pendingEvent_raise_self 451 { s.begin_ with tb := tb } (by norm_num)
  generalize raise 451 { s.begin_ with tb := tb } = t at htouch htb hreg hpend
  refine ⟨t, htouch.doneTb_eq, hpend, ⟨htouch.back_begin, kept_of_reg fun b _ he => hreg b he⟩, htb ▸ hhi, htb ▸ hlo, _,
    htb.trans hticks.symm⟩

/-! ## TIME_CORR (R842 to R844) -/

/-- An endpoint corrected now. -/
def Ep.corrected (now : Nat) (e : Ep) : Ep := { e with corrAt := some now }

/-- The payload of TIME_CORR. -/
def corrWord (off rate : Int) : Dword :=
  BitVec.ofNat 64 (ofInt 32 (clampI (-(2 ^ 31 - 1)) (2 ^ 31 - 1) off) + ofInt 32 rate * 2 ^ 32)

theorem sendTimeCorr_eq (l a : Nat) (off rate : Int) (s : State) :
    sendTimeCorr l a off rate s = (sendFor none none l 2 0x22 a [corrWord off rate] s).setEp l a (Ep.corrected s.now) := rfl

theorem sendTimeCorr_touches (l a : Nat) (off rate : Int) (s : State) : Touches .packets s (sendTimeCorr l a off rate s) := by
  rw [sendTimeCorr_eq]
  exact (sendFor_touches none none l 2 0x22 a _ s).then (State.setEp_touches _ _ _ _)

theorem sendTimeCorr_reg (l a : Nat) (off rate : Int) (s : State) {b : Nat} (hb : b ≠ Reg.slinkStat l) :
    (sendTimeCorr l a off rate s).reg b = s.reg b := by
  rw [sendTimeCorr_eq]
  exact (reg_congr ((State.setEp_touches _ _ _ _).keeps State.regs) b).trans (sendFor_reg none none l 2 0x22 a _ s hb)

theorem sendTimeCorr_ep? (l a : Nat) (off rate : Int) (s : State) (l' a' : Nat) :
    (sendTimeCorr l a off rate s).ep? l' a' = if l' = l ∧ a' = a then (s.ep? l a).map (Ep.corrected s.now) else s.ep? l' a' := by
  have hsent : ∀ l' a', (sendFor none none l 2 0x22 a [corrWord off rate] s).ep? l' a' = s.ep? l' a' := fun l' a' => by
    rw [State.ep?, sendFor_eps _ _ _ _ _ _ _ (by decide), State.ep?]
  rw [sendTimeCorr_eq, ep?_setEp _ l a (f := Ep.corrected s.now) (fun _ => ⟨rfl, rfl⟩), hsent, hsent]

/-- The endpoint takes a correction: it is ACTIVE and no peer. -/
def State.corrects (s : State) (l a : Nat) : Bool := s.epActive l a && !(((s.epDecl? l a).map EpDecl.cls) == some 4)

theorem corrects_iff (s : State) (l a : Nat) :
    s.corrects l a = true ↔ s.epActive l a = true ∧ (s.epDecl? l a).map EpDecl.cls ≠ some 4 := by
  simp [State.corrects]

/-- One endpoint's turn. -/
def correctOne (off rate : Int) (s : State) (e : Ep) : State :=
  if s.corrects e.link e.addr then sendTimeCorr e.link e.addr off rate s else s

theorem correctAll_eq (off rate : Int) (s : State) : correctAll off rate s = s.eps.foldl (correctOne off rate) s := by
  have hone : (fun (s : State) (e : Ep) => if s.epActive e.link e.addr then correct e.link e.addr off rate s else s) =
      correctOne off rate := by
    funext s e
    unfold correct correctOne State.corrects
    cases s.epActive e.link e.addr <;> cases ((s.epDecl? e.link e.addr).map EpDecl.cls) == some 4 <;> rfl
  rw [correctAll, hone]

theorem correctOne_touches (off rate : Int) (s : State) (e : Ep) : Touches .packets s (correctOne off rate s e) :=
  Touches.ite (fun _ => sendTimeCorr_touches _ _ _ _ _) fun _ => Touches.refl

theorem correctOne_reg (off rate : Int) (s : State) {e : Ep} (he : e.link < 16) {b : Nat} (hb : b ∉ linkStatRegs) :
    (correctOne off rate s e).reg b = s.reg b := by
  unfold correctOne
  split
  · exact sendTimeCorr_reg _ _ _ _ s fun h => hb (h ▸ slinkStat_mem he)
  · rfl

theorem correctOne_ep? (off rate : Int) (s : State) (e : Ep) (l a : Nat) :
    (correctOne off rate s e).ep? l a =
      if s.corrects l a = true ∧ e.link = l ∧ e.addr = a then (s.ep? l a).map (Ep.corrected s.now) else s.ep? l a := by
  unfold correctOne
  split
  next h =>
    rw [sendTimeCorr_ep?]
    split
    next hk => obtain ⟨rfl, rfl⟩ := hk; rw [if_pos ⟨h, rfl, rfl⟩]
    next hk => rw [if_neg fun h' => hk ⟨h'.2.1.symm, h'.2.2.symm⟩]
  next h =>
    rw [if_neg]
    rintro ⟨h', rfl, rfl⟩
    exact h h'

theorem epStat_not_linkStat {l a : Nat} (ha : a < 64) : Reg.slinkEpStat l a ∉ linkStatRegs := by
  intro hmem
  obtain ⟨k, -, hk⟩ := List.mem_map.1 hmem
  unfold Reg.slinkStat Reg.slinkEpStat at hk
  omega

/-- Whether an endpoint takes a correction hangs on its state and its declaration alone. -/
theorem corrects_congr {s t : State} {l a : Nat} (hreg : t.reg (Reg.slinkEpStat l a) = s.reg (Reg.slinkEpStat l a)) (hdev : t.dev = s.dev) :
    t.corrects l a = s.corrects l a := by
  unfold State.corrects State.epActive State.epState State.fget State.epDecl?
  rw [hreg, hdev]

theorem foldl_correct_ep? {off rate : Int} {l a : Nat} (ha : a < 64) (es : List Ep) (s : State)
    (hes : ∀ e ∈ es, e.link < 16) :
    (es.foldl (correctOne off rate) s).ep? l a =
      if s.corrects l a = true ∧ ∃ e ∈ es, e.link = l ∧ e.addr = a then (s.ep? l a).map (Ep.corrected s.now) else s.ep? l a := by
  induction es generalizing s with
  | nil => simp
  | cons e r ih =>
    have htouch := correctOne_touches off rate s e
    have hcorr : (correctOne off rate s e).corrects l a = s.corrects l a :=
      corrects_congr (correctOne_reg off rate s (hes e (by simp)) (epStat_not_linkStat ha)) (htouch.keeps State.dev)
    have hnow : (correctOne off rate s e).now = s.now := htouch.keeps State.now
    rw [List.foldl_cons, ih _ fun x hx => hes x (by simp [hx]), hcorr, hnow, correctOne_ep?]
    by_cases hc : s.corrects l a = true
    · by_cases hkey : e.link = l ∧ e.addr = a
      · rw [if_pos (show s.corrects l a = true ∧ e.link = l ∧ e.addr = a from ⟨hc, hkey⟩),
          if_pos (show s.corrects l a = true ∧ ∃ x ∈ e :: r, x.link = l ∧ x.addr = a from ⟨hc, e, by simp, hkey⟩)]
        split
        · rw [Option.map_map]; rfl
        · rfl
      · rw [if_neg (show ¬(s.corrects l a = true ∧ e.link = l ∧ e.addr = a) from fun h => hkey h.2)]
        refine if_congr (and_congr_right fun _ => ?_) rfl rfl
        simp [hkey]
    · simp [hc]

theorem correctAll_touches (off rate : Int) (s : State) : Touches .packets s (correctAll off rate s) := by
  rw [correctAll_eq]
  exact Touches.foldl (correctOne_touches off rate) s.eps s

theorem correctAll_reg (off rate : Int) {s : State} (hok : s.epsOk = true) {b : Nat} (hb : b ∉ linkStatRegs) :
    (correctAll off rate s).reg b = s.reg b := by
  rw [correctAll_eq]
  exact foldl_reg (fun e he u => correctOne_reg off rate u ((epsOk_iff.1 hok).2 e he).1 hb) s

theorem correctAll_ep? (off rate : Int) {s : State} (hok : s.epsOk = true) {l a : Nat} {e : Ep} (he : s.ep? l a = some e) :
    (correctAll off rate s).ep? l a = some (if s.corrects l a then Ep.corrected s.now e else e) := by
  obtain ⟨hmem, rfl, rfl⟩ := ep?_mem he
  obtain ⟨-, ha⟩ := (epsOk_iff.1 hok).2 e hmem
  rw [correctAll_eq, foldl_correct_ep? ha _ _ fun x hx => ((epsOk_iff.1 hok).2 x hx).1, he]
  by_cases hc : s.corrects e.link e.addr = true
  · rw [if_pos ⟨hc, e, hmem, rfl, rfl⟩, if_pos hc]
    rfl
  · rw [if_neg fun h => hc h.1, if_neg hc]

/-- The one endpoint of a link with room gets its correction at once. -/
theorem correctAll_out {off rate : Int} {s : State} {e : Ep} (heps : s.eps = [e]) (hcorr : s.corrects e.link e.addr = true)
    (hroom : (s.link e.link).canSend 2 3 = true) (hqueue : (s.link e.link).queue = []) :
    (correctAll off rate s).out = s.out ++ [(e.link, 0x22, e.addr, [(corrWord off rate).toNat])] := by
  have hactive := ((corrects_iff s _ _).1 hcorr).1
  have hstate : s.epState e.link e.addr = 4 := by simpa [State.epActive] using hactive
  have hawake : s.asleep e.link = false := by
    unfold State.asleep
    rw [heps]
    simp [hstate]
  rw [correctAll_eq, heps, List.foldl_cons, List.foldl_nil, correctOne, if_pos hcorr, sendTimeCorr_eq,
    (State.setEp_touches _ _ _ _).keeps State.out, sendFor_now hawake (by simp [hqueue]) hroom, startPacket_out]
  rfl

theorem correct_done {s : State} (off rate : Int) (hok : s.epsOk = true) :
    done s (correctAll off rate s.begin_) = .next (correctAll off rate s.begin_) ∧
      State.onlyRegs ([] ++ linkStatRegs) s
        { correctAll off rate s.begin_ with eps := s.eps, links := s.links, timeTag := s.timeTag } := by
  have hall : Touches .timing s.begin_ (correctAll off rate s.begin_) := (correctAll_touches off rate s.begin_).mono
  exact ⟨hall.done_eq, hall.back_begin, kept_of_reg fun b hb _ => correctAll_reg off rate (s := s.begin_) hok hb⟩

theorem exec_correction {s : State} {c : Instr} {off rate : Int}
    (h : (∃ old : Word, c = .incrTimeCorr old ∧ off = 0 ∧
        rate = rneDiv ((((s.reg Reg.timeTbIncr).toNat : Int) - old.toNat) * 10 ^ 11) (2 ^ 26)) ∨
      (∃ step : Int, c = .stepTimeCorr step ∧ off = -step ∧ rate = 0)) : exec c s = done s (correctAll off rate s.begin_) := by
  rcases h with ⟨old, rfl, rfl, rfl⟩ | ⟨step, rfl, rfl, rfl⟩ <;> rfl

/-- Settles O46: repeated exchanges and corrections go through the endpoints one by one; the next change of LT_HI is the first tick
whose sum passes it. -/
theorem timebaseIsCorrectedAndFollowed : Obligations.TimebaseIsCorrectedAndFollowed := by
  refine ⟨fun s ini v hlo hhi hok => ?_, fun s ini v h => tbIncr_refused ini h, fun s ini v harmed hv => tbStep_dropped ini harmed hv,
    fun s ini v hfree hok hincr => tbStep_done ini hfree hok hincr, fun s hnow hpos hmax => tbWrap_done hnow hpos hmax,
    fun s c off rate hok hc => ?_⟩
  · by_cases hv : v = s.reg Reg.timeTbIncr
    · obtain ⟨t, ht, hreg, honly⟩ := tbIncr_same ini hlo hhi hv
      exact ⟨t, ht, hreg, fun _ => honly, fun h => absurd hv h⟩
    · obtain ⟨t, ht, hreg, hredone, honly⟩ := tbIncr_changes ini hok hlo hhi hv
      exact ⟨t, ht, hreg, fun h => absurd h hv, fun _ => ⟨hredone, honly⟩⟩
  · obtain ⟨hdone, honly⟩ := correct_done off rate hok
    rw [exec_correction hc]
    refine ⟨_, hdone, honly, fun l a e he => ?_, fun e heps hdue hroom hqueue => ?_⟩
    · obtain ⟨-, rfl, rfl⟩ := ep?_mem he
      have hep := correctAll_ep? off rate (s := s.begin_) hok he
      refine ⟨fun hdue => ?_, fun hdue => ?_⟩
      · rw [hep, if_pos ((corrects_iff s.begin_ _ _).2 hdue)]
        rfl
      · rw [hep, if_neg fun h => hdue ((corrects_iff s.begin_ _ _).1 h)]
    · rw [correctAll_out (s := s.begin_) heps ((corrects_iff s.begin_ _ _).2 hdue) hroom hqueue, corrWord, BitVec.toNat_ofNat]
      rfl

end Sys2Proof.Machine

/-! PROOFS. Announcements, time checks and power states of endpoints (R600 to R624). -/

namespace Sys2Proof.Machine

-- One theorem after the other: many at once ask for too many threads.
set_option Elab.async false

/-! ## Registers of endpoints -/

theorem epStat_ne_stat {l a : Nat} (ha : a < 64) (l' : Nat) : Reg.slinkEpStat l a ≠ Reg.slinkStat l' := by
  unfold Reg.slinkEpStat Reg.slinkStat
  omega

theorem epOffset_ne_stat {l a : Nat} (ha : a < 64) (l' : Nat) : Reg.slinkEpOffset l a ≠ Reg.slinkStat l' := by
  unfold Reg.slinkEpOffset Reg.slinkStat
  omega

theorem epRej_ne_stat {l a : Nat} (ha : a < 64) (l' : Nat) : Reg.slinkEpRej l a ≠ Reg.slinkStat l' := by
  unfold Reg.slinkEpRej Reg.slinkStat
  omega

theorem epStat_ne_offset (l a l' a' : Nat) : Reg.slinkEpStat l a ≠ Reg.slinkEpOffset l' a' := by
  unfold Reg.slinkEpStat Reg.slinkEpOffset
  omega

theorem epStat_ne_rej (l a l' a' : Nat) : Reg.slinkEpStat l a ≠ Reg.slinkEpRej l' a' := by
  unfold Reg.slinkEpStat Reg.slinkEpRej
  omega

theorem epStat_ne_laneStat {l a : Nat} (ha : a < 64) (k : Nat) : Reg.slinkEpStat l a ≠ Reg.laneStat k := by
  unfold Reg.slinkEpStat Reg.laneStat
  omega

theorem epStat_ne_epStat {l a l' a' : Nat} (ha : a < 64) (ha' : a' < 64) (h : ¬(l' = l ∧ a' = a)) :
    Reg.slinkEpStat l' a' ≠ Reg.slinkEpStat l a := by
  unfold Reg.slinkEpStat
  omega

theorem epReg_plain {b : Nat} (h : 0x2000300000 ≤ b) : ¬ eventReg b := not_eventReg (.inr (by omega))

theorem epStat_plain (l a : Nat) : ¬ eventReg (Reg.slinkEpStat l a) := epReg_plain (by unfold Reg.slinkEpStat; omega)
theorem epOffset_plain (l a : Nat) : ¬ eventReg (Reg.slinkEpOffset l a) := epReg_plain (by unfold Reg.slinkEpOffset; omega)
theorem epRej_plain (l a : Nat) : ¬ eventReg (Reg.slinkEpRej l a) := epReg_plain (by unfold Reg.slinkEpRej; omega)

theorem evLink_lt {l : Nat} (hl : l < 16) : evLink l < 512 := by
  unfold evLink
  omega

theorem fget_of_reg {s t : State} {b : Nat} (h : t.reg b = s.reg b) (hi lo : Nat) : t.fget b hi lo = s.fget b hi lo := by
  unfold State.fget
  rw [h]

theorem epState_of_reg {s t : State} {l a : Nat} (h : t.reg (Reg.slinkEpStat l a) = s.reg (Reg.slinkEpStat l a)) :
    t.epState l a = s.epState l a := fget_of_reg h 3 0

/-! ## The state of an endpoint (R604) -/

theorem setEpState_reg (l a st : Nat) (s : State) {b : Nat} (hep : b ≠ Reg.slinkEpStat l a) (hlink : b ≠ Reg.slinkStat l) :
    (setEpState l a st s).reg b = s.reg b :=
  (State.reg_fset_ne _ _ _ _ hlink).trans (State.reg_fset_ne _ _ _ _ hep)

theorem setEpState_epState {l a st : Nat} (s : State) (ha : a < 64) (hst : st < 16) : (setEpState l a st s).epState l a = st := by
  refine (epState_of_reg (State.reg_fset_ne _ _ _ _ (epStat_ne_stat ha l))).trans ?_
  exact (State.fget_fset s _ st (by decide) (by decide)).trans (Nat.mod_eq_of_lt hst)

theorem setEpState_other {l a l' a' : Nat} (st : Nat) (s : State) (ha : a < 64) (ha' : a' < 64) (h : ¬(l' = l ∧ a' = a)) :
    (setEpState l a st s).epState l' a' = s.epState l' a' :=
  epState_of_reg (setEpState_reg l a st s (epStat_ne_epStat ha ha' h) (epStat_ne_stat ha' l))

/-- The delay shown beside the state stays. -/
theorem setEpState_delay {l a : Nat} (st : Nat) (s : State) (ha : a < 64) :
    (setEpState l a st s).fget (Reg.slinkEpStat l a) 31 16 = s.fget (Reg.slinkEpStat l a) 31 16 := by
  refine (State.fget_fset_ne _ _ (by decide) (by decide) (by decide) (.inl (epStat_ne_stat ha l))).trans ?_
  exact State.fget_fset_ne _ _ (by decide) (by decide) (by decide) (.inr (.inr (by decide)))

/-! ## Endpoints stay declared -/

theorem ep?_isSome_setEp (s : State) (l a : Nat) {f : Ep → Ep} (hf : ∀ e, (f e).link = e.link ∧ (f e).addr = e.addr) (l' a' : Nat) :
    ((s.setEp l a f).ep? l' a').isSome = (s.ep? l' a').isSome := by
  rw [ep?_setEp s l a hf]
  split
  next h => obtain ⟨rfl, rfl⟩ := h; exact Option.isSome_map
  next => rfl

theorem ep?_congr {s t : State} (h : t.eps = s.eps) (l a : Nat) : t.ep? l a = s.ep? l a := by
  rw [State.ep?, h, State.ep?]

theorem ep?_isSome_startPacket (l vc type dest : Nat) (payload : List Dword) (s : State) (l' a' : Nat) :
    ((startPacket l vc type dest payload s).ep? l' a').isSome = (s.ep? l' a').isSome := by
  rw [ep?_congr (startPacket_eps l vc type dest payload s)]
  by_cases h : type = 0x20
  · subst h
    rw [stampRequest_req]
    exact ep?_isSome_setEp s l dest (f := Ep.stamped _ _) (fun _ => ⟨rfl, rfl⟩) l' a'
  · rw [stampRequest_other _ _ _ _ h]

theorem ep?_isSome_serveLink (l fuel : Nat) (s : State) (l' a' : Nat) :
    ((serveLink l fuel s).ep? l' a').isSome = (s.ep? l' a').isSome := by
  induction fuel generalizing s with
  | zero => rfl
  | succ fuel ih =>
    unfold serveLink
    split
    · rfl
    · rw [ih, ep?_isSome_startPacket]
      rfl

theorem ep?_isSome_drain (l : Nat) (s : State) (l' a' : Nat) : ((drain l s).ep? l' a').isSome = (s.ep? l' a').isSome := by
  unfold drain
  split
  · rfl
  · exact ep?_isSome_serveLink l _ s l' a'

theorem serveLink_reg (l fuel : Nat) (s : State) {b : Nat} (hb : b ≠ Reg.slinkStat l) : (serveLink l fuel s).reg b = s.reg b := by
  induction fuel generalizing s with
  | zero => rfl
  | succ fuel ih =>
    unfold serveLink
    split
    · rfl
    · rw [ih, startPacket_reg _ _ _ _ _ _ hb]
      rfl

theorem drain_reg (l : Nat) (s : State) {b : Nat} (hb : b ≠ Reg.slinkStat l) : (drain l s).reg b = s.reg b := by
  unfold drain
  split
  · rfl
  · exact serveLink_reg l _ s hb

/-! ## Time exchanges -/

/-- A declared endpoint is in an exchange that started now. -/
theorem startExchange_exchanging {s : State} {l a : Nat} (h : (s.ep? l a).isSome = true) :
    ∃ g, ((startExchange l a s).ep? l a).bind Ep.exch = some (g, s.tb.lt.toNat) := by
  obtain ⟨e, he⟩ := Option.isSome_iff_exists.1 h
  refine ⟨s.timeTag % 65536, ?_⟩
  rw [startExchange_ep?, if_pos ⟨rfl, rfl⟩, he]
  rfl

theorem startExchange_epState {l a : Nat} (s : State) {l' a' : Nat} (ha' : a' < 64) :
    (startExchange l a s).epState l' a' = s.epState l' a' := epState_of_reg (startExchange_reg l a s (epStat_ne_stat ha' l))

/-! ## Steps of convoys that no bale waits for -/

/-- No bale waits for a step of a convoy. -/
def State.quiet (s : State) : Prop := ∀ b ∈ s.bales, b.step = none

theorem foldl_stays {α β : Type} {f : β → α → β} {s : β} (xs : List α) (h : ∀ x ∈ xs, f s x = s) : xs.foldl f s = s := by
  induction xs with
  | nil => rfl
  | cons x r ih => rw [List.foldl_cons, h x (by simp), ih fun y hy => h y (by simp [hy])]

theorem judgeAll_quiet {s : State} (h : s.quiet) : judgeAll s = s := by
  unfold judgeAll
  refine foldl_stays _ fun b _ => ?_
  have hnone : (s.bale? b.id).bind Bale.step = none := by
    cases hb : s.bale? b.id with
    | none => rfl
    | some x => exact h x (List.mem_of_find?_eq_some hb)
  rw [hnone]

/-! ## ANNOUNCE (R600, R601, R628) -/

/-- The answer to an ANNOUNCE has gone out and stands in EP_REJ. -/
def announced (l a r : Nat) (t : State) : State :=
  sendAnnounceResp l a r (((t.epDecl? l a).map EpDecl.power).getD 0) (t.guardOf l a) ((t.dev.map fun d => d.dev.vcWeight).getD 0)
    (t.setN (Reg.slinkEpRej l a) r)

/-- An endpoint that is accepted starts anew. -/
def Ep.fresh (e : Ep) : Ep := { e with resync := 0, retry := false, asked := 0, corrAt := none }

/-- An endpoint is accepted. -/
def acceptEp (l a : Nat) (t : State) : State := startExchange l a ((setEpState l a 2 t).setEp l a Ep.fresh)

/-- An endpoint is refused. -/
def refuseEp (l a : Nat) (t : State) : State :=
  judgeAll (raise (evLink l) (if (t.ep? l a).isSome && !t.epUp l a then setEpState l a 1 t else t))

theorem exec_announce {s : State} {l a : Nat} (serial cls version : Nat) (h : s.epActive l a = false) :
    exec (.announce l a serial cls version) s =
      done s (if s.begin_.judgeAnnounce l a serial cls version == 0 then
          acceptEp l a (announced l a (s.begin_.judgeAnnounce l a serial cls version) s.begin_)
        else refuseEp l a (announced l a (s.begin_.judgeAnnounce l a serial cls version) s.begin_)) := by
  have hbegin : s.begin_.epActive l a = false := h
  show execAnnounce l a serial cls version s = _
  unfold execAnnounce
  simp only [hbegin]
  rfl

theorem announced_touches (l a r : Nat) (t : State) : Touches .packets t (announced l a r t) :=
  ((State.setN_touches t _ _).mono).then (sendPacket_touches l 1 0x02 a _ _)

theorem announced_eps (l a r : Nat) (t : State) : (announced l a r t).eps = t.eps :=
  sendFor_eps none none l 1 a (type := 0x02) _ (t.setN (Reg.slinkEpRej l a) r) (by decide)

theorem announced_reg {l a r : Nat} (t : State) {b : Nat} (hlink : b ≠ Reg.slinkStat l) (hrej : b ≠ Reg.slinkEpRej l a) :
    (announced l a r t).reg b = t.reg b := (sendFor_reg _ _ _ _ _ _ _ _ hlink).trans (State.reg_setN_ne _ _ hrej)

theorem announced_rej {l a r : Nat} (t : State) (ha : a < 64) : (announced l a r t).reg (Reg.slinkEpRej l a) = BitVec.ofNat 32 r :=
  (sendFor_reg _ _ _ _ _ _ _ _ (epRej_ne_stat ha l)).trans (State.reg_setN t _ r)

theorem announced_epState {l a r : Nat} (t : State) {l' a' : Nat} (ha' : a' < 64) :
    (announced l a r t).epState l' a' = t.epState l' a' :=
  epState_of_reg (announced_reg t (epStat_ne_stat ha' l) (epStat_ne_rej l' a' l a))

theorem announced_epUp {l a r : Nat} (t : State) (ha : a < 64) : (announced l a r t).epUp l a = t.epUp l a := by
  unfold State.epUp
  rw [announced_epState t ha, ep?_congr (announced_eps l a r t)]

theorem acceptEp_touches (l a : Nat) (t : State) : Touches .exchange t (acceptEp l a t) :=
  (((setEpState_touches l a 2 t).mono).then (State.setEp_touches _ l a Ep.fresh)).then (startExchange_touches l a _)

theorem acceptEp_reg (l a : Nat) (t : State) {b : Nat} (hep : b ≠ Reg.slinkEpStat l a) (hlink : b ≠ Reg.slinkStat l) :
    (acceptEp l a t).reg b = t.reg b := (startExchange_reg l a _ hlink).trans (setEpState_reg l a 2 t hep hlink)

theorem acceptEp_epState {l a : Nat} (t : State) (ha : a < 64) : (acceptEp l a t).epState l a = 2 :=
  (startExchange_epState _ ha).trans (setEpState_epState t ha (by decide))

theorem acceptEp_exchanging {l a : Nat} {t : State} (h : (t.ep? l a).isSome = true) :
    ∃ g, ((acceptEp l a t).ep? l a).bind Ep.exch = some (g, t.tb.lt.toNat) :=
  startExchange_exchanging ((ep?_isSome_setEp (setEpState l a 2 t) l a (f := Ep.fresh) (fun _ => ⟨rfl, rfl⟩) l a).trans h)

/-- The state of an endpoint after it is refused. -/
def markRejected (l a : Nat) (t : State) : State := if (t.ep? l a).isSome && !t.epUp l a then setEpState l a 1 t else t

theorem markRejected_touches (l a : Nat) (t : State) : Touches { regs := true } t (markRejected l a t) :=
  Touches.ite (fun _ => setEpState_touches l a 1 t) fun _ => Touches.refl

theorem markRejected_reg (l a : Nat) (t : State) {b : Nat} (hep : b ≠ Reg.slinkEpStat l a) (hlink : b ≠ Reg.slinkStat l) :
    (markRejected l a t).reg b = t.reg b := by
  unfold markRejected
  split
  · exact setEpState_reg l a 1 t hep hlink
  · rfl

theorem markRejected_epState {l a : Nat} (t : State) (ha : a < 64) :
    (markRejected l a t).epState l a = if (t.ep? l a).isSome = true ∧ t.epUp l a = false then 1 else t.epState l a := by
  unfold markRejected
  split
  next h => rw [if_pos (by simpa using h), setEpState_epState t ha (by decide)]
  next h => rw [if_neg (by simpa using h)]

theorem refuseEp_eq {l a : Nat} {t : State} (hquiet : t.quiet) : refuseEp l a t = raise (evLink l) (markRejected l a t) := by
  have htouch : Touches .events t (raise (evLink l) (markRejected l a t)) :=
    ((markRejected_touches l a t).mono).then (raise_touches _ _)
  have hbales : (raise (evLink l) (markRejected l a t)).bales = t.bales := htouch.keeps State.bales
  refine judgeAll_quiet (s := raise (evLink l) (markRejected l a t)) ?_
  rw [State.quiet, hbales]
  exact hquiet

theorem refuse_touches (l a : Nat) (t : State) : Touches .events t (raise (evLink l) (markRejected l a t)) :=
  ((markRejected_touches l a t).mono).then (raise_touches _ _)

theorem judgeAnnounce_eq (s : State) (l a serial cls version : Nat) :
    s.judgeAnnounce l a serial cls version = match s.epDecl? l a with
      | none => 3
      | some d => if version ≠ 1 then 5 else if cls ≠ d.cls then 2 else if serial ≠ d.serial then 1 else if s.epUp l a = true then 4 else 0 := by
  unfold State.judgeAnnounce
  cases s.epDecl? l a with
  | none => rfl
  | some d => simp only [bne_iff_ne]

theorem judgeAnnounce_lt (s : State) (l a serial cls version : Nat) : s.judgeAnnounce l a serial cls version < 6 := by
  unfold State.judgeAnnounce
  split
  · decide
  · split_ifs <;> decide

theorem announce_done {s : State} {l a : Nat} (serial cls version : Nat) (hl : l < 16) (ha : a < 64) (hactive : s.epActive l a = false)
    (hquiet : s.quiet) : ∃ t, exec (.announce l a serial cls version) s = .next t ∧
      (t.reg (Reg.slinkEpRej l a)).toNat = s.judgeAnnounce l a serial cls version ∧
      (∀ l' a', l' < 16 → a' < 64 → (l', a') ≠ (l, a) → t.epState l' a' = s.epState l' a') ∧ t.bales = s.bales ∧ t.miles = s.miles ∧
      (s.judgeAnnounce l a serial cls version = 0 → (s.ep? l a).isSome = true → t.epState l a = 2 ∧
        ∃ g, (t.ep? l a).bind Ep.exch = some (g, s.tb.lt.toNat)) ∧
      (s.judgeAnnounce l a serial cls version ≠ 0 → t.pendingEvent (evLink l) = true ∧ t.epState l a =
        if (s.ep? l a).isSome = true ∧ s.epUp l a = false then 1 else s.epState l a) := by
  rw [exec_announce serial cls version hactive]
  have hjudge : s.begin_.judgeAnnounce l a serial cls version = s.judgeAnnounce l a serial cls version := rfl
  have hlt := judgeAnnounce_lt s l a serial cls version
  rw [hjudge]
  generalize s.judgeAnnounce l a serial cls version = r at hlt
  have hann := announced_touches l a r s.begin_
  have hrejValue : (BitVec.ofNat 32 r).toNat = r := Nat.mod_eq_of_lt (by omega)
  have hkey : ∀ {l' a' : Nat}, (l', a') ≠ (l, a) → ¬(l' = l ∧ a' = a) := fun h h' => h (Prod.ext h'.1 h'.2)
  by_cases hr : r = 0
  · rw [if_pos (by simp [hr])]
    have htouch : Touches .exchange s.begin_ (acceptEp l a (announced l a r s.begin_)) :=
      (hann.mono).then (acceptEp_touches l a _)
    refine ⟨_, htouch.done_eq, ?_, fun l' a' _ ha' hne => ?_, htouch.keeps State.bales, htouch.keeps State.miles, fun _ hsome => ?_,
      fun h => absurd hr h⟩
    · rw [acceptEp_reg l a _ (epStat_ne_rej l a l a).symm (epRej_ne_stat ha l), announced_rej _ ha, hrejValue]
    · refine (epState_of_reg (acceptEp_reg l a _ (epStat_ne_epStat ha ha' (hkey hne)) (epStat_ne_stat ha' l))).trans ?_
      exact announced_epState s.begin_ ha'
    · refine ⟨acceptEp_epState _ ha, ?_⟩
      obtain ⟨g, hg⟩ := acceptEp_exchanging (l := l) (a := a) (t := announced l a r s.begin_)
        ((congrArg Option.isSome (ep?_congr (announced_eps l a r s.begin_) l a)).trans hsome)
      exact ⟨g, hg.trans (congrArg (fun tb : Timebase => some (g, tb.lt.toNat)) (hann.keeps State.tb))⟩
  · rw [if_neg (by simpa using hr), refuseEp_eq (by rw [State.quiet, hann.keeps State.bales]; exact hquiet)]
    have htouch : Touches { regs := true, evq := true, eps := true, links := true, phy := true, out := true } s.begin_
        (raise (evLink l) (markRejected l a (announced l a r s.begin_))) := (hann.mono).then (refuse_touches l a _)
    have hraise : ∀ {b : Nat}, ¬ eventReg b → (raise (evLink l) (markRejected l a (announced l a r s.begin_))).reg b =
        (markRejected l a (announced l a r s.begin_)).reg b := fun hb => raise_reg _ _ (evLink_lt hl) hb
    refine ⟨_, htouch.done_eq, ?_, fun l' a' _ ha' hne => ?_, htouch.keeps State.bales, htouch.keeps State.miles, fun h => absurd h hr,
      fun _ => ⟨pendingEvent_raise_self _ _ (evLink_lt hl), ?_⟩⟩
    · rw [hraise (epRej_plain l a), markRejected_reg l a _ (epStat_ne_rej l a l a).symm (epRej_ne_stat ha l), announced_rej _ ha, hrejValue]
    · refine (epState_of_reg ((hraise (epStat_plain l' a')).trans (markRejected_reg l a _ (epStat_ne_epStat ha ha' (hkey hne))
        (epStat_ne_stat ha' l)))).trans ?_
      exact announced_epState s.begin_ ha'
    · rw [epState_of_reg (hraise (epStat_plain l a)), markRejected_epState _ ha, announced_epUp _ ha, announced_epState _ ha,
        ep?_congr (announced_eps l a r s.begin_)]
      rfl

/-! ## TIME_REQ (R609) -/

/-- An exchange starts with an endpoint that is ACTIVE. -/
def requestTime (l : Nat) (t : State) (e : Ep) : State := if t.epActive l e.addr then startExchange l e.addr t else t

theorem exec_timeReq (l : Nat) (s : State) : exec (.timeReq l) s = done s ((s.ring l).foldl (requestTime l) s.begin_) := rfl

theorem requestTime_touches (l : Nat) (t : State) (e : Ep) : Touches .exchange t (requestTime l t e) :=
  Touches.ite (fun _ => startExchange_touches l e.addr t) fun _ => Touches.refl

theorem requestTime_reg (l : Nat) (t : State) (e : Ep) {b : Nat} (hb : b ≠ Reg.slinkStat l) : (requestTime l t e).reg b = t.reg b := by
  unfold requestTime
  split
  · exact startExchange_reg l e.addr t hb
  · rfl

theorem requestTime_ep? (l : Nat) (t : State) (e : Ep) (l' a' : Nat) :
    (requestTime l t e).ep? l' a' = if t.epActive l e.addr = true ∧ l' = l ∧ a' = e.addr then
      (t.ep? l e.addr).map (Ep.exchanging (t.timeTag % 65536) t.tb.lt.toNat) else t.ep? l' a' := by
  unfold requestTime
  by_cases h : t.epActive l e.addr = true
  · rw [if_pos h, startExchange_ep?]
    simp only [h, true_and]
  · rw [if_neg h, if_neg fun h' => h h'.1]

theorem epActive_of_reg {s t : State} {l a : Nat} (h : t.reg (Reg.slinkEpStat l a) = s.reg (Reg.slinkEpStat l a)) :
    t.epActive l a = s.epActive l a := by
  unfold State.epActive
  rw [epState_of_reg h]

/-- Endpoints that are no ACTIVE ones of the list keep what they have. -/
theorem foldl_request_stays {l l' a' : Nat} (ha' : a' < 64) (es : List Ep) (t : State)
    (h : l' = l → t.epActive l a' = true → ∀ e ∈ es, e.addr ≠ a') : (es.foldl (requestTime l) t).ep? l' a' = t.ep? l' a' := by
  induction es generalizing t with
  | nil => rfl
  | cons e r ih =>
    have hact : (requestTime l t e).epActive l a' = t.epActive l a' :=
      epActive_of_reg (requestTime_reg l t e (epStat_ne_stat ha' l))
    rw [List.foldl_cons, ih _ fun hl hon x hx => h hl (hact ▸ hon) x (by simp [hx]), requestTime_ep?, if_neg]
    rintro ⟨hon, hl, rfl⟩
    exact h hl hon e (by simp) rfl

/-- An ACTIVE endpoint of the list is in an exchange that starts now. -/
theorem foldl_request_exchanging {l a : Nat} (ha : a < 64) (es : List Ep) (t : State) (hactive : t.epActive l a = true)
    (hmem : ∃ e ∈ es, e.addr = a) (hsome : (t.ep? l a).isSome = true) :
    ∃ g, ((es.foldl (requestTime l) t).ep? l a).bind Ep.exch = some (g, t.tb.lt.toNat) := by
  induction es generalizing t with
  | nil => obtain ⟨e, he, -⟩ := hmem; exact absurd he (by simp)
  | cons e r ih =>
    have htb : (requestTime l t e).tb = t.tb := (requestTime_touches l t e).keeps State.tb
    have hact : (requestTime l t e).epActive l a = true :=
      (epActive_of_reg (requestTime_reg l t e (epStat_ne_stat ha l))).trans hactive
    have hsome' : ((requestTime l t e).ep? l a).isSome = true := by
      rw [requestTime_ep?]
      split
      next h => obtain ⟨-, -, rfl⟩ := h; rw [Option.isSome_map]; exact hsome
      next => exact hsome
    rw [List.foldl_cons]
    by_cases hr : ∃ x ∈ r, x.addr = a
    · exact htb ▸ ih _ hact hr hsome'
    · obtain ⟨x, hx, hxa⟩ := hmem
      have hea : e.addr = a := by
        rcases List.mem_cons.1 hx with rfl | hx
        · exact hxa
        · exact absurd ⟨x, hx, hxa⟩ hr
      rw [foldl_request_stays ha r _ fun _ _ y hy hya => hr ⟨y, hy, hya⟩, requestTime_ep?,
        if_pos ⟨hea ▸ hactive, rfl, hea.symm⟩, hea]
      obtain ⟨y, hy⟩ := Option.isSome_iff_exists.1 hsome
      rw [hy]
      exact ⟨_, rfl⟩

theorem ep?_of_mem {s : State} (hok : s.epsOk = true) {e : Ep} (he : e ∈ s.eps) : s.ep? e.link e.addr = some e := by
  cases hf : s.ep? e.link e.addr with
  | none => exact absurd (List.find?_eq_none.1 hf e he) (by simp)
  | some x => rw [ep_unique hok hf he rfl rfl]

theorem mem_ring {s : State} {l : Nat} {e : Ep} : e ∈ s.ring l ↔ e ∈ s.eps ∧ e.link = l := by
  unfold State.ring
  simp

theorem timeReq_done {s : State} (l : Nat) (hok : s.epsOk = true) : ∃ t, exec (.timeReq l) s = .next t ∧
    (∀ e ∈ s.eps, (e.link = l ∧ s.epActive l e.addr = true →
        ∃ g, (t.ep? l e.addr).bind Ep.exch = some (g, s.tb.lt.toNat)) ∧
      (e.link ≠ l ∨ s.epActive l e.addr = false → t.ep? e.link e.addr = some e)) ∧
    State.onlyRegs linkStatRegs s { t with eps := s.eps, links := s.links, timeTag := s.timeTag } := by
  rw [exec_timeReq]
  have htouch : Touches .timing s.begin_ ((s.ring l).foldl (requestTime l) s.begin_) :=
    (Touches.foldl (requestTime_touches l) (s.ring l) s.begin_).mono
  refine ⟨_, htouch.done_eq, fun e he => ⟨fun hdue => ?_, fun hstay => ?_⟩, htouch.back_begin, kept_of_reg fun b hb _ => ?_⟩
  · obtain ⟨rfl, hactive⟩ := hdue
    have hsome : (s.begin_.ep? e.link e.addr).isSome = true := congrArg Option.isSome (ep?_of_mem hok he)
    exact foldl_request_exchanging ((epsOk_iff.1 hok).2 e he).2 (s.ring e.link) s.begin_ hactive ⟨e, mem_ring.2 ⟨he, rfl⟩, rfl⟩ hsome
  · refine (foldl_request_stays ((epsOk_iff.1 hok).2 e he).2 (s.ring l) s.begin_ fun hl hon => ?_).trans (ep?_of_mem hok he)
    rcases hstay with hne | hoff
    · exact absurd hl hne
    · exact absurd ((show s.epActive l e.addr = true from hon).symm.trans hoff) (by decide)
  · by_cases hl : l < 16
    · exact foldl_reg (fun e _ u => requestTime_reg l u e fun h => hb (by rw [h]; exact slinkStat_mem hl)) s.begin_
    · have hring : s.ring l = [] := List.eq_nil_iff_forall_not_mem.2 fun e he => by
        obtain ⟨hmem, hlink⟩ := mem_ring.1 he
        exact hl (hlink ▸ ((epsOk_iff.1 hok).2 e hmem).1)
      rw [hring]
      rfl

/-! ## TIME_RESP (R607, R610, R611) -/

theorem correct_touches (l a : Nat) (off rate : Int) (s : State) : Touches .packets s (correct l a off rate s) :=
  Touches.ite (fun _ => Touches.refl) fun _ => sendTimeCorr_touches l a off rate s

theorem correct_reg (l a : Nat) (off rate : Int) (s : State) {b : Nat} (hb : b ≠ Reg.slinkStat l) :
    (correct l a off rate s).reg b = s.reg b := by
  unfold correct
  split
  · rfl
  · exact sendTimeCorr_reg l a off rate s hb

/-- A correction notes its time and nothing else of the endpoint. -/
theorem correct_ep? (l a : Nat) (off rate : Int) (s : State) :
    (correct l a off rate s).ep? l a = s.ep? l a ∨ (correct l a off rate s).ep? l a = (s.ep? l a).map (Ep.corrected s.now) := by
  unfold correct
  split
  · exact .inl rfl
  · exact .inr (by rw [sendTimeCorr_ep?, if_pos ⟨rfl, rfl⟩])

theorem correct_exch {l a : Nat} (off rate : Int) (s : State) :
    ((correct l a off rate s).ep? l a).bind Ep.exch = (s.ep? l a).bind Ep.exch := by
  rcases correct_ep? l a off rate s with h | h
  · rw [h]
  · rw [h]
    cases s.ep? l a <;> rfl

theorem correct_isSome {l a : Nat} (off rate : Int) (s : State) :
    ((correct l a off rate s).ep? l a).isSome = (s.ep? l a).isSome := by
  rcases correct_ep? l a off rate s with h | h
  · rw [h]
  · rw [h, Option.isSome_map]

theorem cancelFire_touches (e : Nat) (s : State) :
    Touches { regs := true, miles := true, eps := true, links := true, phy := true, out := true } s (cancelFire e s) := by
  unfold cancelFire
  split
  · exact Touches.ite (fun _ => ((sendFor_touches _ _ _ _ _ _ _ s).mono).then (State.setMile_touches _ _ _)) fun _ => Touches.refl
  · exact Touches.refl

theorem cancelFire_reg (e : Nat) (s : State) {b : Nat} (hb : ∀ l, b ≠ Reg.slinkStat l) : (cancelFire e s).reg b = s.reg b := by
  unfold cancelFire
  split
  next m _ =>
    split
    · exact sendFor_reg _ none m.link 2 0x25 m.ch _ s (hb m.link)
    · rfl
  · rfl

theorem cancelFire_eps (e : Nat) (s : State) : (cancelFire e s).eps = s.eps := by
  unfold cancelFire
  split
  next m _ =>
    split
    · exact sendFor_eps _ none m.link 2 m.ch (type := 0x25) _ s (by decide)
    · rfl
  · rfl

/-- What an endpoint changes that leaves ACTIVE. -/
abbrev Parts.leaving : Parts := { regs := true, miles := true, eps := true, links := true, phy := true, out := true }

theorem cancelAt_touches (l a : Nat) (s : State) : Touches .leaving s (cancelAt l a s) :=
  Touches.foldl (op := fun s (m : Mile) => cancelFire m.idx s) (fun u m => cancelFire_touches m.idx u) _ s

theorem cancelAt_reg (l a : Nat) (s : State) {b : Nat} (hb : ∀ l, b ≠ Reg.slinkStat l) : (cancelAt l a s).reg b = s.reg b :=
  foldl_reg (fun m _ u => cancelFire_reg m.idx u hb) s

theorem cancelAt_eps (l a : Nat) (s : State) : (cancelAt l a s).eps = s.eps := by
  unfold cancelAt
  generalize s.miles.filter _ = ms
  induction ms generalizing s with
  | nil => rfl
  | cons m r ih => exact (ih _).trans (cancelFire_eps m.idx s)

/-- An endpoint leaves ACTIVE: pending commands are cancelled first. -/
def cancelled (l a : Nat) (s : State) : State := if s.epActive l a then cancelAt l a s else s

theorem cancelled_touches (l a : Nat) (s : State) : Touches .leaving s (cancelled l a s) :=
  Touches.ite (fun _ => cancelAt_touches l a s) fun _ => Touches.refl

theorem cancelled_reg (l a : Nat) (s : State) {b : Nat} (hb : ∀ l, b ≠ Reg.slinkStat l) : (cancelled l a s).reg b = s.reg b := by
  unfold cancelled
  split
  · exact cancelAt_reg l a s hb
  · rfl

theorem cancelled_eps (l a : Nat) (s : State) : (cancelled l a s).eps = s.eps := by
  unfold cancelled
  split
  · exact cancelAt_eps l a s
  · rfl

/-- No exchange is in progress with an endpoint. -/
def Ep.unasked (e : Ep) : Ep := { e with exch := none }

theorem leaveActive_eq (l a st : Nat) (s : State) : leaveActive l a st s = (setEpState l a st (cancelled l a s)).setEp l a Ep.unasked := rfl

theorem leaveActive_touches (l a st : Nat) (s : State) : Touches .leaving s (leaveActive l a st s) := by
  rw [leaveActive_eq]
  exact ((cancelled_touches l a s).then (setEpState_touches l a st _)).then (State.setEp_touches _ l a Ep.unasked)

theorem leaveActive_reg (l a st : Nat) (s : State) {b : Nat} (hep : b ≠ Reg.slinkEpStat l a) (hb : ∀ l, b ≠ Reg.slinkStat l) :
    (leaveActive l a st s).reg b = s.reg b := (setEpState_reg l a st _ hep (hb l)).trans (cancelled_reg l a s hb)

theorem leaveActive_epState {l a st : Nat} (s : State) (ha : a < 64) (hst : st < 16) : (leaveActive l a st s).epState l a = st :=
  setEpState_epState _ ha hst

theorem leaveActive_delay {l a : Nat} (st : Nat) (s : State) (ha : a < 64) :
    (leaveActive l a st s).fget (Reg.slinkEpStat l a) 31 16 = s.fget (Reg.slinkEpStat l a) 31 16 :=
  (setEpState_delay st _ ha).trans (fget_of_reg (cancelled_reg l a s fun l' => epStat_ne_stat ha l') 31 16)

theorem leaveActive_isSome (l a st : Nat) (s : State) (l' a' : Nat) :
    ((leaveActive l a st s).ep? l' a').isSome = (s.ep? l' a').isSome := by
  rw [leaveActive_eq, ep?_isSome_setEp _ l a (f := Ep.unasked) fun _ => ⟨rfl, rfl⟩]
  exact congrArg Option.isSome (ep?_congr ((setEpState_touches l a st _).keeps State.eps |>.trans (cancelled_eps l a s)) l' a')

end Sys2Proof.Machine

/-! PROOFS. How a time exchange with an endpoint is judged (R607, R610, R611), and its power states (R619 to R624). -/

namespace Sys2Proof.Machine

-- One theorem after the other: many at once ask for too many threads.
set_option Elab.async false

/-! ## The judgement of an exchange -/

/-- Offset and delay of an exchange, as they are shown, with the exchange over. -/
def timed (l a : Nat) (off : Int) (shown : Nat) (t : State) : State :=
  ((({ t with free := t.free + 3 } : State).fset (Reg.slinkEpStat l a) 31 16 shown).setN (Reg.slinkEpOffset l a)
    (ofInt 32 (clampI (-(2 ^ 31 - 1)) (2 ^ 31 - 1) off))).setEp l a Ep.unasked

/-- The delay that EP_STAT shows. -/
def shownDelay (delay : Int) (free : Nat) : Nat :=
  if 0 ≤ delay && delay < 65536 then delay.toNat else (Config.freeWord (free + 2)).toNat % 65536

theorem exec_timeResp_due {s : State} {l a tag t1 : Nat} (t2 t3 : Nat) (h : (s.ep? l a).bind Ep.exch = some (tag, t1)) :
    exec (.timeResp l a tag t2 t3) s =
      done s (judgeTime l a (halve (modDiff 48 t1 t2 - modDiff 48 t3 s.tb.lt.toNat) (Config.freeBit s.free))
        (timed l a (halve (modDiff 48 t1 t2 - modDiff 48 t3 s.tb.lt.toNat) (Config.freeBit s.free))
          (shownDelay (halve (modDiff 48 t1 s.tb.lt.toNat - modDiff 48 t2 t3) (Config.freeBit (s.free + 1))) s.free) s.begin_)) := by
  have hbegin : (s.begin_.ep? l a).bind Ep.exch = some (tag, t1) := h
  show execTimeResp l a tag t2 t3 s = _
  unfold execTimeResp
  simp only [hbegin, bne_self_eq_false, Bool.false_eq_true, if_false]
  rfl

theorem exec_timeResp_stray {s : State} {l a tag : Nat} (t2 t3 : Nat) (h : ∀ t1, (s.ep? l a).bind Ep.exch ≠ some (tag, t1)) :
    exec (.timeResp l a tag t2 t3) s = done s s.begin_ := by
  show execTimeResp l a tag t2 t3 s = _
  unfold execTimeResp
  have hbegin : (s.begin_.ep? l a).bind Ep.exch = (s.ep? l a).bind Ep.exch := rfl
  simp only [hbegin]
  cases hx : (s.ep? l a).bind Ep.exch with
  | none => rfl
  | some x =>
    obtain ⟨g, t1⟩ := x
    have hne : g ≠ tag := fun hg => h t1 (hg ▸ hx)
    simp only [bne_iff_ne, ne_eq, hne, not_false_eq_true, if_true]

theorem halve_even {n off : Int} (bit : Bool) (h : n = 2 * off) : halve n bit = off := by
  unfold halve
  have h0 : n % 2 = 0 := by omega
  rw [h0]
  simp only [Bool.and_eq_true, beq_iff_eq]
  omega

theorem clampI_id {off : Int} (h : off.natAbs < 2 ^ 31) : clampI (-(2 ^ 31 - 1)) (2 ^ 31 - 1) off = off := by
  unfold clampI
  rw [if_neg (by omega), if_neg (by omega)]

theorem ofNat_ofInt (off : Int) : BitVec.ofNat 32 (ofInt 32 off) = BitVec.ofInt 32 off := by
  refine BitVec.eq_of_toNat_eq ?_
  rw [BitVec.toNat_ofNat, BitVec.toNat_ofInt]
  unfold ofInt
  omega

theorem timed_touches (l a : Nat) (off : Int) (shown : Nat) (t : State) :
    Touches { regs := true, eps := true, free := true } t (timed l a off shown t) := ⟨rfl, rfl⟩

theorem timed_ep? (l a : Nat) (off : Int) (shown : Nat) (t : State) : (timed l a off shown t).ep? l a = (t.ep? l a).map Ep.unasked := by
  unfold timed
  rw [ep?_setEp _ l a (f := Ep.unasked) (fun _ => ⟨rfl, rfl⟩), if_pos ⟨rfl, rfl⟩]
  rfl

theorem timed_delay {l a : Nat} (off : Int) {shown : Nat} (t : State) (h : shown < 2 ^ 16) :
    (timed l a off shown t).fget (Reg.slinkEpStat l a) 31 16 = shown := by
  refine (fget_of_reg (State.reg_setN_ne _ _ (epStat_ne_offset l a l a)) 31 16).trans ?_
  exact (State.fget_fset _ _ shown (by decide) (by decide)).trans (Nat.mod_eq_of_lt h)

theorem timed_offset {l a : Nat} {off : Int} (shown : Nat) (t : State) (h : off.natAbs < 2 ^ 31) :
    (timed l a off shown t).reg (Reg.slinkEpOffset l a) = BitVec.ofInt 32 off := by
  refine (State.reg_setN _ _ _).trans ?_
  rw [clampI_id h, ofNat_ofInt]

theorem timed_epState (l a : Nat) (off : Int) (shown : Nat) (t : State) : (timed l a off shown t).epState l a = t.epState l a := by
  refine (epState_of_reg (State.reg_setN_ne _ _ (epStat_ne_offset l a l a))).trans ?_
  exact State.fget_fset_ne _ _ (by decide) (by decide) (by decide) (.inr (.inl (by decide)))

/-! ### The judgement -/

theorem guardOf_congr {s t : State} (h : t.dev = s.dev) (l a : Nat) : t.guardOf l a = s.guardOf l a := by
  unfold State.guardOf State.epDecl?
  rw [h]

theorem peerLink_congr {s t : State} (h : t.dev = s.dev) (l : Nat) : t.peerLink l = s.peerLink l := by
  unfold State.peerLink
  rw [h]

/-- An ACTIVE endpoint within the guard time is corrected. -/
def keepActive (l a : Nat) (off rate : Int) (s : State) : State := { correct l a off rate s with free := s.free + 1 }

/-- The checks of an endpoint are over. -/
def Ep.checked (e : Ep) : Ep := { e with resync := 0, retry := false }

/-- An endpoint within the guard time becomes ACTIVE. -/
def activate (l a : Nat) (s : State) : State := (raise (evLink l) (setEpState l a 4 s)).setEp l a Ep.checked

/-- An endpoint beyond the guard time waits for its retry. -/
def Ep.waiting (e : Ep) : Ep := { e with resync := 0, retry := true }

/-- The exchanges beyond the guard time that an endpoint has behind it. -/
def Ep.after (rounds : Nat) (e : Ep) : Ep := { e with resync := rounds }

/-- An endpoint beyond the guard time is STRAYED. -/
def stray (l a : Nat) (off : Int) (s : State) : State := correct l a off 0 (leaveActive l a 3 s)

/-- Exchanges in a row beyond the guard time, with the one that is judged. -/
def State.rounds (s : State) (l a : Nat) (e : Ep) : Nat := if s.epActive l a then 1 else e.resync + 1

theorem judgeTime_eq {l a : Nat} {off : Int} {s : State} {e : Ep} (he : s.ep? l a = some e) (hpeer : s.peerLink l = false) :
    judgeTime l a off s =
      if off.natAbs ≤ s.guardOf l a then
        if s.epActive l a then keepActive l a off (s.corrRate e off) s else activate l a (correct l a off 0 s)
      else if (s.dev.map fun d => d.power.resyncRt).getD 1 ≤ s.rounds l a e then
        raise (evLink l) ((stray l a off s).setEp l a Ep.waiting)
      else startExchange l a ((stray l a off s).setEp l a (Ep.after (s.rounds l a e))) := by
  have hstrayDev : (stray l a off s).dev = s.dev := by
    have h := (leaveActive_touches l a 3 s).then (n := .packets) (correct_touches l a off 0 _)
    exact h.keeps State.dev
  have hactDev : (activate l a (correct l a off 0 s)).dev = s.dev := by
    have h : Touches { regs := true, evq := true, eps := true, links := true, phy := true, out := true } s
        (activate l a (correct l a off 0 s)) :=
      ((((correct_touches l a off 0 s).mono).then (setEpState_touches l a 4 _)).then (raise_touches _ _)).then
        (State.setEp_touches _ l a Ep.checked)
    exact h.keeps State.dev
  have hbecome : becomeActive l a (correct l a off 0 s) = activate l a (correct l a off 0 s) :=
    if_neg (c := (activate l a (correct l a off 0 s)).peerLink l = true) (by rw [peerLink_congr hactDev l, hpeer]; decide)
  unfold judgeTime
  rw [he]
  dsimp only
  by_cases hok : off.natAbs ≤ s.guardOf l a
  · rw [if_pos hok]
    by_cases hact : s.epActive l a = true
    · rw [if_pos (by simp [hok, hact]), if_pos hact]
      rfl
    · rw [if_neg (by simp [hact]), if_pos (by simp [hok]), if_neg hact, hbecome]
  · rw [if_neg hok, if_neg (by simp [hok]), if_neg (by simp [hok])]
    show (if ((stray l a off s).dev.map fun d => d.power.resyncRt).getD 1 ≤ s.rounds l a e then _ else _) = _
    rw [hstrayDev]
    rfl

theorem keepActive_touches (l a : Nat) (off rate : Int) (s : State) :
    Touches { regs := true, eps := true, links := true, phy := true, out := true, free := true } s (keepActive l a off rate s) :=
  ((correct_touches l a off rate s).mono).then (n := { free := true }) ⟨rfl, rfl⟩

theorem activate_touches (l a : Nat) (s : State) : Touches { regs := true, evq := true, eps := true } s (activate l a s) :=
  (((setEpState_touches l a 4 s).mono).then (raise_touches _ _)).then (State.setEp_touches _ l a Ep.checked)

theorem stray_touches (l a : Nat) (off : Int) (s : State) : Touches .leaving s (stray l a off s) :=
  (leaveActive_touches l a 3 s).then (correct_touches l a off 0 _)

/-- What the judgement of an exchange may touch. -/
abbrev Parts.judging : Parts :=
  { regs := true, evq := true, miles := true, eps := true, links := true, phy := true, out := true, free := true, timeTag := true }

section
variable {l a : Nat} {off : Int} {s : State} {e : Ep}

theorem judgeTime_touches (he : s.ep? l a = some e) (hpeer : s.peerLink l = false) : Touches .judging s (judgeTime l a off s) := by
  rw [judgeTime_eq he hpeer]
  refine Touches.ite (fun _ => Touches.ite (fun _ => (keepActive_touches l a off _ s).mono) fun _ => ?_)
    fun _ => Touches.ite (fun _ => ?_) fun _ => ?_
  · exact ((correct_touches l a off 0 s).mono).then (activate_touches l a _)
  · exact (((stray_touches l a off s).mono).then (State.setEp_touches _ l a Ep.waiting)).then (raise_touches _ _)
  · exact (((stray_touches l a off s).mono).then (State.setEp_touches _ l a _)).then (startExchange_touches l a _)

theorem activate_reg (hl : l < 16) {b : Nat} (hep : b ≠ Reg.slinkEpStat l a) (hlink : b ≠ Reg.slinkStat l) (hev : ¬ eventReg b) :
    (activate l a s).reg b = s.reg b := (raise_reg _ _ (evLink_lt hl) hev).trans (setEpState_reg l a 4 s hep hlink)

theorem stray_reg {b : Nat} (hep : b ≠ Reg.slinkEpStat l a) (hlink : ∀ l, b ≠ Reg.slinkStat l) : (stray l a off s).reg b = s.reg b :=
  (correct_reg l a off 0 _ (hlink l)).trans (leaveActive_reg l a 3 s hep hlink)

/-- No register of endpoints but the state changes. -/
theorem judgeTime_reg (hl : l < 16) (he : s.ep? l a = some e) (hpeer : s.peerLink l = false) {b : Nat} (hep : b ≠ Reg.slinkEpStat l a)
    (hlink : ∀ l, b ≠ Reg.slinkStat l) (hev : ¬ eventReg b) : (judgeTime l a off s).reg b = s.reg b := by
  rw [judgeTime_eq he hpeer]
  split
  · split
    · exact correct_reg l a off _ s (hlink l)
    · exact (activate_reg hl hep (hlink l) hev).trans (correct_reg l a off 0 s (hlink l))
  · split
    · exact (raise_reg _ _ (evLink_lt hl) hev).trans (stray_reg hep hlink)
    · exact (startExchange_reg l a _ (hlink l)).trans (stray_reg hep hlink)

theorem activate_delay (hl : l < 16) (ha : a < 64) :
    (activate l a s).fget (Reg.slinkEpStat l a) 31 16 = s.fget (Reg.slinkEpStat l a) 31 16 :=
  (fget_of_reg (raise_reg _ _ (evLink_lt hl) (epStat_plain l a)) 31 16).trans (setEpState_delay 4 s ha)

theorem stray_delay (ha : a < 64) : (stray l a off s).fget (Reg.slinkEpStat l a) 31 16 = s.fget (Reg.slinkEpStat l a) 31 16 :=
  (fget_of_reg (correct_reg l a off 0 _ (epStat_ne_stat ha l)) 31 16).trans (leaveActive_delay 3 s ha)

theorem judgeTime_delay (hl : l < 16) (ha : a < 64) (he : s.ep? l a = some e) (hpeer : s.peerLink l = false) :
    (judgeTime l a off s).fget (Reg.slinkEpStat l a) 31 16 = s.fget (Reg.slinkEpStat l a) 31 16 := by
  have hcorr : ∀ rate, (correct l a off rate s).fget (Reg.slinkEpStat l a) 31 16 = s.fget (Reg.slinkEpStat l a) 31 16 := fun rate =>
    fget_of_reg (correct_reg l a off rate s (epStat_ne_stat ha l)) 31 16
  rw [judgeTime_eq he hpeer]
  split
  · split
    · exact hcorr _
    · exact (activate_delay hl ha).trans (hcorr 0)
  · split
    · exact (fget_of_reg (raise_reg _ _ (evLink_lt hl) (epStat_plain l a)) 31 16).trans (stray_delay ha)
    · exact (fget_of_reg (startExchange_reg l a _ (epStat_ne_stat ha l)) 31 16).trans (stray_delay ha)

theorem activate_exch : ((activate l a s).ep? l a).bind Ep.exch = (s.ep? l a).bind Ep.exch := by
  have heps : (raise (evLink l) (setEpState l a 4 s)).eps = s.eps :=
    ((raise_touches _ _).keeps State.eps).trans ((setEpState_touches l a 4 s).keeps State.eps)
  rw [activate, ep?_setEp _ l a (f := Ep.checked) (fun _ => ⟨rfl, rfl⟩), if_pos ⟨rfl, rfl⟩, ep?_congr heps]
  cases s.ep? l a <;> rfl

/-- Within the guard time the endpoint is ACTIVE (R610, R611). -/
theorem judgeTime_within (hl : l < 16) (ha : a < 64) (he : s.ep? l a = some e) (hpeer : s.peerLink l = false)
    (hok : off.natAbs ≤ s.guardOf l a) :
    (judgeTime l a off s).epState l a = 4 ∧ ((judgeTime l a off s).ep? l a).bind Ep.exch = e.exch ∧
      (s.epActive l a = false → (judgeTime l a off s).pendingEvent (evLink l) = true) := by
  have hexch : ∀ rate, ((correct l a off rate s).ep? l a).bind Ep.exch = e.exch := fun rate => by rw [correct_exch, he]; rfl
  rw [judgeTime_eq he hpeer, if_pos hok]
  by_cases hact : s.epActive l a = true
  · rw [if_pos hact]
    refine ⟨?_, hexch _, fun h => absurd (h.symm.trans hact) (by decide)⟩
    exact (epState_of_reg (correct_reg l a off _ s (epStat_ne_stat ha l))).trans (by simpa [State.epActive] using hact)
  · rw [if_neg hact]
    refine ⟨?_, activate_exch.trans (hexch 0), fun _ => pendingEvent_raise_self _ _ (evLink_lt hl)⟩
    exact (epState_of_reg (raise_reg _ _ (evLink_lt hl) (epStat_plain l a))).trans (setEpState_epState _ ha (by decide))

theorem stray_isSome (he : s.ep? l a = some e) : ((stray l a off s).ep? l a).isSome = true := by
  rw [stray, correct_isSome, leaveActive_isSome, he]
  rfl

/-- Beyond the guard time it is STRAYED, and another exchange or a retry follows (R611). -/
theorem judgeTime_beyond (hl : l < 16) (ha : a < 64) (he : s.ep? l a = some e) (hpeer : s.peerLink l = false)
    (hbeyond : s.guardOf l a < off.natAbs) :
    (judgeTime l a off s).epState l a = 3 ∧ ∀ d, s.dev = some d →
      (s.rounds l a e < d.power.resyncRt → ∃ g, ((judgeTime l a off s).ep? l a).bind Ep.exch = some (g, s.tb.lt.toNat)) ∧
      (d.power.resyncRt ≤ s.rounds l a e →
        ((judgeTime l a off s).ep? l a).map Ep.retry = some true ∧ (judgeTime l a off s).pendingEvent (evLink l) = true) := by
  have hstate : (stray l a off s).epState l a = 3 :=
    (epState_of_reg (correct_reg l a off 0 _ (epStat_ne_stat ha l))).trans (leaveActive_epState s ha (by decide))
  obtain ⟨x, hx⟩ := Option.isSome_iff_exists.1 (stray_isSome (off := off) he)
  rw [judgeTime_eq he hpeer, if_neg (by omega)]
  constructor
  · split
    · exact (epState_of_reg (raise_reg _ _ (evLink_lt hl) (epStat_plain l a))).trans hstate
    · exact (startExchange_epState _ ha).trans hstate
  · intro d hd
    rw [hd]
    refine ⟨fun hmore => ?_, fun hover => ?_⟩
    · rw [if_neg (by simpa using hmore)]
      have hsome := ep?_isSome_setEp (stray l a off s) l a (f := Ep.after (s.rounds l a e)) (fun _ => ⟨rfl, rfl⟩) l a
      obtain ⟨g, hg⟩ := startExchange_exchanging (l := l) (a := a) (hsome.trans (stray_isSome he))
      exact ⟨g, hg.trans (congrArg (fun tb : Timebase => some (g, tb.lt.toNat)) ((stray_touches l a off s).keeps State.tb))⟩
    · rw [if_pos (by simpa using hover)]
      refine ⟨?_, pendingEvent_raise_self _ _ (evLink_lt hl)⟩
      rw [ep?_congr ((raise_touches _ _).keeps State.eps), ep?_setEp _ l a (f := Ep.waiting) (fun _ => ⟨rfl, rfl⟩),
        if_pos ⟨rfl, rfl⟩, hx]
      rfl

end

theorem shownDelay_even {m : Int} (bit : Bool) (free : Nat) (heven : m % 2 = 0) (hlo : 0 ≤ m) (hhi : m < 2 ^ 17) :
    (shownDelay (halve m bit) free : Int) = m / 2 := by
  rw [halve_even bit (show m = 2 * (m / 2) by omega)]
  unfold shownDelay
  rw [if_pos (by simp only [Bool.and_eq_true, decide_eq_true_eq]; omega)]
  omega

theorem shownDelay_lt (delay : Int) (free : Nat) : shownDelay delay free < 2 ^ 16 := by
  unfold shownDelay
  split
  next h => simp only [Bool.and_eq_true, decide_eq_true_eq] at h; omega
  next => exact Nat.mod_lt _ (by decide)

theorem timeResp_done {s : State} {l a tag t1 : Nat} (t2 t3 : Nat) {e : Ep} (hok : s.epsOk = true) (he : s.ep? l a = some e)
    (hexch : e.exch = some (tag, t1)) (hpeer : s.peerLink l = false) :
    ∃ t, exec (.timeResp l a tag t2 t3) s = .next t ∧
      ((modDiff 48 t1 s.tb.lt.toNat - modDiff 48 t2 t3) % 2 = 0 → 0 ≤ modDiff 48 t1 s.tb.lt.toNat - modDiff 48 t2 t3 →
        modDiff 48 t1 s.tb.lt.toNat - modDiff 48 t2 t3 < 2 ^ 17 →
        (t.fget (Reg.slinkEpStat l a) 31 16 : Int) = (modDiff 48 t1 s.tb.lt.toNat - modDiff 48 t2 t3) / 2) ∧
      (∀ off : Int, modDiff 48 t1 t2 - modDiff 48 t3 s.tb.lt.toNat = 2 * off → off.natAbs < 2 ^ 31 →
        t.reg (Reg.slinkEpOffset l a) = BitVec.ofInt 32 off ∧
        (off.natAbs ≤ s.guardOf l a → t.epState l a = 4 ∧ (t.ep? l a).bind Ep.exch = none ∧
          (s.epActive l a = false → t.pendingEvent (evLink l) = true)) ∧
        (s.guardOf l a < off.natAbs → t.epState l a = 3 ∧ ∀ d, s.dev = some d →
          (s.rounds l a e < d.power.resyncRt → ∃ g, (t.ep? l a).bind Ep.exch = some (g, s.tb.lt.toNat)) ∧
          (d.power.resyncRt ≤ s.rounds l a e → (t.ep? l a).map Ep.retry = some true ∧ t.pendingEvent (evLink l) = true))) := by
  obtain ⟨hmem, rfl, rfl⟩ := ep?_mem he
  obtain ⟨hl, ha⟩ := (epsOk_iff.1 hok).2 e hmem
  rw [exec_timeResp_due t2 t3 (show (s.ep? e.link e.addr).bind Ep.exch = some (tag, t1) by rw [he]; exact hexch)]
  generalize hoff : halve (modDiff 48 t1 t2 - modDiff 48 t3 s.tb.lt.toNat) (Config.freeBit s.free) = given
  generalize hshown : shownDelay (halve (modDiff 48 t1 s.tb.lt.toNat - modDiff 48 t2 t3) (Config.freeBit (s.free + 1))) s.free = shown
  have hlt : shown < 2 ^ 16 := hshown ▸ shownDelay_lt _ _
  have htimed := timed_touches e.link e.addr given shown s.begin_
  have hep : (timed e.link e.addr given shown s.begin_).ep? e.link e.addr = some e.unasked := by
    rw [timed_ep?]
    exact congrArg (Option.map Ep.unasked) he
  have hstate : (timed e.link e.addr given shown s.begin_).epState e.link e.addr = s.epState e.link e.addr :=
    timed_epState e.link e.addr given shown s.begin_
  have hactive : (timed e.link e.addr given shown s.begin_).epActive e.link e.addr = s.epActive e.link e.addr :=
    congrArg (· == 4) hstate
  have hdev : (timed e.link e.addr given shown s.begin_).dev = s.dev := htimed.keeps State.dev
  have hguard := guardOf_congr hdev e.link e.addr
  have hpeer' := (peerLink_congr hdev e.link).trans hpeer
  have hrounds : (timed e.link e.addr given shown s.begin_).rounds e.link e.addr e.unasked = s.rounds e.link e.addr e := by
    unfold State.rounds
    rw [hactive]
    rfl
  have htb : (timed e.link e.addr given shown s.begin_).tb = s.tb := htimed.keeps State.tb
  have htouch : Touches .judging s.begin_ (judgeTime e.link e.addr given (timed e.link e.addr given shown s.begin_)) :=
    (htimed.mono).then (judgeTime_touches hep hpeer')
  refine ⟨_, htouch.done_eq, fun heven hlo hhi => ?_, fun off hn hsmall => ?_⟩
  · rw [judgeTime_delay hl ha hep hpeer', timed_delay given _ hlt, ← hshown, shownDelay_even _ _ heven hlo hhi]
  · rw [halve_even _ hn] at hoff
    subst hoff
    refine ⟨?_, fun hin => ?_, fun hout => ?_⟩
    · rw [judgeTime_reg hl hep hpeer' (epStat_ne_offset _ _ _ _).symm (epOffset_ne_stat ha) (epOffset_plain _ _),
        timed_offset shown _ hsmall]
    · obtain ⟨hfour, hover, hup⟩ := judgeTime_within hl ha hep hpeer' (by rw [hguard]; exact hin)
      exact ⟨hfour, hover, fun h => hup (hactive.trans h)⟩
    · obtain ⟨hthree, hnext⟩ := judgeTime_beyond hl ha hep hpeer' (by rw [hguard]; exact hout)
      refine ⟨hthree, fun d hd => ?_⟩
      have h := hnext d (hdev.trans hd)
      rw [hrounds, htb] at h
      exact h

end Sys2Proof.Machine

/-! PROOFS. Retries, power states and messages of endpoints (R594, R598, R611, R619 to R624). -/

namespace Sys2Proof.Machine

-- One theorem after the other: many at once ask for too many threads.
set_option Elab.async false

/-! ## STRAYED_RETRY (R611) -/

/-- The time checks start again. -/
def Ep.retried (e : Ep) : Ep := { e with retry := false, resync := 0 }

theorem exec_strayedRetry (l a : Nat) (s : State) : exec (.strayedRetry l a) s = done s
    (match s.begin_.ep? l a with
      | some e => if e.retry && s.begin_.epState l a == 3 then startExchange l a (s.begin_.setEp l a Ep.retried) else s.begin_
      | none => s.begin_) := rfl

theorem strayedRetry_done (l a : Nat) (s : State) : ∃ t, exec (.strayedRetry l a) s = .next t ∧
    ((¬ ∃ e, s.ep? l a = some e ∧ e.retry = true ∧ s.epState l a = 3) → State.unchanged s t) ∧
    ((∃ e, s.ep? l a = some e ∧ e.retry = true ∧ s.epState l a = 3) →
      (∃ g, (t.ep? l a).bind Ep.exch = some (g, s.tb.lt.toNat)) ∧ (t.ep? l a).map Ep.retry = some false) := by
  rw [exec_strayedRetry, show s.begin_.ep? l a = s.ep? l a from rfl, show s.begin_.epState l a = s.epState l a from rfl]
  by_cases hdue : ∃ e, s.ep? l a = some e ∧ e.retry = true ∧ s.epState l a = 3
  · obtain ⟨e, he, hretry, hstate⟩ := hdue
    rw [he]
    dsimp only
    rw [if_pos (by simp [hretry, hstate])]
    have htouch : Touches .exchange s.begin_ (startExchange l a (s.begin_.setEp l a Ep.retried)) :=
      ((State.setEp_touches s.begin_ l a Ep.retried).mono).then (startExchange_touches l a _)
    have hep : (s.begin_.setEp l a Ep.retried).ep? l a = some e.retried := by
      rw [ep?_setEp _ l a (f := Ep.retried) (fun _ => ⟨rfl, rfl⟩), if_pos ⟨rfl, rfl⟩]
      exact congrArg (Option.map Ep.retried) he
    refine ⟨_, htouch.done_eq, fun h => absurd ⟨e, rfl, hretry, hstate⟩ h, fun _ => ?_⟩
    rw [startExchange_ep?, if_pos ⟨rfl, rfl⟩, hep]
    exact ⟨⟨_, rfl⟩, rfl⟩
  · have hstay : (match s.ep? l a with
        | some e => if e.retry && s.epState l a == 3 then startExchange l a (s.begin_.setEp l a Ep.retried) else s.begin_
        | none => s.begin_) = s.begin_ := by
      cases he : s.ep? l a with
      | none => rfl
      | some e =>
        refine if_neg fun h => hdue ⟨e, he, ?_⟩
        simpa using h
    rw [hstay]
    obtain ⟨t, ht, hu⟩ := done_unchanged s
    exact ⟨t, ht, fun _ => hu, fun h => absurd h hdue⟩

/-! ## POWER (R619) -/

/-- The endpoint has been asked for a power state. -/
def Ep.asking (target : Nat) (e : Ep) : Ep := { e with asked := target }

/-- The command asks for a state that the endpoint may take. -/
def State.mayPower (s : State) (l a target : Nat) : Bool :=
  let beyond := ((s.ring l).dropWhile fun e => e.addr != a).drop 1
  let idle := if target == 1 then (s.dev.map fun d => d.power.dozeUs).getD 0 else (s.dev.map fun d => d.power.sleepMs).getD 0
  s.epActive l a && (target == 1 || target == 2) && idle != 0 &&
    decide (target ≤ ((s.epDecl? l a).map EpDecl.power).getD 0) &&
    beyond.all fun e => decide (4 + target ≤ s.epState l e.addr)

theorem exec_power (l a target : Nat) (s : State) : exec (.power l a target) s =
    done s (if s.mayPower l a target then (sendPower l a target s.begin_).setEp l a (Ep.asking target) else s.begin_) := rfl

theorem mayPower_iff {s : State} {l a target : Nat} {d : DevBlock} {x : EpDecl} (hd : s.dev = some d) (hx : d.ep? l a = some x) :
    s.mayPower l a target = true ↔ s.epActive l a = true ∧ (target = 1 ∨ target = 2) ∧
      (if target = 1 then d.power.dozeUs else d.power.sleepMs) ≠ 0 ∧ target ≤ x.power ∧
      ∀ y ∈ ((s.ring l).dropWhile fun y => y.addr != a).drop 1, 4 + target ≤ s.epState l y.addr := by
  have hdecl : s.epDecl? l a = some x := by rw [State.epDecl?, hd]; exact hx
  unfold State.mayPower
  rw [hdecl, hd]
  simp only [Option.map_some, Option.getD_some, Bool.and_eq_true, Bool.or_eq_true, beq_iff_eq, bne_iff_ne, decide_eq_true_eq,
    List.all_eq_true, and_assoc]

theorem power_done {s : State} {l a target : Nat} {e : Ep} {d : DevBlock} {x : EpDecl} (he : s.ep? l a = some e) (hd : s.dev = some d)
    (hx : d.ep? l a = some x) : ∃ t, exec (.power l a target) s = .next t ∧
      (¬ (s.mayPower l a target = true) → State.unchanged s t) ∧ (s.mayPower l a target = true → t.ep? l a = some { e with asked := target } ∧
        ((s.link l).queue = [] → (s.link l).canSend 1 4 = true → s.asleep l = false → t.out = [(l, 0x07, a, [target, 0])]) ∧
        State.onlyRegs [Reg.slinkStat l] s { t with eps := s.eps, links := s.links }) := by
  rw [exec_power]
  by_cases hmay : s.mayPower l a target = true
  · rw [if_pos hmay]
    have htouch : Touches { regs := true, evq := true, eps := true, links := true, phy := true, out := true } s.begin_
        ((sendPower l a target s.begin_).setEp l a (Ep.asking target)) :=
      ((sendPacket_touches l 1 0x07 a _ s.begin_).mono).then (State.setEp_touches _ l a _)
    have heps : (sendPower l a target s.begin_).eps = s.eps := sendFor_eps none none l 1 a (type := 0x07) _ s.begin_ (by decide)
    have htarget : target = 1 ∨ target = 2 := ((mayPower_iff hd hx).1 hmay).2.1
    refine ⟨_, htouch.done_eq, fun h => absurd hmay h, fun _ => ⟨?_, fun hqueue hroom hawake => ?_, htouch.back_begin,
      kept_of_reg fun b hb _ => ?_⟩⟩
    · rw [ep?_setEp _ l a (f := Ep.asking target) (fun _ => ⟨rfl, rfl⟩), if_pos ⟨rfl, rfl⟩, ep?_congr heps, he]
      rfl
    · have hnow : sendPower l a target s.begin_ = startPacket l 1 0x07 a [BitVec.ofNat 64 target, 0] s.begin_ :=
        sendFor_now hawake (by rw [show (s.begin_.link l).queue = [] from hqueue]; rfl) hroom
      rw [(State.setEp_touches _ l a _).keeps State.out, hnow, startPacket_out]
      rcases htarget with rfl | rfl <;> rfl
    · exact sendFor_reg none none l 1 0x07 a _ s.begin_ (by simpa using hb)
  · rw [if_neg hmay]
    obtain ⟨t, ht, hu⟩ := done_unchanged s
    exact ⟨t, ht, fun _ => hu, fun h => absurd h hmay⟩

/-! ## Lanes of a segment -/

theorem laneStat_touches (k train pstate : Nat) (pll lock : Bool) (s : State) :
    Touches { regs := true, lanes := true } s (laneStat k train pstate pll lock s) := by
  unfold laneStat
  refine Touches.then (n := { regs := true }) (Touches.ite (fun _ => ?_) fun _ => Touches.refl) (State.fset_touches _ _ _ _ _)
  unfold gainLock
  exact Touches.ite (fun _ => Touches.refl) fun _ => (State.setLane_touches s k _).mono

theorem laneStat_reg (k train pstate : Nat) (pll lock : Bool) (s : State) {b : Nat} (hb : b ≠ Reg.laneStat k) :
    (laneStat k train pstate pll lock s).reg b = s.reg b := by
  refine (State.reg_fset_ne _ _ _ _ hb).trans ?_
  split
  · unfold gainLock
    split <;> rfl
  · rfl

theorem askSleep_touches (k st : Nat) (s : State) : Touches { regs := true, lanes := true } s (askSleep k st s) :=
  Touches.ite (fun _ => (State.setLane_touches s k _).mono) fun _ => laneStat_touches _ _ _ _ _ s

theorem askSleep_reg (k st : Nat) (s : State) {b : Nat} (hb : b ≠ Reg.laneStat k) : (askSleep k st s).reg b = s.reg b := by
  unfold askSleep
  split
  · rfl
  · exact laneStat_reg _ _ _ _ _ s hb

/-! ## POWER_RESP (R620, R621) -/

/-- The segment of an endpoint sleeps, as its own. -/
def sleepSegment (l a target : Nat) (s : State) : State :=
  let s := streamBlocks l [eidleBlock target] (deliver l (blockType 0x55) a [target] s)
  let s := (s.linkLanes l).foldl (fun s k => askSleep k (1 + target) s) s
  if target == 2 then (s.setLink l fun k => { k with up := false }).setFlag (Reg.slinkStat l) 31 false else s

theorem sleepEp_eq (l a target : Nat) (s : State) : sleepEp l a target s =
    if (((leaveActive l a (4 + target) s).setEp l a (Ep.asking 0)).ring l).head?.map Ep.addr == some a then
      sleepSegment l a target ((leaveActive l a (4 + target) s).setEp l a (Ep.asking 0))
    else (leaveActive l a (4 + target) s).setEp l a (Ep.asking 0) := rfl

theorem sleepSegment_touches (l a target : Nat) (s : State) :
    Touches { regs := true, lanes := true, links := true, phy := true, out := true } s (sleepSegment l a target s) := by
  have hidle : Touches { phy := true, out := true } s
      (streamBlocks l [eidleBlock target] (deliver l (blockType 0x55) a [target] s)) :=
    ((deliver_touches l (blockType 0x55) a [target] s).mono).then (streamBlocks_touches l _ _)
  have hlanes : Touches { regs := true, lanes := true, phy := true, out := true } s
      (((streamBlocks l [eidleBlock target] (deliver l (blockType 0x55) a [target] s)).linkLanes l).foldl
        (fun s k => askSleep k (1 + target) s)
        (streamBlocks l [eidleBlock target] (deliver l (blockType 0x55) a [target] s))) :=
    (hidle.mono).then (Touches.foldl (fun u k => askSleep_touches k _ u) _ _)
  exact Touches.ite (fun _ => ((hlanes.mono).then (State.setLink_touches _ l _)).then (State.setFlag_touches _ _ _ _)) fun _ => hlanes.mono

theorem sleepSegment_reg (l a target : Nat) (s : State) {b : Nat} (hlane : ∀ k, b ≠ Reg.laneStat k) (hlink : b ≠ Reg.slinkStat l) :
    (sleepSegment l a target s).reg b = s.reg b := by
  have hidle : (streamBlocks l [eidleBlock target] (deliver l (blockType 0x55) a [target] s)).reg b = s.reg b :=
    reg_congr ((streamBlocks_touches l _ _).keeps State.regs) b
  have hlanes : ∀ ks, (List.foldl (fun s k => askSleep k (1 + target) s)
      (streamBlocks l [eidleBlock target] (deliver l (blockType 0x55) a [target] s)) ks).reg b = s.reg b := fun ks =>
    (foldl_reg (fun k _ u => askSleep_reg k _ u (hlane k)) _).trans hidle
  unfold sleepSegment
  dsimp only
  split
  · exact (State.reg_setFlag_ne _ _ _ hlink).trans (hlanes _)
  · exact hlanes _

theorem sleepEp_touches (l a target : Nat) (s : State) :
    Touches { regs := true, miles := true, eps := true, links := true, lanes := true, phy := true, out := true } s (sleepEp l a target s) := by
  have hleave : Touches .leaving s ((leaveActive l a (4 + target) s).setEp l a (Ep.asking 0)) :=
    (leaveActive_touches l a _ s).then (State.setEp_touches _ l a _)
  rw [sleepEp_eq]
  exact Touches.ite (fun _ => (hleave.mono).then (sleepSegment_touches l a target _)) fun _ => hleave.mono

theorem sleepEp_epState {l a target : Nat} (s : State) (ha : a < 64) (ht : target ≤ 2) : (sleepEp l a target s).epState l a = 4 + target := by
  have hleave : ((leaveActive l a (4 + target) s).setEp l a (Ep.asking 0)).epState l a = 4 + target := leaveActive_epState s ha (by omega)
  rw [sleepEp_eq]
  split
  · exact (epState_of_reg (sleepSegment_reg l a target _ (epStat_ne_laneStat ha) (epStat_ne_stat ha l))).trans hleave
  · exact hleave

theorem exec_powerResp {s : State} {l a : Nat} {e : Ep} (result : Nat) (he : s.ep? l a = some e) : exec (.powerResp l a result) s =
    done s (if e.asked == 0 || !s.epActive l a then s.begin_
      else if result == 0 then sleepEp l a e.asked s.begin_ else s.begin_.setEp l a (Ep.asking 0)) := by
  have hbegin : s.begin_.ep? l a = some e := he
  show execPowerResp l a result s = _
  unfold execPowerResp
  simp only [hbegin]
  rfl

theorem powerResp_done {s : State} {l a : Nat} (result : Nat) {e : Ep} (he : s.ep? l a = some e) (ha : a < 64) :
    ∃ t, exec (.powerResp l a result) s = .next t ∧ (e.asked = 0 ∨ s.epActive l a = false → State.unchanged s t) ∧
      (e.asked ≠ 0 → s.epActive l a = true → result ≠ 0 → t.ep? l a = some { e with asked := 0 } ∧ t.epState l a = 4 ∧
        { t with eps := s.eps, out := s.out, phy := s.phy.still t.phy } = s) ∧
      (e.asked ≠ 0 → e.asked ≤ 2 → s.epActive l a = true → result = 0 → t.epState l a = 4 + e.asked) := by
  rw [exec_powerResp result he]
  by_cases hnone : e.asked = 0 ∨ s.epActive l a = false
  · rw [if_pos (by simpa using hnone)]
    obtain ⟨t, ht, hu⟩ := done_unchanged s
    refine ⟨t, ht, fun _ => hu, fun h0 hact => ?_, fun h0 _ hact => ?_⟩
    all_goals exact absurd hnone (by simp [h0, hact])
  · rw [if_neg (by simpa using hnone)]
    have hact : s.epActive l a = true := by simpa using (not_or.1 hnone).2
    have hstate : s.epState l a = 4 := by simpa [State.epActive] using hact
    by_cases hr : result = 0
    · rw [if_pos (by simpa using hr)]
      exact ⟨_, (sleepEp_touches l a e.asked s.begin_).done_eq, fun h => absurd h hnone, fun _ _ h => absurd hr h,
        fun _ hle _ _ => sleepEp_epState s.begin_ ha hle⟩
    · rw [if_neg (by simpa using hr)]
      have htouch := State.setEp_touches s.begin_ l a (Ep.asking 0)
      refine ⟨_, htouch.done_eq, fun h => absurd h hnone, fun _ _ _ => ⟨?_, hstate, htouch.back_begin⟩, fun _ _ _ h => absurd h hr⟩
      rw [ep?_setEp _ l a (f := Ep.asking 0) (fun _ => ⟨rfl, rfl⟩), if_pos ⟨rfl, rfl⟩]
      exact congrArg (Option.map (Ep.asking 0)) he

/-! ## SEGMENT_WAKE (R622 to R624) -/

/-- Nothing is asked of an endpoint that wakes. -/
def Ep.woken (e : Ep) : Ep := { e with resync := 0, retry := false, asked := 0 }

/-- The device's own segment relocks, or trains and is aligned anew. -/
def wakeSegment (l st : Nat) (s : State) : State :=
  let s := (s.linkLanes l).foldl (fun (s : State) k => laneStat k (s.laneTrain k) 1 true true s) s
  if st == 6 then alignLink l s else s

theorem wakeEp_eq (l a : Nat) (s : State) : wakeEp l a s =
    if s.epState l a == 5 || s.epState l a == 6 then
      if (s.ring l).head?.map Ep.addr == some a then
        startExchange l a (drain l ((setEpState l a 2 (wakeSegment l (s.epState l a) s)).setEp l a Ep.woken))
      else startExchange l a ((setEpState l a 2 s).setEp l a Ep.woken)
    else s := by
  unfold wakeEp
  dsimp only
  split
  · split <;> rfl
  · rfl

theorem sendCredit_touches (l vc : Nat) (s : State) : Touches { phy := true, out := true } s (sendCredit l vc s) := by
  have hout : ∀ x, Touches { out := true } s { s with out := x } := fun _ => ⟨rfl, rfl⟩
  exact ((hout _).mono).then (streamBlocks_touches l _ _)

theorem sendCredits_touches (l : Nat) (s : State) : Touches { phy := true, out := true } s (sendCredits l s) :=
  Touches.foldl (fun u vc => sendCredit_touches l vc u) _ s

theorem alignLink_touches (l : Nat) (s : State) :
    Touches { regs := true, links := true, phy := true, out := true } s (alignLink l s) := by
  refine Touches.then ?_ (sendCredits_touches l _)
  exact (((State.setLink_touches s l _).mono).then (State.setFlag_touches _ _ _ _)).then (State.fset_touches _ _ _ _ _)

theorem alignLink_reg (l : Nat) (s : State) {b : Nat} (hb : b ≠ Reg.slinkStat l) : (alignLink l s).reg b = s.reg b := by
  refine (reg_congr ((sendCredits_touches l _).keeps State.regs) b).trans ?_
  exact (State.reg_fset_ne _ _ _ _ hb).trans (State.reg_setFlag_ne _ _ _ hb)

theorem wakeSegment_touches (l st : Nat) (s : State) :
    Touches { regs := true, lanes := true, links := true, phy := true, out := true } s (wakeSegment l st s) := by
  have hlanes : Touches { regs := true, lanes := true } s
      ((s.linkLanes l).foldl (fun (s : State) k => laneStat k (s.laneTrain k) 1 true true s) s) :=
    Touches.foldl (fun u k => laneStat_touches k _ 1 true true u) _ s
  exact Touches.ite (fun _ => (hlanes.mono).then (alignLink_touches l _)) fun _ => hlanes.mono

theorem wakeSegment_reg (l st : Nat) (s : State) {b : Nat} (hlane : ∀ k, b ≠ Reg.laneStat k) (hlink : b ≠ Reg.slinkStat l) :
    (wakeSegment l st s).reg b = s.reg b := by
  have hlanes : ((s.linkLanes l).foldl (fun (s : State) k => laneStat k (s.laneTrain k) 1 true true s) s).reg b = s.reg b :=
    foldl_reg (fun k _ u => laneStat_reg k _ 1 true true u (hlane k)) s
  unfold wakeSegment
  dsimp only
  split
  · exact (alignLink_reg l _ hlink).trans hlanes
  · exact hlanes

/-- What an endpoint changes that wakes. -/
abbrev Parts.waking : Parts :=
  { regs := true, eps := true, lanes := true, links := true, timeTag := true, phy := true, out := true }

theorem wakeEp_touches (l a : Nat) (s : State) : Touches .waking s (wakeEp l a s) := by
  rw [wakeEp_eq]
  refine Touches.ite (fun _ => Touches.ite (fun _ => ?_) fun _ => ?_) fun _ => Touches.refl
  · exact (((((wakeSegment_touches l _ s).mono).then (setEpState_touches l a 2 _)).then (State.setEp_touches _ l a Ep.woken)).then
      (drain_touches l _)).then (startExchange_touches l a _)
  · exact (((setEpState_touches l a 2 s).mono).then (State.setEp_touches _ l a Ep.woken)).then (startExchange_touches l a _)

/-- An endpoint that does not sleep stays as it is. -/
theorem wakeEp_awake {l a : Nat} {s : State} (h : s.epState l a ≠ 5 ∧ s.epState l a ≠ 6) : wakeEp l a s = s := by
  rw [wakeEp_eq, if_neg (by simpa using h)]

/-- The wake-up of an endpoint changes the state of no other. -/
theorem wakeEp_other {l a : Nat} (s : State) (ha : a < 64) {a' : Nat} (ha' : a' < 64) (hne : a' ≠ a) :
    (wakeEp l a s).epState l a' = s.epState l a' := by
  have hset : ∀ u, ((setEpState l a 2 u).setEp l a Ep.woken).epState l a' = u.epState l a' := fun u =>
    setEpState_other 2 u ha ha' fun h => hne h.2
  rw [wakeEp_eq]
  split
  · split
    · refine (startExchange_epState _ ha').trans ((epState_of_reg (drain_reg l _ (epStat_ne_stat ha' l))).trans ((hset _).trans ?_))
      exact epState_of_reg (wakeSegment_reg l _ s (epStat_ne_laneStat ha') (epStat_ne_stat ha' l))
    · exact (startExchange_epState _ ha').trans (hset s)
  · rfl

theorem wakeEp_isSome (l a : Nat) (s : State) (l' a' : Nat) : ((wakeEp l a s).ep? l' a').isSome = (s.ep? l' a').isSome := by
  have hset : ∀ u, (((setEpState l a 2 u).setEp l a Ep.woken).ep? l' a').isSome = (u.ep? l' a').isSome := fun u =>
    ep?_isSome_setEp (setEpState l a 2 u) l a (f := Ep.woken) (fun _ => ⟨rfl, rfl⟩) l' a'
  have hstart : ∀ u, ((startExchange l a u).ep? l' a').isSome = (u.ep? l' a').isSome := fun u => by
    rw [startExchange_ep?]
    split
    next h => obtain ⟨rfl, rfl⟩ := h; exact Option.isSome_map
    next => rfl
  rw [wakeEp_eq]
  split
  · split
    · rw [hstart, ep?_isSome_drain, hset, ep?_congr ((wakeSegment_touches l _ s).keeps State.eps)]
    · rw [hstart, hset]
  · rfl

/-- A sleeping endpoint is checked again, and a declared one by an exchange that starts now (R622). -/
theorem wakeEp_asleep {l a : Nat} {s : State} (ha : a < 64) (h : s.epState l a = 5 ∨ s.epState l a = 6) :
    (wakeEp l a s).epState l a = 2 ∧ ((s.ep? l a).isSome = true →
      ∃ g, ((wakeEp l a s).ep? l a).bind Ep.exch = some (g, s.tb.lt.toNat)) := by
  have hset : ∀ u, ((setEpState l a 2 u).setEp l a Ep.woken).epState l a = 2 := fun u => setEpState_epState u ha (by decide)
  have hsome : ∀ u, (((setEpState l a 2 u).setEp l a Ep.woken).ep? l a).isSome = (u.ep? l a).isSome := fun u =>
    ep?_isSome_setEp (setEpState l a 2 u) l a (f := Ep.woken) (fun _ => ⟨rfl, rfl⟩) l a
  rw [wakeEp_eq, if_pos (by simpa using h)]
  split
  · have hwake := wakeSegment_touches l (s.epState l a) s
    have htouch : Touches .waking s (drain l ((setEpState l a 2 (wakeSegment l (s.epState l a) s)).setEp l a Ep.woken)) :=
      (((hwake.mono).then (setEpState_touches l a 2 _)).then (State.setEp_touches _ l a Ep.woken)).then (drain_touches l _)
    refine ⟨(startExchange_epState _ ha).trans ((epState_of_reg (drain_reg l _ (epStat_ne_stat ha l))).trans (hset _)), fun hs => ?_⟩
    obtain ⟨g, hg⟩ := startExchange_exchanging (l := l) (a := a)
      (s := drain l ((setEpState l a 2 (wakeSegment l (s.epState l a) s)).setEp l a Ep.woken))
      (by rw [ep?_isSome_drain, hsome, ep?_congr (hwake.keeps State.eps)]; exact hs)
    exact ⟨g, hg.trans (congrArg (fun tb : Timebase => some (g, tb.lt.toNat)) (htouch.keeps State.tb))⟩
  · refine ⟨(startExchange_epState _ ha).trans (hset s), fun hs => ?_⟩
    exact startExchange_exchanging ((hsome s).trans hs)

theorem foldl_wake_other {l a : Nat} (ha : a < 64) (xs : List Nat) (s : State) (h : ∀ x ∈ xs, x < 64 ∧ x ≠ a) :
    (xs.foldl (fun t x => wakeEp l x t) s).epState l a = s.epState l a ∧
      (((xs.foldl (fun t x => wakeEp l x t) s).ep? l a).isSome = (s.ep? l a).isSome) := by
  induction xs generalizing s with
  | nil => exact ⟨rfl, rfl⟩
  | cons x r ih =>
    obtain ⟨hstate, hsome⟩ := ih (wakeEp l x s) fun y hy => h y (by simp [hy])
    have hx := h x (by simp)
    exact ⟨hstate.trans (wakeEp_other s hx.1 ha (Ne.symm hx.2)), hsome.trans (wakeEp_isSome l x s l a)⟩

/-- The endpoints between the device and an endpoint. -/
def State.near (s : State) (l a : Nat) : List Nat := ((s.ring l).takeWhile fun e => e.addr != a).map Ep.addr

theorem exec_segmentWake (l a : Nat) (s : State) : exec (.segmentWake l a) s =
    done s (if (s.linkLanes l).all s.lrefOk then (s.near l a ++ [a]).foldl (fun t x => wakeEp l x t) s.begin_ else s.begin_) := rfl

theorem near_bound {s : State} (l a : Nat) (hok : s.epsOk = true) : ∀ x ∈ s.near l a, x < 64 ∧ x ≠ a := by
  intro x hx
  obtain ⟨e, he, rfl⟩ := List.mem_map.1 hx
  have hmem := (mem_ring.1 ((List.takeWhile_sublist _).subset he)).1
  exact ⟨((epsOk_iff.1 hok).2 e hmem).2, by simpa using List.mem_takeWhile_imp he⟩

theorem segmentWake_done {s : State} {l a : Nat} (ha : a < 64) (hok : s.epsOk = true) : ∃ t, exec (.segmentWake l a) s = .next t ∧
    ((∃ k ∈ s.linkLanes l, s.lrefOk k = false) → State.unchanged s t) ∧
    ((∀ k ∈ s.linkLanes l, s.lrefOk k = true) → (s.epState l a = 5 ∨ s.epState l a = 6 → t.epState l a = 2 ∧
        ((s.ep? l a).isSome = true → ∃ g, (t.ep? l a).bind Ep.exch = some (g, s.tb.lt.toNat))) ∧
      ((∀ b < 64, s.epState l b ≠ 5 ∧ s.epState l b ≠ 6) → State.unchanged s t)) := by
  rw [exec_segmentWake]
  by_cases hall : ∀ k ∈ s.linkLanes l, s.lrefOk k = true
  · rw [if_pos (List.all_eq_true.2 hall), List.foldl_append, List.foldl_cons, List.foldl_nil]
    have hnear := near_bound (s := s) l a hok
    have hfold : Touches .waking s.begin_ ((s.near l a).foldl (fun t x => wakeEp l x t) s.begin_) :=
      Touches.foldl (op := fun t x => wakeEp l x t) (fun u x => wakeEp_touches l x u) _ _
    have htouch := hfold.then (n := .waking) (wakeEp_touches l a _)
    obtain ⟨hstate, hsome⟩ := foldl_wake_other (l := l) ha (s.near l a) s.begin_ hnear
    refine ⟨_, htouch.done_eq, fun h => ?_, fun _ => ⟨fun hsleep => ?_, fun hawake => ?_⟩⟩
    · obtain ⟨k, hk, hoff⟩ := h
      exact absurd ((hall k hk).symm.trans hoff) (by decide)
    · obtain ⟨htwo, hexch⟩ := wakeEp_asleep (l := l) (a := a) ha
        (s := (s.near l a).foldl (fun t x => wakeEp l x t) s.begin_) (by rw [hstate]; exact hsleep)
      refine ⟨htwo, fun hs => ?_⟩
      obtain ⟨g, hg⟩ := hexch (hsome.trans hs)
      exact ⟨g, hg.trans (congrArg (fun tb : Timebase => some (g, tb.lt.toNat)) (hfold.keeps State.tb))⟩
    · have hstay : (s.near l a).foldl (fun t x => wakeEp l x t) s.begin_ = s.begin_ :=
        foldl_stays _ fun x hx => wakeEp_awake (hawake x (hnear x hx).1)
      rw [hstay, wakeEp_awake (s := s.begin_) (hawake a ha)]
      exact (Touches.refl (m := {})).back_begin
  · rw [if_neg fun h => hall (List.all_eq_true.1 h)]
    obtain ⟨t, ht, hu⟩ := done_unchanged s
    exact ⟨t, ht, fun _ => hu, fun h => absurd h hall⟩

/-! ## Messages to software (R594, R598) -/

theorem deliver_done {c : Instr} {s : State} {l type a : Nat} {ws : List Nat}
    (h : exec c s = done s (if s.epUp l a then deliver l type a ws s.begin_ else s.begin_)) :
    ∃ t, exec c s = .next t ∧ State.unchanged s t ∧ t.out = if s.epUp l a = true then [(l, type, a, ws)] else [] := by
  rw [h]
  by_cases hup : s.epUp l a = true
  · rw [if_pos hup, if_pos hup]
    have htouch := deliver_touches l type a ws s.begin_
    exact ⟨_, htouch.done_eq, htouch.back_begin, rfl⟩
  · rw [if_neg hup, if_neg hup]
    exact ⟨_, (Touches.refl (m := {})).done_eq, (Touches.refl (m := {})).back_begin, rfl⟩

/-- The report of an endpoint is shown. -/
def showReport (l a time value : Nat) (s : State) : State :=
  ((s.setN (Reg.slinkEpRptLo l a) (value % 2 ^ 32)).setN (Reg.slinkEpRptHi l a) (value / 2 ^ 32 % 2 ^ 32)).setN
    (Reg.slinkEpRptTime l a) (time % 2 ^ 32)

theorem exec_ioReport (l a time value : Nat) (s : State) :
    exec (.ioReport l a time value) s = done s (if s.epUp l a then showReport l a time value s.begin_ else s.begin_) := rfl

theorem toNat_reg_setN_mod (s : State) (a x : Nat) : ((s.setN a (x % 2 ^ 32)).reg a).toNat = x % 2 ^ 32 := by
  rw [State.reg_setN, BitVec.toNat_ofNat, Nat.mod_mod]

theorem showReport_words (l a time value : Nat) (s : State) :
    ((showReport l a time value s).reg (Reg.slinkEpRptLo l a)).toNat = value % 2 ^ 32 ∧
      ((showReport l a time value s).reg (Reg.slinkEpRptHi l a)).toNat = value / 2 ^ 32 % 2 ^ 32 ∧
      ((showReport l a time value s).reg (Reg.slinkEpRptTime l a)).toNat = time % 2 ^ 32 := by
  have hlt : Reg.slinkEpRptLo l a ≠ Reg.slinkEpRptTime l a := by unfold Reg.slinkEpRptLo Reg.slinkEpRptTime; omega
  have hlh : Reg.slinkEpRptLo l a ≠ Reg.slinkEpRptHi l a := by unfold Reg.slinkEpRptLo Reg.slinkEpRptHi; omega
  have hht : Reg.slinkEpRptHi l a ≠ Reg.slinkEpRptTime l a := by unfold Reg.slinkEpRptHi Reg.slinkEpRptTime; omega
  refine ⟨?_, ?_, toNat_reg_setN_mod _ _ _⟩
  · rw [showReport, State.reg_setN_ne _ _ hlt, State.reg_setN_ne _ _ hlh]
    exact toNat_reg_setN_mod _ _ _
  · rw [showReport, State.reg_setN_ne _ _ hht]
    exact toNat_reg_setN_mod _ _ _

theorem ioReport_done (s : State) (l a time value : Nat) : ∃ t, exec (.ioReport l a time value) s = .next t ∧
    (s.epUp l a = false → State.unchanged s t) ∧
    (s.epUp l a = true → (t.reg (Reg.slinkEpRptLo l a)).toNat = value % 2 ^ 32 ∧
      (t.reg (Reg.slinkEpRptHi l a)).toNat = value / 2 ^ 32 % 2 ^ 32 ∧ (t.reg (Reg.slinkEpRptTime l a)).toNat = time % 2 ^ 32 ∧
      State.onlyRegs [Reg.slinkEpRptLo l a, Reg.slinkEpRptHi l a, Reg.slinkEpRptTime l a] s t) := by
  rw [exec_ioReport]
  by_cases hup : s.epUp l a = true
  · rw [if_pos hup]
    have htouch : Touches .events s.begin_ (showReport l a time value s.begin_) :=
      (((State.setN_touches s.begin_ _ _).mono).then (State.setN_touches _ _ _)).then (State.setN_touches _ _ _)
    obtain ⟨hlo, hhi, htime⟩ := showReport_words l a time value s.begin_
    refine ⟨_, htouch.done_eq, fun h => absurd (hup.symm.trans h) (by decide), fun _ => ⟨hlo, hhi, htime, htouch.back_begin,
      kept_of_reg fun b hb _ => ?_⟩⟩
    simp only [List.mem_cons, List.not_mem_nil, or_false, not_or] at hb
    obtain ⟨h1, h2, h3⟩ := hb
    exact (State.reg_setN_ne _ _ h3).trans ((State.reg_setN_ne _ _ h2).trans (State.reg_setN_ne _ _ h1))
  · rw [if_neg hup]
    obtain ⟨t, ht, hu⟩ := done_unchanged s
    exact ⟨t, ht, fun _ => hu, fun h => absurd h hup⟩

/-- Settles O60: each message is judged by what the endpoint's own registers and its exchange hold, and every exchange that starts
notes the time at which it does. -/
theorem endpointsAreJudgedTimedAndSlept : Obligations.EndpointsAreJudgedTimedAndSlept := by
  refine ⟨fun s l a serial cls version hl ha hact hquiet => ?_, fun s l hok => timeReq_done l hok,
    fun s l a tag t1 t2 t3 e hok _ he hexch hpeer _ => timeResp_done t2 t3 hok he hexch hpeer,
    fun s l a tag t2 t3 h => ?_, fun s l a => strayedRetry_done l a s, fun s l a target e d x he hd hx => ?_,
    fun s l a result e he _ ha => powerResp_done result he ha, fun s l a _ ha hok => segmentWake_done ha hok,
    fun s l a => ⟨fun code chan => deliver_done rfl, fun tag status data => deliver_done rfl⟩,
    fun s l a time value _ _ => ioReport_done s l a time value⟩
  · have h := announce_done serial cls version hl ha hact hquiet
    rw [judgeAnnounce_eq] at h
    exact h
  · rw [exec_timeResp_stray t2 t3 h]
    exact done_unchanged s
  · obtain ⟨t, ht, hoff, hon⟩ := power_done (target := target) he hd hx
    rw [mayPower_iff hd hx] at hoff hon
    exact ⟨t, ht, hoff, hon⟩

end Sys2Proof.Machine

/-! PROOFS. Captures, replays, and the read indexes of the rings (R487, R488, R490 to R495). -/

namespace Sys2Proof.Machine

-- One theorem after the other: many at once ask for too many threads.
set_option Elab.async false

/-! ## Domains that an action of a station needs (R857) -/

theorem stationDomains_lt : ∀ d ∈ stationDomains, d < 32 := by decide

/-- Switching on a domain of a station takes no more than its reset and its bit in PWR.DOM_ON. -/
theorem switchOn_station {d : Nat} (hd : d ∈ stationDomains) (s : State) :
    switchOn d s = if s.domOn d then s else (resetDomain d s).setFlag Reg.pwrDomOn d true := by
  have hband : (decide (domBand0 ≤ d) && decide (d < domTree)) = false := by revert d; decide
  have hfield : (d == domField) = false := by revert d; decide
  unfold switchOn
  dsimp only
  rw [hband, hfield]
  rfl

theorem resetDomain_station_regs {d : Nat} (hd : d ∈ stationDomains) (s : State) :
    (resetDomain d s).regs = s.regs.filter fun p => domainOf p.1 != d || d == 0 := by
  simp only [stationDomains, List.mem_cons, List.not_mem_nil, or_false] at hd
  rcases hd with rfl | rfl | rfl | rfl <;> rfl

theorem resetDomain_station_work {d : Nat} (hd : d ∈ stationDomains) (s : State) :
    (resetDomain d s).bales = s.bales ∧ (resetDomain d s).miles = s.miles := by
  simp only [stationDomains, List.mem_cons, List.not_mem_nil, or_false] at hd
  rcases hd with rfl | rfl | rfl | rfl <;> exact ⟨rfl, rfl⟩

/-- PWR.DOM_ON is in no domain that goes off. -/
theorem resetDomain_station_domOn {d : Nat} (hd : d ∈ stationDomains) (s : State) (e : Nat) :
    (resetDomain d s).domOn e = s.domOn e := by
  have hdom : domainOf Reg.pwrDomOn = 0 := by decide
  have hne : d ≠ 0 := by revert d; decide
  have hreg : (resetDomain d s).reg Reg.pwrDomOn = s.reg Reg.pwrDomOn := by
    refine (congrArg (fun f : RegFile => f.get Reg.pwrDomOn) (resetDomain_station_regs hd s)).trans ?_
    refine (RegFile.get_filter (fun b => domainOf b != d || d == 0) s.regs Reg.pwrDomOn).trans (if_pos ?_)
    simp [hdom, hne.symm]
  unfold State.domOn State.flag
  rw [hreg]

theorem switchOn_keeps_on {d e : Nat} (hd : d ∈ stationDomains) {s : State} (h : s.domOn e = true) : (switchOn d s).domOn e = true := by
  have hlt := stationDomains_lt d hd
  rw [switchOn_station hd]
  split
  · exact h
  · by_cases hed : e = d
    · rw [hed]
      exact State.flag_setFlag _ _ true hlt
    · exact (State.flag_setFlag_ne _ true hlt (.inr hed)).trans ((resetDomain_station_domOn hd s e).trans h)

theorem switchOn_on {d : Nat} (hd : d ∈ stationDomains) (s : State) : (switchOn d s).domOn d = true := by
  rw [switchOn_station hd]
  split
  · assumption
  · exact State.flag_setFlag _ _ true (stationDomains_lt d hd)

theorem switchOn_work {d : Nat} (hd : d ∈ stationDomains) (s : State) :
    (switchOn d s).bales = s.bales ∧ (switchOn d s).miles = s.miles := by
  rw [switchOn_station hd]
  split
  · exact ⟨rfl, rfl⟩
  · exact resetDomain_station_work hd s

section
variable {ds : List Nat} (hds : ∀ d ∈ ds, d ∈ stationDomains) (s : State)
include hds

theorem needDomains_keeps_on {e : Nat} (h : s.domOn e = true) : (needDomains ds s).domOn e = true := by
  unfold needDomains
  induction ds generalizing s with
  | nil => exact h
  | cons d r ih =>
    rw [List.foldl_cons]
    exact ih (fun x hx => hds x (by simp [hx])) _ (switchOn_keeps_on (hds d (by simp)) h)

/-- Every domain that is needed is on. -/
theorem needDomains_on : ∀ d ∈ ds, (needDomains ds s).domOn d = true := by
  unfold needDomains
  induction ds generalizing s with
  | nil => exact fun d hd => absurd hd (by simp)
  | cons d r ih =>
    have hr : ∀ x ∈ r, x ∈ stationDomains := fun x hx => hds x (by simp [hx])
    intro e he
    rw [List.foldl_cons]
    rcases List.mem_cons.1 he with rfl | he
    · exact needDomains_keeps_on hr _ (switchOn_on (hds e (by simp)) s)
    · exact ih hr _ e he

theorem needDomains_work : (needDomains ds s).bales = s.bales ∧ (needDomains ds s).miles = s.miles := by
  unfold needDomains
  induction ds generalizing s with
  | nil => exact ⟨rfl, rfl⟩
  | cons d r ih =>
    obtain ⟨hb, hm⟩ := ih (fun x hx => hds x (by simp [hx])) (switchOn d s)
    obtain ⟨hb', hm'⟩ := switchOn_work (hds d (by simp)) s
    rw [List.foldl_cons]
    exact ⟨hb.trans hb', hm.trans hm'⟩

end

/-! ## CAPTURE_GO and CAPTURE_DONE (R491, R502) -/

theorem domIsp_station : ∀ d ∈ [domIsp], d ∈ stationDomains := by decide

/-- The camera's next bale is captured. -/
def awaitCapture (c : Nat) (s : State) : State := { s.setN Reg.intakeCapture (2 ^ 31 + c % 32) with capture := some (c % 32, none) }

theorem exec_captureGo_free {s : State} (ini c : Nat) (h : s.capture = none) :
    exec (.captureGo ini c) s = done s (awaitCapture c (needDomains [domIsp] s.begin_)) := by
  have hcap : s.begin_.capture = none := h
  show done s (captureGo c s.begin_) = _
  unfold captureGo
  rw [hcap]
  rfl

theorem captureGo_free {s : State} (ini c : Nat) (h : s.capture = none) : ∃ t, exec (.captureGo ini c) s = .next t ∧
    t.domOn domIsp = true ∧ t.capture = some (c % 32, none) ∧ (t.reg Reg.intakeCapture).toNat = 2 ^ 31 + c % 32 ∧
    (s.domOn domIsp = true → State.onlyRegs [Reg.intakeCapture] s { t with capture := s.capture }) := by
  rw [exec_captureGo_free ini c h]
  have hon : (awaitCapture c (needDomains [domIsp] s.begin_)).domOn domIsp = true := by
    have hreg : (awaitCapture c (needDomains [domIsp] s.begin_)).reg Reg.pwrDomOn = (needDomains [domIsp] s.begin_).reg Reg.pwrDomOn :=
      State.reg_setN_ne (needDomains [domIsp] s.begin_) _ (by decide)
    have hneed := needDomains_on domIsp_station s.begin_ domIsp (by simp)
    unfold State.domOn State.flag at hneed ⊢
    rw [hreg]
    exact hneed
  have hword : ((awaitCapture c (needDomains [domIsp] s.begin_)).reg Reg.intakeCapture).toNat = 2 ^ 31 + c % 32 := by
    refine (congrArg BitVec.toNat (State.reg_setN (needDomains [domIsp] s.begin_) _ _)).trans ?_
    rw [BitVec.toNat_ofNat]
    exact Nat.mod_eq_of_lt (by omega)
  by_cases hisp : s.domOn domIsp = true
  · have hstay : needDomains [domIsp] s.begin_ = s.begin_ := by
      rw [needDomains, List.foldl_cons, List.foldl_nil, switchOn_station (by decide)]
      exact if_pos hisp
    rw [hstay] at hon hword ⊢
    have htouch : Touches { regs := true, evq := true, capture := true } s.begin_ (awaitCapture c s.begin_) :=
      ((State.setN_touches s.begin_ _ _).mono).then (n := { capture := true }) ⟨rfl, rfl⟩
    refine ⟨_, htouch.done_eq, hon, rfl, hword, fun _ => ⟨htouch.back_begin, kept_of_reg fun b hb _ => ?_⟩⟩
    exact State.reg_setN_ne s.begin_ _ (by simpa using hb)
  · exact ⟨_, rfl, (flag_congr rfl _ _).trans hon, rfl, (congrArg BitVec.toNat (reg_congr rfl _)).trans hword, fun h => absurd h hisp⟩

theorem captureGo_busy {s : State} (ini c : Nat) (h : s.capture ≠ none) :
    ∃ t, exec (.captureGo ini c) s = .next t ∧ State.unchanged s t := by
  have hcap : s.begin_.capture.isSome = true := Option.isSome_iff_ne_none.2 h
  have hexec : exec (.captureGo ini c) s = done s s.begin_ := by
    show done s (captureGo c s.begin_) = _
    unfold captureGo
    rw [if_pos hcap]
  rw [hexec]
  exact done_unchanged s

/-- The capture ends. -/
def endCapture (s : State) : State := { s.setFlag Reg.intakeCapture 31 false with capture := none }

theorem captureDone_whole {s : State} {c id : Nat} (hcap : s.capture = some (c, some id))
    (hwhole : ∀ b, s.bale? id = some b → s.capturing b = false) : ∃ t, exec .captureDone s = .next t ∧ t.capture = none ∧
      t.flag Reg.intakeCapture 31 = false ∧ t.fget Reg.intakeCapture 4 0 = s.fget Reg.intakeCapture 4 0 ∧
      State.onlyRegs [Reg.intakeCapture] s { t with capture := s.capture } := by
  have hoff : ((s.bale? id).map s.capturing).getD false = false := by
    cases hb : s.bale? id with
    | none => rfl
    | some b => exact hwhole b hb
  have hexec : exec .captureDone s = done s (endCapture s.begin_) := by
    have hbegin : s.begin_.capture = some (c, some id) := hcap
    show execCaptureDone s = _
    unfold execCaptureDone
    simp only [hbegin]
    exact congrArg (done s) (if_neg (by rw [show ((s.begin_.bale? id).map s.begin_.capturing).getD false = false from hoff]; decide))
  have htouch : Touches { regs := true, evq := true, capture := true } s.begin_ (endCapture s.begin_) :=
    ((State.setFlag_touches s.begin_ _ _ _).mono).then (n := { capture := true }) ⟨rfl, rfl⟩
  rw [hexec]
  refine ⟨_, htouch.done_eq, rfl, State.flag_setFlag s.begin_ _ false (by decide), ?_, htouch.back_begin, kept_of_reg fun b hb _ => ?_⟩
  · exact State.fget_fset_ne s.begin_ _ (by decide) (by decide) (by decide) (.inr (.inl (by decide)))
  · exact State.reg_setFlag_ne s.begin_ _ _ (by simpa using hb)

theorem captureDone_running {s : State}
    (h : ∀ c id, s.capture = some (c, some id) → ∃ b, s.bale? id = some b ∧ s.capturing b = true) :
    ∃ t, exec .captureDone s = .next t ∧ State.unchanged s t := by
  have hexec : exec .captureDone s = done s s.begin_ := by
    show execCaptureDone s = _
    unfold execCaptureDone
    have hbegin : s.begin_.capture = s.capture := rfl
    simp only [hbegin]
    rcases hcap : s.capture with _ | ⟨c, _ | id⟩
    · rfl
    · rfl
    · obtain ⟨b, hb, hrun⟩ := h c id hcap
      refine congrArg (done s) (if_pos ?_)
      rw [show s.begin_.bale? id = some b from hb]
      exact hrun
  rw [hexec]
  exact done_unchanged s

/-! ## DISP_RD and CODE_RD (R488) -/

theorem dispRead_touches (k v : Nat) (s : State) : Touches { regs := true, rings := true } s (dispRead k v s) :=
  ((State.fset_touches s _ _ _ _).mono).then (n := { rings := true }) ⟨rfl, rfl⟩

theorem codeRead_touches (k v : Nat) (s : State) : Touches { regs := true, rings := true } s (codeRead k v s) :=
  ((State.fset_touches s _ _ _ _).mono).then (n := { rings := true }) ⟨rfl, rfl⟩

/-- The unread places of one ring are replaced by no more. -/
theorem getD_modAt_min (xs : List (Nat × Nat)) (k : Nat) {f : Nat × Nat → Nat × Nat} (hf : f (0, 0) = (0, 0)) :
    (modAt xs k f).getD k (0, 0) = f (xs.getD k (0, 0)) := by
  by_cases hk : k < xs.length
  · exact getD_modAt_same f (0, 0) hk
  · have hlen : xs.length ≤ k := by omega
    rw [List.getD_eq_default _ _ hlen, List.getD_eq_default _ _ (by simpa [modAt] using hlen), hf]

theorem dispRd_done {s : State} (ini : Nat) {k v : Nat} (hk : k < 16) (hv : v < 65536) (hon : s.domOn domIsp = true) :
    ∃ t, exec (.dispRd ini k v) s = .next t ∧ t.fget (Reg.ispDispRd k) 15 0 = v ∧
      t.unreadIn k = (min (s.unreadIn k).1 (unread (s.fget (Reg.ispDispLines k) 15 0) v (s.fget (Reg.ispDispWr k) 15 0)), (s.unreadIn k).2) ∧
      (∀ j, j ≠ k → t.unreadIn j = s.unreadIn j) ∧ State.onlyRegs [Reg.ispDispRd k] s { t with rings := s.rings } := by
  have hexec : exec (.dispRd ini k v) s = done s (dispRead k v s.begin_) :=
    congrArg (done s) (ifOn_on (s := s.begin_) (dispRead k v) hon (decide_eq_true hk))
  have htouch : Touches { regs := true, evq := true, rings := true } s.begin_ (dispRead k v s.begin_) := (dispRead_touches k v s.begin_).mono
  have hlines : (s.begin_.fset (Reg.ispDispRd k) 15 0 v).fget (Reg.ispDispLines k) 15 0 = s.fget (Reg.ispDispLines k) 15 0 :=
    State.fget_fset_ne s.begin_ _ (by decide) (by decide) (by decide) (.inl (by unfold Reg.ispDispLines Reg.ispDispRd; omega))
  have hwr : (s.begin_.fset (Reg.ispDispRd k) 15 0 v).fget (Reg.ispDispWr k) 15 0 = s.fget (Reg.ispDispWr k) 15 0 :=
    State.fget_fset_ne s.begin_ _ (by decide) (by decide) (by decide) (.inl (by unfold Reg.ispDispWr Reg.ispDispRd; omega))
  rw [hexec]
  refine ⟨_, htouch.done_eq, ?_, ?_, fun j hj => ?_, htouch.back_begin, kept_of_reg fun b hb _ => ?_⟩
  · exact (State.fget_fset s.begin_ _ v (by decide) (by decide)).trans (Nat.mod_eq_of_lt hv)
  · refine (getD_modAt_min s.rings k (by simp)).trans ?_
    rw [hlines, hwr, Nat.mod_eq_of_lt hv]
    rfl
  · exact getD_modAt_ne s.rings _ (0, 0) hj
  · exact State.reg_fset_ne s.begin_ _ _ _ (by simpa using hb)

theorem codeRd_done {s : State} (ini : Nat) {k v : Nat} (hk : k < 16) (hv : v < 32) (hon : s.domOn domIsp = true) :
    ∃ t, exec (.codeRd ini k v) s = .next t ∧ t.fget (Reg.ispCodeRd k) 4 0 = v ∧
      t.unreadIn k = ((s.unreadIn k).1, min (s.unreadIn k).2 (unread (s.fget (Reg.ispCodeFrames k) 4 0) v (s.fget (Reg.ispCodeWr k) 4 0))) ∧
      (∀ j, j ≠ k → t.unreadIn j = s.unreadIn j) ∧ State.onlyRegs [Reg.ispCodeRd k] s { t with rings := s.rings } := by
  have hexec : exec (.codeRd ini k v) s = done s (codeRead k v s.begin_) :=
    congrArg (done s) (ifOn_on (s := s.begin_) (codeRead k v) hon (decide_eq_true hk))
  have htouch : Touches { regs := true, evq := true, rings := true } s.begin_ (codeRead k v s.begin_) := (codeRead_touches k v s.begin_).mono
  have hframes : (s.begin_.fset (Reg.ispCodeRd k) 4 0 v).fget (Reg.ispCodeFrames k) 4 0 = s.fget (Reg.ispCodeFrames k) 4 0 :=
    State.fget_fset_ne s.begin_ _ (by decide) (by decide) (by decide) (.inl (by unfold Reg.ispCodeFrames Reg.ispCodeRd; omega))
  have hwr : (s.begin_.fset (Reg.ispCodeRd k) 4 0 v).fget (Reg.ispCodeWr k) 4 0 = s.fget (Reg.ispCodeWr k) 4 0 :=
    State.fget_fset_ne s.begin_ _ (by decide) (by decide) (by decide) (.inl (by unfold Reg.ispCodeWr Reg.ispCodeRd; omega))
  rw [hexec]
  refine ⟨_, htouch.done_eq, ?_, ?_, fun j hj => ?_, htouch.back_begin, kept_of_reg fun b hb _ => ?_⟩
  · exact (State.fget_fset s.begin_ _ v (by decide) (by decide)).trans (Nat.mod_eq_of_lt hv)
  · refine (getD_modAt_min s.rings k (by simp)).trans ?_
    rw [hframes, hwr, Nat.mod_eq_of_lt hv]
    rfl
  · exact getD_modAt_ne s.rings _ (0, 0) hj
  · exact State.reg_fset_ne s.begin_ _ _ _ (by simpa using hb)

theorem ringRead_off {s : State} (ini k v : Nat) {c : Instr} (hoff : s.domOn domIsp = false) (hc : c = .dispRd ini k v ∨ c = .codeRd ini k v) :
    ∃ t, exec c s = .next t ∧ State.unchanged s t := by
  have hexec : exec c s = done s s.begin_ := by
    rcases hc with rfl | rfl
    · exact congrArg (done s) (ifOn_off (s := s.begin_) _ (dispRead k v) hoff)
    · exact congrArg (done s) (ifOn_off (s := s.begin_) _ (codeRead k v) hoff)
  rw [hexec]
  exact done_unchanged s

/-! ## REPLAY_GO (R492 to R495) -/

/-- REPLAY takes the station number. -/
def nameReplay (n : Nat) (s : State) : State := s.fset Reg.ispReplay 3 0 n

/-- The address of the image in DRAM. -/
def State.replayAddr (s : State) : Nat := s.fget Reg.ispReplayAddrLo 31 0 + s.fget Reg.ispReplayAddrHi 7 0 * 2 ^ 32

/-- Bytes of a raw bale image with its header. -/
def State.imageLen (s : State) (c : CamDecl) : Nat := 64 + s.linesOf c * c.planes * c.width * c.bpp

/-- The header of an image is not that of the camera. -/
def State.headerOff (s : State) (c : CamDecl) (h : List Byte) : Bool :=
  leAt h 0 4 != 0x57415248 || leAt h 4 1 != c.cam || leAt h 5 1 != c.pixfmt || leAt h 6 2 != c.width || leAt h 8 4 != s.linesOf c

theorem headerOff_iff (s : State) (c : CamDecl) (h : List Byte) : s.headerOff c h = false ↔
    leAt h 0 4 = 0x57415248 ∧ leAt h 4 1 = c.cam ∧ leAt h 5 1 = c.pixfmt ∧ leAt h 6 2 = c.width ∧ leAt h 8 4 = s.linesOf c := by
  simp only [State.headerOff, Bool.or_eq_false_iff, bne_eq_false_iff_eq, and_assoc]

/-- The bale of a replay. -/
def State.replayBale (s : State) (n : Nat) (blk : StnBlock) (c : CamDecl) (lines a len : Nat) (h : List Byte) : Bale :=
  { newBale (2 ^ 32 + s.nextUid) n blk.uid 2 (leAt h 12 4) none 0 0 0 with
    started := true, rs := s.rsWords n, bl := (List.range c.planes).map fun p => (c.cam, p, ((leAt h (0x10 + 2 * p) 2 : Nat) : Int)),
    raw := readImage c lines (s.dramAt a len), base := s.placeBale n blk }

/-- A replay starts. -/
def startReplay (b : Bale) (s : State) : State :=
  queueStripe b.id { s.setN Reg.ispReplayStat (2 ^ 31) with nextUid := s.nextUid + 1, bales := s.bales ++ [b] }

theorem nameReplay_touches (n : Nat) (s : State) : Touches { regs := true } s (nameReplay n s) := State.fset_touches s _ _ _ _

theorem nameReplay_fget (n : Nat) (s : State) {b hi lo : Nat} (hk : lo ≤ hi) (hb : b ≠ Reg.ispReplay ∨ 3 < lo) :
    (nameReplay n s).fget b hi lo = s.fget b hi lo :=
  State.fget_fset_ne s _ (by decide) (by decide) hk (hb.imp_right .inr)

theorem nameReplay_linesOf (n : Nat) (s : State) (c : CamDecl) : (nameReplay n s).linesOf c = s.linesOf c := by
  unfold State.linesOf
  rw [nameReplay_fget n s (by decide) (.inr (by decide))]

theorem nameReplay_addr (n : Nat) (s : State) : (nameReplay n s).replayAddr = s.replayAddr := by
  unfold State.replayAddr
  rw [nameReplay_fget n s (by decide) (.inl (by decide)), nameReplay_fget n s (by decide) (.inl (by decide))]

theorem nameReplay_busy (n : Nat) (s : State) : (nameReplay n s).flag Reg.ispReplayStat 31 = s.flag Reg.ispReplayStat 31 :=
  State.flag_fset_ne s _ (by decide) (by decide) (.inl (by decide))

theorem nameReplay_stn {n : Nat} (s : State) (hn : n < 16) : (nameReplay n s).fget Reg.ispReplay 3 0 = n :=
  (State.fget_fset s _ n (by decide) (by decide)).trans (Nat.mod_eq_of_lt hn)

/-- What the checks of a replay come to: a code of REPLAY_STAT.RESULT, or the block and the camera of the image (R495). -/
def State.replayCheck (s : State) (n : Nat) : Nat ⊕ (StnBlock × CamDecl) :=
  match s.active? n, s.env? n with
  | some blk, some e =>
    match blk.visionCam?.bind s.camDecl? with
    | none => .inl 2
    | some c =>
      if !e.inPayload s.replayAddr 64 then .inl 3
      else if s.headerOff c (s.dramAt s.replayAddr 64) then .inl 2
      else if !e.inPayload s.replayAddr (s.imageLen c) then .inl 3
      else if s.maxJobs n < s.slotsReserved n + blk.baleSlots then .inl 1
      else .inr (blk, c)
  | _, _ => .inl 2

/-- The replay that the checks ask for. -/
def finishReplay (n : Nat) (s : State) : Nat ⊕ (StnBlock × CamDecl) → State
  | .inl code => replayRefused code s
  | .inr (blk, c) =>
    let u := (needDomains stationDomains s).fset Reg.ispReplay 3 0 n
    startReplay (u.replayBale n blk c (s.linesOf c) s.replayAddr (s.imageLen c) (s.dramAt s.replayAddr 64)) u

theorem replayGo_eq {n : Nat} {s : State} (hidle : s.flag Reg.ispReplayStat 31 = false) :
    replayGo n s = finishReplay n (nameReplay n s) ((nameReplay n s).replayCheck n) := by
  have hbusy : (nameReplay n s).flag Reg.ispReplayStat 31 = false := (nameReplay_busy n s).trans hidle
  unfold replayGo
  refine (if_neg (show ¬ (nameReplay n s).flag Reg.ispReplayStat 31 = true by rw [hbusy]; decide)).trans ?_
  change _ = finishReplay n (s.fset Reg.ispReplay 3 0 n) ((s.fset Reg.ispReplay 3 0 n).replayCheck n)
  generalize s.fset Reg.ispReplay 3 0 n = u
  unfold State.replayCheck
  cases u.active? n with
  | none => rfl
  | some blk =>
    cases u.env? n with
    | none => rfl
    | some e =>
      dsimp only
      cases blk.visionCam?.bind u.camDecl? with
      | none => rfl
      | some c =>
        dsimp only
        simp only [apply_ite (finishReplay n u)]
        rfl

theorem nameReplay_check (n : Nat) (s : State) : (nameReplay n s).replayCheck n = s.replayCheck n := by
  have hlen : ∀ c, (nameReplay n s).imageLen c = s.imageLen c := fun c => by
    unfold State.imageLen
    rw [nameReplay_linesOf]
  have hoff : ∀ c h, (nameReplay n s).headerOff c h = s.headerOff c h := fun c h => by
    unfold State.headerOff
    rw [nameReplay_linesOf]
  unfold State.replayCheck
  simp only [hlen, hoff, nameReplay_addr]
  rfl

theorem exec_replayGo {n : Nat} {s : State} (ini : Nat) (hidle : s.flag Reg.ispReplayStat 31 = false) :
    exec (.replayGo ini n) s = done s (finishReplay n (nameReplay n s.begin_) (s.replayCheck n)) := by
  refine congrArg (done s) ((replayGo_eq (s := s.begin_) hidle).trans ?_)
  rw [nameReplay_check]
  rfl

/-- A replay while another one runs takes the station number only (R495). -/
theorem replayGo_busy {s : State} (ini : Nat) {n : Nat} (hn : n < 16) (hbusy : s.flag Reg.ispReplayStat 31 = true) :
    ∃ t, exec (.replayGo ini n) s = .next t ∧ t.fget Reg.ispReplay 3 0 = n ∧ State.onlyRegs [Reg.ispReplay] s t := by
  have hexec : exec (.replayGo ini n) s = done s (nameReplay n s.begin_) :=
    congrArg (done s) (if_pos ((nameReplay_busy n s.begin_).trans hbusy))
  have htouch : Touches .events s.begin_ (nameReplay n s.begin_) := (nameReplay_touches n s.begin_).mono
  rw [hexec]
  refine ⟨_, htouch.done_eq, nameReplay_stn s.begin_ hn, htouch.back_begin, kept_of_reg fun b hb _ => ?_⟩
  exact State.reg_fset_ne s.begin_ _ _ _ (by simpa using hb)

/-- A replay that is refused shows its code (R495). -/
theorem replayGo_refused {s : State} (ini : Nat) {n code : Nat} (hn : n < 16) (hidle : s.flag Reg.ispReplayStat 31 = false)
    (hcheck : s.replayCheck n = .inl code) : ∃ t, exec (.replayGo ini n) s = .next t ∧ t.fget Reg.ispReplay 3 0 = n ∧
      t.reg Reg.ispReplayStat = BitVec.ofNat 32 code ∧ State.onlyRegs [Reg.ispReplay, Reg.ispReplayStat] s t := by
  rw [exec_replayGo ini hidle, hcheck]
  have htouch : Touches .events s.begin_ (replayRefused code (nameReplay n s.begin_)) :=
    ((nameReplay_touches n s.begin_).mono).then (State.setN_touches _ _ _)
  refine ⟨_, htouch.done_eq, ?_, State.reg_setN _ _ _, htouch.back_begin, kept_of_reg fun b hb _ => ?_⟩
  · exact (fget_of_reg (State.reg_setN_ne (nameReplay n s.begin_) code (by decide)) 3 0).trans (nameReplay_stn s.begin_ hn)
  · simp only [List.mem_cons, List.not_mem_nil, or_false, not_or] at hb
    exact (State.reg_setN_ne _ _ hb.2).trans (State.reg_fset_ne s.begin_ _ _ _ hb.1)

theorem queueStripe_touches (id : Nat) (s : State) : Touches { jobs := true } s (queueStripe id s) := by
  unfold queueStripe
  split
  · exact Touches.refl
  · exact Touches.ite (fun _ => Touches.refl) fun _ => enqueue_touches _ s

theorem startReplay_facts (b : Bale) (s : State) : (startReplay b s).bales = s.bales ++ [b] ∧ (startReplay b s).miles = s.miles ∧
    (startReplay b s).regs = (s.setN Reg.ispReplayStat (2 ^ 31)).regs := by
  have h := queueStripe_touches b.id { s.setN Reg.ispReplayStat (2 ^ 31) with nextUid := s.nextUid + 1, bales := s.bales ++ [b] }
  exact ⟨h.keeps State.bales, h.keeps State.miles, h.keeps State.regs⟩

theorem replayBale_facts (s : State) (n : Nat) (blk : StnBlock) (c : CamDecl) (lines a len : Nat) (h : List Byte) :
    (s.replayBale n blk c lines a len h).kind = 2 ∧ (s.replayBale n blk c lines a len h).stn = n ∧
      (s.replayBale n blk c lines a len h).uid = blk.uid ∧ (s.replayBale n blk c lines a len h).tag = leAt h 12 4 ∧
      (s.replayBale n blk c lines a len h).entry = none := ⟨rfl, rfl, rfl, rfl, rfl⟩

/-- A replay that starts (R492). -/
theorem replayGo_starts {s : State} (ini : Nat) {n : Nat} {blk : StnBlock} {c : CamDecl} (hn : n < 16)
    (hidle : s.flag Reg.ispReplayStat 31 = false) (hcheck : s.replayCheck n = .inr (blk, c)) :
    ∃ t, exec (.replayGo ini n) s = .next t ∧ t.fget Reg.ispReplay 3 0 = n ∧ t.flag Reg.ispReplayStat 31 = true ∧
      (∀ d ∈ stationDomains, t.domOn d = true) ∧
      (∃ b ∈ t.bales, b.kind = 2 ∧ b.stn = n ∧ b.uid = blk.uid ∧ b.tag = leAt (s.dramAt s.replayAddr 64) 12 4 ∧ b.entry = none) ∧
      (∀ b ∈ s.bales, b ∈ t.bales) ∧ t.miles = s.miles := by
  rw [exec_replayGo ini hidle, hcheck]
  obtain ⟨hworkB, hworkM⟩ := needDomains_work (ds := stationDomains) (fun _ h => h) (nameReplay n s.begin_)
  have hon := needDomains_on (ds := stationDomains) (fun _ h => h) (nameReplay n s.begin_)
  have haddr : (nameReplay n s.begin_).replayAddr = s.replayAddr := nameReplay_addr n s.begin_
  have hdram : (nameReplay n s.begin_).dramAt s.replayAddr 64 = s.dramAt s.replayAddr 64 := rfl
  unfold finishReplay
  dsimp only
  rw [haddr, hdram]
  generalize (nameReplay n s.begin_).linesOf c = lines
  generalize (nameReplay n s.begin_).imageLen c = len
  generalize needDomains stationDomains (nameReplay n s.begin_) = u at hworkB hworkM hon
  have hfacts := replayBale_facts (u.fset Reg.ispReplay 3 0 n) n blk c lines s.replayAddr len (s.dramAt s.replayAddr 64)
  generalize (u.fset Reg.ispReplay 3 0 n).replayBale n blk c lines s.replayAddr len (s.dramAt s.replayAddr 64) = b at hfacts
  obtain ⟨hbales, hmiles, hregs⟩ := startReplay_facts b (u.fset Reg.ispReplay 3 0 n)
  generalize startReplay b (u.fset Reg.ispReplay 3 0 n) = v at hbales hmiles hregs
  refine ⟨_, rfl, ?_, ?_, fun d hd => ?_, ⟨b, ?_, hfacts⟩, fun x hx => ?_, hmiles.trans hworkM⟩
  · refine (fget_congr hregs _ _ _).trans ((fget_of_reg (State.reg_setN_ne _ _ (by decide)) 3 0).trans ?_)
    exact (State.fget_fset u _ n (by decide) (by decide)).trans (Nat.mod_eq_of_lt hn)
  · refine (flag_congr hregs _ _).trans ?_
    unfold State.flag
    rw [State.reg_setN]
    decide
  · refine (flag_congr hregs _ _).trans (Eq.trans ?_ (hon d hd))
    unfold State.flag State.domOn State.flag
    rw [State.reg_setN_ne _ _ (by decide), State.reg_fset_ne _ _ _ _ (by decide)]
  · show b ∈ v.bales
    rw [hbales]
    exact List.mem_append_right _ (List.mem_singleton.2 rfl)
  · show x ∈ v.bales
    rw [hbales, State.fset_bales, hworkB]
    exact List.mem_append_left _ hx

/-! ### What the checks find -/

section
variable {s : State} {n : Nat} {blk : StnBlock} {e : Env} {c : CamDecl}

theorem replayCheck_noBlock (h : s.active? n = none) : s.replayCheck n = .inl 2 := by
  unfold State.replayCheck
  rw [h]

theorem replayCheck_noCam (h : s.active? n = some blk) (hcam : blk.visionCam?.bind s.camDecl? = none) : s.replayCheck n = .inl 2 := by
  unfold State.replayCheck
  rw [h]
  cases s.env? n with
  | none => rfl
  | some e => simp only [hcam]

theorem replayCheck_cam (h : s.active? n = some blk) (henv : s.env? n = some e) (hcam : blk.visionCam?.bind s.camDecl? = some c) :
    s.replayCheck n =
      if !e.inPayload s.replayAddr 64 then .inl 3
      else if s.headerOff c (s.dramAt s.replayAddr 64) then .inl 2
      else if !e.inPayload s.replayAddr (s.imageLen c) then .inl 3
      else if s.maxJobs n < s.slotsReserved n + blk.baleSlots then .inl 1
      else .inr (blk, c) := by
  unfold State.replayCheck
  rw [h, henv]
  simp only [hcam]

end

theorem replayGo_done (s : State) (ini n : Nat) (hn : n < 16) : ∃ t, exec (.replayGo ini n) s = .next t ∧ t.fget Reg.ispReplay 3 0 = n := by
  by_cases hbusy : s.flag Reg.ispReplayStat 31 = true
  · obtain ⟨t, ht, hstn, -⟩ := replayGo_busy ini hn hbusy
    exact ⟨t, ht, hstn⟩
  · have hidle : s.flag Reg.ispReplayStat 31 = false := by simpa using hbusy
    rcases hcheck : s.replayCheck n with code | ⟨blk, c⟩
    · obtain ⟨t, ht, hstn, -⟩ := replayGo_refused ini hn hidle hcheck
      exact ⟨t, ht, hstn⟩
    · obtain ⟨t, ht, hstn, -⟩ := replayGo_starts ini hn hidle hcheck
      exact ⟨t, ht, hstn⟩

/-- Settles O37: a capture, a replay and a read index each change their own registers and lists, and what a replay is refused for is
found in the order of its checks. -/
theorem capturesReplaysAndRings : Obligations.CapturesReplaysAndRings := by
  refine ⟨fun s ini c h => captureGo_free ini c h, fun s ini c h => captureGo_busy ini c h, fun s c id h hw => captureDone_whole h hw,
    fun s h => captureDone_running h, fun s ini k v hk hon => ⟨fun hv => dispRd_done ini hk hv hon, fun hv => codeRd_done ini hk hv hon⟩,
    fun s ini k v c hoff hc => ringRead_off ini k v hoff hc, fun s ini n hn => ?_⟩
  obtain ⟨t, ht, hstn⟩ := replayGo_done s ini n hn
  have hrefused : ∀ {code : Nat}, s.flag Reg.ispReplayStat 31 = false → s.replayCheck n = .inl code →
      t.reg Reg.ispReplayStat = BitVec.ofNat 32 code ∧ State.onlyRegs [Reg.ispReplay, Reg.ispReplayStat] s t := fun hidle hcheck => by
    obtain ⟨u, hu, -, hcode, honly⟩ := replayGo_refused ini hn hidle hcheck
    rw [next_unique ht hu]
    exact ⟨hcode, honly⟩
  refine ⟨t, ht, hstn, fun hbusy => ?_, fun hidle hnone => hrefused hidle (replayCheck_noBlock hnone),
    fun blk hidle hblk hcam => hrefused hidle (replayCheck_noCam hblk hcam), fun blk e c hidle hblk henv hcam => ?_⟩
  · obtain ⟨u, hu, -, honly⟩ := replayGo_busy ini hn hbusy
    rw [next_unique ht hu]
    exact honly
  · have hcheck := replayCheck_cam hblk henv hcam
    have hheader := headerOff_iff s c (s.dramAt s.replayAddr 64)
    refine ⟨fun hout => ?_, fun hin hbad => ?_, fun hin hgood hlen hfull => ?_, fun hin hgood hlen hroom => ?_⟩
    · exact hrefused hidle (hcheck.trans (if_pos (by rw [show e.inPayload s.replayAddr 64 = false from hout]; rfl)))
    · have hoff : s.headerOff c (s.dramAt s.replayAddr 64) = true := by
        rw [← Bool.not_eq_false]
        exact fun h => hbad (hheader.1 h)
      refine hrefused hidle (hcheck.trans ?_)
      rw [show e.inPayload s.replayAddr 64 = true from hin, hoff]
      rfl
    · refine hrefused hidle (hcheck.trans ?_)
      rw [show e.inPayload s.replayAddr 64 = true from hin, hheader.2 hgood,
        show e.inPayload s.replayAddr (s.imageLen c) = true from hlen]
      exact if_pos hfull
    · have hstart : s.replayCheck n = .inr (blk, c) := by
        rw [hcheck, show e.inPayload s.replayAddr 64 = true from hin, hheader.2 hgood,
          show e.inPayload s.replayAddr (s.imageLen c) = true from hlen]
        exact if_neg (Nat.not_lt.2 hroom)
      obtain ⟨u, hu, -, hfacts⟩ := replayGo_starts ini hn hidle hstart
      rw [next_unique ht hu]
      exact hfacts

end Sys2Proof.Machine

/-! PROOFS. What convoys, milestones, line triggers and references touch. -/

namespace Sys2Proof.Machine

-- One theorem after the other: many at once ask for too many threads.
set_option Elab.async false

/-- The operation that came last, named first. -/
theorem Touches.after {m n : Parts} {s t u : State} (g : Touches n t u) (h : Touches m s t) (hn : n.or m = m := by rfl) :
    Touches m s u := h.then g hn

/-- What the work of the stations touches: no reference, no channel of an odometer, nothing that is declared. -/
abbrev Parts.plant : Parts :=
  { regs := true, shadow := true, evq := true, mbox := true, blocks := true, nextUid := true, stations := true, tiles := true,
    retiring := true, jobs := true, bales := true, nextBale := true, miles := true, fio := true, cams := true, capture := true,
    isp := true, treePass := true, decs := true, lanes := true, links := true, eps := true, timeTag := true, groups := true,
    phy := true, lenders := true, out := true, free := true }

/-! ## Messages to endpoints -/

theorem sendLineTrig_touches (l a bale line : Nat) (s : State) : Touches .packets s (sendLineTrig l a bale line s) :=
  Touches.ite (fun _ => sendFor_touches _ _ _ _ _ _ _ s) fun _ => Touches.refl

theorem sendFireAt_touches (l a due rch action pulse cmd bale : Nat) (s : State) :
    Touches .packets s (sendFireAt l a due rch action pulse cmd bale s) :=
  Touches.ite (fun _ => sendFor_touches _ _ _ _ _ _ _ s) fun _ => Touches.refl

theorem sendHello_touches (l g count self : Nat) (det : Bool) (digest : Nat) (s : State) :
    Touches .packets s (sendHello l g count self det digest s) := sendPacket_touches _ _ _ _ _ s

theorem sendCvData_touches (l g self : Nat) (absent : Bool) (tag base : Nat) (vals : List Nat) (s : State) :
    Touches .packets s (sendCvData l g self absent tag base vals s) := sendFor_touches _ _ _ _ _ _ _ s

/-! ## Convoys -/

theorem showGroup_touches (d : GroupDecl) (s : State) : Touches { regs := true } s (showGroup d s) :=
  ((State.setFlag_touches s _ _ _).then (State.fset_touches _ _ _ _ _)).then (State.fset_touches _ _ _ _ _)

theorem sendHellos_touches (s : State) : Touches .packets s (sendHellos s) := by
  refine Touches.foldl (fun u d => ?_) _ s
  exact Touches.foldl (fun v p => sendHello_touches _ _ _ _ _ _ v) _ u

/-- What contributions to convoys touch. -/
abbrev Parts.convoys : Parts := { regs := true, eps := true, links := true, phy := true, out := true, groups := true }

theorem sendTo_touches (d : GroupDecl) (p : Nat × Nat) (absent : Bool) (tag base : Nat) (vals : List Nat) (s : State) :
    Touches .convoys s (sendTo d p absent tag base vals s) :=
  Touches.ite (fun _ => (sendCvData_touches _ _ _ _ _ _ _ s).mono) fun _ =>
    Touches.ite (fun _ => Touches.refl) fun _ => (State.setGroup_touches s _ _).mono

theorem sendAll_touches (d : GroupDecl) (absent : Bool) (tag base : Nat) (vals : List Nat) (s : State) :
    Touches .convoys s (sendAll d absent tag base vals s) := Touches.foldl (fun u p => sendTo_touches d p absent tag base vals u) _ s

theorem flushPeer_touches (l a : Nat) (s : State) : Touches .convoys s (flushPeer l a s) := by
  refine Touches.foldl (fun u d => ?_) _ s
  dsimp only
  split
  · refine Touches.after (n := .packets) (Touches.foldl (fun v c => sendCvData_touches _ _ _ _ _ _ _ v) _ _) ?_
    exact (State.setGroup_touches u _ _).mono
  · exact Touches.refl

theorem endTag_touches (g tag : Nat) (s : State) : Touches { groups := true } s (endTag g tag s) := State.setGroup_touches s _ _

theorem sendAbsents_touches (gs : List Nat) (tag : Nat) (s : State) : Touches .convoys s (sendAbsents gs tag s) := by
  refine Touches.foldl (fun u g => ?_) _ s
  split
  · exact ((endTag_touches g tag u).mono).then (sendAll_touches _ true tag 0 [] _)
  · exact Touches.refl

theorem absentEntry_touches (e : Nat) (s : State) :
    Touches { regs := true, eps := true, links := true, phy := true, out := true, groups := true, miles := true } s (absentEntry e s) := by
  unfold absentEntry
  split
  · exact ((sendAbsents_touches _ _ s).mono).then (State.setMile_touches _ e _)
  · exact Touches.refl

theorem checkReady_touches (id : Nat) (s : State) : Touches { bales := true } s (checkReady id s) := by
  unfold checkReady
  split
  · exact Touches.refl
  · split
    · exact Touches.refl
    · exact Touches.ite (fun _ => State.setBale_touches s id _) fun _ => Touches.refl

theorem reapply_touches (id : Nat) (s : State) : Touches { bales := true } s (reapply id s) := State.setBale_touches s id _

theorem afterSteps_touches (id : Nat) (s : State) :
    Touches { regs := true, evq := true, bales := true, jobs := true } s (afterSteps id s) := by
  unfold afterSteps
  dsimp only
  split
  · exact (reapply_touches id s).mono
  next b _ =>
    split
    · exact (reapply_touches id s).mono
    · refine Touches.after (checkReady_touches id _) ?_
      refine Touches.after (n := { jobs := true }) (Touches.ite (fun _ => Touches.refl) fun _ => enqueue_touches _ _) ?_
      refine Touches.after (State.setBale_touches _ id _) ?_
      refine Touches.after (n := { regs := true, evq := true, bales := true }) (Touches.ite (fun _ => Touches.refl) fun _ => ?_)
        ((reapply_touches id s).mono)
      refine Touches.after (n := { bales := true }) (State.setBale_touches _ id _) ?_
      exact (Touches.foldl (fun u d => bump_touches _ u) _ _).mono

theorem endBale_touches (id : Nat) (s : State) :
    Touches { regs := true, stations := true, jobs := true, decs := true, bales := true } s (endBale id s) :=
  ((State.setBale_touches s id _).mono).then (dropWork_touches id _)

theorem failStep_touches (d : GroupDecl) (id cause member : Nat) (s : State) : Touches .plant s (failStep d id cause member s) := by
  unfold failStep
  split
  · exact Touches.refl
  · dsimp only
    refine Touches.then ?_ (endBale_touches id _)
    have key : ∀ x y z g tag, Touches .plant s (endTag g tag (raise (evGroup g) (bump (Reg.convoyGrpFail g)
        (((s.setN (Reg.convoyGrpBlame g) x).setN (Reg.convoyGrpMissLo g) y).setN (Reg.convoyGrpMissHi g) z)))) := fun x y z g tag =>
      ((((((State.setN_touches s _ x).mono).then (State.setN_touches _ _ y)).then (State.setN_touches _ _ z)).then
        (bump_touches _ _)).then (raise_touches _ _)).then (endTag_touches g tag _)
    split
    · exact (key _ _ _ _ _).then (absentEntry_touches _ _)
    · exact key _ _ _ _ _

theorem judgeStep_touches (d : GroupDecl) (id : Nat) (s : State) : Touches .plant s (judgeStep d id s) := by
  unfold judgeStep
  split
  · exact Touches.refl
  · refine Touches.ite (fun _ => Touches.refl) fun _ => ?_
    dsimp only
    split
    · exact failStep_touches d id 1 _ s
    · refine Touches.ite (fun _ => ?_) fun _ => ?_
      · exact (((State.setBale_touches s id _).mono).then (bump_touches _ _)).then (endTag_touches _ _ _)
      · split
        · exact failStep_touches d id 2 _ s
        · exact Touches.ite (fun _ => Touches.refl) fun _ => failStep_touches d id 2 _ s

theorem startStep_touches (d : GroupDecl) (id : Nat) (s : State) : Touches .plant s (startStep d id s) := by
  unfold startStep
  dsimp only
  have hre : Touches .plant s (reapply id s) := (reapply_touches id s).mono
  split
  · exact hre
  · refine Touches.then ?_ (judgeStep_touches d id _)
    refine Touches.then (n := .plant) (hre.then (State.setBale_touches _ id _)) (Touches.ite (fun _ => Touches.refl) fun _ => ?_)
    refine Touches.then ?_ (State.setGroup_touches _ _ _)
    split
    · exact ((sendAll_touches d false _ _ _ _).mono).then (State.setMile_touches _ _ _)
    · exact (sendAll_touches d false _ _ _ _).mono

theorem advanceFuel_touches (fuel id : Nat) (s : State) : Touches .plant s (advanceFuel fuel id s) := by
  induction fuel generalizing s with
  | zero => exact Touches.refl
  | succ fuel ih =>
    unfold advanceFuel
    split
    · exact Touches.refl
    · refine Touches.ite (fun _ => Touches.refl) fun _ => ?_
      split
      · exact Touches.refl
      · split
        · exact (afterSteps_touches id s).mono
        · exact (startStep_touches _ id s).then (ih _)

theorem advance_touches (id : Nat) (s : State) : Touches .plant s (advance id s) := advanceFuel_touches 33 id s

theorem judgeAll_touches (s : State) : Touches .plant s (judgeAll s) := by
  refine Touches.foldl (fun u b => ?_) _ s
  split
  · split
    · exact (judgeStep_touches _ b.id u).then (advance_touches b.id _)
    · exact Touches.refl
  · exact Touches.refl

theorem cvHello_touches (link group count index : Nat) (det : Bool) (digest : Nat) (s : State) :
    Touches .plant s (cvHello link group count index det digest s) := by
  unfold cvHello
  split
  · exact Touches.refl
  · split
    · exact Touches.refl
    · refine Touches.then (n := .plant) (((State.setGroup_touches s _ _).mono).then (showGroup_touches _ _))
        (Touches.ite (fun _ => Touches.refl) fun _ => ?_)
      exact (((State.setFlag_touches _ _ _ _).mono).then (raise_touches _ _)).then (judgeAll_touches _)

theorem cvData_touches (link group member : Nat) (absent : Bool) (tag base : Nat) (vals : List Nat) (s : State) :
    Touches .plant s (cvData link group member absent tag base vals s) := by
  have hstale : Touches .plant s (bump Reg.convoyStale s) := (bump_touches _ s).mono
  unfold cvData
  split
  · exact hstale
  · exact Touches.ite (fun _ => hstale) fun _ => Touches.ite (fun _ => hstale) fun _ =>
      ((State.setGroup_touches s _ _).mono).then (judgeAll_touches _)

/-! ## Milestones -/

theorem addMile_touches (m : Mile) (s : State) : Touches { miles := true } s (addMile m s) := ⟨rfl, rfl⟩

theorem freeMile_touches (e : Nat) (s : State) : Touches .plant s (freeMile e s) := by
  have key : ∀ (u : State), Touches { miles := true, fio := true } u
      { u with miles := u.miles.filter fun x => x.idx != e
               fio := u.fio.map fun (c : Fio) => if c.entry == some e then { c with entry := none } else c } := fun u =>
    ⟨rfl, by simp only [State.lens, List.length_map]⟩
  unfold freeMile
  split
  · exact Touches.refl
  · dsimp only
    exact (((mbPut_touches _ _ _ s).mono).then (key _)).then (settleArm_touches _ _ _)

theorem mileState_touches (e st : Nat) (s : State) : Touches .plant s (mileState e st s) := by
  unfold mileState
  split
  · exact Touches.refl
  · exact ((State.setMile_touches s e _).mono).then (settleArm_touches _ _ _)

theorem leaveArmed_touches (e : Nat) (s : State) : Touches .plant s (leaveArmed e s) := by
  unfold leaveArmed
  dsimp only
  have habs : Touches .plant s (absentEntry e s) := (absentEntry_touches e s).mono
  split
  next b _ =>
    exact (habs.then (n := { groups := true }) (Touches.foldl (fun u g => endTag_touches g b.tseq u) _ _)).then (releaseBale_touches _ _)
  · exact habs

theorem sendFire_touches (m : Mile) (t : Nat) (s : State) : Touches .leaving s (sendFire m t s) :=
  ((sendFireAt_touches _ _ _ _ _ _ _ _ s).mono).then (State.setMile_touches _ _ _)

theorem predictFires_touches (n : Nat) (s : State) : Touches .leaving s (predictFires n s) := by
  refine Touches.foldl (fun u m => ?_) _ s
  refine Touches.ite (fun _ => ?_) fun _ => Touches.refl
  split
  · exact Touches.ite (fun _ => sendFire_touches m _ u) fun _ => Touches.refl
  · exact Touches.refl

theorem cancelFires_touches (n : Nat) (s : State) : Touches .leaving s (cancelFires n s) :=
  Touches.foldl (op := fun (s : State) (m : Mile) => if m.st == 2 then cancelFire m.idx s else s)
    (fun u m => Touches.ite (fun _ => cancelFire_touches m.idx u) fun _ => Touches.refl) _ s

theorem decide_touches (e outcome rule : Nat) (defaulted : Bool) (s : State) :
    Touches { miles := true } s (decide_ e outcome rule defaulted s) := by
  unfold decide_
  split
  · exact Touches.refl
  · exact State.setMile_touches s e _

theorem takeDefault_touches (e : Nat) (s : State) : Touches .plant s (takeDefault e s) := by
  unfold takeDefault
  split
  · exact Touches.refl
  · dsimp only
    refine Touches.then ?_ (leaveArmed_touches e _)
    refine Touches.then (n := .plant) ?_ (Touches.ite (fun _ => (assertStop_touches _ _ _).mono) fun _ => Touches.refl)
    refine Touches.then (n := .plant) ?_ (Touches.ite (fun _ => (State.setMile_touches _ e _).mono) fun _ => Touches.refl)
    exact (((bump_touches _ s).mono).then (raise_touches _ _)).then (decide_touches e _ 0 true _)

theorem fireLocal_touches (e ch us : Nat) (s : State) : Touches .plant s (fireLocal e ch us s) := by
  unfold fireLocal
  dsimp only
  refine Touches.then ?_ (mileState_touches e 3 _)
  have hpulse : ∀ u, Touches .plant s u → Touches .plant s
      (if (startPulse ch us (some e) u).2 then (startPulse ch us (some e) u).1.setMile e fun m => { m with merged := true }
        else (startPulse ch us (some e) u).1) := fun u hu =>
    Touches.ite (fun _ => (hu.then (startPulse_touches ch us _ u)).then (State.setMile_touches _ e _))
      fun _ => hu.then (startPulse_touches ch us _ u)
  split
  · exact hpulse _ (Touches.ite (fun _ => Touches.refl) fun _ => freeMile_touches _ s)
  · exact hpulse _ Touches.refl

theorem missedDefault_touches (e : Nat) (s : State) : Touches .plant s (missedDefault e s) := by
  unfold missedDefault
  split
  · exact Touches.refl
  · split
    · exact freeMile_touches e s
    · refine Touches.ite (fun _ => ((assertStop_touches _ _ s).mono).then (freeMile_touches e _)) fun _ => ?_
      split
      · exact freeMile_touches e s
      · dsimp only
        exact Touches.ite (fun _ => (State.setMile_touches s e _).mono) fun _ => freeMile_touches e s

theorem missed_touches (e : Nat) (s : State) : Touches .plant s (missed e s) := by
  unfold missed
  split
  · exact Touches.refl
  · dsimp only
    have hraised : ∀ n, Touches .plant s (raise (evStn n 3) (bump (Reg.mileStnMissed n) s)) := fun n =>
      ((bump_touches _ s).mono).then (raise_touches _ _)
    refine Touches.ite (fun _ => ?_) fun _ => ?_
    · exact (fireLocal_touches e _ _ _).after ((State.setMile_touches _ e _).after (hraised _))
    · exact Touches.after (n := .plant) (Touches.ite (fun _ => freeMile_touches e _) fun _ => missedDefault_touches e _)
        ((State.setMile_touches _ e _).after (hraised _))

theorem fireEntry_touches (e : Nat) (s : State) : Touches .plant s (fireEntry e s) := by
  unfold fireEntry
  split
  · exact Touches.refl
  · refine Touches.then (n := .plant) ((State.setMile_touches s e _).mono) (Touches.ite (fun _ => fireLocal_touches e _ _ _) fun _ => ?_)
    exact Touches.ite (fun _ => Touches.refl) fun _ => Touches.ite (fun _ => Touches.refl) fun _ => missed_touches e _

theorem overtake_touches (e last lastBale : Nat) (s : State) : Touches .plant s (overtake e last lastBale s) := by
  unfold overtake
  split
  · exact Touches.refl
  · dsimp only
    refine Touches.then ?_ (State.setMile_touches _ e _)
    refine Touches.then ?_ (raise_touches _ _)
    refine Touches.then ?_ (bump_touches _ _)
    refine Touches.then ?_ (takeDefault_touches e _)
    refine Touches.then ?_ (State.setMile_touches _ e _)
    refine Touches.then ?_ (settleTurn_touches _ _)
    refine Touches.then (n := { decs := true, jobs := true }) ?_ ⟨rfl, rfl⟩
    exact ((State.setN_touches s _ _).mono).then (State.setN_touches _ _ _)

theorem crossEntry_touches (e : Nat) (s : State) : Touches .plant s (crossEntry e s) := by
  have hstop : ∀ n, Touches .plant s (assertStop n causeDefault (s.setMile e fun m => { m with past := true })) := fun n =>
    ((State.setMile_touches s e _).mono).then (assertStop_touches _ _ _)
  have hpast : ∀ (m : Mile), Touches .plant s
      (if !m.past && s.passed m m.pDead then
        let s := s.setMile e fun m => { m with past := true }
        if m.st == 1 then takeDefault e s
        else if m.st == 2 && (m.undo.map Prod.fst) == some s.now then overtake e (m.undo.elim 0 fun u => u.2.2) (m.undo.elim 0 fun u => u.2.1) s
        else if m.st == 2 && m.outcome == some 0x20 then assertStop m.stn causeDefault s
        else s
      else s) := fun m =>
    Touches.ite (fun _ => Touches.then (n := .plant) ((State.setMile_touches s e _).mono) (Touches.ite (fun _ => takeDefault_touches e _) fun _ =>
      Touches.ite (fun _ => overtake_touches e _ _ _) fun _ => Touches.ite (fun _ => (assertStop_touches _ _ _).mono) fun _ => Touches.refl))
      fun _ => Touches.refl
  have hnext : ∀ u, Touches .plant u (match u.mile? e with
      | some m =>
        if m.st == 2 && !m.crossed then
          match m.target with
          | some p => if u.passed m p then fireEntry e u else u
          | none => if u.passed m (u.expiry m) then freeMile e (mileState e 4 u) else u
        else if m.st == 3 && m.remote && !m.crossed && (m.target.any fun p => u.passed m p) then u.setMile e fun m => { m with crossed := true }
        else u
      | none => u) := fun u => by
    split
    · refine Touches.ite (fun _ => ?_) fun _ => Touches.ite (fun _ => (State.setMile_touches u e _).mono) fun _ => Touches.refl
      split
      · exact Touches.ite (fun _ => fireEntry_touches e u) fun _ => Touches.refl
      · exact Touches.ite (fun _ => (mileState_touches e 4 u).then (freeMile_touches e _)) fun _ => Touches.refl
    · exact Touches.refl
  unfold crossEntry
  refine Touches.then (n := .plant) ?_ (hnext _)
  split
  · exact hpast _
  · exact Touches.refl

theorem passedEntry_touches (e : Nat) (s : State) : Touches .plant s (passedEntry e s) := by
  unfold passedEntry
  split
  · exact Touches.refl
  · refine Touches.ite (fun _ => ?_) fun _ => Touches.refl
    dsimp only
    have hdef : Touches .plant s (takeDefault e (s.setMile e fun m => { m with past := true })) :=
      ((State.setMile_touches s e _).mono).then (takeDefault_touches e _)
    split
    · exact Touches.ite (fun _ => (hdef.then (mileState_touches e 4 _)).then (freeMile_touches e _)) fun _ => hdef
    · exact hdef

theorem crossAll_touches (n : Nat) (s : State) : Touches .plant s (crossAll n s) :=
  Touches.foldl (op := fun s (m : Mile) => crossEntry m.idx s) (fun u m => crossEntry_touches m.idx u) _ s

/-! ## Line triggers -/

theorem trigLine_touches (c : CamDecl) (id n : Nat) (s : State) : Touches .plant s (trigLine c id n s) := by
  unfold trigLine
  dsimp only
  refine Touches.ite (fun _ => ?_) fun _ => ?_
  · exact ((State.setCam_touches s _ _).mono).then (bump_touches _ _)
  · exact ((sendLineTrig_touches _ _ id n s).mono).then (State.setCam_touches _ _ _)

theorem trigCam_touches (c : CamDecl) (id fuel : Nat) (s : State) : Touches .plant s (trigCam c id fuel s) := by
  induction fuel generalizing s with
  | zero => exact Touches.refl
  | succ fuel ih =>
    unfold trigCam
    split
    · exact Touches.refl
    · dsimp only
      refine Touches.ite (fun _ => ?_) fun _ => Touches.refl
      exact ((((baleBoundary_touches id s).mono).then (trigLine_touches c id _ _)).then (State.setBale_touches _ id _)).then (ih _)

theorem baleLines_touches (b : Bale) (s : State) : Touches .plant s (baleLines b s) :=
  Touches.ite (fun _ => Touches.foldl (op := fun s c => trigCam c b.id (s.linesOf c) s) (fun u c => trigCam_touches c b.id _ u) _ s)
    fun _ => Touches.refl

theorem lineTriggers_touches (n : Nat) (s : State) : Touches .plant s (lineTriggers n s) :=
  Touches.foldl (op := fun s b => baleLines b s) (fun u b => baleLines_touches b u) _ s

end Sys2Proof.Machine

/-! PROOFS. References: handovers, the synthetic source, and what moves them (R654, R659 to R680). -/

namespace Sys2Proof.Machine

-- One theorem after the other: many at once ask for too many threads.
set_option Elab.async false

/-! ## References -/

theorem State.sized_refs {s : State} (h : s.sized = true) : s.refs.length = 16 := by
  simp only [State.sized, Bool.and_eq_true, beq_iff_eq] at h
  tauto

theorem ref_setRef_same {s : State} {n : Nat} (f : Ref → Ref) (h : n < s.refs.length) : (s.setRef n f).ref n = f (s.ref n) :=
  getD_modAt_same f _ h

theorem ref_setRef_ne (s : State) {n k : Nat} (f : Ref → Ref) (h : k ≠ n) : (s.setRef n f).ref k = s.ref k := getD_modAt_ne _ f _ h

theorem refs_length_setRef (s : State) (n : Nat) (f : Ref → Ref) : (s.setRef n f).refs.length = s.refs.length := by
  simp only [State.setRef, modAt, List.length_modify]

theorem ref_congr {s t : State} (h : t.refs = s.refs) (n : Nat) : t.ref n = s.ref n := by
  rw [State.ref, h, State.ref]

/-- What travel touches: the work of the stations and the references. -/
abbrev Parts.travel : Parts :=
  { regs := true, shadow := true, evq := true, mbox := true, blocks := true, nextUid := true, stations := true, tiles := true,
    retiring := true, jobs := true, bales := true, nextBale := true, miles := true, fio := true, cams := true, capture := true,
    isp := true, treePass := true, decs := true, lanes := true, links := true, eps := true, timeTag := true, groups := true,
    phy := true, lenders := true, out := true, free := true, odo := true, refs := true }

/-! ## How far a reference has moved -/

/-- The reference of station `n` has moved by `d`: what it tracks may have changed, its source and the other references have not. -/
structure Moved (n : Nat) (d : Int) (s t : State) : Prop where
  /-- The position. -/
  pos : (t.ref n).pos = BitVec.ofInt 48 ((s.ref n).pos.toNat + d)
  /-- The source. -/
  src : (t.ref n).src = (s.ref n).src
  /-- LOST. -/
  lost : (t.ref n).lost = (s.ref n).lost
  /-- No handover has begun or ended. -/
  handover : (t.ref n).handover = (s.ref n).handover
  /-- The fraction of the synthetic source. -/
  frac : (t.ref n).synthFrac = (s.ref n).synthFrac
  /-- The other references. -/
  other : ∀ k, k ≠ n → t.ref k = s.ref k
  /-- How many there are. -/
  length : t.refs.length = s.refs.length

theorem ofInt_toNat (p : Pos) : BitVec.ofInt 48 (p.toNat : Int) = p := by simp

theorem ofInt_toNat_add (x y : Int) : BitVec.ofInt 48 (((BitVec.ofInt 48 x).toNat : Int) + y) = BitVec.ofInt 48 (x + y) := by
  refine BitVec.eq_of_toNat_eq ?_
  rw [BitVec.toNat_ofInt, BitVec.toNat_ofInt, BitVec.toNat_ofInt]
  omega

theorem Moved.of_refs {n : Nat} {s t : State} (h : t.refs = s.refs) : Moved n 0 s t where
  pos := by rw [ref_congr h, Int.add_zero, ofInt_toNat]
  src := by rw [ref_congr h]
  lost := by rw [ref_congr h]
  handover := by rw [ref_congr h]
  frac := by rw [ref_congr h]
  other := fun k _ => ref_congr h k
  length := by rw [h]

theorem Moved.trans {n : Nat} {d e : Int} {s t u : State} (h : Moved n d s t) (g : Moved n e t u) : Moved n (d + e) s u where
  pos := by rw [g.pos, h.pos, ofInt_toNat_add, Int.add_assoc]
  src := g.src.trans h.src
  lost := g.lost.trans h.lost
  handover := g.handover.trans h.handover
  frac := g.frac.trans h.frac
  other := fun k hk => (g.other k hk).trans (h.other k hk)
  length := g.length.trans h.length

/-- Behind a move, what moves no reference. -/
theorem Moved.stay {n : Nat} {d : Int} {s t u : State} (h : Moved n d s t) (g : Moved n 0 t u) : Moved n d s u := by
  have hd := h.trans g
  rwa [Int.add_zero] at hd

/-- A change of the reference that leaves what `Moved` speaks of but for the position. -/
theorem Moved.set {n : Nat} {d : Int} {s : State} {f : Ref → Ref} (hn : n < s.refs.length)
    (hpos : ∀ r, (f r).pos = BitVec.ofInt 48 (r.pos.toNat + d))
    (hf : ∀ r, (f r).src = r.src ∧ (f r).lost = r.lost ∧ (f r).handover = r.handover ∧ (f r).synthFrac = r.synthFrac) :
    Moved n d s (s.setRef n f) := by
  have hsame := ref_setRef_same f hn
  obtain ⟨hsrc, hlost, hhand, hfrac⟩ := hf (s.ref n)
  exact ⟨by rw [hsame, hpos], by rw [hsame, hsrc], by rw [hsame, hlost], by rw [hsame, hhand], by rw [hsame, hfrac],
    fun k hk => ref_setRef_ne s f hk, refs_length_setRef s n f⟩

theorem Moved.of_touches {m : Parts} {n : Nat} {s t : State} (h : Touches m s t) (hm : m.refs = false := by rfl) : Moved n 0 s t :=
  Moved.of_refs (h.keeps State.refs fun u v => by simp only [State.take, hm, cond_false])

theorem stepForward_moved {n : Nat} {s : State} (hn : n < s.refs.length) : Moved n 1 s (stepForward n s) := by
  have hstep : Moved n 1 s (s.setRef n fun r => { r with pos := r.pos + 1, req := r.req.map fun q => (q.1, q.2 - 1) }) :=
    Moved.set hn (fun r => by rw [BitVec.ofInt_add]; simp) fun _ => ⟨rfl, rfl, rfl, rfl⟩
  have hlen := hstep.length
  unfold stepForward
  dsimp only
  generalize s.setRef n _ = u at hstep hlen
  have hrev : Moved n 1 s (if (u.ref n).pos == (u.ref n).hwm then u.setStn n fun t => { t with rev := false } else u) := by
    split
    · exact hstep.stay (Moved.of_touches (State.setStn_touches u n _))
    · exact hstep
  generalize (if (u.ref n).pos == (u.ref n).hwm then u.setStn n fun t => { t with rev := false } else u) = v at hrev
  split
  · have hmark : Moved n 0 v (v.setRef n fun r => { r with hwm := r.pos }) :=
      Moved.set (by rw [hrev.length]; exact hn) (fun r => by rw [Int.add_zero, ofInt_toNat]) fun _ => ⟨rfl, rfl, rfl, rfl⟩
    refine hrev.stay (hmark.stay (Moved.of_touches (m := .plant) ?_))
    refine (lineTriggers_touches n _).after ?_
    refine (crossAll_touches n _).after ?_
    exact (State.setStn_touches _ n _).mono
  · exact hrev

theorem stepBack_moved {n : Nat} {s : State} (hn : n < s.refs.length) : Moved n (-1) s (stepBack n s) := by
  have hstep : Moved n (-1) s (s.setRef n fun r => { r with pos := r.pos - 1 }) :=
    Moved.set hn (fun r => by rw [BitVec.ofInt_add, BitVec.sub_eq_add_neg]; simp) fun _ => ⟨rfl, rfl, rfl, rfl⟩
  unfold stepBack
  dsimp only
  generalize s.setRef n _ = u at hstep
  split
  · have hrev : Touches .plant u (raise (evStn n 4) (u.setStn n fun t => { t with rev := true })) :=
      ((State.setStn_touches u n _).mono).then (raise_touches _ _)
    refine hstep.stay (Moved.of_touches (m := .plant) ?_)
    exact Touches.ite (fun _ => hrev.then (assertStop_touches n causeReverse _)) fun _ => hrev
  · exact hstep

theorem foldl_moved {α : Type} {n : Nat} {d : Int} {op : State → α → State} (xs : List α) {s : State} (hn : n < s.refs.length)
    (hop : ∀ u x, n < u.refs.length → Moved n d u (op u x)) : Moved n (xs.length * d) s (xs.foldl op s) := by
  induction xs generalizing s with
  | nil => simpa using Moved.of_refs rfl
  | cons x r ih =>
    have hfirst := hop s x hn
    have h := hfirst.trans (ih (s := op s x) (by rw [hfirst.length]; exact hn))
    have hd : d + (r.length : Int) * d = ((x :: r).length : Int) * d := by
      rw [List.length_cons, Nat.cast_succ, Int.add_mul, Int.one_mul, Int.add_comm]
    exact hd ▸ h

/-- A reference moves by as many positions as it is asked to. -/
theorem moveRef_moved {n : Nat} {s : State} (k : Int) (hn : n < s.refs.length) : Moved n k s (moveRef n k s) := by
  unfold moveRef
  split
  next hneg =>
    have h := foldl_moved (List.range k.natAbs) (d := -1) (op := fun s _ => stepBack n s) hn fun u _ hu => stepBack_moved hu
    rw [List.length_range, show (k.natAbs : Int) * -1 = k by omega] at h
    exact h
  next hnn =>
    split
    next hz => rw [beq_iff_eq.1 hz]; exact Moved.of_refs rfl
    next =>
      have h := foldl_moved (List.range k.natAbs) (d := 1) (op := fun s _ => stepForward n s) hn fun u _ hu => stepForward_moved hu
      rw [List.length_range, show (k.natAbs : Int) * 1 = k by omega] at h
      exact h.stay (Moved.of_touches (predictFires_touches n _))

/-- Outside a handover the reference moves with its active source. -/
theorem activeTick_moved {n : Nat} {s : State} (d : Int) (hn : n < s.refs.length) (hhand : (s.ref n).handover = false) :
    Moved n d s (activeTick n d s) := by
  have hgood : ∀ (u : State) (at_ : Nat), n < u.refs.length → Moved n 0 u (u.setRef n fun r => { r with goodPos := r.pos, goodAt := at_ }) :=
    fun u at_ hu => Moved.set hu (fun r => by rw [Int.add_zero, ofInt_toNat]) fun _ => ⟨rfl, rfl, rfl, rfl⟩
  unfold activeTick
  dsimp only
  rw [hhand]
  simp only [Bool.false_and, Bool.false_eq_true, if_false, Int.add_zero]
  have h0 : Moved n 0 s (s.setRef n fun r => { r with window := r.window + d, stall := 0, fwd := r.fwd, resid := r.resid - 0 }) :=
    Moved.set hn (fun r => by rw [Int.add_zero, ofInt_toNat]) fun _ => ⟨rfl, rfl, rfl, rfl⟩
  generalize s.setRef n _ = u at h0
  have hmove := moveRef_moved d (s := u) (by rw [h0.length]; exact hn)
  have hall : Moved n d s ((moveRef n d u).setRef n fun r => { r with goodPos := r.pos, goodAt := u.now }) := by
    have h := h0.trans (hmove.trans (hgood (moveRef n d u) u.now (by rw [hmove.length, h0.length]; exact hn)))
    rw [Int.add_zero, Int.zero_add] at h
    exact h
  rw [hall.handover, hhand]
  exact hall

/-- The synthetic source of a reference that it drives ticks. -/
theorem sourceTick_moved {n : Nat} {s : State} (d : Int) (hn : n < s.refs.length) (hsrc : (s.ref n).src = 2) (hlost : (s.ref n).lost = false)
    (hhand : (s.ref n).handover = false) : Moved n d s (sourceTick n 2 d s) := by
  unfold sourceTick
  rw [if_pos (by rw [hsrc, hlost]; decide)]
  exact activeTick_moved d hn hhand

theorem foldl_sourceTick_moved {n : Nat} (d : Int) (k : Nat) {s : State} (hn : n < s.refs.length) (hsrc : (s.ref n).src = 2)
    (hlost : (s.ref n).lost = false) (hhand : (s.ref n).handover = false) :
    Moved n (k * d) s ((List.range k).foldl (fun s _ => sourceTick n 2 d s) s) := by
  induction k with
  | zero => simpa using Moved.of_refs rfl
  | succ k ih =>
    rw [List.range_succ, List.foldl_append, List.foldl_cons, List.foldl_nil]
    have h := ih.trans (sourceTick_moved d (by rw [ih.length]; exact hn) (ih.src.trans hsrc) (ih.lost.trans hlost) (ih.handover.trans hhand))
    have hd : (k : Int) * d + d = ((k + 1 : Nat) : Int) * d := by rw [Nat.cast_succ, Int.add_mul, Int.one_mul]
    exact hd ▸ h

/-! ## Handovers (R662, R663, R668) -/

theorem setTrk_stays (r : Ref) (src : Nat) (p : Option Pos) :
    (r.setTrk src p).pos = r.pos ∧ (r.setTrk src p).req = r.req ∧ (r.setTrk src p).wait = r.wait := by
  unfold Ref.setTrk
  split_ifs <;> exact ⟨rfl, rfl, rfl⟩

/-- What a handover to source `y` makes of a reference. -/
structure HandedTo (y : Nat) (r r' : Ref) : Prop where
  /-- The position stays. -/
  pos : r'.pos = r.pos
  /-- The source is the new one. -/
  src : r'.src = y
  /-- The handover runs. -/
  handover : r'.handover = true
  /-- The reference is not LOST. -/
  lost : r'.lost = false
  /-- The new source requalifies no more. -/
  req : r'.req = r.req.filter fun q => q.1 != y

theorem refs_bump (a : Nat) (s : State) : (bump a s).refs = s.refs := (bump_touches a s).keeps State.refs

theorem handover_cases {n y : Nat} {s : State} {d : OdoDecl} (hd : s.odoDecl? n = some d) :
    ∃ f : Ref → Ref, handover n y s = bump (Reg.odoRefSwitchCnt n) (s.setRef n f) ∧ HandedTo y (s.ref n) (f (s.ref n)) := by
  unfold handover
  rw [hd]
  dsimp only
  refine ⟨_, rfl, ?_, rfl, rfl, rfl, rfl⟩
  dsimp only
  rw [(setTrk_stays _ _ _).1]
  split
  · exact (setTrk_stays _ _ _).1
  · rfl

theorem handover_touches (n y : Nat) (s : State) : Touches { regs := true, evq := true, refs := true } s (handover n y s) := by
  cases hd : s.odoDecl? n with
  | none =>
    unfold handover
    rw [hd]
    exact Touches.refl
  | some d =>
    obtain ⟨f, heq, -⟩ := handover_cases (y := y) hd
    rw [heq]
    exact ((State.setRef_touches s n f).mono).then (bump_touches _ _)

theorem odoRefSwitchCnt_plain (n : Nat) : ¬ eventReg (Reg.odoRefSwitchCnt n) :=
  not_eventReg (.inr (by unfold Reg.odoRefSwitchCnt; omega))

theorem handover_reg (n y : Nat) (s : State) {b : Nat} (hb : b ≠ Reg.odoRefSwitchCnt n) (he : ¬ eventReg b) :
    (handover n y s).reg b = s.reg b := by
  cases hd : s.odoDecl? n with
  | none =>
    unfold handover
    rw [hd]
  | some d =>
    obtain ⟨f, heq, -⟩ := handover_cases (y := y) hd
    rw [heq]
    exact bump_reg_ne (s.setRef n f) hb he

section
variable {n y : Nat} {s : State} {d : OdoDecl}

theorem handover_ref (hd : s.odoDecl? n = some d) (hn : n < s.refs.length) : HandedTo y (s.ref n) ((handover n y s).ref n) := by
  obtain ⟨f, heq, hf⟩ := handover_cases (y := y) hd
  rw [heq, ref_congr (refs_bump _ _), ref_setRef_same f hn]
  exact hf

theorem handover_ref_ne (hd : s.odoDecl? n = some d) {k : Nat} (hk : k ≠ n) : (handover n y s).ref k = s.ref k := by
  obtain ⟨f, heq, -⟩ := handover_cases (y := y) hd
  rw [heq, ref_congr (refs_bump _ _), ref_setRef_ne s f hk]

end

/-- A reference that is LOST. -/
def Ref.lostNow (r : Ref) : Ref := { r with lost := true, handover := false, resid := 0 }

theorem lose_eq (n : Nat) (s : State) :
    lose n s = cancelFires n (assertStop n causeLost (raise (evStn n 10) (s.setRef n Ref.lostNow))) := rfl

theorem lose_refs (n : Nat) (s : State) : (lose n s).refs = (s.setRef n Ref.lostNow).refs := by
  have h : Touches .plant (s.setRef n Ref.lostNow) (lose n s) := by
    rw [lose_eq]
    exact (((raise_touches _ _).mono).then (assertStop_touches n causeLost _)).then (cancelFires_touches n _)
  exact h.keeps State.refs

theorem cancelFires_reg (n : Nat) (s : State) {b : Nat} (hb : ∀ l, b ≠ Reg.slinkStat l) : (cancelFires n s).reg b = s.reg b := by
  refine foldl_reg (op := fun (s : State) (m : Mile) => if m.st == 2 then cancelFire m.idx s else s) (fun m _ u => ?_) s
  split
  · exact cancelFire_reg m.idx u hb
  · rfl

theorem bitAt_setBitTo (v i : Nat) : bitAt (setBitTo v i true) i = true := by
  rw [bitAt_eq, setBitTo, fld_setFld_same]
  simp

/-- A reference that becomes LOST raises its event and holds STOP_LINE (R668, R757). -/
theorem lose_raises {n : Nat} {s : State} (hn : n < 16) (hs : s.sized = true) :
    (lose n s).pendingEvent (evStn n 10) = true ∧ bitAt ((lose n s).stn n).stops causeLost = true := by
  have hraise := raise_touches (evStn n 10) (s.setRef n Ref.lostNow)
  have hstn : n < (raise (evStn n 10) (s.setRef n Ref.lostNow)).stations.length := by
    rw [hraise.keeps State.stations]
    exact (State.sized_stations hs).symm ▸ hn
  have hstop := assertStop_off_touches causeLost hstn
  rw [lose_eq]
  constructor
  · have hreg : (cancelFires n (assertStop n causeLost (raise (evStn n 10) (s.setRef n Ref.lostNow)))).reg (Reg.sysEvtPend (evStn n 10 / 32)) =
        (raise (evStn n 10) (s.setRef n Ref.lostNow)).reg (Reg.sysEvtPend (evStn n 10 / 32)) := by
      refine (cancelFires_reg n _ fun l => ?_).trans (reg_congr (hstop.keeps State.regs) _)
      unfold Reg.sysEvtPend Reg.slinkStat evStn
      omega
    unfold State.pendingEvent State.flag
    rw [hreg]
    exact pendingEvent_raise_self _ _ (evStn_lt hn (by decide))
  · have hkeep : ((cancelFires n (assertStop n causeLost (raise (evStn n 10) (s.setRef n Ref.lostNow)))).stn n) =
        (assertStop n causeLost (raise (evStn n 10) (s.setRef n Ref.lostNow))).stn n :=
      (cancelFires_touches n _).keeps fun u => u.stn n
    rw [hkeep, assertStop_stn_same _ hstn]
    exact bitAt_setBitTo _ _

/-! ## SPEED_WINDOW (R654) -/

theorem exec_speedWindow {n : Nat} (s : State) (hn : n < 16) : exec (.speedWindow n) s =
    done s ((s.begin_.setN (Reg.odoRefSpeed n) (ofInt 32 ((s.ref n).window * 1000))).setRef n fun r => { r with window := 0 }) :=
  congrArg (done s) (if_pos hn)

theorem speedWindow_done {n : Nat} {s : State} (hn : n < 16) (hs : s.sized = true) :
    ∃ t, exec (.speedWindow n) s = .next t ∧ t.reg (Reg.odoRefSpeed n) = BitVec.ofInt 32 ((s.ref n).window * 1000) ∧
      t.ref n = { s.ref n with window := 0 } ∧ (∀ k, k ≠ n → t.ref k = s.ref k) ∧
      State.onlyRegs [Reg.odoRefSpeed n] s { t with refs := s.refs } := by
  rw [exec_speedWindow s hn]
  have htouch : Touches { regs := true, evq := true, refs := true } s.begin_
      ((s.begin_.setN (Reg.odoRefSpeed n) (ofInt 32 ((s.ref n).window * 1000))).setRef n fun r => { r with window := 0 }) :=
    ((State.setN_touches s.begin_ _ _).mono).then (State.setRef_touches _ n _)
  refine ⟨_, htouch.done_eq, ?_, ?_, fun k hk => ?_, htouch.back_begin, kept_of_reg fun b hb _ => ?_⟩
  · refine (State.reg_setN s.begin_ _ _).trans (ofNat_ofInt _)
  · exact ref_setRef_same (s := s.begin_.setN (Reg.odoRefSpeed n) _) _ ((State.sized_refs hs).symm ▸ hn)
  · exact ref_setRef_ne (s.begin_.setN (Reg.odoRefSpeed n) _) _ hk
  · exact State.reg_setN_ne s.begin_ _ (by simpa using hb)

/-! ## REF_RETURN (R666) -/

/-- A source is no longer under requalification. -/
def Ref.qualified (y : Nat) (r : Ref) : Ref := { r with req := r.req.filter fun x => x.1 != y }

/-- The source under requalification that may return. -/
def State.returns (s : State) (n : Nat) : Option (Nat × Nat) :=
  (sortBy (fun a b => a.1 ≤ b.1) (s.ref n).req).find? fun q => q.2 == 0 && s.sourceOk n q.1

theorem exec_refReturn (n : Nat) (s : State) : exec (.refReturn n) s = done s
    (if (s.ref n).lost || (s.ref n).handover then s.begin_
      else match s.returns n with
        | some q => if q.1 < (s.ref n).src then raise (evStn n 9) (handover n q.1 s.begin_) else s.begin_.setRef n (Ref.qualified q.1)
        | none => s.begin_) := rfl

theorem refReturn_stays {n : Nat} {s : State} (h : (s.ref n).lost = true ∨ (s.ref n).handover = true ∨ (s.ref n).req = []) :
    ∃ t, exec (.refReturn n) s = .next t ∧ State.unchanged s t := by
  rw [exec_refReturn]
  by_cases hbusy : ((s.ref n).lost || (s.ref n).handover) = true
  · rw [if_pos hbusy]
    exact done_unchanged s
  · have hreq : (s.ref n).req = [] := by
      rcases h with h | h | h
      · exact absurd (by rw [h]; rfl) hbusy
      · exact absurd (by rw [h, Bool.or_true]) hbusy
      · exact h
    have hnone : s.returns n = none := by
      unfold State.returns
      rw [hreq]
      rfl
    rw [if_neg hbusy, hnone]
    exact done_unchanged s

theorem sourceOk_decl {s : State} {n y : Nat} (h : s.sourceOk n y = true) : ∃ d, s.odoDecl? n = some d := by
  unfold State.sourceOk at h
  cases hd : s.odoDecl? n with
  | none => rw [hd] at h; exact absurd h Bool.false_ne_true
  | some d => exact ⟨d, rfl⟩

theorem refReturn_done {n y : Nat} {s : State} (hn : n < 16) (hs : s.sized = true) (hlost : (s.ref n).lost = false)
    (hhand : (s.ref n).handover = false) (hreq : (s.ref n).req = [(y, 0)]) (hok : s.sourceOk n y = true) :
    ∃ t, exec (.refReturn n) s = .next t ∧ (t.ref n).req = [] ∧ (t.ref n).pos = (s.ref n).pos ∧ (∀ k, k ≠ n → t.ref k = s.ref k) ∧
      (y < (s.ref n).src → (t.ref n).src = y ∧ (t.ref n).handover = true ∧ t.pendingEvent (evStn n 9) = true ∧
        State.onlyRegs [Reg.odoRefSwitchCnt n] s { t with refs := s.refs }) ∧
      ((s.ref n).src ≤ y → { t with refs := s.refs, out := s.out, phy := s.phy.still t.phy } = s) := by
  have hlen : n < s.begin_.refs.length := (State.sized_refs hs).symm ▸ hn
  have hreturn : s.returns n = some (y, 0) := by
    unfold State.returns
    rw [hreq]
    show List.find? _ [(y, 0)] = _
    rw [List.find?_cons_of_pos]
    simpa using hok
  rw [exec_refReturn, hlost, hhand, hreturn]
  simp only [Bool.or_self, Bool.false_eq_true, if_false]
  by_cases hy : y < (s.ref n).src
  · rw [if_pos hy]
    obtain ⟨d, hd⟩ := sourceOk_decl hok
    have hhanded := handover_ref (s := s.begin_) (y := y) (show s.begin_.odoDecl? n = some d from hd) hlen
    have hrefs : (raise (evStn n 9) (handover n y s.begin_)).refs = (handover n y s.begin_).refs := (raise_touches _ _).keeps State.refs
    have htouch : Touches { regs := true, evq := true, refs := true } s.begin_ (raise (evStn n 9) (handover n y s.begin_)) :=
      (handover_touches n y s.begin_).then (raise_touches _ _)
    refine ⟨_, htouch.done_eq, ?_, ?_, fun k hk => ?_, fun _ => ⟨?_, ?_, pendingEvent_raise_self _ _ (evStn_lt hn (by decide)),
      htouch.back_begin, kept_of_reg fun b hb he => ?_⟩, fun h => absurd hy (by omega)⟩
    · rw [ref_congr hrefs, hhanded.req, show (s.begin_.ref n).req = [(y, 0)] from hreq]
      simp
    · rw [ref_congr hrefs, hhanded.pos]
      rfl
    · rw [ref_congr hrefs, handover_ref_ne (show s.begin_.odoDecl? n = some d from hd) hk]
      rfl
    · rw [ref_congr hrefs, hhanded.src]
    · rw [ref_congr hrefs, hhanded.handover]
    · exact (raise_reg _ _ (evStn_lt hn (by decide)) he).trans (handover_reg n y s.begin_ (by simpa using hb) he)
  · rw [if_neg hy]
    have htouch := State.setRef_touches s.begin_ n (Ref.qualified y)
    have hsame := ref_setRef_same (s := s.begin_) (Ref.qualified y) hlen
    refine ⟨_, htouch.done_eq, ?_, ?_, fun k hk => ref_setRef_ne s.begin_ _ hk, fun h => absurd h hy, fun _ => htouch.back_begin⟩
    · rw [hsame]
      show (s.ref n).req.filter _ = []
      rw [hreq]
      simp
    · rw [hsame]
      rfl

/-! ## SYNTH_TICK (R659, R680) -/

theorem exec_synthTick (n ns : Nat) (s : State) : exec (.synthTick n ns) s = done s
    (if (s.ref n).src == 2 && !(s.ref n).lost && (s.odoDecl? n).isSome then
      (List.range (((s.ref n).synthFrac + (s.ref n).synthSpeed.natAbs * ns) / 10 ^ 9)).foldl
        (fun s' _ => sourceTick n 2 (s.ref n).synthSpeed.sign s')
        (s.begin_.setRef n fun r => { r with synthFrac := ((s.ref n).synthFrac + (s.ref n).synthSpeed.natAbs * ns) % 10 ^ 9 })
    else s.begin_) := rfl

theorem synthTick_done {n : Nat} (ns : Nat) {s : State} (hn : n < 16) (hs : s.sized = true) (hsrc : (s.ref n).src = 2)
    (hlost : (s.ref n).lost = false) (hhand : (s.ref n).handover = false) (hd : s.odoDecl? n ≠ none) :
    ∃ t, exec (.synthTick n ns) s = .next t ∧
      (t.ref n).pos = BitVec.ofInt 48 ((s.ref n).pos.toNat +
        (((s.ref n).synthFrac + (s.ref n).synthSpeed.natAbs * ns) / 10 ^ 9 : Nat) * (s.ref n).synthSpeed.sign) ∧
      (t.ref n).synthFrac = ((s.ref n).synthFrac + (s.ref n).synthSpeed.natAbs * ns) % 10 ^ 9 ∧ (t.ref n).src = 2 ∧
      (∀ k, k ≠ n → t.ref k = s.ref k) := by
  rw [exec_synthTick, if_pos (by rw [hsrc, hlost, Option.isSome_iff_ne_none.2 hd]; decide)]
  generalize (s.ref n).synthFrac + (s.ref n).synthSpeed.natAbs * ns = v
  generalize (s.ref n).synthSpeed.sign = d
  have hlen : n < s.begin_.refs.length := (State.sized_refs hs).symm ▸ hn
  have hsame : (s.begin_.setRef n fun r => { r with synthFrac := v % 10 ^ 9 }).ref n = { s.ref n with synthFrac := v % 10 ^ 9 } :=
    ref_setRef_same _ hlen
  have hmove := foldl_sourceTick_moved d (v / 10 ^ 9) (n := n) (s := s.begin_.setRef n fun r => { r with synthFrac := v % 10 ^ 9 })
    (by rw [refs_length_setRef]; exact hlen) (by rw [hsame]; exact hsrc) (by rw [hsame]; exact hlost) (by rw [hsame]; exact hhand)
  generalize List.foldl (fun s _ => sourceTick n 2 d s) _ _ = u at hmove
  refine ⟨_, rfl, hmove.pos.trans ?_, hmove.frac.trans ?_, hmove.src.trans ?_, fun k hk => (hmove.other k hk).trans (ref_setRef_ne s.begin_ _ hk)⟩
  · rw [hsame]
  · rw [hsame]
  · rw [hsame]
    exact hsrc

theorem synthetic_idle {s : State} {n : Nat} (h : (s.ref n).src ≠ 2 ∨ (s.ref n).lost = true) :
    ((s.ref n).src == 2 && !(s.ref n).lost && (s.odoDecl? n).isSome) = false := by
  rcases h with h | h
  · rw [show ((s.ref n).src == 2) = false by simpa using h]
    rfl
  · rw [h]
    simp

theorem synthTick_stays {n : Nat} (ns : Nat) {s : State} (h : (s.ref n).src ≠ 2 ∨ (s.ref n).lost = true) :
    ∃ t, exec (.synthTick n ns) s = .next t ∧ State.unchanged s t := by
  rw [exec_synthTick, synthetic_idle h]
  exact done_unchanged s

/-! ## SYNTH_MAX_EXPIRY (R669) -/

theorem exec_synthMaxExpiry (n : Nat) (s : State) : exec (.synthMaxExpiry n) s = done s
    (if (s.ref n).src == 2 && !(s.ref n).lost && (s.odoDecl? n).isSome then failover n false s.begin_ else s.begin_) := rfl

theorem synthMaxExpiry_stays {n : Nat} {s : State} (h : (s.ref n).src ≠ 2 ∨ (s.ref n).lost = true) :
    ∃ t, exec (.synthMaxExpiry n) s = .next t ∧ State.unchanged s t := by
  rw [exec_synthMaxExpiry, synthetic_idle h]
  exact done_unchanged s

/-- A reference that cannot take the synthetic source hands over to a healthy channel, or becomes LOST. -/
theorem failover_cases (n : Nat) (s : State) : (∃ y, failover n false s = handover n y s) ∨ failover n false s = lose n s := by
  unfold failover
  dsimp only
  split
  · exact .inl ⟨_, rfl⟩
  · rw [if_neg (by simp)]
    split
    · exact .inl ⟨_, rfl⟩
    · exact .inr rfl

theorem failover_none {n : Nat} {s : State} (h0 : s.sourceOk n 0 = false) (h1 : s.sourceOk n 1 = false) : failover n false s = lose n s := by
  unfold failover
  simp [h0, h1]

theorem failover_primary {n : Nat} {s : State} (hsrc : (s.ref n).src = 2) (h0 : s.sourceOk n 0 = true) (hreq : (s.ref n).req = [])
    (hwait : (s.ref n).wait = []) : failover n false s = handover n 0 s := by
  unfold failover
  simp [h0, hreq, hwait, hsrc]

theorem synthMaxExpiry_done {n : Nat} {s : State} {d : OdoDecl} (hn : n < 16) (hs : s.sized = true) (hsrc : (s.ref n).src = 2)
    (hlost : (s.ref n).lost = false) (hd : s.odoDecl? n = some d) :
    ∃ t, exec (.synthMaxExpiry n) s = .next t ∧ (t.ref n).pos = (s.ref n).pos ∧ (∀ k, k ≠ n → t.ref k = s.ref k) ∧
      (s.sourceOk n 0 = false → s.sourceOk n 1 = false → (t.ref n).lost = true ∧ t.pendingEvent (evStn n 10) = true ∧
        bitAt (t.stn n).stops causeLost = true) ∧
      (s.sourceOk n 0 = true → (s.ref n).req = [] → (s.ref n).wait = [] →
        (t.ref n).src = 0 ∧ (t.ref n).handover = true ∧ (t.ref n).lost = false ∧
        State.onlyRegs [Reg.odoRefSwitchCnt n] s { t with refs := s.refs }) := by
  have hlen : n < s.begin_.refs.length := (State.sized_refs hs).symm ▸ hn
  have hd' : s.begin_.odoDecl? n = some d := hd
  rw [exec_synthMaxExpiry, if_pos (by rw [hsrc, hlost, hd]; rfl)]
  rcases failover_cases n s.begin_ with ⟨y, hy⟩ | hl
  · have hhanded := handover_ref (y := y) hd' hlen
    have htouch := handover_touches n y s.begin_
    rw [hy]
    refine ⟨_, htouch.done_eq, hhanded.pos, fun k hk => handover_ref_ne hd' hk, fun h0 h1 => ?_, fun h0 hreq hwait => ?_⟩
    · have hnone := (failover_none (s := s.begin_) h0 h1).symm.trans hy
      obtain ⟨hpend, hstop⟩ := lose_raises (s := s.begin_) hn hs
      rw [← hnone]
      refine ⟨?_, hpend, hstop⟩
      rw [ref_congr (lose_refs n s.begin_), ref_setRef_same _ hlen]
      rfl
    · have hprim := (failover_primary (s := s.begin_) hsrc h0 hreq hwait).symm.trans hy
      have hzero := handover_ref (y := 0) hd' hlen
      rw [← hprim] at htouch ⊢
      exact ⟨hzero.src, hzero.handover, hzero.lost, htouch.back_begin, kept_of_reg fun b hb he =>
        handover_reg n 0 s.begin_ (by simpa using hb) he⟩
  · rw [hl]
    have hrefs := lose_refs n s.begin_
    obtain ⟨hpend, hstop⟩ := lose_raises (s := s.begin_) hn hs
    have hsame : (lose n s.begin_).ref n = Ref.lostNow (s.ref n) := (ref_congr hrefs n).trans (ref_setRef_same _ hlen)
    have htouch : Touches .travel s.begin_ (lose n s.begin_) := by
      rw [lose_eq]
      exact ((((State.setRef_touches s.begin_ n _).mono).then (raise_touches _ _)).then (assertStop_touches n causeLost _)).then
        (cancelFires_touches n _)
    refine ⟨_, htouch.done_eq, by rw [hsame]; rfl, fun k hk => (ref_congr hrefs k).trans (ref_setRef_ne s.begin_ _ hk),
      fun _ _ => ⟨by rw [hsame]; rfl, hpend, hstop⟩, fun h0 hreq hwait => ?_⟩
    have hprim := (failover_primary (s := s.begin_) hsrc h0 hreq hwait).symm.trans hl
    have hzero := (handover_ref (y := 0) hd' hlen).lost
    rw [hprim, hsame] at hzero
    exact absurd (show true = false from hzero) (by decide)

/-- Settles O36: a reference moves only with the ticks of its active source, one position at a time, and nothing that a crossing sets off
moves a reference. -/
theorem referenceSourcesReturnAndRun : Obligations.ReferenceSourcesReturnAndRun :=
  ⟨fun _ _ hn hs => speedWindow_done hn hs, fun _ _ _ hn hs hlost hhand hreq hok => refReturn_done hn hs hlost hhand hreq hok,
    fun _ _ h => refReturn_stays h, fun _ _ ns hn hs hsrc hlost hhand hd => synthTick_done ns hn hs hsrc hlost hhand hd,
    fun _ _ ns h => synthTick_stays ns h, fun _ _ _ hn hs hsrc hlost hd => synthMaxExpiry_done hn hs hsrc hlost hd,
    fun _ _ h => synthMaxExpiry_stays h⟩

end Sys2Proof.Machine

/-! PROOFS. The round-robin of shares, and the start of a tree pass (R366, R434). -/

namespace Sys2Proof.Machine

-- One theorem after the other: many at once ask for too many threads.
set_option Elab.async false

/-! ## Deficit round-robin (R366, R379) -/

/-- A queue that waits for a round-robin: its key, its weight, its deficit, the size of its head. -/
abbrev DrrQueue := Nat × Nat × Nat × Nat

/-- Rounds that bring a queue the size of its head. -/
def drrRounds (q : DrrQueue) : Nat := ceilDiv (q.2.2.2 - q.2.2.1) q.2.1

theorem drrRounds_enough {q : DrrQueue} (hw : q.2.1 ≠ 0) {r : Nat} (hr : drrRounds q ≤ r) : q.2.2.2 ≤ q.2.2.1 + r * q.2.1 := by
  have hb := (ceilDiv_bounds (a := q.2.2.2 - q.2.2.1) (b := q.2.1) (by omega)).1
  have hm : drrRounds q * q.2.1 ≤ r * q.2.1 := Nat.mul_le_mul_right _ hr
  unfold drrRounds at hm
  omega

theorem drrRounds_short {q : DrrQueue} (hw : q.2.1 ≠ 0) {r : Nat} (hr : r < drrRounds q) : q.2.2.1 + r * q.2.1 < q.2.2.2 := by
  have hb := (ceilDiv_bounds (a := q.2.2.2 - q.2.2.1) (b := q.2.1) (by omega)).2
  have hm : (r + 1) * q.2.1 ≤ drrRounds q * q.2.1 := Nat.mul_le_mul_right _ hr
  have he : (r + 1) * q.2.1 = r * q.2.1 + q.2.1 := Nat.succ_mul _ _
  unfold drrRounds at hm
  omega

theorem foldl_min_le {α : Type} (f : α → Nat) (xs : List α) (m : Nat) :
    xs.foldl (fun m x => min m (f x)) m ≤ m ∧ ∀ x ∈ xs, xs.foldl (fun m x => min m (f x)) m ≤ f x := by
  induction xs generalizing m with
  | nil => exact ⟨le_refl _, fun x hx => absurd hx (by simp)⟩
  | cons y r ih =>
    obtain ⟨h1, h2⟩ := ih (min m (f y))
    refine ⟨h1.trans (min_le_left _ _), fun x hx => ?_⟩
    rcases List.mem_cons.1 hx with rfl | hx
    · exact h1.trans (min_le_right _ _)
    · exact h2 x hx

theorem foldl_min_eq {α : Type} (f : α → Nat) (xs : List α) (m : Nat) :
    xs.foldl (fun m x => min m (f x)) m = m ∨ ∃ x ∈ xs, xs.foldl (fun m x => min m (f x)) m = f x := by
  induction xs generalizing m with
  | nil => exact .inl rfl
  | cons y r ih =>
    rcases ih (min m (f y)) with h | ⟨x, hx, h⟩
    · rcases min_choice m (f y) with hm | hm
      · exact .inl (h.trans hm)
      · exact .inr ⟨y, by simp, h.trans hm⟩
    · exact .inr ⟨x, by simp [hx], h⟩

/-- What a queue has after `r` rounds of which `w` is served. -/
def drrLeft (w : DrrQueue) (r : Nat) (q : DrrQueue) : Nat × Nat :=
  (q.1, if q.1 == w.1 then q.2.2.1 + r * q.2.1 - w.2.2.2 else q.2.2.1 + r * q.2.1)

/-- The queue `w` is served after `r` rounds: the fewest that bring some queue the size of its head, and the first such queue. -/
structure DrrServes (qs : List DrrQueue) (w : DrrQueue) (r : Nat) : Prop where
  /-- It waits. -/
  mem : w ∈ qs
  /-- It has a weight. -/
  weight : w.2.1 ≠ 0
  /-- Its deficit has grown to the size of its head. -/
  enough : w.2.2.2 ≤ w.2.2.1 + r * w.2.1
  /-- One round less would have served no queue. -/
  fewest : ∀ q ∈ qs, q.2.1 ≠ 0 → 0 < r → q.2.2.1 + (r - 1) * q.2.1 < q.2.2.2
  /-- No queue before it can be served. -/
  first : ∀ q ∈ qs, q.2.1 ≠ 0 → q.1 < w.1 → q.2.2.1 + r * q.2.1 < q.2.2.2

theorem drrNext_serves {qs : List DrrQueue} (hsorted : qs.Pairwise fun a b => a.1 < b.1) (hlive : ∃ q ∈ qs, q.2.1 ≠ 0) :
    ∃ w r, DrrServes qs w r ∧ drrNext qs = some (w.1, (qs.filter fun q => q.2.1 != 0).map (drrLeft w r)) := by
  obtain ⟨q₀, hq₀, hw₀⟩ := hlive
  have hmemLive : ∀ q, q ∈ qs.filter (fun q => q.2.1 != 0) ↔ q ∈ qs ∧ q.2.1 ≠ 0 := fun q => by simp
  have hsortedLive : (qs.filter fun q => q.2.1 != 0).Pairwise fun a b => a.1 < b.1 := hsorted.sublist List.filter_sublist
  cases hlist : qs.filter fun q => q.2.1 != 0 with
  | nil => exact absurd ((hmemLive q₀).2 ⟨hq₀, hw₀⟩) (by rw [hlist]; simp)
  | cons q r =>
    rw [hlist] at hmemLive hsortedLive
    have hmin := foldl_min_le drrRounds r (drrRounds q)
    have hatt := foldl_min_eq drrRounds r (drrRounds q)
    have hnext : drrNext qs = (((q :: r).map fun x => (x.1, x.2.2.1 + r.foldl (fun m x => min m (drrRounds x)) (drrRounds q) * x.2.1, x.2.2.2)).find?
        fun g => decide (g.2.2 ≤ g.2.1)).map fun w => (w.1, ((q :: r).map fun x =>
          (x.1, x.2.2.1 + r.foldl (fun m x => min m (drrRounds x)) (drrRounds q) * x.2.1, x.2.2.2)).map
            fun g => (g.1, if g.1 == w.1 then g.2.1 - w.2.2 else g.2.1)) := by
      unfold drrNext
      dsimp only
      rw [hlist]
      rfl
    generalize r.foldl (fun m x => min m (drrRounds x)) (drrRounds q) = n at hmin hatt hnext
    have hle : ∀ x ∈ q :: r, n ≤ drrRounds x := fun x hx => by
      rcases List.mem_cons.1 hx with rfl | hx
      · exact hmin.1
      · exact hmin.2 x hx
    obtain ⟨x₀, hx₀, hn⟩ : ∃ x ∈ q :: r, n = drrRounds x := by
      rcases hatt with h | ⟨x, hx, h⟩
      · exact ⟨q, by simp, h⟩
      · exact ⟨x, by simp [hx], h⟩
    rw [List.find?_map] at hnext
    cases hfind : (q :: r).find? ((fun g : Nat × Nat × Nat => decide (g.2.2 ≤ g.2.1)) ∘ fun x => (x.1, x.2.2.1 + n * x.2.1, x.2.2.2)) with
    | none =>
      have h := List.find?_eq_none.1 hfind x₀ hx₀
      exact absurd (drrRounds_enough ((hmemLive x₀).1 hx₀).2 (le_of_eq hn.symm)) (by simpa using h)
    | some w =>
      obtain ⟨henough, as, bs, hsplit, hbefore⟩ := List.find?_eq_some_iff_append.1 hfind
      have hw : w ∈ q :: r := by rw [hsplit]; simp
      have henough : w.2.2.2 ≤ w.2.2.1 + n * w.2.1 := by simpa using henough
      refine ⟨w, n, ⟨((hmemLive w).1 hw).1, ((hmemLive w).1 hw).2, henough, fun x hx hwt hpos => ?_, fun x hx hwt hlt => ?_⟩, ?_⟩
      · exact drrRounds_short hwt (by have := hle x ((hmemLive x).2 ⟨hx, hwt⟩); omega)
      · have hxl := (hmemLive x).2 ⟨hx, hwt⟩
        rw [hsplit] at hxl hsortedLive
        have hxa : x ∈ as := by
          rcases List.mem_append.1 hxl with h | h
          · exact h
          · exfalso
            have hws := (List.pairwise_append.1 hsortedLive).2.1
            rcases List.mem_cons.1 h with rfl | h
            · omega
            · have := (List.pairwise_cons.1 hws).1 x h
              omega
        have h := hbefore x hxa
        simpa using h
      · rw [hnext, hfind]
        simp only [Option.map_some, List.map_map]
        rfl

/-- Without a weight the first queue is served, if there is one. -/
theorem drrNext_some {qs : List DrrQueue} (hsorted : qs.Pairwise fun a b => a.1 < b.1) (h : qs ≠ []) : ∃ k ds, drrNext qs = some (k, ds) := by
  by_cases hlive : ∃ q ∈ qs, q.2.1 ≠ 0
  · obtain ⟨w, r, -, hnext⟩ := drrNext_serves hsorted hlive
    exact ⟨_, _, hnext⟩
  · have hnone : qs.filter (fun q => q.2.1 != 0) = [] := by
      rw [List.filter_eq_nil_iff]
      intro q hq
      have := not_exists.1 hlive q
      simpa [hq] using this
    obtain ⟨q, r, rfl⟩ := List.exists_cons_of_ne_nil h
    unfold drrNext
    dsimp only
    rw [hnone]
    exact ⟨_, _, rfl⟩

/-! ## Sorting -/

theorem mem_insertBy_iff {α : Type} {le : α → α → Bool} {x y : α} {l : List α} : y ∈ insertBy le x l ↔ y = x ∨ y ∈ l := by
  induction l with
  | nil => simp [insertBy]
  | cons a r ih => unfold insertBy; split <;> simp [ih, or_left_comm]

theorem mem_sortBy_iff {α : Type} {le : α → α → Bool} {y : α} {l : List α} : y ∈ sortBy le l ↔ y ∈ l := by
  have h : ∀ l a : List α, y ∈ l.foldl (fun a x => insertBy le x a) a ↔ y ∈ a ∨ y ∈ l := by
    intro l
    induction l with
    | nil => simp
    | cons x r ih => intro a; rw [List.foldl_cons, ih, mem_insertBy_iff, List.mem_cons, or_assoc, or_left_comm]
  simpa [sortBy] using h l []

theorem sortBy_eq_nil {α : Type} {le : α → α → Bool} {l : List α} (h : sortBy le l = []) : l = [] := by
  rw [List.eq_nil_iff_forall_not_mem] at h ⊢
  exact fun y hy => h y (mem_sortBy_iff.2 hy)

/-- In a list with rising keys an element is found by its key. -/
theorem find?_of_rising {α : Type} {key : α → Nat} {l : List α} (hl : l.Pairwise fun a b => key a < key b) {x : α} (hx : x ∈ l) :
    (l.find? fun y => key y == key x) = some x := by
  induction l with
  | nil => simp at hx
  | cons a r ih =>
    obtain ⟨ha, hr⟩ := List.pairwise_cons.1 hl
    rcases List.mem_cons.1 hx with rfl | hx
    · simp
    · have hne := ha x hx
      rw [List.find?_cons_of_neg (by simp; omega)]
      exact ih hr hx

/-- What the round-robin leaves of a queue with a weight. -/
theorem find?_drrLeft {qs : List DrrQueue} (hsorted : qs.Pairwise fun a b => a.1 < b.1) (w : DrrQueue) (r : Nat) {q : DrrQueue} (hq : q ∈ qs)
    (hw : q.2.1 ≠ 0) : (((qs.filter fun q => q.2.1 != 0).map (drrLeft w r)).find? fun d => d.1 == q.1) = some (drrLeft w r q) := by
  rw [List.find?_map]
  have hmem : q ∈ qs.filter fun q => q.2.1 != 0 := List.mem_filter.2 ⟨hq, by simpa using hw⟩
  have hfind := find?_of_rising (key := fun a : DrrQueue => a.1) (hsorted.sublist List.filter_sublist) hmem
  exact congrArg (Option.map (drrLeft w r)) hfind

/-! ## The pass of a station (R433 to R435) -/

/-- What a pass asks of its jobs: the block and the ensemble that the bale needs next. -/
def State.passNeed (s : State) (j : Job) : Option (Nat × Nat) := (s.bale? j.bale).map fun b => (b.uid, b.ensDone.getD 0)

theorem passNeed_of_treeJobs {s : State} {n : Nat} {j : Job} (h : j ∈ s.treeJobs n) : ∃ p, s.passNeed j = some p := by
  have hb := (List.mem_filter.1 h).2
  unfold State.passNeed
  cases hbale : s.bale? j.bale with
  | none => simp [hbale] at hb
  | some b => exact ⟨_, rfl⟩

theorem passJobs_eq (s : State) (n : Nat) : s.passJobs n = match s.byDeadline (s.treeJobs n) with
    | [] => none
    | j :: r => (s.passNeed j).map fun p => (p.2, (j :: r.filter fun x => s.passNeed x == some p).take 64) := rfl

theorem passJobs_isSome {s : State} {n : Nat} (h : s.treeJobs n ≠ []) : ∃ p, s.passJobs n = some p := by
  rw [passJobs_eq]
  cases hsort : s.byDeadline (s.treeJobs n) with
  | nil => exact absurd (sortBy_eq_nil hsort) h
  | cons j r =>
    obtain ⟨p, hp⟩ := passNeed_of_treeJobs (mem_sortBy_iff.1 (show j ∈ s.byDeadline (s.treeJobs n) by rw [hsort]; exact List.mem_cons_self))
    exact ⟨_, by dsimp only; rw [hp]; rfl⟩

theorem passJobs_none {s : State} {n : Nat} (h : s.treeJobs n = []) : s.passJobs n = none := by
  rw [passJobs_eq, h]
  rfl

theorem passJobs_jobs {s : State} {n e : Nat} {js : List Job} (h : s.passJobs n = some (e, js)) : js ≠ [] ∧ js.length ≤ 64 ∧
    ∃ uid, ∀ x ∈ js, x ∈ s.treeJobs n ∧ s.passNeed x = some (uid, e) := by
  rw [passJobs_eq] at h
  cases hsort : s.byDeadline (s.treeJobs n) with
  | nil => rw [hsort] at h; exact absurd h (by simp)
  | cons j r =>
    rw [hsort] at h
    obtain ⟨⟨uid, e'⟩, hp, he⟩ := Option.map_eq_some_iff.1 h
    obtain ⟨rfl, rfl⟩ := Prod.mk.inj he
    refine ⟨by simp, List.length_take_le _ _, uid, fun x hx => ?_⟩
    have hmem : ∀ y ∈ j :: r, y ∈ s.treeJobs n := fun y hy =>
      mem_sortBy_iff.1 (show y ∈ s.byDeadline (s.treeJobs n) by rw [hsort]; exact hy)
    rcases List.mem_cons.1 (List.mem_of_mem_take hx) with rfl | hx
    · exact ⟨hmem _ List.mem_cons_self, hp⟩
    · obtain ⟨hxr, hneed⟩ := List.mem_filter.1 hx
      exact ⟨hmem _ (List.mem_cons_of_mem _ hxr), by simpa using hneed⟩

/-- The stations that could start a pass, with it. -/
def State.treeHeads (s : State) : List (Nat × Nat × List Job) := (List.range 16).filterMap fun n => (s.passJobs n).map fun p => (n, p)

/-- SHARE_TILE of a station. -/
def State.shareTile (s : State) (n : Nat) : Nat := ((s.env? n).map Env.shareTile).getD 0

/-- What the round-robin of tree passes sees of such a station. -/
def State.treeQueue (s : State) (h : Nat × Nat × List Job) : DrrQueue := (h.1, s.shareTile h.1, (s.stn h.1).treeDeficit, s.treeSize h.2)

theorem mem_treeHeads {s : State} {n : Nat} {p : Nat × List Job} : (n, p) ∈ s.treeHeads ↔ n < 16 ∧ s.passJobs n = some p := by
  unfold State.treeHeads
  rw [List.mem_filterMap]
  constructor
  · rintro ⟨m, hm, h⟩
    obtain ⟨q, hq, e⟩ := Option.map_eq_some_iff.1 h
    obtain ⟨rfl, rfl⟩ := Prod.mk.inj e
    exact ⟨List.mem_range.1 hm, hq⟩
  · rintro ⟨hn, h⟩
    exact ⟨n, List.mem_range.2 hn, by rw [h]; rfl⟩

theorem treeHeads_rising (s : State) : s.treeHeads.Pairwise fun a b => a.1 < b.1 := by
  unfold State.treeHeads
  rw [List.pairwise_filterMap]
  refine List.pairwise_lt_range.imp fun {a b} hlt x hx y hy => ?_
  obtain ⟨p, -, rfl⟩ := Option.map_eq_some_iff.1 hx
  obtain ⟨q, -, rfl⟩ := Option.map_eq_some_iff.1 hy
  exact hlt

theorem treeQueues_rising (s : State) : (s.treeHeads.map s.treeQueue).Pairwise fun a b => a.1 < b.1 :=
  List.pairwise_map.2 ((treeHeads_rising s).imp fun h => h)

theorem mem_treeQueues {s : State} {q : DrrQueue} : q ∈ s.treeHeads.map s.treeQueue ↔
    ∃ n p, n < 16 ∧ s.passJobs n = some p ∧ q = (n, s.shareTile n, (s.stn n).treeDeficit, s.treeSize p) := by
  rw [List.mem_map]
  constructor
  · rintro ⟨⟨n, p⟩, h, rfl⟩
    obtain ⟨hn, hp⟩ := mem_treeHeads.1 h
    exact ⟨n, p, hn, hp, rfl⟩
  · rintro ⟨n, p, hn, hp, rfl⟩
    exact ⟨(n, p), mem_treeHeads.2 ⟨hn, hp⟩, rfl⟩

/-! ## TREE_PASS_START -/

/-- The state with a pass begun. -/
def beginPass (n : Nat) (ds : List (Nat × Nat)) (e : Nat) (js : List Job) (s : State) : State :=
  showPass { s with
    stations := settleShares (fun (q : Stn) d => { q with treeDeficit := d }) ds s.stations
    treePass := some (n, e, js.map Job.bale)
    jobs := s.jobs.map fun x => if js.contains x then { x with running := true } else x }

theorem showPass_touches (s : State) : Touches { regs := true } s (showPass s) := by
  unfold showPass
  split <;> exact State.setN_touches _ _ _

theorem beginPass_touches (n : Nat) (ds : List (Nat × Nat)) (e : Nat) (js : List Job) (s : State) :
    Touches { regs := true, stations := true, jobs := true, treePass := true } s (beginPass n ds e js s) := by
  refine (showPass_touches _).after ?_
  exact ⟨rfl, by simp [State.lens, settleShares, indexed]⟩

/-- The word of TREE.STAT for a pass (R437). -/
def passWord (n e len : Nat) : Nat := 2 ^ 31 + n % 16 * 2 ^ 24 + e % 8 * 2 ^ 16 + len % 128

theorem beginPass_treeStat (n : Nat) (ds : List (Nat × Nat)) (e : Nat) (js : List Job) (s : State) :
    ((beginPass n ds e js s).reg Reg.treeStat).toNat = passWord n e js.length := by
  unfold beginPass showPass
  dsimp only
  rw [State.reg_setN, BitVec.toNat_ofNat, List.length_map]
  exact Nat.mod_eq_of_lt (by omega)

theorem beginPass_reg_ne (n : Nat) (ds : List (Nat × Nat)) (e : Nat) (js : List Job) (s : State) {b : Nat} (h : b ≠ Reg.treeStat) :
    (beginPass n ds e js s).reg b = s.reg b := State.reg_setN_ne _ _ h

theorem beginPass_stn (n : Nat) (ds : List (Nat × Nat)) (e : Nat) (js : List Job) (s : State) (m : Nat) :
    (beginPass n ds e js s).stn m = { s.stn m with treeDeficit := ((beginPass n ds e js s).stn m).treeDeficit } ∧
      (m < s.stations.length → ((beginPass n ds e js s).stn m).treeDeficit = ((ds.find? fun d => d.1 == m).map Prod.snd).getD 0) := by
  have hstn : (beginPass n ds e js s).stn m = (settleShares (fun (q : Stn) d => { q with treeDeficit := d }) ds s.stations).getD m Stn.none := rfl
  by_cases hm : m < s.stations.length
  · rw [hstn, settleShares, getD_map_indexed s.stations _ Stn.none Stn.none hm]
    exact ⟨rfl, fun _ => rfl⟩
  · have hlen : (settleShares (fun (q : Stn) d => { q with treeDeficit := d }) ds s.stations).length ≤ m := by
      simp [settleShares, indexed]; omega
    rw [hstn, List.getD_eq_default _ _ hlen, State.stn, List.getD_eq_default _ _ (by omega)]
    exact ⟨rfl, fun h => absurd h hm⟩

theorem exec_treePassStart (s : State) : exec .treePassStart s = done s (if s.treePass.isSome then s.begin_ else
    match drrNext (s.begin_.treeHeads.map s.begin_.treeQueue) with
    | none => s.begin_
    | some (n, ds) => match s.begin_.treeHeads.find? fun h => h.1 == n with
      | none => s.begin_
      | some (_, e, js) => beginPass n ds e js s.begin_) := rfl

/-- One station's pass starts, where one could. -/
theorem treePassStart_runs {s : State} (hidle : s.treePass = none) {n : Nat} {ds : List (Nat × Nat)}
    (hnext : drrNext (s.begin_.treeHeads.map s.begin_.treeQueue) = some (n, ds)) : ∃ e js, n < 16 ∧ s.passJobs n = some (e, js) ∧
      exec .treePassStart s = .next (beginPass n ds e js s.begin_) := by
  obtain ⟨q, hq, hkey⟩ := drrNext_mem hnext
  obtain ⟨m, ⟨e, js⟩, hm, hpass, rfl⟩ := mem_treeQueues.1 hq
  obtain rfl : m = n := hkey
  have hfind := find?_of_rising (key := fun h : Nat × Nat × List Job => h.1) (treeHeads_rising s.begin_) (mem_treeHeads.2 ⟨hm, hpass⟩)
  refine ⟨e, js, hm, hpass, ?_⟩
  rw [exec_treePassStart, hidle, hnext]
  dsimp only [Option.isSome_none]
  rw [if_neg Bool.false_ne_true]
  rw [hfind]
  exact (beginPass_touches m ds e js s.begin_).done_eq

theorem treePassStart_idle {s : State} (h : s.treePass ≠ none ∨ ∀ n < 16, s.treeJobs n = []) :
    ∃ t, exec .treePassStart s = .next t ∧ State.unchanged s t := by
  have hkeep : exec .treePassStart s = done s s.begin_ := by
    rw [exec_treePassStart]
    by_cases hpass : s.treePass = none
    · have hnone := h.resolve_left (fun g => g hpass)
      have hheads : s.begin_.treeHeads = [] := by
        unfold State.treeHeads
        rw [List.filterMap_eq_nil_iff]
        intro n hn
        rw [show s.begin_.passJobs n = none from passJobs_none (s := s) (hnone n (List.mem_range.1 hn))]
        rfl
      rw [hheads, hpass]
      rfl
    · rw [if_pos (Option.isSome_iff_ne_none.2 hpass)]
  rw [hkeep]
  exact done_unchanged s


end Sys2Proof.Machine

/-! PROOFS. What a tree pass that starts and one that ends do (R366, R434, R437). -/

namespace Sys2Proof.Machine

-- One theorem after the other: many at once ask for too many threads.
set_option Elab.async false

/-! ## TREE_PASS_START: who is served, and what shows it -/

theorem passWord_fields {n : Nat} (hn : n < 16) (e len : Nat) : bitAt (passWord n e len) 31 = true ∧ fld (passWord n e len) 27 24 = n := by
  unfold passWord bitAt fld
  refine ⟨beq_iff_eq.2 ?_, ?_⟩ <;> omega

theorem not_eventReg_treeStat : ¬ eventReg Reg.treeStat := not_eventReg (.inr (by decide))

theorem beginPass_shows {s : State} {n : Nat} (hn : n < 16) (ds : List (Nat × Nat)) (e : Nat) (js : List Job) :
    (beginPass n ds e js s.begin_).flag Reg.treeStat 31 = true ∧ (beginPass n ds e js s.begin_).fget Reg.treeStat 27 24 = n ∧
      State.onlyRegs [Reg.treeStat] s { beginPass n ds e js s.begin_ with treePass := s.treePass, stations := s.stations, jobs := s.jobs } := by
  have hword := beginPass_treeStat n ds e js s.begin_
  have hreg := fun b (hb : b ≠ Reg.treeStat) => beginPass_reg_ne n ds e js s.begin_ hb
  have hT := beginPass_touches n ds e js s.begin_
  have hT' : Touches { regs := true, evq := true, stations := true, jobs := true, treePass := true } s.begin_ (beginPass n ds e js s.begin_) :=
    hT.mono
  generalize beginPass n ds e js s.begin_ = t at hword hreg hT'
  obtain ⟨hflag, hfget⟩ := passWord_fields hn e js.length
  refine ⟨by rw [State.flag, hword, hflag], by rw [State.fget, hword, hfget], hT'.back_begin, kept_of_reg fun b hb _ => ?_⟩
  exact hreg b (fun h => hb (h ▸ List.mem_cons_self))

/-- The deficits after the choice: as few rounds as bring one station with a share the size of its pass (R366). -/
theorem drrLeft_shares {s : State} {w : DrrQueue} {r : Nat} (hserves : DrrServes (s.treeHeads.map s.treeQueue) w r) {e : Nat} {js : List Job}
    (hpass : s.passJobs w.1 = some (e, js)) (hsized : s.sized = true) {t : State}
    (ht : ∀ m < s.stations.length, (t.stn m).treeDeficit =
      (((((s.treeHeads.map s.treeQueue).filter fun q => q.2.1 != 0).map (drrLeft w r)).find? fun d => d.1 == m).map Prod.snd).getD 0) :
    s.shareTile w.1 ≠ 0 ∧
      (∀ m < 16, s.treeJobs m ≠ [] → s.shareTile m ≠ 0 →
        (t.stn m).treeDeficit + (if m = w.1 then s.treeSize (e, js) else 0) = (s.stn m).treeDeficit + r * s.shareTile m) ∧
      (∀ m < 16, ∀ p, s.passJobs m = some p → s.shareTile m ≠ 0 → 0 < r → (s.stn m).treeDeficit + (r - 1) * s.shareTile m < s.treeSize p) ∧
      (∀ m < w.1, ∀ p, s.passJobs m = some p → s.shareTile m ≠ 0 → (s.stn m).treeDeficit + r * s.shareTile m < s.treeSize p) := by
  obtain ⟨hmem, hweight, henough, hfewest, hfirst⟩ := hserves
  obtain ⟨n, p, hn, hp, rfl⟩ := mem_treeQueues.1 hmem
  obtain rfl : p = (e, js) := Option.some.inj (hp.symm.trans hpass)
  have hq : ∀ m < 16, ∀ p, s.passJobs m = some p → (m, s.shareTile m, (s.stn m).treeDeficit, s.treeSize p) ∈ s.treeHeads.map s.treeQueue :=
    fun m hm p hp => mem_treeQueues.2 ⟨m, p, hm, hp, rfl⟩
  refine ⟨hweight, fun m hm hjobs hshare => ?_, fun m hm p hp hshare hr => ?_, fun m hm p hp hshare => ?_⟩
  · obtain ⟨p', hp'⟩ := passJobs_isSome hjobs
    have hlook := find?_drrLeft (treeQueues_rising s) (n, s.shareTile n, (s.stn n).treeDeficit, s.treeSize (e, js)) r (hq m hm p' hp') hshare
    rw [ht m (by rw [State.sized_stations hsized]; exact hm)]
    rw [show ((m, s.shareTile m, (s.stn m).treeDeficit, s.treeSize p') : DrrQueue).1 = m from rfl] at hlook
    rw [hlook]
    dsimp only [Option.map_some, Option.getD_some, drrLeft]
    by_cases hmn : m = n
    · subst hmn
      rw [if_pos (beq_self_eq_true m), if_pos rfl]
      dsimp only at henough
      omega
    · rw [if_neg (by simpa using hmn), if_neg hmn, Nat.add_zero]
  · exact hfewest _ (hq m hm p hp) hshare hr
  · exact hfirst _ (hq m (lt_trans hm hn) p hp) hshare hm

theorem treePassStart_starts (s : State) (hidle : s.treePass = none) (hsized : s.sized = true) (hready : ∃ n < 16, s.treeJobs n ≠ []) :
    ∃ t n e uid js, exec .treePassStart s = .next t ∧ n < 16 ∧ s.passJobs n = some (e, js) ∧
      t.treePass = some (n, e, js.map Job.bale) ∧ js.map Job.bale ≠ [] ∧ (js.map Job.bale).length ≤ 64 ∧
      (∀ id ∈ js.map Job.bale, (∃ j ∈ s.treeJobs n, j.bale = id) ∧ ∃ b, s.bale? id = some b ∧ b.uid = uid ∧ b.ensDone.getD 0 = e) ∧
      ((∃ m < 16, s.treeJobs m ≠ [] ∧ s.shareTile m ≠ 0) → s.shareTile n ≠ 0 ∧ ∃ r,
        (∀ m < 16, s.treeJobs m ≠ [] → s.shareTile m ≠ 0 →
          (t.stn m).treeDeficit + (if m = n then s.treeSize (e, js) else 0) = (s.stn m).treeDeficit + r * s.shareTile m) ∧
        (∀ m < 16, ∀ p, s.passJobs m = some p → s.shareTile m ≠ 0 → 0 < r → (s.stn m).treeDeficit + (r - 1) * s.shareTile m < s.treeSize p) ∧
        (∀ m < n, ∀ p, s.passJobs m = some p → s.shareTile m ≠ 0 → (s.stn m).treeDeficit + r * s.shareTile m < s.treeSize p)) ∧
      t.flag Reg.treeStat 31 = true ∧ t.fget Reg.treeStat 27 24 = n ∧
      (∀ m, t.stn m = { s.stn m with treeDeficit := (t.stn m).treeDeficit }) ∧
      State.onlyRegs [Reg.treeStat] s { t with treePass := s.treePass, stations := s.stations, jobs := s.jobs } := by
  have hqueue : ∀ m < 16, s.treeJobs m ≠ [] → ∃ q ∈ s.treeHeads.map s.treeQueue, q.2.1 = s.shareTile m := fun m hm hjobs => by
    obtain ⟨p, hp⟩ := passJobs_isSome hjobs
    exact ⟨_, mem_treeQueues.2 ⟨m, p, hm, hp, rfl⟩, rfl⟩
  have hjobs : ∀ {n e : Nat} {js : List Job}, s.passJobs n = some (e, js) → ∃ uid, js.map Job.bale ≠ [] ∧ (js.map Job.bale).length ≤ 64 ∧
      ∀ id ∈ js.map Job.bale, (∃ j ∈ s.treeJobs n, j.bale = id) ∧ ∃ b, s.bale? id = some b ∧ b.uid = uid ∧ b.ensDone.getD 0 = e := by
    intro n e js hp
    obtain ⟨hne, hlen, uid, hall⟩ := passJobs_jobs hp
    refine ⟨uid, by simpa using hne, by simpa using hlen, fun id hid => ?_⟩
    obtain ⟨j, hj, rfl⟩ := List.mem_map.1 hid
    obtain ⟨hready, hneed⟩ := hall j hj
    obtain ⟨b, hb, hpair⟩ := Option.map_eq_some_iff.1 hneed
    obtain ⟨huid, hens⟩ := Prod.mk.inj hpair
    exact ⟨⟨j, hready, rfl⟩, b, hb, huid, hens⟩
  by_cases hlive : ∃ m < 16, s.treeJobs m ≠ [] ∧ s.shareTile m ≠ 0
  · obtain ⟨m, hm, hmjobs, hmshare⟩ := hlive
    obtain ⟨q, hq, hqshare⟩ := hqueue m hm hmjobs
    obtain ⟨w, r, hserves, hnext⟩ := drrNext_serves (treeQueues_rising s) ⟨q, hq, by rw [hqshare]; exact hmshare⟩
    generalize hds : ((s.treeHeads.map s.treeQueue).filter fun q => q.2.1 != 0).map (drrLeft w r) = ds at hnext
    obtain ⟨e, js, hn, hpass, hexec⟩ := treePassStart_runs hidle hnext
    obtain ⟨uid, hne, hlen, hall⟩ := hjobs hpass
    obtain ⟨hflag, hfget, honly⟩ := beginPass_shows (s := s) hn ds e js
    have hstn := beginPass_stn w.1 ds e js s.begin_
    obtain ⟨hshare, hdeficits⟩ := drrLeft_shares hserves hpass hsized fun m hm => by rw [hds]; exact (hstn m).2 hm
    exact ⟨_, w.1, e, uid, js, hexec, hn, hpass, rfl, hne, hlen, hall, fun _ => ⟨hshare, r, hdeficits⟩, hflag, hfget, fun m => (hstn m).1, honly⟩
  · obtain ⟨m, hm, hmjobs⟩ := hready
    obtain ⟨q, hq, -⟩ := hqueue m hm hmjobs
    obtain ⟨n, ds, hnext⟩ := drrNext_some (treeQueues_rising s) (List.ne_nil_of_mem hq)
    obtain ⟨e, js, hn, hpass, hexec⟩ := treePassStart_runs hidle hnext
    obtain ⟨uid, hne, hlen, hall⟩ := hjobs hpass
    obtain ⟨hflag, hfget, honly⟩ := beginPass_shows (s := s) hn ds e js
    exact ⟨_, n, e, uid, js, hexec, hn, hpass, rfl, hne, hlen, hall, fun h => absurd h hlive, hflag, hfget,
      fun m => (beginPass_stn n ds e js s.begin_ m).1, honly⟩

/-! ## Bales that an operation changes -/

theorem bale?_setBale (f : Bale → Bale) (hf : ∀ b, (f b).id = b.id) (s : State) (id i : Nat) :
    (s.setBale id f).bale? i = (s.bale? i).map fun b => if b.id == id then f b else b := by
  have hkey : ((fun b : Bale => b.id == i) ∘ fun b => if b.id == id then f b else b) = fun b => b.id == i := by
    funext b
    dsimp only [Function.comp_apply]
    split
    · rw [hf]
    · rfl
  rw [State.bale?, State.setBale, List.find?_map, hkey, State.bale?]

theorem bale?_id {s : State} {i : Nat} {b : Bale} (h : s.bale? i = some b) : b.id = i := by simpa using List.find?_some h

theorem bale?_setBale_same (f : Bale → Bale) (hf : ∀ b, (f b).id = b.id) {s : State} {id : Nat} {b : Bale} (h : s.bale? id = some b) :
    (s.setBale id f).bale? id = some (f b) := by
  rw [bale?_setBale f hf, h, Option.map_some, if_pos (beq_iff_eq.2 (bale?_id h))]

theorem bale?_setBale_ne (f : Bale → Bale) (hf : ∀ b, (f b).id = b.id) {s : State} {id i : Nat} (hi : i ≠ id) :
    (s.setBale id f).bale? i = s.bale? i := by
  rw [bale?_setBale f hf]
  cases h : s.bale? i with
  | none => rfl
  | some b => rw [Option.map_some, if_neg (by rw [bale?_id h]; simpa using hi)]

theorem checkReady_bale {s : State} {i : Nat} {b : Bale} (id : Nat) (h : s.bale? i = some b) :
    ∃ j, (checkReady id s).bale? i = some { b with judging := j } := by
  have hset : ∃ j, (s.setBale id fun b => { b with judging := true }).bale? i = some { b with judging := j } := by
    by_cases hi : i = id
    · subst hi
      exact ⟨true, bale?_setBale_same (fun b => { b with judging := true }) (fun _ => rfl) h⟩
    · exact ⟨b.judging, (bale?_setBale_ne (fun b => { b with judging := true }) (fun _ => rfl) hi).trans h⟩
  unfold checkReady
  split
  · exact ⟨b.judging, h⟩
  · split
    · exact ⟨b.judging, h⟩
    · dsimp only
      split
      · exact hset
      · exact ⟨b.judging, h⟩

/-! ## TREE_PASS_END -/

theorem treeOut_touches (e id : Nat) (s : State) : Touches { jobs := true, bales := true } s (treeOut e id s) := by
  unfold treeOut
  dsimp only
  split
  · exact ⟨rfl, rfl⟩
  · split
    · exact Touches.refl
    · split
      · exact Touches.refl
      · refine Touches.ite (fun _ => ?_) fun _ => ?_
        · exact (checkReady_touches id _).after ⟨rfl, rfl⟩
        · exact ⟨rfl, rfl⟩

/-- The outputs of ensemble `x` for a bale (R431). -/
def State.treeOutputs (s : State) (blk : StnBlock) (x : Ensemble) (b : Bale) : List Nat :=
  ensembleOut x (s.payAt blk x.baseRef (4 * x.classes)) (s.payAt blk x.arrayRef x.arrayLen) (vecGet b.feats)

/-- A bale with the outputs of ensemble `e` in its tree vector (R432). -/
def Bale.takeOutputs (e : Nat) (out : List Nat) (b : Bale) : Bale :=
  { b with trees := vecPut b.trees ((indexed out).map fun p => (e * 16 + p.1, p.2)), ensDone := some (e + 1) }

theorem treeOut_eq {s : State} {e id : Nat} {b : Bale} {blk : StnBlock} {x : Ensemble} (hb : s.bale? id = some b)
    (hblk : s.blockOf b = some blk) (hx : blk.trees[e]? = some x) : ∃ js,
      treeOut e id s = checkReady id { s.setBale id (Bale.takeOutputs e (s.treeOutputs blk x b)) with jobs := js } ∨
      treeOut e id s = { s.setBale id (Bale.takeOutputs e (s.treeOutputs blk x b)) with jobs := js } := by
  unfold treeOut
  rw [hb]
  dsimp only
  rw [hblk]
  dsimp only
  rw [hx]
  dsimp only
  split
  · exact ⟨_, .inl rfl⟩
  · exact ⟨_, .inr rfl⟩

theorem treeOut_own {s : State} {e id : Nat} {b : Bale} {blk : StnBlock} {x : Ensemble} (hb : s.bale? id = some b)
    (hblk : s.blockOf b = some blk) (hx : blk.trees[e]? = some x) : ∃ j, (treeOut e id s).bale? id =
      some { Bale.takeOutputs e (s.treeOutputs blk x b) b with judging := j } := by
  have hset := bale?_setBale_same (Bale.takeOutputs e (s.treeOutputs blk x b)) (fun _ => rfl) hb
  obtain ⟨js, h | h⟩ := treeOut_eq hb hblk hx
  · rw [h]
    exact checkReady_bale id hset
  · rw [h]
    exact ⟨b.judging, hset⟩

theorem treeOut_keeps {s : State} {e id i : Nat} {b : Bale} (hb : s.bale? i = some b) :
    ∃ u, (treeOut e id s).bale? i = some u ∧ u.uid = b.uid ∧ (b.ensDone = some (e + 1) → u.ensDone = some (e + 1)) := by
  have hsame : (treeOut e id s).bale? i = s.bale? i →
      ∃ u, (treeOut e id s).bale? i = some u ∧ u.uid = b.uid ∧ (b.ensDone = some (e + 1) → u.ensDone = some (e + 1)) :=
    fun h => ⟨b, h.trans hb, rfl, fun h => h⟩
  cases hc : s.bale? id with
  | none => exact hsame (by unfold treeOut; rw [hc]; rfl)
  | some c =>
    cases hblk : s.blockOf c with
    | none => exact hsame (by unfold treeOut; rw [hc]; dsimp only; rw [hblk])
    | some blk =>
      cases hx : blk.trees[e]? with
      | none => exact hsame (by unfold treeOut; rw [hc]; dsimp only; rw [hblk]; dsimp only; rw [hx])
      | some x =>
        obtain ⟨u, hu, huid, hens⟩ : ∃ u, (s.setBale id (Bale.takeOutputs e (s.treeOutputs blk x c))).bale? i = some u ∧ u.uid = b.uid ∧
            (b.ensDone = some (e + 1) → u.ensDone = some (e + 1)) := by
          rw [bale?_setBale (Bale.takeOutputs e (s.treeOutputs blk x c)) (fun _ => rfl), hb, Option.map_some]
          refine ⟨_, rfl, ?_⟩
          split
          · exact ⟨rfl, fun _ => rfl⟩
          · exact ⟨rfl, fun h => h⟩
        obtain ⟨js, h | h⟩ := treeOut_eq hc hblk hx
        · rw [h]
          obtain ⟨j, hj⟩ := checkReady_bale (s := { s.setBale id _ with jobs := js }) id hu
          exact ⟨_, hj, huid, hens⟩
        · rw [h]
          exact ⟨u, hu, huid, hens⟩

/-- After the pass each of its bales has the ensemble behind it. -/
theorem treeOuts_ensDone (e : Nat) (ids : List Nat) {s : State} {i : Nat} {b : Bale} (hb : s.bale? i = some b) :
    ∃ u, (ids.foldl (fun t id => treeOut e id t) s).bale? i = some u ∧
      ((b.ensDone = some (e + 1) ∨ i ∈ ids ∧ ∃ blk x, s.blockOf b = some blk ∧ blk.trees[e]? = some x) → u.ensDone = some (e + 1)) := by
  induction ids generalizing s b with
  | nil => exact ⟨b, hb, fun h => h.resolve_right (fun h => absurd h.1 (by simp))⟩
  | cons id r ih =>
    obtain ⟨u, hu, huid, hstay⟩ := treeOut_keeps (e := e) (id := id) hb
    obtain ⟨v, hv, hdone⟩ := ih hu
    refine ⟨v, hv, fun h => hdone ?_⟩
    rcases h with h | ⟨hmem, blk, x, hblk, hx⟩
    · exact .inl (hstay h)
    · rcases List.mem_cons.1 hmem with rfl | hmem
      · obtain ⟨j, hown⟩ := treeOut_own hb hblk hx
        obtain rfl := Option.some.inj (hu.symm.trans hown)
        exact .inl rfl
      · refine .inr ⟨hmem, blk, x, ?_, hx⟩
        rw [(treeOut_touches e id s).keeps (fun t => t.blockOf u), State.blockOf, huid]
        exact hblk


theorem not_eventReg_treeStnPass (n : Nat) : ¬ eventReg (Reg.treeStnPass n) := not_eventReg (.inr (by rw [Reg.treeStnPass]; omega))
theorem not_eventReg_treeStnErr (n : Nat) : ¬ eventReg (Reg.treeStnErr n) := not_eventReg (.inr (by rw [Reg.treeStnErr]; omega))

theorem treeStnPass_ne_treeStat (n : Nat) : Reg.treeStnPass n ≠ Reg.treeStat := by
  simp only [Reg.treeStnPass, Reg.treeStat]
  omega

/-- The state with the pass over and counted, before its outputs are taken. -/
def closePass (n : Nat) (s : State) : State := bump (Reg.treeStnPass n) (showPass { s with treePass := none })

theorem closePass_touches (n : Nat) (s : State) : Touches { regs := true, evq := true, treePass := true } s (closePass n s) := by
  refine (bump_touches _ _).after ?_
  refine (showPass_touches _).after ?_
  exact ⟨rfl, rfl⟩

theorem closePass_reg (n : Nat) (s : State) : (closePass n s).flag Reg.treeStat 31 = false ∧
    (closePass n s).reg (Reg.treeStnPass n) = BitVec.ofNat 32 (satWord 24 (s.reg (Reg.treeStnPass n)).toNat).1 ∧
    ∀ b, b ≠ Reg.treeStat → b ≠ Reg.treeStnPass n → ¬ eventReg b → (closePass n s).reg b = s.reg b := by
  refine ⟨?_, ?_, fun b hstat hpass he => ?_⟩
  · rw [State.flag, closePass, bump_reg_ne _ (treeStnPass_ne_treeStat n).symm not_eventReg_treeStat]
    exact congrArg (fun w : Word => bitAt w.toNat 31) (State.reg_setN { s with treePass := none } Reg.treeStat 0)
  · rw [closePass, bump_reg _ (not_eventReg_treeStnPass n)]
    exact congrArg (fun w : Word => BitVec.ofNat 32 (satWord 24 w.toNat).1) (State.reg_setN_ne { s with treePass := none } 0 (treeStnPass_ne_treeStat n))
  · rw [closePass, bump_reg_ne _ hpass he]
    exact State.reg_setN_ne { s with treePass := none } 0 hstat

theorem treePassEnd_passes (s : State) (n e : Nat) (ids : List Nat) (hpass : s.treePass = some (n, e, ids)) :
    ∃ t, exec (.treePassEnd 0) s = .next t ∧ t.treePass = none ∧ t.flag Reg.treeStat 31 = false ∧
      t.reg (Reg.treeStnPass n) = BitVec.ofNat 32 (satWord 24 (s.reg (Reg.treeStnPass n)).toNat).1 ∧
      (∀ id ∈ ids, ∀ b blk x, s.bale? id = some b → s.blockOf b = some blk → blk.trees[e]? = some x →
        ∃ u, t.bale? id = some u ∧ u.ensDone = some (e + 1) ∧
          (ids = [id] → u.trees = vecPut b.trees ((indexed (ensembleOut x (s.payAt blk x.baseRef (4 * x.classes))
            (s.payAt blk x.arrayRef x.arrayLen) (vecGet b.feats))).map fun p => (e * 16 + p.1, p.2)))) ∧
      State.onlyRegs [Reg.treeStat, Reg.treeStnPass n] s { t with treePass := s.treePass, jobs := s.jobs, bales := s.bales } := by
  have hexec : exec (.treePassEnd 0) s = done s (ids.foldl (fun t id => treeOut e id t) (closePass n s.begin_)) := by
    show execTreePassEnd 0 s = _
    unfold execTreePassEnd
    dsimp only
    rw [show s.begin_.treePass = some (n, e, ids) from hpass]
    rfl
  obtain ⟨hflag, hreg, hkeep⟩ := closePass_reg n s.begin_
  have hclose := closePass_touches n s.begin_
  have hfold : Touches { jobs := true, bales := true } (closePass n s.begin_) (ids.foldl (fun t id => treeOut e id t) (closePass n s.begin_)) :=
    Touches.foldl (fun u id => treeOut_touches e id u) _ _
  have hT : Touches { regs := true, evq := true, treePass := true, jobs := true, bales := true } s.begin_
      (ids.foldl (fun t id => treeOut e id t) (closePass n s.begin_)) := hfold.after hclose.mono
  have hregs := hfold.keeps State.regs
  have hbale : ∀ i, (closePass n s.begin_).bale? i = s.bale? i := fun i => hclose.keeps fun u => u.bale? i
  have hblock : ∀ b, (closePass n s.begin_).blockOf b = s.blockOf b := fun b => hclose.keeps fun u => u.blockOf b
  have hout : ∀ blk x b, (closePass n s.begin_).treeOutputs blk x b = s.treeOutputs blk x b := fun blk x b =>
    hclose.keeps fun u => u.treeOutputs blk x b
  refine ⟨_, hexec.trans hT.done_eq, (hfold.keeps State.treePass).trans ((bump_touches _ _).keeps State.treePass), ?_, ?_, ?_, ?_⟩
  · exact (flag_congr hregs _ _).trans hflag
  · exact (reg_congr hregs _).trans hreg
  · intro id hid b blk x hb hblk hx
    have hb' := (hbale id).trans hb
    have hblk' := (hblock b).trans hblk
    obtain ⟨u, hu, hdone⟩ := treeOuts_ensDone e ids hb'
    refine ⟨u, hu, hdone (.inr ⟨hid, blk, x, hblk', hx⟩), fun hone => ?_⟩
    subst hone
    obtain ⟨j, hown⟩ := treeOut_own hb' hblk' hx
    obtain rfl := Option.some.inj (hu.symm.trans hown)
    dsimp only [Bale.takeOutputs]
    rw [hout]
    rfl
  · refine ⟨hT.back_begin, kept_of_reg fun b hb he => ?_⟩
    refine (reg_congr hregs b).trans (hkeep b (fun h => hb (by simp [h])) (fun h => hb (by simp [h])) he)

/-- The fault log keeps eight bits of an index. -/
theorem logFault_index (f : FaultRec) (s : State) : logFault { f with index := f.index % 256 } s = logFault f s := by
  unfold logFault
  dsimp only
  rw [Nat.mod_mod]

/-- Where in the log the entry stands hangs on the head before it alone. -/
theorem faultAdded_before {s u t : State} {action : Nat} {stn : Option Nat} {code unit index bale : Nat}
    (h : State.faultAdded u t action stn code unit index bale) (hhead : u.fget Reg.faultHead 5 0 = s.fget Reg.faultHead 5 0)
    (htime : u.tbNs = s.tbNs) : State.faultAdded s t action stn code unit index bale := by
  unfold State.faultAdded at h ⊢
  rw [hhead, htime] at h
  exact h

theorem treePassEnd_fails (s : State) (n e err : Nat) (ids : List Nat) (hn : n < 16) (herr : err ≠ 0) (hpass : s.treePass = some (n, e, ids)) :
    ∃ t, exec (.treePassEnd err) s = .next t ∧
      t.reg (Reg.treeStnErr n) = BitVec.ofNat 32 (satWord 24 (s.reg (Reg.treeStnErr n)).toNat).1 ∧
      State.faultAdded s t 2 none (if err = 1 then 0x02 else 0x03) 5 (e % 256) 0 ∧
      State.onlyRegs (Reg.treeStnErr n :: faultRegs) s t := by
  have hcode : (if (err == 1) = true then 0x02 else 0x03) = if err = 1 then 0x02 else 0x03 := by simp
  have hexec : exec (.treePassEnd err) s = done s (logFault
      { action := 2, stn := none, code := if err = 1 then 0x02 else 0x03, unit := 5, index := e % 256 } (bump (Reg.treeStnErr n) s.begin_)) := by
    show execTreePassEnd err s = _
    unfold execTreePassEnd
    dsimp only
    rw [show s.begin_.treePass = some (n, e, ids) from hpass]
    dsimp only
    rw [if_neg (by simpa using herr), hcode]
    exact congrArg (done s) (logFault_index { action := 2, stn := none, code := if err = 1 then 0x02 else 0x03, unit := 5, index := e } _).symm
  obtain ⟨t, ht, hregs, -, honly⟩ := done_onlyRegs (s := s) (((RegsOnly.refl (· ∈ Reg.treeStnErr n :: faultRegs) s.begin_).bump
    (a := Reg.treeStnErr n) List.mem_cons_self).logFault
      { action := 2, stn := none, code := if err = 1 then 0x02 else 0x03, unit := 5, index := e % 256 }
      fun _ h => List.mem_cons_of_mem _ (mem_faultRegs h))
  have hlow : Reg.treeStnErr n < 0x2000A00000 ∨ 0x2000A00500 ≤ Reg.treeStnErr n := .inl (by rw [Reg.treeStnErr]; omega)
  have hhead : Reg.faultHead ≠ Reg.treeStnErr n := by simp only [Reg.faultHead, Reg.treeStnErr]; omega
  have hadded := logFault_faultAdded (f := { action := 2, stn := none, code := if err = 1 then 0x02 else 0x03, unit := 5, index := e % 256 })
    (bump (Reg.treeStnErr n) s.begin_) (by norm_num) (by dsimp only; split <;> norm_num) (by norm_num) (Nat.mod_lt _ (by norm_num))
  refine ⟨t, hexec.trans ht, ?_, ?_, honly⟩
  · rw [reg_congr hregs, logFault_reg_ne _ _ hlow (not_eventReg_treeStnErr n), bump_reg _ (not_eventReg_treeStnErr n)]
    rfl
  · have hadded' := faultAdded_of_regs hadded (t := t) (fun a _ => reg_congr hregs a) ((flag_congr hregs _ _).trans hadded.2.2.2.2.2.2.2.2.2)
    refine faultAdded_before hadded' ?_ ((bump_touches _ _).keeps State.tbNs)
    rw [State.fget, bump_reg_ne _ hhead (not_eventReg (.inr (by decide)))]
    rfl

theorem treePassEnd_idle (s : State) (err : Nat) (hpass : s.treePass = none) :
    ∃ t, exec (.treePassEnd err) s = .next t ∧ State.unchanged s t := by
  have hexec : exec (.treePassEnd err) s = done s s.begin_ := by
    show execTreePassEnd err s = _
    unfold execTreePassEnd
    dsimp only
    rw [show s.begin_.treePass = none from hpass]
  rw [hexec]
  exact done_unchanged s

end Sys2Proof.Machine

/-! PROOFS. Decoder sequences: their dispatch and their tokens (R354, R396, R400, R402, R414). -/

namespace Sys2Proof.Machine

-- One theorem after the other: many at once ask for too many threads.
set_option Elab.async false

/-! ## The turn of a station's sequences shows in TREE.DEC_STAT alone -/

theorem showDec_reg (n k st pos : Nat) (s : State) {b : Nat} (hb : ∀ i, b ≠ Reg.treeDecStat n i) : (showDec n k st pos s).reg b = s.reg b := by
  rw [showDec, State.reg_fset_ne _ _ _ _ (hb k), State.reg_fset_ne _ _ _ _ (hb k)]

theorem refreshDec_reg (n k : Nat) (s : State) {b : Nat} (hb : ∀ i, b ≠ Reg.treeDecStat n i) : (refreshDec n k s).reg b = s.reg b := by
  unfold refreshDec
  split <;> exact showDec_reg _ _ _ _ s hb

theorem passTurn_reg (n : Nat) (s : State) {b : Nat} (hb : ∀ i, b ≠ Reg.treeDecStat n i) : (passTurn n s).reg b = s.reg b := by
  unfold passTurn
  dsimp only
  rw [refreshDec_reg n 1 _ hb, refreshDec_reg n 0 _ hb]
  rfl

theorem settleTurn_reg (n : Nat) (s : State) {b : Nat} (hb : ∀ i, b ≠ Reg.treeDecStat n i) : (settleTurn n s).reg b = s.reg b := by
  unfold settleTurn
  split
  · rw [refreshDec_reg n 1 _ hb, refreshDec_reg n 0 _ hb]
  · exact passTurn_reg n s hb

theorem endDec_reg (n k : Nat) (d : Dec) (s : State) {b : Nat} (hb : ∀ i, b ≠ Reg.treeDecStat n i) : (endDec n k d s).reg b = s.reg b := by
  unfold endDec
  dsimp only
  rw [settleTurn_reg n _ hb, refreshDec_reg n k _ hb]
  rfl

theorem treeDecTok_ne_treeDecStat (n k m i : Nat) : Reg.treeDecTok n k ≠ Reg.treeDecStat m i := by
  simp only [Reg.treeDecTok, Reg.treeDecStat]
  omega

theorem not_eventReg_treeDecTok (n k : Nat) : ¬ eventReg (Reg.treeDecTok n k) := not_eventReg (.inr (by rw [Reg.treeDecTok]; omega))

theorem endDec_decs (n k : Nat) (d : Dec) (s : State) : (endDec n k d s).decs =
    s.decs.filter fun x => !(x.1 == (n, k) && x.2.bale == d.bale && x.2.interactive == d.interactive) := by
  unfold endDec
  dsimp only
  rw [(settleTurn_touches n _).keeps State.decs, (refreshDec_touches n k _).keeps State.decs]

theorem endDec_touches (n k : Nat) (d : Dec) (s : State) :
    Touches { regs := true, stations := true, jobs := true, decs := true } s (endDec n k d s) := by
  unfold endDec
  refine (settleTurn_touches n _).after ?_
  refine (refreshDec_touches n k _).after ?_
  exact ⟨rfl, rfl⟩

theorem mem_setDec {s : State} {n k id : Nat} {f : Dec → Dec} {d : Dec} (h : ((n, k), d) ∈ s.decs) (hid : d.bale = id) :
    ((n, k), f d) ∈ (s.setDec n k id f).decs :=
  List.mem_map.2 ⟨_, h, if_pos (by simp [hid])⟩

/-! ## DECODE_TOKEN -/

/-- A sequence one token on. -/
def Dec.next (tok gen : Nat) (kvs : List KvLayer) (toks : List Nat) (d : Dec) : Dec :=
  { d with pos := d.pos + 1, tok := tok, gen := gen, kvs := kvs, toks := toks }

/-- The state once the token is counted, kept and shown. -/
def takeToken (n k id tok gen : Nat) (kvs : List KvLayer) (toks : List Nat) (s : State) : State :=
  ((bump (Reg.treeDecTok n k) s).setDec n k id (Dec.next tok gen kvs toks)).fset (Reg.treeDecStat n k) 11 0 tok

theorem takeToken_touches (n k id tok gen : Nat) (kvs : List KvLayer) (toks : List Nat) (s : State) :
    Touches { regs := true, evq := true, decs := true } s (takeToken n k id tok gen kvs toks s) := by
  refine (State.fset_touches _ _ _ _ _).after ?_
  refine (State.setDec_touches _ n k id _).after ?_
  exact (bump_touches _ s).mono

theorem takeToken_counts (n k id tok gen : Nat) (kvs : List KvLayer) (toks : List Nat) (s : State) :
    (takeToken n k id tok gen kvs toks s).reg (Reg.treeDecTok n k) = BitVec.ofNat 32 (satWord 24 (s.reg (Reg.treeDecTok n k)).toNat).1 := by
  rw [takeToken, State.reg_fset_ne _ _ _ _ (treeDecTok_ne_treeDecStat n k n k)]
  exact bump_reg s (not_eventReg_treeDecTok n k)

theorem takeToken_decs (n k id tok gen : Nat) (kvs : List KvLayer) (toks : List Nat) {s : State} {d : Dec} (h : ((n, k), d) ∈ s.decs)
    (hid : d.bale = id) : ((n, k), Dec.next tok gen kvs toks d) ∈ (takeToken n k id tok gen kvs toks s).decs := by
  have hb : (bump (Reg.treeDecTok n k) s).decs = s.decs := (bump_touches _ s).keeps State.decs
  exact mem_setDec (s := bump (Reg.treeDecTok n k) s) (by rw [hb]; exact h) hid

/-- A bale with the string of decoder `k` (R414). -/
def Bale.addString (k : Nat) (str : List Byte) (b : Bale) : Bale := { b with strings := b.strings ++ [(k, str)] }

/-- What the hypotheses say of a token step: an in-line sequence has the decode tiles, and its bale still carries it. -/
structure TokenStep (s : State) (n k : Nat) (d : Dec) (b : Bale) (x : DecDecl) (img : List Byte) : Prop where
  /-- The sequence runs and has the turn. -/
  turn : s.decs.find? (fun y => y.1 == (n, k) && y.2.running && (s.stn n).dec.turn == some (decKey y)) = some ((n, k), d)
  /-- It is in-line. -/
  inline : d.interactive = false
  /-- Its bale is in flight. -/
  bale : s.bale? d.bale = some b
  /-- And not stopped. -/
  live : b.stopped = false
  /-- There are decode tiles. -/
  tiles : s.decodeTiles n ≠ []
  /-- Its decoder. -/
  image : s.decImage k d = some (x, img)

theorem TokenStep.eq {s : State} {n k : Nat} {d : Dec} {b : Bale} {x : DecDecl} {img : List Byte} (h : TokenStep s n k d b x img) :
    let step := decodeStep x img d.cross d.kvs d.pos d.tok
    let ch := chooseToken x d.gen step.1
    let toks := d.toks ++ [ch.1]
    let t := takeToken n k d.bale ch.1 ch.2 step.2 toks s
    decodeToken n k s = if !(ch.1 == x.endToken || decide (x.maxTokens ≤ toks.length)) then passTurn n t
      else checkReady d.bale ((endDec n k d t).setBale d.bale (Bale.addString k (decString x img toks))) := by
  obtain ⟨hturn, hinline, hbale, hlive, htiles, himage⟩ := h
  dsimp only
  unfold decodeToken
  rw [hturn]
  dsimp only
  rw [hbale, hinline, Option.map_some, hlive, if_neg (by simp), if_neg (by simpa using htiles), himage]
  rfl

theorem TokenStep.runs {s : State} {n k : Nat} {d : Dec} {b : Bale} {x : DecDecl} {img : List Byte} (h : TokenStep s.begin_ n k d b x img) :
    let step := decodeStep x img d.cross d.kvs d.pos d.tok
    let tok := (chooseToken x d.gen step.1).1
    let toks := d.toks ++ [tok]
    ∃ t, exec (.decodeToken n k) s = .next t ∧
      t.reg (Reg.treeDecTok n k) = BitVec.ofNat 32 (satWord 24 (s.reg (Reg.treeDecTok n k)).toNat).1 ∧
      (tok ≠ x.endToken → toks.length < x.maxTokens → ∃ y ∈ t.decs, y.1 = (n, k) ∧ y.2.bale = d.bale ∧ y.2.toks = toks ∧
        y.2.pos = d.pos + 1 ∧ y.2.tok = tok ∧ y.2.kvs = step.2 ∧ y.2.running = true) ∧
      (tok = x.endToken ∨ x.maxTokens ≤ toks.length → (∃ u, t.bale? d.bale = some u ∧ u.strings = b.strings ++ [(k, decString x img toks)]) ∧
        ∀ y ∈ t.decs, y.1 = (n, k) → y.2.interactive = false → y.2.bale ≠ d.bale) := by
  have heq := h.eq
  intro step tok toks
  dsimp only at heq
  have hmem := List.mem_of_find?_eq_some h.turn
  have hrun : d.running = true := by
    have := List.find?_some h.turn
    simp only [Bool.and_eq_true] at this
    exact this.1.2
  have hne := fun i => treeDecTok_ne_treeDecStat n k n i
  have hcount := takeToken_counts n k d.bale tok (chooseToken x d.gen step.1).2 step.2 toks s.begin_
  have htouch := takeToken_touches n k d.bale tok (chooseToken x d.gen step.1).2 step.2 toks s.begin_
  have hdecs := takeToken_decs n k d.bale tok (chooseToken x d.gen step.1).2 step.2 toks hmem rfl
  have hexec : exec (.decodeToken n k) s = done s (decodeToken n k s.begin_) := rfl
  change decodeToken n k s.begin_ = if !(tok == x.endToken || decide (x.maxTokens ≤ toks.length)) then
    passTurn n (takeToken n k d.bale tok (chooseToken x d.gen step.1).2 step.2 toks s.begin_) else _ at heq
  generalize takeToken n k d.bale tok (chooseToken x d.gen step.1).2 step.2 toks s.begin_ = t₁ at heq hcount htouch hdecs
  by_cases hend : tok = x.endToken ∨ x.maxTokens ≤ toks.length
  · have hcond : (!(tok == x.endToken || decide (x.maxTokens ≤ toks.length))) = false := by
      rcases hend with h | h <;> simp [h]
    rw [hcond, if_neg Bool.false_ne_true] at heq
    have hE := endDec_touches n k d t₁
    have hdecsE := endDec_decs n k d t₁
    have hregE := endDec_reg n k d t₁ hne
    have hbaleE : (endDec n k d t₁).bale? d.bale = some b :=
      (hE.keeps fun u => u.bale? d.bale).trans ((htouch.keeps fun u => u.bale? d.bale).trans h.bale)
    generalize endDec n k d t₁ = t₂ at heq hE hdecsE hregE hbaleE
    have hset := bale?_setBale_same (Bale.addString k (decString x img toks)) (fun _ => rfl) hbaleE
    obtain ⟨j, hready⟩ := checkReady_bale d.bale hset
    have hC := checkReady_touches d.bale (t₂.setBale d.bale (Bale.addString k (decString x img toks)))
    have hT : Touches { regs := true, evq := true, decs := true, stations := true, jobs := true, bales := true } s.begin_
        (checkReady d.bale (t₂.setBale d.bale (Bale.addString k (decString x img toks)))) := by
      refine hC.after ?_
      refine (State.setBale_touches t₂ d.bale _).after ?_
      exact hE.after htouch.mono
    refine ⟨_, by rw [hexec, heq]; exact hT.done_eq, ?_, fun h1 h2 => absurd hend (by omega), fun _ => ⟨⟨_, hready, rfl⟩, fun y hy hkey hinl hsame => ?_⟩⟩
    · exact (reg_congr (hC.keeps State.regs) _).trans (hregE.trans hcount)
    · have hdecsC : (checkReady d.bale (t₂.setBale d.bale (Bale.addString k (decString x img toks)))).decs = t₂.decs := hC.keeps State.decs
      rw [hdecsC, hdecsE] at hy
      have hkept := (List.mem_filter.1 hy).2
      simp [hkey, hinl, hsame, h.inline] at hkept
  · have hcond : (!(tok == x.endToken || decide (x.maxTokens ≤ toks.length))) = true := by simpa using hend
    rw [hcond, if_pos rfl] at heq
    have hT : Touches { regs := true, evq := true, decs := true, stations := true } s.begin_ (passTurn n t₁) :=
      (passTurn_touches n t₁).after htouch.mono
    refine ⟨passTurn n t₁, by rw [hexec, heq]; exact hT.done_eq, (passTurn_reg n t₁ hne).trans hcount, fun _ _ => ?_, fun h => absurd h hend⟩
    exact ⟨_, by rw [(passTurn_touches n t₁).keeps State.decs]; exact hdecs, rfl, rfl, rfl, rfl, rfl, rfl, hrun⟩

theorem decodeToken_idle (s : State) (n k : Nat)
    (h : ∀ x ∈ s.decs, x.1 = (n, k) → x.2.running = true → (s.stn n).dec.turn ≠ some (decKey x)) :
    ∃ t, exec (.decodeToken n k) s = .next t ∧ State.unchanged s t := by
  have hnone : s.decs.find? (fun y => y.1 == (n, k) && y.2.running && (s.stn n).dec.turn == some (decKey y)) = none := by
    rw [List.find?_eq_none]
    intro y hy hcond
    simp only [Bool.and_eq_true, beq_iff_eq] at hcond
    exact h y hy hcond.1.1 hcond.1.2 hcond.2
  have hexec : exec (.decodeToken n k) s = done s s.begin_ := by
    show done s (decodeToken n k s.begin_) = _
    unfold decodeToken
    rw [show s.begin_.decs.find? (fun y => y.1 == (n, k) && y.2.running && (s.begin_.stn n).dec.turn == some (decKey y)) = none from hnone]
  rw [hexec]
  exact done_unchanged s

/-! ## The dispatch of a sequence (R354, R400) -/

/-- What the hypotheses say of a queued in-line sequence: its tiles are ready, and there is room for its pages. -/
structure DecodeStart (s : State) (j : Job) (d : Dec) (x : DecDecl) (img : List Byte) : Prop where
  /-- It is the station's one queued job. -/
  queued : s.queued j.stn = [j]
  /-- Of an in-line decoder. -/
  kind : j.kind = .decode
  /-- It may run. -/
  may : s.mayRun j = true
  /-- The Khan is not rebuilding its state. -/
  built : s.boot.rebuilding = false
  /-- No tile is retiring. -/
  whole : s.retiring = []
  /-- Its decoder runs nothing. -/
  free : ∀ y ∈ s.decs, y.1 = (j.stn, j.idx) → y.2.running = false
  /-- The sequence. -/
  sequence : s.decs.find? (fun y => y.1 == (j.stn, j.idx) && y.2.bale == j.bale && y.2.interactive == false) = some ((j.stn, j.idx), d)
  /-- Its decoder's declaration. -/
  image : s.decImage j.idx d = some (x, img)
  /-- Its tiles. -/
  ready : s.decodeReady j.stn d = true
  /-- Room for its pages. -/
  room : s.kvHeld j.stn + x.kvPages ≤ 96 * (s.decodeTiles j.stn).length

/-- A sequence that starts. -/
def Dec.start (gen : Nat) (x : DecDecl) (img : List Byte) (d : Dec) : Dec :=
  { d with running := true, gen := gen, kv := x.kvPages, cross := crossOf x img d.mem }

theorem DecodeStart.eq {s : State} {j : Job} {d : Dec} {x : DecDecl} {img : List Byte} (h : DecodeStart s j d x img) :
    ∃ gen free js, jobDispatch j.stn s =
      settleTurn j.stn { ({ s with free := free } : State).setDec j.stn j.idx j.bale (Dec.start gen x img) with jobs := js } := by
  obtain ⟨hqueued, hkind, hmay, hbuilt, hwhole, hfree, hseq, himage, hready, hroom⟩ := h
  have hidle : (s.decs.any fun d => d.1 == (j.stn, j.idx) && d.2.running) = false := by
    rw [List.any_eq_false]
    intro y hy hcond
    simp only [Bool.and_eq_true, beq_iff_eq] at hcond
    rw [hfree y hy hcond.1] at hcond
    exact Bool.false_ne_true hcond.2
  have hswap : swapDecode j.stn d s = s := by
    unfold swapDecode
    rw [hwhole]
    rfl
  have hfull : (!s.decodeReady j.stn d || 96 * (s.decodeTiles j.stn).length < s.kvHeld j.stn + x.kvPages) = false := by
    rw [hready]
    simpa using hroom
  have hstart : ∃ gen free js, dispatchDecode j s = some
      (settleTurn j.stn { ({ s with free := free } : State).setDec j.stn j.idx j.bale (Dec.start gen x img) with jobs := js }) := by
    unfold dispatchDecode
    dsimp only
    rw [hidle, if_neg Bool.false_ne_true, hkind, show (JobKind.decode == JobKind.explain) = false from rfl, hseq]
    dsimp only
    rw [hswap, himage]
    dsimp only
    rw [hfull, if_neg Bool.false_ne_true]
    split
    · exact ⟨_, _, _, rfl⟩
    · exact ⟨_, s.free, _, rfl⟩
  obtain ⟨gen, free, js, hdispatch⟩ := hstart
  refine ⟨gen, free, js, ?_⟩
  unfold jobDispatch
  rw [hbuilt, if_neg Bool.false_ne_true, hqueued, List.filter_cons_of_pos hmay, List.filter_nil]
  show ((([j] : List Job).findSome? _).getD s) = _
  rw [List.findSome?_cons]
  dsimp only
  rw [hkind]
  dsimp only
  rw [hdispatch]
  rfl


theorem DecodeStart.runs {s : State} {j : Job} {d : Dec} {x : DecDecl} {img : List Byte} (h : DecodeStart s.begin_ j d x img) :
    ∃ t, exec (.jobDispatch j.stn none) s = .next t ∧ ∃ y ∈ t.decs, y.1 = (j.stn, j.idx) ∧ y.2.bale = j.bale ∧ y.2.running = true ∧
      y.2.kv = x.kvPages ∧ y.2.cross = crossOf x img d.mem ∧ y.2.tok = d.tok ∧ y.2.pos = d.pos := by
  obtain ⟨gen, free, js, heq⟩ := h.eq
  have hmem := List.mem_of_find?_eq_some h.sequence
  have hbale : d.bale = j.bale := by
    have := List.find?_some h.sequence
    simp only [Bool.and_eq_true, beq_iff_eq] at this
    exact this.1.2
  have hstarted : ((j.stn, j.idx), Dec.start gen x img d) ∈
      (({ s.begin_ with free := free } : State).setDec j.stn j.idx j.bale (Dec.start gen x img)).decs := mem_setDec hmem hbale
  have hexec : exec (.jobDispatch j.stn none) s = done s (jobDispatch j.stn s.begin_) := rfl
  have hbase : Touches { free := true, decs := true, jobs := true } s.begin_
      { ({ s.begin_ with free := free } : State).setDec j.stn j.idx j.bale (Dec.start gen x img) with jobs := js } := ⟨rfl, rfl⟩
  have hdecs : ∀ u : State, u = { ({ s.begin_ with free := free } : State).setDec j.stn j.idx j.bale (Dec.start gen x img) with jobs := js } →
      ((j.stn, j.idx), Dec.start gen x img d) ∈ u.decs := fun u hu => by rw [hu]; exact hstarted
  generalize ({ ({ s.begin_ with free := free } : State).setDec j.stn j.idx j.bale (Dec.start gen x img) with jobs := js } : State) = u
    at heq hbase hdecs
  have hT : Touches { regs := true, stations := true, free := true, decs := true, jobs := true } s.begin_ (settleTurn j.stn u) :=
    (settleTurn_touches j.stn u).after hbase.mono
  refine ⟨_, by rw [hexec, heq]; exact hT.done_eq, ((j.stn, j.idx), Dec.start gen x img d), ?_, rfl, hbale, rfl, rfl, rfl, rfl, rfl⟩
  rw [(settleTurn_touches j.stn u).keeps State.decs]
  exact hdecs u rfl

/-- Settles O42: the fewest rounds that bring one station the size of its pass choose it, a pass's outputs enter each of its bales
in turn, and a sequence that starts or goes on keeps its place among the others. -/
theorem treePassesAndTokens : Obligations.TreePassesAndTokens := by
  unfold Obligations.TreePassesAndTokens
  refine ⟨fun s h => treePassStart_idle h, fun s hidle hsized hready => ?_, fun s n e ids _ hpass => treePassEnd_passes s n e ids hpass,
    fun s n e err ids hn herr hpass => treePassEnd_fails s n e err ids hn herr hpass, fun s err hpass => treePassEnd_idle s err hpass,
    fun s n k h => decodeToken_idle s n k h, ?_, ?_⟩
  · obtain ⟨t, n, e, uid, js, h⟩ := treePassStart_starts s hidle hsized hready
    exact ⟨t, n, e, uid, js, h⟩
  · intro s j d x img hqueued hkind hmay hbuilt hwhole hfree hseq himage hready hroom
    exact DecodeStart.runs ⟨hqueued, hkind, hmay, hbuilt, hwhole, hfree, hseq, himage, hready, hroom⟩
  · intro s n k d b x img _ _ hturn hinline hbale hlive htiles himage
    exact TokenStep.runs ⟨hturn, hinline, hbale, hlive, htiles, himage⟩

end Sys2Proof.Machine

/-! PROOFS. TRIG_EN_SET: the domains that arming needs, and what refuses it (R759, R857). -/

namespace Sys2Proof.Machine

-- One theorem after the other: many at once ask for too many threads.
set_option Elab.async false

/-! ## Domains (R857) -/

theorem switchOn_tree_keeps_on {e : Nat} (he : e ≠ domTree) {s : State} (h : s.domOn e = true) : (switchOn domTree s).domOn e = true := by
  have hreg : (resetDomain domTree s).reg Reg.pwrDomOn = s.reg Reg.pwrDomOn := by
    refine (State.reg_setN_ne { s with regs := s.regs.filter fun p => domainOf p.1 != domTree || domTree == 0 } 0 (by decide)).trans ?_
    exact (RegFile.get_filter (fun b => domainOf b != domTree || domTree == 0) s.regs Reg.pwrDomOn).trans (if_pos (by decide))
  have hon : (resetDomain domTree s).domOn e = true := by
    unfold State.domOn State.flag at h ⊢
    rw [hreg]
    exact h
  have hswitch : switchOn domTree s = if s.domOn domTree then s else (resetDomain domTree s).setFlag Reg.pwrDomOn domTree true := rfl
  rw [hswitch]
  split
  · exact h
  · exact (State.flag_setFlag_ne _ true (by decide) (.inr he)).trans hon

theorem needDomains_of_on {ds : List Nat} {s : State} (h : ∀ d ∈ ds, s.domOn d = true) : needDomains ds s = s := by
  unfold needDomains
  induction ds with
  | nil => rfl
  | cons d r ih =>
    have hd : switchOn d s = s := if_pos (h d List.mem_cons_self)
    rw [List.foldl_cons, hd]
    exact ih fun x hx => h x (List.mem_cons_of_mem _ hx)

theorem needDomains_arming_on (trees : Bool) (s : State) :
    ∀ d ∈ stationDomains, (needDomains (stationDomains ++ if trees then [domTree] else []) s).domOn d = true := by
  intro d hd
  have hon := needDomains_on (ds := stationDomains) (fun _ h => h) s d hd
  cases trees with
  | false => exact hon
  | true =>
    have hne : d ≠ domTree := fun h => absurd (h ▸ hd) (by decide)
    have happ : needDomains (stationDomains ++ [domTree]) s = switchOn domTree (needDomains stationDomains s) := List.foldl_append ..
    rw [if_pos rfl, happ]
    exact switchOn_tree_keeps_on hne hon

/-! ## TRIG_EN_SET -/

/-- Arming is refused (R759). -/
def State.armRefused (s : State) (n : Nat) : Prop :=
  s.active? n = none ∨ (s.ref n).lost = true ∨ (s.stn n).tiles = [] ∧ s.claim n < max 1 (((s.env? n).map Env.tilesMin).getD 0)

/-- The condition as the model computes it. -/
theorem armRefused_iff (s : State) (n : Nat) : s.armRefused n ↔ ((s.active? n).isNone || (s.ref n).lost ||
    (!(!(s.stn n).tiles.isEmpty) && decide (s.claim n < max 1 (((s.env? n).map Env.tilesMin).getD 0)))) = true := by
  simp [State.armRefused, or_assoc]

theorem trigEnSet_waits {s : State} {n : Nat} (h : (s.stn n).trigEn = true ∨ (s.stn n).want = true) : trigEnSet n s = s :=
  if_pos (by rcases h with h | h <;> simp [h])

/-- TRIG_EN_SET of a station that neither triggers nor waits. -/
theorem trigEnSet_eq {s : State} {n : Nat} (hboot : s.flag Reg.sysBootStat 31 = false) (htrig : (s.stn n).trigEn = false)
    (hwant : (s.stn n).want = false) : ∃ (trees : Bool) (u : State), u = needDomains (stationDomains ++ if trees then [domTree] else []) s ∧
      (u.armRefused n → trigEnSet n s = u.setFlag (Reg.mileStnStat n) 30 true) ∧
      (¬ u.armRefused n → trigEnSet n s = u.setStn n fun t => { t with want := true }) := by
  refine ⟨((s.active? n).map fun b => !b.trees.isEmpty).getD false, _, rfl, fun h => ?_, fun h => ?_⟩
  · unfold trigEnSet
    rw [hboot, htrig, hwant, if_neg (by simp)]
    exact if_pos ((armRefused_iff _ n).1 h)
  · unfold trigEnSet
    rw [hboot, htrig, hwant, if_neg (by simp)]
    exact if_neg fun g => h ((armRefused_iff _ n).2 g)

theorem exec_trigEnSet (s : State) (ini : Nat) {n : Nat} (hn : n < 16) : exec (.trigEnSet ini n) s = done s (trigEnSet n s.begin_) :=
  congrArg (done s) (if_pos hn)

theorem mileStnStat_ne_pwrDomOn (n : Nat) : Reg.pwrDomOn ≠ Reg.mileStnStat n := by
  simp only [Reg.pwrDomOn, Reg.mileStnStat]
  omega

/-- The domains that arming needs are on after it. -/
theorem trigEnSet_domains (s : State) (ini : Nat) {n : Nat} (hn : n < 16) (hboot : s.flag Reg.sysBootStat 31 = false)
    (htrig : (s.stn n).trigEn = false) (hwant : (s.stn n).want = false) :
    ∃ t, exec (.trigEnSet ini n) s = .next t ∧ ∀ d ∈ stationDomains, t.domOn d = true := by
  obtain ⟨trees, u, hu, hrefused, hasks⟩ := trigEnSet_eq (s := s.begin_) hboot htrig hwant
  have hon : ∀ d ∈ stationDomains, (trigEnSet n s.begin_).domOn d = true := by
    intro d hd
    have hd' : u.domOn d = true := by rw [hu]; exact needDomains_arming_on trees s.begin_ d hd
    by_cases hr : u.armRefused n
    · rw [hrefused hr]
      exact (State.flag_setFlag_ne u true (by norm_num) (.inl (mileStnStat_ne_pwrDomOn n))).trans hd'
    · rw [hasks hr]
      exact hd'
  rw [exec_trigEnSet s ini hn]
  exact ⟨_, rfl, fun d hd => (flag_congr rfl _ _).trans (hon d hd)⟩

/-- With the domains on, TRIG_EN_SET sets ARM_ERR or asks for the grant, and nothing else. -/
theorem trigEnSet_answers (s : State) (ini : Nat) {n : Nat} (hn : n < 16) (hsized : s.sized = true)
    (hboot : s.flag Reg.sysBootStat 31 = false) (htrig : (s.stn n).trigEn = false) (hwant : (s.stn n).want = false)
    (hon : ∀ d ∈ domTree :: stationDomains, s.domOn d = true) :
    (s.begin_.armRefused n → ∃ t, exec (.trigEnSet ini n) s = .next t ∧ t.flag (Reg.mileStnStat n) 30 = true ∧
      State.onlyRegs [Reg.mileStnStat n] s t) ∧
    (¬ s.begin_.armRefused n → ∃ t, exec (.trigEnSet ini n) s = .next t ∧ t.stn n = { s.stn n with want := true } ∧
      (∀ k, k ≠ n → t.stn k = s.stn k) ∧ { t with stations := s.stations, out := s.out, phy := s.phy.still t.phy } = s) := by
  obtain ⟨trees, u, hu, hrefused, hasks⟩ := trigEnSet_eq (s := s.begin_) hboot htrig hwant
  have hsame : u = s.begin_ := hu.trans (needDomains_of_on fun d hd => hon d (by
    rcases List.mem_append.1 hd with hd | hd
    · exact List.mem_cons_of_mem _ hd
    · cases trees <;> simp_all))
  rw [hsame] at hrefused hasks
  rw [exec_trigEnSet s ini hn]
  refine ⟨fun hr => ?_, fun hr => ?_⟩
  · rw [hrefused hr]
    obtain ⟨t, ht, hregs, -, honly⟩ := done_onlyRegs (s := s) ((RegsOnly.refl (· ∈ [Reg.mileStnStat n]) s.begin_).setFlag 30 true
      (a := Reg.mileStnStat n) List.mem_cons_self)
    exact ⟨t, ht, (flag_congr hregs _ _).trans (State.flag_setFlag _ _ true (by norm_num)), honly⟩
  · rw [hasks hr]
    have hT := State.setStn_touches s.begin_ n fun t => { t with want := true }
    refine ⟨_, hT.done_eq, ?_, fun k hk => ?_, hT.back_begin⟩
    · exact stn_setStn_same (s := s.begin_) _ (by rw [State.sized_stations (s := s.begin_) hsized]; exact hn)
    · exact stn_setStn_ne _ _ hk

end Sys2Proof.Machine

/-! PROOFS. The region that a grant makes: its tiles, and what becomes of each (R339, R340, R343 to R345). -/

namespace Sys2Proof.Machine

-- One theorem after the other: many at once ask for too many threads.
set_option Elab.async false

/-! ## The tiles that could be granted -/

theorem insertBy_perm {α : Type} (le : α → α → Bool) (x : α) (l : List α) : (insertBy le x l).Perm (x :: l) := by
  induction l with
  | nil => exact List.Perm.refl _
  | cons y r ih =>
    unfold insertBy
    split
    · exact (ih.cons y).trans (List.Perm.swap x y r)
    · exact List.Perm.refl _

theorem sortBy_perm {α : Type} (le : α → α → Bool) (l : List α) : (sortBy le l).Perm l := by
  have h : ∀ l a : List α, (l.foldl (fun a x => insertBy le x a) a).Perm (l ++ a) := by
    intro l
    induction l with
    | nil => exact fun a => List.Perm.refl _
    | cons x r ih => exact fun a => (ih (insertBy le x a)).trans (((insertBy_perm le x a).append_left r).trans List.perm_middle)
  have hl := h l []
  rw [List.append_nil] at hl
  exact hl

theorem mem_tilesFor {s : State} {n k : Nat} : k ∈ s.tilesFor n ↔ k < 72 ∧ s.freeFor n k = true := by
  rw [State.tilesFor, mem_sortBy_iff, List.mem_filter, List.mem_range]

theorem tilesFor_nodup (s : State) (n : Nat) : (s.tilesFor n).Nodup :=
  (sortBy_perm _ _).nodup_iff.2 (List.nodup_range.filter _)

theorem freeTiles_length_le (s : State) (n : Nat) : s.freeTiles.length ≤ (s.tilesFor n).length := by
  rw [State.freeTiles, State.tilesFor, (sortBy_perm _ _).length_eq, (sortBy_perm _ _).length_eq]
  exact (List.monotone_filter_right _ fun k h => by simp [State.freeFor, h]).length_le

theorem pickTiles_of_none {s : State} {n k : Nat} (hpos : k ≠ 0) (htiles : (s.stn n).tiles = []) (hjoining : (s.stn n).joining = [])
    (hk : k ≤ (s.tilesFor n).length) : (s.pickTiles n k).length = k ∧ (s.pickTiles n k).Sublist (s.tilesFor n) := by
  have htake : ∀ r, r = (s.tilesFor n).take k → r.length = k ∧ r.Sublist (s.tilesFor n) := fun r hr => by
    rw [hr]
    exact ⟨by simpa using hk, List.take_sublist _ _⟩
  unfold State.pickTiles
  dsimp only
  rw [htiles, hjoining, if_neg (by simpa using Ne.symm hpos)]
  cases hfind : ((List.range ((s.tilesFor n).length + 1 - k)).map fun i => ((s.tilesFor n).drop i).take k).find? fun r =>
      match r.head?, r.getLast? with
      | some a, some b => s.place b == s.place a + k - 1
      | _, _ => false with
  | none => exact htake _ rfl
  | some r =>
    have hr : r.length = k ∧ r.Sublist (s.tilesFor n) := by
      obtain ⟨i, hi, rfl⟩ := List.mem_map.1 (List.mem_of_find?_eq_some hfind)
      have hi := List.mem_range.1 hi
      refine ⟨?_, (List.take_sublist _ _).trans (List.drop_sublist _ _)⟩
      rw [List.length_take, List.length_drop]
      omega
    exact hr

theorem secure_enough {s : State} {n fuel want : Nat} (h : want ≤ (s.tilesFor n).length) : secure n fuel want s = (want, s) := by
  cases fuel with
  | zero => rfl
  | succ fuel =>
    unfold secure
    exact if_pos (by omega)

/-! ## Operations on one tile after the other -/

section
variable {α : Type} {op : State → α → State} {at_ : α → Nat}

theorem foldl_tile_other (hother : ∀ u p j, j ≠ at_ p → (op u p).tile j = u.tile j) {ps : List α} {s : State} {j : Nat}
    (hj : j ∉ ps.map at_) : (ps.foldl op s).tile j = s.tile j := by
  induction ps generalizing s with
  | nil => rfl
  | cons p r ih =>
    rw [List.map_cons, List.mem_cons, not_or] at hj
    rw [List.foldl_cons, ih hj.2, hother _ _ _ hj.1]

theorem foldl_tile_own {Inv : State → Prop} {G : α → Tile → Tile} (hother : ∀ u p j, j ≠ at_ p → (op u p).tile j = u.tile j)
    (hinv : ∀ u p, Inv u → Inv (op u p)) (hown : ∀ u p, Inv u → at_ p < 72 → (op u p).tile (at_ p) = G p (u.tile (at_ p)))
    {ps : List α} (hnodup : (ps.map at_).Nodup) {s : State} (hs : Inv s) {p : α} (hp : p ∈ ps) (hlt : at_ p < 72) :
    (ps.foldl op s).tile (at_ p) = G p (s.tile (at_ p)) := by
  induction ps generalizing s with
  | nil => exact absurd hp (by simp)
  | cons q r ih =>
    rw [List.map_cons, List.nodup_cons] at hnodup
    rw [List.foldl_cons]
    rcases List.mem_cons.1 hp with rfl | hp
    · rw [foldl_tile_other hother hnodup.1, hown s p hs hlt]
    · have hne : at_ p ≠ at_ q := fun h => hnodup.1 (h ▸ List.mem_map_of_mem hp)
      rw [ih hnodup.2 (hinv s q hs) hp, hother s q _ hne]

end

theorem map_snd_indexed {α : Type} (xs : List α) : (indexed xs).map Prod.snd = xs := by
  rw [indexed, List.map_snd_zip (by simp)]

theorem mem_indexed {α : Type} {xs : List α} {i : Nat} {x : α} (h : xs[i]? = some x) : (i, x) ∈ indexed xs := by
  obtain ⟨hi, rfl⟩ := List.getElem?_eq_some_iff.1 h
  exact List.mem_iff_getElem.2 ⟨i, by simpa [indexed] using hi, by simp [indexed]⟩

/-! ## A tile that is granted -/

/-- A tile as a grant leaves it (R343, R344). -/
def Tile.granted (holes : Bool) (n slot k : Nat) (t : Tile) : Tile :=
  let t := { t with owner := some n, gated := false, scrub := t.last != some n, pages := [], work := none, to_ := none, src := none }
  if holes then { t with st := tileActive, lx := min slot 14, ly := k / 9 } else t

/-- One tile enters the region of a station (R339). -/
def grantOne (n : Nat) (s : State) (p : Nat × Nat) : State :=
  let v := (s.tile p.2).src
  let s := (grantTile n p.1 p.2 s).setTile p.2 fun t => { t with src := none }
  if v.isSome then khanMoved (some n) v p.2 s else s

theorem grantOne_touches (n : Nat) (s : State) (p : Nat × Nat) :
    Touches { regs := true, evq := true, tiles := true } s (grantOne n s p) := by
  have h := ((grantTile_touches n p.1 p.2 s).mono (m := { regs := true, evq := true, tiles := true })).then
    (State.setTile_touches _ p.2 fun t => { t with src := none })
  exact Touches.ite (fun _ => h.then (khanMoved_touches _ _ _ _)) fun _ => h

theorem grantOnes_touches (n : Nat) (ps : List (Nat × Nat)) (s : State) :
    Touches { regs := true, evq := true, tiles := true } s (ps.foldl (grantOne n) s) := Touches.foldl (grantOne_touches n) ps s

theorem khanMoved_tile (dst src : Option Nat) (k : Nat) (s : State) (j : Nat) : (khanMoved dst src k s).tile j = s.tile j :=
  (khanMoved_touches dst src k s).keeps fun u => u.tile j

theorem grantOne_tile (n : Nat) (s : State) (p : Nat × Nat) (j : Nat) :
    (grantOne n s p).tile j = ((grantTile n p.1 p.2 s).setTile p.2 fun t => { t with src := none }).tile j := by
  unfold grantOne
  dsimp only
  split
  · exact khanMoved_tile _ _ _ _ j
  · rfl

theorem grantOne_tile_other (n : Nat) (s : State) (p : Nat × Nat) (j : Nat) (hj : j ≠ p.2) : (grantOne n s p).tile j = s.tile j := by
  rw [grantOne_tile, tile_setTile, if_neg fun h => hj h.1, grantTile]
  dsimp only
  rw [tile_setTile, if_neg fun h => hj h.1]

theorem grantOne_tile_own (n : Nat) (s : State) (p : Nat × Nat) (hlt : p.2 < s.tiles.length) :
    (grantOne n s p).tile p.2 = (s.tile p.2).granted s.holes n p.1 p.2 := by
  have hlen : p.2 < (grantTile n p.1 p.2 s).tiles.length := by
    have h := (grantTile_touches n p.1 p.2 s).lens
    simp only [State.lens, List.cons.injEq] at h
    omega
  rw [grantOne_tile, tile_setTile, if_pos ⟨rfl, hlen⟩, grantTile]
  dsimp only
  rw [tile_setTile, if_pos ⟨rfl, hlt⟩, Tile.granted]
  cases s.holes <;> rfl

theorem grantRegion_eq (n k : Nat) (s : State) : grantRegion n k s =
    reshape n ((dropTaken n ((indexed (s.pickTiles n k)).foldl (grantOne n) s)).setStn n fun t =>
      { t with tiles := s.pickTiles n k, decTiles := min (((s.active? n).map StnBlock.decTiles).getD 0) (s.pickTiles n k).length,
               joining := [], leaving := [], sinceGrowth := none }) := by
  have hactive : ((indexed (s.pickTiles n k)).foldl (grantOne n) s).active? n = s.active? n :=
    (grantOnes_touches n _ s).keeps fun u => u.active? n
  rw [← hactive]
  rfl

/-! ## Tiles that were taken for a station and are free again -/

theorem dropTaken_tile (n : Nat) (s : State) (j : Nat) :
    ∃ x y, (dropTaken n s).tile j = { s.tile j with to_ := x, src := y } := by
  unfold dropTaken
  induction List.range 72 generalizing s with
  | nil => exact ⟨_, _, rfl⟩
  | cons k r ih =>
    rw [List.foldl_cons]
    obtain ⟨x, y, hr⟩ := ih (if (s.tile k).to_ == some n then
      let u := s.setTile k fun t => { t with to_ := none, src := none }
      if (s.tile k).owner.isNone && (s.tile k).src.isSome then khanMoved none (s.tile k).src k u else u else s)
    refine ⟨x, y, hr.trans ?_⟩
    have hone : ∃ a b, (if (s.tile k).to_ == some n then
        let u := s.setTile k fun t => { t with to_ := none, src := none }
        if (s.tile k).owner.isNone && (s.tile k).src.isSome then khanMoved none (s.tile k).src k u else u else s).tile j =
        { s.tile j with to_ := a, src := b } := by
      have hset : ∃ a b, (s.setTile k fun t => { t with to_ := none, src := none }).tile j = { s.tile j with to_ := a, src := b } := by
        rw [tile_setTile]
        split
        · exact ⟨none, none, rfl⟩
        · exact ⟨_, _, rfl⟩
      dsimp only
      split
      · split
        · rw [khanMoved_tile]
          exact hset
        · exact hset
      · exact ⟨_, _, rfl⟩
    obtain ⟨a, b, hab⟩ := hone
    rw [hab]

/-! ## Model tiles beyond N (R345) -/

/-- The tile is one of the region's surplus, and idle. -/
def State.surplus (s : State) (n : Nat) (p : Nat × Nat) (t : Tile) : Bool :=
  decide ((s.stn n).decTiles + (s.stn n).n ≤ p.1) && t.work.isNone && !((s.balesOf n).any fun b => s.placedOn b p.2)

/-- The tile backs a logical tile. -/
def Tile.backs (t : Tile) : Bool := t.lx < 15 && (t.st == tileActive || t.st == tileRetiring)

theorem gateSurplus_eq (n : Nat) (s : State) : gateSurplus n s = (indexed (s.stn n).tiles).foldl (fun (u : State) p =>
    if (u.tile p.2).backs then u.setTile p.2 (gateTile (decide ((s.stn n).decTiles + (s.stn n).n ≤ p.1) && (u.tile p.2).work.isNone &&
      !((u.balesOf n).any fun b => u.placedOn b p.2))) else u) s := rfl

theorem State.sized_tiles {s : State} (h : s.sized = true) : s.tiles.length = 72 := by
  simp only [State.sized, Bool.and_eq_true, beq_iff_eq] at h
  omega

theorem gateSurplus_tile {s : State} {n : Nat} (hsized : s.sized = true) (hnodup : (s.stn n).tiles.Nodup) {i k : Nat}
    (hi : (s.stn n).tiles[i]? = some k) (hk : k < 72) : (gateSurplus n s).tile k =
      if (s.tile k).backs then gateTile (s.surplus n (i, k) (s.tile k)) (s.tile k) else s.tile k := by
  have hlen : s.tiles.length = 72 := State.sized_tiles hsized
  rw [gateSurplus_eq]
  refine foldl_tile_own (at_ := Prod.snd) (p := (i, k)) (Inv := fun u => Touches { tiles := true } s u)
    (G := fun p t => if t.backs then gateTile (s.surplus n p t) t else t) (fun u p j hj => ?_) (fun u p hu => ?_) (fun u p hu hlt => ?_)
    (by rw [map_snd_indexed]; exact hnodup) Touches.refl (mem_indexed hi) hk
  · split
    · rw [tile_setTile, if_neg fun h => hj h.1]
    · rfl
  · exact Touches.ite (fun _ => hu.then (State.setTile_touches u _ _)) fun _ => hu
  · have hb : ((u.balesOf n).any fun b => u.placedOn b p.2) = (s.balesOf n).any fun b => s.placedOn b p.2 :=
      hu.keeps fun u => (u.balesOf n).any fun b => u.placedOn b p.2
    rw [hb]
    split
    · rw [tile_setTile, if_pos ⟨rfl, by rw [State.sized_tiles (hu.sized hsized)]; exact hlt⟩]
      rfl
    · rfl

theorem gateSurplus_tile_other {s : State} {n k : Nat} (hk : k ∉ (s.stn n).tiles) : (gateSurplus n s).tile k = s.tile k := by
  rw [gateSurplus_eq]
  refine foldl_tile_other (at_ := Prod.snd) (fun u p j hj => ?_) (by rw [map_snd_indexed]; exact hk)
  split
  · rw [tile_setTile, if_neg fun h => hj h.1]
  · rfl

end Sys2Proof.Machine

/-! PROOFS. ARM_GRANT: the grant, and the arming that follows it (R339, R340, R345, R670, R796). -/

namespace Sys2Proof.Machine

-- One theorem after the other: many at once ask for too many threads.
set_option Elab.async false

/-! ## The region of a grant -/

theorem backs_granted {s : State} {n k : Nat} (slot : Nat) (h : s.freeFor n k = true) (x y : Option Nat) :
    ({ (s.tile k).granted s.holes n slot k with to_ := x, src := y } : Tile).backs = true := by
  unfold State.freeFor State.isFree State.unheld at h
  unfold Tile.backs Tile.granted
  cases hholes : s.holes with
  | true =>
    have hlt : min slot 14 < 15 := by omega
    simp [hlt]
  | false =>
    simp only [hholes, Bool.false_eq_true, if_false, Bool.or_eq_true, Bool.and_eq_true, decide_eq_true_eq, bne_iff_ne, ne_eq] at h ⊢
    have hlx : (s.tile k).lx < 8 ∧ ((s.tile k).st == tileActive || (s.tile k).st == tileRetiring) = true := by
      rcases h with ⟨⟨⟨⟨-, hst, hlx⟩, -⟩, -⟩, -⟩ | ⟨⟨⟨-, hst, hlx⟩, -⟩, -⟩ <;> exact ⟨hlx, by simpa using hst⟩
    refine ⟨by omega, ?_⟩
    simpa using hlx.2

/-- The station after a grant of the tiles `ks` (R339, R345). -/
def Stn.withRegion (ks : List Nat) (dec slots : Nat) (t : Stn) : Stn :=
  { t with tiles := ks, decTiles := min dec ks.length, joining := [], leaving := [], sinceGrowth := Option.none,
           n := bestSize slots (ks.length - min dec ks.length) }

/-- The state of a grant before its region takes its shape. -/
def grantBase (n k : Nat) (s : State) : State :=
  (dropTaken n ((indexed (s.pickTiles n k)).foldl (grantOne n) s)).setStn n fun t =>
    { t with tiles := s.pickTiles n k, decTiles := min (((s.active? n).map StnBlock.decTiles).getD 0) (s.pickTiles n k).length,
             joining := [], leaving := [], sinceGrowth := none }

theorem grantBase_touches (n k : Nat) (s : State) :
    Touches { regs := true, evq := true, tiles := true, stations := true } s (grantBase n k s) := by
  refine (State.setStn_touches _ n _).after ?_
  refine (dropTaken_touches n _).after ?_
  exact (grantOnes_touches n _ s).mono

theorem grantBase_stn {n k : Nat} {s : State} (hsized : s.sized = true) (hn : n < 16) : ((grantBase n k s).stn n) =
    { s.stn n with tiles := s.pickTiles n k, decTiles := min (((s.active? n).map StnBlock.decTiles).getD 0) (s.pickTiles n k).length,
                   joining := [], leaving := [], sinceGrowth := none } := by
  have hbefore : Touches { regs := true, evq := true, tiles := true } s (dropTaken n ((indexed (s.pickTiles n k)).foldl (grantOne n) s)) :=
    (dropTaken_touches n _).after (grantOnes_touches n _ s)
  have hstn := hbefore.keeps fun u => u.stn n
  have hlen := State.sized_stations (hbefore.sized hsized)
  unfold grantBase
  rw [stn_setStn_same _ (by rw [hlen]; exact hn), hstn]

theorem grantBase_stn_ne {n k j : Nat} {s : State} (hj : j ≠ n) : (grantBase n k s).stn j = s.stn j := by
  have hbefore : Touches { regs := true, evq := true, tiles := true } s (dropTaken n ((indexed (s.pickTiles n k)).foldl (grantOne n) s)) :=
    (dropTaken_touches n _).after (grantOnes_touches n _ s)
  unfold grantBase
  rw [stn_setStn_ne _ _ hj]
  exact hbefore.keeps fun u => u.stn j

theorem tile_setStn (s : State) (n : Nat) (f : Stn → Stn) (j : Nat) : (s.setStn n f).tile j = s.tile j := rfl

theorem grantBase_tile {n k i j : Nat} {s : State} (hsized : s.sized = true) (hnodup : (s.pickTiles n k).Nodup)
    (hi : (s.pickTiles n k)[i]? = some j) (hj : j < 72) :
    ∃ x y, (grantBase n k s).tile j = { (s.tile j).granted s.holes n i j with to_ := x, src := y } := by
  obtain ⟨x, y, hdrop⟩ := dropTaken_tile n ((indexed (s.pickTiles n k)).foldl (grantOne n) s) j
  have hgrant : ((indexed (s.pickTiles n k)).foldl (grantOne n) s).tile j = (s.tile j).granted s.holes n i j := by
    refine foldl_tile_own (at_ := Prod.snd) (p := (i, j)) (Inv := fun u => Touches { regs := true, evq := true, tiles := true } s u)
      (G := fun p t => t.granted s.holes n p.1 p.2) (fun u p l hl => grantOne_tile_other n u p l hl)
      (fun u p hu => hu.then (grantOne_touches n u p)) (fun u p hu hlt => ?_) (by rw [map_snd_indexed]; exact hnodup) Touches.refl
      (mem_indexed hi) hj
    have hholes : u.holes = s.holes := hu.keeps State.holes
    rw [grantOne_tile_own n u p (by rw [State.sized_tiles (hu.sized hsized)]; exact hlt), hholes]
  refine ⟨x, y, ?_⟩
  unfold grantBase
  rw [tile_setStn, hdrop, hgrant]

theorem grantBase_tile_other {n k j : Nat} {s : State} (hj : j ∉ s.pickTiles n k) :
    ∃ x y, (grantBase n k s).tile j = { s.tile j with to_ := x, src := y } := by
  obtain ⟨x, y, hdrop⟩ := dropTaken_tile n ((indexed (s.pickTiles n k)).foldl (grantOne n) s) j
  have hgrant := foldl_tile_other (at_ := Prod.snd) (fun u p l hl => grantOne_tile_other n u p l hl) (s := s)
    (by rw [map_snd_indexed]; exact hj : j ∉ (indexed (s.pickTiles n k)).map Prod.snd)
  refine ⟨x, y, ?_⟩
  unfold grantBase
  rw [tile_setStn, hdrop, hgrant]

theorem khanMoved_keepsRegs (dst src : Option Nat) (k : Nat) (s : State) : KeepsRegs (· = Reg.khanLastMove) s (khanMoved dst src k s) :=
  (((RegsOnly.refl (· = Reg.khanLastMove) s).setN _ rfl).raise 466 (by norm_num)).keepsRegs

theorem dropTaken_keepsRegs (n : Nat) (s : State) : KeepsRegs (· = Reg.khanLastMove) s (dropTaken n s) := by
  unfold dropTaken
  refine KeepsRegs.foldl (fun u k => ?_) _ s
  have h : KeepsRegs (· = Reg.khanLastMove) u (u.setTile k fun t => { t with to_ := none, src := none }) := KeepsRegs.of_regs rfl
  exact KeepsRegs.ite (fun _ => KeepsRegs.ite (fun _ => h.trans (khanMoved_keepsRegs _ _ _ _)) fun _ => h) fun _ => KeepsRegs.of_regs rfl

theorem grantOne_keepsRegs (n : Nat) (s : State) (p : Nat × Nat) : KeepsRegs (· = Reg.khanLastMove) s (grantOne n s p) := by
  have h : KeepsRegs (· = Reg.khanLastMove) s ((grantTile n p.1 p.2 s).setTile p.2 fun t => { t with src := none }) := KeepsRegs.of_regs rfl
  exact KeepsRegs.ite (fun _ => h.trans (khanMoved_keepsRegs _ _ _ _)) fun _ => h

theorem grantBase_keepsRegs (n k : Nat) (s : State) : KeepsRegs (· = Reg.khanLastMove) s (grantBase n k s) :=
  ((KeepsRegs.foldl (grantOne_keepsRegs n) (indexed (s.pickTiles n k)) s).trans (dropTaken_keepsRegs n _)).trans
    (KeepsRegs.of_regs ((State.setStn_touches _ n _).keeps State.regs))

theorem reshape_stn {n : Nat} {s : State} (hsized : s.sized = true) (hn : n < 16) : (reshape n s).stn n =
    { s.stn n with n := bestSize (s.slotsOf n) ((s.stn n).tiles.length - (s.stn n).decTiles) } := by
  unfold reshape
  exact ((gateSurplus_touches n _).keeps fun u => u.stn n).trans (stn_setStn_same _ (by rw [State.sized_stations hsized]; exact hn))

theorem reshape_stn_ne {n j : Nat} {s : State} (hj : j ≠ n) : (reshape n s).stn j = s.stn j := by
  unfold reshape
  exact ((gateSurplus_touches n _).keeps fun u => u.stn j).trans (stn_setStn_ne _ _ hj)

/-- What a grant of `k` tiles makes of a station without any, and of the tiles. -/
structure Granted (n k : Nat) (s t : State) : Prop where
  /-- Its region. -/
  stn : ∃ dec, t.stn n = (s.stn n).withRegion (s.pickTiles n k) dec (s.slotsOf n)
  /-- The other stations. -/
  others : ∀ j, j ≠ n → t.stn j = s.stn j
  /-- A tile of the region. -/
  tile : ∀ i j, (s.pickTiles n k)[i]? = some j → ∃ x y off, t.tile j = gateTile off { (s.tile j).granted s.holes n i j with to_ := x, src := y } ∧
    (i < (t.stn n).decTiles + (t.stn n).n → off = false) ∧
    ((t.stn n).decTiles + (t.stn n).n ≤ i → s.inFlight n = false → off = true)
  /-- Another tile. -/
  rest : ∀ j, j ∉ s.pickTiles n k → ∃ x y, t.tile j = { s.tile j with to_ := x, src := y }
  /-- The parts that it touches. -/
  touches : Touches { regs := true, evq := true, tiles := true, stations := true } s t
  /-- The registers. -/
  regs : KeepsRegs (· = Reg.khanLastMove) s t

theorem grantRegion_granted {n k : Nat} {s : State} (hsized : s.sized = true) (hn : n < 16) (hsub : (s.pickTiles n k).Sublist (s.tilesFor n)) :
    Granted n k s (grantRegion n k s) := by
  have heq : grantRegion n k s = reshape n (grantBase n k s) := grantRegion_eq n k s
  have hbaseT := grantBase_touches n k s
  have hbaseStn := grantBase_stn (k := k) hsized hn
  have hslots : (grantBase n k s).slotsOf n = s.slotsOf n := by
    have hactive : ((grantBase n k s).stn n).active = (s.stn n).active := by rw [hbaseStn]
    have hblocks : (grantBase n k s).blocks = s.blocks := hbaseT.keeps State.blocks
    unfold State.slotsOf State.active? State.block?
    rw [hactive, hblocks]
  have hnodup : (s.pickTiles n k).Nodup := hsub.nodup (tilesFor_nodup s n)
  have hbaseSized := hbaseT.sized hsized
  have hstn : (grantRegion n k s).stn n = (s.stn n).withRegion (s.pickTiles n k) (((s.active? n).map StnBlock.decTiles).getD 0) (s.slotsOf n) := by
    rw [heq, reshape_stn hbaseSized hn, hslots, hbaseStn]
    rfl
  refine ⟨⟨_, hstn⟩, fun j hj => ?_, fun i j hij => ?_, fun j hj => ?_, ?_, ?_⟩
  · rw [heq, reshape_stn_ne hj, grantBase_stn_ne hj]
  · have hj := mem_tilesFor.1 (hsub.subset (List.mem_of_getElem? hij))
    obtain ⟨x, y, htile⟩ := grantBase_tile hsized hnodup hij hj.1
    have hbacks := backs_granted i hj.2 x y
    obtain ⟨f, hshape⟩ : ∃ f, reshape n (grantBase n k s) = gateSurplus n ((grantBase n k s).setStn n f) := ⟨_, rfl⟩
    have hshapeT : Touches { stations := true } (grantBase n k s) ((grantBase n k s).setStn n f) := State.setStn_touches _ n f
    have hshapeTile := (tile_setStn (grantBase n k s) n f j).trans htile
    have hshapeStn : (grantRegion n k s).stn n = ((grantBase n k s).setStn n f).stn n := by
      rw [heq, hshape]
      exact (gateSurplus_touches n _).keeps fun u => u.stn n
    have hbales : ((grantBase n k s).setStn n f).balesOf n = s.balesOf n :=
      (hshapeT.keeps fun u => u.balesOf n).trans (hbaseT.keeps fun u => u.balesOf n)
    have htiles : (((grantBase n k s).setStn n f).stn n).tiles = s.pickTiles n k := by
      rw [← hshapeStn, hstn]
      rfl
    generalize (grantBase n k s).setStn n f = u at hshape hshapeT hshapeTile hshapeStn hbales htiles
    have hgate := gateSurplus_tile (hshapeT.sized hbaseSized) (by rw [htiles]; exact hnodup) (by rw [htiles]; exact hij) hj.1
    rw [hshapeTile, if_pos hbacks] at hgate
    refine ⟨x, y, _, by rw [heq, hshape]; exact hgate, fun hlt => ?_, fun hle hidle => ?_⟩
    · rw [hshapeStn] at hlt
      unfold State.surplus
      rw [decide_eq_false (by omega)]
      rfl
    · rw [hshapeStn] at hle
      have hnone : s.balesOf n = [] := by
        unfold State.balesOf
        unfold State.inFlight at hidle
        rw [List.filter_eq_nil_iff]
        exact fun b hb => List.any_eq_false.1 hidle b hb
      unfold State.surplus
      rw [decide_eq_true hle, hbales, hnone]
      cases hholes : s.holes <;> rfl
  · obtain ⟨x, y, htile⟩ := grantBase_tile_other hj
    refine ⟨x, y, ?_⟩
    rw [heq, reshape]
    dsimp only
    rw [gateSurplus_tile_other (k := j)]
    · rw [tile_setStn]
      exact htile
    · rw [stn_setStn_same _ (by rw [State.sized_stations hbaseSized]; exact hn), hbaseStn]
      exact hj
  · rw [heq]
    exact hbaseT.then (reshape_touches n _)
  · rw [heq]
    exact (grantBase_keepsRegs n k s).trans (KeepsRegs.of_regs ((reshape_touches n _).keeps State.regs))

/-! ## A station becomes armed (R670, R796) -/

theorem becomeArmed_eq (n : Nat) (s : State) : ∃ u, Touches { groups := true } u (becomeArmed n s) ∧
    u = (((if s.armed n then s else (s.setRef n fun r => { r with hwm := r.pos }).setStn n fun t => { t with rev := false }).setReg
      (Reg.convoyTseq n) 0).setStn n fun t => { t with want := false, trigEn := true }) :=
  ⟨_, Touches.foldl (fun u _ => State.setGroup_touches u _ _) _ _, rfl⟩

/-- A station that triggers from now on. -/
def Stn.arm (rev : Bool) (t : Stn) : Stn := { t with rev := rev, want := false, trigEn := true }

theorem becomeArmed_stn {n : Nat} {s : State} (hsized : s.sized = true) (hn : n < 16) :
    ∃ r, (becomeArmed n s).stn n = (s.stn n).arm r := by
  obtain ⟨u, hT, hu⟩ := becomeArmed_eq n s
  refine (show (becomeArmed n s).stn n = u.stn n from hT.keeps fun u => u.stn n) ▸ ?_
  rw [hu]
  split
  · rw [stn_setStn_same (s := s.setReg (Reg.convoyTseq n) 0) _ (show n < s.stations.length by rw [State.sized_stations hsized]; exact hn)]
    exact ⟨(s.stn n).rev, rfl⟩
  · have hmid : ((s.setRef n fun r => { r with hwm := r.pos }).setStn n fun t => { t with rev := false }).stn n = { s.stn n with rev := false } :=
      stn_setStn_same (s := s.setRef n _) _ (show n < s.stations.length by rw [State.sized_stations hsized]; exact hn)
    have hlen : n < ((s.setRef n fun r => { r with hwm := r.pos }).setStn n fun t => { t with rev := false }).stations.length := by
      rw [State.sized_stations ((State.setStn_touches _ n _).sized ((State.setRef_touches s n _).sized hsized))]
      exact hn
    generalize ((s.setRef n fun r => { r with hwm := r.pos }).setStn n fun t => { t with rev := false }) = v at hmid hlen
    rw [stn_setStn_same (s := v.setReg (Reg.convoyTseq n) 0) _ hlen]
    exact ⟨false, congrArg (fun t : Stn => { t with want := false, trigEn := true }) hmid⟩

theorem becomeArmed_stn_ne {n k : Nat} (s : State) (hk : k ≠ n) : (becomeArmed n s).stn k = s.stn k := by
  obtain ⟨u, hT, hu⟩ := becomeArmed_eq n s
  have hkeep : (becomeArmed n s).stn k = u.stn k := hT.keeps fun u => u.stn k
  rw [hkeep, hu, stn_setStn_ne _ _ hk]
  split
  · rfl
  · exact stn_setStn_ne (s.setRef n _) _ hk

theorem becomeArmed_reg (n : Nat) (s : State) :
    (becomeArmed n s).reg (Reg.convoyTseq n) = 0 ∧ ∀ b, b ≠ Reg.convoyTseq n → (becomeArmed n s).reg b = s.reg b := by
  obtain ⟨u, hT, hu⟩ := becomeArmed_eq n s
  have hregs : (becomeArmed n s).regs = u.regs := hT.keeps State.regs
  have hset : ∀ v : State, v.regs = s.regs → u.regs = (v.setReg (Reg.convoyTseq n) 0).regs →
      (becomeArmed n s).reg (Reg.convoyTseq n) = 0 ∧ ∀ b, b ≠ Reg.convoyTseq n → (becomeArmed n s).reg b = s.reg b := fun v hv huv =>
    ⟨(reg_congr (hregs.trans huv) _).trans (State.reg_setReg _ _ _),
      fun b hb => (reg_congr (hregs.trans huv) b).trans ((State.reg_setReg_ne v 0 hb).trans (reg_congr hv b))⟩
  by_cases harmed : s.armed n = true
  · exact hset s rfl (by rw [hu, if_pos harmed]; rfl)
  · exact hset ((s.setRef n fun r => { r with hwm := r.pos }).setStn n fun t => { t with rev := false }) rfl (by rw [hu, if_neg harmed]; rfl)

theorem becomeArmed_hwm {n : Nat} {s : State} (hsized : s.sized = true) (hn : n < 16) (harmed : s.armed n = false) :
    ((becomeArmed n s).ref n).hwm = (s.ref n).pos := by
  obtain ⟨u, hT, hu⟩ := becomeArmed_eq n s
  have hkeep : (becomeArmed n s).ref n = u.ref n := hT.keeps fun u => u.ref n
  rw [hkeep, hu, if_neg (by rw [harmed]; exact Bool.false_ne_true)]
  exact congrArg Ref.hwm (ref_setRef_same (s := s) _ (by rw [State.sized_refs hsized]; exact hn))

/-! ## ARM_GRANT -/

/-- How many tiles a station lacks of its guarantee. -/
def State.lacksTiles (s : State) (n : Nat) : Nat := s.guarOf n - s.effHeld n

/-- TILES_MIN, and one tile at least (R759). -/
def State.leastTiles (s : State) (n : Nat) : Nat := max 1 (((s.env? n).map Env.tilesMin).getD 0)

theorem armGrant_enough {s : State} {n : Nat} (hwant : (s.stn n).want = true) (hleast : s.leastTiles n ≤ s.effHeld n + s.lacksTiles n)
    (hfree : s.lacksTiles n ≤ (s.tilesFor n).length) : armGrant n s = becomeArmed n (grantTiles n (s.lacksTiles n) s) := by
  have hobtain : obtainRegion n s = (grantTiles n (s.lacksTiles n) s, true) := by
    unfold obtainRegion
    rw [show s.guarOf n - s.effHeld n = s.lacksTiles n from rfl, secure_enough hfree]
    dsimp only
    rw [if_neg (by unfold State.leastTiles at hleast; omega), if_pos hfree]
  unfold armGrant
  rw [if_pos hwant, hobtain]
  rfl

theorem armGrant_refused {s : State} {n : Nat} (h : (s.stn n).want = false ∨ s.claim n < s.leastTiles n) : armGrant n s = s := by
  unfold armGrant
  split
  · next hwant =>
    have hclaim := h.resolve_left (by rw [hwant]; simp)
    have hobtain : obtainRegion n s = (s, false) := by
      unfold obtainRegion
      exact if_pos hclaim
    rw [hobtain]
    rfl
  · rfl

theorem exec_armGrant (s : State) (n : Nat) : exec (.armGrant n) s = .next (armGrant n s.begin_) :=
  (armGrant_touches n s.begin_).done_eq

theorem not_eventReg_convoyTseq (n : Nat) : ¬ eventReg (Reg.convoyTseq n) := not_eventReg (.inr (by rw [Reg.convoyTseq]; omega))

/-- The station is armed after a grant of what it lacks. -/
theorem armGrant_arms {s : State} {n : Nat} (hn : n < 16) (hsized : s.sized = true) (hwant : (s.stn n).want = true)
    (hleast : s.leastTiles n ≤ s.effHeld n + s.lacksTiles n) (hfree : s.lacksTiles n ≤ (s.tilesFor n).length) :
    ∃ t, exec (.armGrant n) s = .next t ∧ (t.stn n).trigEn = true ∧ (t.stn n).want = false ∧ t.reg (Reg.convoyTseq n) = 0 := by
  have heq := armGrant_enough (s := s.begin_) hwant hleast hfree
  obtain ⟨r, hstn⟩ := becomeArmed_stn ((grantTiles_touches n (s.begin_.lacksTiles n) s.begin_).sized hsized) hn
  refine ⟨_, exec_armGrant s n, ?_, ?_, ?_⟩
  · rw [heq, hstn]; rfl
  · rw [heq, hstn]; rfl
  · rw [heq]
    exact (becomeArmed_reg n _).1

/-- A station that holds its guarantee is armed with the region that it has. -/
theorem armGrant_holding {s : State} {n : Nat} (hn : n < 16) (hsized : s.sized = true) (hwant : (s.stn n).want = true)
    (hheld : max 1 (max (s.guarOf n) (((s.env? n).map Env.tilesMin).getD 0)) ≤ s.effHeld n) :
    ∃ t, exec (.armGrant n) s = .next t ∧ (t.stn n).trigEn = true ∧ (t.stn n).want = false ∧ (t.stn n).tiles = (s.stn n).tiles ∧
      t.reg (Reg.convoyTseq n) = 0 ∧ (s.armed n = false → (t.ref n).hwm = (s.ref n).pos) ∧ (∀ k, k ≠ n → t.stn k = s.stn k) ∧
      State.onlyRegs [Reg.convoyTseq n] s { t with stations := s.stations, refs := s.refs, groups := s.groups } := by
  have hnone : s.begin_.lacksTiles n = 0 := by
    have : s.guarOf n - s.effHeld n = 0 := by omega
    exact this
  have hleast : s.begin_.leastTiles n ≤ s.begin_.effHeld n + s.begin_.lacksTiles n := by
    have : max 1 (((s.env? n).map Env.tilesMin).getD 0) ≤ s.effHeld n + s.begin_.lacksTiles n := by omega
    exact this
  have heq := armGrant_enough (s := s.begin_) hwant hleast (by omega)
  rw [hnone] at heq
  have heq : armGrant n s.begin_ = becomeArmed n s.begin_ := heq
  obtain ⟨r, hstn⟩ := becomeArmed_stn (s := s.begin_) hsized hn
  obtain ⟨hzero, hkeep⟩ := becomeArmed_reg n s.begin_
  have hT : Touches { regs := true, evq := true, refs := true, stations := true, groups := true } s.begin_ (becomeArmed n s.begin_) :=
    (becomeArmed_touches n s.begin_).mono
  refine ⟨becomeArmed n s.begin_, by rw [← heq]; exact exec_armGrant s n, ?_, ?_, ?_, hzero, fun h => becomeArmed_hwm (s := s.begin_) hsized hn h,
    fun k hk => becomeArmed_stn_ne s.begin_ hk, hT.back_begin, kept_of_reg fun b hb _ => hkeep b fun h => hb (h ▸ List.mem_cons_self)⟩
  · rw [hstn]; rfl
  · rw [hstn]; rfl
  · rw [hstn]; rfl


/-- The region of a station that held no tile. -/
theorem armGrant_region {s : State} {n : Nat} (hn : n < 16) (hsized : s.sized = true) (hwant : (s.stn n).want = true)
    (htiles : (s.stn n).tiles = []) (hjoining : (s.stn n).joining = []) (hleast : s.leastTiles n ≤ s.guarOf n)
    (hfree : s.guarOf n ≤ s.freeTiles.length) :
    ∃ u r, exec (.armGrant n) s = .next (becomeArmed n u) ∧ Granted n (s.guarOf n) s.begin_ u ∧ (becomeArmed n u).stn n = (u.stn n).arm r ∧
      (s.pickTiles n (s.guarOf n)).length = s.guarOf n ∧ (s.pickTiles n (s.guarOf n)).Sublist (s.tilesFor n) := by
  have hnoTiles : s.begin_.effHeld n = 0 := by
    show s.effHeld n = 0
    unfold State.effHeld
    rw [htiles, hjoining]
    rfl
  have hlacks : s.begin_.lacksTiles n = s.guarOf n := by
    unfold State.lacksTiles
    rw [hnoTiles]
    rfl
  have hpos : s.guarOf n ≠ 0 := by unfold State.leastTiles at hleast; omega
  have henough : s.guarOf n ≤ (s.tilesFor n).length := hfree.trans (freeTiles_length_le s n)
  have heq := armGrant_enough (s := s.begin_) hwant (by rw [hnoTiles, hlacks, Nat.zero_add]; exact hleast) (by rw [hlacks]; exact henough)
  have hgrant : grantTiles n (s.begin_.lacksTiles n) s.begin_ = grantRegion n (s.guarOf n) s.begin_ := by
    rw [hlacks]
    unfold grantTiles
    rw [if_neg (by simpa using hpos), show (s.begin_.stn n).tiles = [] from htiles, show (s.begin_.stn n).joining = [] from hjoining]
    rfl
  obtain ⟨hlen, hsub⟩ := pickTiles_of_none hpos htiles hjoining henough
  have hgranted := grantRegion_granted (n := n) (k := s.guarOf n) (s := s.begin_) hsized hn hsub
  obtain ⟨r, hstn⟩ := becomeArmed_stn (hgranted.touches.sized hsized) hn
  refine ⟨_, r, ?_, hgranted, hstn, hlen, hsub⟩
  rw [exec_armGrant, heq, hgrant]

theorem gateTile_owner (off : Bool) (t : Tile) : (gateTile off t).owner = t.owner := by cases off <;> rfl
theorem gateTile_scrub (off : Bool) (t : Tile) : (gateTile off t).scrub = t.scrub := by cases off <;> rfl
theorem gateTile_gated (off : Bool) (t : Tile) : (gateTile off t).gated = off := by cases off <;> rfl

theorem granted_owner (holes : Bool) (n slot k : Nat) (t : Tile) : (t.granted holes n slot k).owner = some n := by cases holes <;> rfl
theorem granted_scrub (holes : Bool) (n slot k : Nat) (t : Tile) : (t.granted holes n slot k).scrub = (t.last != some n) := by
  cases holes <;> rfl

theorem mem_take_index {α : Type} {xs : List α} {m : Nat} {x : α} (h : x ∈ xs.take m) : ∃ i, i < m ∧ xs[i]? = some x := by
  obtain ⟨i, hi⟩ := List.getElem?_of_mem h
  rw [List.getElem?_take] at hi
  split at hi
  · exact ⟨i, ‹_›, hi⟩
  · exact absurd hi (by simp)

theorem mem_drop_index {α : Type} {xs : List α} {m : Nat} {x : α} (h : x ∈ xs.drop m) : ∃ i, m ≤ i ∧ xs[i]? = some x := by
  obtain ⟨i, hi⟩ := List.getElem?_of_mem h
  rw [List.getElem?_drop] at hi
  exact ⟨m + i, by omega, hi⟩

theorem armGrant_grants {s : State} {n : Nat} (hn : n < 16) (hsized : s.sized = true) (hwant : (s.stn n).want = true)
    (htiles : (s.stn n).tiles = []) (hjoining : (s.stn n).joining = []) (hleast : s.leastTiles n ≤ s.guarOf n)
    (hfree : s.guarOf n ≤ s.freeTiles.length) :
    ∃ t, exec (.armGrant n) s = .next t ∧ (t.stn n).tiles.length = s.guarOf n ∧ (t.stn n).tiles.Nodup ∧
      (∀ k ∈ (t.stn n).tiles, s.freeFor n k = true ∧ (t.tile k).owner = some n ∧
        ((t.tile k).scrub = true ↔ (s.tile k).last ≠ some n)) ∧
      (∀ k ∈ (t.stn n).tiles.take ((t.stn n).decTiles + (t.stn n).n), (t.tile k).gated = false) ∧
      (s.inFlight n = false → ∀ k ∈ (t.stn n).tiles.drop ((t.stn n).decTiles + (t.stn n).n), (t.tile k).gated = true) ∧
      (∀ k, k ∉ (t.stn n).tiles → { t.tile k with to_ := (s.tile k).to_, src := (s.tile k).src } = s.tile k) ∧
      (t.stn n).n = bestSize (s.slotsOf n) (s.guarOf n - (t.stn n).decTiles) ∧
      (t.stn n).trigEn = true ∧ (t.stn n).want = false ∧ t.reg (Reg.convoyTseq n) = 0 ∧ (∀ k, k ≠ n → t.stn k = s.stn k) ∧
      State.onlyRegs [Reg.convoyTseq n, Reg.khanLastMove] s
        { t with stations := s.stations, tiles := s.tiles, refs := s.refs, groups := s.groups } := by
  obtain ⟨u, r, hexec, ⟨⟨dec, hstn⟩, hothers, htile, hrest, htouch, hregs⟩, harm, hlen, hsub⟩ :=
    armGrant_region hn hsized hwant htiles hjoining hleast hfree
  obtain ⟨hzero, hkeep⟩ := becomeArmed_reg n u
  have hstnNe := fun k (hk : k ≠ n) => (becomeArmed_stn_ne u hk).trans (hothers k hk)
  have harmT := becomeArmed_touches n u
  have htileT : ∀ k, (becomeArmed n u).tile k = u.tile k := fun k => harmT.keeps fun v => v.tile k
  have hT : Touches { regs := true, evq := true, stations := true, tiles := true, refs := true, groups := true } s.begin_ (becomeArmed n u) :=
    harmT.after htouch.mono
  generalize becomeArmed n u = t at hexec harm hzero hkeep hstnNe htileT hT
  have hks : (t.stn n).tiles = s.pickTiles n (s.guarOf n) := by rw [harm, hstn]; rfl
  have hcut : (t.stn n).decTiles + (t.stn n).n = (u.stn n).decTiles + (u.stn n).n := by rw [harm]; rfl
  refine ⟨t, hexec, by rw [hks]; exact hlen, by rw [hks]; exact hsub.nodup (tilesFor_nodup s n), fun k hk => ?_, fun k hk => ?_,
    fun hidle k hk => ?_, fun k hk => ?_, ?_, by rw [harm]; rfl, by rw [harm]; rfl, hzero, hstnNe, hT.back_begin, kept_of_reg fun b hb he => ?_⟩
  · rw [hks] at hk
    obtain ⟨i, hi⟩ := List.getElem?_of_mem hk
    obtain ⟨x, y, off, hown, -, -⟩ := htile i k hi
    rw [htileT, hown, gateTile_owner, gateTile_scrub]
    refine ⟨(mem_tilesFor.1 (hsub.subset hk)).2, granted_owner _ _ _ _ _, ?_⟩
    rw [granted_scrub, bne_iff_ne]
    rfl
  · rw [hks, hcut] at hk
    obtain ⟨i, hlt, hi⟩ := mem_take_index hk
    obtain ⟨x, y, off, hown, hon, -⟩ := htile i k hi
    rw [htileT, hown, gateTile_gated, hon hlt]
  · rw [hks, hcut] at hk
    obtain ⟨i, hle, hi⟩ := mem_drop_index hk
    obtain ⟨x, y, off, hown, -, hoff⟩ := htile i k hi
    rw [htileT, hown, gateTile_gated, hoff hle hidle]
  · rw [hks] at hk
    obtain ⟨x, y, hsame⟩ := hrest k hk
    rw [htileT, hsame]
    rfl
  · rw [harm, hstn]
    show bestSize (s.slotsOf n) ((s.pickTiles n (s.guarOf n)).length - min dec (s.pickTiles n (s.guarOf n)).length) = _
    rw [hlen]
    show _ = bestSize (s.slotsOf n) (s.guarOf n - min dec (s.pickTiles n (s.guarOf n)).length)
    rw [hlen]
  · exact (hkeep b fun h => hb (by simp [h])).trans (hregs b (fun h => hb (by simp [h])) he)

/-- Settles O24: free tiles suffice, so the grant takes nothing from other stations, and each operation of it acts on one tile. -/
theorem armingAsksForTilesAndGetsThem : Obligations.ArmingAsksForTilesAndGetsThem := by
  unfold Obligations.ArmingAsksForTilesAndGetsThem
  refine ⟨fun s ini n hn hsized hboot htrig hwant => ⟨trigEnSet_domains s ini hn hboot htrig hwant,
      fun hon => trigEnSet_answers s ini hn hsized hboot htrig hwant hon⟩, fun s ini n h => ?_,
    fun s n hn hsized hwant htiles hjoining hleast hfree => armGrant_grants hn hsized hwant htiles hjoining hleast hfree,
    fun s n hn hsized hwant hheld => armGrant_holding hn hsized hwant hheld, fun s n hn hsized hwant hleast hfree => ?_, fun s n h => ?_⟩
  · have hexec : exec (.trigEnSet ini n) s = done s s.begin_ := by
      show done s (if n < 16 then trigEnSet n s.begin_ else s.begin_) = _
      rw [trigEnSet_waits (s := s.begin_) h, ite_self]
    rw [hexec]
    exact done_unchanged s
  · refine armGrant_arms hn hsized hwant ?_ (hfree.trans (freeTiles_length_le s n))
    unfold State.leastTiles State.lacksTiles
    omega
  · have hexec : exec (.armGrant n) s = done s s.begin_ := congrArg (done s) (armGrant_refused (s := s.begin_) h)
    rw [hexec]
    exact done_unchanged s

end Sys2Proof.Machine

/-! PROOFS. What moves of tiles and the end of bales leave: the blocks and the arming of every station (R343, R361, R373). -/

namespace Sys2Proof.Machine

-- One theorem after the other: many at once ask for too many threads.
set_option Elab.async false

/-- What the Khan's moves leave of a station: its blocks, and whether it triggers or waits for a grant. -/
def Stn.role (t : Stn) : Option Nat × Option Nat × Bool × Bool := (t.active, t.pend, t.trigEn, t.want)

/-- What names a bale. -/
def Bale.key (b : Bale) : Option Nat × Nat × Nat := (b.entry, b.id, b.stn)

/-- No station changes its role, and no bale is new. -/
structure Calm (s t : State) : Prop where
  /-- The roles. -/
  role : ∀ k, (t.stn k).role = (s.stn k).role
  /-- The bales. -/
  bales : ∀ b ∈ t.bales, ∃ c ∈ s.bales, c.key = b.key

theorem Calm.refl (s : State) : Calm s s := ⟨fun _ => rfl, fun b hb => ⟨b, hb, rfl⟩⟩

theorem Calm.trans {s t u : State} (h : Calm s t) (g : Calm t u) : Calm s u := by
  refine ⟨fun k => (g.role k).trans (h.role k), fun b hb => ?_⟩
  obtain ⟨c, hc, hcb⟩ := g.bales b hb
  obtain ⟨d, hd, hdc⟩ := h.bales c hc
  exact ⟨d, hd, hdc.trans hcb⟩

/-- One operation after calm ones. -/
theorem Calm.after {s t u : State} (g : Calm t u) (h : Calm s t) : Calm s u := h.trans g

theorem Calm.of_same {s t : State} (hs : t.stations = s.stations) (hb : t.bales = s.bales) : Calm s t := by
  refine ⟨fun k => ?_, fun b hbt => ⟨b, hb ▸ hbt, rfl⟩⟩
  rw [State.stn, hs]
  rfl

theorem Touches.calm {m : Parts} {s t : State} (h : Touches m s t) (hm : (m.stations || m.bales) = false := by rfl) : Calm s t := by
  rw [Bool.or_eq_false_iff] at hm
  have hs := congrArg State.stations h.same
  have hb := congrArg State.bales h.same
  simp only [State.take, hm.1, hm.2, cond_false] at hs hb
  exact Calm.of_same hs.symm hb.symm

theorem Calm.ite {s t u : State} {c : Prop} [Decidable c] (h : c → Calm s t) (g : ¬ c → Calm s u) : Calm s (if c then t else u) := by
  split
  · exact h ‹_›
  · exact g ‹_›

theorem Calm.foldl {α : Type} {op : State → α → State} (hop : ∀ u x, Calm u (op u x)) (xs : List α) (s : State) :
    Calm s (xs.foldl op s) := by
  induction xs generalizing s with
  | nil => exact Calm.refl s
  | cons x r ih => exact (hop s x).trans (ih _)

theorem getD_role_map {f : Stn → Stn} (hf : ∀ t, (f t).role = t.role) (ns : List Stn) (k : Nat) :
    ((ns.map f).getD k Stn.none).role = (ns.getD k Stn.none).role := by
  by_cases hk : k < ns.length
  · rw [List.getD_eq_getElem _ _ (by simpa using hk), List.getD_eq_getElem _ _ hk, List.getElem_map, hf]
  · rw [List.getD_eq_default _ _ (by simpa using hk), List.getD_eq_default _ _ (by simpa using hk)]

theorem Calm.setStn (s : State) (n : Nat) {f : Stn → Stn} (hf : ∀ t, (f t).role = t.role := by exact fun _ => rfl) :
    Calm s (s.setStn n f) := by
  refine ⟨fun k => ?_, fun b hb => ⟨b, hb, rfl⟩⟩
  by_cases hk : k = n
  · subst hk
    by_cases hlen : k < s.stations.length
    · rw [stn_setStn_same f hlen, hf]
    · have hout : (s.setStn k f).stations.length ≤ k := by simp [State.setStn, modAt]; omega
      rw [State.stn, State.stn, List.getD_eq_default _ _ hout, List.getD_eq_default _ _ (by omega)]
  · rw [stn_setStn_ne s f hk]

/-! ## Moves of tiles -/

theorem switchSpare_calm (r : Retire) (s : State) : Calm s (switchSpare r s) := by
  unfold switchSpare
  split
  · exact Calm.refl s
  · next j _ =>
    dsimp only
    refine (raise_touches _ _).calm.after ?_
    have hswap : ∀ u : State, Calm u { u with
        stations := u.stations.map fun (n : Stn) => { n with tiles := n.tiles.map fun k => if k == r.tile then j else k }
        bales := u.bales.map fun (b : Bale) => if u.stripesEnded b then b else { b with tiles := b.tiles.map fun k => if k == r.tile then j else k } } := by
      intro u
      refine ⟨fun k => getD_role_map (f := fun n => { n with tiles := n.tiles.map fun k => if k == r.tile then j else k }) (fun _ => rfl)
        u.stations k, fun b hb => ?_⟩
      obtain ⟨c, hc, rfl⟩ := List.mem_map.1 hb
      refine ⟨c, hc, ?_⟩
      split <;> rfl
    refine (hswap _).after ?_
    refine (stopBorrow_touches _ _).calm.after ?_
    refine (State.setTile_touches _ _ _).calm.after ?_
    refine (State.setTile_touches _ _ _).calm.after ?_
    exact Calm.of_same rfl rfl

/-- One tile of a sweep. -/
def sweepOne (n : Nat) (s : State) (k : Nat) : State :=
  let s := if (s.tile k).owner == some n then settleUnbacked k s else s
  let t := s.tile k
  if t.owner == some n && t.work.isNone && !(s.stn n).tiles.contains k && !(s.stn n).joining.contains k &&
      !((s.balesOf n).any fun b => s.placedOn b k) then
    let s := freeTile k s
    let s := match s.retiring.find? fun r => r.tile == k && 3 ≤ r.step with
      | some r => switchSpare r s
      | none => s
    if (s.stn n).leaving.contains k then
      let s := s.setStn n fun x => { x with leaving := x.leaving.filter (· != k) }
      if t.to_.isNone then khanMoved none (some n) k s else s.setTile k fun t => { t with src := some n }
    else s
  else s

theorem sweepTiles_eq (n : Nat) (s : State) : sweepTiles n s = (List.range 72).foldl (sweepOne n) s := rfl

theorem sweepOne_calm (n : Nat) (s : State) (k : Nat) : Calm s (sweepOne n s k) := by
  unfold sweepOne
  dsimp only
  have hunback : Calm s (if (s.tile k).owner == some n then settleUnbacked k s else s) :=
    Calm.ite (fun _ => (settleUnbacked_touches k s).calm) fun _ => Calm.refl s
  generalize (if (s.tile k).owner == some n then settleUnbacked k s else s) = v at hunback
  refine Calm.ite (fun _ => ?_) fun _ => hunback
  have hfree : Calm s (freeTile k v) := (freeTile_touches k v).calm.after hunback
  have hlast : ∀ w, Calm s w → Calm s (if (w.stn n).leaving.contains k then
      if (v.tile k).to_.isNone then khanMoved none (some n) k (w.setStn n fun x => { x with leaving := x.leaving.filter (· != k) })
      else (w.setStn n fun x => { x with leaving := x.leaving.filter (· != k) }).setTile k fun t => { t with src := some n }
      else w) := fun w hw => by
    have hleave : Calm s (w.setStn n fun x => { x with leaving := x.leaving.filter (· != k) }) := (Calm.setStn w n).after hw
    exact Calm.ite (fun _ => Calm.ite (fun _ => (khanMoved_touches _ _ _ _).calm.after hleave) fun _ =>
      (State.setTile_touches _ _ _).calm.after hleave) fun _ => hw
  split
  · exact hlast _ ((switchSpare_calm _ _).after hfree)
  · exact hlast _ hfree

theorem sweepTiles_calm (n : Nat) (s : State) : Calm s (sweepTiles n s) := Calm.foldl (sweepOne_calm n) _ s

theorem reshape_calm (n : Nat) (s : State) : Calm s (reshape n s) :=
  (gateSurplus_touches n _).calm.after (Calm.setStn s n)

theorem regionChange_calm (n : Nat) (boundary : Bool) (s : State) : Calm s (regionChange n boundary s) := by
  unfold regionChange
  dsimp only
  refine (sweepTiles_calm n _).after ?_
  refine (reshape_calm n _).after ?_
  refine Calm.after (Calm.foldl (fun u k => ?_) _ _) (Calm.setStn s n)
  exact (State.setTile_touches _ _ _).calm.after (khanMoved_touches _ _ k u).calm

theorem regionSettle_calm (n : Nat) (s : State) : Calm s (regionSettle n s) :=
  Calm.ite (fun _ => Calm.refl s) fun _ => regionChange_calm n false s

theorem giveTile_calm (n : Nat) (dest : Option Nat) (s : State) : Calm s (giveTile n dest s) := by
  have hmoved : Calm s (s.setStn n fun t => { t with moved := true }) := Calm.setStn s n
  unfold giveTile
  dsimp only
  generalize (s.setStn n fun t => { t with moved := true }) = u at hmoved ⊢
  split
  · refine (State.setTile_touches _ _ _).calm.after ?_
    refine (freeTile_touches _ _).calm.after ?_
    exact (Calm.setStn u n).after hmoved
  · split
    · refine (regionSettle_calm n _).after ?_
      refine (Calm.setStn _ n).after ?_
      exact (State.setTile_touches u _ _).calm.after hmoved
    · exact hmoved

theorem secure_calm (n fuel want : Nat) (s : State) : Calm s (secure n fuel want s).2 := by
  induction fuel generalizing want s with
  | zero => exact Calm.refl s
  | succ fuel ih =>
    unfold secure
    split
    · exact Calm.refl s
    · split
      · exact (ih _ _).after (giveTile_calm _ _ s)
      · dsimp only
        generalize (if s.tileLoss then s.floorStn n else n) = v
        split
        · exact ih _ _
        · exact (ih _ _).after (giveTile_calm _ _ s)

theorem grantJoin_calm (n : Nat) (ks : List Nat) (s : State) : Calm s (grantJoin n ks s) := by
  unfold grantJoin
  dsimp only
  refine (regionSettle_calm n _).after ?_
  refine (Calm.setStn _ n).after ?_
  refine (dropTaken_touches n _).calm.after ?_
  exact Calm.foldl (fun u p => (grantTile_touches n _ _ u).calm) _ s

theorem grantRegion_calm (n k : Nat) (s : State) : Calm s (grantRegion n k s) := by
  rw [grantRegion_eq]
  refine (reshape_calm n _).after ?_
  refine (Calm.setStn _ n).after ?_
  refine (dropTaken_touches n _).calm.after ?_
  exact (grantOnes_touches n _ s).calm

theorem grantTiles_calm (n k : Nat) (s : State) : Calm s (grantTiles n k s) :=
  Calm.ite (fun _ => Calm.refl s) fun _ => Calm.ite (fun _ => grantRegion_calm n k s) fun _ => grantJoin_calm n _ s

theorem restore_calm (n : Nat) (s : State) : Calm s (restore n s) :=
  Calm.ite (fun _ => Calm.refl s) fun _ =>
    Calm.ite (fun _ => (grantTiles_calm _ _ _).after (secure_calm _ _ _ s)) fun _ => secure_calm _ _ _ s

theorem restoreAll_calm (s : State) : Calm s (restoreAll s) :=
  Calm.foldl (fun u n => Calm.ite (fun _ => restore_calm n u) fun _ => Calm.refl u) _ s

theorem cancelGrants_calm (n : Nat) (s : State) : Calm s (cancelGrants n s) := by
  unfold cancelGrants
  dsimp only
  refine (dropTaken_touches n _).calm.after ?_
  refine Calm.after (Calm.foldl (fun u k => ?_) _ _) (Calm.setStn s n)
  exact (State.setTile_touches _ _ _).calm.after (freeTile_touches k u).calm

theorem releaseRegion_calm (n : Nat) (s : State) : Calm s (releaseRegion n s) :=
  Calm.ite (fun _ => Calm.refl s) fun _ => (sweepTiles_calm n _).after (Calm.setStn s n)

/-! ## The end of a bale -/

theorem refreshDec_calm (n k : Nat) (s : State) : Calm s (refreshDec n k s) := (refreshDec_touches n k s).calm

theorem passTurn_calm (n : Nat) (s : State) : Calm s (passTurn n s) := by
  unfold passTurn
  dsimp only
  refine (refreshDec_calm n 1 _).after ?_
  refine (refreshDec_calm n 0 _).after ?_
  exact (Calm.setStn _ n).after (Calm.setStn s n)

theorem settleTurn_calm (n : Nat) (s : State) : Calm s (settleTurn n s) :=
  Calm.ite (fun _ => (refreshDec_calm n 1 _).after (refreshDec_calm n 0 s)) fun _ => passTurn_calm n s

theorem dropWork_calm (id : Nat) (s : State) : Calm s (dropWork id s) := by
  unfold dropWork
  dsimp only
  refine Calm.after (Calm.foldl (fun u d => settleTurn_calm _ u) _ _) ?_
  exact Calm.of_same rfl rfl

/-- The bales of a state, without that of number `id`. -/
theorem filterBales_calm (id : Nat) (cs : List Cam) (s : State) :
    Calm s { s with bales := s.bales.filter fun x => x.id != id, cams := cs } :=
  ⟨fun _ => rfl, fun b hb => ⟨b, (List.mem_filter.1 hb).1, rfl⟩⟩

/-- What the end of a bale does once its own work is dropped. -/
def afterDrop (n : Nat) (s : State) : State := restoreAll (releaseRegion n (sweepTiles n (regionSettle n (sweepBlocks s))))

theorem afterDrop_calm (n : Nat) (s : State) : Calm s (afterDrop n s) := by
  refine (restoreAll_calm _).after ?_
  refine (releaseRegion_calm n _).after ?_
  refine (sweepTiles_calm n _).after ?_
  refine (regionSettle_calm n _).after ?_
  exact (sweepBlocks_touches s).calm

/-- A bale ends: it leaves the state before anything else happens. -/
theorem releaseOne_eq {id : Nat} {s : State} {b : Bale} (h : s.bale? id = some b) : ∃ cs, ∃ u, Calm
    { s with bales := s.bales.filter fun x => x.id != id, cams := cs } u ∧ releaseOne id s = afterDrop b.stn u := by
  unfold releaseOne
  rw [h]
  dsimp only
  refine ⟨s.cams.map fun (c : Cam) => { c with delayed := c.delayed.filter fun p => p.1 != id }, _, ?_, rfl⟩
  have hdrop := dropWork_calm id { s with
    bales := s.bales.filter fun x => x.id != id
    cams := s.cams.map fun (c : Cam) => { c with delayed := c.delayed.filter fun p => p.1 != id } }
  generalize dropWork id { s with
    bales := s.bales.filter fun x => x.id != id
    cams := s.cams.map fun (c : Cam) => { c with delayed := c.delayed.filter fun p => p.1 != id } } = v at hdrop
  split
  · exact Calm.ite (fun _ => hdrop.trans (Calm.of_same rfl rfl)) fun _ => hdrop
  · exact hdrop

theorem releaseOne_calm (id : Nat) (s : State) : Calm s (releaseOne id s) := by
  cases h : s.bale? id with
  | none =>
    unfold releaseOne
    rw [h]
    exact Calm.refl s
  | some b =>
    obtain ⟨cs, u, hu, heq⟩ := releaseOne_eq h
    rw [heq]
    exact (afterDrop_calm _ u).after (hu.after (filterBales_calm id cs s))

theorem releaseBale_eq (id : Nat) (s : State) : ∃ xs : List Bale, releaseBale id s =
    xs.foldl (fun s x => refuseBale x.stn (releaseOne x.id s)) (releaseOne id s) := ⟨_, rfl⟩

theorem releaseCopies_calm (xs : List Bale) (s : State) : Calm s (xs.foldl (fun s x => refuseBale x.stn (releaseOne x.id s)) s) :=
  Calm.foldl (fun u x => (refuseBale_touches _ _).calm.after (releaseOne_calm _ u)) xs s

theorem releaseBale_calm (id : Nat) (s : State) : Calm s (releaseBale id s) := by
  obtain ⟨xs, heq⟩ := releaseBale_eq id s
  rw [heq]
  exact (releaseCopies_calm xs _).after (releaseOne_calm id s)

/-- The bale is gone after its end. -/
theorem releaseBale_gone {id : Nat} {s : State} {b : Bale} (h : s.bale? id = some b) : ∀ c ∈ (releaseBale id s).bales, c.id ≠ id := by
  obtain ⟨xs, heq⟩ := releaseBale_eq id s
  obtain ⟨cs, u, hu, hone⟩ := releaseOne_eq h
  have hcalm : Calm { s with bales := s.bales.filter fun x => x.id != id, cams := cs } (releaseBale id s) := by
    rw [heq, hone]
    exact (releaseCopies_calm xs _).after ((afterDrop_calm _ u).after hu)
  intro c hc
  obtain ⟨d, hd, hkey⟩ := hcalm.bales c hc
  have hne := (List.mem_filter.1 hd).2
  have hid : d.id = c.id := congrArg (fun k : Option Nat × Nat × Nat => k.2.1) hkey
  rw [← hid]
  simpa using hne

end Sys2Proof.Machine

/-! PROOFS. Tiles that leave their holder, and TRIG_EN_CLEAR (R50, R128, R339, R388, R1085). -/

namespace Sys2Proof.Machine

-- One theorem after the other: many at once ask for too many threads.
set_option Elab.async false

/-! ## Tiles without an owner -/

/-- A tile that has lost its owner, or kept owner and work. -/
def Tile.freedOf (t u : Tile) : Prop := u.owner = none ∨ u.owner = t.owner ∧ u.work = t.work

theorem Tile.freedOf_refl (t : Tile) : t.freedOf t := .inr ⟨rfl, rfl⟩

/-- No tile gets an owner or work. -/
def Frees (s t : State) : Prop := ∀ k, (s.tile k).freedOf (t.tile k)

theorem Frees.refl (s : State) : Frees s s := fun k => (s.tile k).freedOf_refl

theorem Frees.after {s t u : State} (g : Frees t u) (h : Frees s t) : Frees s u := fun k => by
  rcases g k with hg | ⟨ho, hw⟩
  · exact .inl hg
  · rcases h k with hh | ⟨ho', hw'⟩
    · exact .inl (ho.trans hh)
    · exact .inr ⟨ho.trans ho', hw.trans hw'⟩

theorem Frees.of_tiles {s t : State} (h : t.tiles = s.tiles) : Frees s t := fun k => by
  rw [State.tile, State.tile, h]
  exact Tile.freedOf_refl _

theorem Touches.frees {m : Parts} {s t : State} (h : Touches m s t) (hm : m.tiles = false := by rfl) : Frees s t := by
  have ht := congrArg State.tiles h.same
  simp only [State.take, hm, cond_false] at ht
  exact Frees.of_tiles ht.symm

theorem Frees.ite {s t u : State} {c : Prop} [Decidable c] (h : c → Frees s t) (g : ¬ c → Frees s u) : Frees s (if c then t else u) := by
  split
  · exact h ‹_›
  · exact g ‹_›

theorem Frees.foldl {α : Type} {op : State → α → State} (hop : ∀ u x, Frees u (op u x)) (xs : List α) (s : State) :
    Frees s (xs.foldl op s) := by
  induction xs generalizing s with
  | nil => exact Frees.refl s
  | cons x r ih => exact (ih _).after (hop s x)

theorem Frees.setTile {s : State} {k : Nat} {f : Tile → Tile} (hf : (s.tile k).freedOf (f (s.tile k))) : Frees s (s.setTile k f) := fun j => by
  rw [tile_setTile]
  split
  · next h => rw [h.1]; exact hf
  · exact Tile.freedOf_refl _

theorem Frees.ownerless {s t : State} (h : Frees s t) {k : Nat} (hk : (s.tile k).owner = none) : (t.tile k).owner = none := by
  rcases h k with h | ⟨h, -⟩
  · exact h
  · exact h.trans hk

theorem stopBorrow_frees (k : Nat) (s : State) : Frees s (stopBorrow k s) :=
  Frees.ite (fun _ => (Frees.setTile (.inr ⟨rfl, rfl⟩)).after (Frees.of_tiles rfl)) fun _ => Frees.refl s

theorem settleUnbacked_frees (k : Nat) (s : State) : Frees s (settleUnbacked k s) :=
  Frees.ite (fun _ => (stopBorrow_frees k _).after (Frees.setTile (.inr ⟨rfl, rfl⟩))) fun _ => Frees.refl s

theorem freeTile_frees (k : Nat) (s : State) : Frees s (freeTile k s) := by
  unfold freeTile
  dsimp only
  have hborrow : Frees s (if ((s.tile k).st == tileRetiring && (s.tile k).lx == 15) = true then stopBorrow k s else s) :=
    Frees.ite (fun _ => stopBorrow_frees k s) fun _ => Frees.refl s
  generalize (if ((s.tile k).st == tileRetiring && (s.tile k).lx == 15) = true then stopBorrow k s else s) = u at hborrow
  refine (Frees.setTile (.inl ?_)).after hborrow
  split
  · rfl
  · split <;> rfl

theorem freeTile_owner (k : Nat) (s : State) : ((freeTile k s).tile k).owner = none := by
  unfold freeTile
  dsimp only
  generalize (if ((s.tile k).st == tileRetiring && (s.tile k).lx == 15) = true then stopBorrow k s else s) = u
  rw [tile_setTile]
  split
  · split
    · rfl
    · split <;> rfl
  · next h =>
    have hlen : u.tiles.length ≤ k := by simpa using h
    rw [State.tile, List.getD_eq_default _ _ hlen]
    rfl

theorem switchSpare_frees {r : Retire} {s : State} (h : (s.tile r.tile).owner = none) : Frees s (switchSpare r s) := by
  unfold switchSpare
  split
  · exact Frees.refl s
  · next j _ =>
    dsimp only
    rw [h]
    refine (raise_touches _ _).frees.after ?_
    refine Frees.after (Frees.of_tiles rfl) ?_
    refine (stopBorrow_frees _ _).after ?_
    refine Frees.after (Frees.setTile (.inl rfl)) ?_
    refine Frees.after (Frees.setTile (.inl rfl)) ?_
    exact Frees.of_tiles rfl

/-- What follows when tile `k` has left station `n`: a retirement that waits for it switches, and a release is complete. -/
def leaveTile (n k : Nat) (to_ : Option Nat) (s : State) : State :=
  let s := match s.retiring.find? fun r => r.tile == k && 3 ≤ r.step with
    | some r => switchSpare r s
    | none => s
  if (s.stn n).leaving.contains k then
    let s := s.setStn n fun x => { x with leaving := x.leaving.filter (· != k) }
    if to_.isNone then khanMoved none (some n) k s else s.setTile k fun t => { t with src := some n }
  else s

theorem leaveTile_frees {n k : Nat} {to_ : Option Nat} {s : State} (h : (s.tile k).owner = none) : Frees s (leaveTile n k to_ s) := by
  have hlast : ∀ w, Frees s w → Frees s (if (w.stn n).leaving.contains k then
      if to_.isNone then khanMoved none (some n) k (w.setStn n fun x => { x with leaving := x.leaving.filter (· != k) })
      else (w.setStn n fun x => { x with leaving := x.leaving.filter (· != k) }).setTile k fun t => { t with src := some n }
      else w) := fun w hw => by
    have hleave : Frees s (w.setStn n fun x => { x with leaving := x.leaving.filter (· != k) }) := (Frees.of_tiles rfl).after hw
    exact Frees.ite (fun _ => Frees.ite (fun _ => (khanMoved_touches _ _ _ _).frees.after hleave) fun _ =>
      (Frees.setTile (.inr ⟨rfl, rfl⟩)).after hleave) fun _ => hw
  unfold leaveTile
  dsimp only
  split
  · next r hr =>
    have htile : r.tile = k := by
      have := List.find?_some hr
      simp only [Bool.and_eq_true, beq_iff_eq] at this
      exact this.1
    exact hlast _ (switchSpare_frees (by rw [htile]; exact h))
  · exact hlast _ (Frees.refl s)

/-- The tile leaves station `n` in a sweep. -/
def State.sweeps (s : State) (n k : Nat) : Bool :=
  (s.tile k).owner == some n && (s.tile k).work.isNone && !(s.stn n).tiles.contains k && !(s.stn n).joining.contains k &&
    !((s.balesOf n).any fun b => s.placedOn b k)

/-- An UNBACKED tile of the station settles first. -/
def unbackOwn (n k : Nat) (s : State) : State := if (s.tile k).owner == some n then settleUnbacked k s else s

theorem sweepOne_eq (n : Nat) (s : State) (k : Nat) : sweepOne n s k =
    if (unbackOwn n k s).sweeps n k then leaveTile n k ((unbackOwn n k s).tile k).to_ (freeTile k (unbackOwn n k s)) else unbackOwn n k s := rfl

theorem unbackOwn_frees (n k : Nat) (s : State) : Frees s (unbackOwn n k s) :=
  Frees.ite (fun _ => settleUnbacked_frees k s) fun _ => Frees.refl s

theorem unbackOwn_touches (n k : Nat) (s : State) : Touches { regs := true, tiles := true, lenders := true } s (unbackOwn n k s) :=
  Touches.ite (fun _ => settleUnbacked_touches k s) fun _ => Touches.refl

theorem sweepOne_frees (n : Nat) (s : State) (k : Nat) : Frees s (sweepOne n s k) := by
  rw [sweepOne_eq]
  refine Frees.ite (fun _ => ?_) fun _ => unbackOwn_frees n k s
  exact (leaveTile_frees (freeTile_owner k _)).after ((freeTile_frees k _).after (unbackOwn_frees n k s))

theorem sweepTiles_frees (n : Nat) (s : State) : Frees s (sweepTiles n s) := Frees.foldl (sweepOne_frees n) _ s

/-! ## A station that has given up its region -/

/-- The station has no region and no bale. -/
structure Vacant (n : Nat) (s : State) : Prop where
  /-- No tiles. -/
  tiles : (s.stn n).tiles = []
  /-- None that join. -/
  joining : (s.stn n).joining = []
  /-- No bale. -/
  bales : s.balesOf n = []

theorem Calm.balesOf {s t : State} (h : Calm s t) {n : Nat} (hs : s.balesOf n = []) : t.balesOf n = [] := by
  unfold State.balesOf at hs ⊢
  rw [List.filter_eq_nil_iff] at hs ⊢
  intro b hb
  obtain ⟨c, hc, hkey⟩ := h.bales b hb
  have hstn : c.stn = b.stn := congrArg (fun k : Option Nat × Nat × Nat => k.2.2) hkey
  rw [← hstn]
  exact hs c hc

theorem Vacant.of_stn {n : Nat} {s t : State} (h : Vacant n s) (hcalm : Calm s t) (hstn : t.stn n = s.stn n) : Vacant n t :=
  ⟨by rw [hstn]; exact h.tiles, by rw [hstn]; exact h.joining, hcalm.balesOf h.bales⟩

theorem switchSpare_vacant {n : Nat} (r : Retire) {s : State} (h : Vacant n s) : Vacant n (switchSpare r s) := by
  have hcalm := switchSpare_calm r s
  have hstn : ((switchSpare r s).stn n).tiles = [] ∧ ((switchSpare r s).stn n).joining = [] := by
    unfold switchSpare
    split
    · exact ⟨h.tiles, h.joining⟩
    · next j _ =>
      dsimp only
      have hmap : ∀ ns : List Stn, (ns.getD n Stn.none).tiles = [] → (ns.getD n Stn.none).joining = [] →
          ((ns.map fun (x : Stn) => { x with tiles := x.tiles.map fun k => if k == r.tile then j else k }).getD n Stn.none).tiles = [] ∧
          ((ns.map fun (x : Stn) => { x with tiles := x.tiles.map fun k => if k == r.tile then j else k }).getD n Stn.none).joining = [] := by
        intro ns ht hj
        by_cases hn : n < ns.length
        · rw [List.getD_eq_getElem _ _ hn] at ht hj
          rw [List.getD_eq_getElem _ _ (by simpa using hn), List.getElem_map]
          exact ⟨by simp [ht], hj⟩
        · rw [List.getD_eq_default _ _ (by simpa using hn)]
          exact ⟨rfl, rfl⟩
      have hraise := fun (e : Nat) (u : State) => (raise_touches e u).keeps fun v => v.stn n
      rw [hraise]
      refine hmap _ ?_ ?_
      · rw [(stopBorrow_touches _ _).keeps State.stations]
        exact h.tiles
      · rw [(stopBorrow_touches _ _).keeps State.stations]
        exact h.joining
  exact ⟨hstn.1, hstn.2, hcalm.balesOf h.bales⟩

theorem setStn_leaving_vacant {n k : Nat} {s : State} (h : Vacant n s) :
    Vacant n (s.setStn n fun x => { x with leaving := x.leaving.filter (· != k) }) := by
  by_cases hn : n < s.stations.length
  · have hstn := stn_setStn_same (s := s) (n := n) (fun x => { x with leaving := x.leaving.filter (· != k) }) hn
    exact ⟨by rw [hstn]; exact h.tiles, by rw [hstn]; exact h.joining, h.bales⟩
  · have hout : (s.setStn n fun x => { x with leaving := x.leaving.filter (· != k) }).stn n = Stn.none :=
      List.getD_eq_default _ _ (by simp [State.setStn, modAt]; omega)
    exact ⟨by rw [hout]; rfl, by rw [hout]; rfl, h.bales⟩

theorem leaveTile_vacant {n k : Nat} {to_ : Option Nat} {s : State} (h : Vacant n s) : Vacant n (leaveTile n k to_ s) := by
  have hlast : ∀ w, Vacant n w → Vacant n (if (w.stn n).leaving.contains k then
      if to_.isNone then khanMoved none (some n) k (w.setStn n fun x => { x with leaving := x.leaving.filter (· != k) })
      else (w.setStn n fun x => { x with leaving := x.leaving.filter (· != k) }).setTile k fun t => { t with src := some n }
      else w) := fun w hw => by
    have hleave := setStn_leaving_vacant (k := k) hw
    split
    · split
      · exact hleave.of_stn (khanMoved_touches _ _ _ _).calm ((khanMoved_touches _ _ _ _).keeps fun u => u.stn n)
      · exact hleave.of_stn (State.setTile_touches _ _ _).calm rfl
    · exact hw
  unfold leaveTile
  dsimp only
  split
  · exact hlast _ (switchSpare_vacant _ h)
  · exact hlast _ h

theorem sweepOne_vacant {n : Nat} {s : State} (h : Vacant n s) (k : Nat) : Vacant n (sweepOne n s k) := by
  have hunback : Vacant n (unbackOwn n k s) :=
    h.of_stn (unbackOwn_touches n k s).calm ((unbackOwn_touches n k s).keeps fun u => u.stn n)
  rw [sweepOne_eq]
  split
  · exact leaveTile_vacant (hunback.of_stn (freeTile_touches k _).calm ((freeTile_touches k _).keeps fun u => u.stn n))
  · exact hunback

/-- A tile of a vacant station without work loses its owner when the sweep comes to it. -/
theorem sweepOne_owner {n : Nat} {s : State} (h : Vacant n s) {k : Nat}
    (hk : (s.tile k).owner = none ∨ (s.tile k).owner = some n ∧ (s.tile k).work = none) : ((sweepOne n s k).tile k).owner = none := by
  have hunback : Vacant n (unbackOwn n k s) :=
    h.of_stn (unbackOwn_touches n k s).calm ((unbackOwn_touches n k s).keeps fun u => u.stn n)
  have hfrees := unbackOwn_frees n k s
  by_cases howner : ((unbackOwn n k s).tile k).owner = none
  · rw [sweepOne_eq]
    have hnot : (unbackOwn n k s).sweeps n k = false := by
      unfold State.sweeps
      rw [howner]
      rfl
    rw [hnot, if_neg Bool.false_ne_true]
    exact howner
  · obtain ⟨ho, hw⟩ := (hfrees k).resolve_left howner
    obtain ⟨hso, hsw⟩ := hk.resolve_left fun h => howner (ho.trans h)
    have hsweeps : (unbackOwn n k s).sweeps n k = true := by
      unfold State.sweeps
      rw [ho, hso, hw, hsw, hunback.tiles, hunback.joining, hunback.bales]
      simp
    rw [sweepOne_eq, hsweeps, if_pos rfl]
    exact (leaveTile_frees (freeTile_owner k _)).ownerless (freeTile_owner k _)

theorem sweepTiles_owner {n : Nat} {s : State} (h : Vacant n s) {k : Nat} (hlt : k < 72)
    (hk : (s.tile k).owner = none ∨ (s.tile k).owner = some n ∧ (s.tile k).work = none) : ((sweepTiles n s).tile k).owner = none := by
  rw [sweepTiles_eq]
  have hmem : k ∈ List.range 72 := List.mem_range.2 hlt
  generalize List.range 72 = xs at hmem
  induction xs generalizing s with
  | nil => exact absurd hmem (by simp)
  | cons x r ih =>
    rw [List.foldl_cons]
    by_cases hx : k = x
    · subst hx
      exact (Frees.foldl (sweepOne_frees n) r _).ownerless (sweepOne_owner h hk)
    · refine ih (sweepOne_vacant h x) ?_ ((List.mem_cons.1 hmem).resolve_left hx)
      rcases sweepOne_frees n s x k with hf | ⟨ho, hw⟩
      · exact .inl hf
      · rcases hk with hk | ⟨hk, hkw⟩
        · exact .inl (ho.trans hk)
        · exact .inr ⟨ho.trans hk, hw.trans hkw⟩

theorem sweepTiles_vacant {n : Nat} {s : State} (h : Vacant n s) : Vacant n (sweepTiles n s) := by
  rw [sweepTiles_eq]
  induction List.range 72 generalizing s with
  | nil => exact h
  | cons x r ih => exact ih (sweepOne_vacant h x)

end Sys2Proof.Machine

/-! PROOFS. TRIG_EN_CLEAR: a station that is armed still, one that waited, and one that is disarmed (R50, R128, R339, R388, R1085). -/

namespace Sys2Proof.Machine

-- One theorem after the other: many at once ask for too many threads.
set_option Elab.async false

/-! ## Grants that are cancelled (R388) -/

/-- One granted tile goes back. -/
def returnTile (s : State) (k : Nat) : State := (freeTile k s).setTile k fun t => { t with src := none }

theorem cancelGrants_eq (n : Nat) (s : State) : cancelGrants n s =
    dropTaken n ((s.stn n).joining.foldl returnTile (s.setStn n fun t => { t with joining := [] })) := rfl

theorem returnTile_touches (s : State) (k : Nat) : Touches { regs := true, tiles := true, lenders := true } s (returnTile s k) :=
  (State.setTile_touches _ k _).after (freeTile_touches k s)

theorem returnTile_frees (s : State) (k : Nat) : Frees s (returnTile s k) :=
  (Frees.setTile (.inr ⟨rfl, rfl⟩)).after (freeTile_frees k s)

theorem returnTile_owner (s : State) (k : Nat) : ((returnTile s k).tile k).owner = none :=
  Frees.ownerless (Frees.setTile (.inr ⟨rfl, rfl⟩)) (freeTile_owner k s)

theorem stopBorrow_tile_other {k j : Nat} (s : State) (hj : j ≠ k) : (stopBorrow k s).tile j = s.tile j := by
  unfold stopBorrow
  split
  · rw [tile_setTile, if_neg fun h => hj h.1]
    rfl
  · rfl

theorem freeTile_tile_other {k j : Nat} (s : State) (hj : j ≠ k) : (freeTile k s).tile j = s.tile j := by
  unfold freeTile
  dsimp only
  rw [tile_setTile, if_neg fun h => hj h.1]
  split
  · exact stopBorrow_tile_other s hj
  · rfl

theorem returnTile_tile_other {k j : Nat} (s : State) (hj : j ≠ k) : (returnTile s k).tile j = s.tile j := by
  unfold returnTile
  rw [tile_setTile, if_neg fun h => hj h.1]
  exact freeTile_tile_other s hj

theorem returnTiles_owner {ks : List Nat} {k : Nat} (hk : k ∈ ks) (s : State) : ((ks.foldl returnTile s).tile k).owner = none := by
  induction ks generalizing s with
  | nil => exact absurd hk (by simp)
  | cons x r ih =>
    rw [List.foldl_cons]
    by_cases hx : k = x
    · subst hx
      exact (Frees.foldl returnTile_frees r _).ownerless (returnTile_owner s k)
    · exact ih ((List.mem_cons.1 hk).resolve_left hx) _

/-- The registers of a tile that leaves: the Khan's last move, and the clocks borrowed. -/
abbrev moveRegs (b : Nat) : Prop := b ∈ Reg.khanLastMove :: (List.range 3).map Reg.meshBorrow

theorem stopBorrow_keepsRegs {s : State} (hsized : s.sized = true) (k : Nat) : KeepsRegs moveRegs s (stopBorrow k s) := by
  unfold stopBorrow
  split
  · next hborrowed =>
    have hlt : k < 72 := by
      by_contra hge
      have hout : s.tile k = Tile.off k := List.getD_eq_default _ _ (by rw [State.sized_tiles hsized]; omega)
      rw [hout] at hborrowed
      exact Bool.false_ne_true hborrowed
    have hreg : moveRegs (Reg.meshBorrow (k / 32)) :=
      List.mem_cons_of_mem _ (List.mem_map_of_mem (List.mem_range.2 (by omega)))
    intro b hb _
    exact State.reg_setFlag_ne { s with lenders := s.lenders.filter fun p => p.1 != k } (k % 32) false (fun h => hb (h ▸ hreg))
  · exact KeepsRegs.of_regs rfl

theorem returnTile_keepsRegs {s : State} (hsized : s.sized = true) (k : Nat) : KeepsRegs moveRegs s (returnTile s k) := by
  have hborrow : KeepsRegs moveRegs s (if (s.tile k).st == tileRetiring && (s.tile k).lx == 15 then stopBorrow k s else s) :=
    KeepsRegs.ite (fun _ => stopBorrow_keepsRegs hsized k) fun _ => KeepsRegs.of_regs rfl
  exact hborrow.trans (KeepsRegs.of_regs rfl)

theorem returnTiles_keepsRegs (ks : List Nat) {s : State} (hsized : s.sized = true) : KeepsRegs moveRegs s (ks.foldl returnTile s) := by
  induction ks generalizing s with
  | nil => exact KeepsRegs.of_regs rfl
  | cons k r ih => exact (returnTile_keepsRegs hsized k).trans (ih ((returnTile_touches s k).sized hsized))

theorem cancelGrants_keepsRegs (n : Nat) {s : State} (hsized : s.sized = true) : KeepsRegs moveRegs s (cancelGrants n s) := by
  rw [cancelGrants_eq]
  have hset : KeepsRegs moveRegs s (s.setStn n fun t => { t with joining := [] }) := KeepsRegs.of_regs rfl
  refine (hset.trans (returnTiles_keepsRegs (s.stn n).joining ((State.setStn_touches s n _).sized hsized))).trans ?_
  exact (dropTaken_keepsRegs n _).mono fun b hb => by rw [hb]; exact List.mem_cons_self

theorem cancelGrants_fine (n : Nat) (s : State) :
    Touches { regs := true, evq := true, tiles := true, stations := true, lenders := true } s (cancelGrants n s) := by
  rw [cancelGrants_eq]
  refine (dropTaken_touches n _).after ?_
  refine Touches.after (n := { regs := true, tiles := true, lenders := true }) (Touches.foldl returnTile_touches _ _) ?_
  exact (State.setStn_touches s n _).mono

theorem cancelGrants_stations (n : Nat) (s : State) : (cancelGrants n s).stations = (s.setStn n fun t => { t with joining := [] }).stations := by
  rw [cancelGrants_eq, (dropTaken_touches n _).keeps State.stations]
  exact (Touches.foldl returnTile_touches _ _).keeps State.stations

theorem cancelGrants_stn {n : Nat} {s : State} (hn : n < s.stations.length) : (cancelGrants n s).stn n = { s.stn n with joining := [] } := by
  unfold State.stn
  rw [cancelGrants_stations]
  exact stn_setStn_same (s := s) _ hn

theorem cancelGrants_stn_ne {n k : Nat} (s : State) (hk : k ≠ n) : (cancelGrants n s).stn k = s.stn k := by
  unfold State.stn
  rw [cancelGrants_stations]
  exact stn_setStn_ne s _ hk

theorem dropTaken_owner (n : Nat) (s : State) (k : Nat) : ((dropTaken n s).tile k).owner = (s.tile k).owner := by
  obtain ⟨x, y, h⟩ := dropTaken_tile n s k
  rw [h]

theorem dropTaken_frees (n : Nat) (s : State) : Frees s (dropTaken n s) := fun k => by
  obtain ⟨x, y, h⟩ := dropTaken_tile n s k
  rw [h]
  exact .inr ⟨rfl, rfl⟩

theorem cancelGrants_frees (n : Nat) (s : State) : Frees s (cancelGrants n s) := by
  rw [cancelGrants_eq]
  exact (dropTaken_frees n _).after ((Frees.foldl returnTile_frees _ _).after (Frees.of_tiles rfl))

theorem cancelGrants_owner (n : Nat) (s : State) :
    (∀ k ∈ (s.stn n).joining, ((cancelGrants n s).tile k).owner = none) ∧
    (∀ k, k ∉ (s.stn n).joining → ((cancelGrants n s).tile k).owner = (s.tile k).owner) := by
  refine ⟨fun k hk => ?_, fun k hk => ?_⟩
  · rw [cancelGrants_eq, dropTaken_owner]
    exact returnTiles_owner hk _
  · rw [cancelGrants_eq, dropTaken_owner, foldl_tile_other (op := returnTile) (at_ := id) (fun u p j hj => returnTile_tile_other u hj) (by simpa using hk)]
    rfl

/-! ## TRIG_EN_CLEAR of a station that stays armed, and of one that is not -/

/-- The station triggers no more and waits for no grant. -/
def stopTriggering (n : Nat) (s : State) : State := s.setStn n fun t => { t with trigEn := false, want := false }

theorem trigEnClear_eq (n : Nat) (s : State) : trigEnClear n s =
    settleArm n (s.armed n) (if s.armed n then stopTriggering n s else cancelGrants n (stopTriggering n s)) := rfl

theorem exec_trigEnClear {s : State} (ini : Nat) {n : Nat} (hn : n < 16) (hon : s.domOn domVerdict = true) :
    exec (.trigEnClear ini n) s = done s (trigEnClear n s.begin_) :=
  congrArg (done s) (ifOn_on (s := s.begin_) (trigEnClear n) hon (decide_eq_true hn))

theorem stopTriggering_stn {n : Nat} {s : State} (hn : n < s.stations.length) :
    (stopTriggering n s).stn n = { s.stn n with trigEn := false, want := false } := stn_setStn_same _ hn

theorem stopTriggering_stn_ne {n k : Nat} (s : State) (hk : k ≠ n) : (stopTriggering n s).stn k = s.stn k := stn_setStn_ne s _ hk

theorem armed_iff (s : State) (n : Nat) : s.armed n = true ↔ (s.stn n).trigEn = true ∨ ∃ m ∈ s.miles, m.stn = n ∧ m.live = true := by
  simp [State.armed, Mile.live]

theorem armed_of_miles {s t : State} {n : Nat} (htrig : (t.stn n).trigEn = false) (hmiles : t.miles = s.miles) :
    t.armed n = s.miles.any fun m => m.stn == n && (m.st == 1 || m.st == 2) := by
  rw [State.armed, htrig, hmiles]
  rfl

theorem trigEnClear_staysArmed {s : State} (ini : Nat) {n : Nat} (hn : n < 16) (hsized : s.sized = true) (hon : s.domOn domVerdict = true)
    (hlive : ∃ m ∈ s.miles, m.stn = n ∧ m.live = true) :
    ∃ t, exec (.trigEnClear ini n) s = .next t ∧ t.stn n = { s.stn n with trigEn := false, want := false } ∧
      (∀ k, k ≠ n → t.stn k = s.stn k) ∧ t.armed n = true ∧
      { t with stations := s.stations, out := s.out, phy := s.phy.still t.phy } = s := by
  have hwas : s.begin_.armed n = true := (armed_iff s.begin_ n).2 (.inr hlive)
  have hstays : (stopTriggering n s.begin_).armed n = true := (armed_iff _ n).2 (.inr hlive)
  have heq : trigEnClear n s.begin_ = stopTriggering n s.begin_ := by
    rw [trigEnClear_eq, hwas, if_pos rfl, settleArm, hstays]
    rfl
  have hT : Touches { stations := true } s.begin_ (stopTriggering n s.begin_) := State.setStn_touches _ _ _
  have hlen : n < s.begin_.stations.length := by rw [State.sized_stations (s := s.begin_) hsized]; exact hn
  exact ⟨stopTriggering n s.begin_, by rw [exec_trigEnClear ini hn hon, heq]; exact hT.done_eq, stopTriggering_stn hlen,
    fun k hk => stopTriggering_stn_ne s.begin_ hk, hstays, hT.back_begin⟩

theorem trigEnClear_unarmed {s : State} (ini : Nat) {n : Nat} (hn : n < 16) (hsized : s.sized = true) (hon : s.domOn domVerdict = true)
    (hidle : s.armed n = false) :
    ∃ t, exec (.trigEnClear ini n) s = .next t ∧ t.armed n = false ∧
      t.stn n = { s.stn n with trigEn := false, want := false, joining := [] } ∧ (∀ k, k ≠ n → t.stn k = s.stn k) ∧
      (∀ k ∈ (s.stn n).joining, k < 72 → (t.tile k).owner = none) ∧
      (∀ k, k ∉ (s.stn n).joining → (t.tile k).owner = (s.tile k).owner) ∧
      State.onlyRegs (Reg.khanLastMove :: (List.range 3).map Reg.meshBorrow) s
        { t with stations := s.stations, tiles := s.tiles, lenders := s.lenders } := by
  have hwas : s.begin_.armed n = false := hidle
  have heq : trigEnClear n s.begin_ = cancelGrants n (stopTriggering n s.begin_) := by
    rw [trigEnClear_eq, hwas]
    rfl
  have hlen : n < s.begin_.stations.length := by rw [State.sized_stations (s := s.begin_) hsized]; exact hn
  have hstopT : Touches { stations := true } s.begin_ (stopTriggering n s.begin_) := State.setStn_touches _ _ _
  have hstop := stopTriggering_stn hlen
  have hstopNe := fun k (hk : k ≠ n) => stopTriggering_stn_ne s.begin_ hk
  have hstopTile : ∀ k, (stopTriggering n s.begin_).tile k = s.tile k := fun _ => rfl
  have hstopRegs : (stopTriggering n s.begin_).regs = s.regs := rfl
  have hstopMiles : (stopTriggering n s.begin_).miles = s.miles := rfl
  generalize stopTriggering n s.begin_ = u at heq hstopT hstop hstopNe hstopTile hstopRegs hstopMiles
  have hcancelT := cancelGrants_fine n u
  have hT : Touches { regs := true, evq := true, tiles := true, stations := true, lenders := true } s.begin_ (cancelGrants n u) :=
    hcancelT.after hstopT.mono
  have hulen : n < u.stations.length := by rw [State.sized_stations (hstopT.sized hsized)]; exact hn
  have hstn := cancelGrants_stn hulen
  obtain ⟨hfreed, hkept⟩ := cancelGrants_owner n u
  have hjoin : (u.stn n).joining = (s.stn n).joining := by rw [hstop]; rfl
  have hstnNe := fun k (hk : k ≠ n) => (cancelGrants_stn_ne u hk).trans (hstopNe k hk)
  have hmiles : (cancelGrants n u).miles = s.miles := (hcancelT.keeps State.miles).trans hstopMiles
  have hregs := cancelGrants_keepsRegs n (hstopT.sized hsized)
  generalize cancelGrants n u = t at heq hT hstn hfreed hkept hstnNe hmiles hregs
  refine ⟨t, by rw [exec_trigEnClear ini hn hon, heq]; exact hT.done_eq, ?_, ?_, hstnNe, fun k hk _ => hfreed k (by rw [hjoin]; exact hk),
    fun k hk => (hkept k (by rw [hjoin]; exact hk)).trans (by rw [hstopTile]), hT.back_begin, ?_⟩
  · rw [armed_of_miles (by rw [hstn, hstop]) hmiles]
    unfold State.armed at hidle
    exact (Bool.or_eq_false_iff.1 hidle).2
  · rw [hstn, hstop]
    rfl
  · exact kept_of_reg fun b hb he => (hregs b hb he).trans (reg_congr hstopRegs b)

end Sys2Proof.Machine

/-! PROOFS. TRIG_EN_CLEAR of a station that is disarmed by it (R128, R339, R1085). -/

namespace Sys2Proof.Machine

-- One theorem after the other: many at once ask for too many threads.
set_option Elab.async false

/-! ## A block that switches in (R128, R441) -/

/-- The stations differ in whose turn it is among their sequences alone. -/
def TurnOnly (s t : State) : Prop := ∀ k, ∃ d, t.stn k = { s.stn k with dec := d }

theorem TurnOnly.of_stations {s t : State} (h : t.stations = s.stations) : TurnOnly s t := fun k =>
  ⟨(s.stn k).dec, by rw [State.stn, h]; rfl⟩

theorem TurnOnly.after {s t u : State} (g : TurnOnly t u) (h : TurnOnly s t) : TurnOnly s u := fun k => by
  obtain ⟨d, hd⟩ := h k
  obtain ⟨e, he⟩ := g k
  exact ⟨e, by rw [he, hd]⟩

theorem TurnOnly.foldl {α : Type} {op : State → α → State} (hop : ∀ u x, TurnOnly u (op u x)) (xs : List α) (s : State) :
    TurnOnly s (xs.foldl op s) := by
  induction xs generalizing s with
  | nil => exact TurnOnly.of_stations rfl
  | cons x r ih => exact (ih _).after (hop s x)

theorem setTurn_turnOnly (s : State) (n : Nat) (g : Stn → DecodeShare) : TurnOnly s (s.setStn n fun t => { t with dec := g t }) := fun k => by
  by_cases hk : k = n
  · subst hk
    by_cases hlen : k < s.stations.length
    · exact ⟨_, stn_setStn_same (s := s) _ hlen⟩
    · have hout : (s.setStn k fun t => { t with dec := g t }).stn k = s.stn k := by
        rw [State.stn, State.stn, List.getD_eq_default _ _ (by simp [State.setStn, modAt]; omega), List.getD_eq_default _ _ (by omega)]
      exact ⟨(s.stn k).dec, hout⟩
  · exact ⟨(s.stn k).dec, stn_setStn_ne s _ hk⟩

theorem refreshDec_turnOnly (n k : Nat) (s : State) : TurnOnly s (refreshDec n k s) :=
  TurnOnly.of_stations ((refreshDec_touches n k s).keeps State.stations)

theorem settleTurn_turnOnly (n : Nat) (s : State) : TurnOnly s (settleTurn n s) := by
  unfold settleTurn
  split
  · exact (refreshDec_turnOnly n 1 _).after (refreshDec_turnOnly n 0 s)
  · unfold passTurn
    dsimp only
    refine (refreshDec_turnOnly n 1 _).after ?_
    refine (refreshDec_turnOnly n 0 _).after ?_
    exact (setTurn_turnOnly _ n _).after (setTurn_turnOnly s n _)

theorem stopExplain_turnOnly (n k : Nat) (d : Dec) (s : State) : TurnOnly s (stopExplain n k d s) := by
  unfold stopExplain
  dsimp only
  refine (settleTurn_turnOnly n _).after ?_
  refine (TurnOnly.of_stations ((bump_touches _ _).keeps State.stations)).after ?_
  refine (TurnOnly.of_stations ((mbPut_touches _ _ _ _).keeps State.stations)).after ?_
  exact TurnOnly.of_stations rfl

theorem stopExplains_turnOnly (n : Nat) (s : State) : TurnOnly s (stopExplains n s) :=
  TurnOnly.foldl (fun u _ => stopExplain_turnOnly n _ _ u) _ s

theorem gateSurplus_frees (n : Nat) (s : State) : Frees s (gateSurplus n s) := by
  refine Frees.foldl (fun u p => Frees.ite (fun _ => Frees.setTile (.inr ?_)) fun _ => Frees.refl u) _ s
  unfold gateTile
  split <;> exact ⟨rfl, rfl⟩

theorem reshape_frees (n : Nat) (s : State) : Frees s (reshape n s) := (gateSurplus_frees n _).after (Frees.of_tiles rfl)

/-- A block that enters the station's place, as it stands after the explanations have stopped. -/
def enterBlock (n uid : Nat) (b : StnBlock) (s : State) : State :=
  raise (evStn n 6) (sweepBlocks (reshape n ((s.setStn n fun t =>
    { t with active := some uid, pend := if t.pend == some uid then none else t.pend, decTiles := min b.decTiles t.tiles.length }).setN
      (Reg.mflStnGen n) b.gen)))

theorem switchBlock_eq {n uid : Nat} {s : State} {b : StnBlock} (h : s.block? uid = some b) :
    switchBlock n uid s = enterBlock n uid b (stopExplains n (discardShadows n s)) := by
  unfold switchBlock
  rw [h]
  rfl

theorem enterBlock_touches (n uid : Nat) (b : StnBlock) (s : State) :
    Touches { regs := true, evq := true, tiles := true, stations := true, blocks := true } s (enterBlock n uid b s) := by
  refine (raise_touches _ _).after ?_
  refine (sweepBlocks_touches _).after ?_
  refine (reshape_touches n _).after ?_
  refine (State.setN_touches _ _ _).after ?_
  exact (State.setStn_touches _ n _).mono

theorem enterBlock_frees (n uid : Nat) (b : StnBlock) (s : State) : Frees s (enterBlock n uid b s) := by
  refine (raise_touches _ _).frees.after ?_
  refine (sweepBlocks_touches _).frees.after ?_
  refine (reshape_frees n _).after ?_
  exact Frees.of_tiles rfl

theorem enterBlock_stn {n uid : Nat} {b : StnBlock} {s : State} (hsized : s.sized = true) (hn : n < 16) :
    ∃ d m, (enterBlock n uid b s).stn n =
      { s.stn n with active := some uid, pend := if (s.stn n).pend == some uid then none else (s.stn n).pend, decTiles := d, n := m } := by
  have hset := stn_setStn_same (s := s) (n := n) (fun t =>
    { t with active := some uid, pend := if t.pend == some uid then none else t.pend, decTiles := min b.decTiles t.tiles.length })
    (by rw [State.sized_stations hsized]; exact hn)
  have hsetSized := (State.setStn_touches s n fun t =>
    { t with active := some uid, pend := if t.pend == some uid then none else t.pend, decTiles := min b.decTiles t.tiles.length }).sized hsized
  unfold enterBlock
  rw [(raise_touches _ _).keeps fun u => u.stn n, (sweepBlocks_touches _).keeps fun u => u.stn n]
  generalize (s.setStn n fun t =>
    { t with active := some uid, pend := if t.pend == some uid then none else t.pend, decTiles := min b.decTiles t.tiles.length }) = u
    at hset hsetSized
  rw [reshape_stn (s := u.setN (Reg.mflStnGen n) b.gen) hsetSized hn]
  rw [show (u.setN (Reg.mflStnGen n) b.gen).stn n = u.stn n from rfl, hset]
  exact ⟨_, _, rfl⟩

/-! ## The moment at which a station stops being armed -/

/-- What the pending block or the pending writes make of the state (R128, R1085). -/
def takeOver (n : Nat) (s : State) : State :=
  match (s.stn n).pend with
  | some u => switchBlock n u s
  | none => applyShadows n s

theorem disarmed_eq (n : Nat) (s : State) : disarmed n s = releaseRegion n (cancelGrants n (takeOver n s)) := rfl

/-- What the first step keeps of a station that is disarmed, and of the rest. -/
structure TakenOver (n : Nat) (s t : State) : Prop where
  /-- The region, and that the station neither triggers nor waits. -/
  stn : (t.stn n).tiles = (s.stn n).tiles ∧ (t.stn n).joining = (s.stn n).joining ∧ (t.stn n).trigEn = (s.stn n).trigEn ∧
    (t.stn n).want = (s.stn n).want
  /-- The bales. -/
  bales : t.bales = s.bales
  /-- Tiles keep owner and work. -/
  frees : Frees s t
  /-- Without a pending block the station's writes apply. -/
  writes : (s.stn n).pend = none → t.stations = s.stations ∧ t.shadow = s.shadow.filter fun w => w.own != some n
  /-- A pending block enters. -/
  block : ∀ o, (s.stn n).pend = some o → s.block? o ≠ none → (t.stn n).active = some o ∧ (t.stn n).pend = none
  /-- The parts. -/
  touches : Touches .switching s t

theorem applyShadows_shadow (n : Nat) (s : State) : (applyShadows n s).shadow = s.shadow.filter fun w => w.own != some n :=
  (Touches.foldl (m := { regs := true }) (fun u w => applyShadow_touches w u) _ _).keeps State.shadow

theorem takeOver_takenOver {n : Nat} {s : State} (hsized : s.sized = true) (hn : n < 16) : TakenOver n s (takeOver n s) := by
  have hT : Touches .switching s (takeOver n s) := by
    unfold takeOver
    split
    · exact switchBlock_touches n _ s
    · exact (applyShadows_touches n s).mono
  cases hpend : (s.stn n).pend with
  | none =>
    have heq : takeOver n s = applyShadows n s := by
      unfold takeOver
      rw [hpend]
    have hS := applyShadows_touches n s
    have hstn : (applyShadows n s).stn n = s.stn n := hS.keeps fun u => u.stn n
    refine ⟨?_, ?_, ?_, fun _ => ?_, fun o ho => ?_, hT⟩
    · rw [heq, hstn]
      exact ⟨rfl, rfl, rfl, rfl⟩
    · rw [heq]
      exact hS.keeps State.bales
    · rw [heq]
      exact hS.frees
    · rw [heq]
      exact ⟨hS.keeps State.stations, applyShadows_shadow n s⟩
    · exact absurd (hpend.symm.trans ho) (by simp)
  | some uid =>
    have heq : takeOver n s = switchBlock n uid s := by
      unfold takeOver
      rw [hpend]
    cases hblock : s.block? uid with
    | none =>
      have hsame : takeOver n s = s := by
        rw [heq]
        unfold switchBlock
        rw [hblock]
      rw [hsame]
      refine ⟨⟨rfl, rfl, rfl, rfl⟩, rfl, Frees.refl s, fun h => ?_, fun o ho hne => ?_, Touches.refl⟩
      · exact absurd (hpend.symm.trans h) (by simp)
      · obtain rfl : uid = o := Option.some.inj (hpend.symm.trans ho)
        exact absurd hblock hne
    | some b =>
      have henter := heq.trans (switchBlock_eq (n := n) hblock)
      have hstopT : Touches { regs := true, evq := true, stations := true, jobs := true, decs := true, mbox := true, shadow := true } s
          (stopExplains n (discardShadows n s)) := (stopExplains_touches n _).after (discardShadows_touches n s).mono
      obtain ⟨d, hd⟩ := ((stopExplains_turnOnly n _).after
        (TurnOnly.of_stations ((discardShadows_touches n s).keeps State.stations))) n
      generalize stopExplains n (discardShadows n s) = u at henter hstopT hd
      obtain ⟨dt, m, hstn⟩ := enterBlock_stn (n := n) (uid := uid) (b := b) (hstopT.sized hsized) hn
      refine ⟨?_, ?_, ?_, fun h => ?_, fun o ho _ => ?_, hT⟩
      · rw [henter, hstn, hd]
        exact ⟨rfl, rfl, rfl, rfl⟩
      · rw [henter]
        exact ((enterBlock_touches n uid b u).keeps State.bales).trans (hstopT.keeps State.bales)
      · rw [henter]
        exact (enterBlock_frees n uid b u).after hstopT.frees
      · exact absurd (hpend.symm.trans h) (by simp)
      · obtain rfl : uid = o := Option.some.inj (hpend.symm.trans ho)
        rw [henter, hstn, hd]
        refine ⟨rfl, ?_⟩
        show (if (s.stn n).pend == some uid then none else (s.stn n).pend) = none
        rw [hpend]
        simp

/-- What the end of arming makes of a station that triggers no more (R339). -/
structure Disarmed (n : Nat) (s t : State) : Prop where
  /-- It triggers no more. -/
  trig : (t.stn n).trigEn = false
  /-- It waits for no grant. -/
  want : (t.stn n).want = false
  /-- Without a pending block it keeps the one that it has, and its pending writes are gone. -/
  writes : (s.stn n).pend = none → (t.stn n).active = (s.stn n).active ∧ (t.stn n).pend = none ∧
    t.shadow = s.shadow.filter fun w => w.own != some n
  /-- A pending block enters. -/
  block : ∀ o, (s.stn n).pend = some o → s.block? o ≠ none → (t.stn n).active = some o ∧ (t.stn n).pend = none
  /-- Its region goes where it has no bale. -/
  region : s.inFlight n = false → (t.stn n).tiles = [] ∧
    ∀ k ∈ (s.stn n).tiles, k < 72 → (s.tile k).owner = some n → (s.tile k).work = none → (t.tile k).owner = none

theorem releaseRegion_idle {n : Nat} {s : State} (hsized : s.sized = true) (hn : n < 16) (harmed : s.armed n = false)
    (hjoin : (s.stn n).joining = []) (hidle : s.inFlight n = false) : ((releaseRegion n s).stn n).tiles = [] ∧
      ((s.stn n).tiles ≠ [] → ∀ k < 72, (s.tile k).owner = none ∨ (s.tile k).owner = some n ∧ (s.tile k).work = none →
        ((releaseRegion n s).tile k).owner = none) := by
  unfold releaseRegion
  rw [harmed, hidle, hjoin]
  cases htiles : (s.stn n).tiles with
  | nil =>
    rw [if_pos (show (false || false || ([] : List Nat).isEmpty && ([] : List Nat).isEmpty) = true from rfl)]
    exact ⟨htiles, fun h => absurd rfl h⟩
  | cons x r =>
    rw [if_neg (by simp)]
    have hset := stn_setStn_same (s := s) (n := n) (fun t =>
      { t with tiles := [], joining := [], leaving := [], decTiles := 0, n := 0, sinceGrowth := none, idleWindows := 0 })
      (by rw [State.sized_stations hsized]; exact hn)
    have hbales : s.balesOf n = [] := by
      unfold State.balesOf
      unfold State.inFlight at hidle
      rw [List.filter_eq_nil_iff]
      exact fun b hb => List.any_eq_false.1 hidle b hb
    have hvacant : Vacant n (s.setStn n fun t =>
        { t with tiles := [], joining := [], leaving := [], decTiles := 0, n := 0, sinceGrowth := none, idleWindows := 0 }) :=
      ⟨by rw [hset], by rw [hset], hbales⟩
    exact ⟨(sweepTiles_vacant hvacant).tiles, fun _ k hk h => sweepTiles_owner hvacant hk h⟩

theorem disarmed_disarms {n : Nat} {s : State} (hsized : s.sized = true) (hn : n < 16) (htrig : (s.stn n).trigEn = false)
    (hwant : (s.stn n).want = false) (harmed : s.armed n = false) : Disarmed n s (disarmed n s) := by
  rw [disarmed_eq]
  obtain ⟨⟨htiles, -, htrig', hwant'⟩, hbales, hfrees, hwrites, hblock, hT⟩ := takeOver_takenOver hsized hn
  generalize takeOver n s = u at htiles htrig' hwant' hbales hfrees hwrites hblock hT
  have huSized := hT.sized hsized
  have hstn := cancelGrants_stn (s := u) (n := n) (by rw [State.sized_stations huSized]; exact hn)
  have hcancelT := cancelGrants_fine n u
  have hcancelFrees := (cancelGrants_frees n u).after hfrees
  generalize cancelGrants n u = v at hstn hcancelT hcancelFrees
  have hvArmed : v.armed n = false := by
    rw [armed_of_miles (s := s) (by rw [hstn]; exact htrig'.trans htrig) ((hcancelT.keeps State.miles).trans (hT.keeps State.miles))]
    unfold State.armed at harmed
    exact (Bool.or_eq_false_iff.1 harmed).2
  have hvBales : v.bales = s.bales := (hcancelT.keeps State.bales).trans hbales
  have hrole : ((releaseRegion n v).stn n).role = (v.stn n).role := (releaseRegion_calm n v).role n
  obtain ⟨hactive, hpend, htrigR, hwantR⟩ : ((releaseRegion n v).stn n).active = (u.stn n).active ∧
      ((releaseRegion n v).stn n).pend = (u.stn n).pend ∧ ((releaseRegion n v).stn n).trigEn = (u.stn n).trigEn ∧
      ((releaseRegion n v).stn n).want = (u.stn n).want := by
    rw [hstn] at hrole
    simpa [Stn.role] using hrole
  refine ⟨by rw [htrigR, htrig', htrig], by rw [hwantR, hwant', hwant], fun hnone => ?_, fun o ho hne => ?_, fun hidle => ?_⟩
  · obtain ⟨hstations, hshadow⟩ := hwrites hnone
    have hsame : u.stn n = s.stn n := by rw [State.stn, hstations]; rfl
    rw [hactive, hpend, hsame]
    refine ⟨rfl, hnone, ?_⟩
    rw [(releaseRegion_touches n v).keeps State.shadow, hcancelT.keeps State.shadow, hshadow]
  · rw [hactive, hpend]
    exact hblock o ho hne
  · have hvIdle : v.inFlight n = false := by
      unfold State.inFlight at hidle ⊢
      rw [hvBales]
      exact hidle
    obtain ⟨hnone, howner⟩ := releaseRegion_idle (hcancelT.sized huSized) hn hvArmed (by rw [hstn]) hvIdle
    refine ⟨hnone, fun k hk hlt hown hwork => howner ?_ k hlt ?_⟩
    · rw [hstn]
      show (u.stn n).tiles ≠ []
      rw [htiles]
      exact List.ne_nil_of_mem hk
    · rcases hcancelFrees k with h | ⟨ho, hw⟩
      · exact .inl h
      · exact .inr ⟨ho.trans hown, hw.trans hwork⟩

theorem trigEnClear_disarms {s : State} (ini : Nat) {n : Nat} (hn : n < 16) (hsized : s.sized = true) (hon : s.domOn domVerdict = true)
    (htrig : (s.stn n).trigEn = true) (hdone : ∀ m ∈ s.miles, m.stn = n → m.live = false) :
    ∃ t, exec (.trigEnClear ini n) s = .next t ∧ t.armed n = false ∧ (t.stn n).trigEn = false ∧ (t.stn n).want = false ∧
      ((s.stn n).pend = none → (t.stn n).active = (s.stn n).active ∧ t.shadow = s.shadow.filter fun w => w.own ≠ some n) ∧
      (∀ o, (s.stn n).pend = some o → s.block? o ≠ none → (t.stn n).active = some o ∧ (t.stn n).pend = none) ∧
      (s.inFlight n = false → (t.stn n).tiles = [] ∧
        ∀ k ∈ (s.stn n).tiles, k < 72 → (s.tile k).owner = some n → (s.tile k).work = none → (t.tile k).owner = none) ∧
      t.miles = s.miles ∧ t.refs = s.refs ∧ t.fio = s.fio := by
  have hwas : s.begin_.armed n = true := (armed_iff s.begin_ n).2 (.inl htrig)
  have hlen : n < s.begin_.stations.length := by rw [State.sized_stations (s := s.begin_) hsized]; exact hn
  have hstop := stopTriggering_stn hlen
  have hnot : (stopTriggering n s.begin_).armed n = false := by
    rw [Bool.eq_false_iff]
    intro h
    rcases (armed_iff _ n).1 h with h | ⟨m, hm, hstn, hlive⟩
    · rw [hstop] at h
      exact Bool.false_ne_true h
    · rw [hdone m hm hstn] at hlive
      exact Bool.false_ne_true hlive
  have heq : trigEnClear n s.begin_ = disarmed n (stopTriggering n s.begin_) := by
    rw [trigEnClear_eq, hwas, if_pos rfl, settleArm, hnot]
    exact if_pos rfl
  have hstopT : Touches { stations := true } s.begin_ (stopTriggering n s.begin_) := State.setStn_touches _ _ _
  have hparts : (stopTriggering n s.begin_).shadow = s.shadow ∧ (stopTriggering n s.begin_).blocks = s.blocks ∧
      (stopTriggering n s.begin_).bales = s.bales ∧ (stopTriggering n s.begin_).tiles = s.tiles := ⟨rfl, rfl, rfl, rfl⟩
  generalize stopTriggering n s.begin_ = u at hstop hnot heq hstopT hparts
  obtain ⟨hshadow, hblocks, hbales, htiles⟩ := hparts
  have hfields : (u.stn n).trigEn = false ∧ (u.stn n).want = false ∧ (u.stn n).pend = (s.stn n).pend ∧
      (u.stn n).active = (s.stn n).active ∧ (u.stn n).tiles = (s.stn n).tiles := by
    rw [hstop]
    exact ⟨rfl, rfl, rfl, rfl, rfl⟩
  obtain ⟨htrigU, hwantU, hpendU, hactiveU, htilesU⟩ := hfields
  obtain ⟨htrigT, hwantT, hwrites, hblock, hregion⟩ := disarmed_disarms (hstopT.sized hsized) hn htrigU hwantU hnot
  have hT : Touches .switching s.begin_ (disarmed n u) := (disarmed_touches n u).after hstopT.mono
  have hmiles : (disarmed n u).miles = s.miles := hT.keeps State.miles
  generalize disarmed n u = t at heq hT hmiles htrigT hwantT hwrites hblock hregion
  refine ⟨t, by rw [exec_trigEnClear ini hn hon, heq]; exact hT.done_eq, ?_, htrigT, hwantT, fun hnone => ?_, fun o ho hne => ?_,
    fun hidle => ?_, hmiles, hT.keeps State.refs, hT.keeps State.fio⟩
  · rw [armed_of_miles (s := s) htrigT hmiles, Bool.eq_false_iff]
    intro h
    obtain ⟨m, hm, hcond⟩ := List.any_eq_true.1 h
    rw [Bool.and_eq_true, beq_iff_eq] at hcond
    have hlive := hdone m hm hcond.1
    exact Bool.false_ne_true (hlive.symm.trans hcond.2)
  · obtain ⟨hactive, -, hsh⟩ := hwrites (hpendU.trans hnone)
    refine ⟨hactive.trans hactiveU, hsh.trans ?_⟩
    rw [hshadow]
    exact List.filter_congr fun w _ => by by_cases h : w.own = some n <;> simp [h]
  · refine hblock o (hpendU.trans ho) ?_
    unfold State.block? at hne ⊢
    rw [hblocks]
    exact hne
  · have hidleU : u.inFlight n = false := by
      unfold State.inFlight at hidle ⊢
      rw [hbales]
      exact hidle
    obtain ⟨hnone, howner⟩ := hregion hidleU
    have htile : ∀ k, u.tile k = s.tile k := fun k => by rw [State.tile, htiles]; rfl
    exact ⟨hnone, fun k hk hlt ho hw => howner k (by rw [htilesU]; exact hk) hlt (by rw [htile]; exact ho) (by rw [htile]; exact hw)⟩

end Sys2Proof.Machine

/-! PROOFS. CANCEL_ALL: each ARMED and DECIDED entry of the station, one after the other (R761, R762). -/

namespace Sys2Proof.Machine

-- One theorem after the other: many at once ask for too many threads.
set_option Elab.async false

/-! ## Operations on one milestone entry -/

/-- No entry but `e` changes, and `e` keeps its place and its station. -/
def EntryOnly (e : Nat) (s t : State) : Prop :=
  ∃ f : Mile → Mile, (∀ m, (f m).idx = m.idx ∧ (f m).stn = m.stn) ∧ (∀ m, m.idx ≠ e → f m = m) ∧ t.miles = s.miles.map f

theorem EntryOnly.of_miles {e : Nat} {s t : State} (h : t.miles = s.miles) : EntryOnly e s t :=
  ⟨id, fun _ => ⟨rfl, rfl⟩, fun _ _ => rfl, by rw [h, List.map_id]⟩

theorem EntryOnly.after {e : Nat} {s t u : State} (g : EntryOnly e t u) (h : EntryOnly e s t) : EntryOnly e s u := by
  obtain ⟨f, hf, hfo, hfm⟩ := h
  obtain ⟨f', hf', hfo', hfm'⟩ := g
  refine ⟨f' ∘ f, fun m => ⟨(hf' _).1.trans (hf m).1, (hf' _).2.trans (hf m).2⟩, fun m hm => ?_, by rw [hfm', hfm, List.map_map]⟩
  rw [Function.comp_apply, hfo m hm, hfo' m hm]

theorem EntryOnly.setMile {e : Nat} (s : State) {f : Mile → Mile}
    (hf : ∀ m, (f m).idx = m.idx ∧ (f m).stn = m.stn := by exact fun _ => ⟨rfl, rfl⟩) : EntryOnly e s (s.setMile e f) := by
  refine ⟨fun m => if m.idx == e then f m else m, fun m => ?_, fun m hm => if_neg (by simpa using hm), rfl⟩
  dsimp only
  split
  · exact hf m
  · exact ⟨rfl, rfl⟩

theorem Touches.entryOnly {m : Parts} {s t : State} (h : Touches m s t) (e : Nat) (hm : m.miles = false := by rfl) : EntryOnly e s t := by
  have hmiles := congrArg State.miles h.same
  simp only [State.take, hm, cond_false] at hmiles
  exact EntryOnly.of_miles hmiles.symm

theorem EntryOnly.filter {e : Nat} {s t : State} (h : EntryOnly e s t) :
    (t.miles.filter fun x => x.idx != e) = s.miles.filter fun x => x.idx != e := by
  obtain ⟨f, hf, hfo, hfm⟩ := h
  rw [hfm, List.filter_map]
  have hsame : (fun x : Mile => x.idx != e) ∘ f = fun x => x.idx != e := by
    funext x
    rw [Function.comp_apply, (hf x).1]
  rw [hsame]
  conv_rhs => rw [← List.map_id (s.miles.filter fun x => x.idx != e)]
  exact List.map_congr_left fun x hx => hfo x (by simpa using (List.mem_filter.1 hx).2)

theorem EntryOnly.mile {e : Nat} {s t : State} (h : EntryOnly e s t) {m : Mile} (hm : s.mile? e = some m) :
    ∃ u, t.mile? e = some u ∧ u.stn = m.stn := by
  obtain ⟨f, hf, -, hfm⟩ := h
  have hkey : (fun x : Mile => x.idx == e) ∘ f = fun x => x.idx == e := by
    funext x
    rw [Function.comp_apply, (hf x).1]
  refine ⟨f m, ?_, (hf m).2⟩
  rw [State.mile?, hfm, List.find?_map, hkey]
  exact congrArg (Option.map f) hm

/-! ## What one cancelled entry leaves -/

/-- No bale is new. -/
def FewerBales (s t : State) : Prop := ∀ b ∈ t.bales, ∃ c ∈ s.bales, c.key = b.key

theorem FewerBales.after {s t u : State} (g : FewerBales t u) (h : FewerBales s t) : FewerBales s u := fun b hb => by
  obtain ⟨c, hc, hcb⟩ := g b hb
  obtain ⟨d, hd, hdc⟩ := h c hc
  exact ⟨d, hd, hdc.trans hcb⟩

theorem FewerBales.of_bales {s t : State} (h : t.bales = s.bales) : FewerBales s t := fun b hb => ⟨b, h ▸ hb, rfl⟩

/-- Bales of one entry have one number. -/
def State.oneBale (s : State) : Prop := ∀ b ∈ s.bales, ∀ c ∈ s.bales, b.entry = c.entry → b.entry ≠ none → b.id = c.id

theorem FewerBales.oneBale {s t : State} (h : FewerBales s t) (hs : s.oneBale) : t.oneBale := by
  intro b hb c hc he hne
  obtain ⟨b', hb', hbk⟩ := h b hb
  obtain ⟨c', hc', hck⟩ := h c hc
  simp only [Bale.key, Prod.mk.injEq] at hbk hck
  have := hs b' hb' c' hc' (by rw [hbk.1, hck.1, he]) (by rw [hbk.1]; exact hne)
  rw [← hbk.2.1, ← hck.2.1, this]

/-- No bale of the entry is left. -/
def State.noBaleOf (s : State) (e : Nat) : Prop := ∀ b ∈ s.bales, b.entry ≠ some e

theorem FewerBales.noBaleOf {s t : State} (h : FewerBales s t) {e : Nat} (hs : s.noBaleOf e) : t.noBaleOf e := by
  intro b hb
  obtain ⟨c, hc, hkey⟩ := h b hb
  simp only [Bale.key, Prod.mk.injEq] at hkey
  rw [← hkey.1]
  exact hs c hc

theorem endTags_touches (gs : List Nat) (tag : Nat) (s : State) : Touches { groups := true } s (gs.foldl (fun s g => endTag g tag s) s) :=
  Touches.foldl (fun u g => endTag_touches g tag u) gs s

theorem leaveArmed_calm (e : Nat) (s : State) : Calm s (leaveArmed e s) := by
  have habs := (absentEntry_touches e s).calm
  unfold leaveArmed
  dsimp only
  split
  · exact (releaseBale_calm _ _).after ((endTags_touches _ _ _).calm.after habs)
  · exact habs

theorem leaveArmed_noBale {e : Nat} {s : State} (hone : s.oneBale) : (leaveArmed e s).noBaleOf e := by
  have hbales : (absentEntry e s).bales = s.bales := (absentEntry_touches e s).keeps State.bales
  unfold leaveArmed
  dsimp only
  split
  · next b hb =>
    have htags := endTags_touches (b.sent.filter fun g => !((absentEntry e s).group g).ended.contains b.tseq) b.tseq (absentEntry e s)
    have hmem := List.mem_of_find?_eq_some hb
    have hentry : b.entry = some e := by simpa using List.find?_some hb
    generalize (b.sent.filter fun g => !((absentEntry e s).group g).ended.contains b.tseq).foldl (fun s g => endTag g b.tseq s)
      (absentEntry e s) = u at htags
    have hu : u.bales = s.bales := (htags.keeps State.bales).trans hbales
    rw [hbales] at hmem
    obtain ⟨c, hc⟩ : ∃ c, u.bale? b.id = some c := Option.isSome_iff_exists.1 (by
      rw [State.bale?, hu, List.find?_isSome]
      exact ⟨b, hmem, by simp⟩)
    intro d hd hde
    obtain ⟨d', hd', hkey⟩ := (releaseBale_calm b.id u).bales d hd
    simp only [Bale.key, Prod.mk.injEq] at hkey
    rw [hu] at hd'
    have hid := hone d' hd' b hmem (by rw [hkey.1, hde, hentry]) (by rw [hkey.1, hde]; simp)
    exact releaseBale_gone hc d hd (hkey.2.1.symm.trans hid)
  · next hnone =>
    intro b hb hbe
    exact absurd hbe (by simpa using List.find?_eq_none.1 hnone b hb)

theorem leaveArmed_entryOnly (e : Nat) (s : State) : EntryOnly e s (leaveArmed e s) := by
  have habs : EntryOnly e s (absentEntry e s) := by
    unfold absentEntry
    split
    · exact (EntryOnly.setMile _).after ((sendAbsents_touches _ _ s).entryOnly e)
    · exact EntryOnly.of_miles rfl
  unfold leaveArmed
  dsimp only
  split
  · exact ((releaseBale_touches _ _).entryOnly e).after (((endTags_touches _ _ _).entryOnly e).after habs)
  · exact habs

theorem leaveArmed_mbox (e : Nat) (s : State) : (leaveArmed e s).mbox = s.mbox := by
  have habs : (absentEntry e s).mbox = s.mbox := (absentEntry_touches e s).keeps State.mbox
  unfold leaveArmed
  dsimp only
  split
  · exact ((releaseBale_touches _ _).keeps State.mbox).trans (((endTags_touches _ _ _).keeps State.mbox).trans habs)
  · exact habs

theorem cancelFire_entryOnly (e : Nat) (s : State) : EntryOnly e s (cancelFire e s) := by
  unfold cancelFire
  split
  · split
    · exact (EntryOnly.setMile _).after ((sendFor_touches _ _ _ _ _ _ _ s).entryOnly e)
    · exact EntryOnly.of_miles rfl
  · exact EntryOnly.of_miles rfl

/-! ## The moment at which arming ends, without a pending block -/

theorem disarmed_fewerBales {n : Nat} {s : State} (hsized : s.sized = true) (hn : n < 16) : FewerBales s (disarmed n s) := by
  rw [disarmed_eq]
  have hover := (takeOver_takenOver hsized hn).bales
  exact FewerBales.after ((releaseRegion_calm n _).after (cancelGrants_calm n _)).bales (FewerBales.of_bales hover)

theorem settleArm_fewerBales {n : Nat} {s : State} (was : Bool) (hsized : s.sized = true) (hn : n < 16) : FewerBales s (settleArm n was s) := by
  unfold settleArm
  split
  · exact disarmed_fewerBales hsized hn
  · exact FewerBales.of_bales rfl

/-- No block waits, and the mailboxes are those of `s`. -/
structure Quiet (n : Nat) (s t : State) : Prop where
  /-- No block waits. -/
  pend : (t.stn n).pend = none
  /-- The mailboxes. -/
  mbox : t.mbox = s.mbox

theorem Calm.pend {s t : State} (h : Calm s t) (n : Nat) : (t.stn n).pend = (s.stn n).pend :=
  congrArg (fun r : Option Nat × Option Nat × Bool × Bool => r.2.1) (h.role n)

theorem settleArm_quiet {n : Nat} {s : State} (was : Bool) (hpend : (s.stn n).pend = none) : Quiet n s (settleArm n was s) := by
  unfold settleArm
  split
  · have hover : takeOver n s = applyShadows n s := by
      unfold takeOver
      rw [hpend]
    have hcalm : Calm s (releaseRegion n (cancelGrants n (applyShadows n s))) :=
      (releaseRegion_calm n _).after ((cancelGrants_calm n _).after (applyShadows_touches n s).calm)
    rw [disarmed_eq, hover]
    exact ⟨(hcalm.pend n).trans hpend, ((releaseRegion_touches n _).keeps State.mbox).trans
      (((cancelGrants_fine n _).keeps State.mbox).trans ((applyShadows_touches n s).keeps State.mbox))⟩
  · exact ⟨hpend, rfl⟩

/-! ## A verdict record (R762) -/

/-- The next SEQ of a mailbox. -/
def State.mbSeq (s : State) (n : Nat) := (s.mbox.getD n ⟨[], 0⟩).seq

theorem State.sized_mbox {s : State} (h : s.sized = true) : s.mbox.length = 16 := by
  simp only [State.sized, Bool.and_eq_true, beq_iff_eq] at h
  tauto

theorem mbPut_seq {n : Nat} {s : State} (hsized : s.sized = true) (hn : n < 16) (type : Nat) (payload : List Dword) :
    (mbPut n type payload s).mbSeq n = s.mbSeq n + 1 := by
  have hlen : n < s.mbox.length := by rw [State.sized_mbox hsized]; exact hn
  unfold mbPut
  dsimp only
  split
  · refine ((raise_touches _ _).keeps fun u => u.mbSeq n).trans ?_
    exact congrArg Mbox.seq (getD_modAt_same _ _ hlen)
  · refine ((bump_touches _ _).keeps fun u => u.mbSeq n).trans ?_
    exact congrArg Mbox.seq (getD_modAt_same _ _ hlen)

/-! ## CANCEL_ALL -/

/-- One entry is CANCELLED and freed. -/
def cancelOne (s : State) (m : Mile) : State := freeMile m.idx (mileState m.idx 5 (leaveArmed m.idx (cancelFire m.idx s)))

theorem cancelOne_touches (s : State) (m : Mile) : Touches .plant s (cancelOne s m) := by
  refine (freeMile_touches _ _).after ?_
  refine (mileState_touches _ _ _).after ?_
  refine (leaveArmed_touches _ _).after ?_
  exact (cancelFire_touches _ s).mono

/-- The entry leaves the table, and its verdict record the device. -/
theorem freeMile_eq {e : Nat} {s : State} {m : Mile} (h : s.mile? e = some m) : ∃ words w,
    Touches { regs := true, evq := true, mbox := true, miles := true, fio := true } s w ∧
      w.miles = (s.miles.filter fun x => x.idx != e) ∧ w.mbox = (mbPut m.stn 1 words s).mbox ∧
      freeMile e s = settleArm m.stn (s.armed m.stn) w := by
  unfold freeMile
  rw [h]
  dsimp only
  generalize verdictWords m.bale (m.outcome.getD 0xFF) m.rule m.defaulted m.late false m.st m.fire m.pTrig = words
  have hput := mbPut_touches m.stn 1 words s
  generalize hu : mbPut m.stn 1 words s = u at hput
  refine ⟨words, _, ?_, ?_, ?_, rfl⟩
  · exact Touches.after (n := { miles := true, fio := true }) ⟨rfl, by simp only [State.lens, List.length_map]⟩ hput.mono
  · exact congrArg (List.filter fun x => x.idx != e) (hput.keeps State.miles)
  · rw [hu]

/-- What the end of one entry leaves of the state. -/
structure Cancelled (n e : Nat) (s t : State) : Prop where
  /-- The entry has left the table. -/
  miles : t.miles = s.miles.filter fun x => x.idx != e
  /-- No bale is new. -/
  fewer : FewerBales s t
  /-- The entry's bales have gone. -/
  gone : s.oneBale → t.noBaleOf e
  /-- Without a pending block one record takes a SEQ. -/
  record : (s.stn n).pend = none → (t.stn n).pend = none ∧ t.mbSeq n = s.mbSeq n + 1

theorem cancelOne_cancelled {n : Nat} {s : State} {m m' : Mile} (hsized : s.sized = true) (hn : n < 16) (hm : s.mile? m.idx = some m')
    (hstn : m'.stn = n) : Cancelled n m.idx s (cancelOne s m) := by
  unfold cancelOne
  have hfireT := cancelFire_touches m.idx s
  have hleaveT := leaveArmed_touches m.idx (cancelFire m.idx s)
  have hentry : EntryOnly m.idx s (leaveArmed m.idx (cancelFire m.idx s)) :=
    (leaveArmed_entryOnly _ _).after (cancelFire_entryOnly m.idx s)
  have hcalm : Calm s (leaveArmed m.idx (cancelFire m.idx s)) := (leaveArmed_calm _ _).after hfireT.calm
  have hgone : s.oneBale → (leaveArmed m.idx (cancelFire m.idx s)).noBaleOf m.idx := fun hone =>
    leaveArmed_noBale (FewerBales.oneBale hfireT.calm.bales hone)
  have hmbox : (leaveArmed m.idx (cancelFire m.idx s)).mbox = s.mbox := (leaveArmed_mbox _ _).trans (hfireT.keeps State.mbox)
  have hsized₁ := hleaveT.sized (hfireT.sized hsized)
  generalize leaveArmed m.idx (cancelFire m.idx s) = u at hentry hcalm hgone hmbox hsized₁
  obtain ⟨m₁, hm₁, hstn₁⟩ := hentry.mile hm
  have hstate : mileState m.idx 5 u = settleArm n (u.armed n) (u.setMile m.idx fun m => { m with st := 5 }) := by
    unfold mileState
    rw [hm₁]
    dsimp only
    rw [hstn₁, hstn]
  have hsetT := State.setMile_touches u m.idx fun m => { m with st := 5 }
  have hset : EntryOnly m.idx u (u.setMile m.idx fun m => { m with st := 5 }) := EntryOnly.setMile u
  generalize u.setMile m.idx (fun m => { m with st := 5 }) = u' at hstate hsetT hset
  have hsized' := hsetT.sized hsized₁
  have hsettleT := settleArm_touches n (u.armed n) u'
  have hfewer₂ : FewerBales s (settleArm n (u.armed n) u') :=
    (settleArm_fewerBales _ hsized' hn).after (hsetT.calm.after hcalm).bales
  have hentry₂ : EntryOnly m.idx s (settleArm n (u.armed n) u') := (hsettleT.entryOnly _).after (hset.after hentry)
  have hgone₂ : s.oneBale → (settleArm n (u.armed n) u').noBaleOf m.idx := fun hone =>
    FewerBales.noBaleOf ((settleArm_fewerBales _ hsized' hn).after hsetT.calm.bales) (hgone hone)
  have hquiet₂ : (s.stn n).pend = none → Quiet n s (settleArm n (u.armed n) u') := fun hpend => by
    have hq := settleArm_quiet (u.armed n) (((hsetT.calm.after hcalm).pend n).trans hpend)
    exact ⟨hq.pend, hq.mbox.trans ((hsetT.keeps State.mbox).trans hmbox)⟩
  have hsized₂ := hsettleT.sized hsized'
  rw [hstate]
  generalize settleArm n (u.armed n) u' = v at hfewer₂ hentry₂ hgone₂ hquiet₂ hsized₂
  obtain ⟨m₂, hm₂, hstn₂⟩ := hentry₂.mile hm
  obtain ⟨words, w, hwT, hwMiles, hwMbox, hfree⟩ := freeMile_eq hm₂
  rw [hstn₂, hstn] at hfree hwMbox
  have hwSeq : w.mbSeq n = v.mbSeq n + 1 := by
    rw [State.mbSeq, hwMbox]
    exact mbPut_seq hsized₂ hn 1 words
  have hwSized := hwT.sized hsized₂
  have hlast := settleArm_fewerBales (v.armed n) hwSized hn
  rw [hfree]
  refine ⟨?_, ?_, fun hone => ?_, fun hpend => ?_⟩
  · rw [(settleArm_touches n _ w).keeps State.miles, hwMiles, hentry₂.filter]
  · exact hlast.after (FewerBales.after (hwT.calm.bales) hfewer₂)
  · exact FewerBales.noBaleOf (hlast.after hwT.calm.bales) (hgone₂ hone)
  · obtain ⟨hpend₂, hmbox₂⟩ := hquiet₂ hpend
    have hq := settleArm_quiet (v.armed n) ((hwT.calm.pend n).trans hpend₂)
    refine ⟨hq.pend, ?_⟩
    have hlastSeq : (settleArm n (v.armed n) w).mbSeq n = w.mbSeq n := by rw [State.mbSeq, hq.mbox]; rfl
    have hfirst : v.mbSeq n = s.mbSeq n := by rw [State.mbSeq, hmbox₂]; rfl
    rw [hlastSeq, hwSeq, hfirst]

theorem mile?_of_mem {s : State} (hnodup : (s.miles.map Mile.idx).Nodup) {m : Mile} (hm : m ∈ s.miles) : s.mile? m.idx = some m := by
  unfold State.mile?
  revert hnodup hm
  generalize s.miles = ms
  intro hnodup hm
  induction ms with
  | nil => exact absurd hm (by simp)
  | cons x r ih =>
    rw [List.map_cons, List.nodup_cons] at hnodup
    rcases List.mem_cons.1 hm with rfl | hm
    · simp
    · have hne : x.idx ≠ m.idx := fun h => hnodup.1 (h ▸ List.mem_map_of_mem hm)
      rw [List.find?_cons_of_neg (by simpa using hne)]
      exact ih hnodup.2 hm

/-- What the end of the entries `ms` leaves. -/
theorem cancelOnes_cancelled {n : Nat} (hn : n < 16) (ms : List Mile) {s : State} (hsized : s.sized = true)
    (hnodup : (s.miles.map Mile.idx).Nodup) (hdistinct : (ms.map Mile.idx).Nodup)
    (hms : ∀ m ∈ ms, ∃ m' ∈ s.miles, m'.idx = m.idx ∧ m'.stn = n) (hone : s.oneBale) :
    ((ms.foldl cancelOne s).miles = s.miles.filter fun x => !(ms.any fun m => x.idx == m.idx)) ∧ FewerBales s (ms.foldl cancelOne s) ∧
      (∀ m ∈ ms, (ms.foldl cancelOne s).noBaleOf m.idx) ∧
      ((s.stn n).pend = none → (ms.foldl cancelOne s).mbSeq n = s.mbSeq n + BitVec.ofNat 32 ms.length) := by
  induction ms generalizing s with
  | nil =>
    refine ⟨?_, FewerBales.of_bales rfl, fun m hm => absurd hm (by simp), fun _ => ?_⟩
    · simp
    · simp
  | cons m r ih =>
    obtain ⟨m', hm', hidx, hstn⟩ := hms m List.mem_cons_self
    have hfind : s.mile? m.idx = some m' := by rw [← hidx]; exact mile?_of_mem hnodup hm'
    obtain ⟨hmiles, hfewer, hgone, hrecord⟩ := cancelOne_cancelled hsized hn hfind hstn
    have hsized' := (cancelOne_touches s m).sized hsized
    rw [List.foldl_cons]
    generalize cancelOne s m = u at hmiles hfewer hgone hrecord hsized'
    rw [List.map_cons, List.nodup_cons] at hdistinct
    have hsub : u.miles.Sublist s.miles := by rw [hmiles]; exact List.filter_sublist
    obtain ⟨ihMiles, ihFewer, ihGone, ihRecord⟩ := ih hsized' (hnodup.sublist (hsub.map _)) hdistinct.2 (fun x hx => by
      obtain ⟨x', hx', hxidx, hxstn⟩ := hms x (List.mem_cons_of_mem _ hx)
      refine ⟨x', ?_, hxidx, hxstn⟩
      rw [hmiles, List.mem_filter]
      refine ⟨hx', ?_⟩
      have hne : x.idx ≠ m.idx := fun h => hdistinct.1 (h ▸ List.mem_map_of_mem hx)
      rw [hxidx]
      simpa using hne) (hfewer.oneBale hone)
    refine ⟨?_, ihFewer.after hfewer, fun x hx => ?_, fun hpend => ?_⟩
    · rw [ihMiles, hmiles, List.filter_filter]
      refine List.filter_congr fun x _ => ?_
      rw [List.any_cons, Bool.not_or, Bool.and_comm]
      rfl
    · rcases List.mem_cons.1 hx with rfl | hx
      · exact ihFewer.noBaleOf (hgone hone)
      · exact ihGone x hx
    · obtain ⟨hpend', hseq⟩ := hrecord hpend
      rw [ihRecord hpend', hseq, List.length_cons, BitVec.add_assoc]
      congr 1
      rw [BitVec.add_comm]
      exact (BitVec.ofNat_add _ _).symm

theorem exec_cancelAll {s : State} (ini : Nat) {n : Nat} (hn : n < 16) (hon : s.domOn domVerdict = true) :
    exec (.cancelAll ini n) s = done s (cancelAll n s.begin_) :=
  congrArg (done s) (ifOn_on (s := s.begin_) (cancelAll n) hon (decide_eq_true hn))

theorem cancelAll_triggering (s : State) (ini n : Nat) (htrig : (s.stn n).trigEn = true) :
    ∃ t, exec (.cancelAll ini n) s = .next t ∧ State.unchanged s t := by
  have hsame : cancelAll n s.begin_ = s.begin_ := if_pos htrig
  have hexec : exec (.cancelAll ini n) s = done s s.begin_ := by
    show done s (ifOn domVerdict (decide (n < 16)) (cancelAll n) s.begin_) = _
    unfold ifOn
    rw [hsame, ite_self]
  rw [hexec]
  exact done_unchanged s

theorem cancelAll_eq {s : State} {n : Nat} (htrig : (s.stn n).trigEn = false) :
    cancelAll n s = (s.miles.filter fun m => m.stn == n && m.live).foldl cancelOne s :=
  if_neg (by rw [htrig]; exact Bool.false_ne_true)

theorem cancelAll_cancels {s : State} (ini : Nat) {n : Nat} (hn : n < 16) (hsized : s.sized = true) (hon : s.domOn domVerdict = true)
    (htrig : (s.stn n).trigEn = false) (hnodup : (s.miles.map Mile.idx).Nodup) (hone : s.oneBale) :
    ∃ t, exec (.cancelAll ini n) s = .next t ∧ t.miles = s.miles.filter (fun m => !(m.stn == n && m.live)) ∧
      (∀ m ∈ s.miles, m.stn = n → m.live = true → ∀ b ∈ t.bales, b.entry ≠ some m.idx) ∧
      ((s.stn n).pend = none → (t.mbox.getD n ⟨[], 0⟩).seq =
        (s.mbox.getD n ⟨[], 0⟩).seq + BitVec.ofNat 32 (s.miles.filter fun m => m.stn == n && m.live).length) := by
  have hT : Touches .plant s.begin_ ((s.miles.filter fun m => m.stn == n && m.live).foldl cancelOne s.begin_) :=
    Touches.foldl cancelOne_touches _ _
  obtain ⟨hmiles, -, hgone, hseq⟩ := cancelOnes_cancelled hn (s.miles.filter fun m => m.stn == n && m.live) (s := s.begin_) hsized hnodup
    (hnodup.sublist (List.filter_sublist.map _)) (fun m hm => by
      obtain ⟨hmem, hcond⟩ := List.mem_filter.1 hm
      rw [Bool.and_eq_true, beq_iff_eq] at hcond
      exact ⟨m, hmem, rfl, hcond.1⟩) hone
  have heq := cancelAll_eq (s := s.begin_) (n := n) htrig
  have hexec := exec_cancelAll ini hn hon
  rw [heq] at hexec
  refine ⟨_, hexec.trans hT.done_eq, ?_, fun m hm hstn hlive => ?_, fun hpend => hseq hpend⟩
  · refine hmiles.trans (List.filter_congr fun x hx => ?_)
    congr 1
    rw [Bool.eq_iff_iff, List.any_eq_true]
    constructor
    · rintro ⟨m, hm, hidx⟩
      obtain ⟨hmem, hcond⟩ := List.mem_filter.1 hm
      have hsame : x = m := by
        have h1 := mile?_of_mem (s := s) hnodup hx
        have h2 := mile?_of_mem (s := s) hnodup hmem
        rw [beq_iff_eq.1 hidx, h2] at h1
        exact (Option.some.inj h1).symm
      rw [hsame]
      exact hcond
    · intro hcond
      exact ⟨x, List.mem_filter.2 ⟨hx, hcond⟩, by simp⟩
  · exact hgone m (List.mem_filter.2 ⟨hm, by rw [hlive, hstn]; simp⟩)

/-- Settles O25: a station is armed while an entry of it lives, the end of arming sweeps its tiles, and each entry is cancelled apart
from the others. -/
theorem disarmingAndCancelling : Obligations.DisarmingAndCancelling := by
  unfold Obligations.DisarmingAndCancelling
  exact ⟨fun s ini n hn hsized hon hlive => trigEnClear_staysArmed ini hn hsized hon hlive,
    fun s ini n hn hsized hon hidle => trigEnClear_unarmed ini hn hsized hon hidle,
    fun s ini n hn hsized hon htrig hdone => trigEnClear_disarms ini hn hsized hon htrig hdone,
    fun s ini n htrig => cancelAll_triggering s ini n htrig,
    fun s ini n hn hsized hon htrig hnodup hone => cancelAll_cancels ini hn hsized hon htrig hnodup hone⟩

end Sys2Proof.Machine

/-! PROOFS. Operations that keep an element of state for each unit that the device has.

`Sizes s t` says that `t` has the sizes of the device where `s` has them. An operation that touches parts of the state without
resizing one (`Touches.sizes`) does so; one that puts a list back to its reset value does so as well. -/

namespace Sys2Proof.Machine

-- One theorem after the other: many at once ask for too many threads.
set_option Elab.async false

/-- `t` has an element for each unit where `s` has one. -/
def Sizes (s t : State) : Prop := s.sized = true → t.sized = true

section
variable {s t u : State}

theorem Sizes.refl : Sizes s s := id

theorem Sizes.then (h : Sizes s t) (g : Sizes t u) : Sizes s u := g ∘ h

/-- The last operation first. -/
theorem Sizes.after (g : Sizes t u) (h : Sizes s t) : Sizes s u := g ∘ h

/-- No list of numbered units has changed its length. -/
theorem Sizes.of_lens (h : t.lens = s.lens) : Sizes s t := fun hs => (sized_iff_lens t).2 (h.trans ((sized_iff_lens s).1 hs))

theorem Touches.sizes {m : Parts} (h : Touches m s t) : Sizes s t := .of_lens h.lens

theorem Sizes.ite {c : Prop} [Decidable c] (h : c → Sizes s t) (g : ¬ c → Sizes s u) : Sizes s (if c then t else u) := by
  split
  · exact h ‹_›
  · exact g ‹_›

/-- An operation that is made on a condition. -/
theorem Sizes.thenIf {c : Prop} [Decidable c] (h : Sizes s t) (g : Sizes t u) : Sizes s (if c then u else t) :=
  .ite (fun _ => h.then g) fun _ => h

/-- An operation that is made unless a condition holds. -/
theorem Sizes.thenUnless {c : Prop} [Decidable c] (h : Sizes s t) (g : Sizes t u) : Sizes s (if c then t else u) :=
  .ite (fun _ => h) fun _ => h.then g

/-- An operation repeated over a list, on a state that a value carries. -/
theorem Sizes.foldlOn {α β : Type} (p : β → State) {op : β → α → β} (hop : ∀ u x, Sizes (p u) (p (op u x))) (xs : List α) (u : β) :
    Sizes (p u) (p (xs.foldl op u)) := by
  induction xs generalizing u with
  | nil => exact .refl
  | cons x xs ih => exact (hop u x).then (ih _)

theorem Sizes.foldl {α : Type} {op : State → α → State} (hop : ∀ u x, Sizes u (op u x)) (xs : List α) (s : State) :
    Sizes s (xs.foldl op s) :=
  Sizes.foldlOn (fun u => u) hop xs s

end

/-! ## Ports, lanes and endpoints -/

theorem begin_sizes (s : State) : Sizes s s.begin_ := .of_lens rfl

theorem startPcs_sizes (port mode : Nat) (s : State) : Sizes s (startPcs port mode s) := .of_lens rfl

theorem setN_sizes (a x : Nat) (s : State) : Sizes s (s.setN a x) := .of_lens rfl
theorem fset_sizes (a hi lo x : Nat) (s : State) : Sizes s (s.fset a hi lo x) := .of_lens rfl
theorem setFlag_sizes (a i : Nat) (b : Bool) (s : State) : Sizes s (s.setFlag a i b) := .of_lens rfl
theorem raise_sizes (src : Nat) (s : State) : Sizes s (raise src s) := (raise_touches src s).sizes
theorem bump_sizes (a : Nat) (s : State) : Sizes s (bump a s) := (bump_touches a s).sizes
theorem logFault_sizes (f : FaultRec) (s : State) : Sizes s (logFault f s) := (logFault_touches f s).sizes
theorem setLane_sizes (k : Nat) (f : Lane → Lane) (s : State) : Sizes s (s.setLane k f) := (State.setLane_touches s k f).sizes
theorem setStn_sizes (n : Nat) (f : Stn → Stn) (s : State) : Sizes s (s.setStn n f) := (State.setStn_touches s n f).sizes
theorem setTile_sizes (k : Nat) (f : Tile → Tile) (s : State) : Sizes s (s.setTile k f) := (State.setTile_touches s k f).sizes
theorem setFio_sizes (c : Nat) (f : Fio → Fio) (s : State) : Sizes s (s.setFio c f) := (State.setFio_touches s c f).sizes
theorem setOdo_sizes (c : Nat) (f : Odo → Odo) (s : State) : Sizes s (s.setOdo c f) := (State.setOdo_touches s c f).sizes
theorem setRef_sizes (n : Nat) (f : Ref → Ref) (s : State) : Sizes s (s.setRef n f) := (State.setRef_touches s n f).sizes
theorem setLink_sizes (l : Nat) (f : Link → Link) (s : State) : Sizes s (s.setLink l f) := (State.setLink_touches s l f).sizes
theorem setBale_sizes (id : Nat) (f : Bale → Bale) (s : State) : Sizes s (s.setBale id f) := .of_lens rfl
theorem setMile_sizes (e : Nat) (f : Mile → Mile) (s : State) : Sizes s (s.setMile e f) := .of_lens rfl
theorem setEp_sizes (l a : Nat) (f : Ep → Ep) (s : State) : Sizes s (s.setEp l a f) := .of_lens rfl
theorem driveStopLine_sizes (s : State) : Sizes s (driveStopLine s) := (driveStopLine_touches s).sizes
theorem assertStop_sizes (n cause : Nat) (s : State) : Sizes s (assertStop n cause s) := (assertStop_touches n cause s).sizes
theorem laneStat_sizes (k train pstate : Nat) (pll lock : Bool) (s : State) : Sizes s (laneStat k train pstate pll lock s) :=
  (laneStat_touches k train pstate pll lock s).sizes
theorem sendFor_sizes (stn group : Option Nat) (l vc type dest : Nat) (payload : List Dword) (s : State) :
    Sizes s (sendFor stn group l vc type dest payload s) := (sendFor_touches stn group l vc type dest payload s).sizes
theorem sendPacket_sizes (l vc type dest : Nat) (payload : List Dword) (s : State) : Sizes s (sendPacket l vc type dest payload s) :=
  (sendPacket_touches l vc type dest payload s).sizes

theorem ifOn_sizes (d : Nat) (ok : Bool) {f : State → State} (hf : ∀ u, Sizes u (f u)) (s : State) : Sizes s (ifOn d ok f s) :=
  .ite (fun _ => hf s) fun _ => .refl

theorem adapts_sizes (k : Nat) (ctle dfe : Bool) (s : State) : Sizes s (adapts k ctle dfe s) := setLane_sizes _ _ _

theorem gainLock_sizes (k : Nat) (s : State) : Sizes s (gainLock k s) := .ite (fun _ => .refl) fun _ => adapts_sizes _ _ _ _

theorem unfreeze_sizes (k old : Nat) (s : State) : Sizes s (unfreeze k old s) := .ite (fun _ => adapts_sizes _ _ _ _) fun _ => .refl

theorem setTapsNow_sizes (k : Nat) (t : Nat × Nat × Nat) (s : State) : Sizes s (setTapsNow k t s) := setN_sizes _ _ _

theorem trainFrom_sizes (k : Nat) (t : Nat × Nat × Nat) (s : State) : Sizes s (trainFrom k t s) :=
  .ite (fun _ => (laneStat_sizes _ _ _ _ _ _).then ((fset_sizes _ _ _ _ _).then ((setTapsNow_sizes _ _ _).then (setLane_sizes _ _ _))))
    fun _ => .refl

theorem startTraining_sizes (k : Nat) (s : State) : Sizes s (startTraining k s) := trainFrom_sizes _ _ _

theorem applyTxfir_sizes (k val : Nat) (s : State) : Sizes s (applyTxfir k val s) :=
  .ite (fun _ => .ite (fun _ => setN_sizes _ _ _) fun _ => (setN_sizes _ _ _).then (setTapsNow_sizes _ _ _))
    fun _ => setFlag_sizes _ _ _ _

theorem commitTxfir_sizes (k : Nat) (val : Word) (s : State) : Sizes s (commitTxfir k val s) :=
  .ite (fun _ => setLane_sizes _ _ _) fun _ => applyTxfir_sizes _ _ _

theorem laneSleep_sizes (k st : Nat) (s : State) : Sizes s (laneSleep k st s) := laneStat_sizes _ _ _ _ _ _

/-- The state that a commit which waits leaves behind training, before the lane sleeps where it must. -/
theorem endTraining_sizes (k st : Nat) (s : State) : Sizes s (endTraining k st s) := by
  have hstat : Sizes s (laneStat k st 1 true (st == 2) (s.setLane k fun x => { x with commit := none, after := none })) :=
    (setLane_sizes _ _ _).then (laneStat_sizes _ _ _ _ _ _)
  unfold endTraining
  dsimp only
  cases (s.lane k).commit <;> cases (s.lane k).after
  · exact hstat
  · exact hstat.then (laneSleep_sizes _ _ _)
  · exact hstat.then (applyTxfir_sizes _ _ _)
  · exact hstat.then ((applyTxfir_sizes _ _ _).then (laneSleep_sizes _ _ _))

theorem readyBoth_sizes (k : Nat) (s : State) : Sizes s (readyBoth k s) := .ite (fun _ => endTraining_sizes _ _ _) fun _ => .refl

theorem setOut_sizes (out : List (Nat × Nat × Nat × List Nat)) (s : State) : Sizes s { s with out := out } := .of_lens rfl

theorem sendTrain_sizes (k request status : Nat) (s : State) : Sizes s (sendTrain k request status s) :=
  (setOut_sizes _ s).then (laneBlock_touches _ _ _).sizes

theorem showActive_sizes (l : Nat) (s : State) : Sizes s (showActive l s) := fset_sizes _ _ _ _ _

theorem sendAnnounceResp_sizes (l a result power guardNs weights : Nat) (s : State) :
    Sizes s (sendAnnounceResp l a result power guardNs weights s) := sendPacket_sizes _ _ _ _ _ _

theorem sendPower_sizes (l a target : Nat) (s : State) : Sizes s (sendPower l a target s) := sendPacket_sizes _ _ _ _ _ _

/-! ## The logbook -/

theorem setCalendar_sizes (v : Nat) (s : State) : Sizes s (setCalendar v s) := .of_lens rfl

theorem keySlot_sizes (i serial rch : Nat) (s : State) : Sizes s (keySlot i serial rch s) := .of_lens rfl

theorem bumpSlot_sizes (i : Nat) (s : State) : Sizes s (bumpSlot i s) := (logBump40_touches _ _ _ _).sizes

/-- An operation of two numbers keeps the sizes. -/
structure SizesOf (f : Nat → Nat → State → State) : Prop where
  /-- For all of them. -/
  sizes : ∀ a b s, Sizes s (f a b s)

/-- The list of slots, and what is found in it, are generalised before the definition is applied: else the kernel evaluates the
search of 256 slots. -/
theorem remoteCycle_sizesOf : SizesOf remoteCycle := by
  delta remoteCycle
  generalize List.range 256 = slots
  refine ⟨fun serial rch s => ?_⟩
  generalize List.find? _ slots = own
  generalize List.find? _ slots = free
  generalize List.find? _ slots = undeclared
  cases own with
  | some i => exact bumpSlot_sizes i s
  | none =>
    cases free with
    | some i => exact ((keySlot_sizes i serial rch s).then (setN_sizes _ _ _)).then (bumpSlot_sizes i _)
    | none =>
      cases undeclared with
      | some i => exact (keySlot_sizes i serial rch s).then (bumpSlot_sizes i _)
      | none => exact (logBump_touches _ _ _ _).sizes

theorem remoteCycle_sizes (serial rch : Nat) (s : State) : Sizes s (remoteCycle serial rch s) :=
  remoteCycle_sizesOf.sizes serial rch s

theorem mirrorFail_sizes (s : State) : Sizes s (mirrorFail s) := (mirrorFail_touches s).sizes

theorem setLog_sizes (l : Logbook) (s : State) : Sizes s { s with log := l } := .of_lens rfl

theorem mirrorMissed_sizes (s : State) : Sizes s (mirrorMissed s).1 := by
  unfold mirrorMissed
  split
  · exact (setLog_sizes _ s).then (mirrorFail_sizes _)
  · exact .refl

theorem restoreFrom_sizes (r : List Byte) (s : State) : Sizes s (restoreFrom r s) := by
  unfold restoreFrom
  extract_lets put s1 s2 s3
  have hput : ∀ a o n u, Sizes u (put a o n u) := fun a o n u => setN_sizes a (leAt r o n) u
  have h1 : Sizes s s1 := ((((hput _ _ _ _).then (hput _ _ _ _)).then ((hput _ _ _ _).then (hput _ _ _ _))).then
    (((hput _ _ _ _).then (hput _ _ _ _)).then ((hput _ _ _ _).then (hput _ _ _ _))))
  have h2 : Sizes s1 s2 := Sizes.foldl (fun u i => (hput _ _ _ _).then (hput _ _ _ _)) _ _
  have h3 : Sizes s2 s3 := Sizes.foldl (fun u k => hput _ _ _ _) _ _
  refine h1.then (h2.then (h3.then (Sizes.foldl (fun u i => ?_) _ _)))
  exact ((hput _ _ _ _).then (hput _ _ _ _)).then ((hput _ _ _ _).then (setN_sizes _ _ _))

/-- The logbook counters dropped, before the record restores them. -/
theorem dropCounters_sizes (s : State) : Sizes s { s with
    regs := s.regs.filter fun p => !logCounter p.1
    log := { s.log with fresh := false, vbatLost := false } } := .of_lens rfl

theorem restoreLog_sizes (s : State) : Sizes s (restoreLog s) := by
  refine .ite (fun _ => .refl) fun _ => (dropCounters_sizes s).then ?_
  have hcal : ∀ (c : Bool) (v : Nat) (u : State), Sizes u (if c then setCalendar v u else u) := fun _ v u =>
    .ite (fun _ => setCalendar_sizes v u) fun _ => .refl
  have hlost : ∀ (c : Bool) (u : State),
      Sizes u (if c then (u.setFlag Reg.logCalCtrl 10 true).setFlag Reg.logCalCtrl 8 false else u) := fun _ u =>
    .ite (fun _ => .of_lens rfl) fun _ => .refl
  refine Sizes.then ?_ (hlost _ _)
  split
  · exact (((restoreFrom_sizes _ _).then (setFlag_sizes _ _ _ _)).then (setLog_sizes _ _)).then (hcal _ _ _)
  · exact (raise_sizes _ _).then (hcal _ _ _)

theorem calSet_sizes (s : State) : Sizes s (calSet s) := setLog_sizes _ s

/-! ## Registers -/

theorem putShadow_sizes (own : Option Nat) (a mask val : Nat) (s : State) : Sizes s (putShadow own a mask val s) :=
  (putShadow_touches own a mask val s).sizes
theorem dropShadow_sizes (a : Nat) (s : State) : Sizes s (dropShadow a s) := (dropShadow_touches a s).sizes
theorem dropWrite_sizes (ini a : Nat) (own : Owner) (s : State) : Sizes s (dropWrite ini a own s) := (dropWrite_touches ini a own s).sizes

theorem writeFields_sizes (r : RegInfo) (i ini addr val : Nat) (s : State) : Sizes s (writeFields r i ini addr val s) := by
  have hdrop : ∀ x u, Sizes u (dropShadow addr (u.setN addr x)) := fun x u => (setN_sizes addr x u).then (dropShadow_sizes addr _)
  unfold writeFields
  extract_lets own armed cur refused rw rf rs w1c now1 now s1 s2
  have h1 : Sizes s s1 := setN_sizes addr now s
  have h2 : Sizes s1 s2 := by
    refine .ite (fun _ => .refl) fun _ => ?_
    cases own with
    | device => exact putShadow_sizes _ _ _ _ _
    | station n => exact .ite (fun _ => putShadow_sizes _ _ _ _ _) fun _ => hdrop _ _
    | nobody => exact hdrop _ _
  exact (h1.then h2).thenUnless (dropWrite_sizes _ _ _ _)

theorem clearCount_sizes (r : RegInfo) (addr val : Nat) (s : State) : Sizes s (clearCount r addr val s) := by
  unfold clearCount
  split
  · refine .ite (fun _ => ?_) fun _ => .refl
    split
    · exact fset_sizes _ _ _ _ _
    · exact .refl
  · exact .refl

end Sys2Proof.Machine

/-! PROOFS. The sizes: field outputs, milestones, power domains, the waystation state and aborted bales. -/

namespace Sys2Proof.Machine

-- One theorem after the other: many at once ask for too many threads.
set_option Elab.async false

/-! ## Field outputs and milestones -/

theorem resumeTest_sizes (ch : Nat) (s : State) : Sizes s (resumeTest ch s) := setFio_sizes _ _ _

theorem fieldFault_sizes (code ch bale : Nat) (s : State) : Sizes s (fieldFault code ch bale s) := logFault_sizes _ _

theorem setFieldSafe_sizes (b : Bool) (s : State) : Sizes s { s with fieldSafe := b } := .of_lens rfl

theorem leaveSafe_sizes (s : State) : Sizes s (leaveSafe s) :=
  .ite (fun _ => .refl) fun _ => (setFieldSafe_sizes false s).then
    ((Sizes.foldl (fun _ _ => .ite (fun _ => setFio_sizes _ _ _) fun _ => .refl) _ _).then (driveStopLine_sizes _))

theorem sendAbsents_sizes (gs : List Nat) (tag : Nat) (s : State) : Sizes s (sendAbsents gs tag s) := (sendAbsents_touches gs tag s).sizes
theorem addMile_sizes (m : Mile) (s : State) : Sizes s (addMile m s) := (addMile_touches m s).sizes
theorem mileState_sizes (e st : Nat) (s : State) : Sizes s (mileState e st s) := (mileState_touches e st s).sizes
theorem freeMile_sizes (e : Nat) (s : State) : Sizes s (freeMile e s) := (freeMile_touches e s).sizes
theorem leaveArmed_sizes (e : Nat) (s : State) : Sizes s (leaveArmed e s) := (leaveArmed_touches e s).sizes
theorem releaseBale_sizes (id : Nat) (s : State) : Sizes s (releaseBale id s) := (releaseBale_touches id s).sizes
theorem missed_sizes (e : Nat) (s : State) : Sizes s (missed e s) := (missed_touches e s).sizes
theorem mbPut_sizes (n type : Nat) (payload : List Dword) (s : State) : Sizes s (mbPut n type payload s) := (mbPut_touches n type payload s).sizes

theorem setNextBale_sizes (w : Word) (s : State) : Sizes s { s with nextBale := w } := .of_lens rfl

theorem trigger_sizes (n pTrig : Nat) (s : State) : Sizes s (trigger n pTrig s) := by
  unfold trigger
  extract_lets ignored s1 tseq groups s2
  have h1 : Sizes s s1 := Sizes.refl.thenIf (State.setReg_touches _ _ _).sizes
  have h2 : Sizes s1 s2 := bump_sizes _ _
  split
  · exact (h1.then h2).thenIf (sendAbsents_sizes _ _ _)
  · split
    · exact h1.then ((setNextBale_sizes _ _).then ((addMile_sizes _ _).then
        ((tryAdmit_touches _ _ _ _ _ _ _).sizes.then (passedEntry_touches _ _).sizes)))
    · exact (h1.then ((bump_sizes _ _).then ((raise_sizes _ _).then (sendAbsents_sizes _ _ _)))).thenIf (assertStop_sizes _ _ _)
    · exact h1

theorem commitLive_sizes (b : Bale) (e outcome rule : Nat) (s : State) : Sizes s (commitLive b e outcome rule s) := by
  unfold commitLive
  extract_lets undo s1 s2 s3
  have h1 : Sizes s s1 := (setN_sizes _ _ _).then (setN_sizes _ _ _)
  have h2 : Sizes s1 s2 := (decide_touches _ _ _ _ _).sizes.then (setMile_sizes _ _ _)
  have h3 : Sizes s2 s3 := by
    dsimp only [s3]
    split
    · exact Sizes.refl.thenIf (assertStop_sizes _ _ _)
    · exact .refl
  exact h1.then (h2.then (h3.then ((leaveArmed_sizes _ _).then (crossEntry_touches _ _).sizes)))

theorem commitCopy_sizes (b : Bale) (outcome rule : Nat) (s : State) : Sizes s (commitCopy b outcome rule s) :=
  (((setN_sizes _ _ _).then (setN_sizes _ _ _)).thenIf (setFlag_sizes _ _ _ _)).then
    ((mbPut_sizes _ _ _ _).then (releaseBale_sizes _ _))

theorem lateCommit_sizes (bale : Nat) (s : State) : Sizes s (lateCommit bale s) := by
  unfold lateCommit
  split
  · exact (bump_sizes _ _).then ((raise_sizes _ _).then (setMile_sizes _ _ _))
  · exact .refl

theorem readbackFail_sizes (n : Nat) (e : Option Nat) (s : State) : Sizes s (readbackFail n e s) := by
  cases e with
  | some e => exact ((setMile_sizes _ _ _).then (bump_sizes _ _)).thenIf (assertStop_sizes _ _ _)
  | none => exact (bump_sizes _ _).thenIf (assertStop_sizes _ _ _)

theorem fireReport_sizes (link addr result cmd bale : Nat) (s : State) : Sizes s (fireReport link addr result cmd bale s) := by
  have hheard : ∀ u : State, Sizes u (u.setMile cmd fun m => { m with reported := true, pending := none }) := fun _ => setMile_sizes _ _ _
  refine .ite (fun _ => .ite (fun _ => (hheard s).then (mileState_sizes _ _ _)) fun _ => .ite (fun _ => ?_) fun _ =>
    .ite (fun _ => (hheard s).then (missed_sizes _ _)) fun _ => .refl) fun _ =>
    .ite (fun _ => .ite (fun _ => readbackFail_sizes _ _ _) fun _ => ?_) fun _ => .refl
  · exact (hheard s).then ((mileState_sizes _ _ _).then (readbackFail_sizes _ _ _))
  · split
    · exact readbackFail_sizes _ _ _
    · exact .refl

theorem stopClr_sizes (n : Nat) (s : State) : Sizes s (stopClr n s) := (setStn_sizes _ _ _).then (driveStopLine_sizes _)

theorem cancelAll_sizes (n : Nat) (s : State) : Sizes s (cancelAll n s) :=
  .ite (fun _ => .refl) fun _ => Sizes.foldl (fun _ m => (cancelOne_touches _ m).sizes) _ _

theorem trigEnClear_sizes (n : Nat) (s : State) : Sizes s (trigEnClear n s) := by
  unfold trigEnClear
  exact (setStn_sizes _ _ _).then ((Sizes.refl.thenUnless (cancelGrants_touches _ _).sizes).then (settleArm_touches _ _ _).sizes)

/-! ## Power domains -/

theorem linksDown_sizes (s : State) : Sizes s (linksDown s) := by
  intro hs
  simp only [linksDown, State.sized, Bool.and_eq_true, beq_iff_eq, List.length_replicate] at hs ⊢
  tauto

theorem allDown_sizes (s : State) : Sizes s (allDown s) := by
  rw [allDown_eq]
  exact (Sizes.foldl (fun _ _ => (setEpState_touches _ _ _ _).sizes) _ _).then (linksDown_sizes _)

theorem safeState_sizes (s : State) : Sizes s (safeState s).1 := (safeState_touches s).sizes

/-- The tiles, each put to a value that hangs on it and its number. -/
theorem mapTiles_sizes (f : Nat × Tile → Tile) (s : State) : Sizes s { s with tiles := (indexed s.tiles).map f } :=
  .of_lens (by simp only [State.lens, indexed, List.length_map, List.length_zip, List.length_range, Nat.min_self])

theorem rebuildBand_sizes (holes : Bool) (failed : List Nat) (b : Nat) (s : State) : Sizes s (rebuildBand holes failed b s) :=
  mapTiles_sizes _ s

theorem darkBand_sizes (b : Nat) (s : State) : Sizes s (darkBand b s) := mapTiles_sizes _ s

theorem lightBand_sizes (b : Nat) (s : State) : Sizes s (lightBand b s) := .ite (fun _ => .refl) fun _ => mapTiles_sizes _ s

theorem setRegs_sizes (r : RegFile) (s : State) : Sizes s { s with regs := r } := .of_lens rfl

theorem resetDomain_sizes (d : Nat) (s : State) : Sizes s (resetDomain d s) := by
  unfold resetDomain
  extract_lets t
  have ht : Sizes s t := setRegs_sizes _ s
  refine ht.then ?_
  clear_value t
  refine .ite (fun _ => ?_) fun _ => .ite (fun _ => ?_) fun _ => .ite (fun _ => ?_) fun _ => .ite (fun _ => ?_) fun _ =>
    .ite (fun _ => (setN_sizes _ _ _).then (darkBand_sizes _ _)) fun _ => .ite (fun _ => .of_lens rfl) fun _ => .refl
  all_goals
    intro hs
    simp only [State.sized, Bool.and_eq_true, beq_iff_eq, List.length_replicate, List.length_append, List.length_drop,
      List.length_take, List.length_cons, List.length_nil, and_true] at hs ⊢
    omega

theorem switchOff_sizes (d : Nat) (s : State) : Sizes s (switchOff d s) :=
  .ite (fun _ => .refl) fun _ => (Sizes.refl.thenIf (safeState_sizes s)).then ((setFlag_sizes _ _ _ _).then (resetDomain_sizes _ _))

theorem switchOn_sizes (d : Nat) (s : State) : Sizes s (switchOn d s) :=
  .ite (fun _ => .refl) fun _ => (((resetDomain_sizes _ _).then (setFlag_sizes _ _ _ _)).thenIf (lightBand_sizes _ _)).thenIf (leaveSafe_sizes _)

theorem needDomains_sizes (ds : List Nat) (s : State) : Sizes s (needDomains ds s) := Sizes.foldl (fun _ _ => switchOn_sizes _ _) _ _

end Sys2Proof.Machine

/-! PROOFS. The sizes: the waystation state, resets, and bales that are aborted. -/

namespace Sys2Proof.Machine

-- One theorem after the other: many at once ask for too many threads.
set_option Elab.async false

/-! ## The waystation state and resets -/

theorem discardWork_sizes (s : State) : Sizes s (discardWork s) :=
  .of_lens (by simp only [discardWork, State.lens, List.length_map])

/-- What the reset values leave: the lists of a fresh device beside those of `s`. -/
theorem resetDomains_sizes (s : State) : Sizes s (resetDomains s) := by
  unfold resetDomains
  extract_lets t keep
  have ht : Sizes s t := (safeState_sizes s).then ((allDown_sizes _).then (discardWork_sizes _))
  refine ht.then ?_
  clear_value t
  intro hs
  simp only [State.sized, Bool.and_eq_true, beq_iff_eq, List.length_replicate, List.length_map, List.length_range, List.length_cons,
    List.length_nil, and_true, true_and] at hs ⊢
  tauto

theorem wayLanes_sizes (s : State) : Sizes s (wayLanes s) := by
  unfold wayLanes
  generalize List.range 24 = lanes
  extract_lets m s1 s2
  have h1 : Sizes s s1 := Sizes.foldl (fun _ _ => .ite (fun _ => .refl) fun _ =>
    (setN_sizes _ _ _).then ((setLane_sizes _ _ _).then (laneStat_sizes _ _ _ _ _ _))) _ _
  have h2 : Sizes s1 s2 := (startPcs_sizes _ _ _).then (startPcs_sizes _ _ _)
  exact (h1.then h2).thenUnless ((setTapsNow_sizes _ _ _).then ((setN_sizes _ _ _).then (laneStat_sizes _ _ _ _ _ _)))

theorem waystation_sizes (cause unit index : Nat) (s : State) : Sizes s (waystation cause unit index s) := by
  unfold waystation
  generalize List.range 16 = units
  extract_lets s1 s2 s3 s4 s5
  have h1 : Sizes s s1 := Sizes.foldl (fun _ _ => .ite (fun _ => .ite (fun _ => (discardShadows_touches _ _).sizes)
    fun _ => (applyShadows_touches _ _).sizes) fun _ => .refl) _ _
  have h2 : Sizes s1 s2 := (safeState_sizes _).then ((allDown_sizes _).then (discardWork_sizes _))
  have h3 : Sizes s2 s3 := (setN_sizes _ _ _).then (setFlag_sizes _ _ _ _)
  have h4 : Sizes s3 s4 := Sizes.foldl (fun _ _ => .ite (fun _ => .refl) fun _ => switchOff_sizes _ _) _ _
  have h5 : Sizes s4 s5 := (Sizes.refl.thenIf (switchOn_sizes _ _)).then (switchOn_sizes _ _)
  have h6 : Sizes s5 (wayLanes (s5.setFlag Reg.mflStatus 31 false)) := (setFlag_sizes _ _ _ _).then (wayLanes_sizes _)
  intro hs
  have hw := (h1.then (h2.then (h3.then (h4.then (h5.then h6))))) hs
  have h5s := (h1.then (h2.then (h3.then (h4.then h5)))) hs
  clear_value s5
  simp only [State.sized, Bool.and_eq_true, beq_iff_eq, List.length_replicate, List.length_map] at hw h5s ⊢
  tauto

theorem toWaystation_sizes (cause : Nat) (f : FaultRec) (s : State) : Sizes s (toWaystation cause f s) :=
  .ite (fun _ => logFault_sizes _ _) fun _ => (logFault_sizes _ _).then (waystation_sizes _ _ _ _)

/-! ## Aborted bales -/

theorem clearWork_sizes (id : Nat) (s : State) : Sizes s (clearWork id s) :=
  Sizes.foldl (fun _ _ => .ite (fun _ => (setTile_sizes _ _ _).then (setN_sizes _ _ _)) fun _ => .refl) _ _

theorem settleTurn_sizes (n : Nat) (s : State) : Sizes s (settleTurn n s) := (settleTurn_touches n s).sizes
theorem showPass_sizes (s : State) : Sizes s (showPass s) := (showPass_touches s).sizes
theorem queueStripe_sizes (id : Nat) (s : State) : Sizes s (queueStripe id s) := (queueStripe_touches id s).sizes
theorem settleTiles_sizes (n : Nat) (s : State) : Sizes s (settleTiles n s) := (settleTiles_touches n s).sizes

theorem stopWork_sizes (id : Nat) (s : State) : Sizes s (stopWork id s) := by
  unfold stopWork
  extract_lets s1 gone cleared s2
  have h1 : Sizes s s1 := by
    dsimp only [s1]
    split
    · exact Sizes.refl.thenIf (setN_sizes _ _ _)
    · exact .refl
  have hcleared : Sizes s1 cleared := clearWork_sizes id s1
  clear_value cleared
  have h2 : Sizes cleared s2 := .of_lens rfl
  refine h1.then (hcleared.then (h2.then ?_))
  clear_value s2
  exact (showPass_sizes _).after (Sizes.foldl (fun _ _ => settleTurn_sizes _ _) _ _)

theorem retryBale_sizes (b : Bale) (f : FaultRec) (log : Bool) (s : State) : Sizes s (retryBale b f log s).1 := by
  unfold retryBale
  extract_lets f1 rec_ s1 left s2 s3
  have hrec : ∀ a u, Sizes u (rec_ a u) := fun a u => Sizes.refl.thenIf (logFault_sizes { f1 with action := a } u)
  have h1 : Sizes s s1 := (bump_sizes _ _).then (hrec _ _)
  have h2 : Sizes s s2 := (bump_sizes _ _).then (hrec _ _)
  have h3 : Sizes s2 s3 := logFault_sizes _ _
  split
  · exact h1.then (setBale_sizes _ _ _)
  · exact (h2.then h3).then (setBale_sizes _ _ _)

theorem dropAbandoned_sizes (id : Nat) (s : State) : Sizes s (dropAbandoned id s) := by
  unfold dropAbandoned
  split
  · exact .ite (fun _ => (Sizes.refl.thenIf (setFlag_sizes _ _ _ _)).then (releaseBale_sizes _ _)) fun _ => .refl
  · exact .refl

theorem abortBale_sizes (id : Nat) (f : FaultRec) (s : State) : Sizes s (abortBale id f s) := by
  unfold abortBale
  split
  · exact logFault_sizes _ _
  · exact .ite (fun _ => logFault_sizes _ _) fun _ => ((stopWork_sizes _ _).then ((retryBale_sizes _ _ _ _).then (settleTiles_sizes _ _))).then
      (.ite (fun _ => queueStripe_sizes _ _) fun _ => dropAbandoned_sizes _ _)

theorem setBoot_sizes (b : Boot) (s : State) : Sizes s { s with boot := b } := .of_lens rfl

theorem khanFault_sizes (s : State) : Sizes s (khanFault s) := by
  unfold khanFault
  extract_lets again f s1
  refine .ite (fun _ => toWaystation_sizes _ _ _) fun _ => ((setBoot_sizes _ s).then (logFault_sizes _ _)).then (Sizes.foldl (fun u b => ?_) _ _)
  exact ((stopWork_sizes _ _).then ((retryBale_sizes _ _ _ _).then (settleTiles_sizes _ _))).then
    (.ite (fun _ => setBale_sizes _ _ _) fun _ => dropAbandoned_sizes _ _)

theorem isolation_sizes (n : Nat) (bale : Option Nat) (unit index : Nat) (s : State) : Sizes s (isolation n bale unit index s) := by
  cases bale with
  | some id => exact (bump_sizes _ _).then ((raise_sizes _ _).then (abortBale_sizes _ _ _))
  | none => exact (bump_sizes _ _).then ((raise_sizes _ _).then (logFault_sizes _ _))

end Sys2Proof.Machine

/-! PROOFS. The sizes: lines, image passes, captures and replays. -/

namespace Sys2Proof.Machine

-- One theorem after the other: many at once ask for too many threads.
set_option Elab.async false

theorem setRing_sizes (k : Nat) (f : Nat × Nat → Nat × Nat) (s : State) : Sizes s { s with rings := modAt s.rings k f } := .of_lens rfl

theorem takeFree_sizes (s : State) : Sizes s (takeFree s).2 := .of_lens rfl

theorem putDisplay_sizes (n k : Nat) (b : Bale) (bs : List Byte) (st : State × Writes × Bool) :
    Sizes st.1 (putDisplay n k b bs st).1 := by
  unfold putDisplay
  dsimp only
  split
  · exact bump_sizes _ _
  · exact (setRing_sizes _ _ _).then (fset_sizes _ _ _ _ _)

theorem displayStripe_sizes (b : Bale) (blk : StnBlock) (x : IspCtx) (c : CamDecl) (k : Nat) (st : State × Writes × Bool) :
    Sizes st.1 (displayStripe b blk x c k st).1 :=
  Sizes.foldlOn Prod.fst (fun _ _ => putDisplay_sizes _ _ _ _ _) _ _

theorem codingOut_sizes (b : Bale) (blk : StnBlock) (x : IspCtx) (c : CamDecl) (st : State × Writes × Bool) :
    Sizes st.1 (codingOut b blk x c st).1 := by
  unfold codingOut
  dsimp only
  split
  · exact bump_sizes _ _
  · exact .of_lens rfl

theorem outputStripe_sizes (id : Nat) (x : IspCtx) (k : Nat) (s : State) : Sizes s (outputStripe id x k s).1 := by
  unfold outputStripe
  split
  · exact .refl
  · next b _ =>
    split
    · next blk c _ _ =>
      split
      · exact .refl
      · extract_lets st1 st2 st3 t
        have h2 : Sizes s st2.1 := by
          dsimp only [st2]
          split
          · exact displayStripe_sizes b blk x c k (s, [], false)
          · exact .refl
        have h3 : Sizes st2.1 st3.1 := by
          dsimp only [st3]
          split
          · exact codingOut_sizes b blk x c st2
          · exact .refl
        exact (h2.then (h3.then (setBale_sizes _ _ _))).thenIf (isolation_sizes _ _ _ _ _)
    · exact .refl

theorem takeStripe_sizes (id k : Nat) (x : IspCtx) (c : CamDecl) (s : State) : Sizes s (takeStripe id k x c s) := by
  unfold takeStripe
  split
  · exact .refl
  · exact .ite (fun _ => .refl) fun _ => .ite (fun _ => (setBale_sizes _ _ _).then (setN_sizes _ _ _))
      fun _ => (setBale_sizes _ _ _).then (bump_sizes _ _)

theorem fillSlot_sizes (id k : Nat) (blk : StnBlock) (x : IspCtx) (c : CamDecl) (s : State) : Sizes s (fillSlot id k blk x c s).1 := by
  unfold fillSlot
  split
  · exact .refl
  · extract_lets have_ span new full w t
    have ht : Sizes s t := setBale_sizes _ _ _
    split
    · exact ht.then ((Sizes.refl.thenUnless (setN_sizes _ _ _)).then (outputStripe_sizes _ _ _ _))
    · exact ht

theorem fillInline_sizes (id cam : Nat) (s : State) : Sizes s (fillInline id cam s).1 := by
  unfold fillInline
  split
  · exact .refl
  · split
    · exact .refl
    · next blk _ =>
      refine Sizes.foldlOn Prod.fst (fun st x => ?_) _ (s, [])
      split
      · exact .refl
      · next c _ =>
        split
        · exact .refl
        · split
          · refine Sizes.foldlOn Prod.fst (fun u v => ?_) _ st
            exact fillSlot_sizes id v.stripe blk x c u.1
          · refine Sizes.foldlOn Prod.fst (fun u k => ?_) _ st
            exact outputStripe_sizes id x k u.1

theorem setCam_sizes (c : Nat) (f : Cam → Cam) (s : State) : Sizes s (s.setCam c f) := (State.setCam_touches s c f).sizes

theorem trackLine_sizes (b : Bale) (c : CamDecl) (line plane : Nat) (s : State) : Sizes s (trackLine b c line plane s) := by
  unfold trackLine
  extract_lets dark old bl t w
  have ht : Sizes s t := setCam_sizes _ _ _
  split <;> exact ht.then (fset_sizes _ _ _ _ _)

theorem captureLine_sizes (b : Bale) (c : CamDecl) (line plane : Nat) (s : State) : Sizes s (captureLine b c line plane s).1 := by
  unfold captureLine
  split
  · split
    · extract_lets a total
      split
      · exact .refl
      · exact isolation_sizes _ _ _ _ _
    · exact .refl
  · exact .refl

theorem setBales_sizes (bs : List Bale) (s : State) : Sizes s { s with bales := bs } := .of_lens rfl

theorem lineArrived_sizes (id line plane : Nat) (c : CamDecl) (s : State) : Sizes s (lineArrived id line plane c s).1 := by
  unfold lineArrived
  split
  · exact .refl
  · next b _ =>
    extract_lets s1 cap s2 px copies w s3 s4 f s5 s6
    have h2 : Sizes s s2 := (trackLine_sizes _ _ _ _ _).then (captureLine_sizes _ _ _ _ _)
    clear_value s2
    have h3 : Sizes s2 s3 := setBales_sizes _ _
    clear_value s3
    have h4 : Sizes s3 s4 := by
      dsimp only [s4]
      split
      · split
        · exact .ite (fun _ => takeStripe_sizes _ _ _ _ _) fun _ => .refl
        · exact .refl
      · exact .refl
    clear_value s4
    have h5 : Sizes s4 f.1 := by
      dsimp only [f]
      split
      · exact fillInline_sizes _ _ _
      · exact .refl
    have h6 : Sizes f.1 s6 := (queueStripe_sizes _ _).then (Sizes.foldl (fun _ _ => queueStripe_sizes _ _) _ _)
    exact h2.then (h3.then (h4.then (h5.then h6)))

theorem lineData_sizes (cam id line plane offset : Nat) (last : Bool) (px : List Nat) (s : State) :
    Sizes s (lineData cam id line plane offset last px s).1 := by
  unfold lineData
  split
  · extract_lets fits w t
    have ht : Sizes s t := setBale_sizes _ _ _
    clear_value t
    split
    · split
      · exact ht.then (lineArrived_sizes _ _ _ _ _)
      · exact ht
    · exact raise_sizes _ _
  · exact raise_sizes _ _

theorem lineMissing_sizes (cam id line : Nat) (s : State) : Sizes s (lineMissing cam id line s) := by
  unfold lineMissing
  split
  · refine .ite (fun _ => ?_) fun _ => .refl
    exact ((bump_sizes _ _).then ((raise_sizes _ _).then (logFault_sizes _ _))).then
      ((releaseBale_sizes _ _).after ((stopWork_sizes _ _).after (Sizes.foldl (fun _ _ => stopWork_sizes _ _) _ _)))
  · exact .refl

theorem setIsp_sizes (x : Option (Nat × Nat × Nat)) (s : State) : Sizes s { s with isp := x } := .of_lens rfl

theorem endPass_sizes (ctx : Nat) (s : State) : Sizes s (endPass ctx s).1 := by
  unfold endPass
  split
  · exact .refl
  · split
    · exact .refl
    · extract_lets t
      have ht : Sizes s t := setIsp_sizes _ _
      clear_value t
      split
      · exact ht.then (setN_sizes _ _ _)
      · rename_i u _ b _
        have hu : Sizes s u := ht.then (setN_sizes _ _ _)
        clear_value u
        split
        · exact hu
        · split
          · exact hu
          · split
            · exact hu
            · extract_lets rows w v r
              have hv : Sizes u v := .ite (fun _ => setBale_sizes _ _ _) fun _ => .refl
              clear_value v
              refine hu.then (hv.then ?_)
              dsimp only [r]
              split
              · exact outputStripe_sizes _ _ _ _
              · exact .refl

theorem failPass_sizes (ctx : Nat) (s : State) : Sizes s (failPass ctx s) := by
  unfold failPass
  split
  · exact .ite (fun _ => (setIsp_sizes none s).then ((setN_sizes _ _ _).then (abortBale_sizes _ _ _))) fun _ => .refl
  · exact .refl

theorem setCapture_sizes (x : Option (Nat × Option Nat)) (s : State) : Sizes s { s with capture := x } := .of_lens rfl

theorem captureGo_sizes (cam : Nat) (s : State) : Sizes s (captureGo cam s) :=
  .ite (fun _ => .refl) fun _ => (needDomains_sizes [domIsp] s).then ((setN_sizes _ _ _).then (setCapture_sizes _ _))

theorem replayRefused_sizes (code : Nat) (s : State) : Sizes s (replayRefused code s) := setN_sizes _ _ _

theorem replayGo_sizes (n : Nat) (s : State) : Sizes s (replayGo n s) := by
  unfold replayGo
  extract_lets t a header u id shown
  have ht : Sizes s t := fset_sizes _ _ _ _ _
  have hrefused : ∀ code, Sizes s (replayRefused code t) := fun code => ht.then (replayRefused_sizes code t)
  have hu : Sizes s u := ht.then ((needDomains_sizes _ _).then (fset_sizes _ _ _ _ _))
  have hshown : Sizes u shown := setN_sizes _ _ _
  refine .ite (fun _ => ht) fun _ => ?_
  split
  · split
    · exact hrefused 2
    · refine .ite (fun _ => hrefused 3) fun _ => .ite (fun _ => hrefused 2) fun _ => .ite (fun _ => hrefused 3) fun _ =>
        .ite (fun _ => hrefused 1) fun _ => hu.then (hshown.then ?_)
      clear_value shown
      exact (queueStripe_sizes _ _).after (.of_lens rfl)
  · exact hrefused 2

end Sys2Proof.Machine

/-! PROOFS. The sizes: odometers and references. -/

namespace Sys2Proof.Machine

-- One theorem after the other: many at once ask for too many threads.
set_option Elab.async false

/-! ## Sources of a reference -/

theorem handover_sizes (n y : Nat) (s : State) : Sizes s (handover n y s) := (handover_touches n y s).sizes

theorem lose_sizes (n : Nat) (s : State) : Sizes s (lose n s) :=
  (setRef_sizes _ _ _).then ((raise_sizes _ _).then ((assertStop_sizes _ _ _).then (cancelFires_touches _ _).sizes))

theorem failover_sizes (n : Nat) (synth : Bool) (s : State) : Sizes s (failover n synth s) := by
  unfold failover
  dsimp only
  split
  · exact handover_sizes _ _ _
  · refine .ite (fun _ => handover_sizes _ _ _) fun _ => ?_
    split
    · exact handover_sizes _ _ _
    · exact lose_sizes _ _

theorem sourceBad_sizes (n src : Nat) (s : State) : Sizes s (sourceBad n src s) :=
  (setRef_sizes _ _ _).thenIf (failover_sizes _ _ _)

theorem requalify_sizes (n src : Nat) (s : State) : Sizes s (requalify n src s) := by
  unfold requalify
  split
  · exact .refl
  · exact setRef_sizes _ _ _

theorem sourceGood_sizes (n src : Nat) (s : State) : Sizes s (sourceGood n src s) :=
  .ite (fun _ => (setRef_sizes _ _ _).then (handover_sizes _ _ _)) fun _ => .ite (fun _ => .refl) fun _ =>
    .ite (fun _ => .ite (fun _ => setRef_sizes _ _ _) fun _ => requalify_sizes _ _ _) fun _ => setRef_sizes _ _ _

theorem endHandover_sizes (n : Nat) (s : State) : Sizes s (endHandover n s) :=
  ((setRef_sizes _ _ _).then (raise_sizes _ _)).then (Sizes.foldl (fun _ _ => requalify_sizes _ _ _) _ _)

theorem odoHealth_sizes (c : Nat) (s : State) : Sizes s (odoHealth c s) := by
  unfold odoHealth
  extract_lets ok was t
  have ht : Sizes s t := setFlag_sizes _ _ _ _
  clear_value t
  exact ht.thenUnless (Sizes.foldl (fun _ _ => .ite (fun _ => sourceGood_sizes _ _ _) fun _ => sourceBad_sizes _ _ _) _ _)

/-! ## A reference moves -/

theorem lineTriggers_sizes (n : Nat) (s : State) : Sizes s (lineTriggers n s) := (lineTriggers_touches n s).sizes
theorem crossAll_sizes (n : Nat) (s : State) : Sizes s (crossAll n s) := (crossAll_touches n s).sizes

theorem stepForward_sizes (n : Nat) (s : State) : Sizes s (stepForward n s) := by
  unfold stepForward
  extract_lets t r u
  have ht : Sizes s t := setRef_sizes _ _ _
  have hu : Sizes t u := Sizes.refl.thenIf (setStn_sizes _ _ _)
  clear_value u
  exact (ht.then hu).thenIf ((lineTriggers_sizes _ _).after ((crossAll_sizes _ _).after ((setRef_sizes _ _ _).then (setStn_sizes _ _ _))))

theorem stepBack_sizes (n : Nat) (s : State) : Sizes s (stepBack n s) := by
  unfold stepBack
  extract_lets t r slack u
  have ht : Sizes s t := setRef_sizes _ _ _
  have hu : Sizes t u := (setStn_sizes _ _ _).then (raise_sizes _ _)
  clear_value u
  exact ht.thenIf (hu.thenIf (assertStop_sizes _ _ _))

theorem moveRef_sizes (n : Nat) (k : Int) (s : State) : Sizes s (moveRef n k s) :=
  .ite (fun _ => Sizes.foldl (fun _ _ => stepBack_sizes _ _) _ _) fun _ => .ite (fun _ => .refl) fun _ =>
    (predictFires_touches _ _).sizes.after (Sizes.foldl (fun _ _ => stepForward_sizes _ _) _ _)

theorem activeTick_sizes (n : Nat) (d : Int) (s : State) : Sizes s (activeTick n d s) := by
  unfold activeTick
  extract_lets r fwd step t u r2 target
  have ht : Sizes s t := setRef_sizes _ _ _
  have hu : Sizes t u := (moveRef_sizes _ _ _).then (setRef_sizes _ _ _)
  clear_value u
  exact (ht.then hu).thenIf (endHandover_sizes _ _)

theorem idleTickOf_sizes (n src : Nat) (d : Int) (s : State) : Sizes s (idleTickOf n src d s) := by
  unfold idleTickOf
  extract_lets t r u
  have ht : Sizes s t := setRef_sizes _ _ _
  have hu : Sizes t u := setRef_sizes _ _ _
  refine ht.thenIf (.ite (fun _ => hu.then ?_) fun _ => hu)
  clear_value u
  split
  · exact (setOdo_sizes _ _ _).then (odoHealth_sizes _ _)
  · exact .refl

theorem sourceTick_sizes (n src : Nat) (d : Int) (s : State) : Sizes s (sourceTick n src d s) :=
  .ite (fun _ => activeTick_sizes _ _ _) fun _ => idleTickOf_sizes _ _ _ _

/-! ## Samples -/

theorem stick_sizes (a i : Nat) (s : State) : Sizes s (stick a i s) := .of_lens rfl

theorem odoError_sizes (c : Nat) (s : State) : Sizes s (odoError c s) := by
  unfold odoError
  extract_lets t ok u v
  have ht : Sizes s t := (setOdo_sizes _ _ _).then (bump_sizes _ _)
  clear_value t
  have hu : Sizes t u := setOdo_sizes _ _ _
  have hv : Sizes u v := Sizes.refl.thenIf (logFault_sizes _ _)
  exact ht.thenIf (hu.then (hv.then (odoHealth_sizes _ _)))

theorem odoIllegal_sizes (c : Nat) (s : State) : Sizes s (odoIllegal c s) :=
  (stick_sizes _ _ _).then ((raise_sizes _ _).then (odoError_sizes _ _))

theorem odoDirection_sizes (c : Nat) (s : State) : Sizes s (odoDirection c s) :=
  .ite (fun _ => setOdo_sizes _ _ _) fun _ => .ite (fun _ => ((setFlag_sizes _ _ _ _).then (setOdo_sizes _ _ _)).then
    ((stick_sizes _ _ _).then (raise_sizes _ _))) fun _ => .refl

theorem odoTick_sizes (c : Nat) (d : Int) (s : State) : Sizes s (odoTick c d s) := by
  unfold odoTick
  extract_lets d2 t u v w
  have ht : Sizes s t := by
    dsimp only [t]
    split
    · exact setN_sizes _ _ _
    · exact .refl
  have hu : Sizes t u := setOdo_sizes _ _ _
  have hv : Sizes u v := odoDirection_sizes _ _
  have hw : Sizes v w := Sizes.refl.thenIf ((setOdo_sizes _ _ _).then (odoHealth_sizes _ _))
  refine ht.then (hu.then (hv.then (hw.then ?_)))
  clear_value w
  exact Sizes.foldl (fun _ _ => sourceTick_sizes _ _ _ _) _ _

theorem odoIndex_sizes (c : Nat) (s : State) : Sizes s (odoIndex c s) := by
  unfold odoIndex
  extract_lets mode o cpr t zero u
  refine .ite (fun _ => .refl) fun _ => ?_
  have ht : Sizes s t := (setOdo_sizes _ _ _).then (stick_sizes _ _ _)
  have hu : Sizes t u := Sizes.refl.thenIf ((setOdo_sizes _ _ _).then (setFlag_sizes _ _ _ _))
  refine ht.then (hu.then ?_)
  clear_value u
  split
  · exact .ite (fun _ => .refl) fun _ => (setN_sizes _ _ _).thenIf ((stick_sizes _ _ _).then ((raise_sizes _ _).then (odoHealth_sizes _ _)))
  · exact .refl

theorem quadChange_sizes (c m : Nat) (a0 b0 a b : Bool) (s : State) : Sizes s (quadChange c m a0 b0 a b s) :=
  .ite (fun _ => .refl) fun _ => .ite (fun _ => odoIllegal_sizes _ _) fun _ => .ite (fun _ => odoTick_sizes _ _ _) fun _ => .refl

theorem hallChange_sizes (c : Nat) (from_ to_ : Option Nat) (s : State) : Sizes s (hallChange c from_ to_ s) := by
  unfold hallChange
  split
  · exact (stick_sizes _ _ _).then (odoError_sizes _ _)
  · exact .refl
  · exact .ite (fun _ => odoTick_sizes _ _ _) fun _ => .ite (fun _ => odoTick_sizes _ _ _)
      fun _ => (stick_sizes _ _ _).then (odoError_sizes _ _)

theorem odoSample_sizes (c : Nat) (a b z bNew : Bool) (s : State) : Sizes s (odoSample c a b z bNew s) := by
  unfold odoSample
  extract_lets o m t u
  have ht : Sizes s t := setOdo_sizes _ _ _
  have hu : Sizes t u := .ite (fun _ => quadChange_sizes _ _ _ _ _ _ _) fun _ =>
    .ite (fun _ => .ite (fun _ => (Sizes.refl.thenIf (odoIllegal_sizes _ _)).then (odoTick_sizes _ _ _)) fun _ => .refl) fun _ =>
      .ite (fun _ => .ite (fun _ => .refl) fun _ => hallChange_sizes _ _ _ _) fun _ => .refl
  clear_value u
  exact (ht.then hu).thenIf (odoIndex_sizes _ _)

theorem setLos_sizes (c : Nat) (s : State) : Sizes s (setLos c s) :=
  .ite (fun _ => .refl) fun _ => (setFlag_sizes _ _ _ _).then ((logFault_sizes _ _).then (odoHealth_sizes _ _))

theorem clearLos_sizes (c : Nat) (s : State) : Sizes s (clearLos c s) :=
  .ite (fun _ => (setFlag_sizes _ _ _ _).then ((setOdo_sizes _ _ _).then (odoHealth_sizes _ _))) fun _ => .refl

theorem v24bBack_sizes (s : State) : Sizes s (v24bBack s) :=
  Sizes.foldl (fun _ _ => .ite (fun _ => (setOdo_sizes _ _ _).thenUnless (clearLos_sizes _ _)) fun _ => .refl) _ _

theorem startRef_sizes (n : Nat) (s : State) : Sizes s (startRef n s) := by
  unfold startRef
  split
  · exact .refl
  · exact (setRef_sizes _ _ _).then (.ite (fun _ => setRef_sizes _ _ _) fun _ => .ite (fun _ => setRef_sizes _ _ _) fun _ => lose_sizes _ _)

end Sys2Proof.Machine

/-! PROOFS. The sizes: stripe jobs, layers, decoder sequences and verdicts. -/

namespace Sys2Proof.Machine

-- One theorem after the other: many at once ask for too many threads.
set_option Elab.async false

/-! ## Stripe jobs -/

theorem switchSpare_sizes (r : Retire) (s : State) : Sizes s (switchSpare r s) := (switchSpare_touches r s).sizes
theorem restoreAll_sizes (s : State) : Sizes s (restoreAll s) := (restoreAll_touches s).sizes

theorem completeSwaps_sizes (b : Bale) (s : State) : Sizes s (completeSwaps b s) :=
  Sizes.foldl (fun _ _ => .ite (fun _ => switchSpare_sizes _ _) fun _ => .refl) _ _

theorem checkRoi_sizes (id : Nat) (s : State) : Sizes s (checkRoi id s) := by
  unfold checkRoi
  split
  · exact .refl
  · split
    · exact .ite (fun _ => (setBale_sizes _ _ _).then (raise_sizes _ _)) fun _ => .refl
    · exact .refl

theorem setJobs_sizes (js : List Job) (s : State) : Sizes s { s with jobs := js } := .of_lens rfl

theorem workRegion_sizes (n : Nat) (s : State) : Sizes s (workRegion n s).1 := (workRegion_touches n s).sizes

theorem dispatchStripe_sizes (j : Job) {s t : State} (h : dispatchStripe j s = some t) : Sizes s t := by
  unfold dispatchStripe at h
  split at h
  · cases h
  · next b _ =>
    split at h
    · cases h
    · extract_lets got u at h
      have hgot : Sizes s got.1 := by
        dsimp only [got]
        split
        · exact .refl
        · exact workRegion_sizes _ _
      have hu : Sizes got.1 u := completeSwaps_sizes _ _
      clear_value u
      split at h
      · cases h
      · split at h
        · cases h
        · next b2 _ =>
          extract_lets place uid at h
          clear_value place
          split at h
          · cases h
          · next i ks =>
            split at h
            · cases h
            · extract_lets v w x at h
              have hv : Sizes u v := setBale_sizes _ _ _
              have hw : Sizes v w := Sizes.foldl (fun _ _ => (setTile_sizes _ _ _).then (setN_sizes _ _ _)) _ _
              clear_value w
              have hx : Sizes w x := Sizes.refl.thenIf (checkRoi_sizes _ _)
              clear_value x
              cases h
              exact hgot.then (hu.then (hv.then (hw.then (hx.then (setJobs_sizes _ x)))))

theorem pageFetched_sizes (tile page : Nat) (b : Bale) (blk : StnBlock) (s : State) : Sizes s (pageFetched tile page b blk s).1 := by
  unfold pageFetched
  split
  · exact .refl
  · split
    · exact .refl
    · exact (setTile_sizes _ _ _).then (.of_lens rfl)

/-! ## Layers -/

theorem bumpBy_sizes (w a n : Nat) (s : State) : Sizes s (bumpBy w a n s) :=
  .ite (fun _ => .refl) fun _ => (fset_sizes _ _ _ _ _).thenIf ((setFlag_sizes _ _ _ _).then (raise_sizes _ _))

theorem countConv_sizes (b : Bale) (blk : StnBlock) (l : Layer) (width : Nat) (rows : List (List (List (Nat × Conv)))) (s : State) :
    Sizes s (countConv b blk l width rows s) := by
  refine Sizes.foldl (fun u p => ?_) _ _
  split
  · exact (bumpBy_sizes _ _ _ _).then (bumpBy_sizes _ _ _ _)
  · exact .refl

theorem steerNext_sizes (id : Nat) (l : Layer) (shape : Shape) (c : CamDecl) (rows : List Row) (s : State) :
    Sizes s (steerNext id l shape c rows s) := by
  unfold steerNext
  split
  · exact .refl
  · exact (setN_sizes _ _ _).then (setBale_sizes _ _ _)

theorem cutMemory_sizes (n k memMax : Nat) (mem : List FVec) (s : State) : Sizes s (cutMemory n k memMax mem s).2 := by
  unfold cutMemory
  split
  · exact (bump_sizes _ _).then (raise_sizes _ _)
  · exact .refl

theorem setDecs_sizes (ds : List ((Nat × Nat) × Dec)) (s : State) : Sizes s { s with decs := ds } := .of_lens rfl

theorem refreshDec_sizes (n k : Nat) (s : State) : Sizes s (refreshDec n k s) := (refreshDec_touches n k s).sizes
theorem enqueue_sizes (j : Job) (s : State) : Sizes s (enqueue j s) := (enqueue_touches j s).sizes

theorem deliverRoi_sizes (id : Nat) (s : State) : Sizes s (deliverRoi id s).1 := by
  unfold deliverRoi
  split
  · exact .refl
  · next b _ =>
    split
    · exact .refl
    · split
      · exact .refl
      · split
        · exact .ite (fun _ => .refl) fun _ => (setBale_sizes _ _ _).after (Sizes.foldl (fun _ _ => bump_sizes _ _) _ _)
        · extract_lets shapes t
          have ht : Sizes s t := setBale_sizes _ _ _
          clear_value t
          refine ht.then (Sizes.foldlOn Prod.fst (fun st d => ?_) _ (t, []))
          exact (cutMemory_sizes _ _ _ _ st.1).then ((setDecs_sizes _ _).then ((refreshDec_sizes _ _ _).then (enqueue_sizes _ _)))

theorem layerDone_sizes (id i : Nat) (orders : List (List Nat)) (s : State) : Sizes s (layerDone id i orders s).1 := by
  unfold layerDone
  split
  · exact .refl
  · split
    · exact .refl
    · split
      · exact .refl
      · extract_lets sh new rows old last w t u v more
        have ht : Sizes s t := (countConv_sizes _ _ _ _ _ _).after (.of_lens rfl)
        clear_value t
        have hu : Sizes t u := setBale_sizes _ _ _
        clear_value u
        have hv : Sizes u v := Sizes.refl.thenIf (steerNext_sizes _ _ _ _ _ _)
        clear_value v
        have hrows := ht.then (hu.then hv)
        split
        · exact hrows.then (setBale_sizes _ _ _)
        · exact hrows

end Sys2Proof.Machine

/-! PROOFS. The sizes: ends of layers and stripes, decoder sequences, verdicts and retirement. -/

namespace Sys2Proof.Machine

-- One theorem after the other: many at once ask for too many threads.
set_option Elab.async false

/-! ## Layers and stripes end -/

theorem layerFault_sizes (id layer fault tile : Nat) (orders : List (List Nat)) (s : State) :
    Sizes s (layerFault id layer fault tile orders s).1 := by
  unfold layerFault
  extract_lets f
  split
  · exact (eccEvent_touches _ _).sizes.then ((restoreAll_sizes _).then (layerDone_sizes _ _ _ _))
  · split
    · exact (routerEvent_touches _ _).sizes.then ((restoreAll_sizes _).then (layerDone_sizes _ _ _ _))
    · exact .ite (fun _ => abortBale_sizes _ _ _) fun _ =>
        .ite (fun _ => (residueEvent_touches _ _).sizes.then ((restoreAll_sizes _).then (abortBale_sizes _ _ _))) fun _ =>
          .ite (fun _ => isolation_sizes _ _ _ _ _) fun _ =>
            (retire_touches _ _ _).sizes.then ((restoreAll_sizes _).then (abortBale_sizes _ _ _))

theorem layerEnd_sizes (bale layer fault tile : Nat) (orders : List (List Nat)) (s : State) :
    Sizes s (layerEnd bale layer fault tile orders s).1 := by
  unfold layerEnd
  split
  · exact .refl
  · split
    · exact .refl
    · split
      · split
        · exact layerDone_sizes _ _ _ _
        · split
          · exact layerFault_sizes _ _ _ _ _ _
          · exact .refl
      · exact .refl

theorem sealReport_sizes (b : Bale) (s : State) : Sizes s (sealReport b s) := Sizes.foldl (fun _ _ => mbPut_sizes _ _ _ _) _ _

theorem keepCarried_sizes (b : Bale) (s : State) : Sizes s (keepCarried b s).1 := by
  unfold keepCarried
  split
  · exact .refl
  · refine Sizes.foldlOn Prod.fst (fun st p => ?_) _ (s, [])
    extract_lets bs rest from_ at_
    split
    · exact .refl
    · split
      · exact .refl
      · exact setTile_sizes _ _ _

theorem advance_sizes (id : Nat) (s : State) : Sizes s (advance id s) := (advance_touches id s).sizes
theorem gateSurplus_sizes (n : Nat) (s : State) : Sizes s (gateSurplus n s) := (gateSurplus_touches n s).sizes

theorem stripeEnd_sizes (id : Nat) (s : State) : Sizes s (stripeEnd id s).1 := by
  unfold stripeEnd
  extract_lets stn t
  have ht : Sizes s t := by
    refine (clearWork_sizes _ _).after ?_
    exact .of_lens rfl
  clear_value t stn
  split
  · dsimp only
    exact ht.then ((settleTiles_sizes stn t).then (releaseRegion_touches stn _).sizes)
  · rename_i r u _ _ _
    have hu : Sizes t u := (deliverRoi_sizes id t).then (setBale_sizes id _ r.1)
    clear_value u
    split
    · exact ht.then hu
    · next b _ =>
      extract_lets k v
      have hk : Sizes u k.1 := by
        dsimp only [k]
        split
        · exact .refl
        · exact keepCarried_sizes _ _
      have hv : Sizes u v := .ite (fun _ => (sealReport_sizes _ _).then (advance_sizes _ _)) fun _ => hk.then (queueStripe_sizes _ _)
      clear_value v
      dsimp only
      exact ht.then (hu.then (hv.then ((gateSurplus_sizes stn v).then (settleTiles_sizes stn _))))

theorem stripeJobEnd_sizes (bale : Nat) (s : State) : Sizes s (stripeJobEnd bale s).1 := by
  unfold stripeJobEnd
  split
  · exact .refl
  · split
    · exact stripeEnd_sizes _ _
    · split
      · exact stripeEnd_sizes _ _
      · exact .refl

/-! ## Decoder sequences -/

theorem setDec_sizes (n k id : Nat) (f : Dec → Dec) (s : State) : Sizes s (s.setDec n k id f) := .of_lens rfl
theorem endDec_sizes (n k : Nat) (d : Dec) (s : State) : Sizes s (endDec n k d s) := (endDec_touches n k d s).sizes
theorem restartDec_sizes (n k : Nat) (d : Dec) (s : State) : Sizes s (restartDec n k d s) := (restartDec_touches n k d s).sizes
theorem stopExplain_sizes (n k : Nat) (d : Dec) (s : State) : Sizes s (stopExplain n k d s) := (stopExplain_touches n k d s).sizes
theorem passTurn_sizes (n : Nat) (s : State) : Sizes s (passTurn n s) := (passTurn_touches n s).sizes

theorem swapDecode_sizes (n : Nat) (d : Dec) (s : State) : Sizes s (swapDecode n d s) :=
  Sizes.foldl (fun _ _ => .ite (fun _ => switchSpare_sizes _ _) fun _ => .refl) _ _

theorem dispatchDecode_sizes (j : Job) {s t : State} (h : dispatchDecode j s = some t) : Sizes s t := by
  unfold dispatchDecode at h
  extract_lets wants at h
  split at h
  · cases h
  · split at h
    · cases h
    · extract_lets u at h
      have hu : Sizes s u := swapDecode_sizes _ _ _
      clear_value u
      split at h
      · cases h
      · split at h
        · cases h
        · extract_lets gen v w at h
          have hv : Sizes u v := .ite (fun _ => .of_lens rfl) fun _ => .refl
          clear_value v
          have hw : Sizes v w := setDec_sizes _ _ _ _ _
          clear_value w
          cases h
          exact hu.then (hv.then (hw.then ((setJobs_sizes _ _).then (settleTurn_sizes _ _))))

theorem retireTile_sizes (k cause : Nat) (s : State) : Sizes s (retireTile k cause s) := by
  unfold retireTile
  refine .ite (fun _ => .refl) fun _ => ?_
  extract_lets lost t
  have ht : Sizes s t := (retire_touches _ _ _).sizes.then (restoreAll_sizes _)
  clear_value t
  clear_value lost
  cases lost with
  | some n => exact ht.then (decodeTileLost_touches _ _).sizes
  | none => exact ht

theorem checkReady_sizes (id : Nat) (s : State) : Sizes s (checkReady id s) := (checkReady_touches id s).sizes

theorem decodeToken_sizes (n k : Nat) (s : State) : Sizes s (decodeToken n k s) := by
  unfold decodeToken
  split
  · exact .refl
  · next d _ =>
    refine .ite (fun _ => endDec_sizes _ _ _ _) fun _ => .ite (fun _ => .ite (fun _ => stopExplain_sizes _ _ _ _)
      fun _ => restartDec_sizes _ _ _ _) fun _ => ?_
    split
    · exact endDec_sizes _ _ _ _
    · extract_lets step ch tok toks stopped ended t u v w x y
      have ht : Sizes s t := bump_sizes _ _
      have hu : Sizes t u := setDec_sizes _ _ _ _ _
      have hv : Sizes u v := fset_sizes _ _ _ _ _
      have hw : Sizes v w := Sizes.refl.thenIf (bump_sizes _ _)
      have hx : Sizes v x := .ite (fun _ => hw.then (mbPut_sizes _ _ _ _)) fun _ => .refl
      clear_value x
      have hy : Sizes x y := endDec_sizes _ _ _ _
      clear_value y
      exact ht.then (hu.then (hv.then (hx.then (.ite (fun _ => passTurn_sizes _ _) fun _ =>
        hy.then (.ite (fun _ => .refl) fun _ => (setBale_sizes _ _ _).then (checkReady_sizes _ _))))))

theorem requestExplain_sizes (b : Bale) (blk : StnBlock) (rule : Nat) (s : State) : Sizes s (requestExplain b blk rule s) := by
  unfold requestExplain
  split
  · exact .refl
  · extract_lets n sh r d
    refine .ite (fun _ => bump_sizes _ _) fun _ => ?_
    have hr : Sizes s r.2 := cutMemory_sizes _ _ _ _ _
    exact hr.then ((setDecs_sizes _ _).then ((refreshDec_sizes _ _ _).then (enqueue_sizes _ _)))

theorem jobDispatch_sizes (n : Nat) (s : State) : Sizes s (jobDispatch n s) := by
  unfold jobDispatch
  refine .ite (fun _ => .refl) fun _ => ?_
  generalize s.byDeadline ((s.queued n).filter s.mayRun) = js
  induction js with
  | nil => exact .refl
  | cons j js ih =>
    rw [List.findSome?_cons]
    split
    · next t h =>
      split at h
      · exact dispatchStripe_sizes j h
      · cases h
      · exact dispatchDecode_sizes j h
      · exact dispatchDecode_sizes j h
    · exact ih

/-! ## Verdicts and retirement -/

theorem refuseCommand_sizes (before : State) (tile : Nat) (s : State) : Sizes s (refuseCommand before tile s) := by
  unfold refuseCommand
  split
  · exact .ite (fun _ => .refl) fun _ => abortBale_sizes _ _ _
  · exact .refl

theorem commit_sizes (b : Bale) (blk : StnBlock) (r : Nat × Nat) (s : State) : Sizes s (commit b blk r s) := by
  unfold commit
  split
  · exact commitCopy_sizes _ _ _ _
  · exact (commitLive_sizes _ _ _ _ _).thenIf (requestExplain_sizes _ _ _ _)

theorem disagree_sizes (b : Bale) (s : State) : Sizes s (disagree b s) :=
  ((bump_sizes _ _).then (raise_sizes _ _)).then
    (.ite (fun _ => (setBale_sizes _ _ _).then (logFault_sizes _ _)) fun _ => abortBale_sizes _ _ _)

theorem verdictDone_sizes (id flip : Nat) (s : State) : Sizes s (verdictDone id flip s) := by
  unfold verdictDone
  split
  · exact .ite (fun _ => lateCommit_sizes _ _) fun _ => .refl
  · refine .ite (fun _ => .refl) fun _ => ?_
    split
    · exact .refl
    · split
      · exact .refl
      · exact .ite (fun _ => commit_sizes _ _ _ _) fun _ => disagree_sizes _ _

theorem retireCmd_sizes (key tile : Nat) (s : State) : Sizes s (retireCmd key tile s) :=
  .ite (fun _ => retireTile_sizes _ _ _) fun _ => .refl

theorem snapshot_sizes (s : State) : Sizes s (snapshot s) := (snapshot_touches s).sizes
theorem showFmap_sizes (s : State) : Sizes s (showFmap s) := (showFmap_touches s).sizes

theorem setFmap_sizes (f : FieldMap) (s : State) : Sizes s { s with fmap := f } := .of_lens rfl

theorem fmapWritten_sizes (s : State) : Sizes s (fmapWritten s).1 := by
  unfold fmapWritten
  split
  · exact .refl
  · exact (setFmap_sizes _ s).then ((showFmap_sizes _).then ((logBump_touches _ _ _ _).sizes.then (snapshot_sizes _)))

theorem triggerEdge_sizes (n pos : Nat) (s : State) : Sizes s (triggerEdge n pos s) := by
  unfold triggerEdge
  extract_lets t
  have ht : Sizes s t := trigger_sizes _ _ _
  clear_value t
  split
  · exact ht.then (baleLines_touches _ _).sizes
  · exact ht

end Sys2Proof.Machine

/-! PROOFS. The sizes: field outputs, clocks, power points, links and endpoints. -/

namespace Sys2Proof.Machine

-- One theorem after the other: many at once ask for too many threads.
set_option Elab.async false

/-! ## Field outputs -/

theorem cntClr_sizes (ch : Nat) (s : State) : Sizes s (cntClr ch s) := .of_lens rfl

theorem freeChannel_sizes (ch : Nat) (s : State) : Sizes s (freeChannel ch s) := by
  unfold freeChannel
  split
  · exact (setFio_sizes _ _ _).then (freeMile_sizes _ _)
  · exact .refl

theorem rbFail_sizes (ch : Nat) (s : State) : Sizes s (rbFail ch s) := by
  unfold rbFail
  extract_lets t u
  have ht : Sizes s t := (stick_sizes _ _ _).then ((bump_sizes _ _).then (raise_sizes _ _))
  have hu : Sizes t u := fieldFault_sizes _ _ _ _
  refine ht.then (hu.then ?_)
  clear_value u
  exact Sizes.foldl (fun _ _ => readbackFail_sizes _ _ _) _ _

theorem startPulse_sizes (ch us : Nat) (e : Option Nat) (s : State) : Sizes s (startPulse ch us e s).1 := (startPulse_touches ch us e s).sizes

theorem testGo_sizes (ch : Nat) (go : Bool) (s : State) : Sizes s (testGo ch go s) := (setFlag_sizes _ _ _ _).thenIf (startPulse_sizes _ _ _ _)

theorem cutOutputs_sizes (chs : List Nat) {f : State → State} (hf : ∀ u, Sizes u (f u)) (s : State) : Sizes s (cutOutputs chs f s) :=
  (hf s).then (Sizes.foldl (fun _ _ => setFio_sizes _ _ _) _ _)

theorem trip_sizes (ch bit code : Nat) (s : State) : Sizes s (trip ch bit code s) := by
  unfold trip
  exact (stick_sizes _ _ _).then ((fieldFault_sizes _ _ _ _).then
    (cutOutputs_sizes _ (fun _ => (setFio_sizes _ _ _).then (raise_sizes _ _)) _))

theorem setUv_sizes (supply : Nat) (on : Bool) (s : State) : Sizes s (setUv supply on s) :=
  (setFlag_sizes _ _ _ _).then (Sizes.foldl (fun _ _ => setFlag_sizes _ _ _ _) _ _)

/-! ## Clocks and power points -/

theorem setRefclk_sizes (r : RefClk) (s : State) : Sizes s { s with refclk := r } := .of_lens rfl
theorem setPwr_sizes (p : Pwr) (s : State) : Sizes s { s with pwr := p } := .of_lens rfl
theorem setLenders_sizes (l : List (Nat × Nat)) (s : State) : Sizes s { s with lenders := l } := .of_lens rfl

theorem startRefMove_sizes (r : Nat) (back : Bool) (s : State) : Sizes s (startRefMove r back s) :=
  (setFlag_sizes _ _ _ s).then ((setFlag_sizes _ _ _ _).then (setRefclk_sizes _ _))

theorem refHoldover_sizes (s : State) : Sizes s (refHoldover s) :=
  ((fset_sizes _ _ _ _ s).then (setFlag_sizes _ _ _ _)).thenUnless ((setRefclk_sizes _ _).then (raise_sizes _ _))

theorem borrow_sizes (k : Nat) (s : State) : Sizes s (borrow k s) := by
  unfold borrow
  extract_lets t
  have ht : Sizes s t := setLenders_sizes _ s
  clear_value t
  split
  · exact ht.then ((setFlag_sizes _ _ _ t).then ((setTile_sizes _ _ _).then (setLenders_sizes _ _)))
  · exact ht.thenUnless (waystation_sizes _ _ _ _)

theorem setIslandOp_sizes (k p : Nat) (s : State) : Sizes s (setIslandOp k p s) :=
  .ite (fun _ => fset_sizes _ _ _ _ _) fun _ => fset_sizes _ _ _ _ _

theorem setIslandVolt_sizes (k mv : Nat) (s : State) : Sizes s (setIslandVolt k mv s) :=
  .ite (fun _ => fset_sizes _ _ _ _ _) fun _ => setPwr_sizes _ _

theorem moveIsland_sizes (p k : Nat) (s : State) : Sizes s (moveIsland p k s) := by
  unfold moveIsland
  extract_lets p0 t
  have ht : Sizes s t := setPwr_sizes _ s
  clear_value t
  exact .ite (fun _ => ht.then (setIslandOp_sizes _ _ _)) fun _ => ht.thenIf (setPwr_sizes _ _)

theorem updateBand_sizes (b : Nat) (s : State) : Sizes s (updateBand b s) :=
  .ite (fun _ => .ite (fun _ => .refl) fun _ => (fset_sizes _ _ _ _ _).then (Sizes.foldl (fun _ _ => moveIsland_sizes _ _ _) _ _)) fun _ =>
    .ite (fun _ => .refl) fun _ => moveIsland_sizes _ _ _

theorem updateBands_sizes (s : State) : Sizes s (updateBands s) := Sizes.foldl (fun _ _ => updateBand_sizes _ _) _ _

theorem setTemp_sizes (sensor : Nat) (temp : Int) (s : State) : Sizes s (setTemp sensor temp s) := setN_sizes _ _ _

theorem setTherm_sizes (b p : Nat) (s : State) : Sizes s (setTherm b p s) := (fset_sizes _ _ _ _ _).then (updateBand_sizes _ _)

theorem setPolicy_sizes (b p : Nat) (s : State) : Sizes s (setPolicy b p s) := (fset_sizes _ _ _ _ _).then (updateBand_sizes _ _)

theorem policyWindow_sizes (busy : List Nat) (s u : State) : Sizes u (policyWindow busy s u) := by
  unfold policyWindow
  split
  · exact .refl
  · exact Sizes.foldl (fun _ _ => .ite (fun _ => .refl) fun _ => .ite (fun _ => setPolicy_sizes _ _ _) fun _ =>
      .ite (fun _ => setPolicy_sizes _ _ _) fun _ => .refl) _ _

/-! ## Links and endpoints -/

theorem judgeAll_sizes (s : State) : Sizes s (judgeAll s) := (judgeAll_touches s).sizes
theorem leaveActive_sizes (l a st : Nat) (s : State) : Sizes s (leaveActive l a st s) := (leaveActive_touches l a st s).sizes
theorem streamBlocks_sizes (l : Nat) (bs : List Block) (s : State) : Sizes s (streamBlocks l bs s) := (streamBlocks_touches l bs s).sizes

theorem loseEp_sizes (l a : Nat) (s : State) : Sizes s (loseEp l a s) :=
  ((leaveActive_sizes _ _ _ _).then (setEp_sizes _ _ _ _)).thenIf (raise_sizes _ _)

theorem linkDown_sizes (l : Nat) (s : State) : Sizes s (linkDown l s) := by
  unfold linkDown
  extract_lets t u
  have hu : Sizes s u := (setLink_sizes _ _ _).then ((setFlag_sizes _ _ _ _).then (fset_sizes _ _ _ _ _))
  clear_value u
  exact hu.then ((judgeAll_sizes _).after (Sizes.foldl (fun _ _ => loseEp_sizes _ _ _) _ _))

theorem retrain_sizes (l : Nat) (s : State) : Sizes s (retrain l s) :=
  (linkDown_sizes _ _).then (Sizes.foldl (fun _ _ => startTraining_sizes _ _) _ _)

theorem linkBlock_sizes (l kind sel val : Nat) (s : State) : Sizes s (linkBlock l kind sel val s) :=
  (setOut_sizes _ s).then (streamBlocks_sizes _ _ _)

theorem resend_sizes (l : Nat) (express : Bool) (e : Nat) (s : State) : Sizes s (resend l express e s) := by
  unfold resend
  extract_lets st ps t u v w
  have ht : Sizes s t := Sizes.foldl (fun _ _ => (stampRequest_touches _ _ _ _ _).sizes) _ _
  have hu : Sizes t u := streamBlocks_sizes _ _ _
  clear_value u
  have hv : Sizes u v := (setOut_sizes _ u).then (bump_sizes _ _)
  have hw : Sizes v w := setLink_sizes _ _ _
  clear_value w
  exact .ite (fun _ => .refl) fun _ => (ht.then (hu.then (hv.then hw))).thenIf (retrain_sizes _ _)

theorem sendNak_sizes (l : Nat) (express : Bool) (s : State) : Sizes s (sendNak l express s) :=
  .ite (fun _ => .refl) fun _ => (setLink_sizes _ _ _).then ((bump_sizes _ _).then (linkBlock_sizes _ _ _ _ _))

theorem peerRequest_sizes (l a type : Nat) (ws : List Nat) (s : State) : Sizes s (peerRequest l a type ws s) := by
  unfold peerRequest
  extract_lets w t2 target ok u
  have hu : Sizes s u := sendPacket_sizes _ _ _ _ _ _
  exact .ite (fun _ => sendPacket_sizes _ _ _ _ _ _) fun _ => .ite (fun _ => sendPacket_sizes _ _ _ _ _ _) fun _ =>
    .ite (fun _ => hu.thenIf (sleepEp_touches _ _ _ _).sizes) fun _ => .refl

theorem acceptPacket_sizes (l : Nat) (express : Bool) (words : List Dword) (s : State) : Sizes s (acceptPacket l express words s) := by
  unfold acceptPacket
  extract_lets h seq vc type t u a ws v
  have ht : Sizes s t := setLink_sizes _ _ _
  have hu : Sizes t u := (linkBlock_sizes _ _ _ _ _).then (sendCredit_touches _ _ _).sizes
  clear_value u
  have hv : Sizes u v := (deliver_touches _ _ _ _ _).sizes
  exact (ht.then hu).then (.ite (fun _ => .ite (fun _ => hv.thenIf (peerRequest_sizes _ _ _ _ _)) fun _ => .refl) fun _ => bump_sizes _ _)

theorem setEpState_sizes (l a st : Nat) (s : State) : Sizes s (setEpState l a st s) := (setEpState_touches l a st s).sizes

theorem becomeActive_sizes (l a : Nat) (s : State) : Sizes s (becomeActive l a s) :=
  ((setEpState_sizes _ _ _ _).then ((raise_sizes _ _).then (setEp_sizes _ _ _ _))).thenIf
    ((sendHellos_touches _).sizes.then ((flushPeer_touches _ _ _).sizes.then (judgeAll_sizes _)))

end Sys2Proof.Machine

/-! PROOFS. The sizes: loads of a manifest. -/

namespace Sys2Proof.Machine

-- One theorem after the other: many at once ask for too many threads.
set_option Elab.async false

/-! ## Tests of the bands -/

theorem fieldEntry_sizes (kind target cause : Nat) (s : State) : Sizes s (fieldEntry kind target cause s) :=
  (fieldEntry_touches kind target cause s).sizes

theorem markTile_sizes (k cause : Nat) (s : State) : Sizes s (markTile k cause s) :=
  .ite (fun _ => .refl) fun _ => (setBoot_sizes _ s).then (fieldEntry_sizes _ _ _ _)

theorem testBands_sizes (bs : List Nat) (op : Nat) (fails : List (Nat × Nat)) (s : State) : Sizes s (testBands bs op fails s) :=
  (Sizes.foldl (fun u (f : Nat × Nat) => markTile_sizes f.1 f.2 u) _ s).then (setPwr_sizes _ _)

theorem rebuildBands_sizes (holes : Bool) (bs : List Nat) (s : State) : Sizes s (rebuildBands holes bs s) :=
  Sizes.foldl (fun _ _ => rebuildBand_sizes _ _ _ _) _ _

theorem dropTest_sizes (bs : List Nat) (s : State) : Sizes s (dropTest bs s) :=
  Sizes.foldl (fun _ _ => .ite (fun _ => (rebuildBand_sizes _ _ _ _).then (darkBand_sizes _ _)) fun _ =>
    .ite (fun _ => rebuildBand_sizes _ _ _ _) fun _ => .refl) _ _

/-! ## A full load -/

theorem freeTile_sizes (k : Nat) (s : State) : Sizes s (freeTile k s) := (freeTile_touches k s).sizes

/-- The work and the stations that a full load drops. -/
theorem dropStations_sizes (cap : Option (Nat × Option Nat)) (f : Cam → Cam) (g : Stn → Stn) (s : State) :
    Sizes s { s with
      jobs := [], decs := [], isp := none, treePass := none
      capture := cap
      cams := s.cams.map f
      stations := s.stations.map g } := .of_lens (by simp only [State.lens, List.length_map])

theorem clearStations_sizes (s : State) : Sizes s (clearStations s) := by
  unfold clearStations
  generalize List.range 16 = units
  generalize List.range 72 = tiles
  extract_lets s1 s2 s3 s4 s5 s6 s7
  have h1 : Sizes s s1 := Sizes.foldl (fun _ _ => (trigEnClear_sizes _ _).then ((cancelAll_sizes _ _).then (stopExplains_touches _ _).sizes)) _ _
  clear_value s1
  have h2 : Sizes s1 s2 := Sizes.foldl (fun _ _ => releaseBale_sizes _ _) _ _
  clear_value s2
  have h3 : Sizes s2 s3 := Sizes.foldl (fun _ _ => freeMile_sizes _ _) _ _
  clear_value s3
  have h4 : Sizes s3 s4 := Sizes.foldl (fun _ _ => setN_sizes _ _ _) _ _
  clear_value s4
  have h5 : Sizes s4 s5 := (setFlag_sizes _ _ _ _).then (setN_sizes _ _ _)
  clear_value s5
  have h6 : Sizes s5 s6 := Sizes.foldl (fun _ _ => (setTile_sizes _ _ _).thenIf ((freeTile_sizes _ _).then (switchSpare_sizes _ _))) _ _
  clear_value s6
  have h7 : Sizes s6 s7 := Sizes.foldl (fun _ _ => .ite (fun _ =>
    (setTile_sizes _ _ _).then ((setN_sizes _ _ _).then (freeTile_sizes _ _))) fun _ => .refl) _ _
  clear_value s7
  exact h1.then (h2.then (h3.then (h4.then (h5.then (h6.then (h7.then (dropStations_sizes _ _ _ s7)))))))

theorem setRetiring_sizes (rs : List Retire) (s : State) : Sizes s { s with retiring := rs } := .of_lens rfl

theorem installBands_sizes (d : DevBlock) (new : List Nat) (s : State) : Sizes s (installBands d new s) := by
  unfold installBands
  generalize List.range 4 = bands
  extract_lets gone cut s1 s2 s3 s4
  have h1 : Sizes s s1 := setRetiring_sizes _ s
  clear_value s1
  have h2 : Sizes s1 s2 := Sizes.foldl (fun _ _ => .ite (fun _ => switchOn_sizes _ _) fun _ => switchOff_sizes _ _) _ _
  clear_value s2
  have h3 : Sizes s2 s3 := rebuildBands_sizes _ _ _
  clear_value s3
  have h4 : Sizes s3 s4 := Sizes.foldl (fun _ _ => .ite (fun _ => .refl) fun _ => darkBand_sizes _ _) _ _
  clear_value s4
  exact h1.then (h2.then (h3.then (h4.then (Sizes.foldl (fun _ _ => (seekSpare_touches _ _ _).sizes) _ _))))

theorem installPoints_sizes (d : DevBlock) (s : State) : Sizes s (installPoints d s) := by
  refine Sizes.foldl (fun u b => .ite (fun _ => setN_sizes _ _ _) fun _ => ?_) _ _
  extract_lets fresh th v p
  have hv : Sizes u v := (fset_sizes _ _ _ _ _).then (fset_sizes _ _ _ _ _)
  refine hv.then (.ite (fun _ => (fset_sizes _ _ _ _ _).then (Sizes.foldl (fun _ _ => ?_) _ _)) fun _ => updateBand_sizes _ _)
  exact (setIslandOp_sizes _ _ _).then (setIslandVolt_sizes _ _ _)

theorem installOdoCh_sizes (c : Nat) (x : OdoCh) (s : State) : Sizes s (installOdoCh c x s) := (setN_sizes _ _ _).then (setN_sizes _ _ _)

theorem installOdos_sizes (d : DevBlock) (s : State) : Sizes s (installOdos d s) := by
  unfold installOdos
  generalize List.range 16 = units
  extract_lets s1 s2 s3 s4
  have h1 : Sizes s s1 := Sizes.foldl (fun _ _ => installOdoCh_sizes _ _ _) _ _
  clear_value s1
  have h2 : Sizes s1 s2 := Sizes.foldl (fun _ _ => (installOdoCh_sizes _ _ _).thenUnless (installOdoCh_sizes _ _ _)) _ _
  clear_value s2
  have h3 : Sizes s2 s3 := Sizes.foldl (fun _ _ => setFlag_sizes _ _ _ _) _ _
  clear_value s3
  have h4 : Sizes s3 s4 := Sizes.foldl (fun _ _ => .ite (fun _ => setRef_sizes _ _ _) fun _ => .refl) _ _
  clear_value s4
  exact h1.then (h2.then (h3.then (h4.then (Sizes.foldl (fun _ _ => startRef_sizes _ _) _ _))))

theorem installFio_sizes (ch : Nat) (f : Option FioDecl) (s : State) : Sizes s (installFio ch f s) := by
  cases f <;> exact (setN_sizes _ _ _).then ((setN_sizes _ _ _).then (setN_sizes _ _ _))

theorem installFields_sizes (old : Option DevBlock) (d : DevBlock) (s : State) : Sizes s (installFields old d s) := by
  unfold installFields
  generalize List.range 32 = channels
  extract_lets s1
  have h1 : Sizes s s1 := Sizes.foldl (fun _ _ => .ite (fun _ => .refl) fun _ =>
    (installFio_sizes _ _ _).then ((setFio_sizes _ _ _).then (followTest_touches _ _).sizes)) _ _
  exact h1.then (driveStopLine_sizes _)

theorem installLane_sizes (d : DevBlock) (k : Nat) (s : State) : Sizes s (installLane d k s) := by
  unfold installLane
  extract_lets u t v
  have ht : Sizes s t := (setN_sizes _ _ _).then (setLane_sizes _ _ _)
  have hv : Sizes t v := Sizes.refl.thenUnless (startPcs_sizes _ _ _)
  clear_value v
  exact (ht.then hv).then (.ite (fun _ => laneStat_sizes _ _ _ _ _ _) fun _ => .ite (fun _ => startTraining_sizes _ _) fun _ =>
    (setTapsNow_sizes _ _ _).then (laneStat_sizes _ _ _ _ _ _))

theorem setEps_sizes (es : List Ep) (s : State) : Sizes s { s with eps := es } := .of_lens rfl

theorem installLinks_sizes (old : Option DevBlock) (d : DevBlock) (s : State) : Sizes s (installLinks old d s) := by
  unfold installLinks
  generalize List.range 16 = links
  generalize List.range 6 = groups
  generalize List.range 24 = lanes
  extract_lets sig changed s1 s2 eps s3 s4 s5
  have h1 : Sizes s s1 := Sizes.foldl (fun _ _ => linkDown_sizes _ _) _ _
  clear_value s1
  have h2 : Sizes s1 s2 := Sizes.foldl (fun _ _ => (setN_sizes _ _ _).then ((setN_sizes _ _ _).then (setN_sizes _ _ _))) _ _
  clear_value s2
  have h3 : Sizes s2 s3 := setEps_sizes _ _
  clear_value s3
  have h4 : Sizes s3 s4 := Sizes.foldl (fun _ _ => .ite (fun _ => setN_sizes _ _ _) fun _ => .refl) _ _
  clear_value s4
  have h5 : Sizes s4 s5 := Sizes.foldl (fun _ _ => setN_sizes _ _ _) _ _
  clear_value s5
  exact h1.then (h2.then (h3.then (h4.then (h5.then (Sizes.foldl (fun _ _ => .ite (fun _ => .refl) fun _ => installLane_sizes _ _ _) _ _)))))

/-- The convoy groups of a fresh device. -/
theorem freshGroups_sizes (s : State) : Sizes s { s with groups := List.replicate 32 Group.none } := by
  intro hs
  simp only [State.sized, Bool.and_eq_true, beq_iff_eq, List.length_replicate] at hs ⊢
  tauto

theorem installGroups_sizes (d : DevBlock) (s : State) : Sizes s (installGroups d s) := by
  unfold installGroups
  generalize hr : List.range 32 = groups
  extract_lets s1 s2
  have h1 : Sizes s s1 := freshGroups_sizes s
  clear_value s1
  have h2 : Sizes s1 s2 := Sizes.foldl (fun _ _ => (setFlag_sizes _ _ _ _).then ((fset_sizes _ _ _ _ _).then (fset_sizes _ _ _ _ _))) _ _
  clear_value s2
  exact h1.then (h2.then (Sizes.foldl (fun _ _ => (showGroup_touches _ _).sizes) _ _))

/-- The device block, the station blocks, and what each station makes of its own. -/
theorem setBlocks_sizes (dev : Option DevBlock) (blocks : List StnBlock) (next : Nat) (f : Nat × Stn → Stn) (s : State) :
    Sizes s { s with dev := dev, blocks := blocks, nextUid := next, stations := (indexed s.stations).map f } :=
  .of_lens (by simp only [State.lens, indexed, List.length_map, List.length_zip, List.length_range, Nat.min_self])

theorem installFull_sizes (p : Parsed) (new : List Nat) (s : State) : Sizes s (installFull p new s) := by
  unfold installFull
  generalize List.range 16 = units
  extract_lets d old blocks s1 s2 s3 s4 s5 s6 s7 s8
  have h1 : Sizes s s1 := clearStations_sizes s
  clear_value s1
  have h2 : Sizes s1 s2 := setBlocks_sizes _ _ _ _ s1
  clear_value s2
  have h3 : Sizes s2 s3 := needDomains_sizes _ _
  clear_value s3
  have h4 : Sizes s3 s4 := (installBands_sizes _ _ _).then (installPoints_sizes _ _)
  clear_value s4
  have h5 : Sizes s4 s5 := (installOdos_sizes _ _).then ((installFields_sizes _ _ _).then (installGroups_sizes _ _))
  clear_value s5
  have h6 : Sizes s5 s6 := installLinks_sizes _ _ _
  clear_value s6
  have h7 : Sizes s6 s7 := (setFlag_sizes _ _ _ _).then (setN_sizes _ _ _)
  clear_value s7
  have h8 : Sizes s7 s8 := setN_sizes _ _ _
  clear_value s8
  exact h1.then (h2.then (h3.then (h4.then (h5.then (h6.then (h7.then (h8.then
    (Sizes.foldl (fun _ _ => setN_sizes _ _ _) _ _))))))))

/-! ## How a load ends -/

theorem setLoad_sizes (l : Option Load) (s : State) : Sizes s { s with load := l } := .of_lens rfl

theorem loadFailed_sizes (e : LoadErr) (s : State) : Sizes s (loadFailed e s) :=
  ((setLoad_sizes none s).then ((setN_sizes _ _ _).then (setN_sizes _ _ _))).then (raise_sizes _ _)

theorem loadDone_sizes (s : State) : Sizes s (loadDone s) :=
  ((setLoad_sizes none s).then ((setN_sizes _ _ _).then (setN_sizes _ _ _))).then ((raise_sizes _ _).then
    ((logBump_touches _ _ _ _).sizes.then ((snapshot_sizes _).then (sendHellos_touches _).sizes)))

theorem loadRefused_sizes (code : Nat) (s : State) : Sizes s (loadRefused code s) :=
  ((setN_sizes _ _ _).then (setN_sizes _ _ _)).then (raise_sizes _ _)

theorem startLoad_sizes (full : Bool) (s : State) : Sizes s (startLoad full s) :=
  .ite (fun _ => .refl) fun _ => .ite (fun _ => loadRefused_sizes _ _) fun _ => .ite (fun _ => loadRefused_sizes _ _) fun _ =>
    (setLoad_sizes _ s).then ((setN_sizes _ _ _).then (setN_sizes _ _ _))

theorem abortLoad_sizes (s : State) : Sizes s (abortLoad s) := .ite (fun _ => loadFailed_sizes _ _) fun _ => .refl

theorem loadFull_sizes (bs : List Byte) (bandFails : List (Nat × Nat)) (s : State) : Sizes s (loadFull bs bandFails s).1 := by
  unfold loadFull
  split
  · exact loadFailed_sizes _ _
  · extract_lets bands t
    have ht : Sizes s t := testBands_sizes _ _ _ _
    clear_value t
    split
    · exact ht.then ((dropTest_sizes _ _).then (loadFailed_sizes _ _))
    · exact ht.then ((installFull_sizes _ _ _).then (loadDone_sizes _))

theorem setNextUid_sizes (n : Nat) (s : State) : Sizes s { s with nextUid := n } := .of_lens rfl

theorem loadStation_sizes (bs : List Byte) (s : State) : Sizes s (loadStation bs s).1 := by
  unfold loadStation
  split
  · exact loadFailed_sizes _ _
  · split
    · exact loadFailed_sizes _ _
    · exact (setNextUid_sizes _ s).then ((installBlock_touches _ _).sizes.then (loadDone_sizes _))
    · exact loadDone_sizes _

theorem trigEnSet_sizes (n : Nat) (s : State) : Sizes s (trigEnSet n s) := by
  unfold trigEnSet
  extract_lets trees t held min_
  have ht : Sizes s t := needDomains_sizes _ _
  clear_value t
  exact .ite (fun _ => .refl) fun _ => ht.then (.ite (fun _ => setFlag_sizes _ _ _ _) fun _ => setStn_sizes _ _ _)

end Sys2Proof.Machine

/-! PROOFS. The sizes: muster, resets, the steward port's transports and the register bus. -/

namespace Sys2Proof.Machine

-- One theorem after the other: many at once ask for too many threads.
set_option Elab.async false

/-! ## Muster -/

theorem startPhase_sizes (p : Nat) (s : State) : Sizes s (startPhase p s) :=
  ((fset_sizes _ _ _ _ _).then (needDomains_sizes (s.phaseDomains p) _)).then (setBoot_sizes _ _)

theorem startMuster_sizes (s : State) : Sizes s (startMuster s) :=
  ((setFlag_sizes _ _ _ _).then ((setFlag_sizes _ _ _ _).then (fset_sizes _ _ _ _ _))).then
    ((setBoot_sizes _ _).then (startPhase_sizes 0 _))

theorem endPhase_sizes (result unit index : Nat) (s : State) : Sizes s (endPhase result unit index s) := setBoot_sizes _ s

theorem musterStop_sizes (result cause unit index : Nat) (s : State) : Sizes s (musterStop result cause unit index s) :=
  ((endPhase_sizes result unit index s).then (setN_sizes _ _ _)).then ((setBoot_sizes _ _).then (waystation_sizes _ _ _ _))

theorem musterFail_sizes (cause unit index : Nat) (s : State) : Sizes s (musterFail cause unit index s) := musterStop_sizes _ _ _ _ _

theorem musterPass_sizes (p result unit index : Nat) (s : State) : Sizes s (musterPass p result unit index s) := by
  unfold musterPass
  extract_lets t u
  have ht : Sizes s t := endPhase_sizes _ _ _ _
  clear_value t
  have hu : Sizes t u := (setN_sizes _ _ _).then (fset_sizes _ _ _ _ _)
  clear_value u
  exact ht.then (.ite (fun _ => startPhase_sizes _ _) fun _ => hu.then (setBoot_sizes _ u))

theorem markPhase_sizes (p : Nat) (ks : List Nat) (s : State) : Sizes s (markPhase p ks s) := (setBoot_sizes _ s).then (fset_sizes _ _ _ _ _)

theorem phase1_sizes (fail : Bool) (unit index : Nat) (s : State) : Sizes s (phase1 fail unit index s) := by
  unfold phase1
  extract_lets s1 map s2 s3 s4 ok slotB s5 boot s6 bs boot2 s7
  have h1 : Sizes s s1 := restoreLog_sizes s
  clear_value s1
  have h2 : Sizes s1 s2 := (setFmap_sizes _ s1).then (showFmap_sizes _)
  clear_value s2
  have h3 : Sizes s2 s3 := setFlag_sizes _ _ _ _
  have h4 : Sizes s3 s4 := Sizes.refl.thenUnless (raise_sizes _ _)
  clear_value s4
  have h5 : Sizes s4 s5 := setFlag_sizes _ _ _ _
  clear_value s5
  have h6 : Sizes s5 s6 := setBoot_sizes _ s5
  clear_value s6
  have h7 : Sizes s6 s7 := setBoot_sizes _ s6
  clear_value s7
  exact h1.then (h2.then (h3.then (h4.then (.ite (fun _ => musterFail_sizes _ _ _ _) fun _ => .ite (fun _ => musterFail_sizes _ _ _ _)
    fun _ => h5.then (h6.then (.ite (fun _ => musterFail_sizes _ _ _ _) fun _ => h7.then (musterPass_sizes _ _ _ _ _)))))))

theorem phaseTiles_sizes (p cause : Nat) (fail : Bool) (unit index : Nat) (marks : List (Nat × Nat)) (s : State) :
    Sizes s (phaseTiles p cause fail unit index marks s) := by
  unfold phaseTiles
  generalize List.range 3 = regs
  extract_lets ks s1 s2 s3 op pwr s4
  have h1 : Sizes s s1 := markPhase_sizes _ _ _
  clear_value s1
  have h2 : Sizes s1 s2 := Sizes.foldl (fun _ _ => (setN_sizes _ _ _).then (setN_sizes _ _ _)) _ _
  clear_value s2
  have h3 : Sizes s2 s3 := (setN_sizes _ _ _).then (setFlag_sizes _ _ _ _)
  clear_value s3
  have h4 : Sizes s1 s4 := .ite (fun _ => h2.then (h3.then (.of_lens rfl))) fun _ => .ite (fun _ => setPwr_sizes _ s1) fun _ => .refl
  clear_value s4
  refine h1.then (.ite (fun _ => musterFail_sizes _ _ _ _) fun _ => h4.then ?_)
  clear_value ks
  cases ks <;> exact musterPass_sizes _ _ _ _ _

theorem phase7_sizes (fail : Bool) (unit index : Nat) (marks : List (Nat × Nat)) (s : State) : Sizes s (phase7 fail unit index marks s) := by
  unfold phase7
  extract_lets used bad boot t
  have ht : Sizes s t := setBoot_sizes _ s
  clear_value t bad
  refine ht.then ?_
  split
  · exact musterFail_sizes _ _ _ _
  · refine .ite (fun _ => musterFail_sizes _ _ _ _) fun _ => ?_
    split <;> exact musterPass_sizes _ _ _ _ _

theorem setHoles_sizes (b : Bool) (s : State) : Sizes s { s with gridHoles := b } := .of_lens rfl

theorem phase9_sizes (fail : Bool) (unit index : Nat) (s : State) : Sizes s (phase9 fail unit index s) := by
  unfold phase9
  generalize List.range 4 = bands
  extract_lets s1 holes s2 s3 bad
  have h1 : Sizes s s1 := Sizes.foldl (fun u (m : Nat × Nat) => fieldEntry_sizes 0 m.1 m.2 u) _ s
  clear_value s1
  have h2 : Sizes s1 s2 := (setHoles_sizes holes s1).then (rebuildBands_sizes _ _ _)
  clear_value s2
  have h3 : Sizes s2 s3 := Sizes.foldl (fun _ _ => .ite (fun _ => .refl) fun _ => darkBand_sizes _ _) _ _
  clear_value s3
  refine h1.then (h2.then (h3.then ?_))
  clear_value bad
  cases bad with
  | some b => exact musterFail_sizes _ _ _ _
  | none =>
    exact .ite (fun _ => musterFail_sizes _ _ _ _) fun _ => .ite (fun _ => (setBoot_sizes _ s3).then (musterStop_sizes _ _ _ _ _))
      fun _ => musterPass_sizes _ _ _ _ _

theorem musterPhaseEnd_sizes (fail : Bool) (unit index : Nat) (marks : List (Nat × Nat)) (s : State) :
    Sizes s (musterPhaseEnd fail unit index marks s) := by
  have hstep : ∀ p cause, Sizes s (if fail then musterFail cause unit index s else musterPass p 0 0 0 s) := fun _ _ =>
    .ite (fun _ => musterFail_sizes _ _ _ _) fun _ => musterPass_sizes _ _ _ _ _
  unfold musterPhaseEnd
  split
  · exact .refl
  · exact .ite (fun _ => hstep _ _) fun _ => .ite (fun _ => phase1_sizes _ _ _ _) fun _ =>
      .ite (fun _ => phaseTiles_sizes _ _ _ _ _ _ _) fun _ => .ite (fun _ => phaseTiles_sizes _ _ _ _ _ _ _) fun _ =>
      .ite (fun _ => phaseTiles_sizes _ _ _ _ _ _ _) fun _ => .ite (fun _ => phaseTiles_sizes _ _ _ _ _ _ _) fun _ =>
      .ite (fun _ => hstep _ _) fun _ => .ite (fun _ => phase7_sizes _ _ _ _ _) fun _ => .ite (fun _ => hstep _ _) fun _ =>
      .ite (fun _ => phase9_sizes _ _ _ _) fun _ => .refl

theorem handoffFail_sizes (cause : Nat) (s : State) : Sizes s (handoffFail cause s) := (setBoot_sizes _ s).then (waystation_sizes _ _ _ _)

/-- The application cores, each put to a value that hangs on it and its number. -/
theorem mapCores_sizes (f : Nat × AppCore → AppCore) (s : State) : Sizes s { s with cores := (indexed s.cores).map f } :=
  .of_lens (by simp only [State.lens, indexed, List.length_map, List.length_zip, List.length_range, Nat.min_self])

theorem handoff_sizes (s : State) : Sizes s (handoff s).1 := by
  unfold handoff
  split
  · exact .refl
  · extract_lets boot t r u bs
    have ht : Sizes s t := (setBoot_sizes _ s).then (needDomains_sizes _ _)
    clear_value t
    have hr : Sizes t r.1 := loadFull_sizes _ _ _
    clear_value r
    split
    · exact ht.then (hr.then (handoffFail_sizes _ _))
    · extract_lets copy
      split
      · exact ht.then (hr.then (handoffFail_sizes _ _))
      · exact ht.then (hr.then ((setFlag_sizes _ _ _ _).then ((mapCores_sizes _ _).then (driveStopLine_sizes _))))

/-! ## Resets -/

theorem mirrorNow_sizes (s : State) : Sizes s (mirrorNow s).1 := (mirrorNow_touches s).sizes

theorem resetDevice_sizes (s : State) : Sizes s (resetDevice s).1 :=
  (mirrorNow_sizes s).then ((resetDomains_sizes _).then (startMuster_sizes _))

theorem resetCmd_sizes (ini key : Nat) (s : State) : Sizes s (resetCmd ini key s).1 := by
  unfold resetCmd
  split
  · exact .refl
  · split
    · exact dropWrite_sizes ini Reg.sysResetCmd .device s
    · split
      · exact resetDevice_sizes s
      · exact .refl

/-- The pins and the scan chain keep their lengths over a reset from the pins; every other list is that of a fresh device. -/
theorem afterReset_sizes (s : State) : Sizes s s.afterReset := by
  intro hs
  simp only [State.sized, Bool.and_eq_true, beq_iff_eq] at hs
  simp only [State.afterReset, State.sized, State.reset, Bool.and_eq_true, beq_iff_eq, List.length_replicate, List.length_map,
    List.length_range, List.length_cons, List.length_nil, and_true, true_and]
  tauto

/-! ## The steward port's transports -/

theorem setSport_sizes_of_length {p : Sport} {s : State} (hrx : p.rx.length = s.sport.rx.length) (htx : p.tx.length = s.sport.tx.length) :
    Sizes s { s with sport := p } := .of_lens (by simp only [State.lens, hrx, htx])

theorem portError_sizes (s : State) : Sizes s (portError s) := bump_sizes _ _
theorem takeRequest_sizes (t seq cmd : Nat) (payload : List Byte) (s : State) : Sizes s (takeRequest t seq cmd payload s) :=
  (takeRequest_touches t seq cmd payload s).sizes

theorem parseFrames_sizes (t fuel : Nat) (bs : List Byte) (s : State) : Sizes s (parseFrames t fuel bs s).2 := by
  induction fuel generalizing bs s with
  | zero => exact .refl
  | succ fuel ih =>
    unfold parseFrames
    split
    · exact .refl
    · exact .refl
    · split
      · exact ih _ _
      · split
        · exact .refl
        · extract_lets n body rest
          split
          · exact (portError_sizes s).then (ih _ _)
          · split
            · exact .refl
            · split
              · exact (takeRequest_sizes _ _ _ _ _).then (ih _ _)
              · exact (portError_sizes s).then (ih _ _)

theorem receive_sizes (t : Nat) (bytes : List Byte) (s : State) : Sizes s (receive t bytes s) := by
  unfold receive
  refine .ite (fun _ => ?_) fun _ => .refl
  extract_lets bs r
  have hr : Sizes s r.2 := parseFrames_sizes _ _ _ _
  clear_value r
  exact hr.then (setSport_sizes_of_length (List.length_modify ..) rfl)

theorem sportWrite_sizes (b : Byte) (s : State) : Sizes s (sportWrite b s) :=
  .ite (fun _ => .refl) fun _ => .ite (fun _ => setSport_sizes_of_length rfl rfl) fun _ => receive_sizes _ _ _

theorem sportRead_sizes (s : State) : Sizes s (sportRead s).2 := by
  unfold sportRead
  extract_lets q q2
  clear_value q2
  cases q2 with
  | nil => exact .refl
  | cons b r => exact setSport_sizes_of_length rfl (List.length_modify ..)

/-! ## Reads and writes of registers -/

theorem setTb_sizes (tb : Timebase) (s : State) : Sizes s { s with tb := tb } := .of_lens rfl

theorem setEvq_sizes (t : Nat) (f : List (Word × Nat) → List (Word × Nat)) (s : State) : Sizes s { s with evq := modAt s.evq t f } :=
  .of_lens (by simp only [State.lens, modAt, List.length_modify])

theorem setMbox_sizes (n : Nat) (f : Mbox → Mbox) (s : State) : Sizes s { s with mbox := modAt s.mbox n f } :=
  .of_lens (by simp only [State.lens, modAt, List.length_modify])

theorem setSnap_sizes (ini : Nat) (f : Snap → Snap) (s : State) : Sizes s (s.setSnap ini f) := (State.setSnap_touches s ini f).sizes

theorem evqRead_sizes (t : Nat) (s : State) : Sizes s (evqRead t s).2 := by
  unfold evqRead
  split
  · exact setEvq_sizes _ _ _
  · exact .refl

theorem mboxRead_sizes (n : Nat) (s : State) : Sizes s (mboxRead n s).2 := by
  unfold mboxRead
  split
  · exact setMbox_sizes _ _ _
  · exact setFlag_sizes _ _ _ _

theorem ptpRead_sizes (ini port dir : Nat) (s : State) : Sizes s (ptpRead ini port dir s).2 := by
  unfold ptpRead
  split <;> exact setSnap_sizes _ _ _

theorem ptpIdRead_sizes (ini port dir : Nat) (s : State) : Sizes s (ptpIdRead ini port dir s).2 :=
  .of_lens (by simp only [ptpIdRead, State.lens, modAt, List.length_modify])

theorem entryRead_sizes (ini e : Nat) (s : State) : Sizes s (entryRead ini e s).2 := setSnap_sizes _ _ _
theorem faultRead_sizes (ini i : Nat) (s : State) : Sizes s (faultRead ini i s).2 := setSnap_sizes _ _ _
theorem wideRead_sizes (ini a : Nat) (s : State) : Sizes s (wideRead ini a s).2 := setSnap_sizes _ _ _
theorem uartRead_sizes (u : Nat) (s : State) : Sizes s (uartRead u s).2 := (uartRead_touches u s).sizes
theorem i2cRead_sizes (i : Nat) (s : State) : Sizes s (i2cRead i s).2 := (i2cRead_touches i s).sizes

/-- A read that is one of two. -/
theorem Sizes.iteRead {c : Prop} [Decidable c] {s : State} {x y : Word × State} (h : Sizes s x.2) (g : Sizes s y.2) :
    Sizes s (if c then x else y).2 := by
  split
  · exact h
  · exact g

theorem regRead_sizes (ini : Nat) (r : RegInfo) (i j a : Nat) (s : State) : Sizes s (regRead ini r i j a s).2 :=
  .iteRead (sportRead_sizes s) <| .iteRead (uartRead_sizes i s) <| .iteRead (i2cRead_sizes i s) <| .iteRead (evqRead_sizes i s) <|
    .iteRead (mboxRead_sizes i s) <| .iteRead (ptpRead_sizes ini i j s) <| .iteRead .refl <| .iteRead (ptpIdRead_sizes ini i j s) <|
    .iteRead (entryRead_sizes ini i s) <| .iteRead .refl <| .iteRead (faultRead_sizes ini i s) <| .iteRead .refl <|
    .iteRead (wideRead_sizes ini a s) <| .iteRead .refl <| .iteRead (takeFree_sizes s) .refl

theorem blockedWrite_sizes (ini : Nat) (stn : Option Nat) (s : State) : Sizes s (blockedWrite ini stn s) := by
  cases stn with
  | some n => exact isolation_sizes _ _ _ _ _
  | none => exact logFault_sizes _ _

theorem busError_sizes (ini a : Nat) (wr : Bool) (s : State) : Sizes s (busError ini a wr s) := (busError_touches ini a wr s).sizes

theorem busRead_sizes (ini a : Nat) (s : State) : Sizes s (busRead ini a s).2 := by
  unfold busRead
  split
  · split
    · exact blockedWrite_sizes _ _ _
    · exact .refl
  · split
    · exact .refl
    · split
      · exact .refl
      · split
        · split
          · exact regRead_sizes _ _ _ _ _ _
          · exact .refl
        · exact busError_sizes _ _ _ _

theorem store_sizes (ini a : Nat) (bs : List Byte) (s : State) : Sizes s (store ini a bs s).st := by
  unfold store
  split
  · split
    · exact blockedWrite_sizes _ _ _
    · split
      · exact blockedWrite_sizes _ _ _
      · exact .refl
  · split
    · exact .refl
    · split
      · exact blockedWrite_sizes _ _ _
      · exact busError_sizes _ _ _ _

end Sys2Proof.Machine

/-! PROOFS. The sizes: writes of registers. -/

namespace Sys2Proof.Machine

-- One theorem after the other: many at once ask for too many threads.
set_option Elab.async false

theorem setShadow_sizes (ws : List ShadowWrite) (s : State) : Sizes s { s with shadow := ws } := .of_lens rfl

theorem commitGo_sizes (a : Nat) (s : State) : Sizes s (commitGo a s) := by
  unfold commitGo
  extract_lets ws t u
  have ht : Sizes s t := setShadow_sizes _ s
  clear_value t
  have hu : Sizes t u := Sizes.foldl (fun _ _ => .ite (fun _ => commitTxfir_sizes _ _ _) fun _ => (applyShadow_touches _ _).sizes) _ _
  clear_value u
  exact (ht.then hu).thenIf (updateBands_sizes _)

theorem dropPacket_sizes (n : Nat) (s : State) : Sizes s (dropPacket n s) := setMbox_sizes _ _ s

theorem routeWrite_sizes (ini src val : Nat) (s : State) : Sizes s (routeWrite ini src val s) := setN_sizes _ _ _

theorem mflWrite_sizes (val : Nat) (s : State) : Sizes s (mflWrite val s) := by
  unfold mflWrite
  split
  · exact startLoad_sizes _ _
  · exact startLoad_sizes _ _
  · exact abortLoad_sizes _
  · exact (cancelPending_touches _ _).sizes
  · exact .refl

theorem stnCtrlWrite_sizes (n val : Nat) (s : State) : Sizes s (stnCtrlWrite n val s) := by
  unfold stnCtrlWrite
  extract_lets t u v
  have ht : Sizes s t := .ite (fun _ => trigEnSet_sizes _ _) fun _ => trigEnClear_sizes _ _
  clear_value t
  have hu : Sizes t u := Sizes.refl.thenIf (cancelAll_sizes _ _)
  clear_value u
  have hv : Sizes u v := Sizes.refl.thenIf (stopClr_sizes _ _)
  clear_value v
  exact (ht.then (hu.then hv)).thenIf (assertStop_sizes _ _ _)

theorem grpCfgCheck_sizes (g val : Nat) (was : Bool) (s : State) : Sizes s (grpCfgCheck g val was s) :=
  .ite (fun _ => (setFlag_sizes _ _ _ _).then (setFlag_sizes _ _ _ _)) fun _ => .refl

theorem restartExchanges_sizes (s : State) : Sizes s (restartExchanges s) := (restartExchanges_touches s).sizes

theorem writeIncr_sizes (v : Word) (s : State) : Sizes s (writeIncr v s) :=
  .ite (fun _ => (State.setReg_touches _ _ _).sizes.thenUnless (restartExchanges_sizes _)) fun _ => setFlag_sizes _ _ _ _

theorem tick_sizes (step : Int) (s : State) : Sizes s (tick step s) := (tick_touches step s).sizes

theorem writeStep_sizes (ini : Nat) (v : Word) (s : State) : Sizes s (writeStep ini v s) :=
  .ite (fun _ => dropWrite_sizes _ _ _ _) fun _ => ((State.setReg_touches s _ v).sizes.then (tick_sizes v.toInt _)).then
    ((raise_sizes _ _).then (restartExchanges_sizes _))

/-- A write that is one of two. -/
theorem Sizes.iteBus {c : Prop} [Decidable c] {s : State} {x y : Bus} (h : Sizes s x.st) (g : Sizes s y.st) :
    Sizes s (if c then x else y).st := by
  split
  · exact h
  · exact g

theorem i2cPush_sizes (i : Nat) (c : I2cOp) (s : State) : Sizes s (i2cPush i c s) := (i2cPush_touches i c s).sizes

theorem writeLow_sizes (ini : Nat) (r : RegInfo) (i a v : Nat) (s : State) : Sizes s (writeLow ini r i a v s).st := by
  unfold writeLow
  extract_lets b t x
  have ht : Sizes s t := writeFields_sizes _ _ _ _ _ _
  clear_value t b
  refine .iteBus (routeWrite_sizes ini i v s) <| .iteBus (resetCmd_sizes ini v s) <| .iteBus (appStart_touches ini v s).sizes <|
    .iteBus (wdogKick_touches _ _ s).sizes <| .iteBus (mtimecmpWrite_touches i _ s).sizes <| .iteBus (sportWrite_sizes _ s) <|
    .iteBus (retireCmd_sizes _ _ s) <| .iteBus (writeIncr_sizes _ s) <| .iteBus (writeStep_sizes ini _ s) <|
    .iteBus (ht.thenIf (snapshot_sizes t)) <| .iteBus (ht.thenIf (calSet_sizes t)) <| .iteBus (uartWrite_touches i _ s).sizes <|
    .iteBus ?_ (ht.then (clearCount_sizes r a v t))
  cases i2cOp? v with
  | none => exact .refl
  | some c => exact i2cPush_sizes i c s

theorem followOn_sizes (ch : Nat) (s : State) : Sizes s (followOn ch s) := (followOn_touches ch s).sizes
theorem followTest_sizes (ch : Nat) (s : State) : Sizes s (followTest ch s) := (followTest_touches ch s).sizes
theorem rearm_sizes (ch : Nat) (s : State) : Sizes s (rearm ch s) := (rearm_touches ch s).sizes
theorem grpRearm_sizes (g : Nat) (s : State) : Sizes s (grpRearm g s) := (grpRearm_touches g s).sizes
theorem odoArm_sizes (c : Nat) (s : State) : Sizes s (odoArm c s) := (odoArm_touches c s).sizes

theorem writeHigh_sizes (ini : Nat) (r : RegInfo) (i a v : Nat) (s : State) : Sizes s (writeHigh ini r i a v s) := by
  unfold writeHigh
  extract_lets b t t1 t2
  have ht : Sizes s t := writeFields_sizes _ _ _ _ _ _
  clear_value t b
  have h1 : Sizes t t1 := Sizes.refl.thenIf (rearm_sizes _ _)
  clear_value t1
  have h2 : Sizes t1 t2 := Sizes.refl.thenIf (cntClr_sizes _ _)
  clear_value t2
  refine .ite (fun _ => mflWrite_sizes v s) fun _ => .ite (fun _ => ht.thenIf (captureGo_sizes _ t)) fun _ =>
    .ite (fun _ => ht.thenIf (replayGo_sizes _ t)) fun _ => .ite (fun _ => stnCtrlWrite_sizes i v s) fun _ =>
    .ite (fun _ => (ht.then (h1.then h2)).then ((followOn_sizes i t2).then (followTest_sizes i _))) fun _ =>
    .ite (fun _ => ht.then (testGo_sizes i _ t)) fun _ => .ite (fun _ => ht.thenIf (grpRearm_sizes i t)) fun _ =>
    .ite (fun _ => (ht.thenIf (odoArm_sizes i t)).then (odoHealth_sizes i _)) fun _ => .ite (fun _ => ht.then (odoHealth_sizes i t)) fun _ =>
    .ite (fun _ => ht.then (grpCfgCheck_sizes i v _ t)) fun _ => .ite (fun _ => ht.then (unfreeze_sizes i _ t)) fun _ =>
    .ite (fun _ => Sizes.refl.thenIf (dropPacket_sizes i s)) fun _ => ht.then (clearCount_sizes r a v t)

theorem busWrite_sizes (ini a : Nat) (val : Word) (s : State) : Sizes s (busWrite ini a val s).st := by
  unfold busWrite
  extract_lets v
  split
  · exact .iteBus .refl <| .iteBus (Sizes.refl.thenIf (commitGo_sizes a s)) <| .iteBus (writeLow_sizes _ _ _ _ _ _) (writeHigh_sizes _ _ _ _ _ _)
  · exact store_sizes _ _ _ _

end Sys2Proof.Machine

/-! PROOFS. The sizes: how commands end, and the commands of the logbook, the field, the odometers, the intake and the jobs. -/

namespace Sys2Proof.Machine

-- One theorem after the other: many at once ask for too many threads.
set_option Elab.async false

/-! ## How a command ends -/

/-- Where the outcome is a next state, that state has the sizes where `s` has them. -/
def Fits (s : State) (o : Host.Outcome State Fault Refusal) : Prop := ∀ t, o = .next t → Sizes s t

section
variable {s t : State}

theorem finish_fits {sc : Scope} {dram flash sram : Writes} {zero : List (Nat × Nat)} (h : Sizes s t) :
    Fits s (finish sc s t dram flash sram zero) := by
  intro u hu
  cases hu
  exact h.then (.of_lens rfl)

/-- A command that starts by sending nothing. -/
theorem done_fits (h : Sizes s.begin_ t) : Fits s (done s t) := finish_fits ((begin_sizes s).then h)

theorem doneDram_fits {w : Writes} (h : Sizes s.begin_ t) : Fits s (doneDram s t w) := finish_fits ((begin_sizes s).then h)
theorem doneFlash_fits {w : Writes} (h : Sizes s.begin_ t) : Fits s (doneFlash s t w) := finish_fits ((begin_sizes s).then h)
theorem doneTb_fits (h : Sizes s.begin_ t) : Fits s (doneTb s t) := finish_fits ((begin_sizes s).then h)

theorem doneBus_fits {b : Bus} (h : Sizes s.begin_ b.st) : Fits s (doneBus s b) := finish_fits ((begin_sizes s).then h)

theorem setRdata_sizes (w : Word) (s : State) : Sizes s { s with rdata := w } := .of_lens rfl

theorem doneRead_fits {r : Word × State} (h : Sizes s.begin_ r.2) : Fits s (doneRead s r) := done_fits (h.then (setRdata_sizes _ _))

end

/-! ## The logbook -/

variable (s : State)

theorem execMirrorWriteEnd_fits (ok : Bool) : Fits s (execMirrorWriteEnd ok s) := by
  refine doneFlash_fits ?_
  cases ok
  · exact mirrorMissed_sizes _
  · exact (mirrorWritten_touches _).sizes

theorem execCalendarSecond_fits : Fits s (execCalendarSecond s) := by
  unfold execCalendarSecond
  extract_lets t old v shown log t2 t3
  refine done_fits (.ite (fun _ => .refl) fun _ => ?_)
  have h2 : Sizes t t2 := .ite (fun _ => ((setCalendar_sizes _ _).then (setFlag_sizes _ _ _ _)).then (setLog_sizes _ _))
    fun _ => setCalendar_sizes _ _
  clear_value t2
  have h3 : Sizes t2 t3 := fset_sizes _ _ _ _ _
  clear_value t3
  exact h2.then (.ite (fun _ => h3.thenIf (clearWindows_touches _).sizes) fun _ => .refl)

theorem execThermalCycle_fits (temp : Int) : Fits s (execThermalCycle temp s) := by
  unfold execThermalCycle
  refine done_fits ?_
  split
  · exact setLog_sizes _ _
  · exact .ite (fun _ => (setLog_sizes _ _).then (logBump_touches _ _ _ _).sizes) fun _ => setLog_sizes _ _

/-! ## Milestones -/

theorem execConvoyTimeout_fits (group bale : Nat) : Fits s (execConvoyTimeout group bale s) := by
  unfold execConvoyTimeout
  refine done_fits ?_
  split
  · exact .ite (fun _ => (failStep_touches _ _ _ _ _).sizes) fun _ => .refl
  · exact .refl

theorem execFireAtResend_fits (e : Nat) : Fits s (execFireAtResend e s) := by
  unfold execFireAtResend
  refine done_fits ?_
  split
  · split
    · exact .ite (fun _ => (sendFire_touches _ _ _).sizes) fun _ => .refl
    · exact .refl
  · exact .refl

theorem execMergedPulseFree_fits (e : Nat) : Fits s (execMergedPulseFree e s) := by
  unfold execMergedPulseFree
  refine done_fits ?_
  split
  · exact .ite (fun _ => freeMile_sizes _ _) fun _ => .refl
  · exact .refl

theorem execReportTimeout_fits (e : Nat) : Fits s (execReportTimeout e s) := by
  unfold execReportTimeout
  refine done_fits ?_
  split
  · exact .ite (fun _ => missed_sizes _ _) fun _ => .refl
  · exact .refl

theorem execRemoteFree_fits (e : Nat) : Fits s (execRemoteFree e s) := by
  unfold execRemoteFree
  refine done_fits ?_
  split
  · exact .ite (fun _ => freeMile_sizes _ _) fun _ => .refl
  · exact .refl

theorem execComparatorDisagree_fits (e : Nat) : Fits s (execComparatorDisagree e s) := by
  unfold execComparatorDisagree
  refine done_fits ?_
  split
  · exact .ite (fun _ => (logFault_sizes _ _).then ((setMile_sizes _ _ _).then (missed_sizes _ _))) fun _ => .refl
  · exact .refl

theorem execFireReport_fits (link addr time rch result cmdId bale : Nat) : Fits s (execFireReport link addr time rch result cmdId bale s) :=
  done_fits (.ite (fun _ => (fireReport_sizes _ _ _ _ _ _).thenIf (remoteCycle_sizes _ _ _)) fun _ => .refl)

/-! ## Faults of the device -/

/-- No bale is held, and the rebuild is over. -/
theorem endRebuild_sizes (b : Boot) (f : Bale → Bale) : Sizes s { s with boot := b, bales := s.bales.map f } := .of_lens rfl

theorem execKhanRebuildEnd_fits : Fits s (execKhanRebuildEnd s) :=
  done_fits (.ite (fun _ => (endRebuild_sizes s.begin_ _ _).then (Sizes.foldl (fun _ _ => queueStripe_sizes _ _) _ _)) fun _ => .refl)

theorem execDroverWatchdog_fits (d : Nat) (bales : List Nat) : Fits s (execDroverWatchdog d bales s) :=
  done_fits (.ite (fun _ => .refl) fun _ => .ite (fun _ => logFault_sizes _ _) fun _ =>
    Sizes.foldl (fun _ _ => abortBale_sizes _ _ _) _ _)

theorem execStewardRollback_fits : Fits s (execStewardRollback s) := by
  unfold execStewardRollback
  refine done_fits ?_
  split
  · exact .ite (fun _ => toWaystation_sizes _ _ _) fun _ => (setBoot_sizes _ _).then (logFault_sizes _ _)
  · exact (setBoot_sizes _ _).then (logFault_sizes _ _)

/-- The application cores, with one changed. -/
theorem setCores_sizes (c : Nat) (f : AppCore → AppCore) : Sizes s { s with cores := modAt s.cores c f } :=
  .of_lens (by simp only [State.lens, modAt, List.length_modify])

theorem execAppWdog_fits (c : Nat) : Fits s (execAppWdog c s) :=
  done_fits (.ite (fun _ => (setCores_sizes s.begin_ _ _).then ((logFault_sizes _ _).then (raise_sizes _ _))) fun _ => .refl)

/-! ## The intake -/

theorem execLineTrigDelayed_fits (cam : Nat) : Fits s (execLineTrigDelayed cam s) := by
  unfold execLineTrigDelayed
  refine done_fits ?_
  split
  · exact (setCam_sizes _ _ _).thenIf ((sendLineTrig_touches _ _ _ _ _).sizes.then (setCam_sizes _ _ _))
  · exact .refl

theorem length_settleShares (put : Stn → Nat → Stn) (ds : List (Nat × Nat)) (l : List Stn) : (settleShares put ds l).length = l.length := by
  unfold settleShares
  simp only [indexed, List.length_map, List.length_zip, List.length_range, Nat.min_self]

/-- The credits of the stations settled. -/
theorem settleShares_sizes (put : Stn → Nat → Stn) (ds : List (Nat × Nat)) : Sizes s { s with stations := settleShares put ds s.stations } :=
  .of_lens (by simp only [State.lens, length_settleShares])

theorem execIspPassStart_fits : Fits s (execIspPassStart s) := by
  unfold execIspPassStart
  generalize List.range 16 = units
  refine done_fits (.ite (fun _ => .refl) fun _ => ?_)
  extract_lets heads
  split
  · exact .refl
  · split
    · exact .refl
    · extract_lets t u v
      have ht : Sizes s.begin_ t := settleShares_sizes s.begin_ _ _
      clear_value t
      have hu : Sizes t u := Sizes.refl.thenIf (setBale_sizes _ _ _)
      clear_value u
      exact ht.then (hu.then ((setN_sizes _ _ u).then (setIsp_sizes _ _)))

theorem execIspPassEnd_fits (ctx : Nat) (err : Bool) : Fits s (execIspPassEnd ctx err s) := by
  cases err
  · exact doneDram_fits (endPass_sizes _ _)
  · exact done_fits (failPass_sizes _ _)

theorem execCaptureDone_fits : Fits s (execCaptureDone s) := by
  unfold execCaptureDone
  refine done_fits ?_
  split
  · exact .ite (fun _ => .refl) fun _ => (setFlag_sizes _ _ _ s.begin_).then (setCapture_sizes _ _)
  · exact .refl

/-! ## Odometers -/

theorem execLosClear_fits (ch : Nat) : Fits s (execLosClear ch s) :=
  done_fits (.ite (fun _ => (setOdo_sizes _ _ _).thenUnless (clearLos_sizes _ _)) fun _ => .refl)

theorem execV24BLoss_fits : Fits s (execV24BLoss s) :=
  done_fits (Sizes.foldl (fun _ _ => (setOdo_sizes _ _ _).then (setLos_sizes _ _)) _ _)

theorem execRefReturn_fits (stn : Nat) : Fits s (execRefReturn stn s) := by
  unfold execRefReturn
  refine done_fits (.ite (fun _ => .refl) fun _ => ?_)
  split
  · exact .ite (fun _ => (handover_sizes _ _ _).then (raise_sizes _ _)) fun _ => setRef_sizes _ _ _
  · exact .refl

theorem execSynthTick_fits (stn ns : Nat) : Fits s (execSynthTick stn ns s) :=
  done_fits (.ite (fun _ => (setRef_sizes _ _ _).then (Sizes.foldl (fun _ _ => sourceTick_sizes _ _ _ _) _ _)) fun _ => .refl)

/-! ## Jobs -/

theorem execPageFetchEnd_fits (tile page bale : Nat) (err : Bool) : Fits s (execPageFetchEnd tile page bale err s) := by
  unfold execPageFetchEnd
  extract_lets t
  split
  · exact done_fits .refl
  · split
    · exact done_fits .refl
    · split
      · exact done_fits (abortBale_sizes _ _ _)
      · split
        · exact done_fits .refl
        · exact finish_fits ((begin_sizes s).then (pageFetched_sizes _ _ _ _ _))

theorem execLayerStart_fits (bale layer tile : Nat) (waited : Bool) : Fits s (execLayerStart bale layer tile waited s) := by
  unfold execLayerStart
  refine done_fits ?_
  split
  · exact .refl
  · split
    · exact .refl
    · exact .ite (fun _ => ((setBale_sizes _ _ _).then (fset_sizes _ _ _ _ _)).thenIf (bump_sizes _ _)) fun _ => .refl

theorem execStripeJobEnd_fits (bale : Nat) : Fits s (execStripeJobEnd bale s) :=
  finish_fits ((begin_sizes s).then (stripeJobEnd_sizes _ _))

theorem execJobDispatch_fits (stn : Nat) (bad : Option Nat) : Fits s (execJobDispatch stn bad s) := by
  cases bad with
  | none => exact done_fits (jobDispatch_sizes _ _)
  | some k => exact done_fits ((jobDispatch_sizes _ _).then (refuseCommand_sizes _ _ _))

/-- A pass of trees starts: the credits are settled, and the jobs run. -/
theorem startTrees_sizes (put : Stn → Nat → Stn) (ds : List (Nat × Nat)) (pass : Option (Nat × Nat × List Nat)) (js : List Job) :
    Sizes s { s with stations := settleShares put ds s.stations, treePass := pass, jobs := js } :=
  .of_lens (by simp only [State.lens, length_settleShares])

theorem execTreePassStart_fits : Fits s (execTreePassStart s) := by
  unfold execTreePassStart
  generalize List.range 16 = units
  refine done_fits (.ite (fun _ => .refl) fun _ => ?_)
  extract_lets heads
  split
  · exact .refl
  · split
    · exact .refl
    · exact (startTrees_sizes s.begin_ _ _ _ _).then (showPass_sizes _)

theorem setTreePass_sizes (pass : Option (Nat × Nat × List Nat)) : Sizes s { s with treePass := pass } := .of_lens rfl

theorem execTreePassEnd_fits (err : Nat) : Fits s (execTreePassEnd err s) := by
  unfold execTreePassEnd
  refine done_fits ?_
  split
  · exact .refl
  · refine .ite (fun _ => ?_) fun _ => (bump_sizes _ _).then (logFault_sizes _ _)
    exact ((setTreePass_sizes s.begin_ _).then ((showPass_sizes _).then (bump_sizes _ _))).then
      (Sizes.foldl (fun _ _ => (treeOut_touches _ _ _).sizes) _ _)

/-! ## Tiles -/

theorem execTileScrubEnd_fits (tile : Nat) : Fits s (execTileScrubEnd tile s) := by
  unfold execTileScrubEnd
  split
  · exact finish_fits ((begin_sizes s).then (setTile_sizes _ _ _))
  · exact done_fits .refl

theorem execSparePowered_fits (tile : Nat) : Fits s (execSparePowered tile s) := by
  unfold execSparePowered
  refine done_fits ?_
  split
  · exact .refl
  · extract_lets t
    have ht : Sizes s.begin_ t := setRetiring_sizes _ s.begin_
    clear_value t
    split
    · exact ht.then (setTile_sizes _ _ _)
    · exact ht

theorem execSpareBistEnd_fits (tile : Nat) (pass : Bool) : Fits s (execSpareBistEnd tile pass s) := by
  unfold execSpareBistEnd
  refine done_fits ?_
  split
  · exact .refl
  · refine .ite (fun _ => (spareReady_touches _ _).sizes) fun _ => ?_
    split
    · exact (retireSpare_touches _ _ _).sizes.then (restoreAll_sizes _)
    · exact .refl

end Sys2Proof.Machine

/-! PROOFS. The sizes: the commands of the field, of power and of the clocks. -/

namespace Sys2Proof.Machine

-- One theorem after the other: many at once ask for too many threads.
set_option Elab.async false

variable (s : State)

/-! ## The field -/

theorem acceptInput_sizes (ch : Nat) (lvl : Bool) (back : Int) (backNs : Nat) : Sizes s (acceptInput ch lvl back backNs s) := by
  unfold acceptInput
  extract_lets pos t f
  have ht : Sizes s t := setFio_sizes _ _ _
  clear_value t
  exact ht.then (.ite (fun _ => raise_sizes _ _) fun _ => .ite (fun _ => Sizes.foldl (fun _ _ => triggerEdge_sizes _ _ _) _ _) fun _ =>
    .ite (fun _ => Sizes.refl.thenIf (countEdge_touches _ _).sizes) fun _ => .ite (fun _ => Sizes.refl.thenIf (setFio_sizes _ _ _))
      fun _ => .refl)

theorem execFioInputAccept_fits (ch : Nat) (lvl : Bool) (back : Int) (backNs : Nat) :
    Fits s (execFioInputAccept ch lvl back backNs s) :=
  done_fits (Sizes.refl.thenIf (acceptInput_sizes _ _ _ _ _))

theorem execFreqGateEnd_fits (ch : Nat) : Fits s (execFreqGateEnd ch s) :=
  done_fits (.ite (fun _ => (setFio_sizes _ _ _).then (.ite (fun _ => (takeFree_sizes _).then (.of_lens rfl))
    fun _ => (takeFree_sizes _).then (setN_sizes _ _ _))) fun _ => .refl)

theorem execOnCheck_fits (ch : Nat) (high : Bool) : Fits s (execOnCheck ch high s) :=
  done_fits (.ite (fun _ => (setFio_sizes _ _ _).thenUnless (rbFail_sizes _ _)) fun _ => .refl)

theorem execOffCheck_fits (ch : Nat) (high : Bool) : Fits s (execOffCheck ch high s) :=
  done_fits (.ite (fun _ => ((Sizes.refl.thenIf (rbFail_sizes _ _)).then (resumeTest_sizes _ _)).thenUnless (freeChannel_sizes _ _))
    fun _ => .refl)

theorem execPulseEnd_fits (ch : Nat) : Fits s (execPulseEnd ch s) :=
  done_fits (.ite (fun _ => .refl) fun _ => .ite (fun _ => setFio_sizes _ _ _) fun _ =>
    (turnOff_touches _ _).sizes.thenUnless (freeChannel_sizes _ _))

/-- A group trip noted. -/
theorem setGrpTrip_sizes (g : Nat) (f : Bool → Bool) : Sizes s { s with grpTrip := modAt s.grpTrip g f } :=
  .of_lens (by simp only [State.lens, modAt, List.length_modify])

theorem execGrpOc_fits (g : Nat) : Fits s (execGrpOc g s) :=
  done_fits (.ite (fun _ => cutOutputs_sizes _ (fun _ => (setGrpTrip_sizes _ _ _).then (stick_sizes _ _ _)) _) fun _ => .refl)

theorem execFioUv_fits (supply : Nat) : Fits s (execFioUv supply s) :=
  done_fits (.ite (fun _ => (setUv_sizes _ _ _).then (raise_sizes _ _)) fun _ => .refl)

theorem execV24Return_fits (supply : Nat) : Fits s (execV24Return supply s) :=
  done_fits (.ite (fun _ => (setUv_sizes _ _ _).thenIf (v24bBack_sizes _)) fun _ => .refl)

theorem execDieLinkTimeout_fits : Fits s (execDieLinkTimeout s) :=
  done_fits (.ite (fun _ => .refl) fun _ => ((logFault_sizes _ _).then (safeState_sizes _)).then
    (Sizes.foldl (fun _ _ => freeMile_sizes _ _) _ _))

theorem execDieLinkReturn_fits : Fits s (execDieLinkReturn s) := done_fits (Sizes.refl.thenIf (leaveSafe_sizes _))

/-! ## Domains and clocks -/

theorem execDomainOff_fits (d : Nat) : Fits s (execDomainOff d s) := done_fits (Sizes.refl.thenIf (switchOff_sizes _ _))

theorem execDomainOn_fits (d : Nat) : Fits s (execDomainOn d s) := done_fits (Sizes.refl.thenUnless (switchOn_sizes _ _))

/-- The reference that is lost takes a free bit with it. -/
theorem setFree_sizes (n : Nat) : Sizes s { s with free := n } := .of_lens rfl

theorem execRefclkLoss_fits : Fits s (execRefclkLoss s) := by
  unfold execRefclkLoss
  refine done_fits ?_
  extract_lets ref used t u off clk v w
  refine .ite (fun _ => .refl) fun _ => ?_
  have ht : Sizes s.begin_ t := setFree_sizes s.begin_ _
  clear_value t
  have hu : Sizes t u := setFlag_sizes _ _ _ _
  clear_value u
  have hoff : Sizes u off := setFlag_sizes _ _ _ _
  clear_value off
  have hv : Sizes u v := Sizes.refl.thenIf (hoff.then (setRefclk_sizes _ off))
  clear_value v
  have hw : Sizes v w := (logFault_sizes _ _).then (raise_sizes _ _)
  clear_value w
  exact ht.then (hu.then (hv.then (.ite (fun _ => hw.then (.ite (fun _ => startRefMove_sizes _ _ _) fun _ => refHoldover_sizes _))
    fun _ => .refl)))

theorem execRefclkSwitch_fits : Fits s (execRefclkSwitch s) := by
  unfold execRefclkSwitch
  refine done_fits (.ite (fun _ => ?_) fun _ => .refl)
  extract_lets r wait t u
  have ht : Sizes s.begin_ t := (fset_sizes _ _ _ _ _).then ((setFlag_sizes _ _ _ _).then (setFlag_sizes _ _ _ _))
  clear_value t
  have hu : Sizes t u := setFlag_sizes _ _ _ _
  clear_value u
  exact ht.then (hu.then ((setRefclk_sizes _ u).then ((bump_sizes _ _).then (raise_sizes _ _))))

theorem execRefclkRecover_fits (ref : Nat) : Fits s (execRefclkRecover ref s) := by
  unfold execRefclkRecover
  refine done_fits ?_
  extract_lets t
  have ht : Sizes s.begin_ t := setFlag_sizes _ _ _ _
  clear_value t
  exact ht.then (.ite (fun _ => .refl) fun _ => .ite (fun _ => Sizes.refl.thenIf (setRefclk_sizes _ _)) fun _ =>
    .ite (fun _ => startRefMove_sizes _ _ _) fun _ => Sizes.refl.thenIf (setFlag_sizes _ _ _ _))

theorem execRefclkReturn_fits : Fits s (execRefclkReturn s) :=
  done_fits (Sizes.refl.thenIf ((startRefMove_sizes _ _ _).then (raise_sizes _ _)))

theorem execNodeFail_fits (node : Nat) : Fits s (execNodeFail node s) := by
  unfold execNodeFail
  refine done_fits (.ite (fun _ => .refl) fun _ => ?_)
  extract_lets t own moved stuck f u v
  have ht : Sizes s.begin_ t := setFlag_sizes _ _ _ _
  clear_value t
  have hu : Sizes t u := (logFault_sizes _ _).then (raise_sizes _ _)
  clear_value u
  have hv : Sizes u v := Sizes.foldl (fun _ _ => borrow_sizes _ _) _ _
  clear_value v
  exact ht.then (hu.then (hv.thenIf (retireTile_sizes _ _ _)))

/-! ## Operating points -/

theorem execOpRampEnd_fits (island : Nat) : Fits s (execOpRampEnd island s) := by
  unfold execOpRampEnd
  refine done_fits ?_
  split
  · exact (setPwr_sizes _ s.begin_).then ((setIslandVolt_sizes _ _ _).then (setIslandOp_sizes _ _ _))
  · exact .refl

theorem execAvsStep_fits (island slack : Nat) : Fits s (execAvsStep island slack s) := by
  unfold execAvsStep
  refine done_fits (.ite (fun _ => .refl) fun _ => ?_)
  extract_lets pwr t v w
  have ht : Sizes s.begin_ t := .ite (fun _ => fset_sizes _ _ _ _ _) fun _ => setPwr_sizes _ s.begin_
  clear_value t
  exact ht.then (.ite (fun _ => Sizes.refl.thenIf (setIslandVolt_sizes _ _ _)) fun _ =>
    .ite (fun _ => Sizes.refl.thenIf (setIslandVolt_sizes _ _ _)) fun _ => .refl)

theorem execAvsLimit_fits (island : Nat) : Fits s (execAvsLimit island s) := by
  unfold execAvsLimit
  refine done_fits (.ite (fun _ => .refl) fun _ => ?_)
  extract_lets pwr t
  have ht : Sizes s.begin_ t := (setPwr_sizes _ s.begin_).then (setIslandOp_sizes _ _ _)
  clear_value t
  exact ht.then (Sizes.refl.thenIf ((setFlag_sizes _ _ _ _).then (raise_sizes _ _)))

theorem execThrottle_fits (b sensor : Nat) (temp : Int) : Fits s (execThrottle b sensor temp s) := by
  unfold execThrottle
  extract_lets t
  have ht : Sizes s.begin_ t := setTemp_sizes _ _ _
  clear_value t
  refine done_fits (ht.then ?_)
  split
  · exact .refl
  · exact Sizes.refl.thenIf ((setTherm_sizes _ _ _).then ((bump_sizes _ _).then (raise_sizes _ _)))

theorem execThermalLimitRise_fits (b : Nat) : Fits s (execThermalLimitRise b s) :=
  done_fits (Sizes.refl.thenIf (setTherm_sizes _ _ _))

theorem execThermalMax_fits (sensor : Nat) (temp : Int) : Fits s (execThermalMax sensor temp s) :=
  done_fits ((setTemp_sizes _ _ _).thenIf (Sizes.foldl (fun _ _ => Sizes.refl.thenUnless (setTherm_sizes _ _ _)) _ _))

theorem execThermTrip_fits (sensor : Nat) (temp : Int) : Fits s (execThermTrip sensor temp s) :=
  done_fits ((setTemp_sizes _ _ _).thenIf ((raise_sizes _ _).then (toWaystation_sizes _ _ _)))

theorem execPowerMeasure_fits (mw : Nat) : Fits s (execPowerMeasure mw s) := by
  unfold execPowerMeasure
  extract_lets t
  have ht : Sizes s.begin_ t := setN_sizes _ _ _
  clear_value t
  refine done_fits (ht.then ?_)
  split
  · exact .refl
  · rename_i u _ _ _ _ _
    refine .ite (fun _ => ?_) fun _ => setPwr_sizes _ t
    have hu : Sizes t u := by
      unfold u
      split
      · exact Sizes.refl.thenIf (setPolicy_sizes _ _ _)
      · exact .refl
    clear_value u
    exact hu.then (Sizes.refl.thenUnless ((setPwr_sizes _ u).then (raise_sizes _ _)))

/-- The stations, each changed by its number. -/
theorem mapStations_sizes (f : Nat × Stn → Stn) : Sizes s { s with stations := (indexed s.stations).map f } :=
  .of_lens (by simp only [State.lens, indexed, List.length_map, List.length_zip, List.length_range, Nat.min_self])

theorem execPlacementWindow_fits (busy bw : List Nat) : Fits s (execPlacementWindow busy bw s) := by
  unfold execPlacementWindow
  extract_lets b t
  have ht : Sizes b t := mapStations_sizes b _
  clear_value t
  exact done_fits (ht.then ((placeWindow_touches _ _ _).sizes.then (policyWindow_sizes _ _ _)))

end Sys2Proof.Machine

/-! PROOFS. The sizes: the commands of the lanes and of the Suras link. -/

namespace Sys2Proof.Machine

-- One theorem after the other: many at once ask for too many threads.
set_option Elab.async false

variable (s : State)

/-! ## Lanes -/

theorem execTrain_fits (lane request status : Nat) (locked : Bool) : Fits s (execTrain lane request status locked s) := by
  unfold execTrain
  refine done_fits (.ite (fun _ => ?_) fun _ => .refl)
  extract_lets r t u v
  have ht : Sizes s.begin_ t := (setTapsNow_sizes _ _ _).then (fset_sizes _ _ _ _ _)
  clear_value t
  have hu : Sizes t u := (gainLock_sizes _ _).then (setFlag_sizes _ _ _ _)
  clear_value u
  have hv : Sizes u v := setLane_sizes _ _ _
  clear_value v
  exact ht.then (hu.then (hv.then ((sendTrain_sizes _ _ _ _).then (readyBoth_sizes _ _))))

theorem execBackChannelRequest_fits (lane request : Nat) : Fits s (execBackChannelRequest lane request s) :=
  done_fits (.ite (fun _ => (fset_sizes _ _ _ _ _).then ((setLane_sizes _ _ _).then ((sendTrain_sizes _ _ _ _).then (readyBoth_sizes _ _))))
    fun _ => .refl)

theorem execLaneTrainFail_fits (lane : Nat) : Fits s (execLaneTrainFail lane s) :=
  done_fits (Sizes.refl.thenIf ((endTraining_sizes _ _ _).then ((bump_sizes _ _).then (raise_sizes _ _))))

theorem execTrainRetry_fits (lane : Nat) : Fits s (execTrainRetry lane s) :=
  done_fits (Sizes.refl.thenIf ((setLane_sizes _ _ _).then (trainFrom_sizes _ _ _)))

theorem execSkipSend_fits (lane : Nat) : Fits s (execSkipSend lane s) :=
  done_fits (.ite (fun _ => (setOut_sizes _ s.begin_).then (Sizes.foldl (fun _ _ => (laneSkip_touches _ _).sizes) _ _)) fun _ => .refl)

/-- The fill of a lane counted, and its register of skips. -/
theorem skipStep_sizes (a b n : Nat) : Sizes s (bump a (s.fset b 15 8 n)) := (fset_sizes _ _ _ _ _).then (bump_sizes _ _)

theorem execSkipReceive_fits (lane : Nat) : Fits s (execSkipReceive lane s) :=
  done_fits (.ite (fun _ => .refl) fun _ => .ite (fun _ => Sizes.foldl (fun u _ => skipStep_sizes u _ _ _) _ _) fun _ =>
    .ite (fun _ => Sizes.foldl (fun u _ => skipStep_sizes u _ _ _) _ _) fun _ => .refl)

theorem execLaneLockLoss_fits (lane : Nat) : Fits s (execLaneLockLoss lane s) := by
  unfold execLaneLockLoss
  refine done_fits (.ite (fun _ => ?_) fun _ => .refl)
  extract_lets t
  have ht : Sizes s.begin_ t := (setFlag_sizes _ _ _ _).then (raise_sizes _ _)
  clear_value t
  split
  · exact ht.then (retrain_sizes _ _)
  · exact ht

/-- The reference of a side's lanes. -/
theorem setLref_sizes (k : Nat) (f : Bool → Bool) : Sizes s { s with lref := modAt s.lref k f } :=
  .of_lens (by simp only [State.lens, modAt, List.length_modify])

theorem execLrefLoss_fits (side : Nat) : Fits s (execLrefLoss side s) := by
  unfold execLrefLoss
  refine done_fits (.ite (fun _ => ?_) fun _ => .refl)
  extract_lets ks ls t u v
  have ht : Sizes s.begin_ t := setLref_sizes s.begin_ _ _
  clear_value t
  have hu : Sizes t u := (logFault_sizes _ _).then (raise_sizes _ _)
  clear_value u
  have hv : Sizes u v := Sizes.foldl (fun _ _ => laneStat_sizes _ _ _ _ _ _) _ _
  clear_value v
  exact ht.then (hu.then (hv.then (Sizes.foldl (fun _ _ => linkDown_sizes _ _) _ _)))

theorem execLrefReturn_fits (side : Nat) : Fits s (execLrefReturn side s) :=
  done_fits (.ite (fun _ => (setLref_sizes s.begin_ _ _).then (Sizes.foldl (fun _ _ => .ite (fun _ => .refl) fun _ =>
    .ite (fun _ => startTraining_sizes _ _) fun _ => .ite (fun _ => (laneStat_sizes _ _ _ _ _ _).then (startPcs_sizes _ _ _))
      fun _ => .refl) _ _)) fun _ => .refl)

/-! ## The segment -/

theorem execLinkAligned_fits (link : Nat) : Fits s (execLinkAligned link s) := by
  unfold execLinkAligned
  refine done_fits (.ite (fun _ => .refl) fun _ => .ite (fun _ => ?_) fun _ => ?_)
  · cases (s.begin_.ring link).head? with
    | none => exact .refl
    | some e => exact (wakeEp_touches _ _ _).sizes
  · extract_lets t u
    have ht : Sizes s.begin_ t := Sizes.foldl (fun _ _ => (endTraining_sizes _ _ _).then (setLane_sizes _ _ _)) _ _
    clear_value t
    have hu : Sizes t u := (alignLink_touches _ _).sizes
    clear_value u
    refine ht.then (hu.then ?_)
    split
    · exact sendPacket_sizes _ _ _ _ _ _
    · exact .refl

theorem execAck_fits (link : Nat) (express : Bool) (seq : Nat) : Fits s (execAck link express seq s) :=
  done_fits (.ite (fun _ => (setLink_sizes _ _ _).then ((showReplay_touches _ _).sizes.then (drain_touches _ _).sizes)) fun _ => .refl)

theorem execReplayTimeout_fits (link : Nat) (express : Bool) : Fits s (execReplayTimeout link express s) := by
  unfold execReplayTimeout
  refine done_fits ?_
  split
  · exact resend_sizes _ _ _ _
  · exact .refl

theorem execCredit_fits (link vc grant : Nat) : Fits s (execCredit link vc grant s) :=
  done_fits (.ite (fun _ => (setLink_sizes _ _ _).then (drain_touches _ _).sizes) fun _ => .refl)

theorem execPacketReceive_fits (link : Nat) (express : Bool) (words : List Dword) : Fits s (execPacketReceive link express words s) :=
  done_fits (.ite (fun _ => .refl) fun _ => .ite (fun _ => bump_sizes _ _) fun _ =>
    .ite (fun _ => (bump_sizes _ _).then (sendNak_sizes _ _ _)) fun _ => .ite (fun _ => acceptPacket_sizes _ _ _ _) fun _ =>
      .ite (fun _ => linkBlock_sizes _ _ _ _ _) fun _ => sendNak_sizes _ _ _)

/-! ## Endpoints -/

theorem startExchange_sizes (l a : Nat) : Sizes s (startExchange l a s) := (startExchange_touches l a s).sizes

theorem execAnnounce_fits (link addr serial cls version : Nat) : Fits s (execAnnounce link addr serial cls version s) := by
  unfold execAnnounce
  refine done_fits ?_
  extract_lets t r power weights u v
  have ht : Sizes s.begin_ t := .ite (fun _ => (loseEp_sizes _ _ _).then (judgeAll_sizes _)) fun _ => .refl
  clear_value t
  have hu : Sizes t u := (setN_sizes _ _ _).then (sendAnnounceResp_sizes _ _ _ _ _ _ _)
  clear_value u
  have hv : Sizes u v := Sizes.refl.thenIf (setEpState_sizes _ _ _ _)
  clear_value v
  exact ht.then (hu.then (.ite (fun _ => (setEpState_sizes _ _ _ _).then ((setEp_sizes _ _ _ _).then (startExchange_sizes _ _ _)))
    fun _ => hv.then ((raise_sizes _ _).then (judgeAll_sizes _))))

theorem execTimeReq_fits (link : Nat) : Fits s (execTimeReq link s) :=
  done_fits (Sizes.foldl (fun _ _ => Sizes.refl.thenIf (startExchange_sizes _ _ _)) _ _)

theorem judgeTime_sizes (l a : Nat) (off : Int) : Sizes s (judgeTime l a off s) := by
  have hc : ∀ (rate : Int) (u : State), Sizes u (correct l a off rate u) := fun _ _ => (correct_touches _ _ _ _ _).sizes
  unfold judgeTime
  extract_lets ok
  split
  · exact .refl
  · rename_i t _ _ _
    refine .ite (fun _ => (hc _ s).then (setFree_sizes _ _)) fun _ => ?_
    extract_lets rounds
    have ht : Sizes s t := (leaveActive_sizes _ _ _ _).then (hc _ _)
    clear_value t
    exact .ite (fun _ => (hc _ s).then (becomeActive_sizes _ _ _)) fun _ => ht.then
      (.ite (fun _ => (setEp_sizes _ _ _ _).then (raise_sizes _ _)) fun _ => (setEp_sizes _ _ _ _).then (startExchange_sizes _ _ _))

theorem execTimeResp_fits (link addr tag t2 t3 : Nat) : Fits s (execTimeResp link addr tag t2 t3 s) := by
  unfold execTimeResp
  refine done_fits ?_
  split
  · exact .refl
  · refine .ite (fun _ => .refl) fun _ => ?_
    exact (setFree_sizes s.begin_ _).then ((fset_sizes _ _ _ _ _).then ((setN_sizes _ _ _).then ((setEp_sizes _ _ _ _).then
      (judgeTime_sizes _ _ _ _))))

theorem execStrayedRetry_fits (link addr : Nat) : Fits s (execStrayedRetry link addr s) := by
  unfold execStrayedRetry
  refine done_fits ?_
  split
  · exact .ite (fun _ => (setEp_sizes _ _ _ _).then (startExchange_sizes _ _ _)) fun _ => .refl
  · exact .refl

theorem execPower_fits (link addr target : Nat) : Fits s (execPower link addr target s) :=
  done_fits (.ite (fun _ => (sendPower_sizes _ _ _ _).then (setEp_sizes _ _ _ _)) fun _ => .refl)

theorem execPowerResp_fits (link addr result : Nat) : Fits s (execPowerResp link addr result s) := by
  unfold execPowerResp
  refine done_fits ?_
  split
  · exact .ite (fun _ => .refl) fun _ => .ite (fun _ => (sleepEp_touches _ _ _ _).sizes) fun _ => setEp_sizes _ _ _ _
  · exact .refl

theorem execSegmentWake_fits (link addr : Nat) : Fits s (execSegmentWake link addr s) :=
  done_fits (.ite (fun _ => Sizes.foldl (fun _ _ => (wakeEp_touches _ _ _).sizes) _ _) fun _ => .refl)

theorem execEvent_fits (link addr code chan : Nat) : Fits s (execEvent link addr code chan s) :=
  done_fits (Sizes.refl.thenIf (deliver_touches _ _ _ _ _).sizes)

theorem execResp_fits (link addr tag status : Nat) (data : List Dword) : Fits s (execResp link addr tag status data s) :=
  done_fits (Sizes.refl.thenIf (deliver_touches _ _ _ _ _).sizes)

theorem execIoReport_fits (link addr time value : Nat) : Fits s (execIoReport link addr time value s) :=
  done_fits (Sizes.refl.thenIf ((setN_sizes _ _ _).then ((setN_sizes _ _ _).then (setN_sizes _ _ _))))

end Sys2Proof.Machine

/-! PROOFS. The sizes: loads, resets, the peripherals, the timebase and the commands of the steward port. -/

namespace Sys2Proof.Machine

-- One theorem after the other: many at once ask for too many threads.
set_option Elab.async false

variable (s : State)

/-! ## Loads and resets -/

theorem execLoadEnd_fits (bandFails : List (Nat × Nat)) : Fits s (execLoadEnd bandFails s) := by
  unfold execLoadEnd
  extract_lets t
  split
  · exact done_fits .refl
  · rename_i l _
    refine doneDram_fits ?_
    split
    · exact loadFull_sizes _ _ _
    · exact loadStation_sizes _ _

theorem execHandoff_fits : Fits s (execHandoff s) := doneDram_fits (handoff_sizes _)

theorem execResetCmdWrite_fits (ini key : Nat) : Fits s (execResetCmdWrite ini key s) := doneFlash_fits (resetCmd_sizes _ _ _)

theorem execSysRstNLow_fits (ns : Nat) : Fits s (execSysRstNLow ns s) := by
  unfold execSysRstNLow
  extract_lets acts
  split
  · exact finish_fits ((afterReset_sizes s).then ((setFree_sizes s.afterReset _).then (setFlag_sizes _ _ _ _)))
  · exact finish_fits ((begin_sizes s).then (setFree_sizes s.begin_ _))

theorem setTap_sizes (n : Nat) : Sizes s { s with tap := n } := .of_lens rfl

theorem execSysRstNRise_fits : Fits s (execSysRstNRise s) :=
  done_fits (.ite (fun _ => (setTap_sizes s.begin_ _).then (startMuster_sizes _)) fun _ => .refl)

/-- What a loss of main power takes beside a reset: registers, the logbook, the scan port and the boot state. -/
theorem losePower_sizes (n : Nat) (x : Scan) (r : RegFile) (l : Logbook) (b : Boot) :
    Sizes s { s with tap := n, scan := x, regs := r, log := l, boot := b } := .of_lens rfl

theorem execMainPowerLoss_fits : Fits s (execMainPowerLoss s) := by
  unfold execMainPowerLoss
  split
  · exact finish_fits ((afterReset_sizes s).then (losePower_sizes s.afterReset _ _ _ _ _))
  · exact done_fits .refl

theorem setTbLog_sizes (tb : Timebase) (l : Logbook) : Sizes s { s with tb := tb, log := l } := .of_lens rfl

theorem execMainPowerReturn_fits : Fits s (execMainPowerReturn s) := by
  unfold execMainPowerReturn
  extract_lets t
  split
  · exact done_fits .refl
  · exact doneTb_fits (setTbLog_sizes s.begin_ _ _)

theorem execVbatLow_fits : Fits s (execVbatLow s) := done_fits (Sizes.refl.thenUnless (setLog_sizes _ s.begin_))

/-! ## Peripherals -/

theorem execMachineTimerInterrupt_fits (c : Nat) : Fits s (execMachineTimerInterrupt c s) :=
  done_fits (Sizes.refl.thenIf (setOut_sizes _ s.begin_))

theorem setUart_sizes (u : Nat) (f : Uart → Uart) : Sizes s (s.setUart u f) :=
  .of_lens (by simp only [State.lens, State.setUart, modAt, List.length_modify])

theorem setI2c_sizes (i : Nat) (f : I2c → I2c) : Sizes s (s.setI2c i f) :=
  .of_lens (by simp only [State.lens, State.setI2c, modAt, List.length_modify])

theorem execUartRxByte_fits (u : Nat) (b : Byte) (err : Bool) : Fits s (execUartRxByte u b err s) := by
  unfold execUartRxByte
  extract_lets t0 n full t1 t2
  have h1 : Sizes t0 t1 := Sizes.refl.thenIf (stick_sizes _ _ _)
  clear_value t1
  have h2 : Sizes t1 t2 := .ite (fun _ => stick_sizes _ _ _) fun _ => setUart_sizes _ _ _
  clear_value t2
  exact done_fits (h1.then (h2.thenIf (raise_sizes _ _)))

theorem execUartTxByte_fits (u : Nat) : Fits s (execUartTxByte u s) := by
  unfold execUartTxByte
  extract_lets t
  split
  · exact done_fits .refl
  · exact done_fits ((setUart_sizes _ _ _).thenIf (raise_sizes _ _))

theorem execI2cCmdDone_fits (i : Nat) (rx : Byte) (nack : Bool) : Fits s (execI2cCmdDone i rx nack s) := by
  unfold execI2cCmdDone
  extract_lets t0
  split
  · exact done_fits .refl
  · rename_i c r _
    have hr : Sizes s.begin_ (t0.setI2c i fun x => { x with cmds := r }) := setI2c_sizes _ _ _
    cases c with
    | write b =>
      cases nack
      · exact done_fits (hr.thenIf (raise_sizes _ _))
      · exact done_fits ((hr.then (stick_sizes _ _ _)).thenIf (raise_sizes _ _))
    | _ => exact done_fits ((hr.then (setI2c_sizes _ _ _)).thenIf (raise_sizes _ _))

/-- The level of a pin. -/
theorem setGpio_sizes (pin : Nat) (f : Bool → Bool) : Sizes s { s with gpio := modAt s.gpio pin f } :=
  .of_lens (by simp only [State.lens, modAt, List.length_modify])

theorem execGpioEdge_fits (pin : Nat) (lvl : Bool) : Fits s (execGpioEdge pin lvl s) :=
  done_fits ((setGpio_sizes s.begin_ _ _).thenIf (raise_sizes _ _))

theorem setTapRdata_sizes (n : Nat) (w : Word) : Sizes s { s with tap := n, rdata := w } := .of_lens rfl

theorem execBoundaryScanInstruction_fits (scan : Nat) : Fits s (execBoundaryScanInstruction scan s) := by
  unfold execBoundaryScanInstruction
  extract_lets t0 ins shift i t
  have ht : Sizes t0 t := Sizes.refl.thenIf (scanChain_touches _ _).sizes
  clear_value t
  exact done_fits (ht.then (setTapRdata_sizes t _ _))

/-- What a transport has received is discarded. -/
theorem clearRx_sizes (k : Nat) : Sizes s { s with sport := { s.sport with rx := modAt s.sport.rx k fun _ => [] } } :=
  setSport_sizes_of_length (List.length_modify ..) rfl

theorem execUartGapTimeout_fits : Fits s (execUartGapTimeout s) := done_fits (clearRx_sizes s.begin_ 0)

theorem execSptCsRise_fits : Fits s (execSptCsRise s) :=
  done_fits (Sizes.refl.thenUnless ((clearRx_sizes s.begin_ 1).then (portError_sizes _)))

/-! ## The timebase -/

theorem execTbWrap_fits : Fits s (execTbWrap s) := doneTb_fits ((setTb_sizes _ s.begin_).then (raise_sizes _ _))

theorem setPtp_sizes (k : Nat) (f : List PtpEntry → List PtpEntry) : Sizes s { s with ptp := modAt s.ptp k f } :=
  .of_lens (by simp only [State.lens, modAt, List.length_modify])

theorem execPtpEventMessage_fits (port dir msgType domain seq : Nat) (udp : Bool) :
    Fits s (execPtpEventMessage port dir msgType domain seq udp s) :=
  done_fits (.ite (fun _ => .ite (fun _ => (setPtp_sizes s.begin_ _ _).then (raise_sizes _ _)) fun _ => bump_sizes _ _) fun _ => .refl)

/-! ## Accesses -/

theorem execBusErr_fits (ini addr : Nat) (wr : Bool) : Fits s (execBusErr ini addr wr s) :=
  done_fits ((busError_sizes _ _ _ _).thenUnless (setRdata_sizes _ _))

/-- A read that is made on a condition. -/
theorem readIf_sizes {c : Prop} [Decidable c] {r : Word × State} (h : Sizes s r.2) : Sizes s (if c then r else (0, s)).2 := by
  split
  · exact h
  · exact .refl

/-! ## The steward port -/

/-- The port without a request, with its last answer. -/
theorem setAnswer_sizes (q : Option Request) (l : Option (Nat × Nat × List Byte)) :
    Sizes s { s with sport := { s.sport with running := q, last := l } } := .of_lens rfl

/-- The port with another flashing session. -/
theorem setSession_sizes (f : Option FlashSession) : Sizes s { s with sport := { s.sport with flash := f } } := .of_lens rfl

theorem respond_sizes (q : Request) (status : Nat) (payload : List Byte) : Sizes s (respond q status payload s) :=
  (setAnswer_sizes s _ _).then (sendFrame_touches _ _ _).sizes

theorem serve_fits (sc : Scope) (cmd : Nat) {f : List Byte → State → Reply} (hf : ∀ p u, Sizes u (f p u).st) : Fits s (serve sc cmd f s) := by
  unfold serve
  extract_lets t
  split
  · rename_i q _
    split
    · extract_lets r
      have hr : Sizes t r.st := by
        unfold r
        split
        · exact hf _ _
        · exact .refl
      clear_value r
      exact finish_fits ((begin_sizes s).then (hr.then (respond_sizes _ _ _ _)))
    · exact done_fits .refl
  · exact done_fits .refl

theorem sized_sizes (n : Nat) {f : State → Reply} (p : List Byte) (h : Sizes s (f s).st) : Sizes s (sized n f p s).st := by
  unfold sized
  split
  · exact h
  · exact .refl

theorem faultReport_sizes (p : List Byte) : Sizes s (faultReport p s).st := by
  unfold faultReport
  dsimp only
  split <;> exact .refl

theorem logReport_sizes (p : List Byte) : Sizes s (logReport p s).st := by
  unfold logReport
  dsimp only
  split
  · exact .refl
  split
  · exact setSport_sizes_of_length rfl rfl
  split <;> exact .refl

theorem readWords_sizes (n a : Nat) : Sizes s (readWords n a s).2 := by
  induction n generalizing a s with
  | zero => exact .refl
  | succ n ih => exact (busRead_sizes _ _ _).then (ih _ _)

theorem regReport_sizes (p : List Byte) : Sizes s (regReport p s).st := by
  unfold regReport
  dsimp only
  split
  · exact .refl
  split
  · exact .refl
  · exact readWords_sizes _ _ _

theorem writeWords_sizes (ws : List (List Byte)) (a : Nat) (b : Bus) : Sizes b.st (writeWords ws a b).st := by
  induction ws generalizing a b with
  | nil => exact .refl
  | cons w ws ih =>
    have hx : Sizes b.st (busWrite iniPort a (word (leN w)) b.st).st := busWrite_sizes _ _ _ _
    simp only [writeWords]
    generalize busWrite iniPort a (word (leN w)) b.st = x at hx ⊢
    exact hx.then (ih (a + 4) { st := x.st, dram := b.dram ++ x.dram, flash := b.flash ++ x.flash })

theorem regStore_sizes (p : List Byte) : Sizes s (regStore p s).st := by
  unfold regStore
  dsimp only
  split
  · exact .refl
  split
  · exact .refl
  · exact writeWords_sizes (chunks 4 (p.drop 8)) (leAt p 0 8) { st := s }

theorem flashStart_sizes (p : List Byte) : Sizes s (flashStart p s).st := by
  unfold flashStart
  extract_lets ty len
  split
  · exact .refl
  split
  · exact .refl
  split
  · exact .refl
  · exact setSession_sizes s _

theorem flashBytes_sizes (p : List Byte) : Sizes s (flashBytes p s).st := by
  unfold flashBytes
  dsimp only
  split
  · exact .refl
  split
  · exact .refl
  split
  · exact .refl
  split <;> exact .refl

theorem flashStop_sizes : Sizes s (flashStop s).st := by
  unfold flashStop
  dsimp only
  split
  · exact .refl
  · split
    · exact setSession_sizes s _
    · exact setSession_sizes s _

theorem approveRow_sizes (p : List Byte) : Sizes s (approveRow p s).st := by
  unfold approveRow
  dsimp only
  split
  · exact .refl
  split
  · exact .refl
  · exact fieldEntry_sizes _ _ _ _

theorem revokeSlot_sizes (p : List Byte) : Sizes s (revokeSlot p s).st := by
  unfold revokeSlot
  dsimp only
  split
  · exact .refl
  split
  · exact .refl
  · exact .of_lens rfl

theorem portReset_sizes : Sizes s (portReset s).st := by
  unfold portReset
  dsimp only
  split
  · exact .refl
  · exact resetDevice_sizes _

end Sys2Proof.Machine

/-! PROOFS. The sizes: the commands that are one operation, every command, and every step. -/

namespace Sys2Proof.Machine

-- One theorem after the other: many at once ask for too many threads.
set_option Elab.async false

theorem dispRead_sizes (ctx idx : Nat) (s : State) : Sizes s (dispRead ctx idx s) := (dispRead_touches ctx idx s).sizes
theorem codeRead_sizes (ctx idx : Nat) (s : State) : Sizes s (codeRead ctx idx s) := (codeRead_touches ctx idx s).sizes

section
variable (s : State)

/-! ## Accesses -/

theorem execRegisterWrite_fits (ini addr : Nat) (val : Word) : Fits s (execRegisterWrite ini addr val s) :=
  doneBus_fits (busWrite_sizes _ _ _ _)
theorem execCounterClr_fits (ini addr : Nat) : Fits s (execCounterClr ini addr s) := doneBus_fits (busWrite_sizes _ _ _ _)
theorem execCommitGo_fits (ini addr : Nat) : Fits s (execCommitGo ini addr s) := doneBus_fits (busWrite_sizes _ _ _ _)
theorem execWideLowRead_fits (ini addr : Nat) : Fits s (execWideLowRead ini addr s) := doneRead_fits (busRead_sizes _ _ _)
theorem execMileEntryRead_fits (ini e : Nat) : Fits s (execMileEntryRead ini e s) :=
  doneRead_fits (readIf_sizes _ (entryRead_sizes _ _ _))
theorem execFaultEntryRead_fits (ini i : Nat) : Fits s (execFaultEntryRead ini ix s) :=
  doneRead_fits (readIf_sizes _ (faultRead_sizes _ _ _))
theorem execPtpTsLoRead_fits (ini port dir : Nat) : Fits s (execPtpTsLoRead ini port dir s) :=
  doneRead_fits (readIf_sizes _ (ptpRead_sizes _ _ _ _))
theorem execPtpTsIdRead_fits (ini port dir : Nat) : Fits s (execPtpTsIdRead ini port dir s) :=
  doneRead_fits (readIf_sizes _ (ptpIdRead_sizes _ _ _ _))
theorem execMboxDataHiRead_fits (ini n : Nat) : Fits s (execMboxDataHiRead ini n s) := doneRead_fits (readIf_sizes _ (mboxRead_sizes _ _))
theorem execDropPkt_fits (ini n : Nat) : Fits s (execDropPkt ini n s) := done_fits (dropPacket_sizes _ _)
theorem execEvqHiRead_fits (ini t : Nat) : Fits s (execEvqHiRead ini t s) := doneRead_fits (evqRead_sizes _ _)
theorem execEvtRouteWrite_fits (ini src : Nat) (val : Word) : Fits s (execEvtRouteWrite ini src val s) :=
  done_fits (Sizes.refl.thenIf (routeWrite_sizes _ _ _ _))

/-! ## Loads and retirement -/

theorem execLoadFull_fits (ini : Nat) : Fits s (execLoadFull ini s) := done_fits (startLoad_sizes _ _)
theorem execLoadStation_fits (ini : Nat) : Fits s (execLoadStation ini s) := done_fits (startLoad_sizes _ _)
theorem execAbort_fits (ini : Nat) : Fits s (execAbort ini s) := done_fits (abortLoad_sizes _)
theorem execCancelPending_fits (ini stn : Nat) : Fits s (execCancelPending ini stn s) := done_fits (cancelPending_touches _ _).sizes
theorem execRetireCmd_fits (ini key tile : Nat) : Fits s (execRetireCmd ini key tile s) := done_fits (retireCmd_sizes _ _ _)
theorem execFmapWriteEnd_fits : Fits s (execFmapWriteEnd s) := doneFlash_fits (fmapWritten_sizes _)

/-! ## Arming and the field -/

theorem execTrigEnSet_fits (ini stn : Nat) : Fits s (execTrigEnSet ini stn s) := done_fits (Sizes.refl.thenIf (trigEnSet_sizes _ _))
theorem execArmGrant_fits (stn : Nat) : Fits s (execArmGrant stn s) := done_fits (armGrant_touches _ _).sizes
theorem execTrigEnClear_fits (ini stn : Nat) : Fits s (execTrigEnClear ini stn s) := done_fits (ifOn_sizes _ _ (trigEnClear_sizes _) _)
theorem execCancelAll_fits (ini stn : Nat) : Fits s (execCancelAll ini stn s) := done_fits (ifOn_sizes _ _ (cancelAll_sizes _) _)
theorem execStopClr_fits (ini stn : Nat) : Fits s (execStopClr ini stn s) := done_fits (ifOn_sizes _ _ (stopClr_sizes _) _)
theorem execStopSet_fits (ini stn : Nat) : Fits s (execStopSet ini stn s) := done_fits (ifOn_sizes _ _ (assertStop_sizes _ _) _)
theorem execArm_fits (ini ch : Nat) : Fits s (execArm ini ch s) := done_fits (ifOn_sizes _ _ (odoArm_sizes _) _)
theorem execRearm_fits (ini ch : Nat) : Fits s (execRearm ini ch s) := done_fits (ifOn_sizes _ _ (rearm_sizes _) _)
theorem execGrpRearm_fits (ini g : Nat) : Fits s (execGrpRearm ini g s) := done_fits (ifOn_sizes _ _ (grpRearm_sizes _) _)
theorem execCntClr_fits (ini ch : Nat) : Fits s (execCntClr ini ch s) := done_fits (ifOn_sizes _ _ (cntClr_sizes _) _)
theorem execOn_fits (ini ch : Nat) (lvl : Bool) : Fits s (execOn ini ch lvl s) := doneBus_fits (busWrite_sizes _ _ _ _)
theorem execFioTest_fits (ini ch us : Nat) : Fits s (execFioTest ini ch us s) := doneBus_fits (busWrite_sizes _ _ _ _)

/-! ## Captures -/

theorem execCaptureGo_fits (ini cam : Nat) : Fits s (execCaptureGo ini cam s) := done_fits (captureGo_sizes _ _)
theorem execReplayGo_fits (ini stn : Nat) : Fits s (execReplayGo ini stn s) := done_fits (replayGo_sizes _ _)
theorem execDispRd_fits (ini ctx idx : Nat) : Fits s (execDispRd ini ctx idx s) := done_fits (ifOn_sizes _ _ (dispRead_sizes _ _) _)
theorem execCodeRd_fits (ini ctx idx : Nat) : Fits s (execCodeRd ini ctx idx s) := done_fits (ifOn_sizes _ _ (codeRead_sizes _ _) _)

/-! ## The timebase and the logbook -/

theorem execTbIncr_fits (ini : Nat) (val : Word) : Fits s (execTbIncr ini val s) := done_fits (writeIncr_sizes _ _)
theorem execTbStep_fits (ini : Nat) (val : Word) : Fits s (execTbStep ini val s) := doneTb_fits (writeStep_sizes _ _ _)
theorem execIncrTimeCorr_fits (old : Word) : Fits s (execIncrTimeCorr old s) := done_fits (correctAll_touches _ _ _).sizes
theorem execStepTimeCorr_fits (step : Int) : Fits s (execStepTimeCorr step s) := done_fits (correctAll_touches _ _ _).sizes
theorem execSync_fits (ini : Nat) : Fits s (execSync ini s) := done_fits (snapshot_sizes _)
theorem execMirrorInterval_fits : Fits s (execMirrorInterval s) := done_fits (snapshot_sizes _)
theorem execCalSet_fits (ini : Nat) : Fits s (execCalSet ini s) := done_fits (calSet_sizes _)
theorem execPowerOnHour_fits : Fits s (execPowerOnHour s) := done_fits ((fset_sizes _ _ _ _ _).then (logBump_touches _ _ _ _).sizes)

/-! ## Cores and peripherals -/

theorem execAppStart_fits (ini cores : Nat) : Fits s (execAppStart ini cores s) := done_fits (appStart_touches _ _ _).sizes
theorem execWdogKick_fits (ini key core : Nat) : Fits s (execWdogKick ini key core s) := done_fits (wdogKick_touches _ _ _).sizes
theorem execMtimecmpWrite_fits (ini c : Nat) (val : Word) : Fits s (execMtimecmpWrite ini c val s) :=
  done_fits (mtimecmpWrite_touches _ _ _).sizes
theorem execSportDataWrite_fits (ini : Nat) (b : Byte) : Fits s (execSportDataWrite ini b s) := done_fits (sportWrite_sizes _ _)
theorem execSportDataRead_fits (ini : Nat) : Fits s (execSportDataRead ini s) := done_fits ((sportRead_sizes _).then (setRdata_sizes _ _))
theorem execUartDataRead_fits (ini u : Nat) : Fits s (execUartDataRead ini u s) :=
  done_fits ((uartRead_sizes _ _).then (setRdata_sizes _ _))
theorem execUartDataWrite_fits (ini u : Nat) (b : Byte) : Fits s (execUartDataWrite ini u b s) :=
  done_fits (uartWrite_touches _ _ _).sizes
theorem execStart_fits (ini i : Nat) : Fits s (execStart ini ix s) := done_fits (i2cPush_sizes _ _ _)
theorem execWrite_fits (ini i : Nat) (b : Byte) : Fits s (execWrite ini ix b s) := done_fits (i2cPush_sizes _ _ _)
theorem execReadAck_fits (ini i : Nat) : Fits s (execReadAck ini ix s) := done_fits (i2cPush_sizes _ _ _)
theorem execReadNack_fits (ini i : Nat) : Fits s (execReadNack ini ix s) := done_fits (i2cPush_sizes _ _ _)
theorem execStop_fits (ini i : Nat) : Fits s (execStop ini ix s) := done_fits (i2cPush_sizes _ _ _)
theorem execI2cRxRead_fits (ini i : Nat) : Fits s (execI2cRxRead ini ix s) := done_fits ((i2cRead_sizes _ _).then (setRdata_sizes _ _))

/-! ## The steward port -/

theorem execStewardFrame_fits (t : Nat) (bytes : List Byte) : Fits s (execStewardFrame t bytes s) := done_fits (receive_sizes _ _ _)
theorem execGetInfo_fits : Fits s (execGetInfo s) := serve_fits s _ _ fun p u => sized_sizes u 0 p .refl
theorem execGetMuster_fits : Fits s (execGetMuster s) := serve_fits s _ _ fun p u => sized_sizes u 0 p .refl
theorem execGetDefectMap_fits : Fits s (execGetDefectMap s) := serve_fits s _ _ fun p u => sized_sizes u 0 p .refl
theorem execGetFaultLog_fits : Fits s (execGetFaultLog s) := serve_fits s _ _ fun p u => sized_sizes u 2 p (faultReport_sizes u p)
theorem execGetLogbook_fits : Fits s (execGetLogbook s) := serve_fits s _ _ fun p u => sized_sizes u 4 p (logReport_sizes u p)
theorem execReadReg_fits : Fits s (execReadReg s) := serve_fits s _ _ fun p u => sized_sizes u 9 p (regReport_sizes u p)
theorem execWriteReg_fits : Fits s (execWriteReg s) := serve_fits s _ _ fun p u => regStore_sizes u p
theorem execFlashBegin_fits : Fits s (execFlashBegin s) := serve_fits s _ _ fun p u => sized_sizes u 5 p (flashStart_sizes u p)
theorem execFlashData_fits : Fits s (execFlashData s) := serve_fits s _ _ fun p u => flashBytes_sizes u p
theorem execFlashEnd_fits : Fits s (execFlashEnd s) := serve_fits s _ _ fun p u => sized_sizes u 0 p (flashStop_sizes u)
theorem execApproveRow_fits : Fits s (execApproveRow s) := serve_fits s _ _ fun p u => sized_sizes u 130 p (approveRow_sizes u p)
theorem execRevokeSlot_fits : Fits s (execRevokeSlot s) := serve_fits s _ _ fun p u => sized_sizes u 130 p (revokeSlot_sizes u p)
theorem execReset_fits : Fits s (execReset s) := serve_fits s _ _ fun p u => sized_sizes u 0 p (portReset_sizes u)
theorem execBootHold_fits : Fits s (execBootHold s) := serve_fits s _ _ fun p u => sized_sizes u 0 p (setBoot_sizes _ u)

/-! ## Muster, odometers and outputs -/

theorem execMusterPhaseEnd_fits (fail : Bool) (unit index : Nat) (marks : List (Nat × Nat)) :
    Fits s (execMusterPhaseEnd fail unit index marks s) := done_fits (musterPhaseEnd_sizes _ _ _ _ _)
theorem execOdoInputAccept_fits (ch : Nat) (a b z bNew : Bool) : Fits s (execOdoInputAccept ch a b z bNew s) :=
  done_fits (Sizes.refl.thenIf (odoSample_sizes _ _ _ _ _ _))
theorem execLosSet_fits (ch : Nat) : Fits s (execLosSet ch s) :=
  done_fits (.ite (fun _ => (setOdo_sizes _ _ _).then (setLos_sizes _ _)) fun _ => .refl)
theorem execPeriodStall_fits (ch : Nat) : Fits s (execPeriodStall ch s) := done_fits (.ite (fun _ => .of_lens rfl) fun _ => .refl)
theorem execSpeedWindow_fits (stn : Nat) : Fits s (execSpeedWindow stn s) :=
  done_fits (.ite (fun _ => (setN_sizes _ _ _).then (setRef_sizes _ _ _)) fun _ => .refl)
theorem execSynthMaxExpiry_fits (stn : Nat) : Fits s (execSynthMaxExpiry stn s) := done_fits (Sizes.refl.thenIf (failover_sizes _ _ _))
theorem execStallCancel_fits (stn : Nat) : Fits s (execStallCancel stn s) := done_fits (cancelFires_touches _ _).sizes
theorem execFreqTimeout_fits (ch : Nat) : Fits s (execFreqTimeout ch s) := done_fits (.ite (fun _ => .of_lens rfl) fun _ => .refl)
theorem execPeakEnd_fits (ch : Nat) : Fits s (execPeakEnd ch s) := done_fits (Sizes.refl.thenIf (setFio_sizes _ _ _))
theorem execFioOpen_fits (ch : Nat) : Fits s (execFioOpen ch s) :=
  done_fits (Sizes.refl.thenIf ((stick_sizes _ _ _).then (raise_sizes _ _)))
theorem execOcTrip_fits (ch : Nat) : Fits s (execOcTrip ch s) := done_fits (Sizes.refl.thenIf (trip_sizes _ _ _ _))
theorem execTherm_fits (ch : Nat) : Fits s (execTherm ch s) := done_fits (Sizes.refl.thenIf (trip_sizes _ _ _ _))

/-! ## Bales -/

theorem execLineData_fits (cam bale line plane offset : Nat) (last : Bool) (px : List Nat) :
    Fits s (execLineData cam bale line plane offset last px s) := doneDram_fits (lineData_sizes _ _ _ _ _ _ _ _)
theorem execLineMissing_fits (cam bale line : Nat) : Fits s (execLineMissing cam bale line s) := done_fits (lineMissing_sizes _ _ _ _)
theorem execLayerEnd_fits (bale layer fault tile : Nat) (orders : List (List Nat)) :
    Fits s (execLayerEnd bale layer fault tile orders s) := doneDram_fits (layerEnd_sizes _ _ _ _ _ _)
theorem execVerdictDone_fits (bale flip : Nat) : Fits s (execVerdictDone bale flip s) := done_fits (verdictDone_sizes _ _ _)
theorem execDecodeToken_fits (stn dec : Nat) : Fits s (execDecodeToken stn dec s) := done_fits (decodeToken_sizes _ _ _)

/-! ## Convoys, faults and lanes -/

theorem execCvHello_fits (link group count index : Nat) (det : Bool) (digest : Nat) :
    Fits s (execCvHello link group count index det digest s) := done_fits (Sizes.refl.thenIf (cvHello_touches _ _ _ _ _ _ _).sizes)
theorem execCvData_fits (link group member : Nat) (absent : Bool) (tag base : Nat) (vals : List Nat) :
    Fits s (execCvData link group member absent tag base vals s) := done_fits (Sizes.refl.thenIf (cvData_touches _ _ _ _ _ _ _ _).sizes)
theorem execKhanFault_fits : Fits s (execKhanFault s) := done_fits (khanFault_sizes _)
theorem execCoreBlockedWrite_fits (core addr : Nat) (data : List Byte) : Fits s (execCoreBlockedWrite core addr data s) :=
  doneBus_fits (store_sizes _ _ _ _)
theorem execEbSlip_fits (lane : Nat) (full : Bool) : Fits s (execEbSlip lane full s) :=
  done_fits ((fset_sizes _ _ _ _ _).then ((bump_sizes _ _).then (raise_sizes _ _)))
theorem execBadControlBlock_fits (lane : Nat) : Fits s (execBadControlBlock lane s) := done_fits (bump_sizes _ _)
theorem execNakRepeat_fits (link : Nat) (express : Bool) : Fits s (execNakRepeat link express s) := done_fits (setLink_sizes _ _ _)
theorem execNak_fits (link : Nat) (express : Bool) (seq : Nat) : Fits s (execNak link express seq s) := done_fits (resend_sizes _ _ _ _)
theorem execCreditRefresh_fits (link : Nat) : Fits s (execCreditRefresh link s) :=
  done_fits (Sizes.refl.thenIf (sendCredits_touches _ _).sizes)
theorem execErrorRateWindowEnd_fits (ch : Nat) : Fits s (execErrorRateWindowEnd ch s) :=
  done_fits (.ite (fun _ => (setOdo_sizes _ _ _).then (odoHealth_sizes _ _)) fun _ => .refl)
theorem execLaneEyeUpdate_fits (lane height width : Nat) : Fits s (execLaneEyeUpdate lane height width s) :=
  done_fits (.ite (fun _ => (fset_sizes _ _ _ _ _).then (fset_sizes _ _ _ _ _)) fun _ => .refl)
theorem execPrbsBitError_fits (lane : Nat) : Fits s (execPrbsBitError lane s) := done_fits (Sizes.refl.thenIf (bump_sizes _ _))

end

/-! ## Every command, and every step -/

/-- Every command leaves an element for each unit of the device. -/
theorem exec_fits (c : Instr) (s : State) : Fits s (exec c s) := by
  cases c with
  | registerWrite ini addr val => exact execRegisterWrite_fits s ini addr val
  | counterClr ini addr => exact execCounterClr_fits s ini addr
  | commitGo ini addr => exact execCommitGo_fits s ini addr
  | wideLowRead ini addr => exact execWideLowRead_fits s ini addr
  | mileEntryRead ini e => exact execMileEntryRead_fits s ini e
  | faultEntryRead ini ix => exact execFaultEntryRead_fits s ini ix
  | ptpTsLoRead ini port dir => exact execPtpTsLoRead_fits s ini port dir
  | ptpTsIdRead ini port dir => exact execPtpTsIdRead_fits s ini port dir
  | mboxDataHiRead ini n => exact execMboxDataHiRead_fits s ini n
  | dropPkt ini n => exact execDropPkt_fits s ini n
  | evqHiRead ini t => exact execEvqHiRead_fits s ini t
  | evtRouteWrite ini src val => exact execEvtRouteWrite_fits s ini src val
  | loadFull ini => exact execLoadFull_fits s ini
  | loadStation ini => exact execLoadStation_fits s ini
  | abort ini => exact execAbort_fits s ini
  | cancelPending ini stn => exact execCancelPending_fits s ini stn
  | loadEnd bandFails => exact execLoadEnd_fits s bandFails
  | retireCmd ini key tile => exact execRetireCmd_fits s ini key tile
  | sparePowered tile => exact execSparePowered_fits s tile
  | spareBistEnd tile pass => exact execSpareBistEnd_fits s tile pass
  | fmapWriteEnd => exact execFmapWriteEnd_fits s
  | trigEnSet ini stn => exact execTrigEnSet_fits s ini stn
  | armGrant stn => exact execArmGrant_fits s stn
  | trigEnClear ini stn => exact execTrigEnClear_fits s ini stn
  | cancelAll ini stn => exact execCancelAll_fits s ini stn
  | stopClr ini stn => exact execStopClr_fits s ini stn
  | stopSet ini stn => exact execStopSet_fits s ini stn
  | arm ini ch => exact execArm_fits s ini ch
  | rearm ini ch => exact execRearm_fits s ini ch
  | grpRearm ini g => exact execGrpRearm_fits s ini g
  | cntClr ini ch => exact execCntClr_fits s ini ch
  | on ini ch lvl => exact execOn_fits s ini ch lvl
  | fioTest ini ch us => exact execFioTest_fits s ini ch us
  | captureGo ini cam => exact execCaptureGo_fits s ini cam
  | captureDone => exact execCaptureDone_fits s
  | replayGo ini stn => exact execReplayGo_fits s ini stn
  | dispRd ini ctx idx => exact execDispRd_fits s ini ctx idx
  | codeRd ini ctx idx => exact execCodeRd_fits s ini ctx idx
  | tbIncr ini val => exact execTbIncr_fits s ini val
  | tbStep ini val => exact execTbStep_fits s ini val
  | incrTimeCorr old => exact execIncrTimeCorr_fits s old
  | stepTimeCorr step => exact execStepTimeCorr_fits s step
  | tbWrap => exact execTbWrap_fits s
  | sync ini => exact execSync_fits s ini
  | mirrorInterval => exact execMirrorInterval_fits s
  | mirrorWriteEnd ok => exact execMirrorWriteEnd_fits s ok
  | calSet ini => exact execCalSet_fits s ini
  | calendarSecond => exact execCalendarSecond_fits s
  | powerOnHour => exact execPowerOnHour_fits s
  | appStart ini cores => exact execAppStart_fits s ini cores
  | resetCmdWrite ini key => exact execResetCmdWrite_fits s ini key
  | wdogKick ini key core => exact execWdogKick_fits s ini key core
  | mtimecmpWrite ini c val => exact execMtimecmpWrite_fits s ini c val
  | sportDataWrite ini b => exact execSportDataWrite_fits s ini b
  | sportDataRead ini => exact execSportDataRead_fits s ini
  | uartDataRead ini u => exact execUartDataRead_fits s ini u
  | uartDataWrite ini u b => exact execUartDataWrite_fits s ini u b
  | uartRxByte u b err => exact execUartRxByte_fits s u b err
  | uartTxByte u => exact execUartTxByte_fits s u
  | start ini ix => exact execStart_fits s ini ix
  | write ini ix b => exact execWrite_fits s ini ix b
  | readAck ini ix => exact execReadAck_fits s ini ix
  | readNack ini ix => exact execReadNack_fits s ini ix
  | stop ini ix => exact execStop_fits s ini ix
  | i2cRxRead ini ix => exact execI2cRxRead_fits s ini ix
  | i2cCmdDone ix rx nack => exact execI2cCmdDone_fits s ix rx nack
  | gpioEdge pin lvl => exact execGpioEdge_fits s pin lvl
  | stewardFrame t bytes => exact execStewardFrame_fits s t bytes
  | uartGapTimeout => exact execUartGapTimeout_fits s
  | sptCsRise => exact execSptCsRise_fits s
  | getInfo => exact execGetInfo_fits s
  | getMuster => exact execGetMuster_fits s
  | getDefectMap => exact execGetDefectMap_fits s
  | getFaultLog => exact execGetFaultLog_fits s
  | getLogbook => exact execGetLogbook_fits s
  | readReg => exact execReadReg_fits s
  | writeReg => exact execWriteReg_fits s
  | flashBegin => exact execFlashBegin_fits s
  | flashData => exact execFlashData_fits s
  | flashEnd => exact execFlashEnd_fits s
  | approveRow => exact execApproveRow_fits s
  | revokeSlot => exact execRevokeSlot_fits s
  | reset => exact execReset_fits s
  | bootHold => exact execBootHold_fits s
  | sysRstNLow ns => exact execSysRstNLow_fits s ns
  | sysRstNRise => exact execSysRstNRise_fits s
  | musterPhaseEnd fail unit index marks => exact execMusterPhaseEnd_fits s fail unit index marks
  | handoff => exact execHandoff_fits s
  | mainPowerLoss => exact execMainPowerLoss_fits s
  | vbatLow => exact execVbatLow_fits s
  | fioUv supply => exact execFioUv_fits s supply
  | v24BLoss => exact execV24BLoss_fits s
  | refclkLoss => exact execRefclkLoss_fits s
  | refclkSwitch => exact execRefclkSwitch_fits s
  | refclkRecover ref => exact execRefclkRecover_fits s ref
  | refclkReturn => exact execRefclkReturn_fits s
  | lrefLoss side => exact execLrefLoss_fits s side
  | lrefReturn side => exact execLrefReturn_fits s side
  | nodeFail node => exact execNodeFail_fits s node
  | throttle b sensor temp => exact execThrottle_fits s b sensor temp
  | thermalLimitRise b => exact execThermalLimitRise_fits s b
  | thermalMax sensor temp => exact execThermalMax_fits s sensor temp
  | thermTrip sensor temp => exact execThermTrip_fits s sensor temp
  | thermalCycle temp => exact execThermalCycle_fits s temp
  | powerMeasure mw => exact execPowerMeasure_fits s mw
  | placementWindow busy bw => exact execPlacementWindow_fits s busy bw
  | opRampEnd island => exact execOpRampEnd_fits s island
  | avsStep island slack => exact execAvsStep_fits s island slack
  | avsLimit island => exact execAvsLimit_fits s island
  | domainOff d => exact execDomainOff_fits s d
  | domainOn d => exact execDomainOn_fits s d
  | odoInputAccept ch a b z bNew => exact execOdoInputAccept_fits s ch a b z bNew
  | losSet ch => exact execLosSet_fits s ch
  | losClear ch => exact execLosClear_fits s ch
  | periodStall ch => exact execPeriodStall_fits s ch
  | speedWindow stn => exact execSpeedWindow_fits s stn
  | refReturn stn => exact execRefReturn_fits s stn
  | synthTick stn ns => exact execSynthTick_fits s stn ns
  | synthMaxExpiry stn => exact execSynthMaxExpiry_fits s stn
  | lineTrigDelayed cam => exact execLineTrigDelayed_fits s cam
  | fireAtResend e => exact execFireAtResend_fits s e
  | stallCancel stn => exact execStallCancel_fits s stn
  | fioInputAccept ch lvl back backNs => exact execFioInputAccept_fits s ch lvl back backNs
  | freqGateEnd ch => exact execFreqGateEnd_fits s ch
  | freqTimeout ch => exact execFreqTimeout_fits s ch
  | peakEnd ch => exact execPeakEnd_fits s ch
  | pulseEnd ch => exact execPulseEnd_fits s ch
  | onCheck ch high => exact execOnCheck_fits s ch high
  | offCheck ch high => exact execOffCheck_fits s ch high
  | mergedPulseFree e => exact execMergedPulseFree_fits s e
  | fioOpen ch => exact execFioOpen_fits s ch
  | ocTrip ch => exact execOcTrip_fits s ch
  | therm ch => exact execTherm_fits s ch
  | grpOc g => exact execGrpOc_fits s g
  | dieLinkTimeout => exact execDieLinkTimeout_fits s
  | lineData cam bale line plane offset last px => exact execLineData_fits s cam bale line plane offset last px
  | lineMissing cam bale line => exact execLineMissing_fits s cam bale line
  | ispPassStart => exact execIspPassStart_fits s
  | ispPassEnd ctx err => exact execIspPassEnd_fits s ctx err
  | jobDispatch stn bad => exact execJobDispatch_fits s stn bad
  | pageFetchEnd tile page bale err => exact execPageFetchEnd_fits s tile page bale err
  | layerStart bale layer tile waited => exact execLayerStart_fits s bale layer tile waited
  | layerEnd bale layer fault tile orders => exact execLayerEnd_fits s bale layer fault tile orders
  | stripeJobEnd bale => exact execStripeJobEnd_fits s bale
  | tileScrubEnd tile => exact execTileScrubEnd_fits s tile
  | treePassStart => exact execTreePassStart_fits s
  | treePassEnd err => exact execTreePassEnd_fits s err
  | verdictDone bale flip => exact execVerdictDone_fits s bale flip
  | decodeToken stn dec => exact execDecodeToken_fits s stn dec
  | cvHello link group count index det digest => exact execCvHello_fits s link group count index det digest
  | cvData link group member absent tag base vals => exact execCvData_fits s link group member absent tag base vals
  | convoyTimeout group bale => exact execConvoyTimeout_fits s group bale
  | fireReport link addr time rch result cmdId bale => exact execFireReport_fits s link addr time rch result cmdId bale
  | reportTimeout e => exact execReportTimeout_fits s e
  | remoteFree e => exact execRemoteFree_fits s e
  | comparatorDisagree e => exact execComparatorDisagree_fits s e
  | khanFault => exact execKhanFault_fits s
  | khanRebuildEnd => exact execKhanRebuildEnd_fits s
  | droverWatchdog d bales => exact execDroverWatchdog_fits s d bales
  | stewardRollback => exact execStewardRollback_fits s
  | appWdog c => exact execAppWdog_fits s c
  | busErr ini addr wr => exact execBusErr_fits s ini addr wr
  | coreBlockedWrite core addr data => exact execCoreBlockedWrite_fits s core addr data
  | train lane request status locked => exact execTrain_fits s lane request status locked
  | backChannelRequest lane request => exact execBackChannelRequest_fits s lane request
  | laneTrainFail lane => exact execLaneTrainFail_fits s lane
  | trainRetry lane => exact execTrainRetry_fits s lane
  | laneLockLoss lane => exact execLaneLockLoss_fits s lane
  | skipSend lane => exact execSkipSend_fits s lane
  | skipReceive lane => exact execSkipReceive_fits s lane
  | ebSlip lane full => exact execEbSlip_fits s lane full
  | badControlBlock lane => exact execBadControlBlock_fits s lane
  | packetReceive link express words => exact execPacketReceive_fits s link express words
  | nakRepeat link express => exact execNakRepeat_fits s link express
  | ack link express seq => exact execAck_fits s link express seq
  | nak link express seq => exact execNak_fits s link express seq
  | replayTimeout link express => exact execReplayTimeout_fits s link express
  | credit link vc grant => exact execCredit_fits s link vc grant
  | creditRefresh link => exact execCreditRefresh_fits s link
  | announce link addr serial cls version => exact execAnnounce_fits s link addr serial cls version
  | timeReq link => exact execTimeReq_fits s link
  | timeResp link addr tag t2 t3 => exact execTimeResp_fits s link addr tag t2 t3
  | strayedRetry link addr => exact execStrayedRetry_fits s link addr
  | power link addr target => exact execPower_fits s link addr target
  | powerResp link addr result => exact execPowerResp_fits s link addr result
  | segmentWake link addr => exact execSegmentWake_fits s link addr
  | linkAligned link => exact execLinkAligned_fits s link
  | event link addr code chan => exact execEvent_fits s link addr code chan
  | resp link addr tag status data => exact execResp_fits s link addr tag status data
  | ioReport link addr time value => exact execIoReport_fits s link addr time value
  | ptpEventMessage port dir msgType domain seq udp => exact execPtpEventMessage_fits s port dir msgType domain seq udp
  | machineTimerInterrupt c => exact execMachineTimerInterrupt_fits s c
  | errorRateWindowEnd ch => exact execErrorRateWindowEnd_fits s ch
  | dieLinkReturn => exact execDieLinkReturn_fits s
  | v24Return supply => exact execV24Return_fits s supply
  | mainPowerReturn => exact execMainPowerReturn_fits s
  | boundaryScanInstruction scan => exact execBoundaryScanInstruction_fits s scan
  | laneEyeUpdate lane height width => exact execLaneEyeUpdate_fits s lane height width
  | prbsBitError lane => exact execPrbsBitError_fits s lane

/-- A tick of an empty queue takes from the tick only the timebase, the registers and the event queues. -/
theorem idleTick_sizes (s : State) : Sizes s (idleTick s) := by
  have h : (tick 0 s).lens = s.lens := (tick_touches 0 s).lens
  refine .of_lens ?_
  simp only [State.lens, List.cons.injEq] at h
  simp only [State.lens, idleTick, h]

theorem setPending_sizes (cs : List Instr) (s : State) : Sizes s { s with pending := cs } := .of_lens rfl

theorem step_sizes {s t : State} (h : step s = .next t) : Sizes s t := by
  unfold step at h
  split at h
  · exact (setPending_sizes _ s).then (exec_fits _ _ _ h)
  · cases h
    exact idleTick_sizes s

/-- Settles O6: each operation of the model keeps the length of every list of numbered units or puts back a list of its reset
length, and a command and a tick are made of such operations. -/
theorem everyStepKeepsTheSizes : Obligations.EveryStepKeepsTheSizes := fun _ _ hs h => step_sizes h hs

end Sys2Proof.Machine

/-! PROOFS. The reports of the steward port and its register commands (O52). -/

namespace Sys2Proof.Machine

-- One theorem after the other: many at once ask for too many threads.
set_option Elab.async false

/-! ## Every command of the port (R958, R960, R966) -/

/-- The payload of a request has a length that its command refuses. -/
def WrongLength (k : Nat) (p : List Byte) : Prop :=
  (k ∈ [0x01, 0x02, 0x03, 0x12, 0x30, 0x31] ∧ p ≠ []) ∨ (k = 0x04 ∧ p.length ≠ 2) ∨ (k = 0x05 ∧ p.length ≠ 4) ∨
    (k = 0x06 ∧ p.length ≠ 9) ∨ (k = 0x10 ∧ p.length ≠ 5) ∨ (k ∈ [0x20, 0x21] ∧ p.length ≠ 130)

theorem sized_refuses {n : Nat} {p : List Byte} (f : State → Reply) (s : State) (h : p.length ≠ n) : sized n f p s = refuse stBadLen s :=
  if_neg (by simpa using h)

theorem exec_getInfo (s : State) : exec .getInfo s = serve {} 0x01 (sized 0 fun t => { st := t, payload := t.info }) s := rfl
theorem exec_getMuster (s : State) : exec .getMuster s = serve {} 0x02 (sized 0 fun t => { st := t, payload := t.musterRecord }) s := rfl
theorem exec_getDefectMap (s : State) :
    exec .getDefectMap s = serve {} 0x03 (sized 0 fun t => { st := t, payload := t.fmap.entries.flatMap MapEntry.bytes }) s := rfl
theorem exec_getFaultLog (s : State) : exec .getFaultLog s = serve {} 0x04 (fun p => sized 2 (faultReport p) p) s := rfl
theorem exec_getLogbook (s : State) : exec .getLogbook s = serve {} 0x05 (fun p => sized 4 (logReport p) p) s := rfl
theorem exec_readReg (s : State) : exec .readReg s = serve {} 0x06 (fun p => sized 9 (regReport p) p) s := rfl
theorem exec_writeReg (s : State) : exec .writeReg s = serve { tb := true } 0x07 regStore s := rfl

/-- The command is served under code `k`, by a function that refuses a payload of a wrong length. -/
structure ServedAs (c : Instr) (k : Nat) (sc : Scope) (f : List Byte → State → Reply) : Prop where
  /-- It ends in `serve`. -/
  exec_eq : ∀ s, exec c s = serve sc k f s
  /-- A wrong length is refused. -/
  refuses : ∀ p s, WrongLength k p → f p s = refuse stBadLen s

/-- A command whose payload is of one length. -/
theorem servedAs_sized {c : Instr} {k n : Nat} {sc : Scope} {f : List Byte → State → Reply}
    (h : ∀ s, exec c s = serve sc k (fun p => sized n (f p) p) s) (hn : ∀ p, WrongLength k p → p.length ≠ n) :
    ServedAs c k sc fun p => sized n (f p) p :=
  ⟨h, fun p s hp => sized_refuses (f p) s (hn p hp)⟩

/-- A command that reads the length of its payload itself. -/
theorem servedAs_free {c : Instr} {k : Nat} {sc : Scope} {f : List Byte → State → Reply} (h : ∀ s, exec c s = serve sc k f s)
    (hk : k = 0x07 ∨ k = 0x11) : ServedAs c k sc f := by
  refine ⟨h, fun p s hp => absurd hp ?_⟩
  rcases hk with rfl | rfl <;> simp [WrongLength]

theorem wrongLength_empty {k : Nat} (hk : k ∈ [0x01, 0x02, 0x03, 0x12, 0x30, 0x31]) (p : List Byte) (h : WrongLength k p) : p.length ≠ 0 := by
  simp only [List.mem_cons, List.not_mem_nil, or_false] at hk
  rcases hk with rfl | rfl | rfl | rfl | rfl | rfl <;> simpa [WrongLength] using h

/-- Every command of the port is served under its code. -/
theorem exec_portCode {c : Instr} {k : Nat} (h : portCode c = some k) : ∃ sc f, ServedAs c k sc f := by
  unfold portCode at h
  split at h <;> cases h
  case h_1 => exact ⟨_, _, servedAs_sized exec_getInfo (wrongLength_empty (by simp))⟩
  case h_2 => exact ⟨_, _, servedAs_sized exec_getMuster (wrongLength_empty (by simp))⟩
  case h_3 => exact ⟨_, _, servedAs_sized exec_getDefectMap (wrongLength_empty (by simp))⟩
  case h_4 => exact ⟨_, _, servedAs_sized exec_getFaultLog fun p hp => by simpa [WrongLength] using hp⟩
  case h_5 => exact ⟨_, _, servedAs_sized exec_getLogbook fun p hp => by simpa [WrongLength] using hp⟩
  case h_6 => exact ⟨_, _, servedAs_sized exec_readReg fun p hp => by simpa [WrongLength] using hp⟩
  case h_7 => exact ⟨_, _, servedAs_free exec_writeReg (.inl rfl)⟩
  case h_8 => exact ⟨_, _, servedAs_sized exec_flashBegin fun p hp => by simpa [WrongLength] using hp⟩
  case h_9 => exact ⟨_, _, servedAs_free exec_flashData (.inr rfl)⟩
  case h_10 => exact ⟨_, _, servedAs_sized exec_flashEnd (wrongLength_empty (by simp))⟩
  case h_11 => exact ⟨_, _, servedAs_sized exec_approveRow fun p hp => by simpa [WrongLength] using hp⟩
  case h_12 => exact ⟨_, _, servedAs_sized exec_revokeSlot fun p hp => by simpa [WrongLength] using hp⟩
  case h_13 => exact ⟨_, _, servedAs_sized exec_reset (wrongLength_empty (by simp))⟩
  case h_14 => exact ⟨_, _, servedAs_sized exec_bootHold (wrongLength_empty (by simp))⟩

/-- A request of another command is left alone. -/
theorem serve_other (sc : Scope) {k : Nat} (f : List Byte → State → Reply) {s : State} (h : ∀ q, s.sport.running = some q → q.cmd ≠ k) :
    serve sc k f s = done s s.begin_ := by
  have hrun : s.begin_.sport.running = s.sport.running := rfl
  unfold serve
  dsimp only
  rw [hrun]
  cases hq : s.sport.running with
  | none => rfl
  | some q => exact if_neg (by simpa using h q hq)

/-- The request in progress is over, whatever its command replies. -/
theorem serve_running (sc : Scope) (f : List Byte → State → Reply) {s : State} {q : Request} (hq : s.sport.running = some q) :
    ∃ r : Reply, r = (if s.portServes q.cmd then f q.payload s.begin_ else refuse stBadState s.begin_) ∧
      serve sc q.cmd f s = finish sc s (respond q r.status r.payload r.st) r.dram r.flash [] [] := by
  have hrun : s.begin_.sport.running = some q := hq
  refine ⟨_, rfl, ?_⟩
  simp only [serve, hrun, beq_self_eq_true, if_true]
  rfl

theorem respond_running (q : Request) (status : Nat) (payload : List Byte) (s : State) :
    (respond q status payload s).sport.running = none := by
  unfold respond sendFrame
  dsimp only
  split <;> rfl

/-- A refusal answers why and changes nothing else. -/
theorem refused_ends (sc : Scope) (q : Request) (status : Nat) {s : State} (hsized : s.sized = true) :
    ∃ t, finish sc s (respond q status [] s.begin_) [] [] [] [] = .next t ∧ State.answered q status [] t ∧ State.portOnly s t := by
  obtain ⟨hans, last, tx, out, phy, hphy, hshape⟩ := respond_answers (q := q) status [] (u := s.begin_) (sized_tx hsized)
  have hstill : s.phy.still phy = s.phy := by rw [Phy.still, hphy]; rfl
  refine ⟨_, rfl, hans, ?_⟩
  rw [hshape, State.portOnly]
  dsimp only
  rw [hstill]
  obtain ⟨tb, otp⟩ := sc
  cases tb <;> cases otp <;> rfl

/-- How a command of the port treats a request that it cannot execute. -/
theorem serve_refuses (sc : Scope) {f : List Byte → State → Reply} {s : State} {q : Request} (hq : s.sport.running = some q)
    (hsized : s.sized = true) (hf : WrongLength q.cmd q.payload → f q.payload s.begin_ = refuse stBadLen s.begin_) :
    ∃ t, serve sc q.cmd f s = .next t ∧ t.sport.running = none ∧
      (s.portServes q.cmd = false → State.answered q stBadState [] t ∧ State.portOnly s t) ∧
      (s.portServes q.cmd = true → WrongLength q.cmd q.payload → State.answered q stBadLen [] t ∧ State.portOnly s t) := by
  obtain ⟨r, hr, hserve⟩ := serve_running sc f hq
  have hrefused : ∀ status, r = refuse status s.begin_ → ∀ t, finish sc s (respond q r.status r.payload r.st) r.dram r.flash [] [] = .next t →
      State.answered q status [] t ∧ State.portOnly s t := by
    rintro status rfl t ht
    obtain ⟨u, hu, hport⟩ := refused_ends sc q status hsized
    cases ht.symm.trans hu
    exact hport
  refine ⟨_, hserve, respond_running _ _ _ _, fun hoff => hrefused _ ?_ _ rfl, fun hon hlen => hrefused _ ?_ _ rfl⟩
  · rw [hr, hoff, if_neg (by simp)]
  · rw [hr, hon, if_pos rfl, hf hlen]

end Sys2Proof.Machine

/-! PROOFS. What the reports and the register commands of the steward port answer (O52). -/

namespace Sys2Proof.Machine

-- One theorem after the other: many at once ask for too many threads.
set_option Elab.async false

/-! ## A reply that changes nothing, and one that answers a report -/

theorem reportOf_quiet (s : State) (status : Nat) (payload : List Byte) :
    Reply.quiet s { st := s.begin_, status := status, payload := payload } := ⟨rfl, rfl, rfl⟩

theorem reportOf_leaves (s : State) (status : Nat) (payload : List Byte) :
    Reply.leaves false s { st := s.begin_, status := status, payload := payload } = s := rfl

/-- A command of the request in progress that replies `payload` and leaves the state answers it, and nothing else changes. -/
theorem exec_reports {c : Instr} {cmd : Nat} {f : List Byte → State → Reply} {s : State} {q : Request} {status : Nat} {payload : List Byte}
    (hexec : exec c s = serve {} cmd f s) (hcmd : q.cmd = cmd) (hq : s.sport.running = some q) (hserved : s.portServes q.cmd = true)
    (hsized : s.sized = true) (hf : f q.payload s.begin_ = { st := s.begin_, status := status, payload := payload }) :
    ∃ t, exec c s = .next t ∧ State.answered q status payload t ∧ State.portOnly s t := by
  obtain ⟨t, ht, hans, hback⟩ :=
    exec_leaves (otp := false) hexec hcmd hq hserved hsized hf (reportOf_quiet s status payload)
  exact ⟨t, ht, hans, hback.trans (reportOf_leaves s status payload)⟩

/-! ## The reports (R950, R965, R997) -/

theorem info_length (s : State) : s.info.length = 28 := by simp [State.info, length_leBytes]

theorem info_serial (s : State) : leAt s.info 20 8 = s.otp.serial % 2 ^ 64 := by
  have hat := leAt_leBytes (leBytes 4 (s.viewAt 0 Reg.sysDeviceId) ++ leBytes 4 (s.viewAt 0 Reg.sysRevId) ++
    leBytes 4 (s.viewAt 0 Reg.sysBootStat) ++ leBytes 4 (s.viewAt 0 Reg.sysWayCause) ++ leBytes 4 (s.viewAt 0 Reg.mflDevGen)) [] 8
    s.otp.serial 20 (by simp [length_leBytes])
  rw [List.append_nil] at hat
  exact hat

theorem musterRecord_length (s : State) : s.musterRecord.length = 96 := by
  unfold State.musterRecord
  rw [List.length_append, length_flatMap_const _ (n := 8) (fun k => by simp [length_leBytes])]
  simp [length_leBytes]

/-- A field of one byte. -/
theorem leAt_one (p : List Byte) (k : Nat) : leAt p k 1 = (p.getD k 0).toNat := by
  unfold leAt slice
  rw [List.getD_eq_getElem?_getD, List.take_one, List.head?_drop]
  cases p[k]? <;> simp [leN]

theorem slice_whole (p : List Byte) : slice p 0 p.length = p := by simp [slice]

theorem faultReport_reads {i n : Byte} (hn : n ≠ 0) (hlast : i.toNat + n.toNat ≤ 64) (s : State) :
    faultReport [i, n] s = { st := s, payload := (List.range n.toNat).flatMap fun k => s.faultBytes (i.toNat + k) } := by
  have hpos : n.toNat ≠ 0 := fun h => hn (BitVec.eq_of_toNat_eq h)
  simp only [faultReport, leAt_one, List.getD_cons_zero, List.getD_cons_succ]
  rw [if_neg (by simp only [Bool.or_eq_true, beq_iff_eq, decide_eq_true_eq]; omega)]

theorem faultReport_refuses {i n : Byte} (h : n = 0 ∨ 64 < i.toNat + n.toNat) (s : State) : faultReport [i, n] s = refuse stBadArg s := by
  simp only [faultReport, leAt_one, List.getD_cons_zero, List.getD_cons_succ]
  refine if_pos ?_
  simp only [Bool.or_eq_true, beq_iff_eq, decide_eq_true_eq]
  exact h.imp (fun hn => by rw [hn]; rfl) id

/-- The state with another snapshot for GET_LOGBOOK. -/
def State.withImage (s : State) (im : List Byte) : State := { s with sport := { s.sport with image := im } }

theorem logReport_ends {p : List Byte} (h : 8192 ≤ leAt p 0 4) (s : State) : logReport p s = refuse stBadArg s := if_pos h

theorem logReport_takes {p : List Byte} (h : leAt p 0 4 = 0) (s : State) :
    logReport p s = { st := s.withImage (s.logImage (s.reg Reg.logMirrorSeq).toNat),
                      payload := (s.logImage (s.reg Reg.logMirrorSeq).toNat).take 1024 } := by
  unfold logReport
  dsimp only
  rw [h, if_neg (by norm_num), if_pos (by rfl)]
  rfl

theorem logReport_later {p : List Byte} (h0 : 0 < leAt p 0 4) (h : leAt p 0 4 < 8192) (s : State) :
    logReport p s = if s.sport.image.isEmpty then refuse stBadState s
      else { st := s, payload := (s.sport.image.drop (leAt p 0 4)).take 1024 } := by
  have hne : ¬ (leAt p 0 4 == 0) = true := by rw [beq_iff_eq]; omega
  unfold logReport
  dsimp only
  rw [if_neg (by omega), if_neg hne]

/-! ## Registers (R965) -/

theorem readWords_length (n a : Nat) (s : State) : (readWords n a s).1.length = 4 * n := by
  induction n generalizing a s with
  | zero => rfl
  | succ n ih => rw [readWords, List.length_append, length_leBytes, ih]; omega

/-- Some word is outside what PD_AON serves, and the device is in the waystation state. -/
theorem far_iff (s : State) (n a : Nat) :
    (s.inWay && !((List.range n).all fun k => aonBlock (a + 4 * k))) = true ↔ s.inWay = true ∧ ∃ k < n, aonBlock (a + 4 * k) = false := by
  simp

theorem regReport_badArg {p : List Byte} (h : leAt p 8 1 = 0 ∨ 64 < leAt p 8 1) (s : State) : regReport p s = refuse stBadArg s :=
  if_pos (by simpa using h)

theorem regReport_far {p : List Byte} (hn : ¬ (leAt p 8 1 = 0 ∨ 64 < leAt p 8 1)) {s : State} (hway : s.inWay = true)
    (hfar : ∃ k < leAt p 8 1, aonBlock (leAt p 0 8 + 4 * k) = false) : regReport p s = refuse stBadState s :=
  (if_neg (by simpa using hn)).trans (if_pos ((far_iff s _ _).2 ⟨hway, hfar⟩))

theorem regReport_reads {p : List Byte} (hn : ¬ (leAt p 8 1 = 0 ∨ 64 < leAt p 8 1)) {s : State}
    (hnear : ¬ (s.inWay = true ∧ ∃ k < leAt p 8 1, aonBlock (leAt p 0 8 + 4 * k) = false)) :
    regReport p s = { st := (readWords (leAt p 8 1) (leAt p 0 8) s).2, payload := (readWords (leAt p 8 1) (leAt p 0 8) s).1 } :=
  (if_neg (by simpa using hn)).trans (if_neg (mt (far_iff s _ _).1 hnear))

theorem chunks_one {w : List Byte} (h : w.length = 4) : chunks 4 w = [w] := by
  obtain ⟨a, b, c, d, rfl⟩ : ∃ a b c d, w = [a, b, c, d] := by
    match w, h with
    | [a, b, c, d], _ => exact ⟨a, b, c, d, rfl⟩
  rfl

theorem regStore_one {p : List Byte} (h : p.length = 12) (s : State) :
    regStore p s = if (s.inWay && !aonBlock (leAt p 0 8)) = true then refuse stBadState s
      else { st := (busWrite iniPort (leAt p 0 8) (word (leAt p 8 4)) s).st
             dram := (busWrite iniPort (leAt p 0 8) (word (leAt p 8 4)) s).dram
             flash := (busWrite iniPort (leAt p 0 8) (word (leAt p 8 4)) s).flash } := by
  have hword : (p.drop 8).length = 4 := by rw [List.length_drop]; omega
  have hslice : slice p 8 4 = p.drop 8 := by simp [slice, List.take_of_length_le, hword]
  unfold regStore
  rw [chunks_one hword, h, leAt, leAt, hslice]
  simp [writeWords]

end Sys2Proof.Machine

/-! PROOFS. Each report and register command of the steward port on the request in progress (O52). -/

namespace Sys2Proof.Machine

-- One theorem after the other: many at once ask for too many threads.
set_option Elab.async false

/-! ## The snapshot (R997) -/

theorem logImage_begin (s : State) : s.begin_.logImage (s.begin_.reg Reg.logMirrorSeq).toNat = s.logImage (s.reg Reg.logMirrorSeq).toNat :=
  rfl

theorem withImage_quiet (s : State) (im payload : List Byte) :
    Reply.quiet s { st := s.begin_.withImage im, payload := payload } := ⟨rfl, rfl, rfl⟩

theorem withImage_leaves (s : State) (im payload : List Byte) :
    Reply.leaves false s { st := s.begin_.withImage im, payload := payload } = s.withImage im := rfl

/-- What is put back for `State.portOnly`, and the snapshot with it. -/
theorem portOnly_image (s t : State) : State.portOnly s { t with sport := { t.sport with image := s.sport.image } } ↔
    (s.portBack t).withImage s.sport.image = s := Iff.rfl

theorem withImage_back (s : State) (im : List Byte) : (s.withImage im).withImage s.sport.image = s := rfl

theorem image_portBack (s t : State) : (s.portBack t).sport.image = t.sport.image := rfl

/-- Where the port leaves the snapshot `im`, that is all it changes. -/
theorem imageOnly_of_leaves {s t : State} {im : List Byte} (hback : s.portBack t = s.withImage im) :
    State.portOnly s { t with sport := { t.sport with image := s.sport.image } } ∧ t.sport.image = im := by
  rw [portOnly_image, ← image_portBack s t, hback]
  exact ⟨withImage_back s im, rfl⟩

/-- Where nothing but the port's traffic has changed, the snapshot is as it was. -/
theorem imageSame_of_portOnly {s t : State} (h : State.portOnly s t) :
    State.portOnly s { t with sport := { t.sport with image := s.sport.image } } ∧ t.sport.image = s.sport.image :=
  imageOnly_of_leaves (im := s.sport.image) h

section
variable {s : State} {q : Request} (hq : s.sport.running = some q) (hserved : s.portServes q.cmd = true) (hsized : s.sized = true)
include hq hserved hsized

theorem getInfo_answers (hcmd : q.cmd = 0x01) (hp : q.payload = []) :
    ∃ t p, exec .getInfo s = .next t ∧ State.answered q stOk p t ∧ State.portOnly s t ∧ p.length = 28 ∧
      leAt p 20 8 = s.otp.serial % 2 ^ 64 := by
  obtain ⟨t, ht, hans, honly⟩ := exec_reports (payload := s.begin_.info) (exec_getInfo s) hcmd hq hserved hsized
    (sized_of_length _ _ (by rw [hp]; rfl))
  exact ⟨t, _, ht, hans, honly, info_length _, info_serial _⟩

theorem getMuster_answers (hcmd : q.cmd = 0x02) (hp : q.payload = []) :
    ∃ t, exec .getMuster s = .next t ∧ State.answered q stOk s.musterRecord t ∧ State.portOnly s t ∧ s.musterRecord.length = 96 := by
  obtain ⟨t, ht, hans, honly⟩ := exec_reports (payload := s.begin_.musterRecord) (exec_getMuster s) hcmd hq hserved hsized
    (sized_of_length _ _ (by rw [hp]; rfl))
  exact ⟨t, ht, hans, honly, musterRecord_length s⟩

theorem getDefectMap_answers (hcmd : q.cmd = 0x03) (hp : q.payload = []) :
    ∃ t, exec .getDefectMap s = .next t ∧ State.answered q stOk (s.fmap.entries.flatMap MapEntry.bytes) t ∧ State.portOnly s t := by
  obtain ⟨t, ht, hans, honly⟩ := exec_reports (payload := s.begin_.fmap.entries.flatMap MapEntry.bytes) (exec_getDefectMap s) hcmd hq
    hserved hsized (sized_of_length _ _ (by rw [hp]; rfl))
  exact ⟨t, ht, hans, honly⟩

theorem getFaultLog_answers (i n : Byte) (hcmd : q.cmd = 0x04) (hp : q.payload = [i, n]) :
    ∃ t, exec .getFaultLog s = .next t ∧ State.portOnly s t ∧
      (n ≠ 0 → i.toNat + n.toNat ≤ 64 → State.answered q stOk ((List.range n.toNat).flatMap fun k => s.faultBytes (i.toNat + k)) t) ∧
      (n = 0 ∨ 64 < i.toNat + n.toNat → State.answered q stBadArg [] t) := by
  have hf : sized 2 (faultReport q.payload) q.payload s.begin_ = faultReport [i, n] s.begin_ := by
    rw [sized_of_length _ _ (by rw [hp]; rfl), hp]
  by_cases hout : n = 0 ∨ 64 < i.toNat + n.toNat
  · obtain ⟨t, ht, hans, honly⟩ := exec_reports (status := stBadArg) (payload := []) (exec_getFaultLog s) hcmd hq hserved hsized
      (hf.trans (faultReport_refuses hout _))
    exact ⟨t, ht, honly, fun hn hlast => absurd hout (not_or.2 ⟨hn, Nat.not_lt.2 hlast⟩), fun _ => hans⟩
  · obtain ⟨hn, hlast⟩ := not_or.1 hout
    obtain ⟨t, ht, hans, honly⟩ := exec_reports (exec_getFaultLog s) hcmd hq hserved hsized
      (hf.trans (faultReport_reads hn (Nat.not_lt.1 hlast) _))
    exact ⟨t, ht, honly, fun _ _ => hans, fun h => absurd h hout⟩

theorem getLogbook_answers (hcmd : q.cmd = 0x05) (hp : q.payload.length = 4) :
    ∃ t, exec .getLogbook s = .next t ∧
      let o := leN q.payload
      let im := s.logImage (s.reg Reg.logMirrorSeq).toNat
      State.portOnly s { t with sport := { t.sport with image := s.sport.image } } ∧
      (o = 0 → t.sport.image = im ∧ State.answered q stOk (im.take 1024) t) ∧
      (0 < o → t.sport.image = s.sport.image) ∧
      (0 < o → o < 8192 → s.sport.image ≠ [] → State.answered q stOk ((s.sport.image.drop o).take 1024) t) ∧
      (8192 ≤ o → State.answered q stBadArg [] t) := by
  have hoff : leAt q.payload 0 4 = leN q.payload := by rw [leAt, ← hp, slice_whole]
  have hf : sized 4 (logReport q.payload) q.payload s.begin_ = logReport q.payload s.begin_ := sized_of_length _ _ hp
  dsimp only
  rw [← hoff]
  by_cases hend : 8192 ≤ leAt q.payload 0 4
  · obtain ⟨t, ht, hans, honly⟩ := exec_reports (status := stBadArg) (payload := []) (exec_getLogbook s) hcmd hq hserved hsized
      (hf.trans (logReport_ends hend _))
    obtain ⟨hrest, himage⟩ := imageSame_of_portOnly honly
    exact ⟨t, ht, hrest, fun h0 => absurd hend (by rw [h0]; norm_num), fun _ => himage, fun _ h => absurd hend (Nat.not_le.2 h),
      fun _ => hans⟩
  rcases Nat.eq_zero_or_pos (leAt q.payload 0 4) with h0 | hpos
  · have htake := hf.trans (logReport_takes h0 s.begin_)
    rw [logImage_begin] at htake
    generalize s.logImage (s.reg Reg.logMirrorSeq).toNat = im at htake ⊢
    obtain ⟨t, ht, hans, hback⟩ := exec_leaves (otp := false) (exec_getLogbook s) hcmd hq hserved hsized htake (withImage_quiet s _ _)
    obtain ⟨hrest, himage⟩ := imageOnly_of_leaves (hback.trans (withImage_leaves s _ _))
    exact ⟨t, ht, hrest, fun _ => ⟨himage, hans⟩, fun h => absurd h0 h.ne', fun h => absurd h0 h.ne', fun h => absurd h hend⟩
  · have hlater := hf.trans (logReport_later hpos (Nat.not_le.1 hend) s.begin_)
    cases hi : s.sport.image with
    | nil =>
      rw [show s.begin_.sport.image = [] from hi] at hlater
      obtain ⟨t, ht, hans, honly⟩ := exec_reports (status := stBadState) (payload := []) (exec_getLogbook s) hcmd hq hserved hsized hlater
      obtain ⟨hrest, himage⟩ := imageSame_of_portOnly honly
      rw [hi] at hrest himage
      exact ⟨t, ht, hrest, fun h => absurd h hpos.ne', fun _ => himage, fun _ _ h => absurd rfl h, fun h => absurd h hend⟩
    | cons b bs =>
      rw [show s.begin_.sport.image = b :: bs from hi] at hlater
      obtain ⟨t, ht, hans, honly⟩ := exec_reports (status := stOk) (exec_getLogbook s) hcmd hq hserved hsized hlater
      obtain ⟨hrest, himage⟩ := imageSame_of_portOnly honly
      rw [hi] at hrest himage
      exact ⟨t, ht, hrest, fun h => absurd h hpos.ne', fun _ => himage, fun _ _ _ => hans, fun h => absurd h hend⟩

/-! ## Registers -/

theorem readReg_answers (hcmd : q.cmd = 0x06) (hp : q.payload.length = 9) :
    ∃ t, exec .readReg s = .next t ∧
      let a := leAt q.payload 0 8
      let n := leAt q.payload 8 1
      let far := s.inWay = true ∧ ∃ k < n, aonBlock (a + 4 * k) = false
      let r := readWords n a s.begin_
      (1 ≤ n → n ≤ 64 → ¬ far → State.answered q stOk r.1 t ∧ r.1.length = 4 * n ∧ t.regs = r.2.regs ∧ t.mbox = r.2.mbox) ∧
      (n = 0 ∨ 64 < n → State.answered q stBadArg [] t ∧ State.portOnly s t) ∧
      (1 ≤ n → n ≤ 64 → far → State.answered q stBadState [] t ∧ State.portOnly s t) := by
  have hf : sized 9 (regReport q.payload) q.payload s.begin_ = regReport q.payload s.begin_ := sized_of_length _ _ hp
  dsimp only
  by_cases hn : leAt q.payload 8 1 = 0 ∨ 64 < leAt q.payload 8 1
  · obtain ⟨t, ht, hport⟩ := exec_reports (status := stBadArg) (payload := []) (exec_readReg s) hcmd hq hserved hsized
      (hf.trans (regReport_badArg hn _))
    exact ⟨t, ht, fun h1 h2 => absurd hn (by omega), fun _ => hport, fun h1 h2 => absurd hn (by omega)⟩
  by_cases hfar : s.inWay = true ∧ ∃ k < leAt q.payload 8 1, aonBlock (leAt q.payload 0 8 + 4 * k) = false
  · obtain ⟨t, ht, hport⟩ := exec_reports (status := stBadState) (payload := []) (exec_readReg s) hcmd hq hserved hsized
      (hf.trans (regReport_far (s := s.begin_) hn hfar.1 hfar.2))
    exact ⟨t, ht, fun _ _ h => absurd hfar h, fun h => absurd h hn, fun _ _ _ => hport⟩
  · have hread := hf.trans (regReport_reads (s := s.begin_) hn hfar)
    have htx : (readWords (leAt q.payload 8 1) (leAt q.payload 0 8) s.begin_).2.sport.tx.length = 4 :=
      sized_tx ((begin_sizes s).then (readWords_sizes _ _ _) hsized)
    have hlen := readWords_length (leAt q.payload 8 1) (leAt q.payload 0 8) s.begin_
    generalize readWords (leAt q.payload 8 1) (leAt q.payload 0 8) s.begin_ = r at hread htx hlen ⊢
    obtain ⟨hans, last, tx, out, phy, -, hshape⟩ := respond_answers (q := q) 0 r.1 htx
    have hexec := serve_own (f := fun p => sized 9 (regReport p) p) {} hq hserved hread
    rw [hcmd, ← exec_readReg] at hexec
    refine ⟨_, hexec, fun _ _ _ => ⟨hans, hlen, ?_, ?_⟩, fun h => absurd h hn, fun _ _ h => absurd h hfar⟩
    · exact (congrArg State.regs hshape :)
    · exact (congrArg State.mbox hshape :)

theorem writeReg_short (hcmd : q.cmd = 0x07) (hp : q.payload.length < 12 ∨ q.payload.length % 4 ≠ 0) :
    ∃ t, exec .writeReg s = .next t ∧ State.answered q stBadLen [] t ∧ State.portOnly s t := by
  have hf : regStore q.payload s.begin_ = refuse stBadLen s.begin_ := if_pos (by simpa using hp)
  rw [exec_writeReg, ← hcmd, serve_own _ hq hserved hf]
  exact refused_ends _ q stBadLen hsized

theorem writeReg_answers (hcmd : q.cmd = 0x07) (hp : q.payload.length = 12) :
    ∃ t, exec .writeReg s = .next t ∧
      let a := leAt q.payload 0 8
      (s.inWay = true → aonBlock a = false → State.answered q stBadState [] t ∧ State.portOnly s t) ∧
      (s.inWay = false ∨ aonBlock a = true → State.answered q stOk [] t ∧
        ∃ u, exec (.registerWrite iniPort a (BitVec.ofNat 32 (leAt q.payload 8 4))) s = .next u ∧
          { t with sport := u.sport, out := u.out, phy := u.phy.still t.phy } = u) := by
  have hf := regStore_one hp s.begin_
  rw [show s.begin_.inWay = s.inWay from rfl] at hf
  dsimp only
  generalize leAt q.payload 0 8 = a at hf ⊢
  by_cases hfar : s.inWay = true ∧ aonBlock a = false
  · rw [if_pos (by simpa using hfar)] at hf
    rw [exec_writeReg, ← hcmd, serve_own _ hq hserved hf]
    obtain ⟨t, ht, hport⟩ := refused_ends { tb := true } q stBadState hsized
    refine ⟨t, ht, fun _ _ => hport, fun h => ?_⟩
    exact h.elim (fun hway => absurd (hway.symm.trans hfar.1) Bool.false_ne_true)
      fun hserves => absurd (hfar.2.symm.trans hserves) Bool.false_ne_true
  · rw [if_neg (by simpa using hfar)] at hf
    rw [exec_writeReg, ← hcmd, serve_own _ hq hserved hf]
    have hx : ∀ b : Bus, busWrite iniPort a (word (leAt q.payload 8 4)) s.begin_ = b → exec (.registerWrite iniPort a
        (BitVec.ofNat 32 (leAt q.payload 8 4))) s = doneBus s b := fun b hb => congrArg (doneBus s) hb
    have htx : (busWrite iniPort a (word (leAt q.payload 8 4)) s.begin_).st.sport.tx.length = 4 :=
      sized_tx ((begin_sizes s).then (busWrite_sizes _ _ _ _) hsized)
    generalize busWrite iniPort a (word (leAt q.payload 8 4)) s.begin_ = b at hx htx ⊢
    obtain ⟨hans, last, tx, out, phy, hphy, hshape⟩ := respond_answers (q := q) 0 [] htx
    refine ⟨_, rfl, fun h1 h2 => absurd ⟨h1, h2⟩ hfar, fun _ => ⟨hans, _, hx b rfl, ?_⟩⟩
    dsimp only
    rw [hshape]
    have hstill : b.st.phy.still phy = b.st.phy := by rw [Phy.still, hphy]
    dsimp only
    rw [hstill]

end

/-- Settles O52. A command that is not its own ends at once (`serve_other`); one that it cannot execute is refused
(`serve_refuses`); and each other command answers what its function replies. -/
theorem stewardReportsAndReachesRegisters : Obligations.StewardReportsAndReachesRegisters := by
  unfold Obligations.StewardReportsAndReachesRegisters
  refine ⟨fun s c k hc hother => ?_, fun s c k q hc hq hk hsized => ?_, fun s q hq hserved hsized _ => ?_⟩
  · obtain ⟨sc, f, hserve⟩ := exec_portCode hc
    rw [hserve.exec_eq, serve_other sc f hother]
    exact done_begin s
  · obtain ⟨sc, f, hserve⟩ := exec_portCode hc
    subst hk
    rw [hserve.exec_eq]
    exact serve_refuses sc hq hsized (hserve.refuses _ _)
  · exact ⟨getInfo_answers hq hserved hsized, getMuster_answers hq hserved hsized, getDefectMap_answers hq hserved hsized,
      getFaultLog_answers hq hserved hsized, getLogbook_answers hq hserved hsized, readReg_answers hq hserved hsized,
      writeReg_answers hq hserved hsized, writeReg_short hq hserved hsized⟩

end Sys2Proof.Machine
